-- ==== Sys2Proof/Word.lean ====
section
/-! DEFINITION. The words of the part: 32-bit registers (R4) and bytes (R12). Numbers that the manual adds, rounds or
compares without wrapping are `Nat` or `Int`; a register's contents and a byte are bit vectors. -/

namespace Sys2Proof

/-- One 32-bit register or memory word (R4). -/
abbrev Word := BitVec 32

/-- One byte of a parcel, an image, a record or a memory (R12). -/
abbrev Byte := BitVec 8

end Sys2Proof
end

