-- ==== Sys2Proof/Syntax.lean ====
section
/-! DEFINITION. The commands of the block: one constructor per row of spec/opcode_table.json, in the table's order, and
the operands they carry. A command is an operation or an event of the part. Its operands say which instance it concerns
and carry what the part takes from outside the model: the bytes of a frame, the levels of a pin, and the outcomes of
measurements and of analogue or signal-domain work. -/

namespace Sys2Proof

/-- A symbol of the air grid: frame, slot and symbol (R14, R15). -/
structure AirSym where
  sfn : Fin 1024
  slot : Fin 20
  sym : Fin 14
  deriving DecidableEq, Repr

/-- The kinds of turnaround (R33): at a pattern D/U boundary, around a kite window (R463), and around the reciprocity burst
of one quad (R342). -/
inductive Turn where
  | pattern | kite | burst (q : Fin 16)
  deriving DecidableEq, Repr

/-- The two link ports. -/
inductive Port where
  | up | dn
  deriving DecidableEq, Repr

/-- The four PLLs, in the order of SYN_UNLOCK_CNT (R109). -/
inductive Pll where
  | gpll | tpll | cpll | lpll
  deriving DecidableEq, Repr

/-- The number that a PLL has in registers and events. -/
def Pll.idx : Pll → Fin 4
  | .gpll => 0
  | .tpll => 1
  | .cpll => 2
  | .lpll => 3

/-- The number of a port: 0 UP, 1 DN. -/
def Port.idx : Port → Fin 2
  | .up => 0
  | .dn => 1

/-- The other port. -/
def Port.other : Port → Port
  | .up => .dn
  | .dn => .up

/-- A 66-bit word of a lane in clear (R358): its header and payload, and of a received one whether a stuffing error lies in it. -/
structure LaneWord where
  head : BitVec 2
  pay : BitVec 64
  bad : Bool := false
  deriving DecidableEq, Repr

/-- A received word set (R366, R368): a word of each logical lane, and whether a deskew buffer has overflowed at the last MARKER. -/
structure WordSet where
  words : List LaneWord
  overflow : Bool := false
  deriving DecidableEq, Repr

/-- The instant of an eyelet or of a fit (R440, R478) in 2^−16 of a timing tick. The counter at it is the machine's. -/
structure Stamp where
  tick : Nat
  deriving DecidableEq, Repr

/-- One reading of the thermal scanner (R539, R540): of a remote diode its voltages in µV at 10 µA and at 160 µA; of a thermistor its divider ratio in Q0.16; of a die sensor whether its self-check passed, and the
reading. Readings are s16 in 0.0625 °C. -/
inductive Reading where
  | diode (k : Fin 16) (v10 v160 : Nat)
  | thermistor (k : Fin 4) (ratio : BitVec 16)
  | die (k : Fin 8) (ok : Bool) (t : BitVec 16)
  deriving DecidableEq, Repr

/-- What a calibration of one path gives (R65, R85, R88, R89, R71, R162): the measured errors of the 63 unary and 4 ballast
cells of the I and the Q DAC in 0.01 LSB, bandwidth codes, offsets and conjugate taps of both sides; of each side the powers of the eight test tones
and of their images, and the powers of a 0 dBFS tone and of the LO component, each pair in one unit; and the response at each gain index, in any
unit. A step of the start-up pass gives a part of it. -/
structure PathCal where
  cells : Option (Vector Int 67 × Vector Int 67)
  bw : Option (BitVec 6 × BitVec 6)
  ofs : Option (BitVec 24 × BitVec 24)
  taps : Option (Vector Word 4 × Vector Word 4)
  txRej : Option (Vector (Nat × Nat) 8)
  loLeak : Option (Nat × Nat)
  rxRej : Option (Vector (Nat × Nat) 8)
  steps : Option (Vector (Int × Int) 32)
  deriving DecidableEq, Repr

/-- A complex value at each of the nine tones of R133. -/
abbrev Tones : Type := Vector (Int × Int) 9

/-- What an array calibration measures (R71, R133, R341): the response of each path's side at the tones, in any unit; after all trims apply
the residual phases in 360°/65 536; and, of the receive paths of which it has measured them, the responses at the gain indices. -/
structure ArrayCal where
  tx : Vector Tones 64
  rx : Vector Tones 64
  txRes : Vector (Vector (BitVec 16) 9) 64
  rxRes : Vector (Vector (BitVec 16) 9) 64
  steps : Vector (Option (Vector (Int × Int) 32)) 64
  deriving DecidableEq, Repr

/-- One reciprocity measurement (R342, R343): path `i` transmits and path `j` receives, numbered 64 · position + path over a cascade. -/
structure PairMeas where
  i : Fin 256
  j : Fin 256
  y : Tones
  deriving DecidableEq, Repr

/-- What a calibration step completes with: nothing yet, the results of a path, the measurements of an array calibration or of a reciprocity
calibration, the reference tone's gain (0.01 dB) and phase (0.01°) at each observation receiver, or the end of a step of the start-up pass or
of an item of the background cycle. -/
inductive CalResult where
  | part
  | path (p : Fin 64) (r : PathCal)
  | array (a : ArrayCal)
  | recip (y : List PairMeas)
  | obs (m : Vector (Int × Int) 9)
  | itemEnd
  deriving DecidableEq, Repr

/-- What a job ends with: nothing more, the measurements of a RECIP job, the mean squares
of the CAL_RF tone in the ADC codes of the observation receivers, or the FBn and TXOUTn powers of a COUPLER job in 0.01 dBm. -/
inductive CalEnd where
  | plain
  | recip (y : List PairMeas)
  | obsref (tone : Vector Nat 9)
  | coupler (fb tx : Int)
  deriving DecidableEq, Repr

/-- The codes of the two parts of an ADC sample, s14 (R77). -/
abbrev Adc : Type := BitVec 14 × BitVec 14

/-- The live maps that other chips have told, by position: transmit and receive sides, bit j for path j (R267). -/
abbrev LiveMaps : Type := Vector (BitVec 64 × BitVec 64) 4

/-- What strikes the unit of check code that an address lies in (R486, R491): a bit of it flips, data bits first, the most significant of the
lowest address foremost, and the code's bits behind them; or a DRAM block is read back from another block's address. -/
inductive Upset where
  | bit (n : Fin 524)
  | astray (block : BitVec 26)
  deriving DecidableEq, Repr

/-- A request that reaches a DRAM channel (R496): its class, memory address and number of bytes, what it writes, and the spool, 63 for a
requester that is none. -/
structure MemArrival where
  cls : Fin 4
  addr : BitVec 32
  n : Nat
  data : Option (List Byte)
  spool : Fin 64
  deriving DecidableEq, Repr

/-- How far a spool has come since it last stood still: bytes or elements at most, the parcels that waited meanwhile in an ingress queue that it
empties, in order, and the units of memory that upsets struck (R506, R512). -/
structure SpoolMove where
  n : Nat
  parcels : List (List Byte)
  upsets : List (Nat × Upset)
  deriving DecidableEq, Repr

/-- What a boot meets (R546, R549, R556, R557, R564, R566): the straps at the rising edge of RESET_N, of each PLL the attempt in
which it locks, the bytes that the board's own programmer has put into the flash since the boot before, whether the flash offers 8D-8D-8D, whether the flash reads of images A and B complete, of each DRAM channel whether its
training succeeds in two attempts, the LPLL's band and tuning voltage, and the reference tone at each observation receiver (R94). -/
structure BootRun where
  bootsel : Fin 4
  pos : Fin 4
  clrsel : Bool
  locks : Vector (Option (Fin 3)) 4
  flash : List (Nat × Byte)
  octal : Bool
  readA : Bool
  readB : Bool
  dram : Vector Bool 2
  band : BitVec 6
  vtune : BitVec 12
  obs : Vector (Int × Int) 9
  deriving DecidableEq, Repr

/-- The rails with a brown-out detector, VAON apart (R632). -/
inductive Rail where
  | vddCore | vddSram | vdda09 | vdda12 | vddLl | vdd2h | vddq | vdd18 | vddBias
  deriving DecidableEq, Repr

/-- What a write of management registers needs from outside: the boot that a reboot command starts, and the keeper-store rows whose
read-back fails (R567, R595). -/
structure WriteEnv where
  boot : BootRun
  bad : List Nat
  deriving DecidableEq, Repr

/-- A detector peak (R476): the beam, the lag in samples of 30.72 MS/s, the complex correlation, and the instant of the parabolic fit
(R478). -/
structure KitePeak where
  beam : Nat
  lag : Nat
  c : Int × Int
  fit : Stamp
  deriving DecidableEq, Repr

/-- The commands, one constructor per row of spec/opcode_table.json in its order. -/
inductive Instr where
  /-- At u_close before a symbol's air start, the orders and DL U-plane data for the symbol are fixed. (R46) -/
  | commitPoint (a : AirSym)
  /-- At 50 us before air start, the versions of named lasts are fixed, missing columns are gathered and inline and steering columns are formed. (R55) -/
  | weightFetchPoint (a : AirSym) (upsets : List (Nat × Upset))
  /-- At -30 us, sections with non-resident columns fall back, and precoding starts. (R203) -/
  | columnDeadline (a : AirSym) (late : List (Nat × Nat × Nat × Nat))
  /-- At -20 us, a carrier with incomplete beam matrix output is zeroed for the symbol and counted. (R151) -/
  | bmxOutputDeadline (a : AirSym) (late : BitVec 4)
  /-- At -8 us, each chip applies the smallest clamp scale it holds. (R349) -/
  | scaleApply (a : AirSym)
  /-- At -3200 ns, the welt begins: the RX gate closes, the AGC leaves frozen, and quads enter TRANSMIT. (R36) -/
  | rxTxWeltStart (t : Turn)
  /-- At -3000 ns, the RX input stages are disabled. (R36) -/
  | rxStagesDisable (t : Turn)
  /-- At -2900 ns, LNAPq rises. (R36) -/
  | lnaProtectRise (t : Turn)
  /-- At -2800 ns, TRSWq changes to transmit. (R36) -/
  | trswToTransmit (t : Turn)
  /-- At -1600 ns, bias groups bound to the TX-on edge load code_on with temperature tracking. (R524) -/
  | txOnStrobe (t : Turn) (env : Vector (Vector Int 3) 64)
  /-- At -400 ns, PAENq rises. (R36) -/
  | paEnableRise (t : Turn)
  /-- At -250 ns, the DPD bank of the first D symbol's cluster is selected and the guard takes its on-period thresholds. (R286) -/
  | dpdBankSelect (t : Turn)
  /-- At -100 ns, the DAC output is enabled at zero code. (R36) -/
  | dacOutputEnable (t : Turn)
  /-- At a D symbol's first CP sample, its beam weights, DPD bank and upconversion phase apply. (R41) -/
  | dSymbolBoundary (a : AirSym)
  /-- At the air end of the last D symbol, the TX gate closes and the DAC is held at zero code. (R35) -/
  | txRxAnchor (t : Turn)
  /-- At +100 ns, PAENq falls. (R35) -/
  | paEnableFall (t : Turn)
  /-- At +200 ns, bias groups bound to the TX-off edge load code_off. (R524) -/
  | txOffStrobe (t : Turn)
  /-- At +250 ns, DPD observation capture closes and the guard changes to its off-period watch. (R35) -/
  | captureClose (t : Turn)
  /-- At +400 ns, TRSWq changes to receive. (R35) -/
  | trswToReceive (t : Turn)
  /-- At +1500 ns, LNAPq falls. (R35) -/
  | lnaProtectRelease (t : Turn)
  /-- At +2000 ns, the RX input stages and ADC slices are enabled. (R35) -/
  | rxStagesEnable (t : Turn)
  /-- At +2400 ns, the AGC is reset to start_idx and armed, and pending AGC configuration is applied. (R80) -/
  | agcArm (t : Turn)
  /-- At +3200 ns, the welt ends, RX samples become valid and quads pass from TRANSMIT to RECEIVE. (R320) -/
  | weltEnd (t : Turn)
  /-- At the end of each 256-sample window, the AGC index steps by its peak against the thresholds. (R81) -/
  | agcWindowEnd (p : Fin 64) (a : AirSym) (adc : List Adc)
  /-- At the FFT window start of the first U symbol, the gain index freezes and is reported. (R83) -/
  | agcFreeze
  /-- At +4 us after the FFT window, a chip begins sending RETURN parcels for the U symbol. (R431) -/
  | returnSendStart (a : AirSym)
  /-- The FFT of a U symbol completes and REs go to the beam matrix and SRS REs to the solver. (R152) -/
  | fftComplete (a : AirSym) (adc : List (List Adc))
  /-- The uplink beam matrix output is complete and handed to the receiver or the bridle. (R214) -/
  | ulBmxComplete (a : AirSym)
  /-- At the head cut-off, missing chips' dimensions are taken as zero and counted. (R270) -/
  | headCutoff (a : AirSym)
  /-- Estimates, covariance and MMSE-IRC filters of an occasion are complete. (R260) -/
  | ulFiltersComplete (a : AirSym)
  /-- Equalised output of a U symbol is complete and its parcels are queued at egress. (R265) -/
  | ulOutputComplete (a : AirSym) (others : LiveMaps)
  /-- At an uplink slot boundary, the beamspace set of each PRB group is recomputed. (R255) -/
  | beamspaceSelect (sfn : Fin 1024) (slot : Fin 20)
  /-- At the end of an occasion, PRACH peaks are detected and reported. (R275) -/
  | prachDetect (c : Fin 4) (a : AirSym) (id : BitVec 12) (clip live : Nat) (others : LiveMaps)
  /-- At a frame boundary, the NCO phases restart and frame-aligned work is done. (R153) -/
  | frameBoundary
  /-- The LPLL settles 80 us after the retune boundary and blanking ends. (R136) -/
  | retuneSettled (band : BitVec 6) (vtune : BitVec 12)
  /-- A write of SYN_RETUNE requests an LO retune, which is checked and may be refused. (R137) -/
  | retuneWrite (w : Word)
  /-- A write of DFE_CAR_OFS requests a new carrier offset. (R143) -/
  | offsetWrite (c : Fin 4) (w : Word)
  /-- A write of TXP_ATTEN takes effect within 1 us or waits for the next RX-to-TX welt. (R69) -/
  | attenWrite (p : Fin 64) (w : Word)
  /-- Every 16 us, each ADC slice is checked against the others. (R72) -/
  | sliceCheck (p : Fin 64) (fails : BitVec 9)
  /-- The ballast slice takes the failed slice's place in the interleave. (R73) -/
  | sliceSwap (p : Fin 64)
  /-- A management write of RXP_OBS_ROUTE requests a capture, which is granted or refused. (R92) -/
  | obsRouteWrite (k : Fin 9) (w : Word)
  /-- A write of TXP_RETIRE_CMD retires named transmit sides with cause HOST. (R97) -/
  | txRetireCmd (hi : Bool) (w : Word)
  /-- A write of RXP_RETIRE_CMD retires named receive sides with cause HOST. (R97) -/
  | rxRetireCmd (hi : Bool) (w : Word)
  /-- A write of TXP_REINSTATE reinstates or refuses each named transmit side. (R103) -/
  | txReinstate (hi : Bool) (w : Word)
  /-- A write of RXP_REINSTATE reinstates or refuses each named receive side. (R103) -/
  | rxReinstate (hi : Bool) (w : Word)
  /-- REFCLK is declared lost for a missing edge or bad frequency, and PLLs enter holdover. (R108) -/
  | refclkLoss (freq : Bool)
  /-- REFCLK is declared present after 1 ms of valid edges and relock attempts start. (R108) -/
  | refclkRestore
  /-- A PLL is declared unlocked, blanking begins and relock attempts start. (R112) -/
  | pllUnlock (p : Pll)
  /-- A PLL is declared locked, ending a relock attempt; transmission resumes 2 us later. (R115) -/
  | pllLock (p : Pll) (band : BitVec 6) (vtune : BitVec 12)
  /-- A relock attempt ends without lock and the next attempt starts. (R114) -/
  | relockAttemptTimeout (p : Pll)
  /-- 100 ms after an exhausted sequence, a new relock sequence starts. (R116) -/
  | relockSequenceRestart (p : Pll)
  /-- Every 1 ms, the root monitor measures each leaf's arrival delay and drift. (R120) -/
  | leafMeasure (q : Fin 17) (roundTrip : Nat)
  /-- An eligible window begins and the due clock items run in order. (R131) -/
  | eligibleWindowStart
  /-- A re-centring completes and later items in the window may run. (R127) -/
  | recentreComplete (band : BitVec 6) (vtune : BitVec 12)
  /-- A re-centring that waited over 20 ms is counted late once. (R128) -/
  | recentreLate
  /-- A write of SYN_ALIGN.arm arms ALIGN_IN capture, or is refused outside READY. (R123) -/
  | synAlignArm
  /-- A write of TIM_EPOCH_CTRL.arm latches the epoch and arms the compare, or is refused. (R450) -/
  | epochArm
  /-- The counter passes epoch_ns and the next REFCLK edge becomes the alignment edge. (R450) -/
  | epochCompareFire
  /-- At the alignment edge, the dividers are aligned and the air timeline is placed at epoch_sfn. (R452) -/
  | alignmentEdge (low : Nat)
  /-- A write of go to BMX_LAST_OPEN requests a management write grant of a last. (R189) -/
  | lastOpen (w : Word)
  /-- A held write grant is made when the outstanding fetch from its bank completes. (R187) -/
  | lastGrant
  /-- A management commit makes the written bank current and increments the version. (R188) -/
  | lastCommit
  /-- A write of abort ends the management write of a last without a commit. (R189) -/
  | lastAbort
  /-- A waiting column is placed in the cache once a column can be displaced. (R193) -/
  | cachePlacement
  /-- At each slot boundary, the inline-weight byte sum of each port restarts. (R198) -/
  | inlineIntervalStart
  /-- At its anchor, a solve requests the write grant of its last, or is dropped. (R219) -/
  | solveAnchor
  /-- On a single chip, the last column is written and the solve commits. (R237) -/
  | solveLastWritten (c : Fin 4) (tag : BitVec 8) (upsets : List (Nat × Upset))
  /-- A chip forms its Gram block for a group; the far-end chip sends it at once. (R239) -/
  | gramBlockFormed (c : Fin 4) (tag g : BitVec 8)
  /-- A GRAM parcel arrives; each block is summed with the chip's own and forwarded, or discarded as late. (R239) -/
  | gramParcelReceive (p : Port)
  /-- At +190 us, a chip forwards its own Gram blocks for groups with no downstream block. (R240) -/
  | gramForwardTimeout (c : Fin 4) (tag : BitVec 8)
  /-- At +220 us, the head solves each group and sends inverse blocks. (R242) -/
  | gramCutoff (c : Fin 4) (tag : BitVec 8)
  /-- An INVERSE parcel arrives; the chip forwards it and forms its rows. (R243) -/
  | inverseParcelReceive (p : Port)
  /-- At +480 us, a chip that is not ready sends a joint abort and does not commit. (R245) -/
  | jointReadinessCheck (c : Fin 4) (tag : BitVec 8) (upsets : List (Nat × Upset))
  /-- A joint-abort parcel arrives and the chip forwards it and does not commit. (R245) -/
  | jointAbortReceive (p : Port)
  /-- At +500 us, every ready chip commits the cascade solve. (R244) -/
  | jointCommit (c : Fin 4) (tag : BitVec 8)
  /-- A chip sends its channel estimate records for a solve with export set. (R246) -/
  | estimateExport (c : Fin 4) (tag : BitVec 8) (others : LiveMaps)
  /-- A DPD capture starts 1 us after a qualifying symbol's body start. (R293) -/
  | dpdCaptureStart (l : Fin 8)
  /-- A capture ends and is aligned to compute its error and nmse. (R296) -/
  | dpdCaptureEnd (l : Fin 8) (o : List Adc)
  /-- The bank update from a capture is computed and written to the shadow table. (R297) -/
  | dpdUpdateReady (p : Fin 64) (b : Fin 8)
  /-- A free logical receiver takes the next pair of the visit list and routes its FB input. (R291) -/
  | visitStart (l : Fin 8)
  /-- A visit ends after visit_ms. (R292) -/
  | visitEnd (l : Fin 8)
  /-- A visit ends early after idle_ms with no capture. (R292) -/
  | visitIdleEnd (l : Fin 8)
  /-- A bank becomes inactive when no D symbol used its cluster in the last 1 s. (R290) -/
  | bankActivityExpire (b : Fin 8)
  /-- A write of freeze in DPD_CTRL stops or resumes updates of the path's banks. (R300) -/
  | dpdFreeze (p : Fin 64) (b : Bool)
  /-- A write of unfreeze moves every FROZEN bank of the path to ACQUIRE. (R298) -/
  | dpdUnfreeze (p : Fin 64)
  /-- A write of reset_bank loads named banks with their seeds, only in READY. (R300) -/
  | dpdResetBank (p : Fin 64) (mask : BitVec 8)
  /-- A forward detector trip in the on period mutes the path within 100 ns. (R305) -/
  | guardTripForward (p : Fin 64) (env : Vector Int 3)
  /-- A reflected detector trip mutes all four paths of the quad. (R306) -/
  | guardTripReflected (q : Fin 16) (env : Vector Int 3)
  /-- An off-period trip clears the path's gate bias. (R308) -/
  | guardTripOffPeriod (p : Fin 64) (env : Vector Int 3)
  /-- A recorded trip leaves the 1 s window and DPD_TRIP_WIN falls. (R311) -/
  | tripWindowExpire
  /-- A write of DPD_GUARD_TEST injects a test trip in READY, or is refused. (R314) -/
  | guardTest (w : Word)
  /-- A quad completes power-up and enters STANDBY or RECEIVE. (R320) -/
  | quadRisingComplete (q : Fin 16)
  /-- A quad completes power-down and enters GATED, then runs any deferred power-up. (R320) -/
  | quadFallingComplete (q : Fin 16)
  /-- A write of SEQ_LEAN, or an order's lean field, requests a set change. (R326) -/
  | setChangeRequest (w : Word)
  /-- At A - 16 us, leaving quads enter FALLING and joining quads enter RISING. (R326) -/
  | setChangeStart
  /-- At anchor A, the set change and carrier mask take effect. (R326) -/
  | setChangeAnchor
  /-- A write of go to SEQ_CAL_REQ starts an on-request job, or is refused. (R336) -/
  | calJobRequest (w : Word)
  /-- A write of abort aborts the running job and discards unapplied results. (R338) -/
  | calJobAbort
  /-- A CAL or OPEN window begins and calibration steps run in it. (R334) -/
  | calWindowStart (m : Vector (Int × Int) 9)
  /-- A calibration step completes and a path's results take effect together. (R87) -/
  | calStepComplete (r : CalResult)
  /-- A quad transmits reciprocity tones over a CAL group while others record. (R342) -/
  | recipBurst (q : Fin 64) (ys : List PairMeas)
  /-- A calibration job ends and its quads return to their states. (R339) -/
  | calJobEnd (e : CalEnd)
  /-- A write of the meter power to SEQ_PA_REF computes the coupling and PA gain. (R345) -/
  | paRefWrite (w : Word)
  /-- The receiver locks to the partner's tether and the port moves to FRAME. (R377) -/
  | tetherLock (p : Port)
  /-- A training frame is received and its requests, status and phase are acted on. (R373) -/
  | trainingFrame (p : Port) (l : Fin 9) (half : Vector Bool 272)
  /-- A training phase reaches 2 ms, continuing or failing the attempt. (R379) -/
  | phaseTimeout (p : Port)
  /-- After 10 ms of BACKOFF, the next attempt starts. (R371) -/
  | backoffEnd (p : Port)
  /-- Every 1 ms in LISTEN, lane 0 sends a BEACON frame. (R380) -/
  | listenBeacon (p : Port)
  /-- After 4096 counted words, the transmitter sends SKIPs and the next MARKER. (R364) -/
  | markerSend (p : Port) (gaps : List Nat)
  /-- A MARKER is received and lanes are aligned by block count. (R366) -/
  | markerReceive (p : Port) (l : Fin 9) (bits : List Bool)
  /-- A READY message is received and ALIGN may exit to UP. (R383) -/
  | bchReady (p : Port) (copies : List (Vector Byte 8))
  /-- A lane is declared failed and a takeover or width drop starts. (R384) -/
  | laneFail (p : Port) (l : Fin 9) (los : Bool)
  /-- A REMAP message is received and echoed with REMAP_ACK. (R385) -/
  | bchRemap (p : Port) (copies : List (Vector Byte 8))
  /-- A REMAP_ACK is received and the remap is confirmed. (R385) -/
  | bchRemapAck (p : Port) (copies : List (Vector Byte 8))
  /-- A REMAP unacknowledged for 50 us is resent, or the port goes down after three. (R385) -/
  | remapTimeout (p : Port)
  /-- At the switch block's MARKER, the logical lane moves to the ballast or spare lane. (R385) -/
  | laneSwitch (p : Port) (rx : Bool)
  /-- The tether receiver loses lock for 1 us and the port goes down. (R387) -/
  | tetherLoss (p : Port)
  /-- A RETRAIN message from the partner takes the port down. (R387) -/
  | bchRetrain (p : Port) (copies : List (Vector Byte 8))
  /-- A write of retrain in LNx_CTRL takes the port down to retrain. (R387) -/
  | retrainWrite (p : Port)
  /-- After doze_idle of IDLE sets, the transmitter sends SLEEP and enters DOZE. (R390) -/
  | dozeEntry (p : Port) (waking : Bool) (gaps : List Nat)
  /-- After a further nap_idle, the direction enters NAP and stops its tether. (R390) -/
  | napEntry (p : Port)
  /-- A parcel or BCH message wakes a sleeping direction with a new MARKER. (R390) -/
  | linkWake (p : Port) (during : Bool)
  /-- A receiver accepts electrical idle after a SLEEP set as sleep. (R391) -/
  | sleepReceive (p : Port) (last : Vector (List LaneWord) 9) (nap : Bool)
  /-- The eye monitor refreshes a lane's eye figures. (R376) -/
  | eyeRefresh (p : Port) (l : Fin 9) (w : BitVec 8) (h : BitVec 16)
  /-- A write of go to LNx_TEST_CFG sends TEST, or is ignored. (R393) -/
  | testStart (p : Port) (w : Word)
  /-- A TEST message is received and both sides enter TEST at the second MARKER. (R393) -/
  | bchTest (p : Port) (copies : List (Vector Byte 8))
  /-- After test_ms, both sides leave TEST for ALIGN. (R393) -/
  | testEnd (p : Port) (bits : Vector (List Bool) 9)
  /-- A write of inject inverts one bit or a burst on a transmit lane. (R395) -/
  | errorInject (p : Port) (w : Word)
  /-- A parcel is received and checked for header, form and trailer. (R400) -/
  | parcelReceive (p : Port) (lanes : Vector (List LaneWord) 9) (sop : Stamp) (upsets : List (Nat × Upset))
  /-- The transmitter sends the next parcel from the highest-priority queue with credit. (R403) -/
  | parcelTransmit (p : Port) (egr : Stamp)
  /-- A parcel that exceeds its queue's age limit is dropped and counted. (R404) -/
  | ageLimitDrop (p : Port) (q : Fin 8)
  /-- The receiver grants freed credits with a CREDIT message. (R405) -/
  | creditGrant (p : Port) (q : Fin 8)
  /-- A CREDIT message raises the credits held for a queue. (R405) -/
  | bchCredit (p : Port) (copies : List (Vector Byte 8))
  /-- An ACK releases acknowledged copies of a reliable queue. (R407) -/
  | bchAck (p : Port) (copies : List (Vector Byte 8))
  /-- A NACK makes the transmitter resend every unacknowledged parcel. (R408) -/
  | bchNack (p : Port) (copies : List (Vector Byte 8))
  /-- A RESYNC sets the expected sequence and counts the gap as lost. (R409) -/
  | bchResync (p : Port) (copies : List (Vector Byte 8))
  /-- The oldest unacknowledged parcel times out and all unacknowledged are resent. (R408) -/
  | retxTimeout (p : Port) (q : Fin 8)
  /-- An M-plane READ request is checked, performed and replied to. (R420) -/
  | mRead (src : Fin 8)
  /-- An M-plane WRITE request is checked against the lease and performed. (R421) -/
  | mWrite (src : Fin 8) (e : WriteEnv)
  /-- An M-plane MEM_READ of memory is checked and performed. (R484) -/
  | mMemRead (src : Fin 8) (upsets : List (Nat × Upset))
  /-- An M-plane MEM_WRITE of memory is checked against region rules and performed. (R487) -/
  | mMemWrite (src : Fin 8) (upsets : List (Nat × Upset))
  /-- A LEASE_REQ is granted, taken over or refused by priority. (R421) -/
  | mLeaseReq (src : Fin 8)
  /-- A LEASE_REL by the holder frees the lease. (R421) -/
  | mLeaseRel (src : Fin 8)
  /-- The lease lapses 2 s after the holder's last write or request. (R421) -/
  | leaseLapse
  /-- An owning port down for 200 us moves the carrier's end in force. (R418) -/
  | ownerPortTimeout (c : Fin 4)
  /-- A write of move to PKT_OWN moves the end in force. (R418) -/
  | ownerMoveWrite (c : Fin 4)
  /-- A write of TIM_INCR_CTL applies the increment, or refuses it. (R435) -/
  | timIncrWrite (w : Word)
  /-- A write of go to TIM_ADJ_CTL adds a step to the counter at the next tick. (R436) -/
  | timAdjStep
  /-- A read of TIM_NS latches the fraction into TIM_NS_FRAC. (R438) -/
  | timNsRead
  /-- A two-step Sync pending entry expires after 10 ms. (R447) -/
  | pendingEntryExpire
  /-- A write of go to TIM_DREQ_CTL sends a Delay_Req, or is refused. (R449) -/
  | delayReqSend (w : Word)
  /-- A write of valid to TIM_QUAL marks time valid, or is refused. (R458) -/
  | timeValidWrite
  /-- A kite window begins and the chip takes its role. (R462) -/
  | kiteWindowStart (a : AirSym)
  /-- 100 us before a transmit window, the beacon payload is fixed. (R472) -/
  | kitePayloadFix (a : AirSym)
  /-- A listen interval begins and kite control of the gain starts. (R474) -/
  | listenIntervalStart (a : AirSym)
  /-- A listen interval ends, truncating any reception and restoring slot-edge AGC. (R477) -/
  | listenIntervalEnd (adc : Vector (List Adc) 64)
  /-- A detector peak starts, replaces or is ignored for a candidate or reception. (R477) -/
  | kitePeak (b : Fin 64) (lag : Nat) (adc : Vector (List Adc) 64)
  /-- A confirmation peak enters RECEIVE and freezes the index. (R477) -/
  | kiteConfirm (b : Fin 64) (lag : Nat) (adc : Vector (List Adc) 64) (snr : BitVec 8) (power : BitVec 16)
  /-- The confirmation position passes without a confirmation and the detector returns to SEARCH. (R477) -/
  | kiteConfirmMissed
  /-- The last data symbol is received and the beacon is decoded and reported. (R479) -/
  | kiteDataEnd (adc : Vector (List Adc) 64)
  /-- A DRAM channel serves a request by class, row hit and age. (R496) -/
  | dramRequest (c : Fin 2) (arrivals : List MemArrival) (upsets : List (Nat × Upset))
  /-- A request that waited past age_limit is treated as class 0. (R496) -/
  | agePromotion (c : Fin 2)
  /-- Every 16 us, the device's refresh-rate indication is read. (R499) -/
  | refreshRateRead (c : Fin 2) (rate : BitVec 8)
  /-- A per-bank refresh falls due, is postponed or forced. (R499) -/
  | refreshDue (c rank : Fin 2) (bank : Fin 16)
  /-- Every retrain_ms, the WCK-to-DQ oscillator is read and drift judged. (R500) -/
  | retrainOscRead (c : Fin 2) (drift : Vector (BitVec 8) 2)
  /-- A retrain step runs in an OPEN symbol, or at once when forced. (R500) -/
  | retrainStep (c : Fin 2)
  /-- A background scrub read corrects a block and counts completed passes. (R501) -/
  | scrubRead (upsets : List (Nat × Upset))
  /-- A rank idle for pd_timer enters power-down. (R502) -/
  | rankPowerDown (c rank : Fin 2)
  /-- A write of SPL_HEAD adds descriptors to the ring, or is refused. (R505) -/
  | spoolHeadWrite (sp : Fin 32) (w : Word)
  /-- A spool fetches and checks a descriptor before its first beat. (R508) -/
  | descriptorStart (sp : Fin 32) (eng : Vector Byte 32) (cut : Option (Fin 32)) (upsets : List (Nat × Upset))
  /-- A descriptor completes, its status is written and tail advances. (R519) -/
  | descriptorComplete (sp : Fin 32) (m : SpoolMove)
  /-- Setting pause stops new reads of a spool. (R514) -/
  | spoolPause (sp : Fin 32)
  /-- A paused or aborted spool has written its read beats and enters PAUSED or HALTED. (R514) -/
  | spoolDrained (sp : Fin 32) (m : SpoolMove)
  /-- Clearing pause resumes the spool from its exact position. (R514) -/
  | spoolResume (sp : Fin 32)
  /-- A write of abort stops the spool and completes its descriptor as ABORTED_HOST. (R515) -/
  | spoolAbort (sp : Fin 32)
  /-- A write of restart takes the spool out of HALTED. (R515) -/
  | spoolRestart (sp : Fin 32)
  /-- A write of SPL_PACE sets the pacing marks, or is refused. (R512) -/
  | spoolPaceWrite (sp : Fin 32) (w : Word)
  /-- A queue fill or wait reaches the mark that starts a paced spool. (R512) -/
  | pacingStart (sp : Fin 32) (fill waited : Nat) (cut : Option (Fin 32))
  /-- A queue fill reaches the mark that stops a paced spool. (R512) -/
  | pacingStop (sp : Fin 32) (m : SpoolMove)
  /-- A domain power-down request stops a spool's reads and waits for its beats. (R516) -/
  | spoolPowerWait (sp : Fin 32)
  /-- After 2 us, the spool is paused or aborted for power, and the domain powers down. (R516) -/
  | spoolPowerTimeout (sp : Fin 32) (m : SpoolMove) (left : Bool)
  /-- A spool in PAUSED_POWER resumes when its domains are powered again. (R517) -/
  | spoolPowerResume (sp : Fin 32)
  /-- Every 1 us, the oldest queued bias code becomes the target. (R523) -/
  | queueTick
  /-- A write of BIA_QUEUE appends a code, or is discarded. (R523) -/
  | biaQueueWrite (c : Fin 80) (w : Word)
  /-- A write of BIA_STROBE loads code_on or code_off in the named groups. (R524) -/
  | biaStrobeWrite (w : Word)
  /-- BIAS_CLR_N seen low after its filter clears every bias channel. (R529) -/
  | biasClrAssert
  /-- BIAS_CLR_N seen high after its filter releases the pin clear. (R529) -/
  | biasClrRelease
  /-- A write of en in BIA_CH_CFG powers a channel up or down. (R530) -/
  | biaPowerWrite (c : Fin 80) (en : Bool)
  /-- A channel completes its power transition and runs any deferred one. (R530) -/
  | biaPowerComplete (c : Fin 80)
  /-- A timer or TX-edge trigger starts a sequencer pass, or is an overrun. (R534) -/
  | hkaPassStart
  /-- A conversion ends and the averaged, corrected result is written. (R533) -/
  | hkaConversionEnd (code : BitVec 12)
  /-- A write of go to HKA_ONESHOT makes an urgent conversion request. (R536) -/
  | hkaOneshot (w : Word)
  /-- A write of go to HKA_CAL_CTL starts housekeeping calibration, or fails. (R538) -/
  | hkaCalStart (w : Word)
  /-- Housekeeping calibration completes and its results are stored. (R538) -/
  | hkaCalEnd (sum50 sum49 : BitVec 22) (gainRes ofsRes : BitVec 16)
  /-- A sensor reading is taken in the 2 ms scan cycle. (R539) -/
  | thermalScan (r : Reading)
  /-- RESET_N low for 10 us resets the chip and sets safe output levels. (R548) -/
  | resetAssert (clrsel : Bool)
  /-- RESET_N release latches the straps and runs the boot sequence. (R564) -/
  | resetRelease (r : BootRun)
  /-- The go_live command requests the full set and fixes the go-live anchor, or is refused. (R569) -/
  | goLive
  /-- The stand_down command gates every quad and returns the mode to READY at the anchor. (R569) -/
  | standDown
  /-- The recover command leaves SAFE for READY when no cause is active. (R573) -/
  | recover
  /-- After cool_s with TEMP inactive, the chip leaves SAFE by itself. (R573) -/
  | autoRecover
  /-- The shelve command freezes the black box and lowers PWR_REQ to enter SHELF. (R575) -/
  | shelve (bad : List Nat)
  /-- The reboot command returns the chip to BOOT. (R567) -/
  | reboot (r : BootRun)
  /-- SAFE_N low after its filter enters SAFE. (R572) -/
  | safeNAssert
  /-- SAFE_N high clears the PIN cause. (R572) -/
  | safeNRelease
  /-- PGOOD0 or PGOOD1 low for 10 us enters SAFE with cause SUPPLY. (R572) -/
  | pgoodLow (k : Fin 2)
  /-- A missing keeper heartbeat for 100 ms restarts the keeper and enters SAFE. (R572) -/
  | watchdogExpire (bad : List Nat)
  /-- Every 60 s, the running image is reread and its digest compared. (R560) -/
  | integrityCheck (upsets : List (Nat × Byte))
  /-- WAKE high for 1 ms raises PWR_REQ, or is held while shelving. (R575) -/
  | wakeRise (r : BootRun)
  /-- PGOOD not high within 100 ms lowers PWR_REQ and latches wake_fail. (R575) -/
  | wakeFail
  /-- A rail below its brown-out level for 1 us takes the chip to SHELF. (R632) -/
  | supplyLoss (rail : Rail) (rows : Nat)
  /-- VAON below its brown-out level resets PD_AON. (R632) -/
  | vaonBrownout (rows : Nat)
  /-- The VDD_18 early warning saves the lifetime counters and a snapshot, then lowers PWR_REQ. (R592) -/
  | earlyWarning (rows : Nat) (bad : List Nat)
  /-- A flash erase request is checked and started, or refused. (R561) -/
  | flashErase
  /-- A flash program request is checked and started, or refused. (R561) -/
  | flashProgram
  /-- A flash operation completes and busy clears. (R561) -/
  | flashOpComplete (ok : Bool)
  /-- A write of KPR_KEY_REVOKE permanently revokes key slots in READY. (R556) -/
  | keyRevoke (slots : BitVec 4)
  /-- A write of new draws a fresh unlock challenge, or is refused. (R579) -/
  | unlockNew
  /-- A write of check verifies the response and unlocks or counts a failure. (R579) -/
  | unlockCheck
  /-- A service port READ frame reads registers. (R577) -/
  | svcRead (a : Word) (n : Nat)
  /-- A service port WRITE frame writes registers under the lease. (R577) -/
  | svcWrite (a : Word) (bytes : List Byte) (e : WriteEnv)
  /-- A service port STATUS frame returns the previous operation's status. (R577) -/
  | svcStatus
  /-- A service port LEASE_REQ frame requests the lease. (R577) -/
  | svcLeaseReq
  /-- A service port LEASE_REL frame releases the lease. (R577) -/
  | svcLeaseRel
  /-- A waiting event is recorded in the black box, trouble log and alarm parcel. (R581) -/
  | eventRecord (bad : List Nat)
  /-- A write of freeze to KPR_BB_CTL freezes the black box. (R588) -/
  | bbFreezeWrite (bad : List Nat)
  /-- A snapshot's header row is written and a waiting freeze is taken. (R590) -/
  | snapshotComplete (bad : List Nat)
  /-- A write of free to KPR_BB_CTL marks snapshot slots free, or is refused. (R594) -/
  | bbFreeWrite (mask : BitVec 8) (bad : List Nat)
  /-- Each second, the lifetime time counters advance. (R596) -/
  | lifetimeSecond
  /-- Every 60 s, the lifetime counters are saved to the alternate copy. (R596) -/
  | lifetimeSave (bad : List Nat)
  /-- A write of 1 to latched clears the fault latch. (R598) -/
  | faultClearWrite
  /-- A write of clr clears every counter of the block. (R612) -/
  | cntClrWrite (b : Fin 20)
  /-- A read of BLK_STAT_SUM returns and clears its rc fields. (R614) -/
  | statSumRead (b : Fin 20)
  /-- A write to a register with no row of its own updates its writable fields. (R607) -/
  | registerWrite (a w : Word) (e : WriteEnv)
  /-- VAON is applied, or returns above its release level, and the part starts in SHELF. (R567) -/
  | vaonPowerOn
  /-- PGOOD0 and PGOOD1 are both high again, which clears the active SUPPLY cause and, during a wake, stops the 100 ms wake-fail wait. (R572) -/
  | pgoodHigh (r : BootRun)
  /-- A wake held during shelving raises PWR_REQ once PWR_REQ has been low for at least 10 ms. (R575) -/
  | heldWakeRaise (r : BootRun)
  /-- The link_wait limit of boot step 10 runs out, which ends the link wait and lets BOOT end in READY. (R564) -/
  | linkWaitExpire
  /-- The LPLL tuning voltage leaves the range vt_lo to vt_hi, and a re-centring is requested. (R127) -/
  | tuningVoltageOutOfRange (mv : BitVec 12)
  /-- A lane's PRBS checker gains lock after 64 consecutive correct bits in TEST. (R394) -/
  | prbsCheckerLock (p : Port) (l : Fin 9) (bits : List Bool)
  /-- A lane's PRBS checker loses lock after 64 errors in 1024 bits. (R394) -/
  | prbsCheckerLockLoss (p : Port) (l : Fin 9) (bits : List Bool)
  /-- A management capture on an observation receiver completes, clearing busy and freeing the receiver and its source. (R92) -/
  | managementCaptureEnd (k : Fin 9)
  /-- 100 ms after a boot halt, the XSPI pins become high-impedance so that a programmer can rewrite the flash. (R557) -/
  | xspiRelease
  deriving DecidableEq, Repr

end Sys2Proof
end

