-- ==== Sys2Proof/Decode.lean ====
section
/-! DEFINITION. The commands that words spell. No row of spec/opcode_table.json gives bits: a command is an operation or an event, not a
word, so no word spells one. -/

namespace Sys2Proof

/-- The command that the `nbits` bits of `w` spell by the table: none, since no row of the table has bits. -/
def decodeTableWord (_nbits _w : Nat) : Option Instr := none

end Sys2Proof
end

