-- ==== Sys2Proof/Config.lean ====
section
/-! DEFINITION. What the spec leaves open: free values without a body, of which nothing can be proved but that they are
numbers. A meaning that needs one applies `Config.free` to the counter `freeIdx` of the state and advances it, so that two
free values are never known to be equal. Beside them stand the sequences of outside standards that the spec's formulas name and whose
values it does not print: they too are opaque. -/

namespace Sys2Proof

/-- Free value number `i`, a number of any size; a field takes it modulo its width. -/
opaque Config.free : Nat → Nat

/-- Free value number `i`, a signed number. -/
opaque Config.freeInt : Nat → Int

/-- The deviation of a steering weight's phase that R201 leaves open: of azimuth, elevation, frequency, x and z. -/
opaque Config.steerError : Int → Int → Nat → Int → Int → Int

/-- The phase index of a short base sequence, which TS 38.211 §5.2.2.2 tabulates for lengths 6, 12, 18 and 24 and which the spec does not
print (R222): of the length, the group u, and the position. Of the value, two bits count. -/
opaque Config.srsPhase : Nat → Nat → Nat → Nat

/-- The deviation of a transform from the exact one, which R148 leaves open within a bound: of the input and the bin or sample, in 2^−24 of
a unit. -/
opaque Config.dftError : List (Int × Int) → Nat → Int × Int

/-- The deviation of a rotation that R77 and R165 leave open within 0.01°: of the angle in 360°/65 536. -/
opaque Config.turnError : Nat → Int

/-- A tap of a digital filter, whose response the spec bounds and leaves open else, in units of 2^−40: of the filter, its parameter and the
tap's number. Filters: 0 upconversion (R153) and 1 downconversion (R163), each for a number of subcarriers, 2 a delay trim (R161) of a
trim word, 3 interpolation by 2 (R160), 4 the cancellation pulse (R157) for a number of subcarriers, 5 the decimation of R476, 6 the interpolator
of R296 for a fraction. -/
opaque Config.taps : Nat → Nat → Nat → Int

/-- An observation sample beside a capture, which the interpolation of R296 reaches and no rule gives: of the capture and the sample's
number. -/
opaque Config.pastCapture : List (Int × Int) → Int → Int × Int

/-- What stands for a sample of R296 or a coefficient of R288 and R297 where the formula divides by zero: of a free value's number and an
index. -/
opaque Config.openSample : Nat → Nat → Rat × Rat

/-- The n_RNTI of a user, on which the first PTRS resource block of TS 38.211 §6.4.1.2.2.1 depends and which no order carries (R264): of
n_id and n_SCID. -/
opaque Config.rnti : Nat → Bool → Nat

/-- The subcarrier k_ref^RE of TS 38.211 table 6.4.1.2.2.1-1 for a DMRS port that the table does not list (R264): of the port and re_ofs. -/
opaque Config.ptrsOffset : Nat → Nat → Nat

/-- The beam indices that the other chips of a cascade use, which the head is not told (R272): of the number of the slot's selection, the
carrier, the group and the dimension at the head. -/
opaque Config.otherBeam : Nat → Nat → Nat → Nat → Nat

/-- The subcarrier offset of a path's tones in a reciprocity burst, of which the spec says only that the four paths of a quad differ (R342):
four times this value of the path's quad, plus the path's place in its quad. -/
opaque Config.toneOffset : Nat → Nat

/-- How the 16-bit result of a guard conversion appears in the one byte that the trouble-log entry of a trip has left (R309, R536). -/
opaque Config.tripByte : Nat → Nat

/-- A word of the production record's rows 0 to 63, whose layout the spec does not give (R344, R538, R595): of what the record holds, and the
word's number. -/
opaque Config.prodWord : List (Option Int) → Nat → Nat

/-- The reading of a remote diode whose ideality factor the image sets to 0 (R539): of its voltages in µV at 10 µA and at 160 µA. -/
opaque Config.openReading : Nat → Nat → Int

/-- Where the ring of a fixed spool lies in SRAM and how large it is, which its owner sets and the spec does not give (R505): of the spool. -/
opaque Config.ring : Nat → Nat × Nat

/-- Refreshes of one bank that may be postponed (R499): the postponement limit of JESD209-5B. -/
opaque Config.postponeLimit : Nat

end Sys2Proof
end

