-- ==== Sys2Proof/Machine/RegMap.lean ====
section
/-! DEFINITION. The management address space as the spec lays it out (R603, R604, R615 and the register maps of
chapters 02 to 18): one row per register, with its address, its array strides, its reset value (R7) and the
access of its bits (R5). The rows hold what the tables say and nothing else; no rule of behaviour is here. -/

namespace Sys2Proof.Machine

/-- One register, or one array of registers, of the management address space. `dims` gives (count, stride) of each
array level, outermost first. `reset` is the whole word's reset value and `resetStep` what it grows by from one
instance of the innermost level to the next. The masks say which bits have which access (R5); a bit of no mask is
`ro` or reserved. `counter` marks the counters of R9. -/
structure RegSpec where
  name : String
  base : Nat
  dims : List (Nat × Nat) := []
  reset : Nat := 0
  resetStep : Nat := 0
  rw : Nat := 0
  im : Nat := 0
  wo : Nat := 0
  w1s : Nat := 0
  w1c : Nat := 0
  rc : Nat := 0
  counter : Bool := false
  deriving DecidableEq, Repr

/-- The KPR registers of chapter 16, 17 and 18 and R615, part 1. -/
def kprRegsA : List RegSpec :=
  [ { name := "KPR_MODE", base := 0, reset := 1 },
    { name := "KPR_MODE_CMD", base := 4, wo := 7 },
    { name := "KPR_SAFE_CAUSE", base := 8 },
    { name := "KPR_SAFE_CFG", base := 0xC, reset := 0x3C, im := 0x8000FFFF },
    { name := "KPR_BOOT_STAT", base := 0x10 },
    { name := "KPR_BOOT_CFG", base := 0x14, im := 0xFF },
    { name := "KPR_BOOT_NEXT", base := 0x18, rw := 3 },
    { name := "KPR_BOOT_TIME", base := 0x1C },
    { name := "KPR_IMG_VER", base := 0x20 },
    { name := "KPR_LOCK_STAT", base := 0x24 },
    { name := "KPR_DIE_ID_HI", base := 0x28 },
    { name := "KPR_DIE_ID_LO", base := 0x2C },
    { name := "KPR_KEY_REVOKE", base := 0x30, w1s := 0xF },
    { name := "KPR_FLASH_CTL", base := 0x34, rw := 1, w1s := 0x80000000 },
    { name := "KPR_FLASH_OFS", base := 0x38, rw := 0xFFFFFFFF },
    { name := "KPR_FLASH_SRC", base := 0x3C, rw := 0xFFFFFFFF },
    { name := "KPR_FLASH_LEN", base := 0x40, rw := 0xFFFFFFFF },
    { name := "KPR_AON", base := 0x44, w1c := 3 },
    { name := "KPR_LIVE_AIR", base := 0x48 },
    { name := "KPR_MODE_REFUSE_CNT", base := 0x80, counter := true },
    { name := "KPR_FALLBACK_CNT", base := 0x84, counter := true },
    { name := "KPR_SAFE_CNT", base := 0x88, counter := true },
    { name := "KPR_WDOG_CNT", base := 0x8C, counter := true },
    { name := "KPR_INTEGRITY_CNT", base := 0x90, counter := true } ]

/-- The KPR registers of chapter 16, 17 and 18 and R615, part 2. -/
def kprRegsB : List RegSpec :=
  [ { name := "KPR_NOT_LIVE_CNT", base := 0x94, counter := true },
    { name := "KPR_UNLOCK_FAIL_CNT", base := 0x98, counter := true },
    { name := "KPR_EVT_OVF_CNT", base := 0x9C, counter := true },
    { name := "KPR_BB_FREEZE_CNT", base := 0xA0, counter := true },
    { name := "KPR_BB_ABANDON_CNT", base := 0xA4, counter := true },
    { name := "KPR_STORE_SPARE_CNT", base := 0xA8, counter := true },
    { name := "KPR_UNLOCK_CHAL", base := 0x100, dims := [(8, 4)] },
    { name := "KPR_UNLOCK_RESP", base := 0x120, dims := [(16, 4)], wo := 0xFFFFFFFF },
    { name := "KPR_UNLOCK_CTL", base := 0x160, w1s := 3 },
    { name := "KPR_LOG_PTR", base := 0x200 },
    { name := "KPR_BB_PTR", base := 0x204 },
    { name := "KPR_BB_CTL", base := 0x208, wo := 0xFF, w1s := 0x80000000 },
    { name := "KPR_BB_STAT", base := 0x20C },
    { name := "KPR_FAULT_STAT", base := 0x210, reset := 0x30000, im := 0x30000, w1c := 0x40000000 },
    { name := "KPR_SUM_MAP", base := 0x214 },
    { name := "KPR_LT", base := 0x300, dims := [(18, 4)] },
    { name := "KPR_STORE", base := 0x400000, dims := [(65536, 4)] } ]

/-- Every KPR register. -/
def kprRegs : List RegSpec := kprRegsA ++ kprRegsB

/-- The TIM registers of chapter 12 and R615, part 1. -/
def timRegsA : List RegSpec :=
  [ { name := "TIM_NS", base := 0x1000000 },
    { name := "TIM_NS_FRAC", base := 0x1000004 },
    { name := "TIM_INCR_CTL", base := 0x1000008, reset := 0x101, rw := 0x30F },
    { name := "TIM_INCR_FRAC", base := 0x100000C, reset := 0x46AAAAB, rw := 0xFFFFFFFF },
    { name := "TIM_ADJ_NS", base := 0x1000010, rw := 0xFFFFFFFF },
    { name := "TIM_ADJ_FRAC", base := 0x1000014, rw := 0xFFFF },
    { name := "TIM_ADJ_CTL", base := 0x1000018, w1s := 1 },
    { name := "TIM_GEN", base := 0x100001C },
    { name := "TIM_QUAL", base := 0x1000020, w1s := 0x80000000 },
    { name := "TIM_EPOCH_NS", base := 0x1000030, rw := 0xFFFFFFFF },
    { name := "TIM_EPOCH_SFN", base := 0x1000034, rw := 0x3FF },
    { name := "TIM_EPOCH_CTRL", base := 0x1000038, w1s := 0x80000000 },
    { name := "TIM_EPOCH_CAP", base := 0x100003C },
    { name := "TIM_EDGE_ERR", base := 0x1000040 },
    { name := "TIM_EDGE_CFG", base := 0x1000044, reset := 0x28A, im := 0xFFFF },
    { name := "TIM_EDGE_STAT", base := 0x1000048 },
    { name := "TIM_DREQ_CTL", base := 0x1000050, rw := 0x100FFFF, w1s := 0x80000000 },
    { name := "TIM_DREQ_ID_HI", base := 0x1000054, rw := 0xFFFFFFFF },
    { name := "TIM_DREQ_ID_LO", base := 0x1000058, rw := 0xFFFFFFFF },
    { name := "TIM_DREQ_PORT", base := 0x100005C, reset := 1, rw := 0xFF00FFFF },
    { name := "TIM_STAMP_PTR", base := 0x1000060 },
    { name := "TIM_EDGE_ALARM_CNT", base := 0x1000080, counter := true },
    { name := "TIM_PATH_CHANGE_CNT", base := 0x1000084, counter := true },
    { name := "TIM_ALIGN_CNT", base := 0x1000088, counter := true } ]

/-- The TIM registers of chapter 12 and R615, part 2. -/
def timRegsB : List RegSpec :=
  [ { name := "TIM_ALIGN_REFUSE_CNT", base := 0x100008C, counter := true },
    { name := "TIM_INCR_REFUSE_CNT", base := 0x1000090, counter := true },
    { name := "TIM_ACK_REFUSE_CNT", base := 0x1000094, counter := true },
    { name := "TIM_QUAL_CHANGE_CNT", base := 0x1000098, counter := true },
    { name := "TIM_STAMP_RING", base := 0x1600000, dims := [(256, 0x50), (20, 4)] },
    { name := "TIM_ING_TRIM", base := 0x1400000, dims := [(2, 0x10000)], rw := 0xFFFFFFFF },
    { name := "TIM_EGR_TRIM", base := 0x1400004, dims := [(2, 0x10000)], rw := 0xFFFFFFFF },
    { name := "TIM_LINK_ASYM", base := 0x1400008, dims := [(2, 0x10000)], rw := 0xFFFFFFFF },
    { name := "TIM_PTP_RX_CNT", base := 0x1400040, dims := [(2, 0x10000)], counter := true },
    { name := "TIM_TC_CNT", base := 0x1400044, dims := [(2, 0x10000)], counter := true },
    { name := "TIM_FU_MISS_CNT", base := 0x1400048, dims := [(2, 0x10000)], counter := true },
    { name := "TIM_PTP_UNSUP_CNT", base := 0x140004C, dims := [(2, 0x10000)], counter := true } ]

/-- Every TIM register. -/
def timRegs : List RegSpec := timRegsA ++ timRegsB

/-- The LNU registers of chapter 10 and R615, part 1. -/
def lnuRegsA : List RegSpec :=
  [ { name := "LNU_LANE_RX", base := 0x2000000, dims := [(9, 0x10000)], reset := 0xF000000 },
    { name := "LNU_LANE_TX", base := 0x2000004, dims := [(9, 0x10000)], reset := 0xF042F0C },
    { name := "LNU_LANE_ERR_CNT", base := 0x2000040, dims := [(9, 0x10000)], counter := true },
    { name := "LNU_LANE_STUFF_CNT", base := 0x2000044, dims := [(9, 0x10000)], counter := true },
    { name := "LNU_PRBS_ERR_CNT", base := 0x2000048, dims := [(9, 0x10000)], counter := true },
    { name := "LNU_CTRL", base := 0x2500000, im := 1, w1s := 0x80000000 },
    { name := "LNU_TRAIN_STAT", base := 0x2500004 },
    { name := "LNU_TRAIN_CFG", base := 0x2500008, reset := 0x18001E, im := 0xFF0FFF },
    { name := "LNU_SLEEP_CFG", base := 0x250000C, reset := 0x6403E8, rw := 0xC3FF0FFF },
    { name := "LNU_SLEEP_STAT", base := 0x2500010 },
    { name := "LNU_TEST_CFG", base := 0x2500014, rw := 0x30001FF, w1s := 0x80000000 },
    { name := "LNU_TEST_DUR", base := 0x2500018, reset := 0x3E8, rw := 0xFFFF },
    { name := "LNU_TEST_INJ", base := 0x250001C, rw := 0x403F000F, w1s := 0x80000000 },
    { name := "LNU_TEST_STAT", base := 0x2500020 },
    { name := "LNU_BLOCK", base := 0x2500024 },
    { name := "LNU_DOWN_CNT", base := 0x2500040, counter := true },
    { name := "LNU_TRAIN_FAIL_CNT", base := 0x2500044, counter := true },
    { name := "LNU_LISTEN_CNT", base := 0x2500048, counter := true },
    { name := "LNU_TAKEOVER_CNT", base := 0x250004C, counter := true },
    { name := "LNU_DEGRADE_CNT", base := 0x2500050, counter := true },
    { name := "LNU_REMAP_RETRY_CNT", base := 0x2500054, counter := true },
    { name := "LNU_DEFER_CNT", base := 0x2500058, counter := true },
    { name := "LNU_DOZE_CNT", base := 0x250005C, counter := true },
    { name := "LNU_NAP_CNT", base := 0x2500060, counter := true } ]

/-- The LNU registers of chapter 10 and R615, part 2. -/
def lnuRegsB : List RegSpec :=
  [ { name := "LNU_ELASTIC_CNT", base := 0x2500064, counter := true },
    { name := "LNU_BCH_ERR_CNT", base := 0x2500068, counter := true } ]

/-- Every LNU register. -/
def lnuRegs : List RegSpec := lnuRegsA ++ lnuRegsB

/-- The LND registers of chapter 10 and R615, part 1. -/
def lndRegsA : List RegSpec :=
  [ { name := "LND_LANE_RX", base := 0x3000000, dims := [(9, 0x10000)], reset := 0xF000000 },
    { name := "LND_LANE_TX", base := 0x3000004, dims := [(9, 0x10000)], reset := 0xF042F0C },
    { name := "LND_LANE_ERR_CNT", base := 0x3000040, dims := [(9, 0x10000)], counter := true },
    { name := "LND_LANE_STUFF_CNT", base := 0x3000044, dims := [(9, 0x10000)], counter := true },
    { name := "LND_PRBS_ERR_CNT", base := 0x3000048, dims := [(9, 0x10000)], counter := true },
    { name := "LND_CTRL", base := 0x3500000, im := 1, w1s := 0x80000000 },
    { name := "LND_TRAIN_STAT", base := 0x3500004 },
    { name := "LND_TRAIN_CFG", base := 0x3500008, reset := 0x18001E, im := 0xFF0FFF },
    { name := "LND_SLEEP_CFG", base := 0x350000C, reset := 0x6403E8, rw := 0xC3FF0FFF },
    { name := "LND_SLEEP_STAT", base := 0x3500010 },
    { name := "LND_TEST_CFG", base := 0x3500014, rw := 0x30001FF, w1s := 0x80000000 },
    { name := "LND_TEST_DUR", base := 0x3500018, reset := 0x3E8, rw := 0xFFFF },
    { name := "LND_TEST_INJ", base := 0x350001C, rw := 0x403F000F, w1s := 0x80000000 },
    { name := "LND_TEST_STAT", base := 0x3500020 },
    { name := "LND_BLOCK", base := 0x3500024 },
    { name := "LND_DOWN_CNT", base := 0x3500040, counter := true },
    { name := "LND_TRAIN_FAIL_CNT", base := 0x3500044, counter := true },
    { name := "LND_LISTEN_CNT", base := 0x3500048, counter := true },
    { name := "LND_TAKEOVER_CNT", base := 0x350004C, counter := true },
    { name := "LND_DEGRADE_CNT", base := 0x3500050, counter := true },
    { name := "LND_REMAP_RETRY_CNT", base := 0x3500054, counter := true },
    { name := "LND_DEFER_CNT", base := 0x3500058, counter := true },
    { name := "LND_DOZE_CNT", base := 0x350005C, counter := true },
    { name := "LND_NAP_CNT", base := 0x3500060, counter := true } ]

/-- The LND registers of chapter 10 and R615, part 2. -/
def lndRegsB : List RegSpec :=
  [ { name := "LND_ELASTIC_CNT", base := 0x3500064, counter := true },
    { name := "LND_BCH_ERR_CNT", base := 0x3500068, counter := true } ]

/-- Every LND register. -/
def lndRegs : List RegSpec := lndRegsA ++ lndRegsB

/-- The PKT registers of chapter 11 and R615, part 1. -/
def pktRegsA : List RegSpec :=
  [ { name := "PKT_OWN", base := 0x4000000, dims := [(4, 0x10000)], reset := 0xC, im := 0xF, w1s := 0x80000000 },
    { name := "PKT_C_EARLY_CNT", base := 0x4000040, dims := [(4, 0x10000)], counter := true },
    { name := "PKT_C_LATE_CNT", base := 0x4000044, dims := [(4, 0x10000)], counter := true },
    { name := "PKT_UDL_EARLY_CNT", base := 0x4000048, dims := [(4, 0x10000)], counter := true },
    { name := "PKT_UDL_LATE_CNT", base := 0x400004C, dims := [(4, 0x10000)], counter := true },
    { name := "PKT_UDL_ORPHAN_CNT", base := 0x4000050, dims := [(4, 0x10000)], counter := true },
    { name := "PKT_DIR_MISMATCH_CNT", base := 0x4000054, dims := [(4, 0x10000)], counter := true },
    { name := "PKT_FOREIGN_CNT", base := 0x4000058, dims := [(4, 0x10000)], counter := true },
    { name := "PKT_OVERLAP_CNT", base := 0x400005C, dims := [(4, 0x10000)], counter := true },
    { name := "PKT_UDL_OVERLAP_CNT", base := 0x4000060, dims := [(4, 0x10000)], counter := true },
    { name := "PKT_OWNER_MOVE_CNT", base := 0x4000064, dims := [(4, 0x10000)], counter := true },
    { name := "PKT_FWD_LATE_CNT", base := 0x4000068, dims := [(4, 0x10000)], counter := true },
    { name := "PKT_CREDIT", base := 0x4400000, dims := [(2, 0x10000), (8, 4)] },
    { name := "PKT_HDR_ERR_CNT", base := 0x4400040, dims := [(2, 0x10000)], counter := true },
    { name := "PKT_CRC_ERR_CNT", base := 0x4400044, dims := [(2, 0x10000)], counter := true },
    { name := "PKT_STOMP_CNT", base := 0x4400048, dims := [(2, 0x10000)], counter := true },
    { name := "PKT_MALFORMED_CNT", base := 0x440004C, dims := [(2, 0x10000)], counter := true },
    { name := "PKT_LOST_CNT", base := 0x4400050, dims := [(2, 0x10000)], counter := true },
    { name := "PKT_DUP_CNT", base := 0x4400054, dims := [(2, 0x10000)], counter := true },
    { name := "PKT_RETX_CNT", base := 0x4400058, dims := [(2, 0x10000)], counter := true },
    { name := "PKT_RETX_FAIL_CNT", base := 0x440005C, dims := [(2, 0x10000)], counter := true },
    { name := "PKT_WIN_FULL_CNT", base := 0x4400060, dims := [(2, 0x10000)], counter := true },
    { name := "PKT_SHED_CNT", base := 0x4400080, dims := [(2, 0x10000), (8, 4)], counter := true },
    { name := "PKT_Q_CFG", base := 0x4500000, dims := [(2, 4)], reset := 0x4000000, im := 0xFFFF00FF } ]

/-- The PKT registers of chapter 11 and R615, part 2. -/
def pktRegsB : List RegSpec :=
  [ { name := "PKT_Q_CFG", base := 0x4500008, dims := [(3, 4)], reset := 0x4000014, im := 0xFFFF00FF },
    { name := "PKT_Q_CFG", base := 0x4500014, dims := [(3, 4)], reset := 0x4000000, im := 0xFFFF00FF },
    { name := "PKT_CASCADE", base := 0x4500020, im := 0x30001 },
    { name := "PKT_BRIDLE_CFG", base := 0x4500024, im := 1 },
    { name := "PKT_LEASE_CFG", base := 0x4500028, reset := 0x312, im := 0x777 },
    { name := "PKT_LEASE_STAT", base := 0x450002C },
    { name := "PKT_NO_LEASE_CNT", base := 0x4500040, counter := true },
    { name := "PKT_ALARM_DROP_CNT", base := 0x4500044, counter := true },
    { name := "PKT_LEASE_MOVE_CNT", base := 0x4500048, counter := true } ]

/-- Every PKT register. -/
def pktRegs : List RegSpec := pktRegsA ++ pktRegsB

/-- The MEM registers of chapter 14 and R615, part 1. -/
def memRegsA : List RegSpec :=
  [ { name := "MEM_CH_STAT", base := 0x5000000, dims := [(2, 0x10000)] },
    { name := "MEM_REF_FORCED_CNT", base := 0x5000040, dims := [(2, 0x10000)], counter := true },
    { name := "MEM_RETRAIN_CNT", base := 0x5000044, dims := [(2, 0x10000)], counter := true },
    { name := "MEM_RETRAIN_FORCED_CNT", base := 0x5000048, dims := [(2, 0x10000)], counter := true },
    { name := "MEM_PD_CNT", base := 0x500004C, dims := [(2, 0x10000)], counter := true },
    { name := "MEM_CFG", base := 0x5500000, reset := 0x102, im := 0x103 },
    { name := "MEM_MAP_CH", base := 0x5500004, reset := 0x820800, im := 0xFFFFFE00 },
    { name := "MEM_MAP_BG0", base := 0x5500008, reset := 0x1041000, im := 0xFFFFFE00 },
    { name := "MEM_MAP_BG1", base := 0x550000C, reset := 0x2082000, im := 0xFFFFFE00 },
    { name := "MEM_MAP_BA0", base := 0x5500010, reset := 0x4104000, im := 0xFFFFFE00 },
    { name := "MEM_MAP_BA1", base := 0x5500014, reset := 0x8208000, im := 0xFFFFFE00 },
    { name := "MEM_MAP_RANK", base := 0x5500018, reset := 0x10410000, im := 0xFFFFFE00 },
    { name := "MEM_SCHED_CFG", base := 0x550001C, reset := 0x960014, im := 0x3FF03FF },
    { name := "MEM_SCRUB_CFG", base := 0x5500020, reset := 0x80000018, im := 0x800000FF },
    { name := "MEM_RETRAIN_CFG", base := 0x5500024, reset := 0xC040064, im := 0xFFFFFFFF },
    { name := "MEM_ERR_ADDR", base := 0x5500028 },
    { name := "MEM_ERR_STAT", base := 0x550002C },
    { name := "MEM_CE_CNT", base := 0x5500040, counter := true },
    { name := "MEM_UE_CNT", base := 0x5500044, counter := true },
    { name := "MEM_SRAM_CE_CNT", base := 0x5500048, counter := true },
    { name := "MEM_SRAM_UE_CNT", base := 0x550004C, counter := true },
    { name := "MEM_POISON_CNT", base := 0x5500050, counter := true },
    { name := "MEM_SCRUB_PASS_CNT", base := 0x5500054, counter := true },
    { name := "MEM_AGE_PROMO_CNT", base := 0x5500058, counter := true } ]

/-- The MEM registers of chapter 14 and R615, part 2. -/
def memRegsB : List RegSpec :=
  [ { name := "MEM_DEFER_CNT", base := 0x550005C, counter := true } ]

/-- Every MEM register. -/
def memRegs : List RegSpec := memRegsA ++ memRegsB

/-- The SPL registers of chapter 14 and R615. -/
def splRegs : List RegSpec :=
  [ { name := "SPL_CTRL", base := 0x6000000, dims := [(32, 0x10000)], rw := 0x80000103, w1s := 0x60000000 },
    { name := "SPL_STAT", base := 0x6000004, dims := [(32, 0x10000)] },
    { name := "SPL_RING_BASE", base := 0x6000008, dims := [(32, 0x10000)], rw := 0xFFFFFFE0 },
    { name := "SPL_RING_CFG", base := 0x600000C, dims := [(32, 0x10000)], rw := 0xF },
    { name := "SPL_HEAD", base := 0x6000010, dims := [(32, 0x10000)], rw := 0x1FF },
    { name := "SPL_TAIL", base := 0x6000014, dims := [(32, 0x10000)] },
    { name := "SPL_PACE", base := 0x6000018, dims := [(32, 0x10000)], reset := 0x201008, rw := 0xFFF0FFFF },
    { name := "SPL_CUR_SRC", base := 0x600001C, dims := [(32, 0x10000)] },
    { name := "SPL_CUR_DST", base := 0x6000020, dims := [(32, 0x10000)] },
    { name := "SPL_DONE", base := 0x6000024, dims := [(32, 0x10000)] },
    { name := "SPL_CUR_ELEM", base := 0x6000028, dims := [(32, 0x10000)] },
    { name := "SPL_DESC_CNT", base := 0x6000040, dims := [(32, 0x10000)], counter := true },
    { name := "SPL_PREEMPT_CNT", base := 0x6000044, dims := [(32, 0x10000)], counter := true },
    { name := "SPL_UE_CNT", base := 0x6000048, dims := [(32, 0x10000)], counter := true },
    { name := "SPL_ABORT_CNT", base := 0x600004C, dims := [(32, 0x10000)], counter := true },
    { name := "SPL_PWR_PAUSE_CNT", base := 0x6000050, dims := [(32, 0x10000)], counter := true },
    { name := "SPL_PWR_ABORT_CNT", base := 0x6000054, dims := [(32, 0x10000)], counter := true },
    { name := "SPL_REFUSE_CNT", base := 0x6000058, dims := [(32, 0x10000)], counter := true },
    { name := "SPL_ACTIVE", base := 0x6500000 },
    { name := "SPL_PAUSED", base := 0x6500004 } ]

/-- The SEQ registers of chapter 09 and R615, part 1. -/
def seqRegsA : List RegSpec :=
  [ { name := "SEQ_QSTAT", base := 0x7000000, dims := [(16, 0x10000)] },
    { name := "SEQ_BLANK_CNT", base := 0x7000040, dims := [(16, 0x10000)], counter := true },
    { name := "SEQ_DEFER_CNT", base := 0x7000044, dims := [(16, 0x10000)], counter := true },
    { name := "SEQ_TURN_CFG", base := 0x7500000, im := 0x307 },
    { name := "SEQ_LEAN", base := 0x7500004, reset := 0xF, rw := 0x30F },
    { name := "SEQ_LEAN_MASK", base := 0x7500008, reset := 0xFF000F, im := 0xFFFFFFFF },
    { name := "SEQ_CAL_REQ", base := 0x7500010, rw := 0x107, wo := 0x40000000, w1s := 0x80000000 },
    { name := "SEQ_CAL_SEL", base := 0x7500014, rw := 0xFFFF },
    { name := "SEQ_CAL_STAT", base := 0x7500018 },
    { name := "SEQ_CAL_LIM", base := 0x750001C, reset := 0x12C0190, im := 0xFFFF03FF },
    { name := "SEQ_CAL_RF", base := 0x7500020, rw := 0xFFFFFFFF },
    { name := "SEQ_PA_REF", base := 0x7500024, rw := 0xFFFF003F },
    { name := "SEQ_REG_LIM0", base := 0x7500030 },
    { name := "SEQ_REG_LIM1", base := 0x7500034 },
    { name := "SEQ_REG_RANGE_LO", base := 0x7500040, dims := [(4, 8)] },
    { name := "SEQ_REG_RANGE_HI", base := 0x7500044, dims := [(4, 8)] },
    { name := "SEQ_PWR_STAT", base := 0x7500060, reset := 0x8000 },
    { name := "SEQ_DUTY_STAT", base := 0x7500064 },
    { name := "SEQ_PWR_CLAMP_CNT", base := 0x7500080, counter := true },
    { name := "SEQ_DUTY_BLANK_CNT", base := 0x7500084, counter := true },
    { name := "SEQ_DROP_ORDER_CNT", base := 0x7500088, counter := true },
    { name := "SEQ_CAL_DONE_CNT", base := 0x750008C, counter := true },
    { name := "SEQ_CAL_FAIL_CNT", base := 0x7500090, counter := true },
    { name := "SEQ_CAL_REFUSE_CNT", base := 0x7500094, counter := true } ]

/-- The SEQ registers of chapter 09 and R615, part 2. -/
def seqRegsB : List RegSpec :=
  [ { name := "SEQ_REG_PIECE_LO", base := 0x7500100, dims := [(12, 8)] },
    { name := "SEQ_REG_PIECE_HI", base := 0x7500104, dims := [(12, 8)] },
    { name := "SEQ_PA_GAIN", base := 0x7500200, dims := [(64, 4)], im := 0xFFFF0000 },
    { name := "SEQ_LEGACY", base := 0x7600000, dims := [(64, 0x20), (8, 4)] } ]

/-- Every SEQ register. -/
def seqRegs : List RegSpec := seqRegsA ++ seqRegsB

/-- The SYN registers of chapter 03 and R615. -/
def synRegs : List RegSpec :=
  [ { name := "SYN_LO", base := 0x8000000 },
    { name := "SYN_RETUNE", base := 0x8000004, rw := 0x3FFFF },
    { name := "SYN_LOCK_STAT", base := 0x8000008 },
    { name := "SYN_VCO", base := 0x800000C },
    { name := "SYN_RECENTRE", base := 0x8000010, reset := 0x352015E, im := 0xFFF0FFF },
    { name := "SYN_ALIGN", base := 0x8000014, w1s := 1 },
    { name := "SYN_COH", base := 0x8000018 },
    { name := "SYN_UNLOCK_CNT", base := 0x8000040, dims := [(4, 4)], counter := true },
    { name := "SYN_REF_LOSS_CNT", base := 0x8000050, counter := true },
    { name := "SYN_UL_LOST_CNT", base := 0x8000054, counter := true },
    { name := "SYN_RECENTRE_CNT", base := 0x8000058, counter := true },
    { name := "SYN_RECENTRE_LATE_CNT", base := 0x800005C, counter := true },
    { name := "SYN_TRACK_CNT", base := 0x8000060, counter := true },
    { name := "SYN_RETUNE_REFUSE_CNT", base := 0x8000064, counter := true },
    { name := "SYN_ALIGN_CNT", base := 0x8000068, counter := true },
    { name := "SYN_LEAF", base := 0x8000100, dims := [(17, 4)] } ]

/-- The TXP registers of chapter 02 and R615. -/
def txpRegs : List RegSpec :=
  [ { name := "TXP_ATTEN", base := 0x9000000, dims := [(64, 0x10000)], reset := 0x7F, rw := 0x7F },
    { name := "TXP_IQ_TAP0", base := 0x9000010, dims := [(64, 0x10000)] },
    { name := "TXP_IQ_TAP1", base := 0x9000014, dims := [(64, 0x10000)] },
    { name := "TXP_IQ_TAP2", base := 0x9000018, dims := [(64, 0x10000)] },
    { name := "TXP_IQ_TAP3", base := 0x900001C, dims := [(64, 0x10000)] },
    { name := "TXP_DC_OFS", base := 0x9000020, dims := [(64, 0x10000)] },
    { name := "TXP_BW_CODE", base := 0x9000024, dims := [(64, 0x10000)], reset := 0x20 },
    { name := "TXP_CELL_SUB_I", base := 0x9000028, dims := [(64, 0x10000)] },
    { name := "TXP_CELL_SUB_Q", base := 0x900002C, dims := [(64, 0x10000)] },
    { name := "TXP_QUAL", base := 0x9000030, dims := [(64, 0x10000)] },
    { name := "TXP_RETIRE", base := 0x9000034, dims := [(64, 0x10000)] },
    { name := "TXP_SAT_CNT", base := 0x9000040, dims := [(64, 0x10000)], counter := true },
    { name := "TXP_LIVE_LO", base := 0x9500000, reset := 0xFFFFFFFF },
    { name := "TXP_LIVE_HI", base := 0x9500004, reset := 0xFFFFFFFF },
    { name := "TXP_RETIRE_CMD_LO", base := 0x9500008, wo := 0xFFFFFFFF },
    { name := "TXP_RETIRE_CMD_HI", base := 0x950000C, wo := 0xFFFFFFFF },
    { name := "TXP_REINSTATE_LO", base := 0x9500010, wo := 0xFFFFFFFF },
    { name := "TXP_REINSTATE_HI", base := 0x9500014, wo := 0xFFFFFFFF },
    { name := "TXP_RETIRE_CNT", base := 0x9500040, counter := true },
    { name := "TXP_REFUSE_CNT", base := 0x9500044, counter := true } ]

/-- The RXP registers of chapter 02 and R615, part 1. -/
def rxpRegsA : List RegSpec :=
  [ { name := "RXP_AGC_CFG", base := 0xA000000, dims := [(64, 0x10000)], rw := 0x31F1F },
    { name := "RXP_AGC_STAT", base := 0xA000004, dims := [(64, 0x10000)] },
    { name := "RXP_IQ_TAP0", base := 0xA000010, dims := [(64, 0x10000)] },
    { name := "RXP_IQ_TAP1", base := 0xA000014, dims := [(64, 0x10000)] },
    { name := "RXP_IQ_TAP2", base := 0xA000018, dims := [(64, 0x10000)] },
    { name := "RXP_IQ_TAP3", base := 0xA00001C, dims := [(64, 0x10000)] },
    { name := "RXP_DC_OFS", base := 0xA000020, dims := [(64, 0x10000)] },
    { name := "RXP_BW_CODE", base := 0xA000024, dims := [(64, 0x10000)], reset := 0x20 },
    { name := "RXP_SLICE", base := 0xA000028, dims := [(64, 0x10000)], reset := 0xF },
    { name := "RXP_QUAL", base := 0xA000030, dims := [(64, 0x10000)] },
    { name := "RXP_RETIRE", base := 0xA000034, dims := [(64, 0x10000)] },
    { name := "RXP_CLIP_CNT", base := 0xA000040, dims := [(64, 0x10000)], counter := true },
    { name := "RXP_SLICE_SWAP_CNT", base := 0xA000044, dims := [(64, 0x10000)], counter := true },
    { name := "RXP_STEP_TAB", base := 0xA000100, dims := [(64, 0x10000), (32, 4)], reset := 0x4000000 },
    { name := "RXP_OBS_ROUTE", base := 0xA400000, dims := [(9, 0x10000)], reset := 0x7F0000, rw := 0x7F1F00 },
    { name := "RXP_OBS_STAT", base := 0xA400004, dims := [(8, 0x10000)] },
    { name := "RXP_OBS_STAT", base := 0xA480004, reset := 0x40000000 },
    { name := "RXP_OBS_ABORT_CNT", base := 0xA400040, dims := [(9, 0x10000)], counter := true },
    { name := "RXP_OBS_REFUSE_CNT", base := 0xA400044, dims := [(9, 0x10000)], counter := true },
    { name := "RXP_LIVE_LO", base := 0xA500000, reset := 0xFFFFFFFF },
    { name := "RXP_LIVE_HI", base := 0xA500004, reset := 0xFFFFFFFF },
    { name := "RXP_RETIRE_CMD_LO", base := 0xA500008, wo := 0xFFFFFFFF },
    { name := "RXP_RETIRE_CMD_HI", base := 0xA50000C, wo := 0xFFFFFFFF },
    { name := "RXP_REINSTATE_LO", base := 0xA500010, wo := 0xFFFFFFFF } ]

/-- The RXP registers of chapter 02 and R615, part 2. -/
def rxpRegsB : List RegSpec :=
  [ { name := "RXP_REINSTATE_HI", base := 0xA500014, wo := 0xFFFFFFFF },
    { name := "RXP_AGC_THR", base := 0xA500020, reset := 0x3300D8FA, rw := 0xFF00FFFF },
    { name := "RXP_OBS_MAP", base := 0xA500024, reset := 0x76543210 },
    { name := "RXP_RETIRE_CNT", base := 0xA500040, counter := true },
    { name := "RXP_REFUSE_CNT", base := 0xA500044, counter := true } ]

/-- Every RXP register. -/
def rxpRegs : List RegSpec := rxpRegsA ++ rxpRegsB

/-- The DFE registers of chapter 04 and R615. -/
def dfeRegs : List RegSpec :=
  [ { name := "DFE_TX_DLY", base := 0xB000000, dims := [(64, 0x10000)] },
    { name := "DFE_TX_PHG", base := 0xB000004, dims := [(64, 0x10000)], reset := 0x40000000 },
    { name := "DFE_RX_DLY", base := 0xB000008, dims := [(64, 0x10000)] },
    { name := "DFE_RX_PHG", base := 0xB00000C, dims := [(64, 0x10000)], reset := 0x40000000 },
    { name := "DFE_CFR_STAT", base := 0xB000010, dims := [(64, 0x10000)] },
    { name := "DFE_CFR_CLIP_CNT", base := 0xB000040, dims := [(64, 0x10000)], counter := true },
    { name := "DFE_OUT_SAT_CNT", base := 0xB000044, dims := [(64, 0x10000)], counter := true },
    { name := "DFE_RX_SAT_CNT", base := 0xB000048, dims := [(64, 0x10000)], counter := true },
    { name := "DFE_CFR_CFG", base := 0xB500000, reset := 0x1020003, im := 0x10300FF },
    { name := "DFE_CAR_CFG", base := 0xB600000, dims := [(4, 0x10000)], im := 0x70000 },
    { name := "DFE_CAR_OFS", base := 0xB600004, dims := [(4, 0x10000)], rw := 0x1FFFF },
    { name := "DFE_CAR_GAIN", base := 0xB600008, dims := [(4, 0x10000)], reset := 0x4000, rw := 0xFFFF },
    { name := "DFE_CAR_CFR", base := 0xB60000C, dims := [(4, 0x10000)], reset := 0x80, im := 0xFF },
    { name := "DFE_CAR_STAT", base := 0xB600010, dims := [(4, 0x10000)] },
    { name := "DFE_OFS_REFUSE_CNT", base := 0xB600040, dims := [(4, 0x10000)], counter := true } ]

/-- The SYM registers of chapter 04 and R615. -/
def symRegs : List RegSpec :=
  [ { name := "SYM_BFP_CFG", base := 0xC000000, dims := [(4, 0x10000)], im := 0x33 },
    { name := "SYM_NO_ORDER_CNT", base := 0xC000040, dims := [(4, 0x10000)], counter := true },
    { name := "SYM_NO_DATA_CNT", base := 0xC000044, dims := [(4, 0x10000)], counter := true },
    { name := "SYM_BMX_LATE_CNT", base := 0xC000048, dims := [(4, 0x10000)], counter := true },
    { name := "SYM_IFFT_SAT_CNT", base := 0xC00004C, dims := [(4, 0x10000)], counter := true },
    { name := "SYM_FFT_SAT_CNT", base := 0xC000050, dims := [(4, 0x10000)], counter := true },
    { name := "SYM_BFP_SAT_CNT", base := 0xC000054, dims := [(4, 0x10000)], counter := true },
    { name := "SYM_PRACH_REFUSE_CNT", base := 0xC000058, dims := [(4, 0x10000)], counter := true },
    { name := "SYM_SRS_REFUSE_CNT", base := 0xC00005C, dims := [(4, 0x10000)], counter := true } ]

/-- The DPD registers of chapter 08 and R615, part 1. -/
def dpdRegsA : List RegSpec :=
  [ { name := "DPD_CTRL", base := 0xD000000, dims := [(64, 0x10000)], rw := 0x80000000, w1s := 0x100FF00 },
    { name := "DPD_OBS_CFG", base := 0xD000004, dims := [(64, 0x10000)], reset := 0xFA0001E, im := 0x1F },
    { name := "DPD_GUARD_THR", base := 0xD000008, dims := [(64, 0x10000)], reset := 0xFFFF0000, im := 0xFFFF0000 },
    { name := "DPD_TRIP_STAT", base := 0xD00000C, dims := [(64, 0x10000)] },
    { name := "DPD_TRIP_CNT", base := 0xD000040, dims := [(64, 0x10000)], counter := true },
    { name := "DPD_OFF_TRIP_CNT", base := 0xD000044, dims := [(64, 0x10000)], counter := true },
    { name := "DPD_CAP_CNT", base := 0xD000048, dims := [(64, 0x10000)], counter := true },
    { name := "DPD_CAP_SKIP_CNT", base := 0xD00004C, dims := [(64, 0x10000)], counter := true },
    { name := "DPD_CAP_DROP_CNT", base := 0xD000050, dims := [(64, 0x10000)], counter := true },
    { name := "DPD_REVERT_CNT", base := 0xD000054, dims := [(64, 0x10000)], counter := true },
    { name := "DPD_OUT_SAT_CNT", base := 0xD000058, dims := [(64, 0x10000)], counter := true },
    { name := "DPD_IN_OVR_CNT", base := 0xD00005C, dims := [(64, 0x10000)], counter := true },
    { name := "DPD_BANK_QUAL", base := 0xD000100, dims := [(64, 0x10000), (8, 4)] },
    { name := "DPD_LUT", base := 0xD008000, dims := [(64, 0x10000), (8, 0x1000), (65, 4)], reset := 0x40000000 },
    { name := "DPD_LUT", base := 0xD008200, dims := [(64, 0x10000), (8, 0x1000), (7, 0x200), (65, 4)] },
    { name := "DPD_TAPS0", base := 0xD500000, reset := 0x4030201, im := 0x1F1F1F1F },
    { name := "DPD_TAPS1", base := 0xD500004, reset := 0xC0806, im := 0x1F1F1F },
    { name := "DPD_ADAPT_CFG", base := 0xD500008, reset := 0x80200414, im := 0xFFFFFF1F },
    { name := "DPD_SCHED_CFG", base := 0xD50000C, reset := 0xE2320A, im := 0xFFFFFF },
    { name := "DPD_GUARD_CFG", base := 0xD500010, reset := 0x11, im := 0x13 },
    { name := "DPD_GUARD_TEST", base := 0xD500014, wo := 0x8000013F },
    { name := "DPD_ACTIVE", base := 0xD500018 },
    { name := "DPD_TRIP_WIN", base := 0xD50001C },
    { name := "DPD_TEST_TRIP_CNT", base := 0xD500040, counter := true } ]

/-- The DPD registers of chapter 08 and R615, part 2. -/
def dpdRegsB : List RegSpec :=
  [ { name := "DPD_REFUSE_CNT", base := 0xD500044, counter := true },
    { name := "DPD_REFL_TRIP_CNT", base := 0xD500080, dims := [(16, 4)], counter := true },
    { name := "DPD_REFL_THR", base := 0xD500100, dims := [(16, 4)], reset := 0xFA000FF, im := 0xFFFF00FF } ]

/-- Every DPD register. -/
def dpdRegs : List RegSpec := dpdRegsA ++ dpdRegsB

/-- The BMX registers of chapter 05 and R615, part 1. -/
def bmxRegsA : List RegSpec :=
  [ { name := "BMX_CAR_SCALE", base := 0xE000000, dims := [(4, 0x10000)], reset := 0x8000, rw := 0xFFFF },
    { name := "BMX_DL_SAT_CNT", base := 0xE000040, dims := [(4, 0x10000)], counter := true },
    { name := "BMX_UL_SAT_CNT", base := 0xE000044, dims := [(4, 0x10000)], counter := true },
    { name := "BMX_FETCH_LATE_CNT", base := 0xE000048, dims := [(4, 0x10000)], counter := true },
    { name := "BMX_ECC_FALLBACK_CNT", base := 0xE00004C, dims := [(4, 0x10000)], counter := true },
    { name := "BMX_LAST_ABSENT_CNT", base := 0xE000050, dims := [(4, 0x10000)], counter := true },
    { name := "BMX_STEER_REFUSE_CNT", base := 0xE000054, dims := [(4, 0x10000)], counter := true },
    { name := "BMX_LAST_BASE", base := 0xE500000, im := 0xFFFFF000 },
    { name := "BMX_GEOM", base := 0xE500004, reset := 0x80402, im := 0x7F7F03 },
    { name := "BMX_PITCH", base := 0xE500008, im := 0xFFFFFFFF },
    { name := "BMX_ORIGIN_X", base := 0xE50000C, im := 0xFFFFFFFF },
    { name := "BMX_ORIGIN_Z", base := 0xE500010, im := 0xFFFFFFFF },
    { name := "BMX_INLINE_CFG", base := 0xE500014, im := 3 },
    { name := "BMX_UL_DIMS", base := 0xE500018, reset := 0x20 },
    { name := "BMX_CLUSTER", base := 0xE50001C },
    { name := "BMX_CACHE_STAT", base := 0xE500020 },
    { name := "BMX_LAST_CNT", base := 0xE500024, reset := 0x800, im := 0xFFF },
    { name := "BMX_DIR_SEL", base := 0xE500030, rw := 0x7FF },
    { name := "BMX_DIR_DATA", base := 0xE500034 },
    { name := "BMX_LAST_OPEN", base := 0xE500040, rw := 0x71F07FF, w1s := 0x80000000 },
    { name := "BMX_LAST_SLOT", base := 0xE500044 },
    { name := "BMX_LAST_COMMIT", base := 0xE500048, wo := 3 },
    { name := "BMX_INLINE_USED", base := 0xE500050, dims := [(2, 4)] },
    { name := "BMX_CLUSTER_MIX_CNT", base := 0xE500060, counter := true } ]

/-- The BMX registers of chapter 05 and R615, part 2. -/
def bmxRegsB : List RegSpec :=
  [ { name := "BMX_WRITE_REFUSE_CNT", base := 0xE500064, counter := true },
    { name := "BMX_INLINE_REFUSE_CNT", base := 0xE500068, dims := [(2, 4)], counter := true },
    { name := "BMX_PATH_MAP", base := 0xE500100, dims := [(64, 4)], resetStep := 1, im := 0x3F },
    { name := "BMX_STATIC", base := 0xE700000, dims := [(1024, 0x100), (64, 4)], im := 0xFFFFFFFF } ]

/-- Every BMX register. -/
def bmxRegs : List RegSpec := bmxRegsA ++ bmxRegsB

/-- The WSV registers of chapter 06 and R615. -/
def wsvRegs : List RegSpec :=
  [ { name := "WSV_QUAL0", base := 0xF000000, dims := [(4, 0x10000)] },
    { name := "WSV_QUAL1", base := 0xF000004, dims := [(4, 0x10000)] },
    { name := "WSV_QUAL2", base := 0xF000008, dims := [(4, 0x10000)] },
    { name := "WSV_LOAD", base := 0xF500000, reset := 0x4001000, im := 0xFFFFFFFF },
    { name := "WSV_LIMITS", base := 0xF500004, reset := 0x1E14FA00, im := 0xFF1FFF01 },
    { name := "WSV_NOISE_DEF", base := 0xF500008, reset := 0xE890, im := 0xFFFF },
    { name := "WSV_STAT", base := 0xF50000C },
    { name := "WSV_SOLVE_CNT", base := 0xF500040, counter := true },
    { name := "WSV_REFUSE_CNT", base := 0xF500044, counter := true },
    { name := "WSV_DROP_CNT", base := 0xF500048, counter := true },
    { name := "WSV_LATE_CNT", base := 0xF50004C, counter := true },
    { name := "WSV_JOINT_ABORT_CNT", base := 0xF500050, counter := true },
    { name := "WSV_ILL_CNT", base := 0xF500054, counter := true },
    { name := "WSV_ROW_CAP_CNT", base := 0xF500058, counter := true },
    { name := "WSV_MISSING_CNT", base := 0xF50005C, counter := true },
    { name := "WSV_GRAM_LATE_CNT", base := 0xF500060, counter := true },
    { name := "WSV_EXPORT_LATE_CNT", base := 0xF500064, counter := true },
    { name := "WSV_NOISE_DEF_CNT", base := 0xF500068, counter := true } ]

/-- The ULR registers of chapter 07 and R615. -/
def ulrRegs : List RegSpec :=
  [ { name := "ULR_CAR_CFG", base := 0x10000000, dims := [(4, 0x10000)], im := 0x1FF },
    { name := "ULR_QUAL", base := 0x10000004, dims := [(4, 0x10000)] },
    { name := "ULR_SEL_VIEW", base := 0x10000008, dims := [(4, 0x10000)], rw := 0x7F },
    { name := "ULR_SEL_BEAMS", base := 0x10000010, dims := [(4, 0x10000), (8, 4)], reset := 0xFFFFFFFF },
    { name := "ULR_LATE_OUT_CNT", base := 0x10000040, dims := [(4, 0x10000)], counter := true },
    { name := "ULR_REFUSE_CNT", base := 0x10000044, dims := [(4, 0x10000)], counter := true },
    { name := "ULR_IRC_FALLBACK_CNT", base := 0x10000048, dims := [(4, 0x10000)], counter := true },
    { name := "ULR_OUT_SAT_CNT", base := 0x1000004C, dims := [(4, 0x10000)], counter := true },
    { name := "ULR_BS_LATE_CNT", base := 0x10000050, dims := [(4, 0x10000)], counter := true },
    { name := "ULR_SEL_CHANGE_CNT", base := 0x10000054, dims := [(4, 0x10000)], counter := true },
    { name := "ULR_PRACH_OCC_CNT", base := 0x10000058, dims := [(4, 0x10000)], counter := true },
    { name := "ULR_PRACH_DET_CNT", base := 0x1000005C, dims := [(4, 0x10000)], counter := true },
    { name := "ULR_PRACH_TRUNC_CNT", base := 0x10000060, dims := [(4, 0x10000)], counter := true },
    { name := "ULR_PRACH_CLIP_CNT", base := 0x10000064, dims := [(4, 0x10000)], counter := true },
    { name := "ULR_PRACH_LATE_CNT", base := 0x10000068, dims := [(4, 0x10000)], counter := true },
    { name := "ULR_SEL_CFG", base := 0x10500000, reset := 0x30008, im := 0x800700FF },
    { name := "ULR_IRC_CFG", base := 0x10500004, reset := 0x4014E4A8, im := 0xFF1FFFFF },
    { name := "ULR_PT_CFG", base := 0x10500008, reset := 4, im := 0xF },
    { name := "ULR_PRACH_CFG", base := 0x1050000C, reset := 0x28000800, im := 0xFF00FF00 },
    { name := "ULR_STAT", base := 0x10500010 },
    { name := "ULR_SEL_DEFAULT", base := 0x10500020, dims := [(8, 4)], reset := 0x3020100, resetStep := 0x4040404, im := 0xFFFFFFFF } ]

/-- The KTE registers of chapter 13 and R615, part 1. -/
def kteRegsA : List RegSpec :=
  [ { name := "KTE_CFG", base := 0x11000000, reset := 0x10000, im := 0xC01F000F },
    { name := "KTE_FREQ", base := 0x11000004, im := 0x3FFFFFFF },
    { name := "KTE_UNIT_ID", base := 0x11000008, im := 0xFFFFFFFF },
    { name := "KTE_EXT", base := 0x1100000C, im := 0xFFFFFFFF },
    { name := "KTE_TX_CFG", base := 0x11000010, rw := 0xC70003FF },
    { name := "KTE_TX_STEER", base := 0x11000014, rw := 0xFFF0FFF },
    { name := "KTE_TX_GAIN", base := 0x11000018, reset := 0x8000, rw := 0xFFFF },
    { name := "KTE_TX_DATA0", base := 0x1100001C, rw := 0xFFFFFFFF },
    { name := "KTE_TX_DATA1", base := 0x11000020, rw := 0xFFFFFFFF },
    { name := "KTE_RX_CFG", base := 0x11000024, reset := 0x3018000A, im := 0xFFFF1F1F },
    { name := "KTE_SYNC_CFG", base := 0x11000028, reset := 0x3E8, im := 0xFFFF },
    { name := "KTE_ECHO_SEL", base := 0x1100002C, reset := 0x1F, rw := 0x1F },
    { name := "KTE_STAT", base := 0x11000030, reset := 0x3000000 },
    { name := "KTE_REPORT_PTR", base := 0x11000034 },
    { name := "KTE_TX_CNT", base := 0x11000040, counter := true },
    { name := "KTE_TX_SKIP_CNT", base := 0x11000044, counter := true },
    { name := "KTE_DET_CNT", base := 0x11000048, counter := true },
    { name := "KTE_CRC_FAIL_CNT", base := 0x1100004C, counter := true },
    { name := "KTE_SUPERSEDE_CNT", base := 0x11000050, counter := true },
    { name := "KTE_MASK_CNT", base := 0x11000054, counter := true },
    { name := "KTE_FALSE_CNT", base := 0x11000058, counter := true },
    { name := "KTE_TRUNC_CNT", base := 0x1100005C, counter := true },
    { name := "KTE_SKEW_ALARM_CNT", base := 0x11000060, counter := true },
    { name := "KTE_SUSPEND_CNT", base := 0x11000064, counter := true } ]

/-- The KTE registers of chapter 13 and R615, part 2. -/
def kteRegsB : List RegSpec :=
  [ { name := "KTE_PEER", base := 0x11000100, dims := [(16, 0x10), (4, 4)] },
    { name := "KTE_REPORT_RING", base := 0x11100000, dims := [(64, 0x40), (16, 4)] } ]

/-- Every KTE register. -/
def kteRegs : List RegSpec := kteRegsA ++ kteRegsB

/-- The BIA registers of chapter 15 and R615, part 1. -/
def biaRegsA : List RegSpec :=
  [ { name := "BIA_CH_CFG", base := 0x12000000, dims := [(80, 0x10000)], reset := 0x8010001F, rw := 0x80000000, im := 0x117001F },
    { name := "BIA_STAGE", base := 0x12000004, dims := [(80, 0x10000)], rw := 0xFFFFFFFF },
    { name := "BIA_QUEUE", base := 0x12000008, dims := [(80, 0x10000)], wo := 0xFFFF },
    { name := "BIA_TRACK", base := 0x1200000C, dims := [(80, 0x10000)], reset := 0x190, im := 0xFFFFFFFF },
    { name := "BIA_LIMIT", base := 0x12000010, dims := [(80, 0x10000)], reset := 0xFFFF0000, im := 0xFFFFFFFF },
    { name := "BIA_CLEAR", base := 0x12000014, dims := [(80, 0x10000)], im := 0xFFFF },
    { name := "BIA_MAP", base := 0x12000018, dims := [(64, 0x10000)], resetStep := 0x10000, im := 0x3FFFFF },
    { name := "BIA_MAP", base := 0x12400018, reset := 3, im := 0x3FFFFF },
    { name := "BIA_MAP", base := 0x12410018, reset := 0xC, im := 0x3FFFFF },
    { name := "BIA_MAP", base := 0x12420018, reset := 0x30, im := 0x3FFFFF },
    { name := "BIA_MAP", base := 0x12430018, reset := 0xC0, im := 0x3FFFFF },
    { name := "BIA_MAP", base := 0x12440018, reset := 0x300, im := 0x3FFFFF },
    { name := "BIA_MAP", base := 0x12450018, reset := 0xC00, im := 0x3FFFFF },
    { name := "BIA_MAP", base := 0x12460018, reset := 0x3000, im := 0x3FFFFF },
    { name := "BIA_MAP", base := 0x12470018, reset := 0xC000, im := 0x3FFFFF },
    { name := "BIA_MAP", base := 0x12480018, dims := [(8, 0x10000)], im := 0x3FFFFF },
    { name := "BIA_STAT", base := 0x1200001C, dims := [(80, 0x10000)], reset := 2 },
    { name := "BIA_Q_OVF_CNT", base := 0x12000040, dims := [(80, 0x10000)], counter := true },
    { name := "BIA_DEFER_CNT", base := 0x12000044, dims := [(80, 0x10000)], counter := true },
    { name := "BIA_CLEAR_CNT", base := 0x12000048, dims := [(80, 0x10000)], counter := true },
    { name := "BIA_GROUP", base := 0x12600000, dims := [(8, 4)], reset := 0x11F, im := 0x11F },
    { name := "BIA_STROBE", base := 0x12600020, wo := 0x100FF },
    { name := "BIA_PIN", base := 0x12600024, reset := 2 },
    { name := "BIA_PIN_CLR_CNT", base := 0x12600040, counter := true } ]

/-- The BIA registers of chapter 15 and R615, part 2. -/
def biaRegsB : List RegSpec :=
  [ { name := "BIA_STROBE_CNT", base := 0x12600044, counter := true } ]

/-- Every BIA register. -/
def biaRegs : List RegSpec := biaRegsA ++ biaRegsB

/-- The HKA registers of chapter 15 and R615, part 1. -/
def hkaRegsA : List RegSpec :=
  [ { name := "HKA_TEMP", base := 0x13000000, dims := [(28, 0x10000)] },
    { name := "HKA_THR0", base := 0x13000004, dims := [(28, 0x10000)], reset := 0x7FFF7FFF, im := 0xFFFFFFFF },
    { name := "HKA_THR1", base := 0x13000008, dims := [(28, 0x10000)], reset := 0x7FFF1804, im := 0xFFFFFF0F },
    { name := "HKA_SCOPE", base := 0x1300000C, dims := [(28, 0x10000)], im := 0xFFFF },
    { name := "HKA_SENS_CFG", base := 0x13000010, dims := [(28, 0x10000)], reset := 0x40830000, im := 0xFFFFFFFF },
    { name := "HKA_BROKEN_CNT", base := 0x13000040, dims := [(28, 0x10000)], counter := true },
    { name := "HKA_ENTER_CNT", base := 0x13000044, dims := [(28, 0x10000)], counter := true },
    { name := "HKA_SEQ_CFG", base := 0x13500000, reset := 0x7F, im := 0xC03F007F },
    { name := "HKA_SEQ_TIME", base := 0x13500004, reset := 0x3E80000, im := 0xFFFFFFFF },
    { name := "HKA_SEQ_STAT", base := 0x13500008 },
    { name := "HKA_URG_CFG", base := 0x1350000C, reset := 0xA02, im := 0xC0003F07 },
    { name := "HKA_ONESHOT", base := 0x13500010, rw := 0x3F703F07, w1s := 0x80000000 },
    { name := "HKA_ONESHOT_RES", base := 0x13500014 },
    { name := "HKA_CAL_REF", base := 0x13500018, rw := 0xFFFFFFFF },
    { name := "HKA_CAL_CTL", base := 0x1350001C, w1s := 0x80000000 },
    { name := "HKA_CAL_RES", base := 0x13500020 },
    { name := "HKA_BACKOFF_CFG", base := 0x13500024, reset := 0x1808, im := 0xFFFF },
    { name := "HKA_OVERRUN_CNT", base := 0x13500040, counter := true },
    { name := "HKA_URGENT_DROP_CNT", base := 0x13500044, counter := true },
    { name := "HKA_ABORT_CNT", base := 0x13500048, counter := true },
    { name := "HKA_CMP_CNT", base := 0x1350004C, counter := true },
    { name := "HKA_MUTE_SYM_CNT", base := 0x13500050, counter := true },
    { name := "HKA_QUAD", base := 0x13500100, dims := [(16, 4)] },
    { name := "HKA_GUARD_CH", base := 0x13500200, dims := [(64, 4)], im := 0x8000003F } ]

/-- The HKA registers of chapter 15 and R615, part 2. -/
def hkaRegsB : List RegSpec :=
  [ { name := "HKA_CMP_LIM", base := 0x13500400, dims := [(32, 8)], reset := 0xFFFF0000, im := 0xFFFFFFFF },
    { name := "HKA_CMP_ACT", base := 0x13500404, dims := [(32, 8)], reset := 1, im := 0x30F },
    { name := "HKA_ENTRY", base := 0x13600000, dims := [(128, 4)], im := 0xFFFFFFFF },
    { name := "HKA_RESULT", base := 0x13600200, dims := [(128, 4)] } ]

/-- Every HKA register. -/
def hkaRegs : List RegSpec := hkaRegsA ++ hkaRegsB

/-- The four registers common to every block, at block base + 0x00F0_0000 (chapter 18). -/
def blkRegs : List RegSpec :=
  [ { name := "BLK_ID", base := 0xF00000, dims := [(20, 0x1000000)], reset := 0xB00001, resetStep := 0x1000000 },
    { name := "BLK_CNT_CLR", base := 0xF00004, dims := [(20, 0x1000000)], wo := 1 },
    { name := "BLK_EVT_EN", base := 0xF00008, dims := [(20, 0x1000000)], rw := 0xFFFFFFFF },
    { name := "BLK_STAT_SUM", base := 0xF0000C, dims := [(20, 0x1000000)], rc := 0x83FF0000 } ]

/-- The registers of block number `i` (R603), the common ones apart. -/
def blockRegs (i : Nat) : List RegSpec :=
  match i with
  | 0 => kprRegs
  | 1 => timRegs
  | 2 => lnuRegs
  | 3 => lndRegs
  | 4 => pktRegs
  | 5 => memRegs
  | 6 => splRegs
  | 7 => seqRegs
  | 8 => synRegs
  | 9 => txpRegs
  | 10 => rxpRegs
  | 11 => dfeRegs
  | 12 => symRegs
  | 13 => dpdRegs
  | 14 => bmxRegs
  | 15 => wsvRegs
  | 16 => ulrRegs
  | 17 => kteRegs
  | 18 => biaRegs
  | 19 => hkaRegs
  | _ => []

end Sys2Proof.Machine
end

