-- ==== Sys2Proof/Machine/Table.lean ====
section
/-! DEFINITION. Sparse tables in one canonical form: a list of (key, value) pairs with strictly rising keys in which no
value equals what an unlisted key reads as. Registers, memory bytes, keeper-store bytes and flash bytes are held so;
equal contents are then equal data. `d k` is what key `k` reads as while it is unlisted. -/

namespace Sys2Proof.Machine

/-- What key `k` holds. -/
def tabGet {α : Type} (d : Nat → α) : List (Nat × α) → Nat → α
  | [], k => d k
  | (j, v) :: t, k => if j = k then v else tabGet d t k

/-- The table without key `k`. -/
def tabErase {α : Type} : List (Nat × α) → Nat → List (Nat × α)
  | [], _ => []
  | (j, v) :: t, k => if j = k then t else (j, v) :: tabErase t k

/-- The table with key `k` holding `v`, in key order. -/
def tabInsert {α : Type} : List (Nat × α) → Nat → α → List (Nat × α)
  | [], k, v => [(k, v)]
  | (j, w) :: t, k, v =>
    if k < j then (k, v) :: (j, w) :: t
    else if j = k then (k, v) :: t
    else (j, w) :: tabInsert t k v

/-- A write that keeps the canonical form: a value equal to the unlisted one removes the entry. -/
def tabPut {α : Type} [DecidableEq α] (d : Nat → α) (t : List (Nat × α)) (k : Nat) (v : α) : List (Nat × α) :=
  if v = d k then tabErase t k else tabInsert t k v

/-- Every key of the table lies above `lo`, in rising order, and no entry reads as an unlisted key would. -/
def tabWfFrom {α : Type} [DecidableEq α] (d : Nat → α) : Option Nat → List (Nat × α) → Bool
  | _, [] => true
  | lo, (k, v) :: t =>
    (match lo with | none => true | some l => decide (l < k)) && decide (v ≠ d k) && tabWfFrom d (some k) t

/-- The canonical form. -/
def tabWf {α : Type} [DecidableEq α] (d : Nat → α) (t : List (Nat × α)) : Bool := tabWfFrom d none t

/-- Element `i` of a fixed array, changed by `f`. -/
def upd {α : Type} {n : Nat} (v : Vector α n) (i : Fin n) (f : α → α) : Vector α n := v.set i (f v[i])

end Sys2Proof.Machine
end

