-- ==== Sys2Proof/Machine/State.lean ====
section
/-! DEFINITION. The state of the part as plain data: the register file of the management address space, the memories,
and what each subsystem holds beside its registers; the reasons a step can stop; and the state after reset. -/

namespace Sys2Proof.Machine

/-! ### Modes and the keeper (chapters 16, 17, 19) -/

/-- The operating modes (R567). -/
inductive Mode where
  | shelf | boot | ready | service | lean | safe
  deriving DecidableEq, Repr

/-- An event waiting to be recorded (R581 to R583). `alarm` marks an event whose alarm parcel is sent whatever the event
enable holds (R581), `toOld` one whose alarm goes toward the former lease holder (R421). -/
structure Event where
  code : Nat
  ns : Nat
  args : List Byte
  alarm : Bool := false
  toOld : Option Nat := none
  /-- The core cycle in which it was raised: the tick, or for the effect of another event a later one (R581). -/
  cyc : Nat := 0
  /-- Its block's event enable named it then (R581, R613). -/
  enabled : Bool := false
  deriving DecidableEq, Repr

/-- A black-box freeze with the copy of the ring that it took (R588, R589, R593). -/
structure Freeze where
  trigger : Nat
  mode : Nat
  image : Nat
  cause : Nat
  nEntry : Nat
  firstSeq : Nat
  ns : Nat
  air : Nat
  quality : Nat
  version : Nat
  ltOn : Nat
  ring : List Byte
  deriving DecidableEq, Repr

/-- What the keeper's record machinery holds beside its registers (R583, R587 to R596). -/
structure Records where
  /-- Events waiting, oldest first, at most 64. -/
  queue : List Event := []
  /-- Events lost since the last event 0x000B. -/
  lost : Nat := 0
  /-- Black-box entries recorded since SHELF. -/
  bbCount : Nat := 0
  /-- The snapshot copy that is running, with its slot, and the slot written last. -/
  copy : Option (Nat × Freeze) := none
  lastSlot : Nat := 0
  /-- A CRITICAL event has been recorded, and its freeze follows once every event of its instant is recorded (R588, R589): its code. -/
  due : Option Nat := none
  /-- The freeze that waits for the running copy, by its trigger (R591). -/
  waiting : Option Nat := none
  /-- The event enables of blocks that were written, as they stood before the tick of the last write: block, tick, word (R613). -/
  enWas : List (Nat × Nat × Word) := []
  /-- The tick of the last event that reached fault_sev, and the code of the first one of that tick (R598). -/
  reached : Option (Nat × Nat) := none
  /-- The tick of the last entry written to a ring, and KPR_LOG_PTR and KPR_BB_PTR as they stood before that tick's entries (R585). -/
  ptrWas : Option (Nat × Word × Word) := none
  /-- The early-warning comparator has fired, so no further snapshot is taken (R591). -/
  earlyWarned : Bool := false
  /-- The shelve command's freeze has been taken and PWR_REQ falls when its snapshot is complete (R592). -/
  lowerAfter : Bool := false
  /-- Snapshots written over the part's life (R593). -/
  snapSeq : Nat := 0
  /-- Generation number of the newest lifetime copy (R651). -/
  ltGen : Nat := 0
  /-- Copy that takes the next save: false A, true B (R596). -/
  ltNextB : Bool := false
  /-- Ballast rows in use: (row replaced, ballast row) (R595). -/
  spares : List (Nat × Nat) := []
  deriving DecidableEq, Repr

/-- One record of a lock: the values of R555. -/
structure LockRec where
  pmaxPath : Nat := 0xFFFF
  pmaxTotal : Nat := 0xFFFF
  duty10 : Nat := 0xFF
  duty1s : Nat := 0xFF
  ranges : List (Nat × Nat) := []
  deriving DecidableEq, Repr

/-- One fuse bank: its bytes as written, or none while it is unwritten (R562, R563). -/
abbrev FuseBank := Option (List Byte)

/-- The fuses (R556, R562, R578, R579). The hashes are SHA-256 of public keys, X then Y. -/
structure Fuses where
  dieIdHi : Word := 0
  dieIdLo : Word := 0
  lockFuse : Bool := false
  revoked : Nat := 0
  keyHash : Vector (List Byte) 4 := Vector.replicate 4 (List.replicate 32 0)
  unlockHash : List Byte := List.replicate 32 0
  banks : Vector FuseBank 4 := Vector.replicate 4 none
  /-- The response of the ICN branch of each path's transmit and receive side at the tones of R133, measured at production (R341). -/
  icnTx : Vector Tones 64 := Vector.replicate 64 (Vector.replicate 9 (1, 0))
  icnRx : Vector Tones 64 := Vector.replicate 64 (Vector.replicate 9 (1, 0))
  deriving DecidableEq, Repr

/-- The pins that the keeper watches and drives (R546, R548, R572, R575, R597; chapter 19). -/
structure Pins where
  /-- VAON is above its brown-out level (R632). -/
  vaon : Bool := true
  resetN : Bool := false
  wake : Bool := true
  pgood0 : Bool := true
  pgood1 : Bool := true
  safeN : Bool := true
  biasClrN : Bool := true
  pwrReq : Bool := true
  /-- The supplies of the bias outputs are in range (R522). -/
  vddBias : Bool := true
  /-- The straps as latched at the last rising edge of RESET_N (R546). -/
  bootsel : Nat := 0
  pos : Nat := 0
  clrsel : Bool := false
  /-- XSPI pins released to the board after a halt (R557). -/
  xspiHiZ : Bool := false
  deriving DecidableEq, Repr

/-- What the keeper holds beside its registers. -/
structure Keeper where
  /-- The image has been applied since RESET_N release (end of record application in step 5 of R564). -/
  imageLoaded : Bool := false
  /-- Step 5 of the boot sequence has ended: writes are performed (R609). -/
  writesOpen : Bool := false
  /-- BOOT waits only for its ports (steps 6, 9 and 10 of R564). -/
  bootPorts : Bool := false
  /-- Step 10 has run out (R564). -/
  linkWaitOver : Bool := false
  /-- Tick at which step 9 ended and step 10 began (R564). -/
  portsAt : Option Nat := none
  /-- Tick at which steps 8 and 9 had both ended (R565). -/
  bootDone : Option Nat := none
  /-- Tick of the RESET_N release (R565). -/
  bootStart : Nat := 0
  /-- Tick at which BOOT halted (R557). -/
  haltedAt : Option Nat := none
  /-- Image region running: false A, true B. -/
  imageB : Bool := false
  /-- Key slot of the running image (R551). -/
  keySlot : Nat := 0
  /-- Length of the running image, and the SHA-256 digest of its bytes taken at boot (R551, R560). -/
  imageLen : Nat := 0
  digest : List Byte := []
  /-- The flash offers 8D-8D-8D and is read in that mode (R549). -/
  octal : Bool := false
  /-- The failing slot and symbol of the pattern pair that the refusal of image A, and of image B, is recorded with (R32, R125, R141). -/
  failA : Option (Nat × Nat) := none
  failB : Option (Nat × Nat) := none
  /-- The flash operation that is running: the offset, the bytes to program or none, and the number of bytes (R561). -/
  flashOp : Option (Nat × Option (List Byte) × Nat) := none
  /-- The alarm parcel of event 0x0001 waits for a port to come UP (R558). -/
  fallbackAlarm : Option Event := none
  /-- Stand-down waits for its anchor (R569). -/
  standDown : Bool := false
  /-- Go-live waits for its anchor (R569, R571). -/
  goLive : Bool := false
  /-- Tick at which TEMP was last seen inactive in SAFE (R573). -/
  tempClearAt : Option Nat := none
  /-- Shelving has begun: the snapshot runs, then PWR_REQ falls (R575, R592). -/
  shelving : Bool := false
  /-- A WAKE edge is held until shelving is complete (R575). -/
  wakeHeld : Bool := false
  /-- Tick at which PWR_REQ last fell (R575). -/
  pwrFell : Nat := 0
  /-- Tick at which PWR_REQ last rose. -/
  pwrRose : Nat := 0
  /-- The pieces of permitted frequency in force (R346). -/
  pieces : List (Nat × Nat) := []
  /-- No record places a limit on frequency (R346). -/
  anyFreq : Bool := true
  /-- The service port's status of its previous operation (R577). -/
  svcStatus : Nat := 0
  /-- An unlock challenge is held (R579). -/
  chalValid : Bool := false
  /-- Invalid responses since RESET_N (R579). -/
  unlockFails : Nat := 0
  unlocked : Bool := false
  deriving DecidableEq, Repr

/-! ### Air time and the TDD pattern (chapter 01) -/

/-- One TDD pattern (R26, R29, R30): the symbol codes hold direction in bits [3:2] and the F use in bits [1:0] (R554). -/
structure Pattern where
  nSlot : Nat
  kiteK : Nat
  calK : Nat
  syms : List Nat
  deriving DecidableEq, Repr

/-- The air timeline and the settings of the image's PATTERN record (R13 to R30, R42). -/
structure Air where
  /-- The alignment: the tick at which the timeline stood at the start of the frame `sfn`; none while unaligned (R24). -/
  origin : Option (Nat × Nat) := none
  ulAdvance : Nat := 1600
  cOpen : Nat := 1000
  cClose : Nat := 120
  uOpen : Nat := 500
  uClose : Nat := 60
  pats : List Pattern := []
  /-- The D symbol now on air, and the tick of its air start. -/
  onAir : Option AirSym := none
  onAirAt : Nat := 0
  /-- A downlink run is in progress (between an RX→TX and a TX→RX anchor of the pattern). -/
  inRun : Bool := false
  /-- Where the chip stands between the events of R35 and R36: LNAs protected, RX gates closed, RX input stages off. A quad
  that finishes its power-up meanwhile takes these levels (R33, R318). -/
  lnaProtected : Bool := false
  rxClosed : Bool := false
  rxOff : Bool := false
  deriving DecidableEq, Repr

/-! ### Paths (chapter 02) -/

/-- What one path holds beside its registers. -/
structure PathSt where
  /-- TX digital gate open (R64). -/
  txGate : Bool := false
  /-- Tick at which the gate last closed. -/
  txShut : Nat := 0
  /-- DAC output enabled (R36). -/
  dacOn : Bool := false
  /-- RX digital gate open and RX input stages enabled (R35, R36). -/
  rxGate : Bool := false
  rxStage : Bool := false
  /-- Host attenuation in force, 0.25 dB steps, back-off not included (R69, R544). -/
  atten : Nat := 127
  /-- AGC settings in force since the last arming: RXP_AGC_CFG and RXP_AGC_THR (R79). -/
  agcCfg : Word := 0
  agcThr : Word := 0x3300D8FA
  agcArmed : Bool := false
  /-- Ticks at which the index last froze and last left its frozen state (R83, R84). -/
  frozeAt : Nat := 0
  thawAt : Nat := 0
  /-- AGC windows evaluated since the first U symbol's air start (R81). -/
  agcWin : Nat := 0
  /-- The index changed at the end of the last window: the first 64 samples of the next are left out (R81). -/
  agcMoved : Bool := false
  /-- Consecutive failed checks of ADC slices 0 to 7 and of the ballast slice 8 (R72). -/
  sliceFails : Vector Nat 9 := Vector.replicate 9 0
  /-- A slice declared failed and not yet swapped out (R73). -/
  sliceDue : Option Nat := none
  /-- The most recent calibration since boot of each side: none, or whether it was within limits (R103). -/
  txCal : Option Bool := none
  rxCal : Option Bool := none
  /-- A retirement fell while a job or the start-up pass calibrated the side: its results are discarded (R102). -/
  txCalVoid : Bool := false
  rxCalVoid : Bool := false
  /-- Ticks at which each side last became live or retired (R104). -/
  txSince : Nat := 0
  rxSince : Nat := 0
  deriving DecidableEq, Repr

/-! ### Clocks (chapter 03) -/

/-- One PLL (R112 to R116). -/
structure PllSt where
  locked : Bool := false
  /-- Relock attempt running, 1 to 3, and the tick at which it began. -/
  attempt : Option Nat := none
  attemptAt : Nat := 0
  /-- All attempts failed at this tick; the next sequence starts 100 ms later (R116). -/
  exhausted : Option Nat := none
  deriving DecidableEq, Repr

/-- An accepted LO retune (R136, R138). -/
structure Retune where
  code : Nat
  /-- First frame boundary that may apply it: the write's tick plus 2 ms. -/
  notBefore : Nat
  deriving DecidableEq, Repr

/-- What the clock subsystem holds beside its registers. -/
structure Clocks where
  plls : Vector PllSt 4 := Vector.replicate 4 {}
  /-- REFCLK is declared lost (R108). -/
  refLost : Bool := false
  holdover : Bool := false
  /-- A relock declaration is awaited (R115): transmission is blanked. -/
  unlocked : Bool := false
  /-- Tick at which it was last declared. -/
  unlockAt : Nat := 0
  /-- The intervals without lock or reference that have ended, by their ticks, newest first (R114). -/
  outages : List (Nat × Nat) := []
  /-- Tick of the last relock declaration: blanking lasts for 2 µs more (R115, R330). -/
  relockAt : Option Nat := none
  retune : Option Retune := none
  /-- Settling of a retune began at this tick (R136). -/
  settling : Option Nat := none
  /-- Converter dividers stand at the phase of the most recent alignment (R118, R122). -/
  dividersAligned : Bool := false
  /-- LO code at the most recent array calibration (R135). -/
  cohLo : Option Nat := none
  /-- Re-centring requested at this tick and not yet run; whether its lateness was counted (R127, R128). -/
  recentreReq : Option Nat := none
  recentreLate : Bool := false
  recentring : Bool := false
  /-- A reference trim waits for an eligible window (R129); the trims applied (bin). -/
  trimDue : Bool := false
  trimBin : Nat := 0
  /-- Arrival delay of each leaf, and its reference since the last array calibration, in 0.05 ps (R120). -/
  arrival : Vector Int 17 := Vector.replicate 17 0
  leafRef : Vector (Option Int) 17 := Vector.replicate 17 none
  /-- The eligible window now open, by its end tick (R124). -/
  windowEnd : Nat := 0
  /-- Leaves already stepped in the open window (R121). -/
  stepped : List Nat := []
  /-- The image's compensation table, bins 0 to 75: VCO band offset and the DAC and ADC trims (R552, COMP). -/
  comp : List (List Int) := []
  /-- Reference trims in force (R129). -/
  refTrims : List Int := []
  deriving DecidableEq, Repr

/-! ### Pre-distorter and guard (chapter 08) -/

/-- One coefficient table of a bank: 520 words, table then entry (R282). -/
abbrev Coeffs := List Word

/-- A complex rational. -/
abbrev CRat : Type := Rat × Rat

/-- A complex integer. -/
abbrev CInt : Type := Int × Int

/-- What one bank of one path holds beside DPD_LUT and DPD_BANK_QUAL (R298, R299). -/
structure BankSt where
  /-- Updates in a row that improved nmse by less than 0.25 dB (R298), and reverts in a row (R299). -/
  flat : Nat := 0
  reverts : Nat := 0
  /-- The best nmse since TRACK was entered, as a ratio of powers (R298). -/
  best : Rat := 0
  deriving DecidableEq, Repr

/-- What is kept of the capture that an update comes from: its nmse as a ratio of powers, and the number of its visit (R299). -/
structure CapSrc where
  nmse : Rat
  visit : Nat
  deriving DecidableEq, Repr

/-- An aligned capture whose update is being computed (R296, R297): its bank, and x and e by sample. -/
structure Learning where
  bank : Nat
  src : CapSrc
  x : List CInt
  e : List CRat
  deriving DecidableEq, Repr

/-- What the pre-distorter and the guard hold for one path. -/
structure DpdPath where
  /-- Bank in force (R286). -/
  bank : Nat := 0
  /-- The shadow table: its bank, its coefficients, and whether it waits to take effect (R289). -/
  shadow : Option (Nat × Coeffs) := none
  shadowDue : Bool := false
  /-- The capture that produced the waiting update; none for a restore (R299). -/
  shadowSrc : Option CapSrc := none
  /-- Updates being computed (R297). -/
  updates : List Learning := []
  banks : Vector BankSt 8 := Vector.replicate 8 {}
  /-- On-period thresholds in force (R304). -/
  onPeriod : Bool := false
  /-- A trip has been recorded in this run or off period (R309). -/
  recorded : Bool := false
  /-- The threshold, in 0.01 dBm at FBn, above which the filtered envelope was found at the last comparison (R302). -/
  above : Option Int := none
  /-- The guard mute ends at the end of a calibration transmission rather than of the run (R305). -/
  muteCal : Bool := false
  /-- The gate bias was cleared by an on-period trip, or by an off-period trip (R307, R308). -/
  biasOn : Bool := false
  biasOff : Bool := false
  /-- Ticks of the recorded trips within the last second, newest first (R310). -/
  trips : List Nat := []
  deriving DecidableEq, Repr

/-- A visit of a logical receiver (R291 to R299). -/
structure Visit where
  /-- Its number among all visits. -/
  id : Nat := 0
  path : Fin 64
  bank : Nat
  /-- Ticks of the visit's start, from which visit_ms runs, of the route of the receiver that now stands in it, from which the 200 ns of R93 run,
  and of the last capture not discarded. -/
  routed : Nat
  settle : Nat
  lastCap : Nat
  /-- A capture is running; whether it is to be discarded (R295). -/
  capturing : Bool := false
  drop : Bool := false
  /-- The pre-distorter input that the capture records (R293). -/
  x : List CInt := []
  /-- A capture was taken in the symbol now on air (R293). -/
  symUsed : Bool := false
  /-- nmse of the capture whose update took effect and waits for its verifying capture (R299). -/
  verify : Option Rat := none
  deriving DecidableEq, Repr

/-- The pre-distorter and the guard as a whole. -/
structure Dpd where
  /-- The image's seeds: the cluster, the paths by bit, and the coefficients (R284, R552). -/
  seeds : List (Nat × Nat × Coeffs) := []
  paths : Vector DpdPath 64 := Vector.replicate 64 {}
  visits : Vector (Option Visit) 8 := Vector.replicate 8 none
  /-- Position in the circular visit list: the pair taken last (R291). -/
  lastPair : Option (Nat × Nat) := none
  /-- Visits begun so far. -/
  visitNo : Nat := 0
  /-- Of each quad, the reflected threshold in 0.01 dBm at REFLq above which the filtered envelope was found at the last comparison
  (R302). -/
  reflAbove : Vector (Option Int) 16 := Vector.replicate 16 none
  /-- Tick at which each bank last resolved (R290). -/
  lastUse : Vector (Option Nat) 8 := Vector.replicate 8 none
  /-- Recorded trips within the last second: tick and path, newest first (R311). -/
  window : List (Nat × Nat) := []
  deriving DecidableEq, Repr

/-! ### Radio sequencer (chapter 09) -/

/-- The states of a quad (R318). -/
inductive QuadState where
  | gated | rising | standby | receive | transmit | falling
  deriving DecidableEq, Repr

/-- One quad (R315 to R323). -/
structure Quad where
  st : QuadState := .gated
  paen : Bool := false
  trsw : Bool := false
  lnap : Bool := true
  /-- The power-up in progress or deferred was asked for by a calibration job (R320). -/
  forJob : Bool := false
  /-- Deferred request: true power-up, false power-down (R322). -/
  deferred : Option Bool := none
  /-- The quad was not in TRANSMIT at the start of the run now on air (R330). -/
  sitsOut : Bool := false
  /-- The current D symbol has been counted as blanked for this quad (R331). -/
  blankCounted : Bool := false
  /-- A quad-out job holds the quad (R336). -/
  quadOut : Bool := false
  /-- Tick at which FALLING began (R319). -/
  fallAt : Nat := 0
  deriving DecidableEq, Repr

/-- What asks for a set change (R326, R569). -/
inductive SetKind where
  | lean | goLive | standDown
  deriving DecidableEq, Repr

/-- A set change: the quads and the carriers that stay, and the tick of its anchor A; none while the timeline is unaligned
(R325 to R327). -/
structure SetChange where
  kind : SetKind
  quads : Nat
  carMask : Nat
  anchor : Option Nat
  deriving DecidableEq, Repr

/-- A calibration job or the start-up pass (R336 to R343). -/
structure CalJob where
  kind : Nat
  quads : Nat
  quadOut : Bool
  startup : Bool := false
  /-- Paths of which the job retired a side. -/
  retired : List Nat := []
  deriving DecidableEq, Repr

/-- A calibration window (R334): its use, 2 of active CAL symbols or 3 of OPEN ones, the tick from which the step under way can have run, and the
window's last tick. -/
structure CalWindow where
  use : Nat
  stepAt : Nat
  endsAt : Nat
  deriving DecidableEq, Repr

/-- A reciprocity burst (R342): the quad of the cascade under measurement, the ticks of its CAL group in SERVICE and LEAN, and whether its
turnaround has begun here. -/
structure Burst where
  quad : Fin 64
  span : Option (Nat × Nat) := none
  turn : Bool := false
  deriving DecidableEq, Repr

/-- What the sequencer holds beside its registers. -/
structure Seq where
  quads : Vector Quad 16 := Vector.replicate 16 {}
  /-- Quads of the active set and carriers in force (R325, R327). -/
  active : Nat := 0xFFFF
  carMask : Nat := 0xF
  /-- The set change under way (from A − 16 µs) and the one that waits. -/
  underway : Option SetChange := none
  waiting : Option SetChange := none
  job : Option CalJob := none
  /-- Background cycle position: PATH on quads 0 to 15, then ARRAY (R339). -/
  bgStep : Nat := 0
  /-- The item has begun, and the paths whose transmit or receive side was retired while it ran (R102). -/
  bgBegun : Bool := false
  bgVoidTx : Nat := 0
  bgVoidRx : Nat := 0
  /-- The path that a COUPLER job transmits on (R345). -/
  couplerTx : Option (Fin 64) := none
  /-- Tick at which PAENq rose for the burst in progress (R350). -/
  burstPa : Option Nat := none
  /-- The calibration window that steps run in (R334). -/
  window : Option CalWindow := none
  /-- The reciprocity burst in progress (R342), the lowest quad of the cascade that may have the next one, and the measurements gathered for
  the solution (R343). -/
  burst : Option Burst := none
  nextBurst : Nat := 0
  recipIn : List PairMeas := []
  /-- Transmit symbols of the last second: air-end tick and length in samples, newest first (R350). -/
  duty : List (Nat × Nat) := []
  /-- Blank every D symbol of the air symbols listed for duty (R350). -/
  dutyBlank : List AirSym := []
  /-- Scales held: the symbol, the chip position and the value (R349). -/
  scales : List (Nat × Nat × Nat) := []
  /-- Scale in force for the coming symbol. -/
  scale : Nat := 0x8000
  /-- The last COUPLER job: its path and the FBn and TXOUTn powers, 0.01 dBm (R345). -/
  coupler : Option (Nat × Int × Int) := none
  deriving DecidableEq, Repr

/-! ### Bias and housekeeping (chapter 15) -/

/-- Power state of a bias channel (R530). -/
inductive BiasPower where
  | off | rising | on | falling
  deriving DecidableEq, Repr

/-- One bias channel (R521 to R530). `src` holds the sources of R527 in the order of BIA_STAT: pin, SAFE, mode, gated,
guard, retirement, thermal. -/
structure BiasCh where
  target : Nat := 0
  queue : List Nat := []
  pwr : BiasPower := .on
  deferred : Option Bool := none
  src : BitVec 7 := 0
  /-- Powered up and not yet updated: at the clear code (R530). -/
  upHold : Bool := false
  /-- Tick of the last write to BIA_STAGE, and the word before the writes of that tick (R525). -/
  stage : Option (Nat × Word) := none
  /-- A management strobe loads at the next tick, code_off where set (R524). -/
  strobe : Option Bool := none
  deriving DecidableEq, Repr

/-- Judgement of one threshold: entered, with the counts to enter and to leave (R542). -/
structure ThrSt where
  entered : Bool := false
  enter : Nat := 0
  leave : Nat := 0
  deriving DecidableEq, Repr

/-- One temperature sensor: warn, hot and critical, and the last valid reading (R526, R539 to R542). -/
structure Sensor where
  thr : Vector ThrSt 3 := Vector.replicate 3 {}
  lastValid : Option Int := none
  /-- The image's 33-point table of a thermistor: ratio and reading (R552, THERM). -/
  table : List (Nat × Int) := []
  deriving DecidableEq, Repr

/-- What a running conversion of the housekeeping ADC belongs to (R532 to R538). -/
inductive Conv where
  | seq | guard (path : Nat) | oneshot (avg : Nat) | cal
  deriving DecidableEq, Repr

/-- A calibration of the housekeeping ADC (R538): offset as the sum of 1024 conversions of ground, gain as a fraction. -/
structure HkaCal where
  ofs1024 : Nat := 0
  num : Nat := 1
  den : Nat := 1
  deriving DecidableEq, Repr

/-- The production record of the keeper store (R344, R538): gains of the observation receivers and couplings and PA gains of
the paths in 0.01 dB, and the housekeeping calibration. It survives every power-down. -/
structure Prod where
  obsGain : Vector (Option Int) 9 := Vector.replicate 9 none
  coupling : Vector (Option Nat) 64 := Vector.replicate 64 none
  paGain : Vector (Option Int) 64 := Vector.replicate 64 none
  hka : Option HkaCal := none
  deriving DecidableEq, Repr

/-- What the converter was doing before a management request began to run (R536): the fields of `Hka` of these names. -/
structure HkaRun where
  conv : Option Conv
  convAt : Nat
  acc : Nat
  cnt : Nat
  settling : Bool
  deriving DecidableEq, Repr

/-- What the housekeeping ADC holds beside its registers. -/
structure Hka where
  sensors : Vector Sensor 28 := Vector.replicate 28 {}
  /-- The conversion that is selected, and the tick at which it starts after its settle time and any start-up. -/
  conv : Option Conv := none
  convAt : Nat := 0
  /-- Sum and number of the conversions of the result that is being averaged. -/
  acc : Nat := 0
  cnt : Nat := 0
  /-- Results that the pass's entry has given. -/
  taken : Nat := 0
  /-- The pass was settling when an urgent request broke in (R536). -/
  settling : Bool := false
  /-- Tick at which the last conversion ended (R535), and at which the last trigger came (R534). -/
  lastEnd : Option Nat := none
  trigAt : Option Nat := none
  /-- Ticks of the PAENq edges whose delayed trigger is still to come, oldest first (R534). -/
  edges : List Nat := []
  /-- A sequencer trigger waits for an urgent conversion to end (R536). -/
  trigWait : Bool := false
  /-- Consecutive results outside the limits of each compare slot (R537). -/
  outside : Vector Nat 32 := Vector.replicate 32 0
  /-- The calibration in force (R538). -/
  cal : HkaCal := {}
  /-- The result of the last guard request, with its path (R536). -/
  guardRes : Option (Nat × Nat) := none
  /-- The tick at which the last management request began to run, with what the converter did before it: the guard's request of that tick
  comes first (R536). -/
  urgent : Option (Nat × HkaRun) := none
  deriving DecidableEq, Repr

/-! ### Network time (chapter 12) -/

/-- A pending entry (R447): domain, sourcePortIdentity and sequenceId as bytes, the residence and ingress asymmetry in 2^−16 ns, and
the tick at which its Sync left. -/
structure Pend where
  key : List Byte
  add : Int
  at_ : Nat
  deriving DecidableEq, Repr

/-- The counter at a tick, with the increment that led up to it and the number of the tick modulo 3 (R433, R434). -/
structure Count where
  tick : Nat
  tns : Nat
  ns : Nat
  frac : Nat
  third : Nat
  no : Nat
  deriving DecidableEq, Repr

/-- What an eyelet finds in force (R437, R441, R448): TIM_GEN, the time quality, path_changed, and the trims of the ports, ingress and egress, in
2^−16 ns. -/
structure EyeletView where
  gen : Nat
  quality : Nat
  changed : Bool
  ing : Vector Int 2
  egr : Vector Int 2
  deriving DecidableEq, Repr

/-- What the time subsystem holds beside its registers. -/
structure Tim where
  /-- Latched at the arm of the epoch compare: epoch_ns, epoch_sfn and d (R450). -/
  epochNs : Nat := 0
  epochSfn : Nat := 0
  epochD : Nat := 0
  /-- The compare has fired, at this tick, and the alignment edge is awaited (R450). -/
  fired : Bool := false
  firedAt : Nat := 0
  /-- epoch_sfn latched at the setting of SYN_ALIGN.arm (R452). -/
  alignSfn : Nat := 0
  /-- Tick at which SYN_ALIGN.arm was set (R123). -/
  armAt : Nat := 0
  /-- The frame-edge reference, in 2^−32 ns (R452). -/
  ref : Nat := 0
  /-- Number of the last tick since the increment in force began, modulo 3 (R434). -/
  tickNo : Nat := 0
  /-- The fraction in force (R435). -/
  frac : Nat := 0x046AAAAB
  /-- An accepted increment that the next tick applies: incr_ns, fraction and third. -/
  incr : Option (Nat × Nat × Nat) := none
  /-- Where the counter stood right before each change of it or of its rate within the last 1 ms, the latest first (R437, R440). -/
  history : List Count := []
  /-- What an eyelet found in force from the end of a tick on, the latest first, as far back as 1 ms (R437, R441, R448). -/
  views : List (Nat × EyeletView) := []
  /-- Two-step Syncs that were forwarded, oldest first (R447). -/
  pend : List Pend := []
  deriving DecidableEq, Repr

/-! ### Front end (chapter 04) -/

/-- A requested carrier offset and the tick before which no frame boundary applies it (R143). -/
structure OffsetReq where
  code : Int
  notBefore : Nat
  deriving DecidableEq, Repr

/-- One channel of a symbol on the transmit side: the carrier, 4 for the kite band (R465); its gain, g_c times the clamp scale, in units of
2^−29 (R153, R348); its offset from the LO in 5 kHz; its subcarriers and its weight in a cancellation pulse (R157); and by path the c18
samples, CP first (R149). A path whose list is empty carries zeros. -/
structure TxChan where
  num : Nat
  gain : Nat
  ofs : Int
  width : Nat
  weight : Nat
  streams : List (List CInt)
  deriving DecidableEq, Repr

/-- A symbol that the transmit chain carries: its air start, its channels, the bank in force on each path (R286), the paths whose gate opens
with it (R64), and whether it is a D symbol (R159) rather than a beacon's. -/
structure TxSym where
  a : AirSym
  at_ : Nat
  chans : List TxChan
  banks : Vector Nat 64
  gates : Nat
  d : Bool
  deriving DecidableEq, Repr

/-- What one path's CFR output has shown since the frame began (R159): the largest and the summed |y|² and the number of samples, and by
carrier the energy of the cancellation pulses in its band and its own, each in its own unit of 2^−96. -/
structure CfrSt where
  top : Nat := 0
  sum : Nat := 0
  cnt : Nat := 0
  pulse : Vector Nat 4 := Vector.replicate 4 0
  car : Vector Nat 4 := Vector.replicate 4 0
  deriving DecidableEq, Repr

/-- What the front end holds beside its registers. -/
structure Dfe where
  /-- Carriers that the image enables, by bit (R139). -/
  enabled : Nat := 0
  /-- Offset in force of each carrier, in 5 kHz (R140). -/
  offset : Vector Int 4 := Vector.replicate 4 0
  request : Vector (Option OffsetReq) 4 := Vector.replicate 4 none
  /-- The D symbol on air and the one that ended where it began. -/
  tx : Option TxSym := none
  txPrev : Option TxSym := none
  cfr : Vector CfrSt 64 := Vector.replicate 64 {}
  /-- A frame has ended with the symbol that is still to pass through the chain: its figures are shown after that (R159). -/
  cfrDue : Bool := false
  /-- The last three output samples of each path's pre-distorter, which the conjugate taps reach (R63, R287). -/
  tail : Vector (List CInt) 64 := Vector.replicate 64 []
  /-- The frame boundary that last moved the LO or an offset, by its tick, and the LO code and the offsets before it (R145, R164). -/
  was : Option (Nat × Nat × Vector Int 4) := none
  deriving DecidableEq, Repr

/-! ### The link (chapters 10 and 11) -/

/-- A parcel that waits or is kept (R396, R398). Its sequence number is given when it is sent. -/
structure Parcel where
  plane : Nat
  sub : Nat
  judged : Bool := false
  /-- retx and the reserved bits of byte 1, as a forwarded parcel came with them (R398). -/
  bits : Nat := 0
  flow : Nat
  air : Nat
  payload : List Byte
  /-- The trailer is sent inverted (R426). -/
  stomp : Bool := false
  /-- Tick at which it was queued (R403, R404). -/
  at_ : Nat := 0
  /-- The counter and the last tick of a deadline on its departure (R53, R247, R279). -/
  due : Option (Nat × Nat) := none
  /-- Ingress port and ingress SOP stamp of a forwarded PTP message, and the ingress trim at that eyelet (R441, R445). -/
  ing : Option (Fin 2 × Stamp × Int) := none
  /-- A Delay_Req that the chip originates (R449). -/
  dreq : Bool := false
  deriving DecidableEq, Repr

/-- A parcel of a reliable queue that is kept until it is acknowledged (R408, R409). -/
structure Kept where
  seq : Nat
  parcel : Parcel
  sentAt : Nat
  resends : Nat := 0
  /-- Waits to be sent again. -/
  again : Bool := false
  deriving DecidableEq, Repr

/-- One queue of one port, egress and ingress (R398, R402 to R410). -/
structure QueueSt where
  /-- Parcels waiting to be sent, oldest first. -/
  wait : List Parcel := []
  /-- Next sequence number of the egress queue. -/
  nextSeq : Nat := 0
  /-- Unacknowledged copies, oldest first. -/
  kept : List Kept := []
  /-- The cumulative grant count last received (R405). -/
  granted : Nat := 0
  /-- Ingress: the expected sequence number. -/
  expect : Nat := 0
  /-- Ingress: credits granted so far, and credits freed and not yet granted (R405). -/
  given : Nat := 0
  freed : Nat := 0
  /-- The last NACK: the sequence it named and its tick (R407). -/
  nack : Option (Nat × Nat) := none
  /-- Ingress: the parcels that a spool of op 3 has put in, oldest first (R506, R512). -/
  held : List (List Byte) := []
  deriving DecidableEq, Repr

/-- The coder of one direction of a lane (R359, R360): the scrambler's register, and the run of equal bits with the last of them. -/
structure Coder where
  scr : Nat := 2 ^ 58 - 1
  run : Nat := 0
  last : Bool := false
  deriving DecidableEq, Repr

/-- The pattern checker of a lane (R394): its register, the bits that seeded it, correct bits in a row, whether it holds lock, the last bits since
the lock with true for an error, and the errors counted. -/
structure Checker where
  reg : Nat := 0
  seen : Nat := 0
  good : Nat := 0
  lock : Bool := false
  recent : List Bool := []
  errs : Nat := 0
  deriving DecidableEq, Repr

/-- What a port holds for one physical lane (R372 to R378, R384). -/
structure LaneSt where
  /-- Valid and invalid frames in a row. -/
  good : Nat := 0
  bad : Nat := 0
  /-- The partner's last frame on this lane: its physical lane, state code, done and rx_ready. -/
  phys : Nat := 0
  phase : Nat := 0
  done : Bool := false
  rdy : Bool := false
  /-- The partner's transmitter status and the request last sent on the transmit lane, as bytes 3 and 2 of their frames hold them (R375). -/
  stat : Nat := 0
  req : Nat := 0
  /-- A request has been made since the eye was last measured, with the eye figures before it; requests in a row that improved neither figure by
  more than one step; and rx_ready (R376). -/
  asked : Option (Nat × Nat) := none
  steady : Nat := 0
  ready : Bool := false
  /-- Status of the three coefficients of the transmit lane, pre, main and post (R375). -/
  status : Nat × Nat × Nat := (0, 0, 0)
  /-- Valid MARKERs in consecutive blocks, and the block and the tick of the last one: the ticks of the lanes are their skew (R356, R366, R377,
  R384). -/
  marks : Nat := 0
  block : Nat := 0
  markAt : Nat := 0
  /-- The coder of the transmit lane and of the receive lane (R359 to R361). -/
  tx : Coder := {}
  rx : Coder := {}
  /-- The tick from which on the transmit lane's line bits are still to come out, and runs of them to invert: the first bit and the number
  (R395). -/
  lineAt : Nat := 0
  /-- SKIP words sent since the last counted word of the transmit lane (R365). -/
  skips : Nat := 0
  flips : List (Nat × Nat) := []
  /-- The register of the pattern generator of the transmit lane in TEST (R394). -/
  gen : Nat := 0
  /-- Words of the receive lane's last block that were not valid, and MARKERs in a row with a bad CRC (R384). -/
  badWords : Nat := 0
  missed : Nat := 0
  checker : Checker := {}
  deriving DecidableEq, Repr

/-- A REMAP: the failed lane, as the lane of this chip and as the transmitter numbers it, the width after it and the switch block's low 16 bits
(R381, R385). -/
structure Remap where
  lane : Nat
  phys : Nat
  width : Nat
  block : Nat
  sentAt : Nat
  /-- REMAPs sent for the failure. -/
  tries : Nat := 1
  acked : Bool := false
  deriving DecidableEq, Repr

/-- A lane test that was announced: its pattern, its lanes, the MARKERs to go, and whether this side announced it (R393). -/
structure LaneTest where
  pattern : Nat
  lanes : Nat
  left : Nat
  own : Bool
  deriving DecidableEq, Repr

/-- A word set to be sent: a control set with its payload's bytes, or bytes of a parcel, which fill the set with zeros (R368). -/
inductive OutSet where
  | control (bs : List Byte)
  | data (first : Bool) (bs : List Byte)
  deriving DecidableEq, Repr

/-- What one port holds beside its registers. -/
structure PortSt where
  /-- Tick at which the present state began, and at which the last BEACON was sent. -/
  since : Nat := 0
  beaconAt : Nat := 0
  /-- Sequence number of the next frame, and the tick at which the next training frame begins (R372, R373). -/
  frameSeq : Nat := 0
  frameAt : Nat := 0
  lanes : Vector LaneSt 9 := Vector.replicate 9 {}
  /-- The partner's last healthy mask (R373, R378). -/
  txMask : Nat := 0
  /-- Block count of the last MARKER received (R385). -/
  rxBlock : Nat := 0
  /-- The last block whose MARKERs have come on every lane in use and on the ballast, the number of such blocks in a row without an overflow, and
  whether a deskew buffer has overflowed at the last of them (R366, R377). -/
  whole : Option Nat := none
  deskewed : Nat := 0
  overflow : Bool := false
  /-- The receive condition of ALIGN holds; a READY message has been received (R377, R383). -/
  aligned : Bool := false
  readyGot : Bool := false
  /-- A lane of the ingress direction has failed since training (R386). -/
  lost : Bool := false
  remap : Option Remap := none
  /-- Failures that wait: the block and the lane (R388). -/
  waiting : List (Nat × Nat) := []
  /-- Egress: the REMAP acted on, until its switch block (R385). -/
  txRemap : Option Remap := none
  test : Option LaneTest := none
  /-- Tick since which only IDLE sets have been sent, and of the DOZE entry (R390). -/
  idleSince : Nat := 0
  dozeAt : Nat := 0
  /-- Back-channel messages that wait for the direction to wake: message and arguments (R382). -/
  bchWait : List (Nat × Nat) := []
  /-- Word sets to be sent since the last MARKER (R364, R368). -/
  sets : List OutSet := []
  queues : Vector QueueSt 8 := Vector.replicate 8 {}
  /-- Tick since which the port has not been UP (R418). -/
  downAt : Nat := 0
  deriving DecidableEq, Repr

/-- What the parcel layer holds for the chip as a whole. -/
structure Pkt where
  ports : Vector PortSt 2 := Vector.replicate 2 {}
  /-- Management requests that wait, oldest first: the requester's code, the tick of arrival and the payload (R420, R421). -/
  requests : List (Nat × Nat × List Byte) := []
  /-- Bridle parcels consumed and not yet acted on: the port, the subtype, the flow id, the air stamp and the payload. -/
  bridle : List (Nat × Nat × Nat × Nat × List Byte) := []
  /-- Tick of the lease holder's last accepted WRITE, MEM_WRITE or LEASE_REQ (R421). -/
  leaseAt : Nat := 0
  /-- Symbols whose late output has been counted: the counter, the air stamp, and the last tick that was on time (R53). -/
  late : List (Nat × Nat × Nat) := []
  /-- Tick at which the last alarm of an event code was sent (R423). -/
  alarmAt : List (Nat × Nat) := []
  /-- The end in force has been set at the first UP (R417). -/
  firstUp : Bool := false
  deriving DecidableEq, Repr

/-! ### Kite beacons (chapter 13) -/

/-- The detector (R477). In RECEIVE it holds both peaks, the preamble SNR and power and the best beam. -/
inductive KiteDet where
  | search
  | candidate (p : KitePeak)
  | receive (p q : KitePeak) (snr : Nat) (power : Nat) (best : Nat)
  deriving DecidableEq, Repr

/-- What the kite modem holds beside its registers. -/
structure Kite where
  /-- The payload that is fixed for the window whose first symbol has this number (R472). -/
  payload : Option (Nat × List Byte) := none
  /-- First symbol of the window around which the chip turns round (R463). -/
  turn : Option Nat := none
  /-- First symbol of the window whose beacon is on air, whether a blanking interval has cut it, and the air end and length in samples that the
  duty list has of it (R473). -/
  beacon : Option AirSym := none
  cut : Bool := false
  span : Nat × Nat := (0, 0)
  /-- What the stages of R150 have taken in for the symbols of the beacon: the symbol's number, the column, the layer's gain and the clamp scale
  (R471). -/
  taken : List (Nat × List (Int × Int) × Nat × Nat) := []
  /-- The window whose beacon failed the duty check (R473). -/
  skip : Option Nat := none
  /-- Beacons sent (R470), and the peer entry echoed last (R481). -/
  sent : Nat := 0
  echoed : Nat := 15
  /-- First symbol of the window whose listen interval is open (R474). -/
  listen : Option Nat := none
  /-- Tick at which the listen interval opened, and the changes of gain index in it, the latest first: the path, the tick and the index before
  (R475, R476). -/
  openedAt : Nat := 0
  /-- Tick at which the listen interval ends (R474). -/
  endsAt : Nat := 0
  steps : List (Nat × Nat × Nat) := []
  det : KiteDet := .search
  /-- Tick of each peer entry's last OK record (R481). -/
  peerAt : Vector Nat 16 := Vector.replicate 16 0
  deriving DecidableEq, Repr

/-! ### Memory and spools (chapter 14) -/

/-- What the check code says of a unit, a DRAM block with its address or an SRAM word (R486, R491, R492): intact, one bit `bit` wrong, more than
one, read back from the address of another block, or poisoned. Memory holds the bytes as a reader gets them: of `single` the corrected ones, of
`double` the wrong ones. -/
inductive Mark where
  | ok
  | single (bit : Nat)
  | double
  | astray (block : Nat)
  | poison
  deriving DecidableEq, Repr

/-- A DRAM request at its channel (R496, R497), within one 64-byte block: its class by origin, memory address and bytes, what it
writes and whether that was read uncorrectable (R518), its tick of arrival, the spool (0x3F for none), and whether it was promoted by age. -/
structure DramReq where
  class_ : Nat
  addr : Nat
  n : Nat
  data : Option (List Byte)
  at_ : Nat
  spool : Nat
  poison : Bool := false
  promoted : Bool := false
  deriving DecidableEq, Repr

/-- One DRAM channel (R494 to R502): requests that wait, oldest first, open rows and postponed refreshes by rank × 16 + bank, and what
retraining waits for. -/
structure DramCh where
  queue : List DramReq := []
  rows : List (Nat × Nat) := []
  postponed : List (Nat × Nat) := []
  /-- The refresh rate last read (R499). -/
  rate : Nat := 0
  /-- Ticks at which each rank's last request came or was performed (R502). -/
  lastReq : Vector Nat 2 := Vector.replicate 2 0
  /-- A retrain step is due in the next OPEN symbol; and one that is forced waits for the end of a gather window (R500). -/
  stepDue : Bool := false
  forceDue : Bool := false
  /-- Tick until which a retrain step blocks the channel (R500). -/
  blocked : Nat := 0
  deriving DecidableEq, Repr

/-- The descriptor that a spool works on (R506 to R519): its ring index, its fields, and how far it is. -/
structure Desc where
  index : Nat
  op : Nat
  event : Bool
  queue : Nat
  esize : Nat
  src : Nat
  dst : Nat
  len : Nat
  table : Nat
  down : Bool := false
  /-- The offsets of op 1, read before its first element (R508). -/
  elems : List (Nat × Nat) := []
  /-- Bytes or elements moved, and the first element or byte with an uncorrectable mark. -/
  done : Nat := 0
  ue : Option Nat := none
  /-- Op 3: bytes read that do not yet make a whole parcel (R512). -/
  stage : List Byte := []
  deriving DecidableEq, Repr

/-- One spool, beside its registers: its state is that of SPL_STAT. -/
structure Spool where
  cur : Option Desc := none
  /-- Stopped by pacing (R512). -/
  paced : Bool := false
  /-- A pause or an abort drains (R514, R515); a power domain waits since the tick (R516). -/
  draining : Bool := false
  aborting : Bool := false
  powerAt : Option Nat := none
  deriving DecidableEq, Repr

/-- The memories: DRAM and SRAM bytes by memory address, and the marks of DRAM blocks (address / 64) and SRAM words
(address / 8). -/
structure Mem where
  cells : List (Nat × Byte) := []
  marks : List (Nat × Mark) := []
  /-- The bytes that something has written in the SRAM whose layout the spec does not give (R485). -/
  wrote : List (Nat × Bool) := []
  chans : Vector DramCh 2 := Vector.replicate 2 {}
  /-- Blocks scrubbed in the present pass (R501). -/
  scrubbed : Nat := 0
  spools : Vector Spool 32 := Vector.replicate 32 {}
  /-- The spool whose beats came last (R513). -/
  turn : Fin 32 := 31
  deriving DecidableEq, Repr

/-! ### Orders, layer data and symbols (chapters 01, 04, 05, 11) -/

/-- A downlink section (R411). `cols` holds the bytes of inline columns. -/
structure DlSec where
  id : Nat
  first : Nat
  n : Nat
  l0 : Nat
  nLayer : Nat
  kind : Nat
  wide : Bool
  cluster : Nat
  fb : Nat
  value : Nat
  cols : List Byte
  deriving DecidableEq, Repr

/-- A user group of an uplink section (R249, R411). -/
structure UserGroup where
  scid : Bool
  ptrs : Bool
  nLay : Nat
  ports : List Nat
  nId : Nat
  lPt : Nat
  kPt : Nat
  reOfs : Nat
  assoc : Nat
  deriving DecidableEq, Repr

/-- An uplink section (R249, R411). -/
structure UlSec where
  id : Nat
  first : Nat
  n : Nat
  start : Nat
  nSym : Nat
  combine : Bool
  passthru : Bool
  dmrs2 : Bool
  dmrsDouble : Bool
  cdm : Nat
  estFirst : Bool
  l0 : Nat
  nLayer : Nat
  mask : Nat
  kind : Nat
  nCol : Nat
  fb : Nat
  value : Nat
  users : List UserGroup
  cols : List Byte
  deriving DecidableEq, Repr

/-- An SRS section (R169, R411): the comb is 2, 4 or 8, or 0 for the reserved code. -/
structure SrsSec where
  id : Nat
  start : Nat
  nSym : Nat
  comb : Nat
  ofs : Nat
  first : Nat
  n : Nat
  deriving DecidableEq, Repr

/-- A PRACH section (R166 to R168, R273, R411). -/
structure PrachSec where
  id : Nat
  format : Nat
  start : Nat
  first : Nat
  root : Nat
  zcz : Nat
  deriving DecidableEq, Repr

/-- One port of a solve section: the id of its SRS section, cyclic shift and sequence identity (R215). -/
structure SolvePort where
  srs : Nat
  ncs : Nat
  nId : Nat
  deriving DecidableEq, Repr

/-- A solve section (R215, R411). -/
structure SolveSec where
  id : Nat
  tag : Nat
  writeLast : Bool
  exportEst : Bool
  last : Nat
  ports : List SolvePort
  deriving DecidableEq, Repr

/-- A section of an order (R411). -/
inductive Sec where
  | dl (d : DlSec)
  | ul (u : UlSec)
  | srs (x : SrsSec)
  | prach (x : PrachSec)
  | solve (x : SolveSec)
  deriving DecidableEq, Repr

/-- An order (R411). -/
structure Order where
  ul : Bool
  leanReq : Bool
  leanPaths : Nat
  nSym : Nat
  secs : List Sec
  deriving DecidableEq, Repr

/-- A section that was accepted: its carrier, slot and arrival number, and what later sections have left of it: for each symbol
of the slot the PRBs, by bit (R414). -/
structure Held where
  no : Nat
  car : Nat
  slot : Nat
  sec : Sec
  cover : List (Nat × Nat)
  /-- Refused under R202: it covers no PRB and keeps its cluster (R206). -/
  refused : Bool := false
  deriving DecidableEq, Repr

/-- One parcel of layer data in the window buffer (R415, R416): the PRBs that newer data has left of it, by bit, and its BFP
run. -/
structure Udl where
  car : Nat
  sym : Nat
  layer : Nat
  left : Nat
  first : Nat
  width : Nat
  run : List Byte
  deriving DecidableEq, Repr

/-- A weight column (R176, R184): 64 words, path 0 first. -/
abbrev Column := List Word

/-- A column's name in the weight cache (R190). -/
structure ColKey where
  last : Nat
  version : Nat
  group : Nat
  col : Nat
  deriving DecidableEq, Repr

/-- What a section's symbol has become of its beam source (R55, R203): of a kind-0 source the bank and version that are fixed,
and whether the section falls back. -/
structure Fixed where
  bank : Nat := 0
  version : Nat := 0
  fallback : Bool := false
  /-- A fetch for it is outstanding (R187). -/
  fetching : Bool := false
  /-- The columns of the fixed version, as they stand from the column deadline on (R55, R203). -/
  cols : List (ColKey × Column) := []
  deriving DecidableEq, Repr

/-- A section in one symbol whose commit point has passed. -/
structure JobSec where
  no : Nat
  sec : Sec
  prbs : Nat
  refused : Bool := false
  fixed : Option Fixed := none
  deriving DecidableEq, Repr

/-- A carrier in one symbol whose commit point has passed: ordered or not, its sections, its layer data, whether R151 zeros it, and from
the column deadline on its antenna values by path and RE, an empty list for a path of zeros (R178). -/
structure JobCar where
  ordered : Bool := false
  secs : List JobSec := []
  data : List Udl := []
  gain : Nat := 0x4000
  dlGain : Nat := 0x8000
  zeroed : Bool := false
  ant : List (List CInt) := []
  /-- What R48 and R49 count when the symbol is sent: no valid order, and the sections without data. -/
  noOrder : Bool := false
  noData : Nat := 0
  deriving DecidableEq, Repr

/-- A symbol whose commit point has passed (R46). -/
structure SymJob where
  a : AirSym
  cars : Vector JobCar 4 := Vector.replicate 4 {}
  /-- No carrier has an order and the chip is in LEAN: every TX gate stays closed (R328). -/
  dark : Bool := false
  /-- The duty limits blank the symbol (R350). -/
  duty : Bool := false
  /-- Quads that the thermal rules mute in this symbol (R545). -/
  muted : Nat := 0
  /-- The resolved cluster (R205). -/
  cluster : Option Nat := none
  /-- The clamp scale to apply (R348, R349). -/
  scale : Nat := 0x8000
  deriving DecidableEq, Repr

/-- A last's entry in the directory (R185 to R189). -/
structure DirEntry where
  valid : Bool := false
  busy : Bool := false
  mgmt : Bool := false
  bank : Nat := 0
  bw : Nat := 0
  nCol : Nat := 0
  version : Nat := 0
  deriving DecidableEq, Repr

/-- A write grant of a last that is wanted or held (R186, R187): by management, or by the solve with a tag and carrier. -/
structure Grant where
  last : Nat
  mgmt : Bool
  tag : Nat := 0
  car : Nat := 0
  /-- Columns and bandwidth code of the version to be written. -/
  nCol : Nat := 0
  bw : Nat := 0
  /-- The bank granted; none while a fetch holds the grant back. -/
  bank : Option Nat := none
  deriving DecidableEq, Repr

/-- The beam matrix and the window buffer. -/
structure Bmx where
  /-- Sections accepted and not yet fixed, in the order of their arrival; the arrival number of the next. -/
  held : List Held := []
  nextNo : Nat := 0
  /-- Symbols that an accepted order names: the carrier, the symbol and the direction (R48, R50). -/
  ordered : List (Nat × Nat × Bool) := []
  udl : List Udl := []
  /-- Symbols whose commit point has passed (R46). -/
  jobs : List SymJob := []
  dir : List (Nat × DirEntry) := []
  grants : List Grant := []
  /-- Columns resident, most recently used first, and columns that wait to be placed (R190 to R193). -/
  cache : List (ColKey × Column) := []
  waits : List (ColKey × Column) := []
  /-- Columns gathered at a weight fetch point that no column deadline has seen yet, in the order of their gathering (R195). -/
  fresh : List ColKey := []
  /-- Fetches outstanding: the symbol, the last and the bank (R187). -/
  fetches : List (Nat × Nat × Nat) := []
  /-- Cluster of the last D symbol (R205). -/
  lastCluster : Nat := 0
  deriving DecidableEq, Repr
/-! ### The weight solver and the uplink receiver (chapters 06 and 07) -/

/-- A Gram block (R226, R241): the upper triangle, its exponent, live antennas, noise sum and contributors. -/
structure Gram where
  gm : List CInt
  eg : Int
  nLive : Nat
  ns : Rat
  contrib : Nat
  deriving DecidableEq, Repr

/-- An inverse block (R228, R231, R241). -/
structure Inverse where
  am : List CInt
  ea : Int
  nLive : Nat
  sm : Nat
  es : Int
  contrib : Nat
  prev : Bool
  cause : Nat
  deriving DecidableEq, Repr

/-- The figures of R248 that one group adds: the sum over ports of G_ii / (N σ²), off-diagonal and diagonal power of M, and the
smallest pivot. -/
structure Figures where
  snr : Rat
  off : Rat
  dia : Rat
  piv : Rat
  deriving DecidableEq, Repr

/-- One PRB group of a solve on this chip: the scaled estimate by antenna and port with its exponent, the noise, the Gram block to
send, the inverse, and the rows by antenna and column; `copied` says that the columns of the
committed version stand in their place (R231). -/
structure SolveGroup where
  g : Nat
  h16 : List (List CInt)
  eh : Int
  sig2 : Nat
  own : Gram
  sent : Bool := false
  inv : Option Inverse := none
  rows : Option (List (List CInt)) := none
  copied : Bool := false
  capped : Nat := 0
  figures : Option Figures := none
  deriving DecidableEq, Repr

/-- A solve in flight (R215 to R221). `anchor` is its anchor's symbol and `at_` the tick of the anchor; `live` holds the antennas by
bit. `ended` says that it committed or never will, `written` that its last is fully written (R245). -/
structure Solve where
  car : Nat
  sec : SolveSec
  srs : List SrsSec
  slot : Nat
  anchor : Nat
  at_ : Nat
  anchored : Bool := false
  live : Nat := 0
  dropped : Bool := false
  written : Bool := false
  ended : Bool := false
  exported : Bool := false
  groups : List SolveGroup := []
  /-- Blocks received from downstream, by group (R239). -/
  downs : List (Nat × Gram) := []
  /-- Inverse blocks that came before this chip had formed their groups, by group (R243). -/
  early : List (Nat × Inverse) := []
  deriving DecidableEq, Repr

/-- FFT output of a symbol by carrier, antenna and subcarrier, and the path maps at its window's start (R104, R152). -/
structure Fft where
  sym : Nat
  grid : List (List (List CInt))
  txMap : Nat
  rxMap : Nat
  deriving DecidableEq, Repr

/-- The beam matrix output of a section in a symbol as this chip has it: the PRBs that the section covers there, by bit, the chips that
it holds, and the values by dimension and RE of the section's range; whether it was sent on, and whether the receiver's output of it is done (R211, R213,
R252, R265, R430). -/
structure UlOut where
  sym : Nat
  car : Nat
  no : Nat
  sec : UlSec
  prbs : Nat
  contrib : Nat
  z : List (List CInt)
  sent : Bool := false
  done : Bool := false
  deriving DecidableEq, Repr

/-- A RETURN that was received and not yet used (R429, R430). -/
structure Ret where
  sym : Nat
  car : Nat
  id : Nat
  combine : Bool
  contrib : Nat
  dimFirst : Nat
  first : Nat
  n : Nat
  z : List (List CInt)
  deriving DecidableEq, Repr

/-- An estimate occasion of a section, complete (R256 to R261): its first symbol, the PRBs covered there, the estimate by layer, PRB of the
section's range and dimension, the correlation of R257 by layer, the filter by PRB, layer and dimension, beta by PRB and layer, and
the SINR codes by layer and PRB. -/
structure Occ where
  car : Nat
  no : Nat
  sym : Nat
  prbs : Nat
  h : List (List (List CRat))
  corr : List CRat
  w : List (List (List CRat))
  beta : List (List Rat)
  codes : List (List Nat)
  reported : Bool := false
  deriving DecidableEq, Repr

/-- The PTRS phase that a user group holds (R264): carrier, section, user, occasion and the phase in cycles. -/
structure Phase where
  car : Nat
  no : Nat
  user : Nat
  occ : Nat
  cycles : Rat
  deriving DecidableEq, Repr

/-- A PRACH occasion to be detected (R166, R273, R278): what its symbols have given so far, each with the DDC samples by antenna; the ADC
samples that clip inside its windows; and the path maps of its first symbol (R104). -/
structure PrachOcc where
  car : Nat
  sym : Nat
  sec : PrachSec
  parts : List (Nat × List (List CInt)) := []
  clip : Nat := 0
  maps : Nat × Nat := (0, 0)
  deriving DecidableEq, Repr

/-- The pdp of one logical root received from another chip (R275, R429). -/
structure PrachPdp where
  src : Nat
  car : Nat
  sym : Nat
  id : Nat
  root : Nat
  exp : Int
  pdp : List Nat
  deriving DecidableEq, Repr

/-- Figures of a slot (R266, ULR_QUAL): the slot, SINR codes summed and counted, and the layer streams by bit. -/
structure SlotQual where
  slot : Nat := 0
  sum : Nat := 0
  cnt : Nat := 0
  layers : Nat := 0
  deriving DecidableEq, Repr

/-- The weight solver and the uplink receiver. -/
structure Ulr where
  solves : List Solve := []
  ffts : List Fft := []
  /-- U symbols without output (R114). -/
  lost : List Nat := []
  outs : List UlOut := []
  returns : List Ret := []
  /-- Symbols of which this chip may send returns (R431), and those whose cut-off has passed (R270). -/
  sending : List Nat := []
  cut : List Nat := []
  occs : List Occ := []
  phases : List Phase := []
  prach : List PrachOcc := []
  prachIn : List PrachPdp := []
  /-- Survey averages by (carrier × 69 + group) × 64 + beam, and surveys not yet in them: window end, carrier, group and powers
  (R254, R255). -/
  pw : List (Nat × Nat) := []
  surveys : List (Nat × Nat × Nat × List Nat) := []
  /-- Selected sets that differ from the default, by carrier × 69 + group (R253). -/
  sel : List (Nat × List Nat) := []
  /-- The slot from which these sets are in force, the sets of the slot before it, and the number of selections so far. -/
  selSlot : Option Nat := none
  selOld : List (Nat × List Nat) := []
  selNo : Nat := 0
  /-- A slot with a non-zero average has come (R255). -/
  started : Bool := false
  qual : Vector SlotQual 4 := Vector.replicate 4 {}
  deriving DecidableEq, Repr


/-! ### Why a step can stop -/

/-- Reasons to stop with a fault. There is none: every command of the part leaves a next state, and a condition that the
manual calls an error (a bad address, a broken frame, a memory error) is a reply, an event or a count in that state. -/
inductive Fault where
  deriving DecidableEq, Repr

/-- Reasons to refuse a command. -/
inductive Refusal where
  /-- The command has no meaning in the model yet; raised by its arm of `exec` alone. Safe: nothing follows from it. -/
  | notModelled (mnemonic : String)
  deriving DecidableEq, Repr

/-! ### The whole machine -/

/-- What commands have put on the lines of the part. -/
inductive Output where
  /-- Bytes of the service port's reply (R577). -/
  | svc (bytes : List Byte)
  /-- A parcel sent on port `u` (R396). -/
  | parcel (u : Nat) (bytes : List Byte)
  /-- A back-channel message sent on port `u` (R381). -/
  | bch (u : Nat) (bytes : List Byte)
  /-- MARKERs sent on port `u`: each lane's payload, after its SKIP words (R363 to R365). -/
  | marker (u lane skips : Nat) (bytes : List Byte)
  /-- Line bits of lane `lane` of port `u`, the first sent first (R358 to R360). -/
  | line (u lane : Nat) (bits : List Bool)
  /-- A training frame sent on a lane of port `u`: marker and body as half-bits, and the register from which its PRBS15 segment runs (R372,
  R373). -/
  | frame (u lane : Nat) (half : List Bool) (prbs : Nat)
  /-- A BEACON frame sent on lane 0 of port `u`, as half-bits (R380). -/
  | beacon (u : Nat) (half : List Bool)
  /-- The nine tones of R133 that path `p` begins to send in a reciprocity burst, shifted by `offset` subcarriers (R342). -/
  | tones (p offset : Nat)
  /-- A SLEEP set sent on port `u` (R390). -/
  | sleep (u : Nat) (nap : Bool)
  /-- Bits inverted on a transmit lane (R395). -/
  | inject (u lane bits : Nat)
  deriving DecidableEq, Repr

/-- The state of the part. -/
structure State where
  /-- Timing ticks of 983.04 MHz since power-up (R109). -/
  now : Nat := 0
  mode : Mode := .boot
  /-- The registers that differ from their reset values, by address. -/
  regs : List (Nat × Word) := []
  air : Air := {}
  paths : Vector PathSt 64 := Vector.replicate 64 {}
  clk : Clocks := {}
  dpd : Dpd := {}
  seq : Seq := {}
  bias : Vector BiasCh 80 := Vector.replicate 80 {}
  hka : Hka := {}
  kpr : Keeper := {}
  rcd : Records := {}
  pins : Pins := {}
  fuses : Fuses := {}
  tim : Tim := {}
  dfe : Dfe := {}
  pkt : Pkt := {}
  bmx : Bmx := {}
  ulr : Ulr := {}
  kte : Kite := {}
  mem : Mem := {}
  /-- The network time counter: nanoseconds in units of 2^−32 ns (R434). -/
  tns : Nat := 0
  /-- The production record of the keeper store (R344, R538). -/
  prod : Prod := {}
  /-- The keeper store as physical bytes, row × 64 + byte (R595), and the flash (R549): the bytes that differ from what an unwritten one
  reads as. -/
  store : List (Nat × Byte) := []
  flash : List (Nat × Byte) := []
  /-- The model's own counter of free values taken: `Config.free` applied to it is a value that the spec leaves open. It is no
  state of the part. -/
  freeIdx : Nat := 0
  /-- The model's own record of what the part has put on its lines, newest first. -/
  out : List Output := []
  pending : List Instr := []
  deriving DecidableEq, Repr

/-- The part right after reset (R7, R316, R522, R548): RESET_N low, no image loaded, every register at its reset value, memory with
nothing listed. -/
def State.reset : State := {}

/-- What a meaning answers. -/
abbrev Res : Type := Host.Outcome State Fault Refusal

end Sys2Proof.Machine
end

