-- ==== Sys2Proof/Machine/Flags.lean ====
section
/-! DEFINITION. The computations behind status fields: fields of a word, saturation and rounding, the severity of an
event (R580, R602), the timing-tick comparisons, and the status that is a view of other state (SAFE causes active, the
FAULT_N condition). -/

namespace Sys2Proof.Machine

/-! ### Fields, saturation, rounding -/

/-- Bits [hi:lo] of a word as a number. -/
def fldOf (w : Word) (hi lo : Nat) : Nat := w.toNat / 2 ^ lo % 2 ^ (hi + 1 - lo)

/-- The word with bits [hi:lo] set to `v` (taken modulo the field's width). -/
def putFld (w : Word) (hi lo v : Nat) : Word :=
  BitVec.ofNat 32 (w.toNat - fldOf w hi lo * 2 ^ lo + v % 2 ^ (hi + 1 - lo) * 2 ^ lo)

/-- Bit `i` of a number. -/
def bitOf (n i : Nat) : Bool := n / 2 ^ i % 2 = 1

/-- A number with bit `i` set or clear. -/
def setBitTo (n i : Nat) (b : Bool) : Nat :=
  if bitOf n i = b then n else if b then n + 2 ^ i else n - 2 ^ i

/-- The number with exactly the bits `i` below `n` for which `f` holds. -/
def maskOf (n : Nat) (f : Nat → Bool) : Nat := (List.range n).foldl (fun m i => if f i then m + 2 ^ i else m) 0

/-- An unsigned number of `w` bits read as two's complement. -/
def signedOf (w n : Nat) : Int := if n < 2 ^ (w - 1) then (n : Int) else (n : Int) - 2 ^ w

/-- A signed number as `w` bits of two's complement. -/
def toBits (w : Nat) (x : Int) : Nat := (x % 2 ^ w).toNat

/-- Saturation to [lo, hi]. -/
def satInt (lo hi x : Int) : Int := if x < lo then lo else if hi < x then hi else x

/-- `n / d` rounded half away from zero (R63, R77), for positive `d`. -/
def roundDiv (n : Int) (d : Nat) : Int :=
  if 0 ≤ n then (2 * n + d) / (2 * d) else - ((2 * (-n) + d) / (2 * d))

/-- Saturating addition at the width of a counter (R9). -/
def satAdd (a b : Nat) : Nat := if a + b ≤ 0xFFFFFFFF then a + b else 0xFFFFFFFF

/-! ### Time -/

/-- Timing ticks in one second (R109). -/
def ticksPerS : Nat := 983040000

/-- At least `ns` nanoseconds lie in `d` timing ticks. -/
def nsPassed (d ns : Nat) : Bool := ns * 3072 ≤ d * 3125

/-- At least `us` microseconds lie in `d` timing ticks. -/
def usPassed (d us : Nat) : Bool := nsPassed d (us * 1000)

/-- At least `ms` milliseconds lie in `d` timing ticks. -/
def msPassed (d ms : Nat) : Bool := ms * 983040 ≤ d

/-! ### Modes and events -/

/-- The code of a mode in KPR_MODE and in event 0x0003; SHELF, in which no register is reachable, takes 0 as in R593. -/
def modeCode : Mode → Nat
  | .shelf => 0
  | .boot => 1
  | .ready => 2
  | .service => 3
  | .lean => 4
  | .safe => 5

/-- SERVICE or LEAN. -/
def Mode.live : Mode → Bool
  | .service | .lean => true
  | _ => false

/-- Severity of an event code (R580, R602): 0 INFO, 1 MINOR, 2 MAJOR, 3 CRITICAL. -/
def severity (code : Nat) : Nat :=
  match code / 256, code % 256 with
  | 0x00, 0x02 | 0x00, 0x04 | 0x00, 0x05 => 3
  | 0x00, 0x07 | 0x00, 0x0A | 0x00, 0x0B => 2
  | 0x00, 0x09 => 0
  | 0x00, _ => 1
  | 0x01, 0x02 => 2
  | 0x01, 0x05 => 0
  | 0x01, _ => 1
  | 0x02, 0x01 | 0x03, 0x01 => 1
  | 0x02, 0x05 | 0x03, 0x05 => 0
  | 0x02, _ | 0x03, _ => 2
  | 0x04, 0x01 => 2
  | 0x04, _ => 1
  | 0x05, 0x03 => 1
  | 0x05, _ => 2
  | 0x06, 0x03 => 0
  | 0x06, _ => 1
  | 0x07, 0x02 => 1
  | 0x07, _ => 0
  | 0x08, 0x01 | 0x08, 0x02 => 2
  | 0x08, 0x03 => 3
  | 0x08, 0x05 => 1
  | 0x08, _ => 0
  | 0x09, 0x01 | 0x0A, 0x01 => 2
  | 0x09, _ | 0x0A, 0x02 => 0
  | 0x0A, _ => 1
  | 0x0D, _ | 0x0E, _ | 0x0F, _ | 0x11, _ => 1
  | 0x12, _ => 2
  | 0x13, 0x01 => 1
  | 0x13, 0x03 => 2
  | 0x13, 0x05 => 3
  | _, _ => 0

/-- `n` in `k` bytes, most significant first (R12). -/
def bytesOf (k n : Nat) : List Byte := (List.range k).map fun i => BitVec.ofNat 8 (n / 256 ^ (k - 1 - i))

/-- Bytes read as one number, most significant first (R12). -/
def natOf (bs : List Byte) : Nat := bs.foldl (fun a b => a * 256 + b.toNat) 0

/-- The arguments of an event, each in its number of bytes, packed into bytes 8 to 15 of its records (R582). -/
def packArgs (args : List (Nat × Nat)) : List Byte :=
  ((args.map fun (k, v) => bytesOf k v).flatten ++ List.replicate 8 0).take 8

end Sys2Proof.Machine
end

