-- ==== Sys2Proof/Machine/RegNames.lean ====
section
/-! DEFINITION. The addresses of the registers by the names the spec gives them (R603, R615): one definition per
register; an array takes its instance numbers, outermost first. `u` is 0 for the UP port's block and 1 for the DN
port's wherever the two lane blocks LNU and LND share one layout (chapter 10). -/

namespace Sys2Proof.Machine.Reg

@[simp] abbrev KPR_MODE : Nat := 0
@[simp] abbrev KPR_MODE_CMD : Nat := 4
@[simp] abbrev KPR_SAFE_CAUSE : Nat := 8
@[simp] abbrev KPR_SAFE_CFG : Nat := 0xC
@[simp] abbrev KPR_BOOT_STAT : Nat := 0x10
@[simp] abbrev KPR_BOOT_CFG : Nat := 0x14
@[simp] abbrev KPR_BOOT_NEXT : Nat := 0x18
@[simp] abbrev KPR_BOOT_TIME : Nat := 0x1C
@[simp] abbrev KPR_IMG_VER : Nat := 0x20
@[simp] abbrev KPR_LOCK_STAT : Nat := 0x24
@[simp] abbrev KPR_DIE_ID_HI : Nat := 0x28
@[simp] abbrev KPR_DIE_ID_LO : Nat := 0x2C
@[simp] abbrev KPR_KEY_REVOKE : Nat := 0x30
@[simp] abbrev KPR_FLASH_CTL : Nat := 0x34
@[simp] abbrev KPR_FLASH_OFS : Nat := 0x38
@[simp] abbrev KPR_FLASH_SRC : Nat := 0x3C
@[simp] abbrev KPR_FLASH_LEN : Nat := 0x40
@[simp] abbrev KPR_AON : Nat := 0x44
@[simp] abbrev KPR_LIVE_AIR : Nat := 0x48
@[simp] abbrev KPR_MODE_REFUSE_CNT : Nat := 0x80
@[simp] abbrev KPR_FALLBACK_CNT : Nat := 0x84
@[simp] abbrev KPR_SAFE_CNT : Nat := 0x88
@[simp] abbrev KPR_WDOG_CNT : Nat := 0x8C
@[simp] abbrev KPR_INTEGRITY_CNT : Nat := 0x90
@[simp] abbrev KPR_NOT_LIVE_CNT : Nat := 0x94
@[simp] abbrev KPR_UNLOCK_FAIL_CNT : Nat := 0x98
@[simp] abbrev KPR_EVT_OVF_CNT : Nat := 0x9C
@[simp] abbrev KPR_BB_FREEZE_CNT : Nat := 0xA0
@[simp] abbrev KPR_BB_ABANDON_CNT : Nat := 0xA4
@[simp] abbrev KPR_STORE_SPARE_CNT : Nat := 0xA8
@[simp] abbrev KPR_UNLOCK_CHAL (i : Nat) : Nat := 0x100 + i * 4
@[simp] abbrev KPR_UNLOCK_RESP (i : Nat) : Nat := 0x120 + i * 4
@[simp] abbrev KPR_UNLOCK_CTL : Nat := 0x160
@[simp] abbrev KPR_LOG_PTR : Nat := 0x200
@[simp] abbrev KPR_BB_PTR : Nat := 0x204
@[simp] abbrev KPR_BB_CTL : Nat := 0x208
@[simp] abbrev KPR_BB_STAT : Nat := 0x20C
@[simp] abbrev KPR_FAULT_STAT : Nat := 0x210
@[simp] abbrev KPR_SUM_MAP : Nat := 0x214
@[simp] abbrev KPR_LT (i : Nat) : Nat := 0x300 + i * 4
@[simp] abbrev KPR_STORE (i : Nat) : Nat := 0x400000 + i * 4
@[simp] abbrev TIM_NS : Nat := 0x1000000
@[simp] abbrev TIM_NS_FRAC : Nat := 0x1000004
@[simp] abbrev TIM_INCR_CTL : Nat := 0x1000008
@[simp] abbrev TIM_INCR_FRAC : Nat := 0x100000C
@[simp] abbrev TIM_ADJ_NS : Nat := 0x1000010
@[simp] abbrev TIM_ADJ_FRAC : Nat := 0x1000014
@[simp] abbrev TIM_ADJ_CTL : Nat := 0x1000018
@[simp] abbrev TIM_GEN : Nat := 0x100001C
@[simp] abbrev TIM_QUAL : Nat := 0x1000020
@[simp] abbrev TIM_EPOCH_NS : Nat := 0x1000030
@[simp] abbrev TIM_EPOCH_SFN : Nat := 0x1000034
@[simp] abbrev TIM_EPOCH_CTRL : Nat := 0x1000038
@[simp] abbrev TIM_EPOCH_CAP : Nat := 0x100003C
@[simp] abbrev TIM_EDGE_ERR : Nat := 0x1000040
@[simp] abbrev TIM_EDGE_CFG : Nat := 0x1000044
@[simp] abbrev TIM_EDGE_STAT : Nat := 0x1000048
@[simp] abbrev TIM_DREQ_CTL : Nat := 0x1000050
@[simp] abbrev TIM_DREQ_ID_HI : Nat := 0x1000054
@[simp] abbrev TIM_DREQ_ID_LO : Nat := 0x1000058
@[simp] abbrev TIM_DREQ_PORT : Nat := 0x100005C
@[simp] abbrev TIM_STAMP_PTR : Nat := 0x1000060
@[simp] abbrev TIM_EDGE_ALARM_CNT : Nat := 0x1000080
@[simp] abbrev TIM_PATH_CHANGE_CNT : Nat := 0x1000084
@[simp] abbrev TIM_ALIGN_CNT : Nat := 0x1000088
@[simp] abbrev TIM_ALIGN_REFUSE_CNT : Nat := 0x100008C
@[simp] abbrev TIM_INCR_REFUSE_CNT : Nat := 0x1000090
@[simp] abbrev TIM_ACK_REFUSE_CNT : Nat := 0x1000094
@[simp] abbrev TIM_QUAL_CHANGE_CNT : Nat := 0x1000098
@[simp] abbrev TIM_STAMP_RING (i : Nat) (j : Nat) : Nat := 0x1600000 + i * 0x50 + j * 4
@[simp] abbrev TIM_ING_TRIM (i : Nat) : Nat := 0x1400000 + i * 0x10000
@[simp] abbrev TIM_EGR_TRIM (i : Nat) : Nat := 0x1400004 + i * 0x10000
@[simp] abbrev TIM_LINK_ASYM (i : Nat) : Nat := 0x1400008 + i * 0x10000
@[simp] abbrev TIM_PTP_RX_CNT (i : Nat) : Nat := 0x1400040 + i * 0x10000
@[simp] abbrev TIM_TC_CNT (i : Nat) : Nat := 0x1400044 + i * 0x10000
@[simp] abbrev TIM_FU_MISS_CNT (i : Nat) : Nat := 0x1400048 + i * 0x10000
@[simp] abbrev TIM_PTP_UNSUP_CNT (i : Nat) : Nat := 0x140004C + i * 0x10000
@[simp] abbrev LN_LANE_RX (u : Nat) (i : Nat) : Nat := 0x2000000 + u * 0x1000000 + i * 0x10000
@[simp] abbrev LN_LANE_TX (u : Nat) (i : Nat) : Nat := 0x2000004 + u * 0x1000000 + i * 0x10000
@[simp] abbrev LN_LANE_ERR_CNT (u : Nat) (i : Nat) : Nat := 0x2000040 + u * 0x1000000 + i * 0x10000
@[simp] abbrev LN_LANE_STUFF_CNT (u : Nat) (i : Nat) : Nat := 0x2000044 + u * 0x1000000 + i * 0x10000
@[simp] abbrev LN_PRBS_ERR_CNT (u : Nat) (i : Nat) : Nat := 0x2000048 + u * 0x1000000 + i * 0x10000
@[simp] abbrev LN_CTRL (u : Nat) : Nat := 0x2500000 + u * 0x1000000
@[simp] abbrev LN_TRAIN_STAT (u : Nat) : Nat := 0x2500004 + u * 0x1000000
@[simp] abbrev LN_TRAIN_CFG (u : Nat) : Nat := 0x2500008 + u * 0x1000000
@[simp] abbrev LN_SLEEP_CFG (u : Nat) : Nat := 0x250000C + u * 0x1000000
@[simp] abbrev LN_SLEEP_STAT (u : Nat) : Nat := 0x2500010 + u * 0x1000000
@[simp] abbrev LN_TEST_CFG (u : Nat) : Nat := 0x2500014 + u * 0x1000000
@[simp] abbrev LN_TEST_DUR (u : Nat) : Nat := 0x2500018 + u * 0x1000000
@[simp] abbrev LN_TEST_INJ (u : Nat) : Nat := 0x250001C + u * 0x1000000
@[simp] abbrev LN_TEST_STAT (u : Nat) : Nat := 0x2500020 + u * 0x1000000
@[simp] abbrev LN_BLOCK (u : Nat) : Nat := 0x2500024 + u * 0x1000000
@[simp] abbrev LN_DOWN_CNT (u : Nat) : Nat := 0x2500040 + u * 0x1000000
@[simp] abbrev LN_TRAIN_FAIL_CNT (u : Nat) : Nat := 0x2500044 + u * 0x1000000
@[simp] abbrev LN_LISTEN_CNT (u : Nat) : Nat := 0x2500048 + u * 0x1000000
@[simp] abbrev LN_TAKEOVER_CNT (u : Nat) : Nat := 0x250004C + u * 0x1000000
@[simp] abbrev LN_DEGRADE_CNT (u : Nat) : Nat := 0x2500050 + u * 0x1000000
@[simp] abbrev LN_REMAP_RETRY_CNT (u : Nat) : Nat := 0x2500054 + u * 0x1000000
@[simp] abbrev LN_DEFER_CNT (u : Nat) : Nat := 0x2500058 + u * 0x1000000
@[simp] abbrev LN_DOZE_CNT (u : Nat) : Nat := 0x250005C + u * 0x1000000
@[simp] abbrev LN_NAP_CNT (u : Nat) : Nat := 0x2500060 + u * 0x1000000
@[simp] abbrev LN_ELASTIC_CNT (u : Nat) : Nat := 0x2500064 + u * 0x1000000
@[simp] abbrev LN_BCH_ERR_CNT (u : Nat) : Nat := 0x2500068 + u * 0x1000000
@[simp] abbrev PKT_OWN (i : Nat) : Nat := 0x4000000 + i * 0x10000
@[simp] abbrev PKT_C_EARLY_CNT (i : Nat) : Nat := 0x4000040 + i * 0x10000
@[simp] abbrev PKT_C_LATE_CNT (i : Nat) : Nat := 0x4000044 + i * 0x10000
@[simp] abbrev PKT_UDL_EARLY_CNT (i : Nat) : Nat := 0x4000048 + i * 0x10000
@[simp] abbrev PKT_UDL_LATE_CNT (i : Nat) : Nat := 0x400004C + i * 0x10000
@[simp] abbrev PKT_UDL_ORPHAN_CNT (i : Nat) : Nat := 0x4000050 + i * 0x10000
@[simp] abbrev PKT_DIR_MISMATCH_CNT (i : Nat) : Nat := 0x4000054 + i * 0x10000
@[simp] abbrev PKT_FOREIGN_CNT (i : Nat) : Nat := 0x4000058 + i * 0x10000
@[simp] abbrev PKT_OVERLAP_CNT (i : Nat) : Nat := 0x400005C + i * 0x10000
@[simp] abbrev PKT_UDL_OVERLAP_CNT (i : Nat) : Nat := 0x4000060 + i * 0x10000
@[simp] abbrev PKT_OWNER_MOVE_CNT (i : Nat) : Nat := 0x4000064 + i * 0x10000
@[simp] abbrev PKT_FWD_LATE_CNT (i : Nat) : Nat := 0x4000068 + i * 0x10000
@[simp] abbrev PKT_CREDIT (i : Nat) (j : Nat) : Nat := 0x4400000 + i * 0x10000 + j * 4
@[simp] abbrev PKT_HDR_ERR_CNT (i : Nat) : Nat := 0x4400040 + i * 0x10000
@[simp] abbrev PKT_CRC_ERR_CNT (i : Nat) : Nat := 0x4400044 + i * 0x10000
@[simp] abbrev PKT_STOMP_CNT (i : Nat) : Nat := 0x4400048 + i * 0x10000
@[simp] abbrev PKT_MALFORMED_CNT (i : Nat) : Nat := 0x440004C + i * 0x10000
@[simp] abbrev PKT_LOST_CNT (i : Nat) : Nat := 0x4400050 + i * 0x10000
@[simp] abbrev PKT_DUP_CNT (i : Nat) : Nat := 0x4400054 + i * 0x10000
@[simp] abbrev PKT_RETX_CNT (i : Nat) : Nat := 0x4400058 + i * 0x10000
@[simp] abbrev PKT_RETX_FAIL_CNT (i : Nat) : Nat := 0x440005C + i * 0x10000
@[simp] abbrev PKT_WIN_FULL_CNT (i : Nat) : Nat := 0x4400060 + i * 0x10000
@[simp] abbrev PKT_SHED_CNT (i : Nat) (j : Nat) : Nat := 0x4400080 + i * 0x10000 + j * 4
@[simp] abbrev PKT_Q_CFG (i : Nat) : Nat := 0x4500000 + i * 4
@[simp] abbrev PKT_CASCADE : Nat := 0x4500020
@[simp] abbrev PKT_BRIDLE_CFG : Nat := 0x4500024
@[simp] abbrev PKT_LEASE_CFG : Nat := 0x4500028
@[simp] abbrev PKT_LEASE_STAT : Nat := 0x450002C
@[simp] abbrev PKT_NO_LEASE_CNT : Nat := 0x4500040
@[simp] abbrev PKT_ALARM_DROP_CNT : Nat := 0x4500044
@[simp] abbrev PKT_LEASE_MOVE_CNT : Nat := 0x4500048
@[simp] abbrev MEM_CH_STAT (i : Nat) : Nat := 0x5000000 + i * 0x10000
@[simp] abbrev MEM_REF_FORCED_CNT (i : Nat) : Nat := 0x5000040 + i * 0x10000
@[simp] abbrev MEM_RETRAIN_CNT (i : Nat) : Nat := 0x5000044 + i * 0x10000
@[simp] abbrev MEM_RETRAIN_FORCED_CNT (i : Nat) : Nat := 0x5000048 + i * 0x10000
@[simp] abbrev MEM_PD_CNT (i : Nat) : Nat := 0x500004C + i * 0x10000
@[simp] abbrev MEM_CFG : Nat := 0x5500000
@[simp] abbrev MEM_MAP_CH : Nat := 0x5500004
@[simp] abbrev MEM_MAP_BG0 : Nat := 0x5500008
@[simp] abbrev MEM_MAP_BG1 : Nat := 0x550000C
@[simp] abbrev MEM_MAP_BA0 : Nat := 0x5500010
@[simp] abbrev MEM_MAP_BA1 : Nat := 0x5500014
@[simp] abbrev MEM_MAP_RANK : Nat := 0x5500018
@[simp] abbrev MEM_SCHED_CFG : Nat := 0x550001C
@[simp] abbrev MEM_SCRUB_CFG : Nat := 0x5500020
@[simp] abbrev MEM_RETRAIN_CFG : Nat := 0x5500024
@[simp] abbrev MEM_ERR_ADDR : Nat := 0x5500028
@[simp] abbrev MEM_ERR_STAT : Nat := 0x550002C
@[simp] abbrev MEM_CE_CNT : Nat := 0x5500040
@[simp] abbrev MEM_UE_CNT : Nat := 0x5500044
@[simp] abbrev MEM_SRAM_CE_CNT : Nat := 0x5500048
@[simp] abbrev MEM_SRAM_UE_CNT : Nat := 0x550004C
@[simp] abbrev MEM_POISON_CNT : Nat := 0x5500050
@[simp] abbrev MEM_SCRUB_PASS_CNT : Nat := 0x5500054
@[simp] abbrev MEM_AGE_PROMO_CNT : Nat := 0x5500058
@[simp] abbrev MEM_DEFER_CNT : Nat := 0x550005C
@[simp] abbrev SPL_CTRL (i : Nat) : Nat := 0x6000000 + i * 0x10000
@[simp] abbrev SPL_STAT (i : Nat) : Nat := 0x6000004 + i * 0x10000
@[simp] abbrev SPL_RING_BASE (i : Nat) : Nat := 0x6000008 + i * 0x10000
@[simp] abbrev SPL_RING_CFG (i : Nat) : Nat := 0x600000C + i * 0x10000
@[simp] abbrev SPL_HEAD (i : Nat) : Nat := 0x6000010 + i * 0x10000
@[simp] abbrev SPL_TAIL (i : Nat) : Nat := 0x6000014 + i * 0x10000
@[simp] abbrev SPL_PACE (i : Nat) : Nat := 0x6000018 + i * 0x10000
@[simp] abbrev SPL_CUR_SRC (i : Nat) : Nat := 0x600001C + i * 0x10000
@[simp] abbrev SPL_CUR_DST (i : Nat) : Nat := 0x6000020 + i * 0x10000
@[simp] abbrev SPL_DONE (i : Nat) : Nat := 0x6000024 + i * 0x10000
@[simp] abbrev SPL_CUR_ELEM (i : Nat) : Nat := 0x6000028 + i * 0x10000
@[simp] abbrev SPL_DESC_CNT (i : Nat) : Nat := 0x6000040 + i * 0x10000
@[simp] abbrev SPL_PREEMPT_CNT (i : Nat) : Nat := 0x6000044 + i * 0x10000
@[simp] abbrev SPL_UE_CNT (i : Nat) : Nat := 0x6000048 + i * 0x10000
@[simp] abbrev SPL_ABORT_CNT (i : Nat) : Nat := 0x600004C + i * 0x10000
@[simp] abbrev SPL_PWR_PAUSE_CNT (i : Nat) : Nat := 0x6000050 + i * 0x10000
@[simp] abbrev SPL_PWR_ABORT_CNT (i : Nat) : Nat := 0x6000054 + i * 0x10000
@[simp] abbrev SPL_REFUSE_CNT (i : Nat) : Nat := 0x6000058 + i * 0x10000
@[simp] abbrev SPL_ACTIVE : Nat := 0x6500000
@[simp] abbrev SPL_PAUSED : Nat := 0x6500004
@[simp] abbrev SEQ_QSTAT (i : Nat) : Nat := 0x7000000 + i * 0x10000
@[simp] abbrev SEQ_BLANK_CNT (i : Nat) : Nat := 0x7000040 + i * 0x10000
@[simp] abbrev SEQ_DEFER_CNT (i : Nat) : Nat := 0x7000044 + i * 0x10000
@[simp] abbrev SEQ_TURN_CFG : Nat := 0x7500000
@[simp] abbrev SEQ_LEAN : Nat := 0x7500004
@[simp] abbrev SEQ_LEAN_MASK : Nat := 0x7500008
@[simp] abbrev SEQ_CAL_REQ : Nat := 0x7500010
@[simp] abbrev SEQ_CAL_SEL : Nat := 0x7500014
@[simp] abbrev SEQ_CAL_STAT : Nat := 0x7500018
@[simp] abbrev SEQ_CAL_LIM : Nat := 0x750001C
@[simp] abbrev SEQ_CAL_RF : Nat := 0x7500020
@[simp] abbrev SEQ_PA_REF : Nat := 0x7500024
@[simp] abbrev SEQ_REG_LIM0 : Nat := 0x7500030
@[simp] abbrev SEQ_REG_LIM1 : Nat := 0x7500034
@[simp] abbrev SEQ_REG_RANGE_LO (i : Nat) : Nat := 0x7500040 + i * 8
@[simp] abbrev SEQ_REG_RANGE_HI (i : Nat) : Nat := 0x7500044 + i * 8
@[simp] abbrev SEQ_PWR_STAT : Nat := 0x7500060
@[simp] abbrev SEQ_DUTY_STAT : Nat := 0x7500064
@[simp] abbrev SEQ_PWR_CLAMP_CNT : Nat := 0x7500080
@[simp] abbrev SEQ_DUTY_BLANK_CNT : Nat := 0x7500084
@[simp] abbrev SEQ_DROP_ORDER_CNT : Nat := 0x7500088
@[simp] abbrev SEQ_CAL_DONE_CNT : Nat := 0x750008C
@[simp] abbrev SEQ_CAL_FAIL_CNT : Nat := 0x7500090
@[simp] abbrev SEQ_CAL_REFUSE_CNT : Nat := 0x7500094
@[simp] abbrev SEQ_REG_PIECE_LO (i : Nat) : Nat := 0x7500100 + i * 8
@[simp] abbrev SEQ_REG_PIECE_HI (i : Nat) : Nat := 0x7500104 + i * 8
@[simp] abbrev SEQ_PA_GAIN (i : Nat) : Nat := 0x7500200 + i * 4
@[simp] abbrev SEQ_LEGACY (i : Nat) (j : Nat) : Nat := 0x7600000 + i * 0x20 + j * 4
@[simp] abbrev SYN_LO : Nat := 0x8000000
@[simp] abbrev SYN_RETUNE : Nat := 0x8000004
@[simp] abbrev SYN_LOCK_STAT : Nat := 0x8000008
@[simp] abbrev SYN_VCO : Nat := 0x800000C
@[simp] abbrev SYN_RECENTRE : Nat := 0x8000010
@[simp] abbrev SYN_ALIGN : Nat := 0x8000014
@[simp] abbrev SYN_COH : Nat := 0x8000018
@[simp] abbrev SYN_UNLOCK_CNT (i : Nat) : Nat := 0x8000040 + i * 4
@[simp] abbrev SYN_REF_LOSS_CNT : Nat := 0x8000050
@[simp] abbrev SYN_UL_LOST_CNT : Nat := 0x8000054
@[simp] abbrev SYN_RECENTRE_CNT : Nat := 0x8000058
@[simp] abbrev SYN_RECENTRE_LATE_CNT : Nat := 0x800005C
@[simp] abbrev SYN_TRACK_CNT : Nat := 0x8000060
@[simp] abbrev SYN_RETUNE_REFUSE_CNT : Nat := 0x8000064
@[simp] abbrev SYN_ALIGN_CNT : Nat := 0x8000068
@[simp] abbrev SYN_LEAF (i : Nat) : Nat := 0x8000100 + i * 4
@[simp] abbrev TXP_ATTEN (i : Nat) : Nat := 0x9000000 + i * 0x10000
@[simp] abbrev TXP_IQ_TAP0 (i : Nat) : Nat := 0x9000010 + i * 0x10000
@[simp] abbrev TXP_IQ_TAP1 (i : Nat) : Nat := 0x9000014 + i * 0x10000
@[simp] abbrev TXP_IQ_TAP2 (i : Nat) : Nat := 0x9000018 + i * 0x10000
@[simp] abbrev TXP_IQ_TAP3 (i : Nat) : Nat := 0x900001C + i * 0x10000
@[simp] abbrev TXP_DC_OFS (i : Nat) : Nat := 0x9000020 + i * 0x10000
@[simp] abbrev TXP_BW_CODE (i : Nat) : Nat := 0x9000024 + i * 0x10000
@[simp] abbrev TXP_CELL_SUB_I (i : Nat) : Nat := 0x9000028 + i * 0x10000
@[simp] abbrev TXP_CELL_SUB_Q (i : Nat) : Nat := 0x900002C + i * 0x10000
@[simp] abbrev TXP_QUAL (i : Nat) : Nat := 0x9000030 + i * 0x10000
@[simp] abbrev TXP_RETIRE (i : Nat) : Nat := 0x9000034 + i * 0x10000
@[simp] abbrev TXP_SAT_CNT (i : Nat) : Nat := 0x9000040 + i * 0x10000
@[simp] abbrev TXP_LIVE_LO : Nat := 0x9500000
@[simp] abbrev TXP_LIVE_HI : Nat := 0x9500004
@[simp] abbrev TXP_RETIRE_CMD_LO : Nat := 0x9500008
@[simp] abbrev TXP_RETIRE_CMD_HI : Nat := 0x950000C
@[simp] abbrev TXP_REINSTATE_LO : Nat := 0x9500010
@[simp] abbrev TXP_REINSTATE_HI : Nat := 0x9500014
@[simp] abbrev TXP_RETIRE_CNT : Nat := 0x9500040
@[simp] abbrev TXP_REFUSE_CNT : Nat := 0x9500044
@[simp] abbrev RXP_AGC_CFG (i : Nat) : Nat := 0xA000000 + i * 0x10000
@[simp] abbrev RXP_AGC_STAT (i : Nat) : Nat := 0xA000004 + i * 0x10000
@[simp] abbrev RXP_IQ_TAP0 (i : Nat) : Nat := 0xA000010 + i * 0x10000
@[simp] abbrev RXP_IQ_TAP1 (i : Nat) : Nat := 0xA000014 + i * 0x10000
@[simp] abbrev RXP_IQ_TAP2 (i : Nat) : Nat := 0xA000018 + i * 0x10000
@[simp] abbrev RXP_IQ_TAP3 (i : Nat) : Nat := 0xA00001C + i * 0x10000
@[simp] abbrev RXP_DC_OFS (i : Nat) : Nat := 0xA000020 + i * 0x10000
@[simp] abbrev RXP_BW_CODE (i : Nat) : Nat := 0xA000024 + i * 0x10000
@[simp] abbrev RXP_SLICE (i : Nat) : Nat := 0xA000028 + i * 0x10000
@[simp] abbrev RXP_QUAL (i : Nat) : Nat := 0xA000030 + i * 0x10000
@[simp] abbrev RXP_RETIRE (i : Nat) : Nat := 0xA000034 + i * 0x10000
@[simp] abbrev RXP_CLIP_CNT (i : Nat) : Nat := 0xA000040 + i * 0x10000
@[simp] abbrev RXP_SLICE_SWAP_CNT (i : Nat) : Nat := 0xA000044 + i * 0x10000
@[simp] abbrev RXP_STEP_TAB (i : Nat) (j : Nat) : Nat := 0xA000100 + i * 0x10000 + j * 4
@[simp] abbrev RXP_OBS_ROUTE (i : Nat) : Nat := 0xA400000 + i * 0x10000
@[simp] abbrev RXP_OBS_STAT (i : Nat) : Nat := 0xA400004 + i * 0x10000
@[simp] abbrev RXP_OBS_ABORT_CNT (i : Nat) : Nat := 0xA400040 + i * 0x10000
@[simp] abbrev RXP_OBS_REFUSE_CNT (i : Nat) : Nat := 0xA400044 + i * 0x10000
@[simp] abbrev RXP_LIVE_LO : Nat := 0xA500000
@[simp] abbrev RXP_LIVE_HI : Nat := 0xA500004
@[simp] abbrev RXP_RETIRE_CMD_LO : Nat := 0xA500008
@[simp] abbrev RXP_RETIRE_CMD_HI : Nat := 0xA50000C
@[simp] abbrev RXP_REINSTATE_LO : Nat := 0xA500010
@[simp] abbrev RXP_REINSTATE_HI : Nat := 0xA500014
@[simp] abbrev RXP_AGC_THR : Nat := 0xA500020
@[simp] abbrev RXP_OBS_MAP : Nat := 0xA500024
@[simp] abbrev RXP_RETIRE_CNT : Nat := 0xA500040
@[simp] abbrev RXP_REFUSE_CNT : Nat := 0xA500044
@[simp] abbrev DFE_TX_DLY (i : Nat) : Nat := 0xB000000 + i * 0x10000
@[simp] abbrev DFE_TX_PHG (i : Nat) : Nat := 0xB000004 + i * 0x10000
@[simp] abbrev DFE_RX_DLY (i : Nat) : Nat := 0xB000008 + i * 0x10000
@[simp] abbrev DFE_RX_PHG (i : Nat) : Nat := 0xB00000C + i * 0x10000
@[simp] abbrev DFE_CFR_STAT (i : Nat) : Nat := 0xB000010 + i * 0x10000
@[simp] abbrev DFE_CFR_CLIP_CNT (i : Nat) : Nat := 0xB000040 + i * 0x10000
@[simp] abbrev DFE_OUT_SAT_CNT (i : Nat) : Nat := 0xB000044 + i * 0x10000
@[simp] abbrev DFE_RX_SAT_CNT (i : Nat) : Nat := 0xB000048 + i * 0x10000
@[simp] abbrev DFE_CFR_CFG : Nat := 0xB500000
@[simp] abbrev DFE_CAR_CFG (i : Nat) : Nat := 0xB600000 + i * 0x10000
@[simp] abbrev DFE_CAR_OFS (i : Nat) : Nat := 0xB600004 + i * 0x10000
@[simp] abbrev DFE_CAR_GAIN (i : Nat) : Nat := 0xB600008 + i * 0x10000
@[simp] abbrev DFE_CAR_CFR (i : Nat) : Nat := 0xB60000C + i * 0x10000
@[simp] abbrev DFE_CAR_STAT (i : Nat) : Nat := 0xB600010 + i * 0x10000
@[simp] abbrev DFE_OFS_REFUSE_CNT (i : Nat) : Nat := 0xB600040 + i * 0x10000
@[simp] abbrev SYM_BFP_CFG (i : Nat) : Nat := 0xC000000 + i * 0x10000
@[simp] abbrev SYM_NO_ORDER_CNT (i : Nat) : Nat := 0xC000040 + i * 0x10000
@[simp] abbrev SYM_NO_DATA_CNT (i : Nat) : Nat := 0xC000044 + i * 0x10000
@[simp] abbrev SYM_BMX_LATE_CNT (i : Nat) : Nat := 0xC000048 + i * 0x10000
@[simp] abbrev SYM_IFFT_SAT_CNT (i : Nat) : Nat := 0xC00004C + i * 0x10000
@[simp] abbrev SYM_FFT_SAT_CNT (i : Nat) : Nat := 0xC000050 + i * 0x10000
@[simp] abbrev SYM_BFP_SAT_CNT (i : Nat) : Nat := 0xC000054 + i * 0x10000
@[simp] abbrev SYM_PRACH_REFUSE_CNT (i : Nat) : Nat := 0xC000058 + i * 0x10000
@[simp] abbrev SYM_SRS_REFUSE_CNT (i : Nat) : Nat := 0xC00005C + i * 0x10000
@[simp] abbrev DPD_CTRL (i : Nat) : Nat := 0xD000000 + i * 0x10000
@[simp] abbrev DPD_OBS_CFG (i : Nat) : Nat := 0xD000004 + i * 0x10000
@[simp] abbrev DPD_GUARD_THR (i : Nat) : Nat := 0xD000008 + i * 0x10000
@[simp] abbrev DPD_TRIP_STAT (i : Nat) : Nat := 0xD00000C + i * 0x10000
@[simp] abbrev DPD_TRIP_CNT (i : Nat) : Nat := 0xD000040 + i * 0x10000
@[simp] abbrev DPD_OFF_TRIP_CNT (i : Nat) : Nat := 0xD000044 + i * 0x10000
@[simp] abbrev DPD_CAP_CNT (i : Nat) : Nat := 0xD000048 + i * 0x10000
@[simp] abbrev DPD_CAP_SKIP_CNT (i : Nat) : Nat := 0xD00004C + i * 0x10000
@[simp] abbrev DPD_CAP_DROP_CNT (i : Nat) : Nat := 0xD000050 + i * 0x10000
@[simp] abbrev DPD_REVERT_CNT (i : Nat) : Nat := 0xD000054 + i * 0x10000
@[simp] abbrev DPD_OUT_SAT_CNT (i : Nat) : Nat := 0xD000058 + i * 0x10000
@[simp] abbrev DPD_IN_OVR_CNT (i : Nat) : Nat := 0xD00005C + i * 0x10000
@[simp] abbrev DPD_BANK_QUAL (i : Nat) (j : Nat) : Nat := 0xD000100 + i * 0x10000 + j * 4
@[simp] abbrev DPD_LUT (i : Nat) (j : Nat) (k : Nat) (m : Nat) : Nat := 0xD008000 + i * 0x10000 + j * 0x1000 + k * 0x200 + m * 4
@[simp] abbrev DPD_TAPS0 : Nat := 0xD500000
@[simp] abbrev DPD_TAPS1 : Nat := 0xD500004
@[simp] abbrev DPD_ADAPT_CFG : Nat := 0xD500008
@[simp] abbrev DPD_SCHED_CFG : Nat := 0xD50000C
@[simp] abbrev DPD_GUARD_CFG : Nat := 0xD500010
@[simp] abbrev DPD_GUARD_TEST : Nat := 0xD500014
@[simp] abbrev DPD_ACTIVE : Nat := 0xD500018
@[simp] abbrev DPD_TRIP_WIN : Nat := 0xD50001C
@[simp] abbrev DPD_TEST_TRIP_CNT : Nat := 0xD500040
@[simp] abbrev DPD_REFUSE_CNT : Nat := 0xD500044
@[simp] abbrev DPD_REFL_TRIP_CNT (i : Nat) : Nat := 0xD500080 + i * 4
@[simp] abbrev DPD_REFL_THR (i : Nat) : Nat := 0xD500100 + i * 4
@[simp] abbrev BMX_CAR_SCALE (i : Nat) : Nat := 0xE000000 + i * 0x10000
@[simp] abbrev BMX_DL_SAT_CNT (i : Nat) : Nat := 0xE000040 + i * 0x10000
@[simp] abbrev BMX_UL_SAT_CNT (i : Nat) : Nat := 0xE000044 + i * 0x10000
@[simp] abbrev BMX_FETCH_LATE_CNT (i : Nat) : Nat := 0xE000048 + i * 0x10000
@[simp] abbrev BMX_ECC_FALLBACK_CNT (i : Nat) : Nat := 0xE00004C + i * 0x10000
@[simp] abbrev BMX_LAST_ABSENT_CNT (i : Nat) : Nat := 0xE000050 + i * 0x10000
@[simp] abbrev BMX_STEER_REFUSE_CNT (i : Nat) : Nat := 0xE000054 + i * 0x10000
@[simp] abbrev BMX_LAST_BASE : Nat := 0xE500000
@[simp] abbrev BMX_GEOM : Nat := 0xE500004
@[simp] abbrev BMX_PITCH : Nat := 0xE500008
@[simp] abbrev BMX_ORIGIN_X : Nat := 0xE50000C
@[simp] abbrev BMX_ORIGIN_Z : Nat := 0xE500010
@[simp] abbrev BMX_INLINE_CFG : Nat := 0xE500014
@[simp] abbrev BMX_UL_DIMS : Nat := 0xE500018
@[simp] abbrev BMX_CLUSTER : Nat := 0xE50001C
@[simp] abbrev BMX_CACHE_STAT : Nat := 0xE500020
@[simp] abbrev BMX_LAST_CNT : Nat := 0xE500024
@[simp] abbrev BMX_DIR_SEL : Nat := 0xE500030
@[simp] abbrev BMX_DIR_DATA : Nat := 0xE500034
@[simp] abbrev BMX_LAST_OPEN : Nat := 0xE500040
@[simp] abbrev BMX_LAST_SLOT : Nat := 0xE500044
@[simp] abbrev BMX_LAST_COMMIT : Nat := 0xE500048
@[simp] abbrev BMX_INLINE_USED (i : Nat) : Nat := 0xE500050 + i * 4
@[simp] abbrev BMX_CLUSTER_MIX_CNT : Nat := 0xE500060
@[simp] abbrev BMX_WRITE_REFUSE_CNT : Nat := 0xE500064
@[simp] abbrev BMX_INLINE_REFUSE_CNT (i : Nat) : Nat := 0xE500068 + i * 4
@[simp] abbrev BMX_PATH_MAP (i : Nat) : Nat := 0xE500100 + i * 4
@[simp] abbrev BMX_STATIC (i : Nat) (j : Nat) : Nat := 0xE700000 + i * 0x100 + j * 4
@[simp] abbrev WSV_QUAL0 (i : Nat) : Nat := 0xF000000 + i * 0x10000
@[simp] abbrev WSV_QUAL1 (i : Nat) : Nat := 0xF000004 + i * 0x10000
@[simp] abbrev WSV_QUAL2 (i : Nat) : Nat := 0xF000008 + i * 0x10000
@[simp] abbrev WSV_LOAD : Nat := 0xF500000
@[simp] abbrev WSV_LIMITS : Nat := 0xF500004
@[simp] abbrev WSV_NOISE_DEF : Nat := 0xF500008
@[simp] abbrev WSV_STAT : Nat := 0xF50000C
@[simp] abbrev WSV_SOLVE_CNT : Nat := 0xF500040
@[simp] abbrev WSV_REFUSE_CNT : Nat := 0xF500044
@[simp] abbrev WSV_DROP_CNT : Nat := 0xF500048
@[simp] abbrev WSV_LATE_CNT : Nat := 0xF50004C
@[simp] abbrev WSV_JOINT_ABORT_CNT : Nat := 0xF500050
@[simp] abbrev WSV_ILL_CNT : Nat := 0xF500054
@[simp] abbrev WSV_ROW_CAP_CNT : Nat := 0xF500058
@[simp] abbrev WSV_MISSING_CNT : Nat := 0xF50005C
@[simp] abbrev WSV_GRAM_LATE_CNT : Nat := 0xF500060
@[simp] abbrev WSV_EXPORT_LATE_CNT : Nat := 0xF500064
@[simp] abbrev WSV_NOISE_DEF_CNT : Nat := 0xF500068
@[simp] abbrev ULR_CAR_CFG (i : Nat) : Nat := 0x10000000 + i * 0x10000
@[simp] abbrev ULR_QUAL (i : Nat) : Nat := 0x10000004 + i * 0x10000
@[simp] abbrev ULR_SEL_VIEW (i : Nat) : Nat := 0x10000008 + i * 0x10000
@[simp] abbrev ULR_SEL_BEAMS (i : Nat) (j : Nat) : Nat := 0x10000010 + i * 0x10000 + j * 4
@[simp] abbrev ULR_LATE_OUT_CNT (i : Nat) : Nat := 0x10000040 + i * 0x10000
@[simp] abbrev ULR_REFUSE_CNT (i : Nat) : Nat := 0x10000044 + i * 0x10000
@[simp] abbrev ULR_IRC_FALLBACK_CNT (i : Nat) : Nat := 0x10000048 + i * 0x10000
@[simp] abbrev ULR_OUT_SAT_CNT (i : Nat) : Nat := 0x1000004C + i * 0x10000
@[simp] abbrev ULR_BS_LATE_CNT (i : Nat) : Nat := 0x10000050 + i * 0x10000
@[simp] abbrev ULR_SEL_CHANGE_CNT (i : Nat) : Nat := 0x10000054 + i * 0x10000
@[simp] abbrev ULR_PRACH_OCC_CNT (i : Nat) : Nat := 0x10000058 + i * 0x10000
@[simp] abbrev ULR_PRACH_DET_CNT (i : Nat) : Nat := 0x1000005C + i * 0x10000
@[simp] abbrev ULR_PRACH_TRUNC_CNT (i : Nat) : Nat := 0x10000060 + i * 0x10000
@[simp] abbrev ULR_PRACH_CLIP_CNT (i : Nat) : Nat := 0x10000064 + i * 0x10000
@[simp] abbrev ULR_PRACH_LATE_CNT (i : Nat) : Nat := 0x10000068 + i * 0x10000
@[simp] abbrev ULR_SEL_CFG : Nat := 0x10500000
@[simp] abbrev ULR_IRC_CFG : Nat := 0x10500004
@[simp] abbrev ULR_PT_CFG : Nat := 0x10500008
@[simp] abbrev ULR_PRACH_CFG : Nat := 0x1050000C
@[simp] abbrev ULR_STAT : Nat := 0x10500010
@[simp] abbrev ULR_SEL_DEFAULT (i : Nat) : Nat := 0x10500020 + i * 4
@[simp] abbrev KTE_CFG : Nat := 0x11000000
@[simp] abbrev KTE_FREQ : Nat := 0x11000004
@[simp] abbrev KTE_UNIT_ID : Nat := 0x11000008
@[simp] abbrev KTE_EXT : Nat := 0x1100000C
@[simp] abbrev KTE_TX_CFG : Nat := 0x11000010
@[simp] abbrev KTE_TX_STEER : Nat := 0x11000014
@[simp] abbrev KTE_TX_GAIN : Nat := 0x11000018
@[simp] abbrev KTE_TX_DATA0 : Nat := 0x1100001C
@[simp] abbrev KTE_TX_DATA1 : Nat := 0x11000020
@[simp] abbrev KTE_RX_CFG : Nat := 0x11000024
@[simp] abbrev KTE_SYNC_CFG : Nat := 0x11000028
@[simp] abbrev KTE_ECHO_SEL : Nat := 0x1100002C
@[simp] abbrev KTE_STAT : Nat := 0x11000030
@[simp] abbrev KTE_REPORT_PTR : Nat := 0x11000034
@[simp] abbrev KTE_TX_CNT : Nat := 0x11000040
@[simp] abbrev KTE_TX_SKIP_CNT : Nat := 0x11000044
@[simp] abbrev KTE_DET_CNT : Nat := 0x11000048
@[simp] abbrev KTE_CRC_FAIL_CNT : Nat := 0x1100004C
@[simp] abbrev KTE_SUPERSEDE_CNT : Nat := 0x11000050
@[simp] abbrev KTE_MASK_CNT : Nat := 0x11000054
@[simp] abbrev KTE_FALSE_CNT : Nat := 0x11000058
@[simp] abbrev KTE_TRUNC_CNT : Nat := 0x1100005C
@[simp] abbrev KTE_SKEW_ALARM_CNT : Nat := 0x11000060
@[simp] abbrev KTE_SUSPEND_CNT : Nat := 0x11000064
@[simp] abbrev KTE_PEER (i : Nat) (j : Nat) : Nat := 0x11000100 + i * 0x10 + j * 4
@[simp] abbrev KTE_REPORT_RING (i : Nat) (j : Nat) : Nat := 0x11100000 + i * 0x40 + j * 4
@[simp] abbrev BIA_CH_CFG (i : Nat) : Nat := 0x12000000 + i * 0x10000
@[simp] abbrev BIA_STAGE (i : Nat) : Nat := 0x12000004 + i * 0x10000
@[simp] abbrev BIA_QUEUE (i : Nat) : Nat := 0x12000008 + i * 0x10000
@[simp] abbrev BIA_TRACK (i : Nat) : Nat := 0x1200000C + i * 0x10000
@[simp] abbrev BIA_LIMIT (i : Nat) : Nat := 0x12000010 + i * 0x10000
@[simp] abbrev BIA_CLEAR (i : Nat) : Nat := 0x12000014 + i * 0x10000
@[simp] abbrev BIA_MAP (i : Nat) : Nat := 0x12000018 + i * 0x10000
@[simp] abbrev BIA_STAT (i : Nat) : Nat := 0x1200001C + i * 0x10000
@[simp] abbrev BIA_Q_OVF_CNT (i : Nat) : Nat := 0x12000040 + i * 0x10000
@[simp] abbrev BIA_DEFER_CNT (i : Nat) : Nat := 0x12000044 + i * 0x10000
@[simp] abbrev BIA_CLEAR_CNT (i : Nat) : Nat := 0x12000048 + i * 0x10000
@[simp] abbrev BIA_GROUP (i : Nat) : Nat := 0x12600000 + i * 4
@[simp] abbrev BIA_STROBE : Nat := 0x12600020
@[simp] abbrev BIA_PIN : Nat := 0x12600024
@[simp] abbrev BIA_PIN_CLR_CNT : Nat := 0x12600040
@[simp] abbrev BIA_STROBE_CNT : Nat := 0x12600044
@[simp] abbrev HKA_TEMP (i : Nat) : Nat := 0x13000000 + i * 0x10000
@[simp] abbrev HKA_THR0 (i : Nat) : Nat := 0x13000004 + i * 0x10000
@[simp] abbrev HKA_THR1 (i : Nat) : Nat := 0x13000008 + i * 0x10000
@[simp] abbrev HKA_SCOPE (i : Nat) : Nat := 0x1300000C + i * 0x10000
@[simp] abbrev HKA_SENS_CFG (i : Nat) : Nat := 0x13000010 + i * 0x10000
@[simp] abbrev HKA_BROKEN_CNT (i : Nat) : Nat := 0x13000040 + i * 0x10000
@[simp] abbrev HKA_ENTER_CNT (i : Nat) : Nat := 0x13000044 + i * 0x10000
@[simp] abbrev HKA_SEQ_CFG : Nat := 0x13500000
@[simp] abbrev HKA_SEQ_TIME : Nat := 0x13500004
@[simp] abbrev HKA_SEQ_STAT : Nat := 0x13500008
@[simp] abbrev HKA_URG_CFG : Nat := 0x1350000C
@[simp] abbrev HKA_ONESHOT : Nat := 0x13500010
@[simp] abbrev HKA_ONESHOT_RES : Nat := 0x13500014
@[simp] abbrev HKA_CAL_REF : Nat := 0x13500018
@[simp] abbrev HKA_CAL_CTL : Nat := 0x1350001C
@[simp] abbrev HKA_CAL_RES : Nat := 0x13500020
@[simp] abbrev HKA_BACKOFF_CFG : Nat := 0x13500024
@[simp] abbrev HKA_OVERRUN_CNT : Nat := 0x13500040
@[simp] abbrev HKA_URGENT_DROP_CNT : Nat := 0x13500044
@[simp] abbrev HKA_ABORT_CNT : Nat := 0x13500048
@[simp] abbrev HKA_CMP_CNT : Nat := 0x1350004C
@[simp] abbrev HKA_MUTE_SYM_CNT : Nat := 0x13500050
@[simp] abbrev HKA_QUAD (i : Nat) : Nat := 0x13500100 + i * 4
@[simp] abbrev HKA_GUARD_CH (i : Nat) : Nat := 0x13500200 + i * 4
@[simp] abbrev HKA_CMP_LIM (i : Nat) : Nat := 0x13500400 + i * 8
@[simp] abbrev HKA_CMP_ACT (i : Nat) : Nat := 0x13500404 + i * 8
@[simp] abbrev HKA_ENTRY (i : Nat) : Nat := 0x13600000 + i * 4
@[simp] abbrev HKA_RESULT (i : Nat) : Nat := 0x13600200 + i * 4
@[simp] abbrev BLK_ID (b : Nat) : Nat := 0xF00000 + b * 0x1000000
@[simp] abbrev BLK_CNT_CLR (b : Nat) : Nat := 0xF00004 + b * 0x1000000
@[simp] abbrev BLK_EVT_EN (b : Nat) : Nat := 0xF00008 + b * 0x1000000
@[simp] abbrev BLK_STAT_SUM (b : Nat) : Nat := 0xF0000C + b * 0x1000000

end Sys2Proof.Machine.Reg
end

