-- ==== Sys2Proof/Machine/Ops.lean ====
section
/-! DEFINITION. The named operations over the registers that every command uses: reading and writing a register and its
fields, counting (R9), raising an event (R581 to R583, R614), and changing one instance of an array of the state. -/

namespace Sys2Proof.Machine

/-! ### The register map -/

/-- The index of the innermost array level that offset `o` falls on, if the offset is that of a word of the array. -/
def dimIdx : List (Nat × Nat) → Nat → Option Nat
  | [], o => if o = 0 then some 0 else none
  | (n, st) :: t, o =>
    if o / st < n then
      match t with
      | [] => if o % st = 0 then some (o / st) else none
      | _ => dimIdx t (o % st)
    else none

/-- The row of `rows` that holds address `a`, with the innermost index. -/
def findSpec : List RegSpec → Nat → Option (RegSpec × Nat)
  | [], _ => none
  | r :: t, a =>
    if a < r.base then findSpec t a
    else match dimIdx r.dims (a - r.base) with
      | some i => some (r, i)
      | none => findSpec t a

/-- The register at address `a`: its row of the register map and its innermost index. An address that answers none is
unmapped (R604). -/
def specOf (a : Nat) : Option (RegSpec × Nat) :=
  match findSpec (blockRegs (a / 0x1000000)) a with
  | some r => some r
  | none => if a / 0x1000000 < 20 then findSpec blkRegs a else none

/-- Address `a` holds a register (R604). -/
def mapped (a : Nat) : Bool := (specOf a).isSome

/-- The reset value of the register at `a` (R7). -/
def resetWord (a : Nat) : Word :=
  match specOf a with
  | some (r, i) => BitVec.ofNat 32 (r.reset + r.resetStep * i)
  | none => 0

/-! ### Registers -/

/-- What the register at `a` holds. -/
def State.rd (s : State) (a : Nat) : Word := tabGet resetWord s.regs a

/-- The register at `a` set to `w`. -/
def State.wr (s : State) (a : Nat) (w : Word) : State := { s with regs := tabPut resetWord s.regs a w }

/-- Field [hi:lo] of the register at `a`. -/
def State.fld (s : State) (a hi lo : Nat) : Nat := fldOf (s.rd a) hi lo

/-- Field [hi:lo] of the register at `a` as two's complement. -/
def State.sfld (s : State) (a hi lo : Nat) : Int := signedOf (hi + 1 - lo) (s.fld a hi lo)

/-- Field [hi:lo] of the register at `a` set to `v`. -/
def State.setFld (s : State) (a hi lo v : Nat) : State := s.wr a (putFld (s.rd a) hi lo v)

/-- Bit `i` of the register at `a`. -/
def State.bit (s : State) (a i : Nat) : Bool := s.fld a i i = 1

/-- Bit `i` of the register at `a` set or cleared. -/
def State.setBit (s : State) (a i : Nat) (b : Bool) : State := s.setFld a i i (if b then 1 else 0)

/-- `n` counts on the counter at `a`, saturating (R9). -/
def State.bumpBy (s : State) (a n : Nat) : State := s.wr a (BitVec.ofNat 32 (satAdd (s.rd a).toNat n))

/-- One count on the counter at `a` (R9). -/
def State.bump (s : State) (a : Nat) : State := s.bumpBy a 1

/-! ### Events -/

/-- The nanosecond counter as the part shows it: 32 bits (R434). -/
def State.ns (s : State) : Nat := s.tns / 2 ^ 32 % 2 ^ 32

/-- BLK_STAT_SUM after an event of the block (R614): alert for MINOR or higher, the worst severity, the count, the last
number. -/
def State.noteEvent (s : State) (code : Nat) : State :=
  let a := Reg.BLK_STAT_SUM (code / 256)
  let sev := severity code
  let s := if 1 ≤ sev then s.setBit a 31 true else s
  let s := if s.fld a 25 24 < sev then s.setFld a 25 24 sev else s
  let s := if s.fld a 23 16 < 255 then s.setFld a 23 16 (s.fld a 23 16 + 1) else s
  s.setFld a 7 0 code

/-- An event takes its place among those waiting: by core cycle, and in one cycle in ascending order of code (R581). -/
def insertEvent (e : Event) : List Event → List Event
  | [] => [e]
  | x :: t => if e.cyc < x.cyc || (e.cyc == x.cyc && decide (e.code < x.code)) then e :: x :: t else x :: insertEvent e t

/-- An event joins the events waiting to be recorded; while 64 wait it is lost and counted (R583). -/
def State.joinQueue (s : State) (e : Event) : State :=
  if s.rcd.queue.length < 64 then { s with rcd := { s.rcd with queue := insertEvent e s.rcd.queue } }
  else { s.bump Reg.KPR_EVT_OVF_CNT with rcd := { s.rcd with lost := s.rcd.lost + 1 } }

/-- BLK_EVT_EN of block `b` as an event of this tick is judged against: a write of the same tick does not count yet (R613). -/
def State.eventEnable (s : State) (b : Nat) : Word :=
  match s.rcd.enWas.find? fun x => x.1 == b && x.2.1 == s.now with
  | some (_, _, w) => w
  | none => s.rd (Reg.BLK_EVT_EN b)

/-- The block of event `code` enables it (R581, R613): an INFO event's bit, which only the events 0 to 31 of a block have. -/
def State.eventEnabled (s : State) (code : Nat) : Bool :=
  code % 256 < 32 && bitOf (s.eventEnable (code / 256)).toNat (code % 256)

/-- An event is raised: its block's summary notes it and it joins the events waiting (R583, R614). -/
def State.raiseEvent (s : State) (e : Event) : State :=
  (s.noteEvent e.code).joinQueue { e with cyc := max e.cyc s.now, enabled := s.eventEnabled e.code }

/-- Event `code` is raised with its arguments, each given with its number of bytes (R581, R582). -/
def State.raise (s : State) (code : Nat) (args : List (Nat × Nat)) : State :=
  s.raiseEvent { code := code, ns := s.ns, args := packArgs args }

/-- The core cycle of an event that others of this tick may have caused: after every one that waits (R581). -/
def State.effectCycle (s : State) : Nat := s.rcd.queue.foldl (fun m e => max m (e.cyc + 1)) s.now

/-- Event `code` is raised as the effect of those before it, in a later core cycle (R581). -/
def State.raiseEffect (s : State) (code : Nat) (args : List (Nat × Nat)) : State :=
  s.raiseEvent { code := code, ns := s.ns, args := packArgs args, cyc := s.effectCycle }

/-! ### Instances -/

/-- A path whose TX gate is closed at tick `t` (R64). -/
def PathSt.shut (x : PathSt) (t : Nat) : PathSt := { x with txGate := false, txShut := if x.txGate then t else x.txShut }

/-- One path's state, changed. -/
def State.setPath (s : State) (p : Fin 64) (f : PathSt → PathSt) : State := { s with paths := upd s.paths p f }

/-- One quad's state, changed. -/
def State.setQuad (s : State) (q : Fin 16) (f : Quad → Quad) : State :=
  { s with seq := { s.seq with quads := upd s.seq.quads q f } }

/-- One bias channel's state, changed. -/
def State.setBias (s : State) (c : Fin 80) (f : BiasCh → BiasCh) : State := { s with bias := upd s.bias c f }

/-- One path of the pre-distorter, changed. -/
def State.setDpd (s : State) (p : Fin 64) (f : DpdPath → DpdPath) : State :=
  { s with dpd := { s.dpd with paths := upd s.dpd.paths p f } }

/-- One sensor, changed. -/
def State.setSensor (s : State) (t : Fin 28) (f : Sensor → Sensor) : State :=
  { s with hka := { s.hka with sensors := upd s.hka.sensors t f } }

/-- One PLL, changed. -/
def State.setPll (s : State) (k : Fin 4) (f : PllSt → PllSt) : State :=
  { s with clk := { s.clk with plls := upd s.clk.plls k f } }

/-- A state change for each path in turn. -/
def State.forPaths (s : State) (f : State → Fin 64 → State) : State := (List.finRange 64).foldl f s

/-- A state change for each quad in turn. -/
def State.forQuads (s : State) (f : State → Fin 16 → State) : State := (List.finRange 16).foldl f s

/-- A state change for each bias channel in turn. -/
def State.forBias (s : State) (f : State → Fin 80 → State) : State := (List.finRange 80).foldl f s

/-- The quad of a path (R57). -/
def quadOf (p : Fin 64) : Fin 16 := ⟨p.val / 4, by omega⟩

/-- The paths of a quad (R57). -/
def pathsOf (q : Fin 16) : List (Fin 64) :=
  [⟨4 * q.val, by omega⟩, ⟨4 * q.val + 1, by omega⟩, ⟨4 * q.val + 2, by omega⟩, ⟨4 * q.val + 3, by omega⟩]

end Sys2Proof.Machine
end

