-- ==== Sys2Proof/Machine/BiasOps.lean ====
section
/-! DEFINITION. What the bias channels share (R520 to R530): which quads a channel serves, the code an update event
loads (R526), the clear sources and their release (R527, R528), power-up and power-down (R530), and the code driven. -/

namespace Sys2Proof.Machine

/-! ### Scope of a channel -/

/-- Channels 0 to 63 are PA gate channels (R520). -/
def isGate (c : Fin 80) : Bool := c.val < 64

/-- Channels 64 to 71 are driver channels (R520). -/
def isDriver (c : Fin 80) : Bool := 64 ≤ c.val && c.val < 72

/-- The path that a gate channel serves (BIA_MAP, R520). -/
def State.gatePath (s : State) (c : Fin 80) : Fin 64 := ⟨s.fld (Reg.BIA_MAP c) 21 16 % 64, Nat.mod_lt _ (by decide)⟩

/-- The quads that a channel serves: of a gate channel the quad of its path, of a driver channel those of BIA_MAP. -/
def State.servedQuads (s : State) (c : Fin 80) : List (Fin 16) :=
  if isGate c then [quadOf (s.gatePath c)]
  else if isDriver c then (List.finRange 16).filter fun q => bitOf (s.fld (Reg.BIA_MAP c) 15 0) q
  else []

/-- GATED, RISING or FALLING: the states of the "quad gated" source of R527. -/
def QuadState.isDown : QuadState → Bool
  | .gated | .rising | .falling => true
  | _ => false

/-- RECEIVE or TRANSMIT. -/
def QuadState.isUp : QuadState → Bool
  | .receive | .transmit => true
  | _ => false

/-! ### Clear sources (R527) -/

/-- The transmit side of a path is retired. -/
def State.txRetired (s : State) (p : Nat) : Bool := s.bit (Reg.TXP_RETIRE p) 31

/-- The receive side of a path is retired. -/
def State.rxRetired (s : State) (p : Nat) : Bool := s.bit (Reg.RXP_RETIRE p) 31

/-- The scope of sensor `t` in quads: HKA_SCOPE for a diode or a thermistor, every quad for a die sensor (R543). -/
def State.sensorScope (s : State) (t : Fin 28) : Nat := if t.val < 20 then s.fld (Reg.HKA_SCOPE t) 15 0 else 0xFFFF

/-- Threshold `k` (0 warn, 1 hot, 2 critical) of sensor `t` is entered (R542). -/
def State.thrEntered (s : State) (t : Fin 28) (k : Fin 3) : Bool := s.hka.sensors[t].thr[k].entered

/-- Quads under a thermal critical bias clear: those in the scope of a diode or thermistor whose critical threshold is
entered (R543). -/
def State.thermalQuads (s : State) (q : Fin 16) : Bool :=
  (List.finRange 28).any fun t => t.val < 20 && s.thrEntered t 2 && bitOf (s.sensorScope t) q

/-- Source `i` of R527 (the order of BIA_STAT) holds its cause against channel `c` now. The guard source 4 is released by
R307 and R308 and never here. -/
def State.srcActive (s : State) (c : Fin 80) (i : Nat) : Bool :=
  match i with
  | 0 => !s.pins.biasClrN
  | 1 => s.mode == .safe
  | 2 => (isGate c || isDriver c) && (s.mode == .boot || s.mode == .ready)
  | 3 => (isGate c || isDriver c) && (s.servedQuads c).all fun q => (s.seq.quads[q]).st.isDown
  | 4 => isGate c && (let d := s.dpd.paths[s.gatePath c]; d.biasOn || d.biasOff)
  | 5 => isGate c && s.txRetired (s.gatePath c)
  | _ => (isGate c || isDriver c) && (s.servedQuads c).any fun q => s.thermalQuads q

/-- At an update event, source `i` of channel `c` releases (R527). -/
def State.srcReleases (s : State) (c : Fin 80) (i : Nat) : Bool :=
  match i with
  | 2 => s.mode.live
  | 3 => (s.servedQuads c).any fun q => (s.seq.quads[q]).st.isUp
  | _ => !s.srcActive c i

/-- The channel shows its clear code: a source holds, or it has not been updated since its power-up (R527, R530). -/
def BiasCh.cleared (b : BiasCh) : Bool := b.src != 0 || b.upHold

/-- The ball of channel `c` is high-impedance: VDD_BIAS out of range, SHELF, or the channel powered down (R522, R530). -/
def State.biasHiZ (s : State) (c : Fin 80) : Bool :=
  !s.pins.vddBias || s.mode == .shelf || (s.bias[c]).pwr == .off || (s.bias[c]).pwr == .falling

/-- Channel `c` shows its target code (R522, R527). -/
def State.showsTarget (s : State) (c : Fin 80) : Bool := s.kpr.imageLoaded && !s.biasHiZ c && !(s.bias[c]).cleared

/-- Source `i` forces the clear code onto channel `c`; the transition from showing the target to showing the clear code is counted
(R527, R528). -/
def State.biasHold (s : State) (c : Fin 80) (i : Nat) : State :=
  let s := if s.showsTarget c then s.bump (Reg.BIA_CLEAR_CNT c) else s
  s.setBias c fun b => { b with src := b.src ||| BitVec.ofNat 7 (2 ^ i) }

/-- Source `i` lets go of channel `c`. -/
def State.biasRelease (s : State) (c : Fin 80) (i : Nat) : State :=
  s.setBias c fun b => { b with src := b.src &&& ~~~ BitVec.ofNat 7 (2 ^ i) }

/-- Source `i` applies to every channel against which its cause holds now. -/
def State.biasApply (s : State) (i : Nat) : State :=
  s.forBias fun s c => if s.srcActive c i then s.biasHold c i else s

/-! ### Update events (R523 to R526) -/

/-- The code that an update event loads from the staged or queued code `c` (R526). -/
def trackedCode (c : Nat) (tc t tRef : Int) (lo hi : Nat) : Nat :=
  (satInt lo hi ((c : Int) + roundDiv (tc * (t - tRef)) 4096)).toNat

/-- The reading that tracks the channel: the sensor's latest, its last valid one while it is broken, and `t_ref` before
its first (R526). -/
def State.trackReading (s : State) (t : Fin 28) (tRef : Int) : Int := (s.hka.sensors[t].lastValid).getD tRef

/-- The target that an update event of channel `c` gives for code `v` (R526). -/
def State.biasCode (s : State) (c : Fin 80) (v : Nat) : Nat :=
  let lo := s.fld (Reg.BIA_LIMIT c) 15 0
  let hi := s.fld (Reg.BIA_LIMIT c) 31 16
  let tc := s.sfld (Reg.BIA_TRACK c) 31 16
  let tRef := s.sfld (Reg.BIA_TRACK c) 15 0
  let sn := s.fld (Reg.BIA_CH_CFG c) 4 0
  if h : sn < 28 then trackedCode v tc (s.trackReading ⟨sn, h⟩ tRef) tRef lo hi
  else trackedCode v 0 0 0 lo hi

/-- An update event of channel `c` with code `v`: the target changes, every source whose release condition holds lets go, and a channel
that has powered up takes its target (R526, R527, R528, R530). An event while the channel still powers up does not end its hold at the
clear code. -/
def State.biasUpdate (s : State) (c : Fin 80) (v : Nat) : State :=
  let t := s.biasCode c v
  let keep := BitVec.ofNat 7 (maskOf 7 fun i => !s.srcReleases c i)
  s.setBias c fun b => { b with target := t, src := b.src &&& keep, upHold := b.upHold && b.pwr == .rising }

/-- The channel is in queue mode (R523). -/
def State.queueMode (s : State) (c : Fin 80) : Bool := s.bit (Reg.BIA_CH_CFG c) 24

/-- BIA_STAGE of channel `c` as a strobe of this tick finds it: a write of the same tick counts from the next strobe on (R525). -/
def State.stageWord (s : State) (c : Fin 80) : Word :=
  match (s.bias[c]).stage with
  | some (t, w) => if t = s.now then w else s.rd (Reg.BIA_STAGE c)
  | none => s.rd (Reg.BIA_STAGE c)

/-- A write of BIA_STAGE (R525). -/
def State.writeStage (s : State) (c : Fin 80) (w : Word) : State :=
  let was := s.stageWord c
  (s.setBias c fun b => { b with stage := some (s.now, was) }).wr (Reg.BIA_STAGE c) w

/-- A strobe of channel `c` loads code_on, or code_off when `off` (R524). -/
def State.strobeChannel (s : State) (c : Fin 80) (off : Bool) : State :=
  s.biasUpdate c (if off then fldOf (s.stageWord c) 31 16 else fldOf (s.stageWord c) 15 0)

/-- Channel `c` is a strobe-mode channel of group `g` (R524). -/
def State.inGroup (s : State) (c : Fin 80) (g : Nat) : Bool := !s.queueMode c && s.fld (Reg.BIA_CH_CFG c) 18 16 == g

/-- A strobe of group `g` (R524). -/
def State.strobeGroup (s : State) (g : Nat) (off : Bool) : State :=
  s.forBias fun s c => if s.inGroup c g then s.strobeChannel c off else s

/-- The management strobes of the cycle before load their codes (R524); a TDD strobe of this tick comes after them and stands (R525). -/
def State.biasTick (s : State) : State :=
  s.forBias fun s c =>
    match (s.bias[c]).strobe with
    | some off => (s.strobeChannel c off).setBias c fun b => { b with strobe := none }
    | none => s

/-- The strobes of a TDD edge (R524): every group bound to TDD edges whose quad takes part, or that follows every
turnaround. -/
def State.tddStrobe (s : State) (takes : Fin 16 → Bool) (off : Bool) : State :=
  (List.range 8).foldl (fun s g =>
    let bound := s.bit (Reg.BIA_GROUP g) 8
    let q := s.fld (Reg.BIA_GROUP g) 4 0
    let fires := q = 0x1F || (List.finRange 16).any fun k => k.val = q && takes k
    if bound && fires then s.strobeGroup g off else s) s

/-! ### Power of a channel (R530) -/

/-- A request to power channel `c` up or down; one that meets the opposite transition waits for its end and is counted;
one that meets its own opposite still waiting withdraws it (R322, R323, R530). -/
def State.biasPower (s : State) (c : Fin 80) (up : Bool) : State :=
  match (s.bias[c]).pwr, up with
  | .off, true => s.setBias c fun b => { b with pwr := .rising, upHold := true }
  | .on, false => s.setBias c fun b => { b with pwr := .falling }
  | .falling, true => (s.bump (Reg.BIA_DEFER_CNT c)).setBias c fun b => { b with deferred := some true }
  | .rising, false => (s.bump (Reg.BIA_DEFER_CNT c)).setBias c fun b => { b with deferred := some false }
  | .falling, false => s.setBias c fun b => { b with deferred := none }
  | .rising, true => s.setBias c fun b => { b with deferred := none }
  | _, _ => s

/-- The power transition of channel `c` completes, and a deferred request then runs in full (R530). -/
def State.biasPowerDone (s : State) (c : Fin 80) : State :=
  let b := s.bias[c]
  match b.pwr, b.deferred with
  | .rising, some false => s.setBias c fun b => { b with pwr := .falling, deferred := none }
  | .rising, _ => s.setBias c fun b => { b with pwr := .on, deferred := none }
  | .falling, some true => s.setBias c fun b => { b with pwr := .rising, upHold := true, deferred := none }
  | .falling, _ => s.setBias c fun b => { b with pwr := .off, deferred := none }
  | _, _ => s

/-! ### What is driven -/

/-- The code on channel `c` while it is driven (R522, R527): before image load the strap level, then the clear code while
a source holds, else the target. -/
def State.biasOut (s : State) (c : Fin 80) : Nat :=
  if !s.kpr.imageLoaded then (if s.pins.clrsel then 0xFFFF else 0)
  else if (s.bias[c]).cleared then s.fld (Reg.BIA_CLEAR c) 15 0
  else (s.bias[c]).target

/-- The settled output voltage of channel `c` in 1.2 V/65 536, code × G, none while its ball is high-impedance; the strap level stands at
G = 2 (R521, R522). -/
def State.biasLevel (s : State) (c : Fin 80) : Option Nat :=
  if s.biasHiZ c then none
  else some (s.biasOut c * if !s.kpr.imageLoaded || s.bit (Reg.BIA_CH_CFG c) 20 then 2 else 1)

/-- The power code of BIA_STAT. -/
def BiasPower.code : BiasPower → Nat
  | .off => 0
  | .rising => 1
  | .on => 2
  | .falling => 3

/-- BIA_STAT of channel `c` (R521 to R530). -/
def State.biaStat (s : State) (c : Fin 80) : Word :=
  let b := s.bias[c]
  BitVec.ofNat 32 (s.biasOut c * 0x10000 + b.src.toNat * 0x200 + b.queue.length % 32 * 16 + b.pwr.code)

end Sys2Proof.Machine
end

