-- ==== Sys2Proof/Machine/QuadOps.lean ====
section
/-! DEFINITION. What the quads share (R315 to R324, R330 to R332): power-up and power-down requests with their deferral,
the entry to FALLING, the levels of the control outputs, the quads that take part in a turnaround, and blanking. -/

namespace Sys2Proof.Machine

/-! ### Levels of the control outputs (R315, R316, R318, R319) -/

/-- The state code of SEQ_QSTAT (R318). -/
def QuadState.code : QuadState → Nat
  | .gated => 0
  | .rising => 1
  | .standby => 2
  | .receive => 3
  | .transmit => 4
  | .falling => 5

/-- The logical level of PAENq: in FALLING it is down from +100 ns (R319). -/
def State.paen (s : State) (q : Fin 16) : Bool :=
  let x := s.seq.quads[q]
  x.paen && !(x.st == .falling && nsPassed (s.now - x.fallAt) 100)

/-- The logical level of TRSWq: in FALLING it is at receive from +400 ns (R319). -/
def State.trsw (s : State) (q : Fin 16) : Bool :=
  let x := s.seq.quads[q]
  x.trsw && !(x.st == .falling && nsPassed (s.now - x.fallAt) 400)

/-- The logical level of LNAPq. -/
def State.lnap (s : State) (q : Fin 16) : Bool := (s.seq.quads[q]).lnap

/-- The outputs are driven: the image is loaded and the mode is not SHELF (R316). -/
def State.quadDriven (s : State) : Bool := s.kpr.imageLoaded && s.mode != .shelf

/-- The level of a quad's ball, or none while it is high-impedance: the logical level exclusive-ORed with the polarity
bit `i` of SEQ_TURN_CFG (R315, R316). -/
def State.ball (s : State) (i : Nat) (level : Bool) : Option Bool :=
  if s.quadDriven then some (level != s.bit Reg.SEQ_TURN_CFG i) else none

/-- SEQ_QSTAT of quad `q`: all levels and the state read 0 until the image is loaded (R317). -/
def State.qstat (s : State) (q : Fin 16) : Word :=
  let x := s.seq.quads[q]
  if s.kpr.imageLoaded then
    BitVec.ofNat 32 ((if x.deferred.isSome then 0x80000000 else 0) + (if s.lnap q then 0x400 else 0)
      + (if s.trsw q then 0x200 else 0) + (if s.paen q then 0x100 else 0) + x.st.code)
  else 0

/-! ### Power of a quad (R319 to R323) -/

/-- The "quad gated" clear applies to every channel whose quads are all down (R527). -/
def State.quadBiasHold (s : State) (q : Fin 16) : State :=
  s.forBias fun s c => if (s.servedQuads c).contains q && s.srcActive c 3 then s.biasHold c 3 else s

/-- The envelope that the detector's filter gives, of those of 10, 40 and 160 ns (R302). -/
def State.filtered (s : State) (env : Vector Int 3) : Int := env.toList.getD (min 2 (s.fld Reg.DPD_GUARD_CFG 1 0)) 0

/-- A threshold in 0.25 dBm at the PA output as a detector level in 0.01 dBm, with the coupling in 0.01 dB; none while it is disabled
(R303). -/
def detectorLevel (code cpl : Nat) : Option Int := if code = 0xFF then none else some (25 * (code : Int) - cpl)

/-- The forward detector's level of path `p` in the on or the off period (R303, R304). -/
def State.fwdLevel (s : State) (p : Fin 64) (on : Bool) : Option Int :=
  detectorLevel (if on then s.fld (Reg.DPD_GUARD_THR p) 31 24 else s.fld (Reg.DPD_GUARD_THR p) 23 16) (s.fld (Reg.DPD_OBS_CFG p) 31 16)

/-- The reflected detector's level of quad `q` (R303). -/
def State.reflLevel (s : State) (q : Fin 16) : Option Int :=
  detectorLevel (s.fld (Reg.DPD_REFL_THR q) 7 0) (s.fld (Reg.DPD_REFL_THR q) 31 16)

/-- The thresholds of path `p` change: its detectors judge afresh (R302). -/
def State.judgeAfresh (s : State) (p : Fin 64) : State :=
  let s := s.setDpd p fun d => { d with above := none }
  { s with dpd := { s.dpd with reflAbove := s.dpd.reflAbove.set (quadOf p) none } }

/-- A mute of path `p` by the guard ends (R305). -/
def State.unmute (s : State) (p : Fin 64) : State :=
  (s.setBit (Reg.DPD_TRIP_STAT p) 31 false).setDpd p fun d => { d with muteCal := false }

/-- The transmission of quad `q` is over for the guard: its paths' off period begins, and a mute ends (R304, R305, R319). -/
def State.guardOff (s : State) (p : Fin 64) : State :=
  ((s.setDpd p fun d => { d with onPeriod := false, recorded := d.recorded && !d.onPeriod }).judgeAfresh p).unmute p

/-- Quad `q` enters FALLING: its TX gates close and LNAPq is set in the same cycle; PAENq and TRSWq follow (R319), and the
bias clear of R527 applies. -/
def State.enterFalling (s : State) (q : Fin 16) : State :=
  let s := s.setQuad q fun x => { x with st := .falling, lnap := true, fallAt := s.now, deferred := none }
  let s := (pathsOf q).foldl (fun s p => (s.setPath p fun x =>
    { x.shut s.now with rxGate := false, rxStage := false }).guardOff p) s
  s.quadBiasHold q

/-- A request meets a transition that is running: it is counted once and waits (R322). -/
def State.deferQuad (s : State) (q : Fin 16) (up job : Bool) : State :=
  (s.bump (Reg.SEQ_DEFER_CNT q)).setQuad q fun x =>
    { x with deferred := some up, forJob := if up then job else x.forJob }

/-- A power-up request for quad `q`, from a calibration job or from a set change (R320, R322, R323). -/
def State.powerUpQuad (s : State) (q : Fin 16) (job : Bool) : State :=
  let x := s.seq.quads[q]
  match x.st with
  | .gated => s.setQuad q fun x => { x with st := .rising, forJob := job }
  | .falling => s.deferQuad q true job
  | .rising => s.setQuad q fun x => { x with deferred := none, forJob := x.forJob && job }
  | .receive | .transmit | .standby => s.setQuad q fun x => { x with deferred := none }

/-- A power-down request for quad `q` from a set change, stand_down or the end of a job (R320, R322, R323). -/
def State.powerDownQuad (s : State) (q : Fin 16) : State :=
  let x := s.seq.quads[q]
  match x.st with
  | .gated => s
  | .falling => s.setQuad q fun x => { x with deferred := none }
  | .rising | .transmit => s.deferQuad q false false
  | .receive | .standby => s.enterFalling q

/-- The power-down of SAFE and SHELF entry: a transmitting quad falls at once as well; RISING completes first (R320,
R322). -/
def State.dropQuad (s : State) (q : Fin 16) : State :=
  let x := s.seq.quads[q]
  match x.st with
  | .gated => s
  | .falling => s.setQuad q fun x => { x with deferred := none }
  | .rising => s.deferQuad q false false
  | .receive | .standby | .transmit => s.enterFalling q

/-- Quad `q` enters RECEIVE, with the levels that the chip's turnaround state gives a powered quad (R33, R318, R321). -/
def State.enterReceive (s : State) (q : Fin 16) : State :=
  let s := s.setQuad q fun x =>
    { x with st := .receive, paen := false, trsw := false, lnap := s.air.lnaProtected, forJob := false }
  (pathsOf q).foldl (fun s p => s.setPath p fun x =>
    { x.shut s.now with rxGate := !s.air.rxClosed, rxStage := !s.air.rxOff }) s

/-- Quad `q` enters STANDBY: paths under calibration control only (R318). -/
def State.enterStandby (s : State) (q : Fin 16) : State :=
  let s := s.setQuad q fun x => { x with st := .standby, paen := false, trsw := false, lnap := true }
  (pathsOf q).foldl (fun s p => s.setPath p fun x => x.shut s.now) s

/-! ### Turnarounds (R33, R320, R342, R463) -/

/-- The chip's position in the cascade. -/
def State.position (s : State) : Nat := s.fld Reg.PKT_CASCADE 9 8

/-- Quad `b` of this chip is the quad under measurement of the burst in progress, and its turnaround has begun (R342). -/
def State.burstTurn (s : State) (b : Fin 16) : Bool :=
  match s.seq.burst with
  | some x => x.turn && decide (x.quad.val = 16 * s.position + b.val)
  | none => false

/-- Quad `q` takes part in turnaround `t`: at a pattern boundary and around a kite window in which the chip transmits the quads in RECEIVE or
TRANSMIT; around a reciprocity burst the quad under measurement. -/
def State.takesPart (s : State) (t : Turn) (q : Fin 16) : Bool :=
  match t with
  | .burst b => b = q && s.burstTurn q && !(s.seq.quads[q]).st.isDown
  | .kite => s.kte.turn.isSome && (s.seq.quads[q]).st == .transmit
  | _ => (s.seq.quads[q]).st == .transmit

/-- Quad `q` follows the receive-side events of turnaround `t`: every powered quad in RECEIVE or TRANSMIT does (R33); around
a burst only the quad under measurement moves (R342). -/
def State.followsRx (s : State) (t : Turn) (q : Fin 16) : Bool :=
  match t with
  | .burst b => b = q && s.burstTurn q && !(s.seq.quads[q]).st.isDown
  | .kite => s.kte.turn.isSome && (s.seq.quads[q]).st.isUp
  | _ => (s.seq.quads[q]).st.isUp

/-- A change to each path of the quads for which `c` holds. -/
def State.pathsWhere (s : State) (c : Fin 16 → Bool) (f : PathSt → PathSt) : State :=
  s.forPaths fun s p => if c (quadOf p) then s.setPath p f else s

/-- A change to each quad for which `c` holds. -/
def State.quadsWhere (s : State) (c : Fin 16 → Bool) (f : Quad → Quad) : State :=
  s.forQuads fun s q => if c q then s.setQuad q f else s

/-! ### Blanking (R330 to R332) -/

/-- A blanking interval that affects every quad is open: lost lock or reference, the 2 µs after the relock, or a retune's
settling (R330). -/
def State.blankAll (s : State) : Bool :=
  s.clk.unlocked || (match s.clk.relockAt with | some t => !usPassed (s.now - t) 2 | none => false)
    || (match s.clk.settling with | some t => !usPassed (s.now - t) 80 | none => false)

/-- A blanking interval affects quad `q` now (R330). -/
def State.blanked (s : State) (q : Fin 16) : Bool :=
  let x := s.seq.quads[q]
  s.blankAll || x.sitsOut || x.quadOut

/-- The symbol now on air is blanked on quad `q` and counted once per quad (R331). -/
def State.countBlank (s : State) (q : Fin 16) : State :=
  if s.air.onAir.isSome && !(s.seq.quads[q]).blankCounted then
    (s.bump (Reg.SEQ_BLANK_CNT q)).setQuad q fun x => { x with blankCounted := true }
  else s

/-- A D symbol on air that is blanked on every quad leaves the duty windows (R332); its air end is `t`. -/
def State.dropDuty (s : State) (t : Nat) : State :=
  if (List.finRange 16).all fun q => (s.seq.quads[q]).blankCounted then
    { s with seq := { s.seq with duty := s.seq.duty.filter fun (e, _) => e != t } }
  else s

/-- A blanking interval affects a quad of the active set (R330, R473). -/
def State.kiteBlanked (s : State) : Bool := s.blankAll || (List.finRange 16).any fun q => bitOf s.seq.active q && s.blanked q

/-- A beacon on air is cut by a blanking interval that begins: the DACs carry the zero code from now on, and the beacon counts as skipped and as no
transmit time (R332, R473). What has been sent of it by then is out. -/
def State.cutBeacon (s : State) : State :=
  if s.kte.beacon.isSome && !s.kte.cut && s.kiteBlanked then
    let s := s.forPaths fun s p => s.setPath p fun x => x.shut s.now
    { s.bump Reg.KTE_TX_SKIP_CNT with
      kte := { s.kte with cut := true }
      seq := { s.seq with duty := s.seq.duty.filter fun x => x != s.kte.span } }
  else s

/-- The onset of an interval: a D symbol already on air is blanked from now on, on every affected quad (R331): its gates close, and the next
symbol that is sent opens them. -/
def State.blankOnset (s : State) : State :=
  let s := s.forQuads fun s q =>
    if s.blanked q then
      let s := s.countBlank q
      if s.air.onAir.isSome then (pathsOf q).foldl (fun s p => s.setPath p fun x => x.shut s.now) s else s
    else s
  let s := s.cutBeacon
  match s.air.onAir with
  | some a => s.dropDuty (s.air.onAirAt + (if a.sym.val = 0 then 4448 else 4384) * 8)
  | none => s

/-- A transmit gate of R64 that nothing but the symbol itself keeps closed. -/
def State.gateFree (s : State) (p : Fin 64) : Bool := !s.txRetired p && !s.bit (Reg.DPD_TRIP_STAT p) 31

end Sys2Proof.Machine
end

