-- ==== Sys2Proof/Machine/AirOps.lean ====
section
/-! DEFINITION. The air timeline (R13 to R24): positions on the grid, air stamps, and the instants of symbols. A position is
a number of samples since the start of a frame of SFN 0, within 10.24 s. Also the free values of the state. -/

namespace Sys2Proof.Machine

/-! ### The grid (R13 to R16) -/

/-- Samples of a slot, of a frame and of the whole cycle of 1024 frames (R14, R15). -/
def slotSamples : Nat := 61440
def frameSamples : Nat := 1228800
def cycleSamples : Nat := 1258291200

/-- Timing ticks in one sample (R109). -/
def ticksPerSample : Nat := 8

/-- Length of symbol `k` of a slot in samples (R14). -/
def symLen (k : Nat) : Nat := if k = 0 then 4448 else 4384

/-- Start of symbol `k` within its slot in samples (R16). -/
def symStart (k : Nat) : Nat := if k = 0 then 0 else 4448 + 4384 * (k - 1)

/-- CP length of symbol `k` (R14). -/
def cpLen (k : Nat) : Nat := if k = 0 then 352 else 288

/-- The symbol that sample `o` of a slot lies in. -/
def symAt (o : Nat) : Nat := if o < 4448 then 0 else 1 + (o - 4448) / 4384

/-- The position of a symbol's first CP sample (R14, R15). -/
def symPos (a : AirSym) : Nat := a.sfn * frameSamples + a.slot * slotSamples + symStart a.sym

/-- The symbol that contains position `p`, and the sample's offset in it. -/
def airAt (p : Nat) : AirSym × Nat :=
  let p := p % cycleSamples
  let o := p % slotSamples
  let k := symAt o % 14
  (⟨⟨p / frameSamples % 1024, Nat.mod_lt _ (by decide)⟩, ⟨p / slotSamples % 20, Nat.mod_lt _ (by decide)⟩,
    ⟨k, Nat.mod_lt _ (by decide)⟩⟩, o - symStart k)

/-- The slot number since SFN 0. -/
def slotIdx (a : AirSym) : Nat := a.sfn * 20 + a.slot

/-- The symbol number since SFN 0. -/
def symIdx (a : AirSym) : Nat := slotIdx a * 14 + a.sym

/-- The symbol with number `n` since SFN 0. -/
def symOfIdx (n : Nat) : AirSym :=
  ⟨⟨n / 280 % 1024, Nat.mod_lt _ (by decide)⟩, ⟨n / 14 % 20, Nat.mod_lt _ (by decide)⟩, ⟨n % 14, Nat.mod_lt _ (by decide)⟩⟩

/-! ### Air time (R17 to R24) -/

/-- The timeline is aligned (R24). -/
def State.aligned (s : State) : Bool := s.air.origin.isSome

/-- The present position on the downlink grid, 0 while unaligned. -/
def State.airPos (s : State) : Nat :=
  match s.air.origin with
  | some (t, sfn) => (sfn * frameSamples + (s.now - t) / ticksPerSample) % cycleSamples
  | none => 0

/-- The air stamp of a symbol and an offset in it (R17). -/
def stampOf (a : AirSym) (smp : Nat) : Nat := ((a.sfn * 32 + a.slot) * 16 + a.sym) * 0x200000 + smp % 65536 * 32

/-- The air stamp of the present instant; 0 while the timeline is unaligned. -/
def State.airStamp (s : State) : Nat :=
  if s.aligned then
    let (a, o) := airAt s.airPos
    stampOf a o
  else 0

/-- Ticks since the present sample began; 0 while unaligned. -/
def State.inSample (s : State) : Nat :=
  match s.air.origin with
  | some (t, _) => (s.now - t) % ticksPerSample
  | none => 0

/-- Ticks from the present instant to the start of position `p`, resolved to the occurrence that lies from 5.12 s before, inclusive, to
5.12 s after it, exclusive (R19). -/
def State.ticksTo (s : State) (p : Nat) : Int :=
  let cycle := cycleSamples * ticksPerSample
  let d := ((p + cycleSamples) * ticksPerSample - (s.airPos * ticksPerSample + s.inSample)) % cycle
  if d < cycle / 2 then d else (d : Int) - cycle

/-- The tick of position `p`, resolved under R19. -/
def State.tickOf (s : State) (p : Nat) : Nat := ((s.now : Int) + s.ticksTo p).toNat

/-- The tick at which symbol `a` of the downlink grid starts (R20). -/
def State.dlTick (s : State) (a : AirSym) : Nat := s.tickOf (symPos a)

/-- The tick at which symbol `a` of the uplink grid starts (R20, R21). -/
def State.ulTick (s : State) (a : AirSym) : Nat := s.dlTick a - s.air.ulAdvance * ticksPerSample

/-! ### Free values -/

/-- A free value, and the state with the next one due. -/
def State.freeNat (s : State) : Nat × State := (Config.free s.freeIdx, { s with freeIdx := s.freeIdx + 1 })

/-- A signed free value, and the state with the next one due. -/
def State.freeInt (s : State) : Int × State := (Config.freeInt s.freeIdx, { s with freeIdx := s.freeIdx + 1 })

/-- The production record is written to its rows of the keeper store. How many of the 64 rows that takes the spec leaves open (R344,
R538, R596). -/
def State.countProdRows (s : State) : State :=
  let (n, s) : Nat × State := s.freeNat
  s.bumpBy (Reg.KPR_LT 17) (1 + n % 64)

end Sys2Proof.Machine
end

