-- ==== Sys2Proof/Machine/Codec.lean ====
section
/-! DEFINITION. The codes of the link as pure functions: the check sums of markers, messages and parcels (R363, R373, R397),
parcel headers and flow ids (R396, R399), received air stamps (R17, R18), and block floating point (R171 to R173, R430). -/

namespace Sys2Proof.Machine

/-! ### Check sums -/

/-- One bit into a check register of `w` bits with polynomial `p`, most significant bit first. -/
def crcBit (w p r : Nat) (b : Bool) : Nat :=
  let r' := r * 2 % 2 ^ w
  if bitOf r (w - 1) != b then Nat.xor r' p else r'

/-- The bits of a byte, most significant first. -/
def byteBits (b : Byte) : List Bool := [7, 6, 5, 4, 3, 2, 1, 0].map fun i => bitOf b.toNat i

/-- A check register after bytes, most significant bit first. -/
def crcOf (w p init : Nat) (bs : List Byte) : Nat :=
  bs.foldl (fun r b => (byteBits b).foldl (crcBit w p) r) init

/-- The CRC-8 of R363: x^8 + x^2 + x + 1 from 0x00. -/
def crc8 (bs : List Byte) : Nat := crcOf 8 0x07 0 bs

/-- The CRC-16 of R373: x^16 + x^12 + x^5 + 1 from 0xFFFF. -/
def crc16 (bs : List Byte) : Nat := crcOf 16 0x1021 0xFFFF bs

/-- One bit out of the reflected register of the CRC-32. -/
def crc32Bit (r : Nat) : Nat := if r % 2 = 1 then Nat.xor (r / 2) 0xEDB88320 else r / 2

/-- One byte of the CRC-32, least significant bit first (R397). -/
def crc32Byte (r : Nat) (b : Byte) : Nat :=
  crc32Bit (crc32Bit (crc32Bit (crc32Bit (crc32Bit (crc32Bit (crc32Bit (crc32Bit (Nat.xor r b.toNat))))))))

/-- The CRC-32 of R397. -/
def crc32 (bs : List Byte) : Nat := Nat.xor (bs.foldl crc32Byte 0xFFFFFFFF) 0xFFFFFFFF

/-! ### Bytes -/

/-- Bytes `i` to `i + k − 1` of a message as one number (R12). -/
def fieldAt (bs : List Byte) (i k : Nat) : Nat := natOf ((bs.drop i).take k)

/-- Byte `i`, 0 past the end. -/
def byteAt (bs : List Byte) (i : Nat) : Nat := (bs.getD i 0).toNat

/-- Bits [hi:lo] of a number. -/
def bitsOf (n hi lo : Nat) : Nat := n / 2 ^ lo % 2 ^ (hi + 1 - lo)

/-- The bytes with those from `i` on replaced by `v` (a field rewritten in place). -/
def putBytes (bs : List Byte) (i : Nat) (v : List Byte) : List Byte := bs.take i ++ v ++ bs.drop (i + v.length)

/-- The words of a byte list, four bytes each, most significant first, the last one filled with zeros. -/
def wordsOf : Nat → List Byte → List Word
  | 0, _ => []
  | n + 1, bs => BitVec.ofNat 32 (natOf ((bs.take 4) ++ List.replicate (4 - (bs.take 4).length) 0)) :: wordsOf n (bs.drop 4)

/-! ### Air stamps (R17, R18) -/

/-- The symbol and sample of a received air stamp; none when it is invalid (R18). -/
def parseStamp (n : Nat) : Option (AirSym × Nat) :=
  let sfn := bitsOf n 39 30
  let slot := bitsOf n 29 25
  let sym := bitsOf n 24 21
  let smp := bitsOf n 20 5
  if h : slot < 20 ∧ sym < 14 then
    if smp < symLen sym then some (⟨⟨sfn % 1024, Nat.mod_lt _ (by decide)⟩, ⟨slot, h.1⟩, ⟨sym, h.2⟩⟩, smp) else none
  else none

/-! ### Parcels (R396 to R402) -/

/-- A parcel's header (R396); its length is that of the payload. -/
structure Header where
  plane : Nat
  sub : Nat
  judged : Bool
  /-- retx in bit 6, and the reserved bits (R396). -/
  bits : Nat
  flow : Nat
  seq : Nat
  air : Nat
  deriving DecidableEq, Repr

/-- The bytes of a header, hcrc included (R396, R397). -/
def headerBytes (h : Header) (len : Nat) : List Byte :=
  let bs := bytesOf 1 (h.plane * 32 + h.sub % 32)
    ++ bytesOf 1 ((if h.judged then 128 else 0) + h.bits % 128)
    ++ bytesOf 2 h.flow ++ bytesOf 2 len ++ bytesOf 4 h.seq ++ bytesOf 5 h.air
  bs ++ bytesOf 1 (crc8 bs)

/-- A whole parcel; with `stomp` its trailer is the bitwise inverse of the right one (R397, R426). -/
def parcelBytes (h : Header) (payload : List Byte) (stomp : Bool) : List Byte :=
  let bs := headerBytes h payload.length ++ payload
  let c := crc32 bs
  bs ++ bytesOf 4 (if stomp then 0xFFFFFFFF - c else c)

/-- The header in a parcel's first 16 bytes. -/
def parseHeader (bs : List Byte) : Header :=
  { plane := bitsOf (byteAt bs 0) 7 5, sub := bitsOf (byteAt bs 0) 4 0,
    judged := bitOf (byteAt bs 1) 7, bits := byteAt bs 1 % 128,
    flow := fieldAt bs 2 2, seq := fieldAt bs 6 4, air := fieldAt bs 10 5 }

/-- The length field of a header. -/
def headerLen (bs : List Byte) : Nat := fieldAt bs 4 2 % 2 ^ 14

/-- The fields of a flow id (R399). -/
def flowDest (f : Nat) : Nat := bitsOf f 15 13
def flowSrc (f : Nat) : Nat := bitsOf f 12 10
def flowCar (f : Nat) : Nat := bitsOf f 9 8

/-- A flow id (R399). -/
def mkFlow (dest src car stream : Nat) : Nat := dest % 8 * 8192 + src % 8 * 1024 + car % 4 * 256 + stream % 256

/-- The queue of a plane and subtype (R402); none for the reserved ones. -/
def queueOf : Nat → Nat → Option (Fin 8)
  | 3, 0 | 3, 1 => some 0
  | 5, 2 | 5, 3 => some 1
  | 0, 0 => some 2
  | 5, 0 | 5, 1 => some 3
  | 1, 0 => some 4
  | 5, 4 | 5, 5 | 5, 6 => some 5
  | 2, 0 | 2, 1 => some 6
  | 4, 0 | 4, 1 | 4, 2 => some 7
  | _, _ => none

/-- Queues 1, 5 and 7 are reliable (R402). -/
def reliable (q : Nat) : Bool := q = 1 || q = 5 || q = 7

/-- Credits that a parcel takes (R405). -/
def creditsFor (len : Nat) : Nat := (20 + len + 63) / 64

/-! ### Block floating point (R171 to R173, R430) -/

/-- Mantissa width of a width code (R174): 0 9 bits, 1 7 bits, 2 12 bits. -/
def bfpWidth : Nat → Nat
  | 1 => 7
  | 2 => 12
  | _ => 9

/-- Bits of one block (R171). -/
def bfpBlockBits (w : Nat) : Nat := 4 + 24 * w

/-- Bytes of a run of `n` blocks (R171). -/
def bfpRunBytes (w n : Nat) : Nat := (n * bfpBlockBits w + 7) / 8

/-- A number of `w` bits as bits, most significant first. -/
def natBits (w n : Nat) : List Bool := (List.range w).map fun i => bitOf n (w - 1 - i)

/-- Bits as a number, most significant first. -/
def ofBits (bs : List Bool) : Nat := bs.foldl (fun a b => a * 2 + if b then 1 else 0) 0

/-- Bits packed into bytes, the last one filled with zeros; `n` is the number of bytes. -/
def packBits : Nat → List Bool → List Byte
  | 0, _ => []
  | n + 1, bs => BitVec.ofNat 8 (ofBits ((bs ++ List.replicate 8 false).take 8)) :: packBits n (bs.drop 8)

/-- The parts `v` with exponent `e` as mantissas, rounded half away from zero. -/
def bfpMant (e : Nat) (v : List Int) : List Int := v.map fun x => roundDiv x (2 ^ e)

/-- Every mantissa fits `w` bits. -/
def bfpFits (w : Nat) (m : List Int) : Bool := m.all fun x => decide (-(2 ^ (w - 1)) ≤ x) && decide (x ≤ 2 ^ (w - 1) - 1)

/-- The first of the exponents `e` to `e + n` that fits, with the mantissas. -/
def bfpSearch (w : Nat) (v : List Int) : Nat → Nat → Option (Nat × List Int)
  | 0, e => let m := bfpMant e v; if bfpFits w m then some (e, m) else none
  | n + 1, e => let m := bfpMant e v; if bfpFits w m then some (e, m) else bfpSearch w v n (e + 1)

/-- One block of parts of `p` bits: exponent, mantissas, and whether it saturated (R172; R430 for p = 24). -/
def bfpEncode (p w : Nat) (v : List Int) : Nat × List Int × Bool :=
  match bfpSearch w v (p - w) 0 with
  | some (e, m) => (e, m, false)
  | none => (p - w, (bfpMant (p - w) v).map (satInt (-(2 ^ (w - 1))) (2 ^ (w - 1) - 1)), true)

/-- The bits of one block (R171). -/
def bfpBits (w : Nat) (e : Nat) (m : List Int) : List Bool := natBits 4 e ++ (m.map fun x => natBits w (toBits w x)).flatten

/-- A run of blocks as bytes, and how many of them saturated. -/
def bfpRun (p w : Nat) (blocks : List (List Int)) : List Byte × Nat :=
  let es := blocks.map (bfpEncode p w)
  (packBits (bfpRunBytes w blocks.length) (es.map fun (e, m, _) => bfpBits w e m).flatten,
    (es.filter fun (_, _, sat) => sat).length)

/-- Block `i` of a run: its exponent and mantissas. -/
def bfpBlockAt (w : Nat) (run : Nat) (total i : Nat) : Nat × List Int :=
  let blk := run / 2 ^ (total - (i + 1) * bfpBlockBits w) % 2 ^ bfpBlockBits w
  (blk / 2 ^ (24 * w), (List.range 24).map fun j => signedOf w (blk / 2 ^ ((23 - j) * w) % 2 ^ w))

/-- The 24 parts of a block, saturated to `p` bits, and whether one saturated (R173). -/
def bfpDecode (p e : Nat) (m : List Int) : List Int × Bool :=
  let v := m.map fun x => x * 2 ^ e
  (v.map (satInt (-(2 ^ (p - 1))) (2 ^ (p - 1) - 1)), v.any fun x => x < -(2 ^ (p - 1)) || 2 ^ (p - 1) - 1 < x)

/-- Block `i` of the bytes of a run, decoded to s16 parts (R173). -/
def bfpRead (w : Nat) (bs : List Byte) (i : Nat) : List Int × Bool :=
  let (e, m) := bfpBlockAt w (natOf bs) (8 * bs.length) i
  bfpDecode 16 e m

/-! ### The rotation of a symbol (R164) -/

/-- The body start of a symbol within its subframe in samples (R164). -/
def bodyStart (a : AirSym) : Nat := slotSamples * (a.slot % 2) + symStart a.sym + cpLen a.sym

/-- The angle of R164 in units of 360°/65 536, for N0 = 6 lo_code + off_code and a body start. -/
def rotAngle (n0 nb : Nat) : Nat := (roundDiv ((n0 * nb % 24576 * 8 : Nat) : Int) 3).toNat % 65536

end Sys2Proof.Machine
end

