-- ==== Sys2Proof/Machine/MemOps.lean ====
section
/-! DEFINITION. The memory address space (R484 to R487): reads and writes of bytes with their error checks (R486, R492, R493),
and the mapping to physical DRAM (R490, R494). A byte that nothing has written reads 0 (DESIGN CHOICE, unsafe: log entry of the
memory); where the spec gives an SRAM region no layout, its bytes are free values until something writes them. -/

namespace Sys2Proof.Machine

/-! ### The address space (R484, R485, R487) -/

/-- The usable DRAM size (R488). -/
def State.dramSize (s : State) : Nat := 0x38000000 * 2 ^ s.fld Reg.MEM_CFG 1 0

/-- SRAM (R484). -/
def inSram (a n : Nat) : Bool := 0xF0000000 ≤ a && a + n ≤ 0xF1800000

/-- DRAM (R484). -/
def State.inDram (s : State) (a n : Nat) : Bool := a + n ≤ s.dramSize

/-- Every byte of an access lies in one of the two ranges (R484). -/
def State.memValid (s : State) (a n : Nat) : Bool := inSram a n || s.inDram a n

/-- The last region (R183). -/
def State.lastBase (s : State) : Nat := s.fld Reg.BMX_LAST_BASE 31 12 * 4096
def State.nLast (s : State) : Nat := s.fld Reg.BMX_LAST_CNT 11 0
def lastSlot : Nat := 0x68000

/-- The address of bank `b` of last `i` (R183). -/
def State.slotAddr (s : State) (i b : Nat) : Nat := s.lastBase + (2 * i + b) * lastSlot

/-- The access touches the last region. -/
def State.touchesLasts (s : State) (a n : Nat) : Bool :=
  decide (a < s.lastBase + 2 * s.nLast * lastSlot) && decide (s.lastBase < a + n)

/-- The access lies wholly in a slot that is granted to management (R187, R189). -/
def State.inGranted (s : State) (a n : Nat) : Bool :=
  s.bmx.grants.any fun g =>
    match g.bank with
    | some b => g.mgmt && decide (s.slotAddr g.last b ≤ a) && decide (a + n ≤ s.slotAddr g.last b + lastSlot)
    | none => false

/-- A write by management or by a host spool may touch these bytes (R485, R487). -/
def State.hostWritable (s : State) (a n : Nat) : Bool :=
  (decide (0xF1600000 ≤ a) && decide (a + n ≤ 0xF1700000))
    || (s.inDram a n && (!s.touchesLasts a n || s.inGranted a n))

/-- SRAM whose layout the spec does not give: the working stores, the last directory, and the keeper region past the
black-box ring (R485). -/
def unstated (a : Nat) : Bool :=
  (0xF0000000 ≤ a && a < 0xF1600000) || (0xF1740000 ≤ a && a < 0xF1744000) || (0xF1758000 ≤ a && a < 0xF1800000)

/-! ### Bytes -/

/-- The byte at `a`. -/
def State.memGet (s : State) (a : Nat) : Byte := tabGet (fun _ => 0) s.mem.cells a

/-- The byte at `a` set to `b`. -/
def State.memPut (s : State) (a : Nat) (b : Byte) : State :=
  { s with mem := { s.mem with
      cells := tabPut (fun _ => 0) s.mem.cells a b
      wrote := if unstated a then tabPut (fun _ => false) s.mem.wrote a true else s.mem.wrote } }

/-- Bytes written from `a` on, without any check. -/
def State.memPuts (s : State) (a : Nat) (bs : List Byte) : State :=
  match bs with
  | [] => s
  | b :: t => (s.memPut a b).memPuts (a + 1) t

/-- The `n` bytes from `a` on as stored. -/
def State.memGets (s : State) (a n : Nat) : List Byte := (List.range n).map fun i => s.memGet (a + i)

/-- A byte of SRAM that no rule and no spool has given a value. -/
def State.openByte (s : State) (a : Nat) : Bool := unstated a && !tabGet (fun _ => false) s.mem.wrote a

/-! ### Check codes (R486, R491, R492) -/

/-- The unit of the check code that an address lies in: a DRAM block or an SRAM word. -/
def markKey (a : Nat) : Nat := if 0xF0000000 ≤ a then a / 8 else a / 64

/-- The units that `n` bytes from `a` on touch. -/
def markKeys (a n : Nat) : List Nat :=
  (List.range (markKey (a + n - 1) + 1 - markKey a)).map fun i => markKey a + i

/-- A unit of SRAM. -/
def sramUnit (k : Nat) : Bool := decide (0x1E000000 ≤ k)

/-- The bytes of a unit: 8 of an SRAM word, 64 of a DRAM block. -/
def unitBytes (k : Nat) : Nat := if sramUnit k then 8 else 64

/-- What the code says of a unit. -/
def State.mark (s : State) (k : Nat) : Mark := tabGet (fun _ => .ok) s.mem.marks k

/-- A unit's mark. -/
def State.setMark (s : State) (k : Nat) (m : Mark) : State :=
  { s with mem := { s.mem with marks := tabPut (fun _ => .ok) s.mem.marks k m } }

/-- A unit with this mark decodes as uncorrectable (R486, R491). -/
def Mark.bad : Mark → Bool
  | .ok | .single _ => false
  | _ => true

/-- Some of `n` bytes from `a` on are marked uncorrectable. -/
def State.memBad (s : State) (a n : Nat) : Bool := (markKeys a n).any fun k => (s.mark k).bad

/-- A data bit of a unit flips where it is stored; a bit of its code leaves the bytes as they are. -/
def State.flipBit (s : State) (k n : Nat) : State :=
  if n < 8 * unitBytes k then
    let a := k * unitBytes k + n / 8
    s.memPut a (s.memGet a ^^^ BitVec.ofNat 8 (2 ^ (7 - n % 8)))
  else s

/-- One upset strikes a unit (R486, R491): a second wrong bit makes it uncorrectable, and from then on its bytes are the wrong ones; the same bit
again is right again. The code of an SRAM word has 8 bits. -/
def State.strike (s : State) (k : Nat) : Upset → State
  | .bit n =>
    if sramUnit k && decide (72 ≤ n.val) then s
    else match s.mark k with
      | .ok => s.setMark k (.single n)
      | .single m => if m = n.val then s.setMark k .ok else ((s.flipBit k m).flipBit k n).setMark k .double
      | _ => s.flipBit k n
  | .astray b => if sramUnit k || (s.mark k).bad || b.toNat = k then s else s.setMark k (.astray b.toNat)

/-- Upsets strike units. -/
def State.upset (s : State) (us : List (Nat × Upset)) : State := us.foldl (fun s (a, u) => s.strike (markKey a) u) s

/-- The byte at `a` as a reader gets it: of a block that is read back from another address, that block's (R492). -/
def State.byteRead (s : State) (a : Nat) : Byte :=
  match s.mark (markKey a) with
  | .astray b => s.memGet (b * 64 + a % 64)
  | _ => s.memGet a

/-- The `n` bytes from `a` on as a reader gets them: free values where the spec gives no layout and nothing was written. -/
def State.memTake (s : State) (a : Nat) : Nat → List Byte × State
  | 0 => ([], s)
  | n + 1 =>
    if s.openByte a then
      let (v, s) : Nat × State := s.freeNat
      let (t, s) := s.memTake (a + 1) n
      (BitVec.ofNat 8 v :: t, s)
    else
      let (t, s') := s.memTake (a + 1) n
      (s.byteRead a :: t, s')

/-- The check of one unit that is read, and whether it is uncorrectable (R486, R492). `spool` is 0x3F for a requester that is no
spool. -/
def State.checkUnit (s : State) (k class_ spool : Nat) : Bool × State :=
  let sram := sramUnit k
  match s.mark k with
  | .ok => (false, s)
  | .single _ => (false, (s.setMark k .ok).bump (if sram then Reg.MEM_SRAM_CE_CNT else Reg.MEM_CE_CNT))
  | _ =>
    let a := k * unitBytes k
    let s := (s.bump (if sram then Reg.MEM_SRAM_UE_CNT else Reg.MEM_UE_CNT)).wr Reg.MEM_ERR_ADDR (BitVec.ofNat 32 a)
    let s := s.wr Reg.MEM_ERR_STAT (BitVec.ofNat 32 ((if sram then 0x80000000 else class_ * 0x10000) + spool))
    (true, if sram then s.raise 0x0502 [(4, a)] else s.raise 0x0501 [(4, a), (1, class_)])

/-- The checks of all units of a read. -/
def State.checkUnits (s : State) (ks : List Nat) (class_ spool : Nat) : Bool × State :=
  ks.foldl (fun (bad, s) k =>
    let (b, s) := State.checkUnit s k class_ spool
    (bad || b, s)) (false, s)

/-- The `n` bytes from `a` on after the checks of their units, and whether some of them are marked uncorrectable. -/
def State.readUnits (s : State) (a n class_ spool : Nat) : (List Byte × Bool) × State :=
  let (bad, s) := s.checkUnits (if n = 0 then [] else markKeys a n) class_ spool
  let (bs, s) := s.memTake a n
  ((bs, bad), s)

/-- One unit that a write touches (R493): covered whole its mark is new; covered in part it is read first, and an uncorrectable
DRAM block is written poisoned, with the bytes that the read delivered. -/
def State.writeUnit (s : State) (whole poison : Bool) (k class_ spool : Nat) : State :=
  let sram := sramUnit k
  if whole then s.setMark k (if poison && !sram then .poison else .ok)
  else
    let bs := (List.range 64).map fun i => s.byteRead (k * 64 + i)
    let (bad, s) := s.checkUnit k class_ spool
    if sram then s
    else if bad then ((s.memPuts (k * 64) bs).setMark k .poison).bump Reg.MEM_POISON_CNT
    else if poison then s.setMark k .poison else s

/-- The unit `k` lies wholly inside `n` bytes from `a` on. -/
def unitInside (k a n : Nat) : Bool := decide (a ≤ k * unitBytes k) && decide (k * unitBytes k + unitBytes k ≤ a + n)

/-- A write of bytes from `a` on, poisoned when they were read uncorrectable (R493, R518). -/
def State.writeUnits (s : State) (a : Nat) (bs : List Byte) (poison : Bool) (class_ spool : Nat) : State :=
  let n := bs.length
  let ks := if n = 0 then [] else markKeys a n
  (ks.foldl (fun s k => State.writeUnit s (unitInside k a n) poison k class_ spool) s).memPuts a bs

/-! ### Physical DRAM (R490, R494) -/

/-- The physical address of a usable memory address (R490). -/
def physAddr (a : Nat) : Nat := a / 64 / 7 * 512 + a / 64 % 7 * 64 + a % 64

/-- The address of the check word of the block of `a` (R490). -/
def checkAddr (a : Nat) : Nat := a / 64 / 7 * 512 + 448 + a / 64 % 7 * 8

/-- The exclusive-or of the bits of `p` that a mask selects (R494). -/
def parityOf (mask p : Nat) : Nat := (List.range 32).foldl (fun x i => if bitOf mask i && bitOf p i then 1 - x else x) 0

/-- A mapping mask (R494): 0 channel, 1 bg0, 2 bg1, 3 ba0, 4 ba1, 5 rank. -/
def State.mapMask (s : State) (i : Nat) : Nat := (s.rd (Reg.MEM_MAP_CH + 4 * i)).toNat / 512 * 512

/-- Two ranks (R488). -/
def State.twoRanks (s : State) : Bool := s.bit Reg.MEM_CFG 8

/-- Where a physical address lies: channel, rank, bank (bg1 bg0 ba1 ba0) and row (R494). -/
def State.dramPlace (s : State) (p : Nat) : Nat × Nat × Nat × Nat :=
  let x := fun i => parityOf (s.mapMask i) p
  (x 0, if s.twoRanks then x 5 else 0, x 2 * 8 + x 1 * 4 + x 4 * 2 + x 3, p / (if s.twoRanks then 0x20000 else 0x10000))

end Sys2Proof.Machine
end

