-- ==== Sys2Proof/Machine/ModeOps.lean ====
section
/-! DEFINITION. What the whole chip shares: attenuation and back-off taking effect (R69, R544), retirement of a side of a
path (R97 to R102), the observation crossbar (R91, R92, R95), the end of calibration jobs (R338, R339), cancelled
alignments (R23, R123, R450), mode changes (R567) and the entry to SAFE (R572). -/

namespace Sys2Proof.Machine

/-! ### Attenuation and back-off -/

/-- A pending TXP_ATTEN value of path `p` takes effect, and pend clears (R69). -/
def State.applyAtten (s : State) (p : Fin 64) : State :=
  let v := s.fld (Reg.TXP_ATTEN p) 6 0
  (s.setBit (Reg.TXP_ATTEN p) 31 false).setPath p fun x => { x with atten := v }

/-- The back-off that the entered warn thresholds ask of quad `q`, 0.25 dB units (R544). -/
def State.backoffTarget (s : State) (q : Fin 16) : Nat :=
  let n := ((List.finRange 28).filter fun t => s.thrEntered t 0 && bitOf (s.sensorScope t) q).length
  min (s.fld Reg.HKA_BACKOFF_CFG 15 8) (n * s.fld Reg.HKA_BACKOFF_CFG 7 0)

/-- The back-off of quad `q` takes effect (R544). -/
def State.applyBackoff (s : State) (q : Fin 16) : State := s.setFld (Reg.HKA_QUAD q) 7 0 (s.backoffTarget q)

/-- Attenuation of path `p` in force: the host's value and the quad's back-off, capped at 31.75 dB (R68, R544). -/
def State.attenInForce (s : State) (p : Fin 64) : Nat :=
  min 127 ((s.paths[p]).atten + s.fld (Reg.HKA_QUAD (quadOf p)) 7 0)

/-- Every pending attenuation and every changed back-off takes effect (R69, R544). -/
def State.applyAllAtten (s : State) : State :=
  (s.forPaths fun s p => s.applyAtten p).forQuads fun s q => s.applyBackoff q

/-! ### The observation crossbar (R90 to R96) -/

/-- The physical receiver that holds logical number `l`, 0xF when absent (R90, R96). -/
def State.physOf (s : State) (l : Nat) : Nat := s.fld Reg.RXP_OBS_MAP (4 * l + 3) (4 * l)

/-- Receiver `k` is free of any owner. -/
def State.obsFree (s : State) (k : Nat) : Bool := s.fld (Reg.RXP_OBS_ROUTE k) 1 0 = 0

/-- Receiver `k` loses its route and its owner. -/
def State.obsRelease (s : State) (k : Nat) : State :=
  ((s.setFld (Reg.RXP_OBS_ROUTE k) 22 16 0x7F).setFld (Reg.RXP_OBS_ROUTE k) 1 0 0).setBit (Reg.RXP_OBS_ROUTE k) 31 false

/-- Receiver `k` takes a route: source, attenuation and owner. -/
def State.obsRoute (s : State) (k src atten owner : Nat) : State :=
  ((s.setFld (Reg.RXP_OBS_ROUTE k) 22 16 src).setFld (Reg.RXP_OBS_ROUTE k) 12 8 atten).setFld
    (Reg.RXP_OBS_ROUTE k) 1 0 owner

/-- The visit of logical receiver `l`, changed. -/
def State.setVisit (s : State) (l : Fin 8) (v : Option Visit) : State :=
  { s with dpd := { s.dpd with visits := s.dpd.visits.set l v } }

/-- The visit of logical receiver `l` ends and its receiver is free again (R292). -/
def State.endVisit (s : State) (l : Fin 8) : State :=
  match s.dpd.visits[l] with
  | none => s
  | some _ =>
    let s := s.setVisit l none
    if s.physOf l < 9 then s.obsRelease (s.physOf l) else s

/-- The visits of a path end (R98). -/
def State.endVisitsOf (s : State) (p : Fin 64) : State :=
  (List.finRange 8).foldl (fun s l =>
    match s.dpd.visits[l] with
    | some v => if v.path = p then s.endVisit l else s
    | none => s) s

/-- A capture running in the visit of `l` is to be discarded and counted (R295). -/
def State.dropCapture (s : State) (l : Fin 8) : State :=
  match s.dpd.visits[l] with
  | some v =>
    if v.capturing && !v.drop then
      (s.bump (Reg.DPD_CAP_DROP_CNT v.path)).setVisit l (some { v with drop := true })
    else s
  | none => s

/-- The calibration engine takes receiver `k`: a pre-distorter capture on it is abandoned and counted (R92, R295). -/
def State.calTakes (s : State) (k : Nat) : State :=
  let s := (List.finRange 8).foldl (fun s l =>
    if s.physOf l = k then
      match s.dpd.visits[l] with
      | some v => if v.capturing && !v.drop then (s.dropCapture l).bump (Reg.RXP_OBS_ABORT_CNT k) else s
      | none => s
    else s) s
  let s := (List.finRange 8).foldl (fun s l => if s.physOf l = k then s.setVisit l none else s) s
  s.obsRoute k 65 (s.fld (Reg.RXP_OBS_ROUTE k) 12 8) 2

/-- Every receiver that the calibration engine owns is free again. -/
def State.calFreesAll (s : State) : State :=
  (List.range 9).foldl (fun s k => if s.fld (Reg.RXP_OBS_ROUTE k) 1 0 = 2 then s.obsRelease k else s) s

/-! ### Retirement (R97 to R102) -/

/-- Quad `q` is named in a mask. -/
def inMask (m : Nat) (q : Fin 16) : Bool := bitOf m q

/-- The start-up pass, or a PATH job of its quad, covers path `p`: the calibrations that R103 judges by. -/
def State.calCovers (s : State) (p : Fin 64) : Bool :=
  match s.seq.job with
  | some j => j.startup || (j.kind = 1 && inMask j.quads (quadOf p))
  | none => false

/-- The job that is running calibrates path `p` (R102, R339): OBSREF no path, COUPLER the one that SEQ_PA_REF names. -/
def State.jobCalibrates (s : State) (p : Fin 64) : Bool :=
  match s.seq.job with
  | some j => s.calCovers p || j.kind = 2 || j.kind = 3 || (j.kind = 5 && s.fld Reg.SEQ_PA_REF 5 0 = p.val)
  | none => false

/-- The item of the background cycle that has begun calibrates path `p` (R102, R339). An item that was begun and is not finished when
SERVICE or LEAN ends still counts as running, since the next window carries it on (DESIGN CHOICE). -/
def State.bgCalibrates (s : State) (p : Fin 64) : Bool :=
  s.seq.bgBegun && (decide (s.seq.bgStep = 16) || decide (s.seq.bgStep = (quadOf p).val))

/-- A side of path `p` is retired while it is being calibrated: the results of the running calibrations for it are discarded, and they count
as not within limits (R102). -/
def State.voidCal (s : State) (p : Fin 64) (tx : Bool) : State :=
  let job := s.jobCalibrates p
  let bg := s.bgCalibrates p
  let s := s.setPath p fun x =>
    if tx then { x with txCal := if job || bg then some false else x.txCal, txCalVoid := x.txCalVoid || job }
    else { x with rxCal := if job || bg then some false else x.rxCal, rxCalVoid := x.rxCalVoid || job }
  if bg then
    { s with seq := { s.seq with
        bgVoidTx := if tx then Nat.lor s.seq.bgVoidTx (2 ^ p.val) else s.seq.bgVoidTx
        bgVoidRx := if tx then s.seq.bgVoidRx else Nat.lor s.seq.bgVoidRx (2 ^ p.val) } }
  else s

/-- The live bit of side `p` in a pair of LIVE registers. -/
def State.setLive (s : State) (lo hi : Nat) (p : Fin 64) (b : Bool) : State :=
  if p.val < 32 then s.setBit lo p b else s.setBit hi (p - 32) b

/-- The "retirement" clear applies to the gate channel mapped to path `p`, source `i` of R527 in general. -/
def State.gateHold (s : State) (p : Fin 64) (i : Nat) : State :=
  s.forBias fun s c => if isGate c && s.gatePath c = p then s.biasHold c i else s

/-- The transmit side of path `p` is retired with a cause; a side already retired is left as it is (R98, R101, R102). -/
def State.retireTx (s : State) (p : Fin 64) (cause : Nat) : State :=
  if s.txRetired p then s
  else
    let s := s.wr (Reg.TXP_RETIRE p) (BitVec.ofNat 32 (0x80000000 + cause))
    let s := s.setLive Reg.TXP_LIVE_LO Reg.TXP_LIVE_HI p false
    let s := (s.bump Reg.TXP_RETIRE_CNT).bump (Reg.KPR_LT 15)
    let s := (s.voidCal p true).setPath p fun x => { x.shut s.now with txSince := s.now }
    let s := s.setDpd p fun d => { d with onPeriod := false }
    let s := (s.gateHold p 5).endVisitsOf p
    s.raiseEffect 0x0901 [(1, p), (1, cause)]

/-- The receive side of path `p` is retired with a cause (R99, R101, R102). -/
def State.retireRx (s : State) (p : Fin 64) (cause : Nat) : State :=
  if s.rxRetired p then s
  else
    let s := s.wr (Reg.RXP_RETIRE p) (BitVec.ofNat 32 (0x80000000 + cause))
    let s := s.setLive Reg.RXP_LIVE_LO Reg.RXP_LIVE_HI p false
    let s := (s.bump Reg.RXP_RETIRE_CNT).bump (Reg.KPR_LT 15)
    let s := (s.voidCal p false).setPath p fun x => { x with rxSince := s.now }
    s.raiseEffect 0x0A01 [(1, p), (1, cause)]

/-! ### Calibration jobs -/

/-- SEQ_CAL_STAT after the end of a job: busy clears, kind and result stand (R338, R339). -/
def State.calResult (s : State) (kind result noPair : Nat) : State :=
  (((s.setBit Reg.SEQ_CAL_STAT 31 false).setFld Reg.SEQ_CAL_STAT 26 24 kind).setFld
    Reg.SEQ_CAL_STAT 21 20 result).setFld Reg.SEQ_CAL_STAT 6 0 noPair

/-- No sum of tones of amplitude `amp`, in TX scale, saturates in the correction stage of path `p` (R63). -/
def State.toneFits (s : State) (p : Fin 64) (amp : Nat) : Bool :=
  let taps := ([Reg.TXP_IQ_TAP0 p, Reg.TXP_IQ_TAP1 p, Reg.TXP_IQ_TAP2 p, Reg.TXP_IQ_TAP3 p].map fun r =>
    (s.sfld r 31 16).natAbs + (s.sfld r 15 0).natAbs).sum
  let dc := max (s.sfld (Reg.TXP_DC_OFS p) 27 16).natAbs (s.sfld (Reg.TXP_DC_OFS p) 11 0).natAbs
  decide (amp * (32768 + taps) / 131072 + 1 + dc ≤ 8191)

/-- A calibration transmission of tones of amplitude `amp` over `n` DAC samples of path `p` has ended: its saturated samples are counted
(R63). How many there are depends on phases that the spec leaves open. -/
def State.toneEnd (s : State) (p : Fin 64) (amp n : Nat) : State :=
  if s.toneFits p amp then s
  else
    let (k, s) : Nat × State := s.freeNat
    s.bumpBy (Reg.TXP_SAT_CNT p) (k % (n + 1))

/-- The transmission of a COUPLER job ends: the gate of its path closes, PAENq falls, a mute by the guard ends (R304, R305,
R345). -/
def State.endCouplerTx (s : State) : State :=
  match s.seq.couplerTx with
  | none => s
  | some p =>
    let s := { s with seq := { s.seq with couplerTx := none } }
    let s := s.setPath p fun x => { x.shut s.now with dacOn := false }
    let s := s.toneEnd p 8230 19660800
    let s := (s.setDpd p fun d => { d with recorded := false }).judgeAfresh p
    let s := (pathsOf (quadOf p)).foldl (fun s p => s.unmute p) s
    s.setQuad (quadOf p) fun x => { x with paen := false }

/-- Quad `q` of a job that has ended (R320, R321): in SERVICE and LEAN a quad of the active set returns to RECEIVE, also from
FALLING and RISING; any other that the job powered goes down. -/
def State.jobQuadBack (s : State) (q : Fin 16) : State :=
  let x := s.seq.quads[q]
  let back := s.mode.live && bitOf s.seq.active q
  let s := s.setQuad q fun x => { x with quadOut := false }
  match x.st with
  | .standby => if back then s.enterReceive q else s.enterFalling q
  | .rising =>
    if x.forJob then (if back then s.setQuad q fun x => { x with forJob := false } else s.powerDownQuad q) else s
  | .falling => if x.quadOut && back then s.powerUpQuad q false
    else if x.forJob && x.deferred = some true then s.setQuad q fun x => { x with deferred := none } else s
  | _ => s

/-- A burst is over for PAENq: its time with PAENq at 1 joins the transmit time of R350, that of an aborted burst too. -/
def State.endBurstPa (s : State) : State :=
  match s.seq.burstPa with
  | some r => { s with seq := { s.seq with burstPa := none, duty := (s.now, (s.now - r) / ticksPerSample) :: s.seq.duty } }
  | none => s

/-- The background cycle has begun its array calibration, for which it holds the coupler network's receiver (R339, R341). -/
def State.bgArray (s : State) : Bool := s.mode.live && s.seq.bgBegun && decide (s.seq.bgStep = 16)

/-- The quads of a job that has ended, and its receivers but for what the background cycle holds. The gate and driver clears that a COUPLER job
lifted apply again (R527). -/
def State.jobQuadsBack (s : State) : State :=
  let s := s.endCouplerTx.forQuads fun s q => s.jobQuadBack q
  let s := s.endBurstPa
  let s := { s with seq := { s.seq with burst := none } }
  let s := if s.bgArray then s else s.calFreesAll
  (s.biasApply 2).biasApply 3

/-- The running job or start-up pass is aborted, for cause 0 SAFE, 1 retune, 2 abort (R338). The spec does not say whether an aborted PATH job
counts as the latest that covered a side (R103): the model keeps the earlier verdict, but for a side that was retired while the job ran. -/
def State.abortJob (s : State) (cause : Nat) : State :=
  match s.seq.job with
  | none => s
  | some j =>
    let s := { s with seq := { s.seq with job := none, recipIn := [] } }
    let s := (s.calResult j.kind 3 (s.fld Reg.SEQ_CAL_STAT 6 0)).bump Reg.SEQ_CAL_FAIL_CNT
    s.jobQuadsBack.raiseEffect 0x0702 [(1, j.kind), (1, cause)]

/-! ### Mode changes -/

/-- A refused or cancelled alignment: counted and recorded (R123, R450). -/
def State.alignRefused (s : State) (d : Nat) : State :=
  (s.bump Reg.TIM_ALIGN_REFUSE_CNT).raiseEffect 0x0104 [(1, modeCode s.mode), (4, d)]

/-- The mode has left READY: an armed epoch compare or ALIGN_IN capture is cancelled (R123, R450). -/
def State.cancelAlign (s : State) : State :=
  let s :=
    if s.bit Reg.TIM_EPOCH_CTRL 31 || s.tim.fired then
      let s := (s.setBit Reg.TIM_EPOCH_CTRL 31 false).setBit Reg.TIM_EPOCH_CTRL 30 true
      { s with tim := { s.tim with fired := false } }.alignRefused s.tim.epochD
    else s
  if s.bit Reg.SYN_ALIGN 0 then (s.setBit Reg.SYN_ALIGN 0 false).alignRefused 0 else s

/-- The mode changes, and what hangs on the mode follows: pending attenuations (R69), KPR_LIVE_AIR (R571), armed alignments
(R23), the mode clears of the bias channels (R527). -/
def State.changeMode (s : State) (m : Mode) : State :=
  let old := s.mode
  let s := { s with mode := m }
  let s := if old.live && !m.live then (s.applyAllAtten).setBit Reg.KPR_LIVE_AIR 31 false else s
  let s := if old.live && !m.live && s.seq.job.isNone then s.calFreesAll else s
  let s := if old = .ready then s.cancelAlign else s
  match m with
  | .boot | .ready => s.biasApply 2
  | .safe => s.biasApply 1
  | _ => s

/-- A mode change that event 0x0003 records, with the old and the new mode; the entry to SAFE is recorded by 0x0004
instead (R602). -/
def State.setMode (s : State) (m : Mode) : State :=
  if s.mode = m then s
  else (s.raise 0x0003 [(1, modeCode s.mode), (1, modeCode m)]).changeMode m

/-- A set change that waits or is under way is given up. -/
def State.dropSetChange (s : State) : State :=
  let s := s.setBit Reg.SEQ_LEAN 31 false
  { s with seq := { s.seq with waiting := none, underway := none }, kpr := { s.kpr with goLive := false, standDown := false } }

/-- The die sensors' critical thresholds: cause TEMP is active (R572). -/
def State.tempActive (s : State) : Bool := (List.finRange 28).any fun t => 20 ≤ t.val && s.thrEntered t 2

/-- A power-good input is low or a compare slot with action 2 stands tripped: cause SUPPLY is active (R572). -/
def State.supplyActive (s : State) : Bool :=
  !s.pins.pgood0 || !s.pins.pgood1
    || (List.range 32).any fun k => s.bit (Reg.HKA_CMP_ACT k) 31 && s.fld (Reg.HKA_CMP_ACT k) 9 8 = 2

/-- The causes of SAFE active now, as KPR_SAFE_CAUSE shows them (R572): WATCHDOG, GUARD and INTEGRITY stay active from
their onset to their own release, so they read as their cause bits. -/
def State.safeActive (s : State) : Nat :=
  (if s.tempActive then 1 else 0) + (if s.supplyActive then 2 else 0) + (if s.pins.safeN then 0 else 4)
    + s.fld Reg.KPR_SAFE_CAUSE 5 3 * 8

/-- KPR_SAFE_CAUSE as it reads: the causes since SAFE entry and those active now (R572). -/
def State.safeCauseWord (s : State) : Word :=
  BitVec.ofNat 32 (s.safeActive * 0x10000 + s.fld Reg.KPR_SAFE_CAUSE 5 0)

/-- A cause of SAFE arises (R572): outside SHELF the chip enters SAFE, every quad falls at once, the bias clear applies, a
job is aborted and pending work that needs the air is given up; in SAFE, and in a halted BOOT, which only RESET_N and reboot leave
(R557), the cause is added to those recorded. -/
def State.enterSafe (s : State) (cause : Nat) : State :=
  if s.mode = .shelf then s
  else if s.mode = .safe ∨ s.kpr.haltedAt.isSome then s.setBit Reg.KPR_SAFE_CAUSE cause true
  else
    let s := (s.setFld Reg.KPR_SAFE_CAUSE 5 0 (2 ^ cause)).bump Reg.KPR_SAFE_CNT
    let s := s.bump (Reg.KPR_LT 11)
    let s := s.raiseEffect 0x0004 [(4, s.safeCauseWord.toNat)]
    let s := s.changeMode .safe
    let s := (s.forQuads fun s q => s.dropQuad q).dropSetChange
    let s := s.setBit Reg.KPR_LIVE_AIR 31 false
    { s with kpr := { s.kpr with tempClearAt := none, bootPorts := false } }.abortJob 0

/-- Registers can be written: BOOT has ended its step 5, and the chip is not in SHELF (R609, R610). -/
def State.writable (s : State) : Bool := s.kpr.writesOpen && s.mode != .shelf

end Sys2Proof.Machine
end

