-- ==== Sys2Proof/Machine/CarrierOps.lean ====
section
/-! DEFINITION. What the clocks and the front end share: channels and occupied bands (R139 to R141), the bounds of the LO
(R110, R111), the permitted frequencies in force (R346, R347), and the time quality (R455, R456). Frequencies are whole
numbers of 5 kHz. -/

namespace Sys2Proof.Machine

/-- Channel bandwidth in MHz of a bw code (R139). -/
def bwMHz : Nat → Nat
  | 0 => 20
  | 1 => 40
  | 2 => 50
  | 3 => 60
  | 4 => 80
  | 5 => 100
  | _ => 0

/-- PRB count of a bw code (R139). -/
def bwPrbs : Nat → Nat
  | 0 => 51
  | 1 => 106
  | 2 => 133
  | 3 => 162
  | 4 => 217
  | 5 => 273
  | _ => 0

/-- PRB groups of a carrier with `n` PRBs: groups of four, the last one short (R139). -/
def prbGroups (n : Nat) : Nat := (n + 3) / 4

/-- Half the occupied width of a carrier with `n` PRBs: 6N subcarriers of 30 kHz, in 5 kHz (R139, R142). -/
def halfBand (n : Nat) : Int := 36 * n

/-- Carrier `c` is enabled by the image (R139). -/
def State.carEnabled (s : State) (c : Nat) : Bool := bitOf s.dfe.enabled c

/-- Bandwidth code of carrier `c`. -/
def State.carBw (s : State) (c : Nat) : Nat := s.fld (Reg.DFE_CAR_CFG c) 18 16

/-- PRBs of carrier `c` (R139). -/
def State.carPrbs (s : State) (c : Nat) : Nat := bwPrbs (s.carBw c)

/-- An LO code within the range and with its IBW inside 3.1 to 5.2 GHz (R110, R111). -/
def loAllowed (code : Nat) : Bool :=
  110000 ≤ code && code ≤ 166666 && 3300000 ≤ code * 30 && code * 30 ≤ 5000000

/-- The band [lo, hi] lies inside one piece of the permitted frequencies in force; with no limit in force every band
passes (R346, R347). -/
def State.bandPermitted (s : State) (lo hi : Int) : Bool :=
  s.kpr.anyFreq || s.kpr.pieces.any fun (a, b) => decide ((a : Int) ≤ lo) && decide (hi ≤ (b : Int))

/-- The occupied band of a carrier with bandwidth code `bw` at LO `lo` and offset `off` is permitted (R140, R347). -/
def State.carPermitted (s : State) (bw lo : Nat) (off : Int) : Bool :=
  let f := 6 * (lo : Int) + off
  s.bandPermitted (f - halfBand (bwPrbs bw)) (f + halfBand (bwPrbs bw))

/-- Every channel edge of a carrier lies within ±200 MHz of the LO (R141). -/
def edgesInside (bw : Nat) (off : Int) : Bool :=
  decide (-40000 ≤ off - 100 * bwMHz bw) && decide (off + 100 * bwMHz bw ≤ 40000)

/-- The channels of two carriers do not overlap; their edges may touch (R141). -/
def channelsApart (bw1 : Nat) (off1 : Int) (bw2 : Nat) (off2 : Int) : Bool :=
  let gap : Int := 100 * (bwMHz bw1 + bwMHz bw2 : Nat)
  decide (gap ≤ off1 - off2) || decide (gap ≤ off2 - off1)

/-- Carrier `c` at offset `off c` meets R141 beside the other enabled carriers at LO `lo`; a carrier that the image does not enable has no
channel to judge. -/
def State.carFits (s : State) (lo : Nat) (off : Fin 4 → Int) (c : Fin 4) : Bool :=
  !s.carEnabled c
    || (edgesInside (s.carBw c) (off c) && s.carPermitted (s.carBw c) lo (off c)
      && (List.finRange 4).all fun d =>
        d == c || !s.carEnabled d || channelsApart (s.carBw c) (off c) (s.carBw d) (off d))

/-- The offsets after the requests `req` of the carriers `due` are judged at LO `lo` beside the offsets `base`: a refused one is judged no
further, `n` rounds at most (R143, R144). -/
def State.passing (s : State) (lo : Nat) (base : Fin 4 → Int) (req : Fin 4 → Option Int) : Nat → List (Fin 4) → List (Fin 4)
  | 0, due => due
  | n + 1, due =>
    let off := fun c : Fin 4 => if due.contains c then (req c).getD (base c) else base c
    s.passing lo base req n (due.filter fun c => s.carFits lo off c)

/-- The offsets that apply after a boundary with LO `lo` at which the requests of the carriers `due` are judged. -/
def State.offsetsAfter (s : State) (lo : Nat) (base : Fin 4 → Int) (due : List (Fin 4)) : Fin 4 → Int :=
  let req := fun c : Fin 4 => (s.dfe.request[c]).map (·.code)
  let pass := s.passing lo base req 4 (due.filter fun c => (req c).isSome)
  fun c => if pass.contains c then (req c).getD (base c) else base c

/-- The IBW of LO code `lo` contains the band [a, b] (R111, R466). -/
def ibwHolds (lo : Nat) (a b : Int) : Bool := decide (6 * (lo : Int) - 40000 ≤ a) && decide (b ≤ 6 * (lo : Int) + 40000)

/-- The kite band lies inside the IBW of LO code `lo` (R464). -/
def State.kiteBandIn (s : State) (lo : Nat) : Bool :=
  let f : Int := s.fld Reg.KTE_FREQ 19 0
  ibwHolds lo (f - 1728) (f + 1728)

/-! ### Time quality (R455, R456) -/

/-- The time quality: 0 UNSET, 1 VALID, 2 DEGRADED, 3 HOLDOVER (R455). -/
def State.quality (s : State) : Nat := s.fld Reg.TIM_QUAL 17 16

/-- The time quality changes: shown, counted and recorded (R456). -/
def State.setQuality (s : State) (q : Nat) : State :=
  if s.quality = q then s
  else ((s.setFld Reg.TIM_QUAL 17 16 q).bump Reg.TIM_QUAL_CHANGE_CNT).raiseEffect 0x0103 [(1, s.quality), (1, q)]

/-- A cause of degradation: VALID becomes DEGRADED (R456). -/
def State.degrade (s : State) : State := if s.quality = 1 then s.setQuality 2 else s

/-- Holdover sets or clears (R114, R456). -/
def State.setHoldover (s : State) (b : Bool) : State :=
  if s.clk.holdover = b then s
  else
    let s := { s with clk := { s.clk with holdover := b } }
    let s := (s.setBit Reg.SYN_LOCK_STAT 8 b).setBit Reg.TIM_QUAL 10 b
    if b then (if s.quality = 1 ∨ s.quality = 2 then s.setQuality 3 else s)
    else if s.quality = 3 then s.setQuality 2 else s

end Sys2Proof.Machine
end

