-- ==== Sys2Proof/Machine/SetOps.lean ====
section
/-! DEFINITION. What the pattern says of a symbol (R25 to R30), anchors of downlink runs, set changes (R325 to R327, R569),
the limits of a boot's end (R564, R565), and the observation check (R94 to R96). -/

namespace Sys2Proof.Machine

/-! ### The pattern (R25 to R30) -/

/-- Slots of one pass through the pattern pair (R25, R26). -/
def State.pairSlots (s : State) : Nat := (s.air.pats.map (·.nSlot)).foldl (· + ·) 0

/-- The pattern that slot `n` of the pair lies in, and the slot within it. -/
def patAt : List Pattern → Nat → Option (Pattern × Nat)
  | [], _ => none
  | p :: t, n => if n < p.nSlot then some (p, n) else patAt t (n - p.nSlot)

/-- The code of a symbol: direction in bits [3:2] (0 D, 1 U, 2 F), F use in bits [1:0] (R29, R554), with the pattern that
holds it; without a pattern GUARD. The pair repeats from slot 0 of every frame with an even SFN (R25). -/
def State.symCode (s : State) (a : AirSym) : Nat × Option Pattern :=
  match patAt s.air.pats ((slotIdx a) % 40 % max 1 s.pairSlots) with
  | some (p, n) => (p.syms.getD (14 * n + a.sym) 8, some p)
  | none => (8, none)

/-- Symbol `a` is a D symbol (R27). -/
def State.isD (s : State) (a : AirSym) : Bool := (s.symCode a).1 / 4 = 0

/-- Symbol `a` is a U symbol (R27). -/
def State.isU (s : State) (a : AirSym) : Bool := (s.symCode a).1 / 4 = 1

/-- The air start of a symbol in its own direction (R20, R21). -/
def State.airStart (s : State) (a : AirSym) : Nat := if s.isU a then s.ulTick a else s.dlTick a

/-- The pattern period of symbol `a`, counted from SFN 0 (R30). -/
def State.periodNo (s : State) (a : AirSym) : Nat := slotIdx a / max 1 s.pairSlots

/-- The use of F symbol `a` in force: a KITE or CAL symbol that is not active behaves as OPEN (R29, R30). -/
def State.symUse (s : State) (a : AirSym) : Nat :=
  match s.symCode a with
  | (c, some p) =>
    if c % 4 = 1 then (if s.periodNo a % 2 ^ p.kiteK = 0 then 1 else 3)
    else if c % 4 = 2 then (if s.periodNo a % 2 ^ p.calK = 0 then 2 else 3)
    else c % 4
  | (_, none) => 0

/-- The symbol before `a`. -/
def prevSym (a : AirSym) : AirSym := symOfIdx (symIdx a + 286719)

/-- The symbol after `a`. -/
def nextSym (a : AirSym) : AirSym := symOfIdx (symIdx a + 1)

/-- Symbol `a` is the first D symbol of a downlink run: an RX→TX anchor (R36). -/
def State.startsRun (s : State) (a : AirSym) : Bool := s.isD a && !s.isD (prevSym a)

/-- The first of the `n` symbols from number `i` on that meets `c`. -/
def findSym (c : AirSym → Bool) : Nat → Nat → Option AirSym
  | 0, _ => none
  | n + 1, i => if c (symOfIdx i) then some (symOfIdx i) else findSym c n (i + 1)

/-- The pattern pair holds a D symbol. -/
def State.hasD (s : State) : Bool := s.air.pats.any fun p => p.syms.any fun c => c / 4 = 0

/-- The anchor that a request made now takes: the first D symbol of a run that starts at least 20 µs from now, or with no D
symbol in the pattern pair the first symbol of a slot that does (R326, R569). -/
def State.anchorSym (s : State) : Option AirSym :=
  if s.aligned then
    let later := fun a => decide (0 ≤ s.ticksTo (symPos a)) && nsPassed (s.dlTick a - s.now) 20000
    let c := fun a => later a && if s.hasD then s.startsRun a else decide (a.sym.val = 0)
    findSym c 604 (symIdx (airAt s.airPos).1)
  else none

/-! ### Set changes (R325 to R327, R569) -/

/-- The quads of a lean path count: 1 names 32 paths, 2 names 16, any other 64 (R325). -/
def State.leanQuads (s : State) (paths : Nat) : Nat :=
  if paths = 1 then s.fld Reg.SEQ_LEAN_MASK 31 16 else if paths = 2 then s.fld Reg.SEQ_LEAN_MASK 15 0 else 0xFFFF

/-- A set change is requested: it replaces every request not yet carried out, and takes effect at its own anchor (R326). DESIGN CHOICE: a
stand_down that waits is a command of its own and stays; of a go_live that waits the set is replaced, and the chip goes live with the
later set at its anchor. -/
def State.requestSet (s : State) (kind : SetKind) (quads carMask : Nat) : State :=
  let stands := match s.seq.waiting with | some c => c.kind == .standDown | none => false
  if stands && kind == .lean then s
  else
    let goes := match s.seq.waiting with | some c => c.kind == .goLive | none => false
    let c : SetChange := { kind := if goes && kind == .lean then .goLive else kind, quads := quads, carMask := carMask, anchor := s.anchorSym.map fun a => s.dlTick a }
    { s.setBit Reg.SEQ_LEAN 31 true with seq := { s.seq with waiting := some c } }

/-- A write of SEQ_LEAN: stored, and in SERVICE and LEAN a set change is requested (R326). -/
def State.writeLean (s : State) (w : Word) : State :=
  let s := (s.setFld Reg.SEQ_LEAN 9 8 (fldOf w 9 8)).setFld Reg.SEQ_LEAN 3 0 (fldOf w 3 0)
  if s.mode.live then s.requestSet .lean (s.leanQuads (fldOf w 9 8)) (fldOf w 3 0) else s

/-- The carriers that take part: enabled by the image and kept by the set in force (R139, R327). -/
def State.carIn (s : State) (c : Nat) : Bool := s.carEnabled c && bitOf s.seq.carMask c

/-- The carriers in force are shown in DFE_CAR_CFG (R139, R327). -/
def State.showCarriers (s : State) : State :=
  (List.range 4).foldl (fun s c => s.setBit (Reg.DFE_CAR_CFG c) 31 (s.carEnabled c && bitOf s.seq.carMask c)) s

/-! ### The end of BOOT (R564, R565) -/

/-- State code of port `u` (R370). -/
def State.portState (s : State) (u : Nat) : Nat := s.fld (Reg.LN_TRAIN_STAT u) 31 28

/-- Port `u` is UP. -/
def State.portUp (s : State) (u : Nat) : Bool := s.portState u = 5

/-- Port `u` is enabled by the image (R357). -/
def State.portEn (s : State) (u : Nat) : Bool := s.bit (Reg.LN_CTRL u) 0

/-- Step 9: each enabled port is UP or in LISTEN (R564). -/
def State.portsSettled (s : State) : Bool := [0, 1].all fun u => !s.portEn u || s.portUp u || s.portState u = 7

/-- Step 10: each enabled port is UP, or there is no link wait, or it has run out (R564). -/
def State.linksWaited (s : State) : Bool :=
  s.kpr.linkWaitOver || s.fld Reg.KPR_BOOT_CFG 7 0 = 0 || [0, 1].all fun u => !s.portEn u || s.portUp u

/-- BOOT moves on after a port or the start-up pass has: READY follows when steps 8 to 10 have all ended, and KPR_BOOT_TIME
leaves step 10 out (R564, R565). -/
def State.bootAdvance (s : State) : State :=
  let s :=
    if s.mode = .boot && s.kpr.writesOpen && s.portsSettled && s.kpr.portsAt.isNone then
      { s with kpr := { s.kpr with portsAt := some s.now } }
    else s
  if s.mode = .boot && s.kpr.bootPorts then
    let s :=
      if s.portsSettled && s.kpr.bootDone.isNone then
        { s.setFld Reg.KPR_BOOT_STAT 19 16 10 with kpr := { s.kpr with bootDone := some s.now } }
      else s
    match s.kpr.bootDone with
    | some t =>
      if s.linksWaited then
        let s := s.setFld Reg.KPR_BOOT_TIME 15 0 (min 65535 ((t - s.kpr.bootStart) / 983040))
        { s with kpr := { s.kpr with bootPorts := false } }.setMode .ready
      else s
    | none => s
  else s

/-! ### The observation check (R94 to R96) -/

/-- Insertion of a number into a sorted list. -/
def insertSorted (x : Int) : List Int → List Int
  | [] => [x]
  | y :: t => if x ≤ y then x :: y :: t else y :: insertSorted x t

/-- Twice the median of a list: of an even number of values the sum of the two middle ones (R94). -/
def median2 (xs : List Int) : Int :=
  let t := xs.foldr insertSorted []
  let n := t.length
  if n % 2 = 1 then 2 * t.getD (n / 2) 0 else t.getD (n / 2 - 1) 0 + t.getD (n / 2) 0

/-- The role of receiver `k`: 0 in use, 1 ballast, 2 failed. -/
def State.obsRole (s : State) (k : Nat) : Nat := s.fld (Reg.RXP_OBS_STAT k) 31 30

/-- The logical receiver that a running capture on receiver `k` belongs to loses its capture (R95, R295). -/
def State.obsDrop (s : State) (k : Nat) : State :=
  let dpd := (List.finRange 8).find? fun (l : Fin 8) =>
    s.physOf l = k && (match s.dpd.visits[l] with | some v => v.capturing && !v.drop | none => false)
  match dpd with
  | some l => (s.dropCapture l).bump (Reg.RXP_OBS_ABORT_CNT k)
  | none => if s.bit (Reg.RXP_OBS_ROUTE k) 31 then s.bump (Reg.RXP_OBS_ABORT_CNT k) else s

/-- Receiver `k` is declared failed (R94): the ballast receiver takes its logical number and routing, or the number becomes
absent (R95, R96). A management capture that runs on the ballast receiver ends with the takeover: no rule counts it. -/
def State.obsFail (s : State) (k : Fin 9) : State :=
  let held := (List.finRange 8).find? fun (l : Fin 8) => s.physOf l = k.val
  let s := s.obsDrop k
  let s := s.setFld (Reg.RXP_OBS_STAT k) 31 30 2
  match held with
  | none => (s.obsRelease k).raise 0x0A05 [(1, k), (1, 0xF)]
  | some l =>
    match (List.range 9).find? fun b => s.obsRole b = 1 with
    | some b =>
      let route := s.rd (Reg.RXP_OBS_ROUTE k)
      let s := ((s.obsRelease k).wr (Reg.RXP_OBS_ROUTE b) route).setBit (Reg.RXP_OBS_ROUTE b) 31 false
      let s := (s.setFld (Reg.RXP_OBS_STAT b) 31 30 0).setFld Reg.RXP_OBS_MAP (4 * l + 3) (4 * l) b
      let s := s.setVisit l ((s.dpd.visits[l]).map fun v => { v with settle := s.now })
      s.raise 0x0A05 [(1, k), (1, l)]
    | none =>
      let s := (s.setVisit l none).obsRelease k
      (s.setFld Reg.RXP_OBS_MAP (4 * l + 3) (4 * l) 0xF).raise 0x0A05 [(1, k), (1, 0xF)]

/-- Twice a phase difference in 0.01°, brought into ±360°. -/
def wrapDeg2 (x : Int) : Int := (x + 36000) % 72000 - 36000

/-- The check of the observation receivers with the reference tone's gain (0.01 dB) and phase (0.01°) at each (R94): with at
least three left, one that lies more than 0.5 dB or 3° from the median is declared failed. The spec does not say how phases on a circle are
ordered: the model takes their median as numbers, and only the deviation from it round the circle. -/
def State.obsCheck (s : State) (m : Vector (Int × Int) 9) : State :=
  let live := (List.finRange 9).filter fun (k : Fin 9) => s.obsRole k != 2
  if live.length < 3 then s
  else
    let g := median2 (live.map fun k => (m[k]).1)
    let ph := median2 (live.map fun k => (m[k]).2)
    let bad := live.filter fun k =>
      100 < (2 * (m[k]).1 - g).natAbs || 600 < (wrapDeg2 (2 * (m[k]).2 - ph)).natAbs
    bad.foldl (fun s k => s.obsFail k) s

end Sys2Proof.Machine
end

