-- ==== Sys2Proof/Machine/DramOps.lean ====
section
/-! DEFINITION. The DRAM controller's queues (R494 to R497, R502): which request is served next, and the reads and writes of the address space,
which in DRAM are requests of the controller like any other. -/

namespace Sys2Proof.Machine

/-! ### Channels -/

/-- One channel, changed. -/
def State.setChan (s : State) (c : Fin 2) (f : DramCh → DramCh) : State :=
  { s with mem := { s.mem with chans := upd s.mem.chans c f } }

/-- The channel of a memory address, its bank as rank × 16 + bank, and its row (R490, R494). -/
def State.bankRow (s : State) (a : Nat) : Nat × Nat × Nat :=
  let (c, r, b, row) := s.dramPlace (physAddr a)
  (c, r * 16 + b, row)

/-- The channel and the rank of a memory address (R494). -/
def State.chanOf (s : State) (a : Nat) : Fin 2 := ⟨(s.bankRow a).1 % 2, Nat.mod_lt _ (by decide)⟩
def State.rankOf (s : State) (a : Nat) : Fin 2 := ⟨(s.bankRow a).2.1 / 16 % 2, Nat.mod_lt _ (by decide)⟩

/-- A gather window is open: a D symbol starts 30 µs to 50 µs from now (R496). -/
def State.gathering (s : State) : Bool :=
  s.aligned &&
    let (a, o) := airAt (s.airPos + 6144)
    s.isD a && decide (5 * o ≤ 12288)

/-! ### Requests (R496, R497, R502) -/

/-- The idle time of the rank that `a` lies in starts again, and the rank leaves power-down (R502). -/
def State.wakeRank (s : State) (a : Nat) : State :=
  let c := s.chanOf a
  let r := s.rankOf a
  (s.setFld (Reg.MEM_CH_STAT c) (16 + r) (16 + r) 0).setChan c fun k => { k with lastReq := k.lastReq.set r s.now }

/-- A request joins the queue of its channel. -/
def State.join (s : State) (x : DramReq) : State :=
  (s.wakeRank x.addr).setChan (s.chanOf x.addr) fun k => { k with queue := k.queue ++ [x] }

/-- Request `i` of a queue is ready: no older request touches its block (R497). -/
def readyAt (l : List DramReq) (i : Nat) : Bool :=
  match l[i]? with
  | some x => (l.take i).all fun y => y.addr / 64 != x.addr / 64
  | none => false

/-- The level at which a request is served, lowest first (R496). -/
def serveLevel (gather : Bool) (x : DramReq) : Nat :=
  if gather then (if x.class_ = 0 then 0 else if x.promoted then 1 else x.class_ + 1)
  else if x.promoted then 0 else x.class_

/-- A request hits the row that is open in its bank. -/
def State.rowHit (s : State) (c : Fin 2) (x : DramReq) : Bool :=
  let (_, b, row) := s.bankRow x.addr
  tabGet (fun _ => 0) (s.mem.chans[c]).rows b == row + 1

/-- The request that channel `c` serves next (R496, R497). -/
def State.nextReq (s : State) (c : Fin 2) : Option Nat :=
  let l := (s.mem.chans[c]).queue
  let g := s.gathering
  let ready := (List.range l.length).filter fun i => readyAt l i
  let level : Nat → Nat := fun i => match l[i]? with | some x => serveLevel g x | none => 5
  let best := ready.filter fun i => ready.all fun (j : Nat) => decide (level i ≤ level j)
  match best.find? fun i => match l[i]? with | some x => s.rowHit c x | none => false with
  | some i => some i
  | none => best.head?

/-- Channel `c` performs one request: the check of R486 to R493, the row that it leaves open, and the rank's idle time (R502). The bytes that it
reads, and whether they are marked. -/
def State.perform (s : State) (c : Fin 2) (x : DramReq) : (List Byte × Bool) × State :=
  let (_, b, row) := s.bankRow x.addr
  let (r, s) := match x.data with
    | some bs => (([], false), s.writeUnits x.addr bs x.poison x.class_ x.spool)
    | none => s.readUnits x.addr x.n x.class_ x.spool
  (r, (s.wakeRank x.addr).setChan c fun k => { k with rows := tabPut (fun _ => 0) k.rows b (row + 1) })

/-- Channel `c` serves the request that goes first: what it read, and whether it was the one that came last; nothing where none waits. -/
def State.serve (s : State) (c : Fin 2) : Option ((List Byte × Bool) × Bool × State) :=
  let l := (s.mem.chans[c]).queue
  match s.nextReq c with
  | none => none
  | some i =>
    match l[i]? with
    | none => none
    | some x =>
      let (r, s) := (s.setChan c fun k => { k with queue := k.queue.eraseIdx i }).perform c x
      some (r, i + 1 == l.length, s)

/-- Channel `c` serves requests until the one that came last is performed; that takes at most as many as wait. -/
def State.serveLast (s : State) (c : Fin 2) : Nat → (List Byte × Bool) × State
  | 0 => (([], false), s)
  | n + 1 =>
    match s.serve c with
    | none => (([], false), s)
    | some (r, last, s) => if last then (r, s) else s.serveLast c n

/-- Channel `c` serves every request that waits. -/
def State.serveAll (s : State) (c : Fin 2) : Nat → State
  | 0 => s
  | n + 1 =>
    match s.serve c with
    | none => s
    | some (_, _, s) => s.serveAll c n

/-- Every outstanding DRAM request completes (R503). -/
def State.drainDram (s : State) : State :=
  let s := s.serveAll 0 (s.mem.chans[(0 : Fin 2)]).queue.length
  s.serveAll 1 (s.mem.chans[(1 : Fin 2)]).queue.length

/-- One access within a DRAM block: it joins its channel's queue, and what goes before it under R496 and R497 is performed before it. -/
def State.accessBlock (s : State) (x : DramReq) : (List Byte × Bool) × State :=
  let c := s.chanOf x.addr
  let s := s.join x
  s.serveLast c (s.mem.chans[c]).queue.length

/-! ### The address space (R484 to R493) -/

/-- The parts of `n` bytes from `a` on that lie in one block each: address and length. -/
def blockParts (a n : Nat) : List (Nat × Nat) :=
  (List.range (if n = 0 then 0 else (a + n - 1) / 64 + 1 - a / 64)).map fun i =>
    let lo := max a ((a / 64 + i) * 64)
    (lo, min (a + n) ((a / 64 + i) * 64 + 64) - lo)

/-- A read of `n` bytes: the bytes, whether some of them are marked uncorrectable, and the state after. DESIGN CHOICE: a command's own access is
performed within its step, after the requests that go before it. -/
def State.memRead (s : State) (a n class_ spool : Nat) : (List Byte × Bool) × State :=
  if 0xF0000000 ≤ a then s.readUnits a n class_ spool
  else (blockParts a n).foldl (fun ((bs, bad), s) (b, k) =>
    let ((cs, q), s) := State.accessBlock s { class_ := class_, addr := b, n := k, data := none, at_ := s.now, spool := spool }
    ((bs ++ cs, bad || q), s)) (([], false), s)

/-- A write of bytes from `a` on, poisoned when they were read uncorrectable (R493, R518). -/
def State.memWrite (s : State) (a : Nat) (bs : List Byte) (poison : Bool) (class_ spool : Nat) : State :=
  if 0xF0000000 ≤ a then s.writeUnits a bs poison class_ spool
  else (blockParts a bs.length).foldl (fun s (b, k) =>
    (State.accessBlock s { class_ := class_, addr := b, n := k, data := some ((bs.drop (b - a)).take k), at_ := s.now, spool := spool, poison := poison }).2) s

end Sys2Proof.Machine
end

