-- ==== Sys2Proof/Machine/OrderCodec.lean ====
section
/-! DEFINITION. The bytes of orders, of layer data and of bridle parcels (R411, R415, R419, R429, R430, R241, R443): parsing with
the form checks that make a parcel malformed (R400), and the symbols and PRBs that a section covers. -/

namespace Sys2Proof.Machine

/-! ### PRBs as bits -/

/-- The PRBs `first` to `first + n − 1`. -/
def prbMask (first n : Nat) : Nat := (2 ^ n - 1) * 2 ^ first

/-- The PRBs of `a` that are not in `b`. -/
def maskMinus (a b : Nat) : Nat := a - Nat.land a b

/-- Number of PRBs in a mask. -/
def prbCount (m : Nat) : Nat := (List.range 273).countP fun i => bitOf m i

/-- The PRB groups that PRBs `first` to `first + n − 1` lie in. -/
def groupsOf (first n : Nat) : List Nat := (List.range ((first + n - 1) / 4 + 1 - first / 4)).map fun i => first / 4 + i

/-- Bytes of one inline column for a width code (R196). -/
def colBytes (code : Nat) : Nat := (6 * bfpBlockBits (bfpWidth code) + 7) / 8

/-! ### Sections (R411) -/

/-- Symbols that a PRACH format occupies (R166); none for the codes that R279 does not list. -/
def prachSyms : Nat → Option Nat
  | 0 => some 2
  | 1 => some 4
  | 2 => some 6
  | 3 => some 2
  | 4 => some 12
  | 5 => some 2
  | 6 => some 6
  | _ => none

/-- Repetitions, CP samples and guard samples of a PRACH format (R166). -/
def prachShape : Nat → Nat × Nat × Nat
  | 0 => (2, 576, 0)
  | 1 => (4, 1152, 0)
  | 2 => (6, 1728, 0)
  | 3 => (2, 432, 144)
  | 4 => (12, 1872, 1584)
  | 5 => (1, 2480, 2192)
  | _ => (4, 4096, 5824)

/-- A downlink section and the bytes after it. Layers beyond stream 23 make the order malformed (DESIGN CHOICE: R175 and R411 give the ranges and
no refusal). -/
def parseDl (inlineCode : Nat) (bs : List Byte) : Option (DlSec × List Byte) :=
  let first := fieldAt bs 2 2 % 512
  let n := fieldAt bs 4 2 % 512
  let l0 := byteAt bs 6 % 32
  let nl := byteAt bs 7 % 32
  let kind := bitsOf (byteAt bs 8) 7 6
  let wide := bitOf (byteAt bs 8) 5
  let value := fieldAt bs 11 4
  let cols := if kind = 1 then value % 65536 else 0
  let want := if kind = 1 then (if wide then nl else nl * (groupsOf first n).length) * colBytes inlineCode else 0
  if 16 ≤ bs.length ∧ 1 ≤ n ∧ first + n ≤ 273 ∧ 1 ≤ nl ∧ l0 + nl ≤ 24 ∧ cols = want ∧ 16 + cols ≤ bs.length then
    some ({ id := fieldAt bs 0 2 % 4096, first := first, n := n, l0 := l0, nLayer := nl, kind := kind, wide := wide,
            cluster := byteAt bs 8 % 8, fb := fieldAt bs 9 2 % 1024, value := value, cols := (bs.drop 16).take cols },
      bs.drop (16 + cols))
  else none

/-- A user group entry; none with the reserved l_pt. -/
def parseUser (bs : List Byte) : Option UserGroup :=
  let p := fieldAt bs 1 2
  if bitsOf (byteAt bs 5) 7 6 = 3 then none
  else some
    { scid := bitOf (byteAt bs 0) 7, ptrs := bitOf (byteAt bs 0) 6, nLay := byteAt bs 0 % 8,
      ports := [bitsOf p 15 12, bitsOf p 11 8, bitsOf p 7 4, bitsOf p 3 0], nId := fieldAt bs 3 2,
      lPt := 2 ^ bitsOf (byteAt bs 5) 7 6, kPt := if bitOf (byteAt bs 5) 5 then 4 else 2,
      reOfs := bitsOf (byteAt bs 5) 3 2, assoc := byteAt bs 5 % 4 }

/-- `n` user group entries. -/
def parseUsers : Nat → List Byte → Option (List UserGroup)
  | 0, _ => some []
  | n + 1, bs =>
    match parseUser bs, parseUsers n (bs.drop 8) with
    | some u, some t => if 1 ≤ u.nLay ∧ u.nLay ≤ 4 then some (u :: t) else none
    | _, _ => none

/-- An uplink section and the bytes after it. A column count above 32 is no fault of form: R212 refuses the section. -/
def parseUl (inlineCode : Nat) (bs : List Byte) : Option (UlSec × List Byte) :=
  let first := fieldAt bs 2 2 % 512
  let n := fieldAt bs 4 2 % 512
  let b7 := byteAt bs 7
  let combine := bitOf b7 7
  let nu := byteAt bs 12 % 32
  let kind := bitsOf (byteAt bs 13) 7 6
  let nCol := byteAt bs 13 % 64
  let value := fieldAt bs 16 4
  let inl := combine && kind == 1
  let cols := if inl then value % 65536 else 0
  let want := if inl then nCol * (groupsOf first n).length * colBytes inlineCode else 0
  let nl := byteAt bs 9 % 32
  let len := 20 + 8 * nu + cols
  match parseUsers nu (bs.drop 20) with
  | none => none
  | some users =>
    if 1 ≤ n ∧ first + n ≤ 273 ∧ 1 ≤ bitsOf b7 3 2 ∧ 1 ≤ nl ∧ nl ≤ 16 ∧ 1 ≤ nu ∧ nu ≤ 16
        ∧ (!combine || 1 ≤ nCol) ∧ cols = want ∧ len ≤ bs.length then
      some ({ id := fieldAt bs 0 2 % 4096, first := first, n := n, start := bitsOf (byteAt bs 6) 7 4,
              nSym := byteAt bs 6 % 16, combine := combine, passthru := bitOf b7 6, dmrs2 := bitOf b7 5,
              dmrsDouble := bitOf b7 4, cdm := bitsOf b7 3 2, estFirst := bitOf b7 1, l0 := byteAt bs 8 % 16, nLayer := nl,
              mask := fieldAt bs 10 2 % 2 ^ 14, kind := kind, nCol := nCol, fb := fieldAt bs 14 2 % 1024, value := value,
              users := users, cols := (bs.drop (20 + 8 * nu)).take cols }, bs.drop len)
    else none

/-- An SRS section and the bytes after it. -/
def parseSrs (bs : List Byte) : Option (SrsSec × List Byte) :=
  if 8 ≤ bs.length then
    let c := bitsOf (byteAt bs 3) 7 6
    some ({ id := fieldAt bs 0 2 % 4096, start := bitsOf (byteAt bs 2) 7 4, nSym := byteAt bs 2 % 16,
            comb := if c = 3 then 0 else 2 ^ (c + 1), ofs := byteAt bs 3 % 8, first := fieldAt bs 4 2 % 512,
            n := fieldAt bs 6 2 % 512 }, bs.drop 8)
  else none

/-- A PRACH section and the bytes after it; a format code that R279 does not list and a root beyond 137 are malformed. -/
def parsePrach (bs : List Byte) : Option (PrachSec × List Byte) :=
  let f := bitsOf (byteAt bs 2) 7 4
  if 8 ≤ bs.length ∧ (prachSyms f).isSome ∧ byteAt bs 5 ≤ 137 then
    some ({ id := fieldAt bs 0 2 % 4096, format := f, start := byteAt bs 2 % 16, first := fieldAt bs 3 2 % 512,
            root := byteAt bs 5, zcz := byteAt bs 6 % 16 }, bs.drop 8)
  else none

/-- The ports of a solve section. -/
def parsePorts : Nat → List Byte → List SolvePort
  | 0, _ => []
  | n + 1, bs =>
    { srs := fieldAt bs 0 2 / 16, ncs := fieldAt bs 0 2 % 16, nId := fieldAt bs 2 2 % 1024 } :: parsePorts n (bs.drop 4)

/-- A solve section and the bytes after it. -/
def parseSolve (bs : List Byte) : Option (SolveSec × List Byte) :=
  let k := byteAt bs 3 % 32
  if 8 + 4 * k ≤ bs.length then
    some ({ id := fieldAt bs 0 2 % 4096, tag := byteAt bs 2, writeLast := bitOf (byteAt bs 3) 7,
            exportEst := bitOf (byteAt bs 3) 6, last := fieldAt bs 4 2 % 2048, ports := parsePorts k (bs.drop 8) },
      bs.drop (8 + 4 * k))
  else none

/-- The first section of some bytes, of an order in direction `ul`, and the bytes after it. -/
def parseSec (inlineCode : Nat) (ul : Bool) (bs : List Byte) : Option (Sec × List Byte) :=
  match bitsOf (byteAt bs 0) 7 4, ul with
  | 0, false => (parseDl inlineCode bs).map fun (d, t) => (.dl d, t)
  | 1, true => (parseUl inlineCode bs).map fun (d, t) => (.ul d, t)
  | 2, true => (parseSrs bs).map fun (d, t) => (.srs d, t)
  | 3, true => (parsePrach bs).map fun (d, t) => (.prach d, t)
  | 4, true => (parseSolve bs).map fun (d, t) => (.solve d, t)
  | _, _ => none

/-- `n` sections that end exactly where the bytes end. -/
def parseSecs (inlineCode : Nat) (ul : Bool) : Nat → List Byte → Option (List Sec)
  | 0, bs => if bs = [] then some [] else none
  | n + 1, bs =>
    match parseSec inlineCode ul bs with
    | some (x, t) => (parseSecs inlineCode ul n t).map fun l => x :: l
    | none => none

/-- First symbol and number of symbols that a section covers in a slot, for an order whose span is `n` symbols from `s0`. A
solve covers none of its own. -/
def Sec.span (s0 n : Nat) : Sec → Nat × Nat
  | .dl _ => (s0, n)
  | .ul u => (u.start, u.nSym)
  | .srs x => (x.start, x.nSym)
  | .prach x => (x.start, (prachSyms x.format).getD 0)
  | .solve _ => (s0, 0)

/-- The PRBs that a section names. -/
def Sec.prbs : Sec → Nat
  | .dl d => prbMask d.first d.n
  | .ul u => prbMask u.first u.n
  | .srs x => prbMask x.first x.n
  | .prach x => prbMask x.first 12
  | .solve _ => 0

/-- The type of a section (R411). -/
def Sec.stype : Sec → Nat
  | .dl _ => 0
  | .ul _ => 1
  | .srs _ => 2
  | .prach _ => 3
  | .solve _ => 4

/-- The bytes of inline columns that a section carries (R198). -/
def Sec.inlineBytes : Sec → Nat
  | .dl d => d.cols.length
  | .ul u => u.cols.length
  | _ => 0

/-- An order's payload whose air stamp names symbol `s0` (R411); none when it is malformed. -/
def parseOrder (inlineCode s0 : Nat) (bs : List Byte) : Option Order :=
  let ul := bitOf (byteAt bs 0) 7
  let n := byteAt bs 0 % 16
  let k := byteAt bs 1
  if 4 ≤ bs.length ∧ 1 ≤ n ∧ s0 + n ≤ 14 ∧ 1 ≤ k then
    match parseSecs inlineCode ul k (bs.drop 4) with
    | some secs =>
      let inside := secs.all fun x => let (f, m) := x.span s0 n; decide (s0 ≤ f) && decide (f + m ≤ s0 + n)
      if inside then
        some { ul := ul, leanReq := bitOf (byteAt bs 0) 6, leanPaths := bitsOf (byteAt bs 0) 5 4, nSym := n, secs := secs }
      else none
    | none => none
  else none

/-! ### Layer data (R415) -/

/-- The header of a layer-data payload: first PRB, PRBs, layer; none when it is malformed for a carrier with `prbs` PRBs and
width code `code`. -/
def parseUdl (prbs code : Nat) (bs : List Byte) : Option (Nat × Nat × Nat) :=
  let first := fieldAt bs 0 2 % 512
  let n := fieldAt bs 2 2 % 512
  let layer := byteAt bs 4 % 32
  if 8 ≤ bs.length ∧ 1 ≤ n ∧ first + n ≤ prbs ∧ layer ≤ 23 ∧ byteAt bs 5 % 4 = code
      ∧ bs.length = 8 + bfpRunBytes (bfpWidth code) n then
    some (first, n, layer)
  else none

/-! ### Management, time and bridle payloads -/

/-- The payload of a management request fits its own fields: WRITE and MEM_WRITE carry their data (R419). -/
def requestOk (bs : List Byte) : Bool :=
  let n := fieldAt bs 8 2
  let len := bs.length
  decide (16 ≤ len) &&
    match byteAt bs 0 with
    | 2 => len == 16 + 4 * n
    | 4 => len == 16 + n
    | op => len == 16 || op == 0 || decide (6 < op)

/-- A PTP message fits its parcel: messageLength, and a messageType of the parcel's subtype (R443); another versionPTP goes in either subtype
(R444). -/
def ptpOk (sub : Nat) (bs : List Byte) : Bool :=
  let t := byteAt bs 0 % 16
  decide (34 ≤ bs.length) && fieldAt bs 2 2 == bs.length
    && (byteAt bs 1 % 16 != 2 || match t with
      | 0 | 1 => sub == 0
      | 8 | 9 | 0xB | 0xC | 0xD => sub == 1
      | _ => true)

/-- Bytes of a Gram or inverse block of `k` ports (R241). -/
def gramBytes (k : Nat) : Nat := 12 + 4 * k * (k + 1)

/-- The blocks of a GRAM or INVERSE payload, cut apart; none when they do not fill it exactly. -/
def cutBlocks : Nat → List Byte → Option (List (List Byte))
  | 0, bs => if bs = [] then some [] else none
  | n + 1, bs =>
    let len := gramBytes (byteAt bs 1 % 32)
    if 12 ≤ bs.length ∧ len ≤ bs.length then (cutBlocks n (bs.drop len)).map fun t => bs.take len :: t else none

/-- A bridle payload fits its own fields (R429, R430). -/
def bridleOk (sub : Nat) (bs : List Byte) : Bool :=
  let len := bs.length
  match sub with
  | 0 =>
    let w := if bitOf (byteAt bs 0) 6 then 12 else 9
    decide (12 ≤ len) && len == 12 + (byteAt bs 4 % 64) * ((fieldAt bs 7 2 % 512 * (4 + 24 * w) + 7) / 8)
  | 1 =>
    let r := byteAt bs 2
    decide (3 ≤ len) && decide (1 ≤ r ∧ r ≤ 3) && len == 3 + r * 2052
  | 2 | 3 => len == 4
  | 4 | 5 => decide (4 ≤ len) && (cutBlocks (byteAt bs 0) (bs.drop 4)).isSome
  | _ => decide (4 ≤ len) && len == 4 + byteAt bs 0 * 76

/-- The payload of a RECIP parcel (R429). -/
def recipBytes (ms : List PairMeas) : List Byte :=
  bytesOf 1 ms.length ++ [0, 0, 0] ++ ms.flatMap fun m =>
    bytesOf 1 m.i ++ bytesOf 1 m.j ++ [0, 0] ++ m.y.toList.flatMap fun (a, b) => bytesOf 4 (toBits 32 a) ++ bytesOf 4 (toBits 32 b)

/-- The measurements of a RECIP payload (R429). -/
def readRecip (bs : List Byte) : List PairMeas :=
  (List.range (byteAt bs 0)).map fun n =>
    let e := bs.drop (4 + 76 * n)
    { i := ⟨byteAt e 0 % 256, Nat.mod_lt _ (by decide)⟩, j := ⟨byteAt e 1 % 256, Nat.mod_lt _ (by decide)⟩,
      y := Vector.ofFn fun k => (signedOf 32 (fieldAt e (4 + 8 * k) 4), signedOf 32 (fieldAt e (8 + 8 * k) 4)) }

end Sys2Proof.Machine
end

