-- ==== Sys2Proof/Machine/Reals.lean ====
section
/-! DEFINITION. The real functions in the spec's formulas, computed on rationals: rounding, square roots, powers of ten and
logarithms in decibels, the complex exponential and the argument. Powers of ten and the exponential carry an error below 2^−100 (a log
entry says so); everything else is exact. Beside them stand the coefficients made of them (R201, R208). -/

namespace Sys2Proof.Machine

/-! ### Rounding and roots -/

/-- A rational rounded half away from zero. -/
def roundRat (x : Rat) : Int := if 0 ≤ x then (x + 1 / 2).floor else -((-x + 1 / 2).floor)

/-- The bits from `b` − 1 down of the largest number above `acc` whose `k`-th power is at most `m`. -/
def rootBits (k m : Nat) : Nat → Nat → Nat
  | 0, acc => acc
  | b + 1, acc => rootBits k m b (if (acc + 2 ^ b) ^ k ≤ m then acc + 2 ^ b else acc)

/-- The largest number whose `k`-th power is at most `m`. -/
def rootFloor (k m : Nat) : Nat := rootBits k m (m.log2 / k + 1) 0

/-- The square root of a rational that is not negative, rounded to the nearest number. -/
def sqrtNear (q : Rat) : Nat :=
  let n := rootFloor 2 q.floor.toNat
  if (((2 * n + 1) ^ 2 : Nat) : Rat) ≤ 4 * q then n + 1 else n

/-- 2^e. -/
def pow2 (e : Int) : Rat := if 0 ≤ e then ((2 ^ e.toNat : Nat) : Rat) else 1 / ((2 ^ (-e).toNat : Nat) : Rat)

/-- x · 2^e rounded half away from zero. -/
def scaleRound (x : Int) (e : Int) : Int := if 0 ≤ e then x * 2 ^ e.toNat else roundDiv x (2 ^ (-e).toNat)

/-! ### Decibels -/

/-- 10^(k/2000). -/
def tenth (k : Int) : Rat :=
  let q := k / 2000
  let frac := ((rootFloor 2000 (10 ^ (k % 2000).toNat * 2 ^ (160 * 2000)) : Nat) : Rat) / ((2 ^ 160 : Nat) : Rat)
  if 0 ≤ q then ((10 ^ q.toNat : Nat) : Rat) * frac else frac / ((10 ^ (-q).toNat : Nat) : Rat)

/-- Bits of the largest step number that meets `c`. -/
def stepBits (c : Int → Bool) : Nat → Int → Int
  | 0, n => n
  | b + 1, n => stepBits c b (if c (n + 2 ^ b) then n + 2 ^ b else n)

/-- 10 log10 x in steps of `k` hundredths of a decibel, rounded to the nearest and limited to ±65 535; a ratio of 0 reads as the lower limit. -/
def logSteps (k : Nat) (x : Rat) : Int := stepBits (fun n => decide (tenth (k * (2 * n - 1)) ≤ x)) 17 (-65536)

/-! ### Angles -/

/-- π. -/
def piRat : Rat := mkRat 314159265358979323846264338327950288419716939937510 (10 ^ 50)

/-- 2π in units of 2^−160. -/
def twoPi160 : Int := (2 * piRat * ((2 ^ 160 : Nat) : Rat)).floor

/-- Sum of `n` terms of a series whose term with number `k` follows from the one before by the factor −y2 / ((k + 1)(k + 2)); every number
is in units of 2^−160. -/
def seriesSum (y2 : Int) : Nat → Nat → Int → Int → Int
  | 0, _, _, sum => sum
  | n + 1, k, term, sum => seriesSum y2 n (k + 2) (-(term * y2 / 2 ^ 160 / (((k + 1) * (k + 2) : Nat) : Int))) (sum + term)

/-- exp(j2πx) in units of 2^−160, for `x` in units of 2^−160 cycles. -/
def cisInt (x : Int) : CInt :=
  let x := x % 2 ^ 160
  let y := twoPi160 * (if x ≤ 2 ^ 159 then x else x - 2 ^ 160) / 2 ^ 160
  (seriesSum (y * y / 2 ^ 160) 40 0 (2 ^ 160) 0, seriesSum (y * y / 2 ^ 160) 40 1 y 0)

/-- exp(j2πx) for `x` in cycles. -/
def cis (x : Rat) : CRat :=
  let (c, d) := cisInt (x * ((2 ^ 160 : Nat) : Rat)).floor
  ((c : Rat) / ((2 ^ 160 : Nat) : Rat), (d : Rat) / ((2 ^ 160 : Nat) : Rat))

/-- Bits of the largest multiple of 2^−101 cycles up to half a cycle whose direction does not pass `c`, which lies in the upper half
plane. -/
def argBits (c : CRat) : Nat → Rat → Rat → Rat
  | 0, _, acc => acc
  | n + 1, h, acc =>
    let (p, q) := cis (acc + h)
    argBits c n (h / 2) (if 0 ≤ p * c.2 - q * c.1 then acc + h else acc)

/-- The argument of a complex number in cycles, from −1/2 to 1/2; 0 for the number 0. -/
def argCycles (c : CRat) : Rat :=
  if c.1 = 0 ∧ c.2 = 0 then 0
  else if 0 ≤ c.2 then argBits c 100 (1 / 4) 0 else -(argBits (c.1, -c.2) 100 (1 / 4) 0)

/-! ### Natural logarithms -/

/-- 2 artanh(t) in units of 2^−160, for `t` in those units up to a third. -/
def artanh160 (t : Int) : Int :=
  ((List.range 60).foldl (fun (x : Int × Int) (n : Nat) => (x.1 + 2 * x.2 / ((2 * n + 1 : Nat) : Int), x.2 * t / 2 ^ 160 * t / 2 ^ 160)) (0, t)).1

/-- ln 2 in units of 2^−160. -/
def ln2 : Int := artanh160 (2 ^ 160 / 3)

/-- The natural logarithm of a positive rational. -/
def lnRat (x : Rat) : Rat :=
  let e : Int := (x.num.toNat.log2 : Int) - x.den.log2
  let m := x / pow2 e
  mkRat (artanh160 ((m - 1) / (m + 1) * ((2 ^ 160 : Nat) : Rat)).floor + e * ln2) (2 ^ 160)

/-- The exponential of a rational. -/
def expRat (x : Rat) : Rat :=
  let y := (x * ((2 ^ 160 : Nat) : Rat)).floor
  let k := y / ln2
  let r := y - k * ln2
  let sum := (List.range 60).foldl (fun (v : Int × Int) (n : Nat) => (v.1 + v.2, v.2 * r / 2 ^ 160 / ((n + 1 : Nat) : Int))) (0, 2 ^ 160)
  mkRat sum.1 (2 ^ 160) * pow2 k

/-! ### Coefficients -/

/-- The value 16 384 · exp(j2πx) / √n as two rounded parts. -/
def unitCoeff (x : Rat) (n : Nat) : Int × Int :=
  let (c, d) := cis x
  let r : Rat := ((2 ^ 160 : Nat) : Rat) / ((rootFloor 2 (n * 2 ^ 320) : Nat) : Rat)
  (roundRat (16384 * c * r), roundRat (16384 * d * r))

/-- The steering weight of R201: azimuth and elevation in 0.1°, the frequency in 5 kHz, the element's x and z in 0.01 mm, and n_row ×
n_cols. Its phase lies within 0.01° of the formula's: the deviation is open. -/
def steerCoeff (az el : Int) (f : Nat) (x z : Int) (n : Nat) : Int × Int :=
  let (ca, sa) := cis ((az : Rat) / 3600)
  let (ce, se) := cis ((el : Rat) / 3600)
  let _ := ca
  let metres : Rat := ((x : Rat) * sa * ce + (z : Rat) * se) / 100000
  let cycles : Rat := ((f * 5000 : Nat) : Rat) * metres / 299792458
  let dev : Rat := ((Config.steerError az el f x z % 1999999 - 999999 : Int) : Rat) / (1000000 * 36000)
  unitCoeff (-cycles + dev) n

end Sys2Proof.Machine
end

