-- ==== Sys2Proof/Machine/Signal.lean ====
section
/-! DEFINITION. Samples of a signal and what the front end and the symbol engine do to them: the transforms of R148, and linear
filters whose response the spec bounds or leaves open. A list of samples that are all zero is the empty list, and a sample beyond a
list is zero. -/

namespace Sys2Proof.Machine

/-- Samples, first one first. -/
abbrev Samples : Type := List CInt

/-- A signal of zeros is the empty list. -/
def quiet (l : Samples) : Samples := if l.all fun c => c == (0, 0) then [] else l

/-- The squared magnitude of a sample. -/
def power (c : CInt) : Nat := (c.1 * c.1 + c.2 * c.2).toNat

/-- Sample `i`, zero outside the array. -/
def sampleAt (x : Array CInt) (i : Int) : CInt := if i < 0 then (0, 0) else x.getD i.toNat (0, 0)

/-- A part rounded from units of 2^−`k` and saturated to `w` bits (R147). -/
def narrowTo (w k : Nat) (x : Int) : Int × Bool :=
  let v := roundDiv x (2 ^ k)
  (satInt (-(2 ^ (w - 1))) (2 ^ (w - 1) - 1) v, v < -(2 ^ (w - 1)) || 2 ^ (w - 1) - 1 < v)

/-- A sample rounded from units of 2^−`k` and saturated to parts of `w` bits; the flag says that a part saturated (R147). -/
def toC (w k : Nat) (x : CInt) : CInt × Bool :=
  let (a, p) := narrowTo w k x.1
  let (b, q) := narrowTo w k x.2
  ((a, b), p || q)

/-- The product of two complex integers. -/
def cmul (a b : CInt) : CInt := (a.1 * b.1 - a.2 * b.2, a.1 * b.2 + a.2 * b.1)

/-- The sum of two complex integers. -/
def cadd (a b : CInt) : CInt := (a.1 + b.1, a.2 + b.2)

/-- The complex conjugate. -/
def cconj (a : CInt) : CInt := (a.1, -a.2)

/-- exp(j2πk/n) in units of 2^−48. -/
def phasor (k : Int) (n : Nat) : CInt :=
  let (c, d) := cisInt (k % n * 2 ^ 160 / n)
  (roundDiv c (2 ^ 112), roundDiv d (2 ^ 112))

/-- A sample turned by `k`/`n` of a cycle, in units of 2^−48 of its own. -/
def turned (x : CInt) (k : Int) (n : Nat) : CInt := cmul x (phasor k n)

/-! ### The transforms (R148) -/

/-- exp(j2πk/4096) in units of 2^−48, k from 0 to 4095. -/
def twiddles : Array CInt := (Array.range 4096).map fun (k : Nat) => phasor k 4096

/-- Σ x[n] exp(±j2πbn/4096) in units of 2^−48, over the samples that are not zero with their numbers. -/
def dftSum (inverse : Bool) (x : List (CInt × Nat)) (b : Nat) : CInt :=
  x.foldl (fun acc (v, n) =>
    let w := sampleAt twiddles (b * n % 4096 : Nat)
    cadd acc (cmul v (if inverse then w else cconj w))) (0, 0)

/-- The deviation of a transform of `x`, in 2^−24 of a unit, where `x` is in units of 2^−`s`: open, with an rms at least 90 dB below that
of the input (R148). -/
def dftError (s : Nat) (x : Samples) : Nat → CInt :=
  let e := Config.dftError x
  if ((List.range 4096).map fun b => power (e b)).sum * 10 ^ 9 * 4 ^ s ≤ 2 ^ 48 * (x.map power).sum then e else fun _ => (0, 0)

/-- The unitary transform over 4096 bins, from samples to bins or, where `inverse`, from bins to samples (R148): of values in units of
2^−`s`, in units of 2^−(54 + s). -/
def transform (inverse : Bool) (s : Nat) (x : Samples) : Samples :=
  let x := quiet (x.take 4096)
  if x = [] then []
  else
    let nz := x.zipIdx.filter fun v => v.1 != (0, 0)
    let e := dftError s x
    (List.range 4096).map fun b =>
      let (p, q) := dftSum inverse nz b
      (p + (e b).1 * 2 ^ (30 + s), q + (e b).2 * 2 ^ (30 + s))

/-- Values in units of 2^−`k` rounded and saturated to parts of `w` bits, with the number of those that saturated (R147). -/
def toFormat (w k : Nat) (x : Samples) : Samples × Nat :=
  let ys := x.map (toC w k)
  (quiet (ys.map (·.1)), ys.countP (·.2))

/-- The turn by `ang` of 65 536 parts of a circle, in units of 2^−48, within 0.01° (R77, R165): the deviation is open. -/
def rotor (ang : Int) : CInt :=
  let dev := Config.turnError (ang % 65536).toNat % 1999999 - 999999
  let (c, d) := cisInt (ang % 65536 * 2 ^ 144 + dev * 2 ^ 160 / (1000000 * 36000))
  (roundDiv c (2 ^ 112), roundDiv d (2 ^ 112))

/-! ### Filters

A filter has real taps in units of 2^−40; of M taps, number i has the delay i − M/2. The spec bounds the response of its filters and leaves
the rest open: the taps are free, as long as they keep the bounds at every frequency. Their response is looked at in steps of 1/32 768
cycle a sample (30 kHz at 983.04 MS/s), and between two steps it lies no farther from the straight line than `bend`. Taps that break a
bound give way to a windowed sinc that keeps them all. -/

/-- The taps of a filter. -/
abbrev Taps : Type := Array Int

/-- The delay of tap `i` of `m` less `d`/4096 sample, in 1/4096 sample. -/
def tapDelay (m i : Nat) (d : Int) : Int := 4096 * ((i : Int) - (m / 2 : Nat)) - d

/-- The response at m/32 768 cycles a sample of a filter whose taps come `d`/4096 sample earlier; where `slope`, each tap counts with its
delay. -/
def spectrum (h : Taps) (d : Int) (slope : Bool) (m : Nat) : CRat :=
  let sum : CInt := (List.range h.size).foldl (fun acc i =>
    let t := tapDelay h.size i d
    cadd acc (cmul (h.getD i 0 * (if slope then t else 1), 0) (phasor (-(t * (m : Int))) (2 ^ 27)))) (0, 0)
  (mkRat sum.1 (2 ^ 88), mkRat sum.2 (2 ^ 88))

/-- A bound on the distance of a response from the straight line between two steps: an eighth of the step squared times a bound on its second
derivative; where `slope`, of the sum that counts each tap with its delay. -/
def bend (h : Taps) (d : Int) (slope : Bool) : Rat :=
  let k := if slope then 3 else 2
  mkRat 5 (2 ^ 30) * mkRat ((List.range h.size).map fun i => (h.getD i 0).natAbs * (tapDelay h.size i d).natAbs ^ k).sum (2 ^ 40 * 4096 ^ 2)

/-- The response stays within `tol` of `c` from `lo` to `hi` steps. -/
def keepsTo (h : Taps) (c tol : Rat) (lo hi : Nat) : Bool :=
  let t := tol - bend h 0 false
  decide (0 ≤ t) && (List.range (hi + 1 - lo)).all fun i =>
    let z := spectrum h 0 false (lo + i)
    decide ((z.1 - c) * (z.1 - c) + z.2 * z.2 ≤ t * t)

/-- A ripple of `k`/100 dB at most, taken about 1: the response in the band is 1 within it. -/
def ripple (k : Int) : Rat := 1 - tenth (-k)

/-- A four-term window of `n` samples at `t` from its middle. -/
def windowAt (n : Nat) (t : Rat) : Rat :=
  if (n : Rat) ≤ 2 * max t (-t) then 0
  else
    let c := fun k : Nat => (cis ((k : Rat) * t / (n : Rat))).1
    mkRat 35875 100000 + mkRat 48829 100000 * c 1 + mkRat 14128 100000 * c 2 + mkRat 1168 100000 * c 3

/-- A low-pass filter of `m` taps with its edge at `f` cycles a sample and a delay of `d`/4096 sample: a sinc under a window of `n` samples. -/
def sincTaps (m n : Nat) (f : Rat) (d : Int) : Taps :=
  (Array.range m).map fun (i : Nat) =>
    let t : Rat := mkRat (tapDelay m i d) 4096
    let v := if t = 0 then 2 * f else (cis (f * t)).2 / (piRat * t)
    roundRat (v * windowAt n t * ((2 ^ 40 : Nat) : Rat))

/-- The taps of filter number `kind` with parameter `n`: the free ones where they keep the bounds `ok`, else `h`. -/
def freeTaps (kind n m : Nat) (ok : Taps → Bool) (h : Taps) : Taps :=
  let e := (Array.range m).map (Config.taps kind n)
  if ok e then e else h

/-- Taps with a gain of `k`, as the filters take them. -/
def withGain (k : Int) (h : Taps) : Array CInt := h.map fun v => (k * v, 0)

/-- Output `n` of a filter of taps `h` on samples `x` that lie `up` output samples apart, in units of 2^−40 (of the sample's own). -/
def firAt (h x : Array CInt) (up : Nat) (n : Int) : CInt :=
  let half : Int := (h.size / 2 : Nat)
  let first := -((half - 1 - n) / (up : Int))
  (List.range (h.size / up)).foldl (fun acc (j : Nat) =>
    let i := first + (j : Int)
    let v := sampleAt x i
    if v = (0, 0) then acc else cadd acc (cmul v (sampleAt h (n - (up : Int) * i + half)))) (0, 0)

/-- Steps of 30 kHz from the centre to the edge of the band that `n` subcarriers occupy. -/
def bandEdge (n : Nat) : Nat := n / 2

/-- R153 of an interpolation by 8 for a carrier of `n` subcarriers: 1.0 ± 0.02 dB across the occupied width, images at least 85 dB below. -/
def upKeeps (n : Nat) (h : Taps) : Bool :=
  keepsTo h 1 (ripple 2) 0 (bandEdge n)
    && [1, 2, 3, 4].all fun k => keepsTo h 0 (tenth (-8502)) (4096 * k - bandEdge n) (min 16384 (4096 * k + bandEdge n))

/-- R163 of a decimation by 8 for a carrier of `n` subcarriers: 1.0 ± 0.02 dB across the occupied width, at least 80 dB of attenuation where a
signal would alias into it. -/
def downKeeps (n : Nat) (h : Taps) : Bool :=
  keepsTo h 1 (ripple 2) 0 (bandEdge n) && keepsTo h 0 (tenth (-8000)) (4096 - bandEdge n) 16384

/-- R161 of a delay trim of `d`/4096 sample: across the IBW, ±200 MHz, a magnitude within ±0.01 dB and a delay within ±0.2 ps (0.8053 of 1/4096
sample). -/
def delayKeeps (d : Int) (h : Taps) : Bool :=
  let t := ripple 1 - mkRat 1 10000000 - bend h d false
  let u := mkRat 803 1000 - bend h d true
  (List.range 6668).all fun m =>
    let z := (spectrum h d false m).1 - 1
    let g := (spectrum h d true m).1
    decide (z ≤ t) && decide (-t ≤ z) && decide (g ≤ u) && decide (-u ≤ g)

/-- The interpolation by 2 (R160) keeps the samples that it is given. DESIGN CHOICE: across the IBW its gain and its images keep to the figures of
R153, since R160 gives none. -/
def doubleKeeps (h : Taps) : Bool :=
  (List.range 64).all (fun j => h.getD (2 * j) 0 == if j = 32 then 2 ^ 39 else 0)
    && keepsTo h 1 (ripple 2) 0 3334 && keepsTo h 0 (tenth (-8502)) 13050 16384

/-- The taps of R153's interpolation for a carrier of `n` subcarriers, which puts 8 samples in the place of one. -/
def upTaps (n : Nat) : Array CInt := withGain 8 (freeTaps 0 n 512 (upKeeps n) (sincTaps 512 510 (1 / 16) 0))

/-- The taps of R163's decimation for a carrier of `n` subcarriers. -/
def downTaps (n : Nat) : Array CInt := withGain 1 (freeTaps 1 n 512 (downKeeps n) (sincTaps 512 510 (1 / 16) 0))

/-- The taps of a delay trim of `d`/4096 sample (R160, R161). -/
def delayTaps (d : Int) : Array CInt :=
  withGain 1 (freeTaps 2 (toBits 16 d) 128 (delayKeeps d) (sincTaps 128 110 (1 / 2) d))

/-- The taps of the interpolation to 1966.08 MS/s (R160). -/
def doubleTaps : Array CInt := withGain 2 (freeTaps 3 0 128 doubleKeeps (sincTaps 128 126 (1 / 4) 0))

/-- The magnitude of a sample in units of 2^−40, rounded down. -/
def magnitude40 (c : CInt) : Nat := rootFloor 2 (power c * 2 ^ 80)

end Sys2Proof.Machine
end

