-- ==== Sys2Proof/Machine/BeamOps.lean ====
section
/-! DEFINITION. What the beam matrix shares: the directory of lasts and the write grants (R183 to R189), the weight cache
(R190 to R193), the columns of the four beam sources (R182, R196 to R201), and the exact sums of precoding and combining (R178,
R208 to R213). -/

namespace Sys2Proof.Machine

/-! ### The directory and write grants (R185 to R189) -/

/-- The directory entry of a last. -/
def State.dirOf (s : State) (i : Nat) : DirEntry := tabGet (fun _ => {}) s.bmx.dir i

/-- A last's directory entry, changed. -/
def State.setDir (s : State) (i : Nat) (f : DirEntry → DirEntry) : State :=
  { s with bmx := { s.bmx with dir := tabPut (fun _ => {}) s.bmx.dir i (f (s.dirOf i)) } }

/-- The beam matrix, changed. -/
def State.setBmx (s : State) (f : Bmx → Bmx) : State := { s with bmx := f s.bmx }

/-- BMX_DIR_DATA as it reads for the last that BMX_DIR_SEL names (R185). -/
def State.dirData (s : State) : Word :=
  let e := s.dirOf (s.fld Reg.BMX_DIR_SEL 10 0)
  let b := fun (x : Bool) (i : Nat) => if x then 2 ^ i else 0
  BitVec.ofNat 32 (b e.valid 31 + b e.busy 30 + b e.mgmt 29 + e.bank * 2 ^ 28 + e.bw * 2 ^ 24 + e.nCol * 2 ^ 16 + e.version)

/-- A fetch from bank `b` of last `i` is outstanding (R187). -/
def State.fetching (s : State) (i b : Nat) : Bool := s.bmx.fetches.any fun (_, j, c) => j == i && c == b

/-- The management write is granted: shown with the slot's address (R189). -/
def State.showGrant (s : State) (g : Grant) (b : Nat) : State :=
  if g.mgmt then
    let s := (s.setBit Reg.BMX_LAST_OPEN 31 false).setFld Reg.BMX_LAST_OPEN 29 28 2
    s.wr Reg.BMX_LAST_SLOT (BitVec.ofNat 32 (s.slotAddr g.last b))
  else s

/-- A writer asks for a last (R186, R187): refused and counted when the last is busy or does not exist; else the entry is busy and
the bank without the committed version is granted, or held back while a fetch from it is outstanding. Where there is no committed
version the spec does not say which bank it is: a free value. -/
def State.askGrant (s : State) (g : Grant) : State × Bool :=
  if s.nLast ≤ g.last ∨ (s.dirOf g.last).busy then (s.bump Reg.BMX_WRITE_REFUSE_CNT, false)
  else
    let (v, s) : Nat × State := if (s.dirOf g.last).valid then (1 - (s.dirOf g.last).bank, s) else s.freeNat
    let b := v % 2
    let s := s.setDir g.last fun e => { e with busy := true }
    if s.fetching g.last b then (s.setBmx fun m => { m with grants := m.grants ++ [g] }, true)
    else ((s.setBmx fun m => { m with grants := m.grants ++ [{ g with bank := some b }] }).showGrant g b, true)

/-- A writer's grant ends without a commit (R189, R245). -/
def State.endGrant (s : State) (i : Nat) : State :=
  let s := s.setBmx fun m => { m with grants := m.grants.filter fun g => g.last != i }
  s.setDir i fun e => { e with busy := false }

/-- The grant that management holds or waits for. -/
def State.mgmtGrant (s : State) : Option Grant := s.bmx.grants.find? fun g => g.mgmt

/-- The grant that a solve holds or waits for. -/
def State.solveGrant (s : State) (tag car : Nat) : Option Grant :=
  s.bmx.grants.find? fun g => !g.mgmt && g.tag == tag && g.car == car

/-- The management write ends without a commit: an abort, or the lease lost (R189). -/
def State.abortMgmtWrite (s : State) : State :=
  match s.mgmtGrant with
  | some g => (s.endGrant g.last).setFld Reg.BMX_LAST_OPEN 29 29 0 |>.setBit Reg.BMX_LAST_OPEN 31 false
  | none => s

/-- A commit: the written bank is current, the version counts on, columns and bandwidth are recorded (R188). -/
def State.commitLast (s : State) (g : Grant) (b nCol bw : Nat) : State :=
  let s := s.setBmx fun m => { m with grants := m.grants.filter fun h => h.last != g.last }
  s.setDir g.last fun e =>
    { valid := true, busy := false, mgmt := g.mgmt, bank := b, bw := bw, nCol := nCol, version := (e.version + 1) % 65536 }

/-! ### The weight cache (R190 to R193) -/

/-- Address of a column in a bank of `nCol` columns (R184). -/
def State.colAddr (s : State) (k : ColKey) (bank nCol : Nat) : Nat := s.slotAddr k.last bank + (k.group * nCol + k.col) * 256

/-- The columns that a kind-0 source names: of last and first column in `value`, `n` columns on the groups of `prbs` (R182). -/
def namesCol (value n prbs : Nat) (k : ColKey) : Bool :=
  k.last == bitsOf value 26 16 && decide (value % 32 ≤ k.col) && decide (k.col < value % 32 + n)
    && Nat.land prbs (prbMask (4 * k.group) 4) != 0

/-- The beam source of a section: kind, value, columns, fallback index and inline bytes. Sections without one count as static. -/
def Sec.source : Sec → Nat × Nat × Nat × Nat
  | .dl d => (d.kind, d.value, d.nLayer, d.fb)
  | .ul u => if u.combine then (u.kind, u.value, u.nCol, u.fb) else (2, 0, 0, 0)
  | _ => (2, 0, 0, 0)

/-- An accepted order names the column for a symbol whose air start is still to come (R193). -/
def State.named (s : State) (k : ColKey) : Bool :=
  let hit := fun (x : Sec) (prbs : Nat) => let (kind, value, n, _) := x.source; kind == 0 && namesCol value n prbs k
  s.bmx.held.any (fun h => !h.refused && h.cover.any (fun (_, m) => hit h.sec m) && k.version == (s.dirOf k.last).version)
    || s.bmx.jobs.any fun j => decide (s.now < s.airStart j.a) && j.cars.toList.any fun c => c.secs.any fun x =>
        !x.refused && match x.fixed with
        | some f => hit x.sec x.prbs && f.version == k.version
        | none => hit x.sec x.prbs && k.version == (s.dirOf k.last).version

/-- The column is resident. -/
def State.resident (s : State) (k : ColKey) : Bool := s.bmx.cache.any fun (j, _) => j == k

/-- The cache as BMX_CACHE_STAT shows it. -/
def State.showCache (s : State) : State := s.wr Reg.BMX_CACHE_STAT (BitVec.ofNat 32 s.bmx.cache.length)

/-- The list without the last element that meets `f`; none when none does. -/
def dropLast {α : Type} (f : α → Bool) (l : List α) : Option (List α) :=
  match l.reverse.span (fun x => !f x) with
  | (_, []) => none
  | (a, _ :: b) => some (b.reverse ++ a.reverse)

/-- Room for one column: free, or made by displacing the least recently used column that no accepted order names (R193). -/
def State.makeRoom (s : State) : Option (List (ColKey × Column)) :=
  if s.bmx.cache.length < 32768 then some s.bmx.cache
  else dropLast (fun (k, _) => !s.named k) s.bmx.cache

/-- A column is placed in the cache, or waits until it can be (R193). -/
def State.placeColumn (s : State) (k : ColKey) (c : Column) : State :=
  if s.resident k then s
  else match s.makeRoom with
    | some l => (s.setBmx fun m => { m with cache := (k, c) :: l }).showCache
    | none => s.setBmx fun m => { m with waits := m.waits ++ [(k, c)] }

/-- A resident column moves to the front: it is the most recently used. -/
def State.touchColumn (s : State) (k : ColKey) : State :=
  match s.bmx.cache.find? fun (j, _) => j == k with
  | some e => s.setBmx fun m => { m with cache := e :: m.cache.filter fun (j, _) => j != k }
  | none => s

/-- A column gathered from DRAM through the gather spool of a carrier (R191, R195): an uncorrectable one is logged and not kept
(R204). The flag says that it was uncorrectable. -/
def State.gatherColumn (s : State) (k : ColKey) (bank nCol car : Nat) : State × Bool :=
  let ((bs, bad), s) := s.memRead (s.colAddr k bank nCol) 256 0 car
  if bad then (s.raise 0x0E01 [(2, k.last), (2, k.version), (1, k.group), (1, k.col)], true)
  else (s.placeColumn k (wordsOf 64 bs), false)

/-- The columns that a section's kind-0 source names, on the PRBs `prbs`, with version `v`. -/
def colKeys (value n prbs v : Nat) : List ColKey :=
  ((List.range 69).filter fun g => Nat.land prbs (prbMask (4 * g) 4) != 0).flatMap fun g =>
    (List.range n).map fun j => { last := bitsOf value 26 16, version := v, group := g, col := value % 32 + j }

/-- The last of a kind-0 source serves carrier `car` (R203): it exists, is valid, has the columns and the carrier's bandwidth. -/
def State.lastServes (s : State) (value n car : Nat) : Bool :=
  let i := bitsOf value 26 16
  let e := s.dirOf i
  decide (i < s.nLast) && e.valid && decide (value % 32 + n ≤ e.nCol) && e.bw == s.carBw car

/-- The columns of an accepted section that are not resident are gathered in the version committed now (R191); beyond the columns and groups
of that version nothing is read (R189). -/
def State.prefetch (s : State) (x : Sec) (car : Nat) : State :=
  let (kind, value, n, _) := x.source
  let i := bitsOf value 26 16
  let e := s.dirOf i
  if kind = 0 ∧ i < s.nLast ∧ e.valid then
    (colKeys value n x.prbs e.version).foldl (fun s k =>
      if k.col < e.nCol ∧ k.group < prbGroups (bwPrbs e.bw) ∧ !s.resident k then (s.gatherColumn k e.bank e.nCol car).1 else s) s
  else s

/-! ### Columns (R182, R196, R199, R201) -/

/-- The two parts of a weight word. -/
def weight (w : Word) : Int × Int := (signedOf 16 (fldOf w 31 16), signedOf 16 (fldOf w 15 0))

/-- Static entry `i` (R199). -/
def State.staticColumn (s : State) (i : Nat) : List (Int × Int) :=
  (wordsOf 64 (s.memGets (0xF1700000 + 256 * (i % 1024)) 256)).map weight

/-- The SRAM words of `n` static entries from `i` on are checked as the beam matrix reads them (R199, R486). -/
def State.checkStatic (s : State) (i n : Nat) : State :=
  (List.range n).foldl (fun s j => (s.checkUnits (markKeys (0xF1700000 + 256 * ((i + j) % 1024)) 256) 0 0x3F).2) s

/-- Inline column number `i` of a run of inline bytes (R196), and the number of its blocks that saturated (R173). -/
def inlineColumn (code : Nat) (bs : List Byte) (i : Nat) : List (Int × Int) × Nat :=
  let run := (bs.drop (i * colBytes code)).take (colBytes code)
  let blocks := (List.range 6).map fun b => bfpRead (bfpWidth code) run b
  let parts := (blocks.map (·.1)).flatten
  ((List.range 64).map fun a => (parts.getD (2 * a) 0, parts.getD (2 * a + 1) 0), blocks.countP (·.2))

/-- The RF centre of PRB group `g` of a carrier, in 5 kHz (R201). -/
def State.groupFreq (s : State) (car g : Nat) : Nat :=
  let n := s.carPrbs car
  let m := min 4 (n - 4 * g)
  let fc : Int := 6 * (s.fld Reg.SYN_LO 17 0 : Int) + s.dfe.offset.toList.getD car 0
  (fc + (96 * g + 12 * m - 1 - 12 * n : Int) * 3).toNat

/-- The array geometry (R200): rows, columns, and the polarisation, row and column of element `e`. -/
def State.nRow (s : State) : Nat := s.fld Reg.BMX_GEOM 22 16
def State.nCols (s : State) : Nat := s.fld Reg.BMX_GEOM 14 8
def State.elemOf (s : State) (e : Nat) : Nat × Nat × Nat :=
  let per := max 1 (s.nRow * s.nCols)
  (e / per, e % per / max 1 s.nCols, e % max 1 s.nCols)

/-- The element that drives path `a`: the place of `a` in the path map. -/
def State.elemAt (s : State) (a : Nat) : Nat := ((List.range 64).find? fun e => s.fld (Reg.BMX_PATH_MAP e) 5 0 = a).getD 0

/-- The steering column of polarisation `j` on group `g` (R201). -/
def State.steerColumn (s : State) (car value j g : Nat) : List (Int × Int) :=
  (List.range 64).map fun a =>
    let (p, r, c) := s.elemOf (s.elemAt a)
    if p = j then
      let x := s.sfld Reg.BMX_ORIGIN_X 31 0 + c * s.fld Reg.BMX_PITCH 15 0
      let z := s.sfld Reg.BMX_ORIGIN_Z 31 0 + r * s.fld Reg.BMX_PITCH 31 16
      steerCoeff (signedOf 12 (bitsOf value 27 16)) (signedOf 12 (value % 4096)) (s.groupFreq car g) x z (s.nRow * s.nCols)
    else (0, 0)

/-- DFT beam `k` of the 64-beam grid (R208), by path. -/
def State.dftBeam (s : State) (k : Nat) : List (Int × Int) :=
  let (pk, u, v) := s.elemOf k
  (List.range 64).map fun a =>
    let (p, r, c) := s.elemOf (s.elemAt a)
    if p = pk then
      let den := max 1 (s.nRow * s.nCols)
      unitCoeff (((u * r * s.nCols + v * c * s.nRow : Nat) : Rat) / (den : Rat)) den
    else (0, 0)

/-- Column `j` on group `g` of a section in a symbol (R182, R203): of a kind-0 source as the column deadline found it. -/
def State.column (s : State) (car : Nat) (x : JobSec) (j g : Nat) : List (Int × Int) :=
  let (kind, value, n, fb) := x.sec.source
  match kind, x.fixed with
  | 0, some f =>
    if f.fallback then s.staticColumn (fb + j)
    else
      let k : ColKey := { last := bitsOf value 26 16, version := f.version, group := g, col := value % 32 + j }
      match f.cols.find? fun (i, _) => i == k with
      | some (_, c) => c.map weight
      | none => []
  | 0, none => s.staticColumn (fb + j)
  | 1, _ =>
    let code := s.fld Reg.BMX_INLINE_CFG 1 0
    match x.sec with
    | .dl d => (inlineColumn code d.cols (if d.wide then j else (g - d.first / 4) * n + j)).1
    | .ul u => (inlineColumn code u.cols ((g - u.first / 4) * n + j)).1
    | _ => []
  | 2, _ => s.staticColumn (value % 1024 + j)
  | _, _ => s.steerColumn car value j g

/-! ### Precoding and combining (R178, R211) -/

/-- The sum of products of two lists. -/
def cdot (a b : List (Int × Int)) : Int × Int := (List.zipWith cmul a b).foldl cadd (0, 0)

/-- Rounding to `2^sh` and saturation to `w` bits, with whether it saturated. -/
def narrow (w sh : Nat) (x : Int) : Int × Bool :=
  let v := roundDiv x (2 ^ sh)
  (satInt (-(2 ^ (w - 1))) (2 ^ (w - 1) - 1) v, v < -(2 ^ (w - 1)) || 2 ^ (w - 1) - 1 < v)

/-- Both parts narrowed; the flag says that one of them saturated. -/
def cnarrow (w sh : Nat) (x : Int × Int) : (Int × Int) × Bool :=
  let (a, p) := narrow w sh x.1
  let (b, q) := narrow w sh x.2
  ((a, b), p || q)

/-- The antenna value of path `a` for the layers `x` with columns `w`, at gain `g` (R178). -/
def precodeRe (w : List (List (Int × Int))) (x : List (Int × Int)) (g a : Nat) : (Int × Int) × Bool :=
  let acc := cdot (w.map fun col => col.getD a (0, 0)) x
  cnarrow 16 26 (acc.1 * g, acc.2 * g)

/-- Path `a` sends zero: its transmit side is retired or its quad is gated (R178, R179). -/
def State.pathZero (s : State) (a : Fin 64) : Bool := s.txRetired a || (s.seq.quads[quadOf a]).st == .gated

/-- The layer REs of PRB `p` of a layer stream: zeros where there is no data (R49). -/
def layerRe (data : List Udl) (layer p : Nat) : List (Int × Int) :=
  match data.find? fun d => d.layer == layer && bitOf d.left p with
  | some d =>
    let v := (bfpRead (bfpWidth d.width) d.run (p - d.first)).1
    (List.range 12).map fun i => (v.getD (2 * i) 0, v.getD (2 * i + 1) 0)
  | none => List.replicate 12 (0, 0)

/-- The antenna values of PRB `p` of a downlink section, by path and RE, and how many saturated (R178). -/
def State.precodePrb (s : State) (car : Nat) (c : JobCar) (x : JobSec) (d : DlSec) (p : Nat) :
    List (List (Int × Int)) × Nat :=
  let w := (List.range d.nLayer).map fun j => s.column car x j (p / 4)
  let re := (List.range d.nLayer).map fun j => layerRe c.data (d.l0 + j) p
  let ys := (List.finRange 64).map fun (a : Fin 64) =>
    (List.range 12).map fun i =>
      if s.pathZero a then (((0, 0) : Int × Int), false) else precodeRe w (re.map fun l => l.getD i (0, 0)) c.dlGain a
  (ys.map fun l => l.map (·.1), (ys.flatten.filter (·.2)).length)

/-- The antenna values of a carrier in a symbol by path and RE, an empty list for a path of zeros, and how many saturated (R178, R179). PRBs
that no section covers carry zeros (R142). -/
def State.precodeCar (s : State) (car : Nat) (c : JobCar) : List Samples × Nat :=
  let blocks := (List.range (s.carPrbs car)).map fun p =>
    match c.secs.findSome? fun x =>
      match x.sec with
      | .dl d => if !x.refused && bitOf x.prbs p then some (x, d) else none
      | _ => none with
    | some (x, d) => s.precodePrb car c x d p
    | none => ([], 0)
  let sat := (blocks.map (·.2)).sum
  if blocks.all fun b => b.1 == [] then ([], sat)
  else ((List.range 64).map fun a => quiet (blocks.flatMap fun b => b.1.getD a (List.replicate 12 (0, 0))), sat)

/-- One reduced or combined value: column `v` on the antenna REs `r` (R211). -/
def combineRe (v r : List (Int × Int)) : (Int × Int) × Bool := cnarrow 24 14 (cdot (v.map cconj) r)

end Sys2Proof.Machine
end

