-- ==== Sys2Proof/Machine/BeamMatrix.lean ====
section
/-! DEFINITION. Chapter 05, management writes of lasts (R186 to R189), the placement of waiting columns (R193) and the inline cap's
interval (R198). -/

namespace Sys2Proof.Machine

/-- A write of BMX_LAST_OPEN (R189): the fields are stored; go asks for the grant. A request while a management write is open is
refused. -/
def State.writeLastOpen (s : State) (w : Word) : State :=
  let s := ((s.setFld Reg.BMX_LAST_OPEN 26 24 (fldOf w 26 24)).setFld Reg.BMX_LAST_OPEN 20 16 (fldOf w 20 16)).setFld
    Reg.BMX_LAST_OPEN 10 0 (fldOf w 10 0)
  if fldOf w 31 31 = 1 then
    if s.mgmtGrant.isSome then (s.bump Reg.BMX_WRITE_REFUSE_CNT).setBit Reg.BMX_LAST_OPEN 28 true
    else
      let s := (s.setBit Reg.BMX_LAST_OPEN 31 true).setFld Reg.BMX_LAST_OPEN 29 28 0
      let (s, ok) := s.askGrant { last := fldOf w 10 0, mgmt := true, nCol := fldOf w 20 16, bw := fldOf w 26 24 }
      if ok then s else (s.setBit Reg.BMX_LAST_OPEN 31 false).setFld Reg.BMX_LAST_OPEN 29 28 1
  else s

/-- LAST_OPEN (R189). -/
def execLastOpen (w : Word) (s : State) : Res := .next (if s.writable then s.writeLastOpen w else s)

/-- The first grant that waits and whose bank no fetch holds any more is made (R187). -/
def State.makeGrant (s : State) : State :=
  match s.bmx.grants.find? fun g => g.bank.isNone && !s.fetching g.last (1 - (s.dirOf g.last).bank) with
  | some g =>
    let b := 1 - (s.dirOf g.last).bank
    (s.setBmx fun m => { m with grants := m.grants.map fun h => if h = g then { h with bank := some b } else h }).showGrant g b
  | none => s

/-- LAST_GRANT (R187). -/
def execLastGrant (s : State) : Res := .next s.makeGrant

/-- The management commit (R188, R189). -/
def State.commitMgmt (s : State) : State :=
  match s.mgmtGrant with
  | some g =>
    match g.bank with
    | some b => (s.commitLast g b g.nCol g.bw).setFld Reg.BMX_LAST_OPEN 29 29 0
    | none => s
  | none => s

/-- A write of BMX_LAST_COMMIT: abort, or commit (R189). -/
def State.writeLastCommit (s : State) (w : Word) : State :=
  if fldOf w 1 1 = 1 then s.abortMgmtWrite else if fldOf w 0 0 = 1 then s.commitMgmt else s

/-- LAST_COMMIT: a write of commit (R188). -/
def execLastCommit (s : State) : Res := .next (if s.writable then s.commitMgmt else s)

/-- LAST_ABORT: a write of abort (R189). -/
def execLastAbort (s : State) : Res := .next (if s.writable then s.abortMgmtWrite else s)

/-- CACHE_PLACEMENT: the column that has waited longest is placed, if there is room now (R193). -/
def execCachePlacement (s : State) : Res :=
  .next (match s.bmx.waits, s.makeRoom with
    | (k, c) :: t, some l =>
      if s.resident k then s.setBmx fun m => { m with waits := t }
      else (s.setBmx fun m => { m with waits := t, cache := (k, c) :: l }).showCache
    | _, _ => s)

/-- INLINE_INTERVAL_START: the sums of the inline cap start again (R198). -/
def execInlineIntervalStart (s : State) : Res := .next ((s.wr (Reg.BMX_INLINE_USED 0) 0).wr (Reg.BMX_INLINE_USED 1) 0)

end Sys2Proof.Machine
end

