-- ==== Sys2Proof/Machine/Bias.lean ====
section
/-! DEFINITION. Chapter 15, the bias channels: the queue tick (R523), management strobes (R524), the pin (R529) and power
(R530). The operations they share are in BiasOps. -/

namespace Sys2Proof.Machine

/-! ### Queue mode (R523) -/

/-- A write to BIA_QUEUE: the code joins the channel's queue of 16; on a full queue it is discarded and counted, and in
strobe mode it is discarded (R523). -/
def State.writeBiasQueue (s : State) (c : Fin 80) (w : Word) : State :=
  if s.queueMode c then
    if (s.bias[c]).queue.length < 16 then s.setBias c fun b => { b with queue := b.queue ++ [fldOf w 15 0] }
    else s.bump (Reg.BIA_Q_OVF_CNT c)
  else s

/-- BIA_QUEUE_WRITE (R523). -/
def execBiaQueueWrite (c : Fin 80) (w : Word) (s : State) : Res :=
  .next (if s.writable then s.writeBiasQueue c w else s)

/-- A tick takes the oldest entry of channel `c`, if any, as an update event (R523, R526). -/
def State.queueTick (s : State) (c : Fin 80) : State :=
  match (s.bias[c]).queue with
  | [] => s
  | v :: rest => (s.setBias c fun b => { b with queue := rest }).biasUpdate c v

/-- QUEUE_TICK, common to all channels, every microsecond from image load (R523). -/
def execQueueTick (s : State) : Res :=
  .next (if s.kpr.imageLoaded then s.forBias fun s c => s.queueTick c else s)

/-! ### Management strobes (R524) -/

/-- A write to BIA_STROBE strobes the groups of its mask in the cycle after it, which is the next tick; one that names any group is counted (R524). -/
def State.writeStrobe (s : State) (w : Word) : State :=
  if fldOf w 7 0 = 0 then s
  else
    (s.bump Reg.BIA_STROBE_CNT).forBias fun s c =>
      if !s.queueMode c && bitOf w.toNat (s.fld (Reg.BIA_CH_CFG c) 18 16) then s.setBias c fun b => { b with strobe := some (bitOf w.toNat 16) }
      else s

/-- BIA_STROBE_WRITE (R524, R525, R526). -/
def execBiaStrobeWrite (w : Word) (s : State) : Res := .next (if s.writable then s.writeStrobe w else s)

/-! ### The pin (R529) -/

/-- BIAS_CLR_ASSERT: BIAS_CLR_N is seen low after its filter; every channel shows its clear code, and the assertion is
counted and recorded (R422, R527, R528, R529). -/
def execBiasClrAssert (s : State) : Res :=
  .next (if s.pins.biasClrN then
      let s := { s with pins := { s.pins with biasClrN := false } }
      if s.mode = .shelf then s
      else ((s.biasApply 0).bump Reg.BIA_PIN_CLR_CNT).raise 0x1201 [(4, s.ns)]
    else s)

/-- BIAS_CLR_RELEASE: BIAS_CLR_N is seen high again; each channel's next update event releases it (R527, R529). -/
def execBiasClrRelease (s : State) : Res := .next { s with pins := { s.pins with biasClrN := true } }

/-! ### Power (R530) -/

/-- A write of en of BIA_CH_CFG: a change is a power request (R530). -/
def State.writeBiasEn (s : State) (c : Fin 80) (en : Bool) : State :=
  if s.bit (Reg.BIA_CH_CFG c) 31 = en then s
  else (s.setBit (Reg.BIA_CH_CFG c) 31 en).biasPower c en

/-- BIA_POWER_WRITE (R530). -/
def execBiaPowerWrite (c : Fin 80) (en : Bool) (s : State) : Res :=
  .next (if s.writable then s.writeBiasEn c en else s)

/-- BIA_POWER_COMPLETE: the running transition of channel `c` completes (R530). -/
def execBiaPowerComplete (c : Fin 80) (s : State) : Res := .next (s.biasPowerDone c)

end Sys2Proof.Machine
end

