-- ==== Sys2Proof/Machine/KiteOps.lean ====
section
/-! DEFINITION. Predicted power (R344, R348) and what a kite beacon is made of: windows and roles (R460 to R462), the payload (R470,
R472), and the beacon's subcarriers (R467 to R469, R471). -/

namespace Sys2Proof.Machine

/-! ### Predicted power (R344, R348) -/

/-- The larger of the nominal and the measured gain of the PA of a path, 0.01 dB; 0x8000 is none (R344, R348). -/
def State.paGain (s : State) (n : Nat) : Int :=
  let nominal := s.sfld (Reg.SEQ_PA_GAIN n) 31 16
  let measured := s.sfld (Reg.SEQ_PA_GAIN n) 15 0
  if s.fld (Reg.SEQ_PA_GAIN n) 15 0 = 0x8000 then nominal else max nominal measured

/-- The predicted power of a path in units of 0 dBm, as a ratio, for the sum `e` of squared gain (Q2.14) times |y|² (R348). The attenuation is
TXP_ATTEN's alone, without the back-off (R544). -/
def State.paPower (s : State) (e : Nat) (n : Fin 64) : Rat :=
  let g := s.fld (Reg.DFE_TX_PHG n) 31 16
  let db : Int := 300 - 25 * ((s.paths[n]).atten : Int) + s.paGain n
  mkRat (e * g * g : Nat) (4096 * 2 ^ 28 * 2 ^ 28 * 32764 * 32764) * tenth (2 * db)

/-- The scale that keeps the limits in force for the powers of the live paths (R348). -/
def State.scaleFor (s : State) (ps : List Rat) : Nat :=
  let top := ps.foldl max 0
  let tot := ps.foldl (· + ·) 0
  let excess := max (top / tenth (2 * (s.fld Reg.SEQ_REG_LIM0 31 16 : Int))) (tot / tenth (2 * (s.fld Reg.SEQ_REG_LIM0 15 0 : Int)))
  let n := stepBits (fun n => decide (((2 * n - 1) ^ 2 : Int) * excess ≤ (65536 ^ 2 : Int))) 16 0
  min 32768 n.toNat

/-- A symbol that is scaled is counted and shown (R348). -/
def State.showClamp (s : State) (v : Nat) (ps : List Rat) : State :=
  if v < 32768 then
    (s.bump Reg.SEQ_PWR_CLAMP_CNT).wr Reg.SEQ_PWR_STAT
      (BitVec.ofNat 32 (toBits 16 (satInt (-32768) 32767 (logSteps 1 (ps.foldl max 0))) * 0x10000 + v))
  else s

/-! ### Windows and roles (R460 to R462) -/

/-- Symbol code `c` is that of a KITE symbol (R29, R554). -/
def isKiteCode (c : Nat) : Bool := c / 4 = 2 && c % 4 = 1

/-- The symbols of the pattern pair with the exponent of their pattern's kite period, in order. -/
def State.pairSyms (s : State) : List (Nat × Nat) := s.air.pats.flatMap fun p => p.syms.map fun c => (c, p.kiteK)

/-- Places in the pair at which a KITE group begins, with the exponent (R460). -/
def State.groupStarts (s : State) : List (Nat × Nat) :=
  let l := s.pairSyms
  let n := l.length
  (List.range n).filterMap fun i =>
    let (c, k) := l.getD i (0, 0)
    if isKiteCode c && !isKiteCode (l.getD ((i + n - 1) % max 1 n) (0, 0)).1 then some (i, k) else none

/-- Symbol `a` begins an active kite window (R460). -/
def State.startsWindow (s : State) (a : AirSym) : Bool :=
  s.aligned && isKiteCode (s.symCode a).1 && s.symUse a == 1 && !isKiteCode (s.symCode (prevSym a)).1

/-- The number of the window that begins in `a` (R461): active windows since the start of the last frame with SFN 0. -/
def State.windowNo (s : State) (a : AirSym) : Nat :=
  let m := s.periodNo a
  let at_ := symIdx a % (14 * max 1 s.pairSlots)
  s.groupStarts.foldl (fun n (i, k) => n + (m + 2 ^ k - 1) / 2 ^ k + if m % 2 ^ k = 0 ∧ i < at_ then 1 else 0) 0

/-- The window numbered `w` is one of the chip's transmit windows (R462). -/
def State.kiteSlot (s : State) (w : Nat) : Bool :=
  s.bit Reg.KTE_CFG 31 && w % max 1 (s.fld Reg.KTE_CFG 20 16) == s.fld Reg.KTE_CFG 3 0

/-- The modem is suspended and does not resume with the next window: the IBW does not contain its band again (R466). -/
def State.kiteOff (s : State) : Bool := s.bit Reg.KTE_STAT 31 && !s.kiteBandIn (s.fld Reg.SYN_LO 17 0)

/-- The window that begins in `a` is one that the chip transmits in unless it is suspended (R462). -/
def State.kiteOurs (s : State) (a : AirSym) : Bool :=
  s.startsWindow a && s.mode.live && s.quality != 0 && s.kiteSlot (s.windowNo a)

/-- The chip transmits in the window that begins in `a` (R462, R466). -/
def State.kiteSends (s : State) (a : AirSym) : Bool := s.kiteOurs a && !s.kiteOff

/-- The chip receives in the window that begins in `a` (R462, R466). -/
def State.kiteHears (s : State) (a : AirSym) : Bool :=
  s.startsWindow a && s.mode.live && !s.kiteOff && s.bit Reg.KTE_CFG 30 && !s.kiteSends a

/-- The first symbol of the active window that KITE symbol `a` lies in. -/
def State.windowOfSym (s : State) (a : AirSym) : Option AirSym :=
  ((List.range 6).map fun i => symOfIdx (symIdx a + 286720 - i)).find? fun b => s.startsWindow b

/-- The chip is idle in the window that symbol `a` lies in: the window behaves as GUARD symbols (R462). -/
def State.kiteIdle (s : State) (a : AirSym) : Bool :=
  match s.windowOfSym a with
  | some b => !s.kiteSends b && !s.kiteHears b
  | none => false

/-- The symbols of a window. -/
def windowSyms (a : AirSym) : List AirSym := (List.range 6).map fun i => symOfIdx (symIdx a + i)

/-- A suspended modem resumes at the first window after the IBW contains its band again (R466). -/
def State.resumeKite (s : State) : State :=
  if s.kiteOff then s else s.setBit Reg.KTE_STAT 31 false

/-- The kite modem, changed. -/
def State.setKite (s : State) (f : Kite → Kite) : State := { s with kte := f s.kte }

/-! ### The beacon's subcarriers (R467 to R469, R471) -/

/-- The two registers of the sequence of TS 38.211 §5.2.1 after one step. -/
def goldStep (x : Nat × Nat) : Nat × Nat :=
  let f1 := (x.1 + x.1 / 8) % 2
  let f2 := (x.2 + x.2 / 2 + x.2 / 4 + x.2 / 8) % 2
  (x.1 / 2 + f1 * 2 ^ 30, x.2 / 2 + f2 * 2 ^ 30)

/-- `n` steps. -/
def goldSkip : Nat → Nat × Nat → Nat × Nat
  | 0, x => x
  | n + 1, x => goldSkip n (goldStep x)

/-- `n` bits of the sequence from a state of its registers. -/
def goldBits : Nat → Nat × Nat → List Bool
  | 0, _ => []
  | n + 1, x => ((x.1 + x.2) % 2 == 1) :: goldBits n (goldStep x)

/-- c(0) to c(n − 1) for an initial value (TS 38.211 §5.2.1). -/
def goldSeq (cInit n : Nat) : List Bool := goldBits n (goldSkip 1600 (1, cInit))

/-- The parity of the taps of a generator over the present bit and the six before it. -/
def convTap (g : Nat) (w : Nat) : Bool := ((List.range 7).foldl (fun n i => if bitOf g i && bitOf w i then n + 1 else n) 0) % 2 == 1

/-- The tail-biting code of R469: the register holds the present bit in bit 6 and earlier ones below it. -/
def convBits (g : Nat) : List Bool → Nat → List Bool
  | [], _ => []
  | b :: t, w =>
    let w := w / 2 + if b then 64 else 0
    convTap g w :: convBits g t w

/-- The 816 coded bits of a payload (R469). -/
def kiteCoded (payload : List Byte) : List Bool :=
  let a := (payload ++ bytesOf 2 (crc16 payload)).flatMap byteBits
  let start := (a.drop 266).foldl (fun w b => w / 2 + if b then 64 else 0) 0
  convBits 0o133 a start ++ convBits 0o171 a start ++ convBits 0o165 a start

/-- A QPSK value of magnitude 8192 (TS 38.211 §5.1.3): each part rounds to 5793. -/
def qpsk (b0 b1 : Bool) : Int × Int := (if b0 then -5793 else 5793, if b1 then -5793 else 5793)

/-- The 576 subcarriers of beacon symbol `t`, rounded to c16 (R467, R468, R471). -/
def kiteRes (root : Nat) (payload : List Byte) (t : Nat) : List (Int × Int) :=
  if t < 2 then
    (List.range 576).map fun i =>
      if 2 ≤ i ∧ i ≤ 572 then
        let n := i - 2
        let z := cis (-(mkRat (root * n * (n + 1) : Nat) 1142))
        (roundRat (8192 * z.1), roundRat (8192 * z.2))
      else (0, 0)
  else
    let d := t - 2
    let c := goldSeq (16 * root + d) 288
    let e := kiteCoded payload
    let bit := fun k => e.getD (k % 816) false
    (List.range 576).map fun i =>
      if i % 4 = 0 then qpsk (c.getD (i / 2) false) (c.getD (i / 2 + 1) false)
      else
        let j := i / 4 * 3 + i % 4 - 1
        qpsk (bit (864 * d + 2 * j)) (bit (864 * d + 2 * j + 1))

/-- The beacon's column (R471): a static entry, or the steering column of polarisation 0 at the band's centre. -/
def State.kiteColumn (s : State) : List (Int × Int) :=
  if s.fld Reg.KTE_TX_CFG 31 30 = 1 then
    (List.range 64).map fun a =>
      let (p, r, c) := s.elemOf (s.elemAt a)
      if p = 0 then
        let x := s.sfld Reg.BMX_ORIGIN_X 31 0 + c * s.fld Reg.BMX_PITCH 15 0
        let z := s.sfld Reg.BMX_ORIGIN_Z 31 0 + r * s.fld Reg.BMX_PITCH 31 16
        steerCoeff (s.sfld Reg.KTE_TX_STEER 27 16) (s.sfld Reg.KTE_TX_STEER 11 0) (s.fld Reg.KTE_FREQ 19 0) x z (s.nRow * s.nCols)
      else (0, 0)
  else s.staticColumn (s.fld Reg.KTE_TX_CFG 9 0)

/-- The predicted powers of the live paths in symbol number `t` of a beacon with column `col` and gain `g` (R348, R471). -/
def State.kitePowers (s : State) (col : List (Int × Int)) (g : Nat) (payload : List Byte) (t : Nat) : List Rat :=
  let xs := kiteRes (s.fld Reg.KTE_FREQ 29 20) payload t
  (List.finRange 64).map fun (n : Fin 64) =>
    if s.pathZero n then (0 : Rat)
    else
      let e := xs.foldl (fun e x => let y := (precodeRe [col] [x] g n).1; e + (y.1 * y.1 + y.2 * y.2).toNat) 0
      s.paPower (2 ^ 28 * e) n

/-- What has been taken in for beacon symbol `a`: column, gain and scale; nothing is sent where nothing was. -/
def State.beaconTaken (s : State) (a : AirSym) : List (Int × Int) × Nat × Nat :=
  match s.kte.taken.find? fun x => x.1 == symIdx a with
  | some x => x.2
  | none => ([], 0, 0)

/-- The beam matrix starts on beacon symbol `a`: the column and the gain of this instant are taken (R150, R471). -/
def State.takeBeacon (s : State) (a : AirSym) : State :=
  match s.windowOfSym a with
  | some b =>
    if s.kiteSends b && s.kte.skip != some (symIdx b) then
      let s := if s.fld Reg.KTE_TX_CFG 31 30 = 1 then s else s.checkStatic (s.fld Reg.KTE_TX_CFG 9 0) 1
      s.setKite fun k => { k with taken := (symIdx a, s.kiteColumn, s.fld Reg.KTE_TX_GAIN 15 0, 32768) :: (k.taken.filter fun x => x.1 != symIdx a).take 5 }
    else s
  | none => s

end Sys2Proof.Machine
end

