-- ==== Sys2Proof/Machine/Clocks.lean ====
section
/-! DEFINITION. Chapter 03: REFCLK and the PLLs (R108 to R118), the leaves of the clock tree (R119 to R121), eligible
windows and what runs in them (R124 to R131), ALIGN_IN (R123), and the LO retune (R136 to R138). -/

namespace Sys2Proof.Machine

/-! ### Loss of lock and of reference (R108, R112 to R116) -/

/-- The four PLLs in the order of SYN_UNLOCK_CNT. -/
def allPlls : List (Fin 4) := [0, 1, 2, 3]

/-- The lock bit of PLL `k` in SYN_LOCK_STAT follows its lock. -/
def State.setLock (s : State) (k : Fin 4) (b : Bool) : State :=
  (s.setPll k fun x => { x with locked := b }).setBit Reg.SYN_LOCK_STAT k b

/-- The length of one lock attempt of PLL `k` in ticks: 200 µs for the LPLL and 100 µs for the others (R113, R114). -/
def attemptTicks (k : Fin 4) : Nat := if k = 3 then 196608 else 98304

/-- PLL `k` starts attempt number `n`. -/
def State.startAttempt (s : State) (k : Fin 4) (n : Nat) : State :=
  s.setPll k fun x => { x with attempt := some n, attemptAt := s.now, exhausted := none }

/-- PLL `k` starts a sequence of relock attempts (R114). -/
def State.startRelock (s : State) (k : Fin 4) : State := s.startAttempt k 1

/-- Blanking for lost lock or reference begins (R114, R330). -/
def State.blankForLock (s : State) : State :=
  { s with clk := { s.clk with unlocked := true, unlockAt := if s.clk.unlocked then s.clk.unlockAt else s.now, relockAt := none } }.blankOnset

/-- REFCLK_LOSS, for a missing edge or, when `freq`, for its frequency: shown, counted and recorded; the PLLs hold their
control values, the quality follows, and every D symbol is blanked (R108, R114, R456). -/
def execRefclkLoss (freq : Bool) (s : State) : Res :=
  .next (if s.clk.refLost then s
    else
      let s := { s with clk := { s.clk with refLost := true } }.setBit Reg.SYN_LOCK_STAT 4 true
      let s := (s.bump Reg.SYN_REF_LOSS_CNT).raise 0x0802 [(1, if freq then 1 else 0)]
      (s.setHoldover true).blankForLock)

/-- REFCLK_RESTORE: after 1 ms of valid edges REFCLK is present again, and each of the four PLLs starts its relock attempts
(R108, R114). -/
def execRefclkRestore (s : State) : Res :=
  .next (if s.clk.refLost then
      let s := { s with clk := { s.clk with refLost := false } }.setBit Reg.SYN_LOCK_STAT 4 false
      allPlls.foldl (fun s k => s.startRelock k) s
    else s)

/-- PLL_UNLOCK: shown, counted, recorded; D symbols are blanked; the LPLL and the CPLL relock by themselves, while an unlock
of the TPLL or the GPLL puts the others in holdover and starts the attempts of all four (R112, R114). Without REFCLK the
attempts wait for it. -/
def execPllUnlock (p : Pll) (s : State) : Res :=
  let k := p.idx
  .next (if (s.clk.plls[k]).locked then
      let s := (s.setLock k false).bump (Reg.SYN_UNLOCK_CNT k)
      let s := s.raise 0x0801 [(1, k)]
      let s := if k = 2 then { s with clk := { s.clk with dividersAligned := false } } else s
      let s := match p with
        | .gpll | .tpll => s.setHoldover true
        | _ => s
      let s := if s.clk.refLost then s
        else match p with
          | .gpll | .tpll => allPlls.foldl (fun s k => s.startRelock k) s
          | _ => s.startRelock k
      s.blankForLock
    else s)

/-- Every PLL is locked with no attempt running, and REFCLK is present: the relock declaration (R115). -/
def State.allRelocked (s : State) : Bool :=
  !s.clk.refLost && allPlls.all fun k => (s.clk.plls[k]).locked && (s.clk.plls[k]).attempt.isNone

/-- The relock declaration: holdover ends, and blanking lasts for 2 µs more (R114, R115, R456). Intervals that no air stamp reaches any more
are forgotten (R19). -/
def State.declareRelock (s : State) : State :=
  if s.clk.unlocked && s.allRelocked then
    let s := s.setHoldover false
    let kept := s.clk.outages.filter fun v => s.now - v.2 ≤ cycleSamples * 4
    { s with clk := { s.clk with unlocked := false, relockAt := some s.now, outages := (s.clk.unlockAt, s.now) :: kept } }
  else s

/-- The VCO band and the tuning voltage that a lock of the LPLL leaves. -/
def State.setVco (s : State) (band : BitVec 6) (vtune : BitVec 12) : State :=
  (s.setFld Reg.SYN_VCO 21 16 band.toNat).setFld Reg.SYN_VCO 11 0 vtune.toNat

/-- PLL_LOCK: an attempt that has not run out ends in lock, for the LPLL with the band that its search has found; the CPLL's dividers take the phase of the
most recent alignment; the last PLL to lock makes the relock declaration (R112 to R115, R117, R118). -/
def execPllLock (p : Pll) (band : BitVec 6) (vtune : BitVec 12) (s : State) : Res :=
  let k := p.idx
  .next (match (s.clk.plls[k]).attempt with
    | none => s
    | some n =>
      if attemptTicks k < s.now - (s.clk.plls[k]).attemptAt then s
      else
      let s := (s.setLock k true).setPll k fun x => { x with attempt := none, exhausted := none }
      let s := s.raise 0x0804 [(1, k), (1, n)]
      let s := if k = 2 then { s with clk := { s.clk with dividersAligned := s.air.origin.isSome } } else s
      let s := if k = 3 then s.setVco band vtune else s
      s.declareRelock)

/-- RELOCK_ATTEMPT_TIMEOUT: an attempt has run its length without lock; the next starts, and after the third the sequence is exhausted and
recorded (R114, R116). A PLL that held its lock until then is now unlocked, and counted (R112). -/
def execRelockAttemptTimeout (p : Pll) (s : State) : Res :=
  let k := p.idx
  .next (match (s.clk.plls[k]).attempt with
    | none => s
    | some n =>
      if s.now - (s.clk.plls[k]).attemptAt < attemptTicks k then s
      else if n < 3 then s.startAttempt k (n + 1)
      else
        let s := if (s.clk.plls[k]).locked then (s.bump (Reg.SYN_UNLOCK_CNT k)).raise 0x0801 [(1, k)] else s
        let s := (s.setLock k false).setPll k fun x => { x with attempt := none, exhausted := some s.now }
        s.raise 0x0803 [(1, k)])

/-- RELOCK_SEQUENCE_RESTART: 100 ms after the end of an exhausted sequence a new one starts; not in BOOT (R113, R116). -/
def execRelockSequenceRestart (p : Pll) (s : State) : Res :=
  let k := p.idx
  .next (match (s.clk.plls[k]).exhausted with
    | none => s
    | some t => if msPassed (s.now - t) 100 && s.mode != .boot then s.startRelock k else s)

/-! ### The tree (R119 to R121, R135) -/

/-- A leaf trim stands at an end of its range, so the coherence figure is not guaranteed (R119, R135). -/
def State.noteTrim (s : State) (q : Fin 17) : State :=
  let t := s.sfld (Reg.SYN_LEAF q) 7 0
  if t = -128 ∨ t = 127 then s.setBit Reg.SYN_COH 31 true else s

/-- The drift of leaf `q` since calibration in 0.05 ps; 0 before the first calibration (R120). -/
def State.leafDrift (s : State) (q : Fin 17) : Int :=
  match s.clk.leafRef[q] with
  | some r => s.clk.arrival[q] - r
  | none => 0

/-- The arrival delay of leaf `q`, with its drift shown in 0.1 ps (R120). The spec does not say how half a step is shown nor what a drift
beyond the field shows: the model rounds half away from zero and saturates. -/
def State.setArrival (s : State) (q : Fin 17) (a : Int) : State :=
  let s := { s with clk := { s.clk with arrival := s.clk.arrival.set q a } }
  s.setFld (Reg.SYN_LEAF q) 31 24 (toBits 8 (satInt (-128) 127 (roundDiv (s.leafDrift q) 2)))

/-- LEAF_MEASURE: the root monitor's round-trip delay of leaf `q` in 0.1 ps; half of it is the arrival delay (R120). -/
def execLeafMeasure (q : Fin 17) (roundTrip : Nat) (s : State) : Res := .next (s.setArrival q roundTrip)

/-- The trim of leaf `q` after a tree-tracking step. -/
def State.leafNext (s : State) (q : Fin 17) : Int :=
  if 0 ≤ s.leafDrift q then s.sfld (Reg.SYN_LEAF q) 7 0 - 1 else s.sfld (Reg.SYN_LEAF q) 7 0 + 1

/-- A tree-tracking step of leaf `q` is due: its drift has reached 0.5 ps, and its trim has room (R121). -/
def State.trackDue (s : State) (q : Fin 17) : Bool :=
  10 ≤ (s.leafDrift q).natAbs && decide (-128 ≤ s.leafNext q) && decide (s.leafNext q ≤ 127)

/-- One tree-tracking step of leaf `q` when its drift has reached 0.5 ps: 0.5 ps toward its reference, at most one step per
window (R121). -/
def State.trackStep (s : State) (q : Fin 17) : State :=
  let d := s.leafDrift q
  let t' := s.leafNext q
  if s.trackDue q && !s.clk.stepped.contains q.val then
    let s := s.setFld (Reg.SYN_LEAF q) 7 0 (toBits 8 t')
    let s := (s.setArrival q (s.clk.arrival[q] + (if 0 ≤ d then -10 else 10))).bump Reg.SYN_TRACK_CNT
    { s with clk := { s.clk with stepped := s.clk.stepped ++ [q.val] } }.noteTrim q
  else s

/-! ### Eligible windows (R124, R127 to R131) -/

/-- A re-centring is requested, unless one waits or runs already (R127). -/
def State.requestRecentre (s : State) : State :=
  if s.clk.recentreReq.isSome then s
  else { s with clk := { s.clk with recentreReq := some s.now, recentreLate := false } }

/-- The reference trims of the compensation bin in force (R129). -/
def State.applyTrims (s : State) : State :=
  if s.clk.trimDue then
    let bin := s.fld Reg.SYN_VCO 30 24
    { s with clk := { s.clk with trimDue := false, trimBin := bin, refTrims := (s.clk.comp[bin]?.getD []).drop 1 } }
  else s

/-- Reference trims, then tree-tracking steps, in an eligible window (R121, R129, R131). -/
def State.windowRest (s : State) : State :=
  (List.finRange 17).foldl (fun s q => s.trackStep q) s.applyTrims

/-- A welt of 3.2 µs in ticks. -/
def weltTicks : Int := 3146

/-- The welts that symbol `a` gives rise to, in ticks from the present instant: at the ends of a downlink run, and of a window in which the
chip transmits (R35, R36, R463). -/
def State.weltSpans (s : State) (a : AirSym) : List (Int × Int) :=
  let t := s.ticksTo (symPos a)
  let e := t + symLen a.sym * ticksPerSample
  let last := symOfIdx (symIdx a + 5)
  let kiteEnd := s.ticksTo (symPos last) + symLen last.sym * ticksPerSample
  (if s.startsRun a then [(t - weltTicks, t)] else [])
    ++ (if s.isD a && !s.isD (nextSym a) then [(e, e + weltTicks)] else [])
    ++ (if s.kiteSends a then [(t - weltTicks, t), (kiteEnd, kiteEnd + weltTicks)] else [])

/-- Symbol `a` is an F symbol (R27). -/
def State.isF (s : State) (a : AirSym) : Bool := !s.isD a && !s.isU a

/-- What symbol `a` takes out of eligible time, in ticks from the present instant: a D symbol, a U symbol on the uplink grid and on the air
grid, where it is no F symbol, an active CAL symbol, an active KITE symbol but in a window in which the chip is idle (R462), and welts (R124). -/
def State.busySpans (s : State) (a : AirSym) : List (Int × Int) :=
  let t := s.ticksTo (symPos a)
  let e := t + symLen a.sym * ticksPerSample
  let adv : Int := s.air.ulAdvance * ticksPerSample
  (if s.isD a || (s.isF a && ((s.symUse a == 1 && !s.kiteIdle a) || s.symUse a == 2)) then [(t, e)] else [])
    ++ (if s.isU a then [(t - adv, e)] else []) ++ s.weltSpans a

/-- The use of the F symbol that the present instant lies in, outside every welt (R30, R334): 2 an active CAL symbol, 3 an OPEN one. -/
def State.calUse (s : State) : Option Nat :=
  if s.aligned then
    let a := (airAt s.airPos).1
    let welts := (List.range 9).flatMap fun i => s.weltSpans (symOfIdx (symIdx a + 286713 + i))
    if s.isF a && !(welts.any fun v => decide (v.1 ≤ 0) && decide (0 < v.2)) then some (s.symUse a) else none
  else none

/-- Ticks from the present instant to the end of the continuous interval of F symbols of use `u` that symbol number `k` lies in, at most `n`
symbols long: where another symbol begins, or a welt before it (R334). -/
def State.useEnd (s : State) (u : Nat) : Nat → Nat → Int
  | 0, k => s.ticksTo (symPos (symOfIdx k))
  | n + 1, k =>
    let a := symOfIdx k
    if s.isF a && s.symUse a == u then s.useEnd u n (k + 1)
    else ((s.weltSpans a).map (·.1)).foldl min (s.ticksTo (symPos a))

/-- The calibration window that the present instant lies in, with a step that begins now (R334). -/
def State.windowNow (s : State) : Option CalWindow :=
  match s.calUse with
  | some u =>
    if s.mode.live && (u == 2 || u == 3) then
      some { use := u, stepAt := s.now, endsAt := ((s.now : Int) + s.useEnd u 572 (symIdx (airAt s.airPos).1)).toNat }
    else none
  | none => none

/-- Another step begins now in the window that is open. -/
def State.nextStep (s : State) : State :=
  { s with seq := { s.seq with window := s.seq.window.map fun w => { w with stepAt := s.now } } }

/-- The length in ticks of the eligible window that begins at the present instant, where one begins (R124). A window holds no more than the
20 ms that R125 looks at. -/
def State.windowHere (s : State) : Option Nat :=
  if s.aligned then
    let k := symIdx (airAt s.airPos).1
    let spans := (List.range 572).flatMap fun i => s.busySpans (symOfIdx (k + 286714 + i))
    let busy := spans.any fun v => decide (v.1 ≤ 0) && decide (0 < v.2)
    let begins := spans.any fun v => decide (v.2 = 0)
    if begins && !busy then
      let next := spans.foldl (fun (m : Int) v => if 0 < v.1 then min m v.1 else m) (20 * 983040)
      some next.toNat
    else none
  else none

/-- ELIGIBLE_WINDOW_START: an eligible window begins here; only windows of at least 16 µs are used. A due re-centring runs first, and the
other items after it has locked (R124, R127, R131). DESIGN CHOICE: a tracking step that falls due while a window is open waits for the next
one (R121). -/
def execEligibleWindowStart (s : State) : Res :=
  .next (match s.windowHere with
    | none => s
    | some len =>
      if !nsPassed len 16000 then s
      else
        let s := { s with clk := { s.clk with windowEnd := s.now + len, stepped := [] } }
        if s.clk.recentreReq.isSome then { s with clk := { s.clk with recentring := true, recentreReq := none } }
        else s.windowRest)

/-- Clock items come before calibration steps now: a re-centring runs, or items are due for an eligible window that has not begun (R131,
R334). -/
def State.clockFirst (s : State) : Bool :=
  s.clk.recentring
    || ((s.clk.recentreReq.isSome || s.clk.trimDue || (List.finRange 17).any fun q => s.trackDue q) && decide (s.clk.windowEnd < s.now))

/-- RECENTRE_COMPLETE: the LPLL has moved to the band that puts its tuning voltage nearest the centre, and relocked; the due
items that still fit the window run, and a calibration step begins in what remains (R127, R130, R131, R334). -/
def execRecentreComplete (band : BitVec 6) (vtune : BitVec 12) (s : State) : Res :=
  .next (if s.clk.recentring then
      let s := { s with clk := { s.clk with recentring := false } }
      let s := ((s.setVco band vtune).bump Reg.SYN_RECENTRE_CNT).nextStep
      if s.now ≤ s.clk.windowEnd then s.windowRest else s
    else s)

/-- RECENTRE_LATE: a re-centring has waited more than 20 ms; counted once, and it keeps waiting (R128). -/
def execRecentreLate (s : State) : Res :=
  .next (match s.clk.recentreReq with
    | none => s
    | some t =>
      if decide (20 * 983040 < s.now - t) && !s.clk.recentreLate then
        let s := { s with clk := { s.clk with recentreLate := true } }
        (s.bump Reg.SYN_RECENTRE_LATE_CNT).raise 0x0805 [(1, s.fld Reg.SYN_VCO 30 24)]
      else s)

/-- TUNING_VOLTAGE_OUT_OF_RANGE: the measured tuning voltage in mV; outside vt_lo to vt_hi it requests a re-centring
(R127). -/
def execTuningVoltageOutOfRange (mv : BitVec 12) (s : State) : Res :=
  let s := s.setFld Reg.SYN_VCO 11 0 mv.toNat
  .next (if mv.toNat < s.fld Reg.SYN_RECENTRE 11 0 || s.fld Reg.SYN_RECENTRE 27 16 < mv.toNat then s.requestRecentre
    else s)

/-- The compensation bin that holds reading `t` (in 1/16 °C): 76 bins of 2 °C from −40 °C (R126). -/
def compBin (t : Int) : Nat := (satInt 0 75 ((t + 640) / 32)).toNat

/-- A reading of die sensor 4 moves the compensation bin when it lies at least 0.5 °C beyond an edge of the bin in force;
then a re-centring is requested and the reference trims fall due (R126, R127, R129). -/
def State.compReading (s : State) (t : Int) : State :=
  let bin := s.fld Reg.SYN_VCO 30 24
  let lo : Int := 32 * bin - 640
  if (t ≤ lo - 8 ∨ lo + 32 + 8 ≤ t) ∧ compBin t ≠ bin then
    let s := (s.setFld Reg.SYN_VCO 30 24 (compBin t)).requestRecentre
    { s with clk := { s.clk with trimDue := true } }
  else s

/-! ### ALIGN_IN (R123, R451, R452) -/

/-- SYN_ALIGN_ARM: in READY, ALIGN_IN capture is armed with the epoch_sfn of this instant, and an armed epoch compare is
disarmed; in another mode the arm is refused (R23, R123, R451, R452). -/
def State.armAlign (s : State) : State :=
  if s.mode = .ready then
    let s := (s.setBit Reg.SYN_ALIGN 0 true).setBit Reg.TIM_EPOCH_CTRL 31 false
    { s with tim := { s.tim with alignSfn := s.fld Reg.TIM_EPOCH_SFN 9 0, armAt := s.now, fired := false } }
  else s.alignRefused 0

/-- SYN_ALIGN_ARM (R123). -/
def execSynAlignArm (s : State) : Res := .next (if s.writable then s.armAlign else s)

/-! ### The LO retune (R136 to R138) -/

/-- Number of the first frame boundary at or after tick `t`. -/
def State.boundaryNo (s : State) (t : Nat) : Nat :=
  match s.air.origin with
  | some (o, _) => (t - o + frameSamples * ticksPerSample - 1) / (frameSamples * ticksPerSample)
  | none => 0

/-- The offsets that apply at the frame boundary of a retune to `code` requested now: each request that waits is judged at its own boundary,
with the LO in force there (R143, R144). -/
def State.offsetsThen (s : State) (code : Nat) : Fin 4 → Int :=
  let last := s.boundaryNo (s.now + 2 * 983040)
  let due := fun (c : Fin 4) => match s.dfe.request[c] with
    | some r => decide (s.boundaryNo r.notBefore < last)
    | none => false
  let first := s.offsetsAfter (s.fld Reg.SYN_LO 17 0) (fun c => s.dfe.offset[c]) ((List.finRange 4).filter due)
  s.offsetsAfter code first ((List.finRange 4).filter fun c => !due c)

/-- A retune to `code` is allowed: R111 holds, and every enabled carrier's occupied band lies inside one piece (R137). -/
def State.retuneAllowed (s : State) (code : Nat) : Bool :=
  loAllowed code && (List.finRange 4).all fun c => !s.carEnabled c || s.carPermitted (s.carBw c) code (s.offsetsThen code c)

/-- A write of SYN_RETUNE: accepted, it waits for the first frame boundary at least 2 ms later, in place of any that waits;
refused, it is counted (R136, R137, R138). -/
def State.writeRetune (s : State) (w : Word) : State :=
  let code := fldOf w 17 0
  let s := s.setFld Reg.SYN_RETUNE 17 0 code
  if s.retuneAllowed code then
    let s := (s.setBit Reg.SYN_RETUNE 31 true).setBit Reg.SYN_RETUNE 30 false
    { s with clk := { s.clk with retune := some { code := code, notBefore := s.now + 2 * 983040 } } }
  else (s.setBit Reg.SYN_RETUNE 30 true).bump Reg.SYN_RETUNE_REFUSE_CNT

/-- RETUNE_WRITE (R136 to R138). -/
def execRetuneWrite (w : Word) (s : State) : Res := .next (if s.writable then s.writeRetune w else s)

/-- A due retune to `code` still stands with the offsets that apply at this boundary (R137, R144). -/
def State.retuneStands (s : State) (code : Nat) : Bool :=
  let due := (List.finRange 4).filter fun (c : Fin 4) => match s.dfe.request[c] with | some r => decide (r.notBefore ≤ s.now) | none => false
  let off := s.offsetsAfter code (fun c => s.dfe.offset[c]) due
  loAllowed code && (List.finRange 4).all fun c => !s.carEnabled c || s.carPermitted (s.carBw c) code (off c)

/-- At a frame boundary a due retune takes effect: the LO moves, settling and its blanking begin, a running job is aborted
(R136, R330, R338), the coherence figure may go stale (R135), and a kite band outside the new IBW suspends the modem
(R466). DEDUCED: R137 is judged again with the offsets that apply here, since an offset written after the retune was accepted can be one of them
(R144); a retune that no longer meets it is refused and counted, and the LO does not change. -/
def State.applyRetune (s : State) : State :=
  match s.clk.retune with
  | none => s
  | some r =>
    if r.notBefore ≤ s.now && !s.retuneStands r.code then
      let s := { s with clk := { s.clk with retune := none } }
      ((s.setBit Reg.SYN_RETUNE 31 false).setBit Reg.SYN_RETUNE 30 true).bump Reg.SYN_RETUNE_REFUSE_CNT
    else if r.notBefore ≤ s.now then
      let s := { s with clk := { s.clk with retune := none, settling := some s.now } }
      let s := s.setFld Reg.SYN_LO 17 0 r.code
      let far := match s.clk.cohLo with
        | some lo => decide (200000 < ((r.code : Int) - lo).natAbs * 30)
        | none => false
      let s := if far then s.setBit Reg.SYN_COH 31 true else s
      let s := s.abortJob 1
      let s :=
        if !s.kiteBandIn r.code && !s.bit Reg.KTE_STAT 31 then
          ((s.setBit Reg.KTE_STAT 31 true).bump Reg.KTE_SUSPEND_CNT).raise 0x1102 [(3, r.code)]
        else s
      s.blankOnset
    else s

/-- RETUNE_SETTLED: 80 µs after the boundary the LPLL has settled, in the band of its new frequency, and the blanking ends (R136, R330). -/
def execRetuneSettled (band : BitVec 6) (vtune : BitVec 12) (s : State) : Res :=
  .next (match s.clk.settling with
    | none => s
    | some t =>
      if usPassed (s.now - t) 80 then
        let s := { s.setVco band vtune with clk := { s.clk with settling := none } }
        if s.clk.retune.isNone then s.setBit Reg.SYN_RETUNE 31 false else s
      else s)

end Sys2Proof.Machine
end

