-- ==== Sys2Proof/Machine/Crypto.lean ====
section
/-! DEFINITION. The two algorithms of outside standards by which the keeper checks an image, reads it back, and checks an unlock response
(R556, R560, R579): SHA-256 of FIPS 180-4, and ECDSA over P-256 of FIPS 186-4, both of which the spec names. -/

namespace Sys2Proof.Machine

/-! ### SHA-256 (FIPS 180-4) -/

/-- A 32-bit word rotated right by `n`. -/
def shaRotr (x n : Nat) : Nat := (x >>> n) ||| (x <<< (32 - n)) % 0x100000000

/-- The round constants: the first 32 bits of the fractions of the cube roots of the first 64 primes. -/
def shaK : List Nat :=
  [0x428a2f98, 0x71374491, 0xb5c0fbcf, 0xe9b5dba5, 0x3956c25b, 0x59f111f1, 0x923f82a4, 0xab1c5ed5]
  ++ [0xd807aa98, 0x12835b01, 0x243185be, 0x550c7dc3, 0x72be5d74, 0x80deb1fe, 0x9bdc06a7, 0xc19bf174]
  ++ [0xe49b69c1, 0xefbe4786, 0x0fc19dc6, 0x240ca1cc, 0x2de92c6f, 0x4a7484aa, 0x5cb0a9dc, 0x76f988da]
  ++ [0x983e5152, 0xa831c66d, 0xb00327c8, 0xbf597fc7, 0xc6e00bf3, 0xd5a79147, 0x06ca6351, 0x14292967]
  ++ [0x27b70a85, 0x2e1b2138, 0x4d2c6dfc, 0x53380d13, 0x650a7354, 0x766a0abb, 0x81c2c92e, 0x92722c85]
  ++ [0xa2bfe8a1, 0xa81a664b, 0xc24b8b70, 0xc76c51a3, 0xd192e819, 0xd6990624, 0xf40e3585, 0x106aa070]
  ++ [0x19a4c116, 0x1e376c08, 0x2748774c, 0x34b0bcb5, 0x391c0cb3, 0x4ed8aa4a, 0x5b9cca4f, 0x682e6ff3]
  ++ [0x748f82ee, 0x78a5636f, 0x84c87814, 0x8cc70208, 0x90befffa, 0xa4506ceb, 0xbef9a3f7, 0xc67178f2]

/-- The eight words of a hash in the making. -/
structure Sha where
  a : Nat := 0x6a09e667
  b : Nat := 0xbb67ae85
  c : Nat := 0x3c6ef372
  d : Nat := 0xa54ff53a
  e : Nat := 0x510e527f
  f : Nat := 0x9b05688c
  g : Nat := 0x1f83d9ab
  h : Nat := 0x5be0cd19
  deriving DecidableEq, Repr

/-- One round with constant `k` and schedule word `w`. -/
def Sha.round (x : Sha) (k w : Nat) : Sha :=
  let s1 := shaRotr x.e 6 ^^^ shaRotr x.e 11 ^^^ shaRotr x.e 25
  let ch := (x.e &&& x.f) ^^^ ((0xFFFFFFFF - x.e) &&& x.g)
  let t := x.h + s1 + ch + k + w
  let s0 := shaRotr x.a 2 ^^^ shaRotr x.a 13 ^^^ shaRotr x.a 22
  let maj := (x.a &&& x.b) ^^^ (x.a &&& x.c) ^^^ (x.b &&& x.c)
  { a := (t + s0 + maj) % 0x100000000, b := x.a, c := x.b, d := x.c, e := (x.d + t) % 0x100000000, f := x.e, g := x.f, h := x.g }

/-- The rounds of a block with the constants `ks`, over a window of the 16 schedule words to come. -/
def shaRounds : List Nat → List Nat → Sha → Sha
  | k :: ks, w :: ws, x =>
    let w1 := ws.getD 0 0
    let w14 := ws.getD 13 0
    let s0 := shaRotr w1 7 ^^^ shaRotr w1 18 ^^^ (w1 >>> 3)
    let s1 := shaRotr w14 17 ^^^ shaRotr w14 19 ^^^ (w14 >>> 10)
    shaRounds ks (ws ++ [(s1 + ws.getD 8 0 + s0 + w) % 0x100000000]) (x.round k w)
  | _, _, x => x

/-- One block of 64 bytes joins the hash. -/
def Sha.block (x : Sha) (bs : List Byte) : Sha :=
  let y := shaRounds shaK ((List.range 16).map fun i => natOf ((bs.drop (4 * i)).take 4)) x
  { a := (x.a + y.a) % 0x100000000, b := (x.b + y.b) % 0x100000000, c := (x.c + y.c) % 0x100000000, d := (x.d + y.d) % 0x100000000,
    e := (x.e + y.e) % 0x100000000, f := (x.f + y.f) % 0x100000000, g := (x.g + y.g) % 0x100000000, h := (x.h + y.h) % 0x100000000 }

/-- `n` blocks in turn. -/
def Sha.blocks : Nat → List Byte → Sha → Sha
  | 0, _, x => x
  | n + 1, bs, x => Sha.blocks n (bs.drop 64) (x.block (bs.take 64))

/-- The bytes that pad a message of `n` bytes: a one bit, zeros, and its length in bits. -/
def shaPad (n : Nat) : List Byte := 0x80 :: List.replicate ((119 - n % 64) % 64) 0 ++ bytesOf 8 (8 * n)

/-- SHA-256 of a byte list, as 32 bytes. -/
def sha256 (bs : List Byte) : List Byte :=
  let m := bs ++ shaPad bs.length
  let x := Sha.blocks (m.length / 64) m {}
  ([x.a, x.b, x.c, x.d, x.e, x.f, x.g, x.h].map fun w => bytesOf 4 w).flatten

/-! ### ECDSA over P-256 (FIPS 186-4) -/

/-- The field prime. -/
def p256P : Nat := 0xffffffff00000001000000000000000000000000ffffffffffffffffffffffff

/-- The order of the base point. -/
def p256N : Nat := 0xffffffff00000000ffffffffffffffffbce6faada7179e84f3b9cac2fc632551

/-- The curve is y² = x³ − 3x + b. -/
def p256B : Nat := 0x5ac635d8aa3a93e7b3ebbd55769886bc651d06b0cc53b0f63bce3c3e27d2604b

/-- A point of the curve, none for the point at infinity. -/
abbrev EcPoint := Option (Nat × Nat)

/-- The base point. -/
def p256G : EcPoint :=
  some (0x6b17d1f2e12c4247f8bce6e563a440f277037d812deb33a0f4a13945d898c296,
    0x4fe342e2fe1a7f9b8ee7eb4a7c0f9e162bce33576b315ececbb6406837bf51f5)

/-- b^e mod m, for an exponent of at most `fuel` bits. -/
def powMod (m : Nat) : Nat → Nat → Nat → Nat
  | 0, _, _ => 1 % m
  | fuel + 1, b, e =>
    let r := powMod m fuel (b * b % m) (e / 2)
    if e % 2 = 1 then r * b % m else r

/-- The inverse modulo a prime of 256 bits. -/
def invMod (m a : Nat) : Nat := powMod m 256 (a % m) (m - 2)

/-- x³ − 3x + b modulo the field prime. -/
def p256Rhs (x : Nat) : Nat := (x * x * x + (p256P - 3) * x + p256B) % p256P

/-- The pair is an affine point of the curve. -/
def onCurve (x y : Nat) : Bool := x < p256P && y < p256P && y * y % p256P == p256Rhs x

/-- The sum of two points. -/
def ecAdd : EcPoint → EcPoint → EcPoint
  | none, q => q
  | p, none => p
  | some (x1, y1), some (x2, y2) =>
    if x1 = x2 ∧ (y1 + y2) % p256P = 0 then none
    else
      let l := if x1 = x2 then (3 * x1 * x1 + (p256P - 3)) * invMod p256P (2 * y1) % p256P
        else (y2 + (p256P - y1)) * invMod p256P (x2 + (p256P - x1)) % p256P
      let x := (l * l + (p256P - x1) + (p256P - x2)) % p256P
      some (x, (l * (x1 + (p256P - x)) + (p256P - y1)) % p256P)

/-- `k` times a point, for `k` of at most `fuel` bits. -/
def ecMul : Nat → Nat → EcPoint → EcPoint
  | 0, _, _ => none
  | fuel + 1, k, p =>
    let r := ecMul fuel (k / 2) (ecAdd p p)
    if k % 2 = 1 then ecAdd r p else r

/-- The signature (r, s) verifies over a hash `e` under the public key (x, y). -/
def ecdsaOk (x y e r s : Nat) : Bool :=
  onCurve x y && 0 < r && r < p256N && 0 < s && s < p256N &&
    (let w := invMod p256N s
     match ecAdd (ecMul 256 (e * w % p256N) p256G) (ecMul 256 (r * w % p256N) (some (x, y))) with
     | some (v, _) => v % p256N == r
     | none => false)

/-- The points of the curve whose x coordinate is `x`. The square root is a power since p ≡ 3 mod 4. -/
def pointsAt (x : Nat) : List (Nat × Nat) :=
  let y := powMod p256P 256 (p256Rhs x) ((p256P + 1) / 4)
  if onCurve x y then [(x, y), (x, (p256P - y) % p256P)] else []

/-- Every public key under which the signature (r, s) verifies over the hash `e`: of each point R whose x coordinate is r modulo the
order, the key (s·R − e·G)/r. -/
def ecdsaKeys (e r s : Nat) : List (Nat × Nat) :=
  let w := invMod p256N r
  let a := ecMul 256 ((p256N - e % p256N) * w % p256N) p256G
  let rs := pointsAt r ++ if r + p256N < p256P then pointsAt (r + p256N) else []
  (rs.filterMap fun q => ecAdd (ecMul 256 (s * w % p256N) (some q)) a).filter fun k => ecdsaOk k.1 k.2 e r s

/-- A public key as the bytes that a fused hash covers: X, then Y (R551). -/
def keyBytes (k : Nat × Nat) : List Byte := bytesOf 32 k.1 ++ bytesOf 32 k.2

end Sys2Proof.Machine
end

