-- ==== Sys2Proof/Machine/Image.lean ====
section
/-! DEFINITION. The boot image in the flash (R549 to R555): its header, its records and their payloads; lock records, fuse banks and
the limits in force that they give (R346, R562, R563). -/

namespace Sys2Proof.Machine

/-! ### The flash (R549, R550) -/

/-- The flash byte at offset `a`; an unwritten one reads 0xFF (PRESUMED, the family's erased value). -/
def State.flashGet (s : State) (a : Nat) : Byte := tabGet (fun _ => 0xFF) s.flash a

/-- The flash byte at offset `a` set to `b`. -/
def State.flashPut (s : State) (a : Nat) (b : Byte) : State := { s with flash := tabPut (fun _ => 0xFF) s.flash a b }

/-- `n` bytes of the flash. -/
def State.flashBytes (s : State) (a n : Nat) : List Byte := (List.range n).map fun i => s.flashGet (a + i)

/-- The flash offset of image A or B (R550). -/
def imageBase (b : Bool) : Nat := if b then 0x1000000 else 0

/-! ### Records (R552) -/

/-- What the records of an image hold. -/
structure Image where
  version : Nat := 0
  position : Nat := 0
  keySlot : Nat := 0
  /-- Bytes up to the end of the last record, and the public key (R551). -/
  length : Nat := 0
  key : Nat × Nat := (0, 0)
  /-- The words of the REG records, in order. -/
  words : List (Nat × Word) := []
  tables : List (Nat × List Byte) := []
  air : Option Air := none
  lock : Option LockRec := none
  /-- The LOCK record's commit bit, and its payload from byte 4. -/
  commit : Bool := false
  lockBytes : List Byte := []
  seeds : List (Nat × Nat × Coeffs) := []
  comp : List (List Int) := []
  therm : List (Nat × List (Nat × Int)) := []
  deriving DecidableEq, Repr

/-- The records in a byte list, types and payloads, without the END record that closes them; none where they do not parse. -/
def parseRecords : Nat → List Byte → Option (List (Nat × List Byte))
  | 0, _ => none
  | fuel + 1, bs =>
    let n := fieldAt bs 4 4
    let pad := (n + 3) / 4 * 4
    if bs.length < 8 || fieldAt bs 2 2 != 0 then none
    else if fieldAt bs 0 2 = 0xFF then (if n = 0 ∧ bs.length = 8 then some [] else none)
    else if bs.length < 8 + pad || ((bs.drop (8 + n)).take (pad - n)).any (· != 0) then none
    else (parseRecords fuel (bs.drop (8 + pad))).map fun t => (fieldAt bs 0 2, (bs.drop 8).take n) :: t

/-- Words for consecutive addresses from `a` on. -/
def wordsFrom (a : Nat) : List Word → List (Nat × Word)
  | [] => []
  | w :: t => (a, w) :: wordsFrom (a + 4) t

/-- A symbol's nibble is one of R554. -/
def goodNibble (c : Nat) : Bool := c / 4 = 2 || c = 0 || c = 4

/-- One pattern of a PATTERN payload, and what follows it (R554). -/
def parsePattern (bs : List Byte) : Option (Pattern × List Byte) :=
  let n := byteAt bs 0 % 32
  let syms := (((bs.drop 4).take (7 * n)).map fun b => [b.toNat / 16, b.toNat % 16]).flatten
  let k := byteAt bs 1
  if bs.length < 4 + 7 * n || syms.any (fun c => !goodNibble c) || 10 < k / 16 || 10 < k % 16 then none
  else some ({ nSlot := n, kiteK := k / 16, calK := k % 16, syms := syms }, bs.drop (4 + 7 * n))

/-- `n` patterns that fill a byte list. -/
def parsePatterns : Nat → List Byte → Option (List Pattern)
  | 0, bs => if bs = [] then some [] else none
  | n + 1, bs =>
    match parsePattern bs with
    | some (p, rest) => (parsePatterns n rest).map fun t => p :: t
    | none => none

/-- A PATTERN payload (R554). -/
def parseAir (p : List Byte) : Option Air :=
  let n := byteAt p 10 % 4
  if p.length < 12 || n = 0 || n = 3 then none
  else (parsePatterns n (p.drop 12)).map fun pats =>
    { ulAdvance := fieldAt p 0 2 % 4096, cOpen := fieldAt p 2 2, cClose := fieldAt p 4 2, uOpen := fieldAt p 6 2,
      uClose := fieldAt p 8 2, pats := pats }

/-- The values of a lock record from byte 4 of its payload on, with `n` ranges (R555). -/
def lockOf (n : Nat) (bs : List Byte) : LockRec :=
  { pmaxPath := fieldAt bs 0 2, pmaxTotal := fieldAt bs 2 2, duty10 := byteAt bs 4, duty1s := byteAt bs 5,
    ranges := (List.range n).map fun r => (fieldAt bs (8 + 8 * r) 4 % 0x100000, fieldAt bs (12 + 8 * r) 4 % 0x100000) }

/-- One bin of a COMP payload: the band offset and the three trims (R552). -/
def compEntry (p : List Byte) (i : Nat) : List Int :=
  signedOf 8 (byteAt p (8 * i)) :: [2, 4, 6].map fun k => signedOf 16 (fieldAt p (8 * i + k) 2)

/-- The static beam table region (R485). -/
def inStatic (a n : Nat) : Bool := 0xF1700000 ≤ a && a + n ≤ 0xF1740000

/-- One record added to an image; none where its payload is not that of its type, the type is unknown, or a second PATTERN or LOCK
record comes (R552). -/
def addRecord (m : Image) (t : Nat) (p : List Byte) : Option Image :=
  match t with
  | 1 =>
    if 8 ≤ p.length ∧ p.length = 8 + 4 * fieldAt p 4 4 then
      some { m with words := m.words ++ wordsFrom (fieldAt p 0 4) (wordsOf (fieldAt p 4 4) (p.drop 8)) }
    else none
  | 2 =>
    if 4 ≤ p.length ∧ inStatic (fieldAt p 0 4) (p.length - 4) then
      some { m with tables := m.tables ++ [(fieldAt p 0 4, p.drop 4)] }
    else none
  | 3 => if m.air.isSome then none else (parseAir p).map fun a => { m with air := some a }
  | 4 =>
    let n := byteAt p 0 % 8
    if m.lock.isSome || 4 < n || p.length != 12 + 8 * n then none
    else some { m with lock := some (lockOf n (p.drop 4)), lockBytes := p.drop 4, commit := bitOf (byteAt p 0) 7 }
  | 5 =>
    if p.length = 2092 ∧ fieldAt p 1 3 = 0 ∧ byteAt p 0 < 8 then
      some { m with seeds := (byteAt p 0, fieldAt p 4 8, wordsOf 520 (p.drop 12)) :: m.seeds }
    else none
  | 6 => if p.length = 608 then some { m with comp := (List.range 76).map (compEntry p) } else none
  | 7 =>
    if p.length = 136 ∧ fieldAt p 1 3 = 0 ∧ byteAt p 0 < 4 then
      let tab := (List.range 33).map fun i => (fieldAt p (4 + 4 * i) 2, signedOf 16 (fieldAt p (6 + 4 * i) 2))
      some { m with therm := (byteAt p 0, tab) :: m.therm }
    else none
  | _ => none

/-- All records of an image; exactly one PATTERN and one LOCK (R552). -/
def buildImage (recs : List (Nat × List Byte)) : Option Image :=
  match recs.foldl (fun m (t, p) => m.bind fun m => addRecord m t p) (some {}) with
  | some m => if m.air.isSome && m.lock.isSome then some m else none
  | none => none

/-- The image of a region as far as checks 1 and 2 of R556 go: its header, its records, or the code of the check that fails. -/
def State.readImage (s : State) (b : Bool) : Nat ⊕ Image :=
  let base := imageBase b
  let hd := s.flashBytes base 128
  let len := fieldAt hd 12 4
  if fieldAt hd 0 4 != 0x53363438 || fieldAt hd 4 2 != 1 then .inl 1
  else if len % 4 != 0 || len < 128 || 0x800000 < len + 64 then .inl 2
  else
    match parseRecords (len / 8) (s.flashBytes (base + 128) (len - 128)) with
    | none => .inl 2
    | some recs =>
      if recs.length + 1 != fieldAt hd 16 4 then .inl 2
      else match buildImage recs with
        | none => .inl 2
        | some m => .inr { m with
          version := fieldAt hd 8 4, position := byteAt hd 6 % 4, keySlot := byteAt hd 7 % 4
          length := len, key := (fieldAt hd 64 32, fieldAt hd 96 32) }

/-! ### Limits (R346, R562, R563) -/

/-- An interval put into a list sorted by lower edge. -/
def insertRange (x : Nat × Nat) : List (Nat × Nat) → List (Nat × Nat)
  | [] => [x]
  | y :: t => if x.1 ≤ y.1 then x :: y :: t else y :: insertRange x t

/-- Neighbours of a sorted list joined where they touch or overlap. -/
def joinRanges : List (Nat × Nat) → List (Nat × Nat)
  | [] => []
  | x :: t =>
    match joinRanges t with
    | [] => [x]
    | y :: u => if y.1 ≤ x.2 then (x.1, max x.2 y.2) :: u else x :: y :: u

/-- The maximal intervals that a list of closed intervals covers, in ascending order; an interval whose edges are reversed holds
nothing. -/
def piecesOf (rs : List (Nat × Nat)) : List (Nat × Nat) :=
  joinRanges ((rs.filter fun r => r.1 ≤ r.2).foldr insertRange [])

/-- What two lists of pieces both permit; none stands for no limit (R346). -/
def meetPieces : Option (List (Nat × Nat)) → Option (List (Nat × Nat)) → Option (List (Nat × Nat))
  | none, b => b
  | a, none => a
  | some a, some b => some (piecesOf ((a.map fun x => b.map fun y => (max x.1 y.1, min x.2 y.2)).flatten))

/-- The pieces of one record (R346). -/
def LockRec.pieces (r : LockRec) : Option (List (Nat × Nat)) := if r.ranges = [] then none else some (piecesOf r.ranges)

/-- The limits that some records give together. -/
structure Limits where
  pmaxPath : Nat := 0xFFFF
  pmaxTotal : Nat := 0xFFFF
  duty10 : Nat := 0xFF
  duty1s : Nat := 0xFF
  pieces : Option (List (Nat × Nat)) := none
  deriving DecidableEq, Repr

/-- One more record taken into limits (R346). -/
def Limits.with (l : Limits) (r : LockRec) : Limits :=
  { pmaxPath := min l.pmaxPath r.pmaxPath, pmaxTotal := min l.pmaxTotal r.pmaxTotal, duty10 := min l.duty10 r.duty10,
    duty1s := min l.duty1s r.duty1s, pieces := meetPieces l.pieces r.pieces }

/-- The record in a fuse bank: none while its CRC fails (R562, R563). A bank holds the ranges of its record and no more. -/
def bankRec (bs : List Byte) : Option LockRec :=
  let n := bs.length - 2
  if 10 ≤ bs.length ∧ crc16 (bs.take n) = fieldAt bs n 2 then some (lockOf ((n - 8) / 8) bs) else none

/-- The records of the fuse banks that take part (R346, R563). -/
def State.bankRecs (s : State) : List LockRec := s.fuses.banks.toList.filterMap fun b => b.bind bankRec

/-- The limits that the fuse banks give. -/
def State.bankLimits (s : State) : Limits := s.bankRecs.foldl Limits.with {}

/-- The values of record `r` that are looser than limits `l`, by the bits of event 0x0008 (R346, R602). -/
def looserBits (l : Limits) (r : LockRec) : Nat :=
  (if l.pmaxPath < r.pmaxPath then 1 else 0) + (if l.pmaxTotal < r.pmaxTotal then 2 else 0)
    + (if l.duty10 < r.duty10 then 4 else 0) + (if l.duty1s < r.duty1s then 8 else 0)
    + (if l.pieces.isSome && meetPieces l.pieces r.pieces != r.pieces then 16 else 0)

/-- Record `r` is tighter than limits `l` in at least one value (R562). -/
def tighter (l : Limits) (r : LockRec) : Bool :=
  decide (r.pmaxPath < l.pmaxPath) || decide (r.pmaxTotal < l.pmaxTotal) || decide (r.duty10 < l.duty10)
    || decide (r.duty1s < l.duty1s) || (r.pieces.isSome && meetPieces l.pieces r.pieces != l.pieces)

/-- Limits in force: the pieces that the checks of R347 use, and the registers that show them (R346). -/
def State.applyLimits (s : State) (l : Limits) : State :=
  let ps := l.pieces.getD []
  let s := s.wr Reg.SEQ_REG_LIM0 (BitVec.ofNat 32 (l.pmaxPath * 0x10000 + l.pmaxTotal))
  let s := s.wr Reg.SEQ_REG_LIM1 (BitVec.ofNat 32 (ps.length * 0x1000000 + l.duty10 * 0x10000 + l.duty1s))
  let s := (List.zip (List.range 16) ps).foldl (fun s (i, lo, hi) =>
    let a := if i < 4 then Reg.SEQ_REG_RANGE_LO i else Reg.SEQ_REG_PIECE_LO (i - 4)
    let b := if i < 4 then Reg.SEQ_REG_RANGE_HI i else Reg.SEQ_REG_PIECE_HI (i - 4)
    (s.wr a (BitVec.ofNat 32 (0x80000000 + lo))).wr b (BitVec.ofNat 32 (0x80000000 + hi))) s
  { s with kpr := { s.kpr with pieces := ps, anyFreq := l.pieces.isNone } }

end Sys2Proof.Machine
end

