-- ==== Sys2Proof/Machine/Flash.lean ====
section
/-! DEFINITION. Flash programming by the host (R561), revocation of key slots (R556) and the unlock of the ports (R578, R579). -/

namespace Sys2Proof.Machine

/-! ### Flash operations (R561) -/

/-- The flash bytes that a request touches: an erase takes every 64 KiB sector that its range meets. -/
def flashSpan (program : Bool) (ofs len : Nat) : Nat × Nat :=
  if program || len = 0 then (ofs, len)
  else
    let a := ofs / 0x10000 * 0x10000
    (a, (ofs + len + 0xFFFF) / 0x10000 * 0x10000 - a)

/-- The range lies in part inside the region of the running image. -/
def State.touchesImage (s : State) (a n : Nat) : Bool :=
  let b := imageBase s.kpr.imageB
  s.kpr.imageLoaded && decide (a < b + 0x1000000) && decide (b < a + n)

/-- The source lies in the host area (R485). -/
def inHostArea (a n : Nat) : Bool := 0xF1600000 ≤ a && a + n ≤ 0xF1700000

/-- A write of KPR_FLASH_CTL: op is stored, and go starts a request or has it refused (R561). The data are taken from memory at the
start. The map states no clear for go: the model holds it until the operation ends and leaves it 0 after a refusal. -/
def State.writeFlashCtl (s : State) (w : Word) : State :=
  let program := bitOf w.toNat 0
  let s := s.setBit Reg.KPR_FLASH_CTL 0 program
  if !bitOf w.toNat 31 then s
  else
    let len := (s.rd Reg.KPR_FLASH_LEN).toNat
    let src := (s.rd Reg.KPR_FLASH_SRC).toNat
    let (a, n) := flashSpan program (s.rd Reg.KPR_FLASH_OFS).toNat len
    if s.kpr.flashOp.isSome || s.touchesImage a n || (program && !inHostArea src len) then s.setBit Reg.KPR_FLASH_CTL 29 true
    else
      let ((bs, _), s) := if program then s.memRead src len 2 0x3F else (([], false), s)
      let s := ((s.setBit Reg.KPR_FLASH_CTL 31 true).setBit Reg.KPR_FLASH_CTL 30 true).setBit Reg.KPR_FLASH_CTL 29 false
      { s with kpr := { s.kpr with flashOp := some (a, if program then some bs else none, n) } }

/-- FLASH_ERASE: go with op 0 (R561). -/
def execFlashErase (s : State) : Res := .next (if s.writable then s.writeFlashCtl 0x80000000 else s)

/-- FLASH_PROGRAM: go with op 1 (R561). -/
def execFlashProgram (s : State) : Res := .next (if s.writable then s.writeFlashCtl 0x80000001 else s)

/-- Bytes are programmed: a flash bit goes from 1 to 0 only (PRESUMED of a NOR device). -/
def State.flashProgram (s : State) (a : Nat) (bs : List Byte) : State :=
  match bs with
  | [] => s
  | b :: t => (s.flashPut a (s.flashGet a &&& b)).flashProgram (a + 1) t

/-- FLASH_OP_COMPLETE: the operation ends, `ok` or failed (R561). After a failure the bytes of its range are open. -/
def execFlashOpComplete (ok : Bool) (s : State) : Res :=
  .next (match s.kpr.flashOp with
    | none => s
    | some (a, data, n) =>
      let s := { s with kpr := { s.kpr with flashOp := none } }
      let s := ((s.setBit Reg.KPR_FLASH_CTL 31 false).setBit Reg.KPR_FLASH_CTL 30 false).setBit Reg.KPR_FLASH_CTL 29 (!ok)
      if !ok then
        (List.range n).foldl (fun s i =>
          let (v, s) : Nat × State := s.freeNat
          s.flashPut (a + i) (BitVec.ofNat 8 v)) s
      else match data with
        | some bs => s.flashProgram a bs
        | none => (List.range n).foldl (fun s i => s.flashPut (a + i) 0xFF) s)

/-! ### Keys (R556) and unlocking (R578, R579) -/

/-- A write of KPR_KEY_REVOKE: in READY each named slot but the running image's is revoked for good, and its bit stays set. -/
def State.writeKeyRevoke (s : State) (w : Word) : State :=
  if s.mode = .ready then
    let m := maskOf 4 fun k => bitOf w.toNat k && k != s.kpr.keySlot
    { s.setFld Reg.KPR_KEY_REVOKE 3 0 (Nat.lor (s.fld Reg.KPR_KEY_REVOKE 3 0) m) with
      fuses := { s.fuses with revoked := Nat.lor s.fuses.revoked m } }
  else s

/-- KEY_REVOKE. -/
def execKeyRevoke (slots : BitVec 4) (s : State) : Res := .next (if s.writable then s.writeKeyRevoke (BitVec.ofNat 32 slots.toNat) else s)

/-- new: a fresh challenge, refused after three failures (R579). -/
def State.newChallenge (s : State) : State :=
  if 3 ≤ s.kpr.unlockFails then s
  else
    let s := (List.range 8).foldl (fun s i =>
      let (v, s) : Nat × State := s.freeNat
      s.wr (Reg.KPR_UNLOCK_CHAL i) (BitVec.ofNat 32 v)) s
    { s with kpr := { s.kpr with chalValid := true } }

/-- The bytes of `n` registers from the one at `a`, each most significant byte first. -/
def State.regBytes (s : State) (a n : Nat) : List Byte := ((List.range n).map fun i => bytesOf 4 (s.rd (a + 4 * i)).toNat).flatten

/-- The response is a signature over the challenge and the die identity under a key whose hash fills the unlock slot of the fuses (R579).
The chip is given no key: it is one of those under which the signature verifies. -/
def State.responseOk (s : State) : Bool :=
  let msg := s.regBytes (Reg.KPR_UNLOCK_CHAL 0) 8 ++ bytesOf 4 s.fuses.dieIdHi.toNat ++ bytesOf 4 s.fuses.dieIdLo.toNat
  let sg := s.regBytes (Reg.KPR_UNLOCK_RESP 0) 16
  (ecdsaKeys (natOf (sha256 msg)) (fieldAt sg 0 32) (fieldAt sg 32 32)).any fun k => sha256 (keyBytes k) == s.fuses.unlockHash

/-- check: the response to the challenge that is held is valid, or counts as a failure and discards the challenge (R579). -/
def State.checkUnlock (s : State) : State :=
  if s.kpr.chalValid && s.responseOk then
    { s with kpr := { s.kpr with unlocked := true } }.raise 0x0007 [(4, s.fuses.dieIdHi.toNat), (4, s.fuses.dieIdLo.toNat)]
  else
    let s := s.bump Reg.KPR_UNLOCK_FAIL_CNT
    let s := (List.range 8).foldl (fun s i => s.wr (Reg.KPR_UNLOCK_CHAL i) 0) s
    { s with kpr := { s.kpr with chalValid := false, unlockFails := s.kpr.unlockFails + 1 } }

/-- A write of KPR_UNLOCK_CTL: new, then check. -/
def State.writeUnlockCtl (s : State) (w : Word) : State :=
  let s := if bitOf w.toNat 0 then s.newChallenge else s
  if bitOf w.toNat 1 then s.checkUnlock else s

/-- UNLOCK_NEW (R579). -/
def execUnlockNew (s : State) : Res := .next (if s.writable then s.newChallenge else s)

/-- UNLOCK_CHECK (R579). -/
def execUnlockCheck (s : State) : Res := .next (if s.writable then s.checkUnlock else s)

/-- The service port is locked (R578). -/
def State.locked (s : State) : Bool := s.fuses.lockFuse && !s.kpr.unlocked

/-- KPR_LOCK_STAT as it reads (R562, R563, R578, R579). -/
def State.lockStat (s : State) : Word :=
  let bad := fun b => match s.fuses.banks.toList.getD b none with | some bs => (bankRec bs).isNone | none => false
  BitVec.ofNat 32 ((if s.fuses.lockFuse then 0x80000000 else 0) + (if s.kpr.unlocked then 0x40000000 else 0)
    + s.fuses.revoked % 16 * 0x10000 + maskOf 4 bad * 0x100 + maskOf 4 fun b => (s.fuses.banks.toList.getD b none).isSome)

end Sys2Proof.Machine
end

