-- ==== Sys2Proof/Machine/Coding.lean ====
section
/-! DEFINITION. The coding of the link lanes (R358 to R363, R368, R369, R372, R394): words, the scrambler and descrambler, bit stuffing, the word
sets of the parcels, and the pattern checkers of the lane test. -/

namespace Sys2Proof.Machine

/-! ### Words (R358, R362, R363) -/

/-- Byte `b` of a payload (R358). -/
def payByte (p : BitVec 64) (b : Nat) : Byte := p.extractLsb' (56 - 8 * b) 8

/-- The bytes of a payload. -/
def payBytes (p : BitVec 64) : List Byte := (List.range 8).map fun b => payByte p b

/-- A payload from its bytes, zeros where there are fewer than eight. -/
def payOf (bs : List Byte) : BitVec 64 := BitVec.ofNat 64 (natOf ((bs ++ List.replicate 8 0).take 8))

/-- A control word with its type and the rest of its payload (R362). -/
def controlWord (bs : List Byte) : LaneWord := { head := 2, pay := payOf bs }

/-- IDLE and SKIP words (R362). -/
def idleWord : LaneWord := controlWord [BitVec.ofNat 8 0x1E]
def skipWord : LaneWord := controlWord [BitVec.ofNat 8 0x2D]

/-- A control type that a received word may have: IDLE, SKIP, BCH or SLEEP (R362); MARKERs are taken apart before. -/
def controlType (t : Nat) : Bool := t == 0x1E || t == 0x2D || t == 0x33 || t == 0x55

/-- A received control word of no valid type (R362). -/
def badControl (w : LaneWord) : Bool := w.head == 2 && !controlType (payByte w.pay 0).toNat

/-- A received word on logical lane `role` has an invalid header, an invalid control type or a stuffing error (R358, R369, R384). -/
def badWord (w : LaneWord) (role : Nat) : Bool := w.bad || w.head == 0 || (w.head == 3 && role != 0) || badControl w

/-! ### Egress: scrambling and stuffing (R359, R360) -/

/-- The line bits of a lane as they are coded, the latest first, with the stuff bits inserted. -/
structure LineOut where
  bits : List Bool := []
  stuffed : Nat := 0
  coder : Coder := {}

/-- One bit goes out, and after 24 equal ones a stuff bit (R360). -/
def LineOut.bit (o : LineOut) (b : Bool) : LineOut :=
  let run := if b == o.coder.last then o.coder.run + 1 else 1
  if run = 24 then
    { bits := (!b) :: b :: o.bits, stuffed := o.stuffed + 1, coder := { o.coder with run := 1, last := !b } }
  else { o with bits := b :: o.bits, coder := { o.coder with run := run, last := b } }

/-- The next state of a scrambler or descrambler that takes bit `o` in (R359). -/
def shiftIn (s : Nat) (o : Bool) : Nat := (2 * s + (if o then 1 else 0)) % 2 ^ 58

/-- The bit that a data or scrambled bit turns into (R359). -/
def scrambleBit (s : Nat) (d : Bool) : Bool := d != (bitOf s 38 != bitOf s 57)

/-- One payload bit goes out scrambled. -/
def LineOut.scrambled (o : LineOut) (d : Bool) : LineOut :=
  let b := scrambleBit o.coder.scr d
  { o with coder := { o.coder with scr := shiftIn o.coder.scr b } }.bit b

/-- A word goes out, header bit [1] first (R358); a MARKER bypasses the scrambler (R359). -/
def LineOut.word (o : LineOut) (w : LaneWord) (marker : Bool) : LineOut :=
  let o := (o.bit w.head[1]).bit w.head[0]
  (List.range 64).foldl (fun o i => let d := w.pay.getLsbD (63 - i); if marker then o.bit d else o.scrambled d) o

/-- Words go out in order. -/
def LineOut.words (o : LineOut) (ws : List LaneWord) : LineOut := ws.foldl (fun o w => o.word w false) o

/-! ### Ingress: removing stuff bits, descrambling (R359, R361) -/

/-- The words of a lane as they are cut out of the line bits, still scrambled, the latest first. -/
structure LineIn where
  words : List LaneWord := []
  part : Nat := 0
  bits : Nat := 0
  bad : Bool := false
  errs : Nat := 0
  coder : Coder := {}

/-- One line bit comes in (R361): a stuff bit is removed, and is an error when it does not differ; any other bit belongs to the word. -/
def LineIn.bit (i : LineIn) (b : Bool) : LineIn :=
  if i.coder.run = 24 then
    let wrong := b == i.coder.last
    { i with coder := { i.coder with run := 1, last := b }, bad := i.bad || wrong, errs := if wrong then i.errs + 1 else i.errs }
  else
    let c := { i.coder with run := if b == i.coder.last then i.coder.run + 1 else 1, last := b }
    let part := 2 * i.part + (if b then 1 else 0)
    if i.bits = 65 then
      let w : LaneWord := { head := BitVec.ofNat 2 (part / 2 ^ 64), pay := BitVec.ofNat 64 part, bad := i.bad }
      { i with words := w :: i.words, part := 0, bits := 0, bad := false, coder := c }
    else { i with part := part, bits := i.bits + 1, coder := c }

/-- A word descrambled, with the descrambler after it (R359). -/
def descramble (s : Nat) (w : LaneWord) : LaneWord × Nat :=
  let (p, s) := (List.range 64).foldl (fun (p, s) i =>
    let o := w.pay.getLsbD (63 - i)
    (2 * p + (if scrambleBit s o then 1 else 0), shiftIn s o)) (0, s)
  ({ w with pay := BitVec.ofNat 64 p }, s)

/-- The line bits of a lane from one MARKER to the end of the next: the words between them, the MARKER's payload, and the stuffing errors, with the
coder after them. -/
def readLine (c : Coder) (bits : List Bool) : List LaneWord × List Byte × Nat × Coder :=
  let i := bits.foldl (fun i b => LineIn.bit i b) { coder := c : LineIn }
  match i.words with
  | [] => ([], [], i.errs, i.coder)
  | m :: t =>
    let (ws, s) := t.reverse.foldl (fun (ws, s) w => let (w, s) := descramble s w; (w :: ws, s)) (([] : List LaneWord), i.coder.scr)
    (ws.reverse, if m.head = 2 then payBytes m.pay else [], i.errs, { i.coder with scr := s })

/-! ### Word sets and parcels (R368, R369) -/

/-- The word of a set on logical lane `j`: the same control word on every lane, or eight bytes of a parcel, with the header of logical lane 0
marking the first set and zeros filling the last (R368). -/
def OutSet.word (x : OutSet) (j : Nat) : LaneWord :=
  match x with
  | .control bs => controlWord bs
  | .data first bs => { head := if first && j = 0 then 3 else 1, pay := payOf (bs.drop (8 * j)) }

/-- The data sets that carry a parcel's bytes at width `w` (R368). -/
def packSets (w : Nat) : Nat → Bool → List Byte → List OutSet
  | 0, _, _ => []
  | n + 1, first, bs => if bs = [] then [] else .data first (bs.take (8 * w)) :: packSets w n false (bs.drop (8 * w))

/-- A set of `w` lanes is marked errored: a word of it is invalid, it mixes data and control words, or the deskew buffer overflowed (R366, R368,
R369). -/
def badSet (x : WordSet) (w : Nat) : Bool :=
  let l := x.words.take w
  x.overflow || decide (l.length < w) || (l.zipIdx.any fun (y, j) => badWord y j) || ((l.any fun y => y.head == 2) && l.any fun y => y.head != 2)

/-- The bytes of the sets of a parcel at width `w`, and whether one of the sets is marked errored (R368, R369). -/
def readSets (w : Nat) (xs : List WordSet) : List Byte × Bool :=
  (xs.flatMap fun x => (x.words.take w).flatMap fun y => payBytes y.pay, xs.any fun x => badSet x w)

/-- The sets begin a parcel (R368). -/
def beginsParcel (xs : List WordSet) : Bool :=
  match xs with
  | x :: _ => match x.words with | y :: _ => y.head == 3 | [] => false
  | [] => false

/-- `n` counted sets of a block: the sets that were sent, each after a number of IDLE sets (none here), and IDLE sets when there are no more; with
the sets left for the next block (R364). -/
def weave : Nat → List Nat → List OutSet → List (Option OutSet) × List OutSet
  | 0, _, l => ([], l)
  | n + 1, (g + 1) :: gs, l => let (a, b) := weave n (g :: gs) l; (none :: a, b)
  | n + 1, gs, x :: t => let (a, b) := weave n gs.tail t; (some x :: a, b)
  | n + 1, gs, [] => let (a, b) := weave n gs []; (none :: a, b)

/-- A set made for width 8 as sets of width 4: a parcel's bytes take two, and one where the second would hold none of them (R368, R386). -/
def halveSet (x : OutSet) : List OutSet :=
  match x with
  | .control bs => [.control bs]
  | .data first bs => packSets 4 2 first bs

/-! ### Training frames (R372) -/

/-- The frame marker. -/
def frameMarker : List Bool :=
  [true, true, true, false, false, false, true, true, true, false, false, false, true, true, false, true]

/-- A training frame's marker and Manchester-coded body. -/
def frameHalves (body : List Byte) : List Bool :=
  frameMarker ++ body.flatMap fun b => (List.range 8).flatMap fun i => let d := bitOf b.toNat (7 - i); [d, !d]

/-- Manchester half-bits as bits; none where a bit has no transition. -/
def manchester : List Bool → Option (List Bool)
  | a :: b :: t => if a == b then none else (manchester t).map (a :: ·)
  | [] => some []
  | [_] => none

/-- The bytes that bits spell, most significant bit first, `n` of them. -/
def bitBytes : Nat → List Bool → List Byte
  | 0, _ => []
  | n + 1, l => BitVec.ofNat 8 ((l.take 8).foldl (fun x b => 2 * x + (if b then 1 else 0)) 0) :: bitBytes n (l.drop 8)

/-- The half-bits of a frame read: whether its marker is inverted, and its body, inverted back; no body where it is no Manchester code. -/
def frameRead (half : List Bool) : Bool × Option (List Byte) :=
  let inv := half.take 16 == frameMarker.map (!·)
  let half := if inv then half.map (!·) else half
  (inv, if half.take 16 == frameMarker then (manchester (half.drop 16)).map (bitBytes 16) else none)

/-! ### Back-channel sets (R381) -/

/-- The first copy of a back-channel set with a valid check sum; none makes the set invalid (R381). -/
def bchRead (copies : List (Vector Byte 8)) : Option (List Byte) :=
  (copies.map (·.toList)).find? fun bs => byteAt bs 0 == 0x33 && crc16 (bs.take 6) == fieldAt bs 6 2

/-- The queue and the number of a message of the parcel layer (R406). -/
def bchQueue (bs : List Byte) : Fin 8 := ⟨byteAt bs 2 % 8, Nat.mod_lt _ (by decide)⟩
def bchNumber (bs : List Byte) : Nat := fieldAt bs 3 3

/-! ### Pattern generators and checkers (R394) -/

/-- The taps of a pattern. -/
def prbsTaps : Nat → Nat × Nat
  | 0 => (7, 6)
  | 1 => (15, 14)
  | 2 => (23, 18)
  | _ => (31, 28)

/-- `n` bits of a pattern from a generator's register, and the register after them: each bit is the sum of the two that the polynomial names
(R394). -/
def prbsBits (pattern : Nat) : Nat → Nat → List Bool × Nat
  | 0, r => ([], r)
  | n + 1, r =>
    let (w, k) := prbsTaps pattern
    let b := bitOf r (w - 1) != bitOf r (k - 1)
    let (t, r) := prbsBits pattern n ((2 * r + (if b then 1 else 0)) % 2 ^ w)
    (b :: t, r)

/-- One received bit at a checker (R394): without lock it seeds itself and locks after 64 correct bits; with lock it runs on its own, counts every
error, and loses lock at 64 errors in 1024 bits. -/
def Checker.bit (pattern : Nat) (c : Checker) (b : Bool) : Checker :=
  let (n, k) := prbsTaps pattern
  let want := bitOf c.reg (n - 1) != bitOf c.reg (k - 1)
  let next := fun (x : Bool) => (2 * c.reg + (if x then 1 else 0)) % 2 ^ n
  let ok := b == want
  if c.lock then
    let recent := ((!ok) :: c.recent).take 1024
    let errs := if ok then c.errs else c.errs + 1
    if 64 ≤ recent.countP id then { reg := next b, seen := 1, errs := errs }
    else { c with reg := next want, recent := recent, errs := errs }
  else
    let good := if n ≤ c.seen && ok then c.good + 1 else 0
    if good = 64 then { c with reg := next b, lock := true, good := 0, recent := [] }
    else { c with reg := next b, seen := c.seen + 1, good := good }

/-- Received bits at a checker. -/
def Checker.take (pattern : Nat) (c : Checker) (bits : List Bool) : Checker := bits.foldl (fun c b => c.bit pattern b) c

end Sys2Proof.Machine
end

