-- ==== Sys2Proof/Machine/LinkOps.lean ====
section
/-! DEFINITION. What the link's commands share: the ports and their queues, back-channel messages (R381, R382), the states
of a port (R370, R371), routing (R424), alarm parcels (R423), and what entering and leaving UP does (R377, R387, R410). -/

namespace Sys2Proof.Machine

/-- One port's state. -/
def State.port (s : State) (u : Fin 2) : PortSt := s.pkt.ports[u]

/-- One port's state, changed. -/
def State.setPort (s : State) (u : Fin 2) (f : PortSt → PortSt) : State :=
  { s with pkt := { s.pkt with ports := upd s.pkt.ports u f } }

/-- One queue of a port, changed. -/
def State.setQueue (s : State) (u : Fin 2) (q : Fin 8) (f : QueueSt → QueueSt) : State :=
  s.setPort u fun p => { p with queues := upd p.queues q f }

/-- One lane of a port, changed. -/
def State.setLane (s : State) (u : Fin 2) (l : Fin 9) (f : LaneSt → LaneSt) : State :=
  s.setPort u fun p => { p with lanes := upd p.lanes l f }

/-- Something put on the lines. -/
def State.emit (s : State) (o : Output) : State := { s with out := o :: s.out }

/-- A state change for each lane in turn. -/
def State.forLanes (s : State) (f : State → Fin 9 → State) : State := (List.finRange 9).foldl f s

/-- A state change for each queue in turn. -/
def State.forQueues (s : State) (f : State → Fin 8 → State) : State := (List.finRange 8).foldl f s

/-! ### Position and routing (R399, R424) -/

/-- The number of chips of the cascade. -/
def State.chips (s : State) : Nat := s.fld Reg.PKT_CASCADE 17 16 + 1

/-- The chip is the tail. -/
def State.isTail (s : State) : Bool := s.position + 1 = s.chips

/-- Port `u` faces a baseband: the head's UP port and the tail's DN port. -/
def State.basebandPort (s : State) (u : Fin 2) : Bool := if u = 0 then s.position = 0 else s.isTail

/-- The port toward a destination other than the chip itself: 0 to 3 a chip, 5 and 6 an end. In a ring a route over a port that
is not UP takes the other port (R424). -/
def State.routeTo (s : State) (dest : Nat) : Fin 2 :=
  let u : Fin 2 := if dest = 5 then 0 else if dest = 6 then 1 else if s.position < dest then 1 else 0
  if s.bit Reg.PKT_CASCADE 0 && !s.portUp u then 1 - u else u

/-- A parcel joins the egress queue of its plane on port `u` (R402). -/
def State.enqueue (s : State) (u : Fin 2) (p : Parcel) : State :=
  match queueOf p.plane p.sub with
  | some q => s.setQueue u q fun x => { x with wait := x.wait ++ [{ p with at_ := s.now }] }
  | none => s

/-- A parcel that the chip originates goes toward its destination; one for all chips goes out of every port that leads to a
chip. -/
def State.send (s : State) (p : Parcel) : State :=
  let dest := flowDest p.flow
  if dest = 4 then
    let s := if s.basebandPort 0 then s else s.enqueue 0 p
    if s.basebandPort 1 then s else s.enqueue 1 p
  else s.enqueue (s.routeTo dest) p

/-! ### Back-channel (R381, R382) -/

/-- A back-channel word's payload: type, message, four bytes of arguments, CRC-16 (R381). -/
def bchBytes (msg args : Nat) : List Byte :=
  let bs := bytesOf 1 0x33 ++ bytesOf 1 msg ++ bytesOf 4 args
  bs ++ bytesOf 2 (crc16 bs)

/-- The egress direction of port `u` is awake (R390). -/
def State.txAwake (s : State) (u : Nat) : Bool := s.fld (Reg.LN_SLEEP_STAT u) 5 4 = 0

/-- The width of the egress and of the ingress direction (R378). -/
def State.txWidth (s : State) (u : Nat) : Nat := s.fld (Reg.LN_TRAIN_STAT u) 15 12
def State.rxWidth (s : State) (u : Nat) : Nat := s.fld (Reg.LN_TRAIN_STAT u) 19 16

/-- Word sets join those that the present block carries; the direction is not idle (R364, R390). -/
def State.pushSets (s : State) (u : Fin 2) (l : List OutSet) : State :=
  s.setPort u fun p => { p with sets := p.sets ++ l, idleSince := s.now }

/-- A back-channel message is sent; while the direction sleeps it waits for the wake that it asks for (R382, R390). -/
def State.sendBch (s : State) (u : Fin 2) (msg args : Nat) : State :=
  if s.txAwake u then (s.emit (.bch u (bchBytes msg args))).pushSets u [.control (bchBytes msg args)]
  else s.setPort u fun p => { p with bchWait := p.bchWait ++ [(msg, args)] }

/-! ### Alarms (R423) -/

/-- The payload of an alarm parcel. -/
def State.alarmPayload (s : State) (e : Event) : List Byte :=
  bytesOf 2 e.code ++ bytesOf 1 (severity e.code) ++ bytesOf 1 s.position ++ bytesOf 4 e.ns ++ (e.args ++ List.replicate 8 0).take 8

/-- The alarm of an event goes toward the end `dest` if the port there is UP. -/
def State.alarmTo (s : State) (e : Event) (dest : Nat) : State :=
  let u := s.routeTo dest
  if s.portUp u then
    s.enqueue u { plane := 4, sub := 2, flow := mkFlow dest s.position 0 0, air := s.airStamp, payload := s.alarmPayload e }
  else s

/-- The ends an event's alarm goes to: both, but event 0x0402 to its former holder alone (R421, R581). -/
def Event.ends (e : Event) : List Nat :=
  match e.toOld with
  | some 0 => [5]
  | some 1 => [6]
  | some _ => []
  | none => [5, 6]

/-- An alarm parcel is sent, or dropped and counted within 1 ms of the last of its code (R423). -/
def State.sendAlarm (s : State) (e : Event) : State :=
  let soon := s.pkt.alarmAt.any fun (c, t) => c == e.code && decide (s.now - t < 983040)
  if soon then s.bump Reg.PKT_ALARM_DROP_CNT
  else if e.ends.any fun d => s.portUp (s.routeTo d) then
    let s := { s with pkt := { s.pkt with alarmAt := (e.code, s.now) :: s.pkt.alarmAt.filter fun (c, _) => c != e.code } }
    e.ends.foldl (fun s d => s.alarmTo e d) s
  else s

/-! ### The states of a port (R370, R371) -/

/-- The lane events of port `u` (R602). -/
def laneEvent (u : Nat) (k : Nat) : Nat := (2 + u) * 256 + k

/-- Port `u` takes state `c` (R370). A REMAP stands in ALIGN and UP alone, where lanes are replaced (R371, R384). -/
def State.toPort (s : State) (u : Fin 2) (c : Nat) : State :=
  let down := s.portUp u && c != 5
  let coded := c = 4 || c = 5
  (s.setFld (Reg.LN_TRAIN_STAT u) 31 28 c).setPort u fun p =>
    { p with
      since := s.now, downAt := if down then s.now else p.downAt
      remap := if coded then p.remap else none, waiting := if coded then p.waiting else [], txRemap := if coded then p.txRemap else none }

/-- Lanes named by a mask. -/
def maskCount (m : Nat) : Nat := (List.range 9).countP fun i => bitOf m i

/-- Roles of the lanes that a mask names: the lowest `w` are the logical lanes, the rest ballast or spares; a lane outside the
mask is unused (R378, R386). -/
def roleIn (m w l : Nat) : Nat :=
  if bitOf m l then
    let i := (List.range l).countP fun j => bitOf m j
    if i < w then i else 8
  else 0xF

/-- The width that a number of healthy lanes gives (R378). -/
def widthOf (n : Nat) : Nat := if 8 ≤ n then 8 else 4

/-- TETHER begins at an attempt: what training discovers is forgotten, the coefficients stand at their initial values (R371,
R374). -/
def State.beginTether (s : State) (u : Fin 2) (attempt : Nat) : State :=
  let s := (s.toPort u 1).setFld (Reg.LN_TRAIN_STAT u) 25 24 attempt
  let s := ((s.setFld (Reg.LN_TRAIN_STAT u) 19 12 0).setFld (Reg.LN_TRAIN_STAT u) 8 0 0).setBit (Reg.LN_CTRL u) 31 false
  let s := s.forLanes fun s l =>
    (s.wr (Reg.LN_LANE_RX u l) (putFld (putFld (s.rd (Reg.LN_LANE_RX u l)) 31 29 0) 27 24 0xF)).wr (Reg.LN_LANE_TX u l) 0x0F042F0C
  let s := (s.wr (Reg.LN_SLEEP_STAT u) 0).setBit (Reg.LN_TEST_CFG u) 31 false
  s.setPort u fun p =>
    { p with
      lanes := Vector.replicate 9 {}, txMask := 0, rxBlock := 0, whole := none, deskewed := 0, overflow := false, aligned := false
      readyGot := false, lost := false, remap := none, waiting := [], txRemap := none, test := none, bchWait := [], sets := []
      frameAt := s.now }

/-- The role of a transmit lane. -/
def State.txRole (s : State) (u : Nat) (l : Fin 9) : Nat := s.fld (Reg.LN_LANE_TX u l) 27 24

/-- The transmit lanes in use, the ballast and the spares (R378). -/
def State.txLanes (s : State) (u : Nat) : List (Fin 9) := (List.finRange 9).filter fun l => s.txRole u l != 0xF

/-- What lane `l` sends of a row of word sets: its word of each, or IDLE where there is none and on the ballast and the spares (R364, R378). -/
def State.laneWords (s : State) (u : Nat) (l : Fin 9) (sets : List (Option OutSet)) : List LaneWord :=
  sets.map fun x => match x with
    | some x => if s.txRole u l < 8 then x.word (s.txRole u l) else idleWord
    | none => idleWord

/-- The words of lane `l` on its line, from where its coder stands (R359, R360). -/
def State.codeLane (s : State) (u : Fin 2) (l : Fin 9) (sets : List (Option OutSet)) : LineOut :=
  ({ coder := ((s.port u).lanes[l]).tx } : LineOut).words (s.laneWords u l sets)

/-- Line bits of which those that lie in an odd number of the runs `fs` are inverted (R395). -/
def flipBits (fs : List (Nat × Nat)) (l : List Bool) : List Bool :=
  if fs = [] then l
  else l.zipIdx.map fun (b, i) => b != decide ((fs.countP fun (k, n) => decide (k ≤ i) && decide (i < k + n)) % 2 = 1)

/-- The runs of bits to invert that reach beyond the next `n` bits (R395). -/
def flipsAfter (n : Nat) (fs : List (Nat × Nat)) : List (Nat × Nat) :=
  (fs.map fun (k, m) => (k - n, m - (n - k))).filter fun x => x.2 != 0

/-- Bits go out on the line of transmit lane `l` (R395). -/
def State.putLine (s : State) (u : Fin 2) (l : Fin 9) (bits : List Bool) : State :=
  let fs := ((s.port u).lanes[l]).flips
  (s.emit (.line u l (flipBits fs bits))).setLane u l fun x => { x with flips := flipsAfter bits.length fs, lineAt := s.now }

/-- Line bits of coded words go out on lane `l`; its stuff bits are counted (R360, R361). -/
def State.sendLine (s : State) (u : Fin 2) (l : Fin 9) (o : LineOut) : State :=
  ((s.putLine u l o.bits.reverse).bumpBy (Reg.LN_LANE_STUFF_CNT u l) o.stuffed).setLane u l fun x => { x with tx := o.coder }

/-- Word sets go out on every lane that carries words (R364, R378). -/
def State.sendSets (s : State) (u : Fin 2) (sets : List (Option OutSet)) : State :=
  (s.txLanes u).foldl (fun s l => s.sendLine u l (s.codeLane u l sets)) s

/-- The payload of the MARKER of lane `l` for the present block (R363). -/
def State.markerBytes (s : State) (u : Fin 2) (l : Fin 9) : List Byte :=
  let bs := bytesOf 1 0x4B ++ bytesOf 1 (s.txRole u l * 16 + l) ++ bytesOf 4 (s.rd (Reg.LN_BLOCK u)).toNat ++ bytesOf 1 (s.txWidth u * 16)
  bs ++ bytesOf 1 (crc8 bs)

/-- The counted words of a block on every lane that carries words, and the SKIP words of each (R364, R365, R378). -/
def State.sendBlock (s : State) (u : Fin 2) (sets : List (Option OutSet)) : State :=
  let lines := (s.txLanes u).map fun l => (l, s.codeLane u l sets)
  let most := lines.foldl (fun m (_, o) => max m o.bits.length) 0
  lines.foldl (fun s (l, o) =>
    let skips := 1 + (most - o.bits.length) / 66
    (s.sendLine u l (o.words (List.replicate skips skipWord))).setLane u l fun x => { x with skips := skips }) s

/-- The MARKERs of the present block on every lane in use and on the ballast and spares (R363, R364, R378). -/
def State.sendMarkers (s : State) (u : Fin 2) : State :=
  (s.txLanes u).foldl (fun s l =>
    let bs := s.markerBytes u l
    let o := ({ coder := ((s.port u).lanes[l]).tx } : LineOut).word (controlWord bs) true
    ((s.sendLine u l o).emit (.marker u l ((s.port u).lanes[l]).skips bs)).setLane u l fun x => { x with skips := 0 }) s

/-- A sleeping direction wakes: the MARKERs of the next block are on every lane that carries words, and the messages that waited go out
(R390). -/
def State.wakeTx (s : State) (u : Fin 2) : State :=
  let s := (s.setFld (Reg.LN_SLEEP_STAT u) 5 4 0).wr (Reg.LN_BLOCK u) (s.rd (Reg.LN_BLOCK u) + 1)
  let s := s.sendMarkers u
  let waits := (s.port u).bchWait
  let s := s.setPort u fun p => { p with bchWait := [], idleSince := s.now }
  waits.foldl (fun s (m, a) => s.sendBch u m a) s

/-- The mask of the partner's transmit lanes that the receive lanes of mask `m` hear (R356, R378). -/
def State.physMask (s : State) (u : Fin 2) (m : Nat) : Nat :=
  (List.finRange 9).foldl (fun a (l : Fin 9) =>
    let k := ((s.port u).lanes[l]).phys
    if bitOf m l && !bitOf a k then a + 2 ^ k else a) 0

/-- ALIGN begins: the lanes are placed by the partner's last healthy mask, and block 0 starts (R364, R378). The receiver knows by the same rule
which roles its healthy lanes will have, and the MARKERs confirm them (DEDUCED). Both directions are awake. -/
def State.beginAlign (s : State) (u : Fin 2) : State :=
  let m := (s.port u).txMask
  let w := widthOf (maskCount m)
  let own := s.fld (Reg.LN_TRAIN_STAT u) 8 0
  let heard := s.physMask u own
  let role := fun (l : Fin 9) => if bitOf own l then roleIn heard (widthOf (maskCount own)) ((s.port u).lanes[l]).phys else 0xF
  let s := ((s.toPort u 4).setFld (Reg.LN_TRAIN_STAT u) 15 12 w).wr (Reg.LN_SLEEP_STAT u) 0
  let s := s.forLanes fun s l =>
    ((s.setFld (Reg.LN_LANE_TX u l) 27 24 (roleIn m w l)).setFld (Reg.LN_LANE_RX u l) 27 24 (role l)).setBit (Reg.LN_LANE_RX u l) 31 false
  let s := (s.wr (Reg.LN_BLOCK u) 0).setPort u fun p =>
    { p with
      aligned := false, readyGot := false, lost := false, remap := none, waiting := [], txRemap := none, rxBlock := 0
      whole := none, deskewed := 0, overflow := false, sets := []
      lanes := p.lanes.map fun x =>
        { x with marks := 0, block := 0, tx := {}, rx := {}, badWords := 0, missed := 0, lineAt := s.now, skips := 0 } }
  s.sendMarkers u

/-- The present attempt of port `u` fails: BACKOFF, or LISTEN after the third, with its event (R379, R380). -/
def State.failAttempt (s : State) (u : Fin 2) : State :=
  let ph := s.portState u
  let s := (s.setFld (Reg.LN_TRAIN_STAT u) 23 20 ph).bump (Reg.LN_TRAIN_FAIL_CNT u)
  if s.fld (Reg.LN_TRAIN_STAT u) 25 24 < 3 then s.toPort u 6
  else
    let s := ((s.toPort u 7).bump (Reg.LN_LISTEN_CNT u)).setPort u fun p => { p with beaconAt := s.now }
    (s.raise (laneEvent u 4) [(1, ph)]).bootAdvance

/-- EQUALISE is over with `own` the receive lanes that are healthy: ALIGN, or a failed attempt when either direction has
fewer than four (R378, R379). -/
def State.leaveEqualise (s : State) (u : Fin 2) (own : Nat) : State :=
  let s := s.setFld (Reg.LN_TRAIN_STAT u) 8 0 own
  if maskCount own < 4 ∨ maskCount (s.port u).txMask < 4 then s.failAttempt u else s.beginAlign u

/-- The parcel layer's side of a port that enters UP: sequences at 0, no credits held, every ingress buffer to be granted
(R398, R405). -/
def State.resetQueues (s : State) (u : Fin 2) : State :=
  s.forQueues fun s q =>
    (s.wr (Reg.PKT_CREDIT u q) 0).setQueue u q fun x =>
      { x with
        nextSeq := 0, kept := [], granted := 0, expect := 0, given := 0, nack := none,
        freed := s.fld (Reg.PKT_Q_CFG q) 31 16 }

/-- At the first UP of a port, the end in force of every carrier is its owning end (R417). -/
def State.firstOwners (s : State) : State :=
  if s.pkt.firstUp then s
  else
    let s := (List.range 4).foldl (fun s c => s.setFld (Reg.PKT_OWN c) 5 4 (s.fld (Reg.PKT_OWN c) 1 0)) s
    { s with pkt := { s.pkt with firstUp := true } }

/-- The alarm of a fallback that happened before any port was UP (R558). -/
def State.lateAlarm (s : State) : State :=
  match s.kpr.fallbackAlarm with
  | some e => { s with kpr := { s.kpr with fallbackAlarm := none } }.sendAlarm e
  | none => s

/-- Port `u` enters UP (R377, R398, R405, R417, R558, R564). -/
def State.enterUp (s : State) (u : Fin 2) : State :=
  let s := ((s.toPort u 5).resetQueues u).setPort u fun p => { p with idleSince := s.now }
  let s := s.raise (laneEvent u 5) [(1, s.fld (Reg.LN_TRAIN_STAT u) 19 16), (1, s.fld (Reg.LN_TRAIN_STAT u) 15 12)]
  s.firstOwners.lateAlarm.bootAdvance

/-- The parcel layer of a port that goes down: sequences, credits and copies are cleared, queues 2 to 4 are shed, the rest
waits (R410). -/
def State.dropQueues (s : State) (u : Fin 2) : State :=
  s.forQueues fun s q =>
    let x := (s.port u).queues[q]
    let shed := 2 ≤ q.val && q.val ≤ 4
    let s := if shed then s.bumpBy (Reg.PKT_SHED_CNT u q) x.wait.length else s
    (s.wr (Reg.PKT_CREDIT u q) 0).setQueue u q fun x =>
      { x with
        wait := if shed then [] else x.wait, nextSeq := 0, kept := [], granted := 0, expect := 0, given := 0, freed := 0,
        nack := none }

/-- Port `u` goes down for the cause numbered as R387 lists them and retrains from TETHER; on its own initiative the chip
sends RETRAIN before, for which a sleeping direction wakes (R382, R390). -/
def State.portDown (s : State) (u : Fin 2) (cause : Nat) (own : Bool) : State :=
  let s := if own then
      let s := (if s.txAwake u then s else s.wakeTx u).sendBch u 0x03 0
      s.sendSets u ((s.port u).sets.map some)
    else s
  let s := ((s.bump (Reg.LN_DOWN_CNT u)).raise (laneEvent u 3) [(1, cause)]).dropQueues u
  s.beginTether u 1

/-- A port that the image enables starts training (R357, R371). -/
def State.startPort (s : State) (u : Fin 2) : State := if s.portEn u then s.beginTether u 1 else s

/-- A port goes OFF (R371): its outputs and its domain are off. -/
def State.portOff (s : State) (u : Fin 2) : State := (s.dropQueues u).toPort u 0

end Sys2Proof.Machine
end

