-- ==== Sys2Proof/Machine/NetTime.lean ====
section
/-! DEFINITION. Chapter 12: the nanosecond counter (R433 to R438), PTP messages and their stamp records (R440 to R449), the air epoch
(R450 to R454), and the time quality (R456 to R458). -/

namespace Sys2Proof.Machine

/-! ### The counter (R433 to R438) -/

/-- What a tick adds, in 2^−32 ns, for the tick's number modulo 3 (R434). -/
def tickAdd (ns frac third m : Nat) : Nat :=
  ns * 2 ^ 32 + frac - (if third = 0 then 0 else if third = 1 then (if m = 0 then 1 else 0) else (if m = 1 then 0 else 1))

/-- The share code in force: 3 acts as 2 (R434). -/
def State.third (s : State) : Nat := min 2 (s.fld Reg.TIM_INCR_CTL 9 8)

/-- The counter now (R433). -/
def State.count (s : State) : Count :=
  { tick := s.now, tns := s.tns, ns := s.fld Reg.TIM_INCR_CTL 3 0, frac := s.tim.frac, third := s.third, no := s.tim.tickNo }

/-- The count that held at tick `t`: the present one, or the one right before the earliest change after `t`. -/
def countAt (t : Nat) (c : Count) : List Count → Count
  | x :: l => if t ≤ x.tick then countAt t x l else c
  | [] => c

/-- What the `n` ticks up to a count added (R434). -/
def Count.added (c : Count) (n : Nat) : Nat :=
  let less : Nat → Nat := fun r => (n + 2 - (c.no + 3 - r) % 3) / 3
  n * (c.ns * 2 ^ 32 + c.frac) - (if c.third = 0 then 0 else if c.third = 1 then less 0 else less 0 + less 2)

/-- The counter at an instant that is past, in 2^−16 ns (R437, R440): u32 nanoseconds and a u16 fraction. -/
def State.counterAt (s : State) (st : Stamp) : Nat :=
  let t := st.tick / 65536
  let c := countAt t s.count s.tim.history
  let part : Nat := st.tick % 65536 * (c.ns * 2 ^ 32 + c.frac) / 65536
  toBits 64 ((c.tns : Int) - c.added (c.tick - t) + part) / 65536

/-- What an eyelet of the present tick finds in force (R437, R441, R448). -/
def State.eyeletView (s : State) : EyeletView :=
  { gen := s.fld Reg.TIM_GEN 3 0, quality := s.quality, changed := s.bit Reg.TIM_QUAL 8,
    ing := Vector.ofFn fun u => s.sfld (Reg.TIM_ING_TRIM u) 31 0, egr := Vector.ofFn fun u => s.sfld (Reg.TIM_EGR_TRIM u) 31 0 }

/-- Views as far back as tick `t`: those after it, and the one that held at it. -/
def viewsSince (t : Nat) : List (Nat × EyeletView) → List (Nat × EyeletView)
  | [] => []
  | x :: l => if x.1 ≤ t then [x] else x :: viewsSince t l

/-- The end of a tick notes what an eyelet finds in force, where that has changed. -/
def State.noteView (s : State) : State :=
  let v := s.eyeletView
  if s.tim.views.head?.map (·.2) = some v then s
  else { s with tim := { s.tim with views := (s.now, v) :: viewsSince (s.now - 983040) s.tim.views } }

/-- What the eyelet at a stamp found in force; that of the present tick where nothing older is noted. -/
def State.viewAt (s : State) (st : Stamp) : EyeletView :=
  let t := st.tick / 65536
  if s.now ≤ t then s.eyeletView
  else match s.tim.views.find? fun x => decide (x.1 ≤ t) with
    | some x => x.2
    | none => s.eyeletView

/-- One tick of the timing clock (R433 to R437): a waiting increment applies first, then the counter advances and a waiting step is added. -/
def State.tick (s : State) : State :=
  let s := s.noteView
  let change := s.tim.incr.isSome || s.bit Reg.TIM_ADJ_CTL 0
  let recent := s.tim.history.filter fun c => s.now - c.tick < 983040
  let s := if change then { s with tim := { s.tim with history := s.count :: recent } } else s
  let s := { s with now := s.now + 1 }
  let s := match s.tim.incr with
    | some (n, f, t) =>
      let s := (s.setFld Reg.TIM_INCR_CTL 3 0 n).setFld Reg.TIM_INCR_CTL 9 8 t
      { s with tim := { s.tim with incr := none, frac := f, tickNo := 0 } }
    | none => s
  let m := (s.tim.tickNo + 1) % 3
  let step : Int := if s.bit Reg.TIM_ADJ_CTL 0
    then (s.sfld Reg.TIM_ADJ_NS 31 0 * 65536 + s.fld Reg.TIM_ADJ_FRAC 15 0) * 65536 else 0
  let add := tickAdd (s.fld Reg.TIM_INCR_CTL 3 0) s.tim.frac s.third m
  let s := { s with tns := toBits 64 (((s.tns + add : Nat) : Int) + step), tim := { s.tim with tickNo := m } }
  let s := s.setBit Reg.TIM_ADJ_CTL 0 false
  if change then s.setFld Reg.TIM_GEN 3 0 (s.fld Reg.TIM_GEN 3 0 + 1) else s

/-- The mean increment of three ticks lies within 1000 ppm of 3 × 3125/3072 ns (R435). -/
def incrAllowed (ns frac third : Nat) : Bool :=
  let x : Int := 3 * ((ns * 2 ^ 32 + frac : Nat) : Int) - (min 2 third : Nat)
  decide ((x - 3125 * 2 ^ 22).natAbs * 1000 ≤ 3125 * 2 ^ 22)

/-- A write of TIM_INCR_CTL (R435). -/
def State.writeIncr (s : State) (w : Word) : State :=
  let n := fldOf w 3 0
  let t := fldOf w 9 8
  let f := s.fld Reg.TIM_INCR_FRAC 31 0
  if incrAllowed n f t then
    { s.setBit Reg.TIM_INCR_CTL 31 false with tim := { s.tim with incr := some (n, f, t) } }
  else (s.setBit Reg.TIM_INCR_CTL 31 true).bump Reg.TIM_INCR_REFUSE_CNT

/-- TIM_INCR_WRITE (R435). -/
def execTimIncrWrite (w : Word) (s : State) : Res := .next (if s.writable then s.writeIncr w else s)

/-- TIM_ADJ_STEP: a write of go to TIM_ADJ_CTL; the next tick adds the step (R436). -/
def execTimAdjStep (s : State) : Res := .next (if s.writable then s.setBit Reg.TIM_ADJ_CTL 0 true else s)

/-- A read of TIM_NS latches the fraction (R438). -/
def State.latchFrac (s : State) : State := s.wr Reg.TIM_NS_FRAC (BitVec.ofNat 32 (s.tns % 2 ^ 32))

/-- TIM_NS_READ (R438). -/
def execTimNsRead (s : State) : Res := .next s.latchFrac

/-! ### Time quality (R456 to R458) -/

/-- A write of valid to TIM_QUAL (R456, R458). -/
def State.writeValid (s : State) : State :=
  if (s.quality = 0 ∧ s.aligned = true) ∨ (s.quality = 2 ∧ s.bit Reg.TIM_QUAL 9 = false) then
    (s.setBit Reg.TIM_QUAL 8 false).setQuality 1
  else s.bump Reg.TIM_ACK_REFUSE_CNT

/-- TIME_VALID_WRITE (R458). -/
def execTimeValidWrite (s : State) : Res := .next (if s.writable then s.writeValid else s)

/-- A consumed Sync on port `u` with its ingress stamp: the time port, and a path change when it moves (R457). -/
def State.syncConsumed (s : State) (u : Fin 2) (ns48 : Nat) : State :=
  let known := s.bit Reg.TIM_QUAL 5
  let moved := known && s.fld Reg.TIM_QUAL 4 4 != u.val
  let s := (s.setBit Reg.TIM_QUAL 5 true).setFld Reg.TIM_QUAL 4 4 u
  if moved then
    ((s.setBit Reg.TIM_QUAL 8 true).bump Reg.TIM_PATH_CHANGE_CNT).raise 0x0101 [(1, u), (6, ns48)] |>.degrade
  else s

/-! ### PTP messages (R440 to R449) -/

/-- A port's constants in 2^−16 ns (R440, R441, R446): its trims as the eyelet at a stamp found them. -/
def State.ingTrim (s : State) (u : Fin 2) (st : Stamp) : Int := (s.viewAt st).ing[u]
def State.egrTrim (s : State) (u : Fin 2) (st : Stamp) : Int := (s.viewAt st).egr[u]
def State.linkAsym (s : State) (u : Fin 2) : Int := s.sfld (Reg.TIM_LINK_ASYM u) 31 0

/-- A stamp moved by a trim, as 48 bits (R440). -/
def State.stamp48 (s : State) (st : Stamp) (trim : Int) : Nat := toBits 48 ((s.counterAt st : Int) + trim)

/-- The messageType and the fields of a PTP message. -/
def ptpType (bs : List Byte) : Nat := byteAt bs 0 % 16
def ptpTwoStep (bs : List Byte) : Bool := bitOf (byteAt bs 6) 1
def ptpKey (bs : List Byte) : List Byte := (bs.drop 4).take 1 ++ (bs.drop 20).take 12

/-- The correctionField of a message gains `x`. -/
def ptpCorrect (bs : List Byte) (x : Int) : List Byte :=
  putBytes bs 8 (bytesOf 8 (toBits 64 (signedOf 64 (fieldAt bs 8 8) + x)))

/-- How a message is handled (R444): 0 as the table's rows say, 1 a peer-delay message, 2 any other or another version. -/
def ptpClass (bs : List Byte) : Nat :=
  if byteAt bs 1 % 16 ≠ 2 then 2
  else match ptpType bs with
    | 0 | 1 | 8 | 9 | 0xB | 0xC | 0xD => 0
    | 2 | 3 | 0xA => 1
    | _ => 2

/-- A stamp record (R448): the next of the ring, with path_changed, the quality and TIM_GEN as the eyelet at the stamp found them. -/
def State.stampRecord (s : State) (kind : Nat) (u : Fin 2) (v : EyeletView) (ns48 : Nat) (msg : List Byte) : State :=
  let r := s.fld Reg.TIM_STAMP_PTR 15 0
  let b1 := u.val * 128 + v.changed.toNat * 64 + v.quality * 16 + v.gen
  let bs := bytesOf 1 (kind * 16 + ptpType msg) ++ bytesOf 1 b1 ++ bytesOf 2 r ++ bytesOf 2 (fieldAt msg 30 2)
    ++ bytesOf 6 ns48 ++ bytesOf 4 0 ++ (msg ++ List.replicate 64 0).take 64
  let s := (List.zip (List.range 20) (wordsOf 20 bs)).foldl (fun s (i, w) => s.wr (Reg.TIM_STAMP_RING (r % 256) i) w) s
  s.setFld Reg.TIM_STAMP_PTR 15 0 (r + 1)

/-- A PTP message that the chip consumes from port `u` (R444, R446, R448, R457); an unsupported one goes, counted as it came in. -/
def State.ptpConsume (s : State) (u : Fin 2) (st : Stamp) (bs : List Byte) : State :=
  if ptpClass bs ≠ 0 then s
  else
    let v := s.viewAt st
    let ns48 := s.stamp48 st v.ing[u]
    let s := if ptpType bs = 0 then s.syncConsumed u ns48 else s
    let gains := (ptpType bs = 0 && !ptpTwoStep bs) || ptpType bs = 8
    s.stampRecord 0 u v ns48 (if gains then ptpCorrect bs (s.linkAsym u) else bs)

/-- A forwarded message is kept from the line (R444). -/
def ptpDropped (bs : List Byte) : Bool := ptpClass bs == 1

/-- The residence of a message in 2^−16 ns: the difference of its tick counts scaled by the mean increment in force, and the trims of
both eyelets (R440, R441, R445). -/
def State.residence (s : State) (v : Fin 2) (ing egr : Stamp) (trim : Int) : Int :=
  let x : Int := 3 * ((s.fld Reg.TIM_INCR_CTL 3 0 * 2 ^ 32 + s.tim.frac : Nat) : Int) - s.third
  roundDiv (((egr.tick : Int) - ing.tick) * x) (3 * 2 ^ 32) + s.egrTrim v egr - trim

/-- A forwarded message as it leaves on port `v`, having come in on port `u` with the ingress trim `trim` (R444 to R447). -/
def State.ptpForward (s : State) (u v : Fin 2) (ing egr : Stamp) (trim : Int) (bs : List Byte) : List Byte × State :=
  if ptpClass bs ≠ 0 then (bs, s)
  else
    let res := s.residence v ing egr trim
    let count := fun s : State => s.bump (Reg.TIM_TC_CNT v)
    match ptpType bs with
    | 0 =>
      if ptpTwoStep bs then
        let e : Pend := { key := ptpKey bs, add := res + s.linkAsym u, at_ := s.now }
        let l := s.tim.pend ++ [e]
        (bs, { s with tim := { s.tim with pend := if 16 < l.length then l.drop 1 else l } })
      else (ptpCorrect bs (res + s.linkAsym u), count s)
    | 1 => (ptpCorrect bs (res - s.linkAsym v), count s)
    | 8 =>
      match s.tim.pend.find? fun e => e.key == ptpKey bs && !msPassed (s.now - e.at_) 10 with
      | some e => (ptpCorrect bs e.add, count { s with tim := { s.tim with pend := s.tim.pend.erase e } })
      | none => (bs, s.bump (Reg.TIM_FU_MISS_CNT u))
    | _ => (bs, s)

/-- PENDING_ENTRY_EXPIRE: entries whose Sync left 10 ms ago go (R447). -/
def execPendingEntryExpire (s : State) : Res :=
  .next { s with tim := { s.tim with pend := s.tim.pend.filter fun e => !msPassed (s.now - e.at_) 10 } }

/-- The Delay_Req that the chip sends on port `u` (R449). -/
def State.delayReq (s : State) (u : Fin 2) (seq : Nat) : List Byte :=
  bytesOf 1 0x01 ++ bytesOf 1 0x12 ++ bytesOf 2 44 ++ bytesOf 1 (s.fld Reg.TIM_DREQ_PORT 31 24) ++ bytesOf 3 0
    ++ bytesOf 8 (toBits 64 (-(s.linkAsym u))) ++ bytesOf 4 0
    ++ bytesOf 4 (s.rd Reg.TIM_DREQ_ID_HI).toNat ++ bytesOf 4 (s.rd Reg.TIM_DREQ_ID_LO).toNat
    ++ bytesOf 2 (s.fld Reg.TIM_DREQ_PORT 15 0) ++ bytesOf 2 seq ++ bytesOf 1 0x01 ++ bytesOf 1 0x7F ++ bytesOf 10 0

/-- A write of TIM_DREQ_CTL (R449): with go, a Delay_Req joins queue 0 of the port toward the end, or the write is refused. -/
def State.writeDreq (s : State) (w : Word) : State :=
  let s := (s.setFld Reg.TIM_DREQ_CTL 24 24 (fldOf w 24 24)).setFld Reg.TIM_DREQ_CTL 15 0 (fldOf w 15 0)
  if fldOf w 31 31 = 1 then
    let dest := 5 + fldOf w 24 24
    let u := s.routeTo dest
    if s.portUp u then
      let s := (s.setBit Reg.TIM_DREQ_CTL 31 true).setBit Reg.TIM_DREQ_CTL 30 false
      s.enqueue u { plane := 3, sub := 0, flow := mkFlow dest s.position 0 0, air := s.airStamp,
                    payload := s.delayReq u (fldOf w 15 0), dreq := true }
    else (s.setBit Reg.TIM_DREQ_CTL 31 false).setBit Reg.TIM_DREQ_CTL 30 true
  else s

/-- DELAY_REQ_SEND: a write of TIM_DREQ_CTL (R449). -/
def execDelayReqSend (w : Word) (s : State) : Res := .next (if s.writable then s.writeDreq w else s)

/-! ### The air epoch (R450 to R454) -/

/-- A write of arm to TIM_EPOCH_CTRL (R450, R451). DEDUCED: a refused arm leaves an earlier accepted one as it is. -/
def State.armEpoch (s : State) : State :=
  let e := s.fld Reg.TIM_EPOCH_NS 31 0
  let d := (e + 2 ^ 32 - s.ns) % 2 ^ 32
  if s.mode = .ready ∧ d ≤ 2000000000 then
    let s := ((s.setBit Reg.TIM_EPOCH_CTRL 31 true).setBit Reg.TIM_EPOCH_CTRL 30 false).setBit Reg.SYN_ALIGN 0 false
    { s with tim := { s.tim with epochNs := e, epochSfn := s.fld Reg.TIM_EPOCH_SFN 9 0, epochD := d, fired := false } }
  else
    (s.setBit Reg.TIM_EPOCH_CTRL 30 true).alignRefused d

/-- EPOCH_ARM (R450). -/
def execEpochArm (s : State) : Res := .next (if s.writable then s.armEpoch else s)

/-- EPOCH_COMPARE_FIRE: an armed compare fires once the counter has reached the epoch (R450). -/
def execEpochCompareFire (s : State) : Res :=
  .next (if s.bit Reg.TIM_EPOCH_CTRL 31 && decide ((s.ns + 2 ^ 32 - s.tim.epochNs) % 2 ^ 32 < 2 ^ 31) then
      { s.setBit Reg.TIM_EPOCH_CTRL 31 false with tim := { s.tim with fired := true, firedAt := s.now } }
    else s)

/-- The frame-edge error now, in 2^−32 ns as a signed 64-bit value: the counter against the reference and the frames since the
alignment edge (R453). -/
def State.edgeError (s : State) (k : Nat) : Int :=
  signedOf 64 (toBits 64 ((s.tns : Int) - s.tim.ref - k * 10000000 * 2 ^ 32))

/-- A frame-edge measurement (R453, R454). -/
def State.measureEdge (s : State) (k sfn : Nat) : State :=
  let e := s.edgeError k
  let err := satInt (-(2 ^ 31)) (2 ^ 31 - 1) (roundDiv e (2 ^ 24))
  let s := (s.wr Reg.TIM_EDGE_ERR (BitVec.ofNat 32 (toBits 32 err))).wr Reg.TIM_EDGE_STAT (BitVec.ofNat 32 (0x80000000 + sfn % 1024))
  if s.fld Reg.TIM_EDGE_CFG 15 0 * 2 ^ 32 < e.natAbs * 10 then
    let first := !s.bit Reg.TIM_QUAL 9
    let s := (s.bump Reg.TIM_EDGE_ALARM_CNT).setBit Reg.TIM_QUAL 9 true
    let s := if first then s.raise 0x0102 [(4, toBits 32 err), (2, sfn)] else s
    s.degrade
  else s.setBit Reg.TIM_QUAL 9 false

/-- The timeline is placed at this edge by source `src` (0 the epoch compare, 1 ALIGN_IN), with the frame `sfn` and the frame-edge
reference `ref` (R122, R452, R453). -/
def State.placeAir (s : State) (src sfn ref : Nat) : State :=
  let s := { s with air := { s.air with origin := some (s.now, sfn) }, tim := { s.tim with ref := ref, fired := false },
                    clk := { s.clk with dividersAligned := true } }
  let s := (s.wr Reg.TIM_EPOCH_CAP (BitVec.ofNat 32 s.ns)).bump Reg.TIM_ALIGN_CNT
  let s := (s.setBit Reg.TIM_EPOCH_CTRL 29 true).setFld Reg.TIM_EPOCH_CTRL 0 0 src
  let s := s.raise 0x0105 [(4, s.ns), (2, sfn), (1, src)]
  s.measureEdge 0 sfn

/-- ALIGNMENT_EDGE: the REFCLK edge strictly after the tick at which the compare fired, or the edge that samples ALIGN_IN high: it is taken where the `low` edges
right before it sampled it low and two of them, four ticks apart, follow the arm (R122, R123, R450 to R453). -/
def execAlignmentEdge (low : Nat) (s : State) : Res :=
  .next (if s.mode ≠ .ready then s
    else if s.tim.fired then if s.now ≤ s.tim.firedAt then s else s.placeAir 0 s.tim.epochSfn (s.tim.epochNs * 2 ^ 32)
    else if s.bit Reg.SYN_ALIGN 0 && decide (2 ≤ low) && decide (s.tim.armAt + 8 < s.now) then
      (((s.setBit Reg.SYN_ALIGN 0 false).setBit Reg.SYN_ALIGN 4 true).bump Reg.SYN_ALIGN_CNT).placeAir 1 s.tim.alignSfn s.tns
    else s)

end Sys2Proof.Machine
end

