-- ==== Sys2Proof/Machine/Paths.lean ====
section
/-! DEFINITION. Chapter 02: attenuation, gain control, the ADC slices, the observation crossbar under management, and
retirement and reinstatement of the sides of the paths. -/

namespace Sys2Proof.Machine

/-! ### The correction stages as arithmetic (R63, R77) -/

/-- One part of the transmit correction stage after its sum: rounding to DAC LSB, offset and saturation (R63). The flag
says whether the part saturated. -/
def txCorrected (acc dc : Int) : Int × Bool :=
  let v := roundDiv acc 131072 + dc
  (satInt (-8192) 8191 v, v < -8192 || 8191 < v)

/-- The sums of R63 and R77 over the conjugate taps: `x` holds the four newest samples, newest first, and `c` the taps. -/
def conjTaps (x c : List (Int × Int)) : Int × Int :=
  let x0 := x.headD (0, 0)
  (List.zip x c).foldl (fun (re, im) ((xr, xi), (cr, ci)) => (re + cr * xr + ci * xi, im + ci * xr - cr * xi))
    (x0.1 * 32768, x0.2 * 32768)

/-- One transmit sample through the correction stage: the two DAC codes and whether the sample is counted as saturated
(R63). -/
def txSample (x c : List (Int × Int)) (dcI dcQ : Int) : (Int × Int) × Bool :=
  let (re, im) := conjTaps x c
  let (i, si) := txCorrected re dcI
  let (q, sq) := txCorrected im dcQ
  ((i, q), si || sq)

/-- One receive sample up to the rotation: offsets removed, taps applied, saturated to s14 (R77). -/
def rxSample (a c : List (Int × Int)) (dcI dcQ : Int) : Int × Int :=
  let (re, im) := conjTaps (a.map fun (i, q) => (i - dcI, q - dcQ)) c
  (satInt (-8192) 8191 (roundDiv re 32768), satInt (-8192) 8191 (roundDiv im 32768))

/-- The step-table gain on a rotated part in units of 2^−48 (R77). -/
def rxScale (w : Int) (g : Nat) : Int := satInt (-524288) 524287 (roundDiv (w * g) (1024 * 2 ^ 48))

/-! ### Attenuation (R68, R69) -/

/-- A write of TXP_ATTEN: in SERVICE and LEAN it waits for the quad's next RX→TX welt, in the other modes it takes effect
(R69). -/
def State.writeAtten (s : State) (p : Fin 64) (w : Word) : State :=
  let s := s.setFld (Reg.TXP_ATTEN p) 6 0 (fldOf w 6 0)
  if s.mode.live then s.setBit (Reg.TXP_ATTEN p) 31 true else s.applyAtten p

/-- ATTEN_WRITE (R68, R69). -/
def execAttenWrite (p : Fin 64) (w : Word) (s : State) : Res := .next (if s.writable then s.writeAtten p w else s)

/-! ### Gain control (R78 to R84) -/

/-- The gain mode in force: 0 slot-edge, 1 fixed, 2 kite; 3 acts as 1 (R78). -/
def PathSt.agcMode (x : PathSt) : Nat := if fldOf x.agcCfg 17 16 = 3 then 1 else fldOf x.agcCfg 17 16

/-- The index of path `p` freezes or leaves its frozen state, at this tick (R83). -/
def State.setFrozen (s : State) (p : Fin 64) (b : Bool) : State :=
  let was := s.bit (Reg.RXP_AGC_STAT p) 16
  let s := s.setBit (Reg.RXP_AGC_STAT p) 16 b
  if was = b then s else s.setPath p fun x => if b then { x with frozeAt := s.now } else { x with thawAt := s.now }

/-- The index of path `p` was frozen at tick `t`, which no later freeze follows (R84). -/
def State.frozenAt (s : State) (p : Fin 64) (t : Nat) : Bool :=
  decide ((s.paths[p]).frozeAt ≤ t) && (s.bit (Reg.RXP_AGC_STAT p) 16 || decide (t < (s.paths[p]).thawAt))

/-- The index of a path, set; in a listen interval the change is kept (R476). -/
def State.setIndex (s : State) (p : Fin 64) (i : Nat) : State :=
  let j := s.fld (Reg.RXP_AGC_STAT p) 12 8
  let s := if s.kte.listen.isSome && j != i % 32 then { s with kte := { s.kte with steps := (p.val, s.now, j) :: s.kte.steps } } else s
  s.setFld (Reg.RXP_AGC_STAT p) 12 8 i

/-- Arming of path `p`: the settings written since the last arming take effect, and the index is start_idx, or fixed_idx
in fixed mode (R78, R79, R80). Settings written while the quad is gated too take effect at the next arming (R79), and nothing of them at
the power-up itself, of which R59 speaks (DEDUCED: the first arming after it is where an AGC setting first acts). -/
def State.armAgc (s : State) (p : Fin 64) : State :=
  let cfg := s.rd (Reg.RXP_AGC_CFG p)
  let thr := s.rd Reg.RXP_AGC_THR
  let s := s.setPath p fun x => { x with agcCfg := cfg, agcThr := thr, agcArmed := true, agcWin := 0, agcMoved := false }
  let i := if (s.paths[p]).agcMode = 1 then fldOf cfg 4 0 else fldOf cfg 12 8
  (s.setIndex p i).setFrozen p false

/-- The windows of the first U symbol: 10 when it is symbol 0 of a slot, else 8 (R81). -/
def agcWindows (a : AirSym) : Nat := if a.sym.val = 0 then 10 else 8

/-- The peak of a window, max(|I|, |Q|) in ADC LSB (R81). -/
def peakOf (adc : List Adc) : Nat := adc.foldl (fun m x => max m (max x.1.toInt.natAbs x.2.toInt.natAbs)) 0

/-- A peak reaches a threshold in half dBFS, of which 0 dBFS is 8191 LSB (R60, R81). -/
def peakAtLeast (pk : Nat) (thr : Int) : Bool := decide (8191 * tenth (50 * thr) ≤ (pk : Rat))

/-- The index after a window with peak `pk` (R81). step_dn counts 2 dB units and step_up 1 dB units. -/
def agcNext (thr : Word) (i pk : Nat) : Nat :=
  if peakAtLeast pk (signedOf 8 (fldOf thr 7 0)) then min 31 (i + 2 * fldOf thr 31 28)
  else if !peakAtLeast pk (signedOf 8 (fldOf thr 15 8)) then i - fldOf thr 27 24
  else i

/-- A peak is reported in half dBFS (R83). Below the range of the field, −64 dBFS, the spec states no report: a free value. -/
def State.showPeak (s : State) (p : Fin 64) (pk : Nat) : State :=
  let v := logSteps 50 (mkRat (pk * pk : Nat) (8191 * 8191))
  if -128 ≤ v then s.setFld (Reg.RXP_AGC_STAT p) 7 0 (toBits 8 v)
  else (s.freeNat.2).setFld (Reg.RXP_AGC_STAT p) 7 0 s.freeNat.1

/-- The index of path `p` steps at the end of a window with peak `pk` (R81). -/
def State.agcStep (s : State) (p : Fin 64) (pk : Nat) : State :=
  let i := s.fld (Reg.RXP_AGC_STAT p) 12 8
  let j := agcNext (s.paths[p]).agcThr i pk
  (s.setIndex p j).setPath p fun x => { x with agcMoved := j != i }

/-- The end of one AGC window of path `p` in the first U symbol `a` (R81, R83): the index steps in slot-edge control, and
the peak of the last window is reported. Under kite control it steps while it is not frozen (R475). `adc` are the window's samples, of
which those within 64 of an index change are left out. -/
def State.agcWindow (s : State) (p : Fin 64) (a : AirSym) (adc : List Adc) : State :=
  let x := s.paths[p]
  let pk := peakOf (if x.agcMoved then adc.drop 64 else adc)
  if s.kte.listen.isSome && x.agcMode = 2 then if s.bit (Reg.RXP_AGC_STAT p) 16 then s.setPath p fun x => { x with agcMoved := false } else s.agcStep p pk
  else if x.agcArmed && decide (x.agcWin < agcWindows a) then
    let s := if x.agcMode = 1 then s else s.agcStep p pk
    let s := s.setPath p fun x => { x with agcWin := x.agcWin + 1 }
    if x.agcWin + 1 = agcWindows a then s.showPeak p pk else s
  else s

/-- The freeze of every armed path at the FFT window start of the first U symbol (R39, R83). -/
def State.freezeAgc (s : State) : State :=
  s.forPaths fun s p =>
    if (s.paths[p]).agcArmed then
      (s.setFrozen p true).setPath p fun x => { x with agcArmed := false }
    else s

/-! ### ADC slices (R72 to R76) -/

/-- The ballast slice of path `p` can take over: unused and not bad (R73, R75). -/
def State.ballastUsable (s : State) (p : Fin 64) : Bool :=
  !s.bit (Reg.RXP_SLICE p) 31 && !s.bit (Reg.RXP_SLICE p) 30

/-- Slice `k` (8 the ballast slice) of path `p` is in the interleave (R73). -/
def State.sliceInUse (s : State) (p : Fin 64) (k : Fin 9) : Bool :=
  if k.val = 8 then s.bit (Reg.RXP_SLICE p) 31
  else !(s.bit (Reg.RXP_SLICE p) 31 && s.fld (Reg.RXP_SLICE p) 3 0 = k.val)

/-- One check of slice `k` of path `p` (R72): eight failures in a row declare a slice in use failed, and then the ballast
slice is to take over or, with none usable, the receive side is retired with cause SLICE (R76). An unused ballast slice
that fails is marked bad (R75). -/
def State.checkSlice (s : State) (p : Fin 64) (k : Fin 9) (fails : Bool) : State :=
  if s.sliceInUse p k then
    let n := if fails then (s.paths[p]).sliceFails[k] + 1 else 0
    let s := s.setPath p fun x => { x with sliceFails := upd x.sliceFails k fun _ => n }
    if n = 8 then
      if s.ballastUsable p && (s.paths[p]).sliceDue.isNone then s.setPath p fun x => { x with sliceDue := some k }
      else s.retireRx p 4
    else s
  else if k.val = 8 && fails && !s.bit (Reg.RXP_SLICE p) 30 then
    (s.setBit (Reg.RXP_SLICE p) 30 true).raise 0x0A04 [(1, p)]
  else s

/-- SLICE_CHECK: the check of the 16 µs period just ended, with the mask of the slices that fail it (R72, R75, R76). -/
def execSliceCheck (p : Fin 64) (fails : BitVec 9) (s : State) : Res :=
  .next ((List.finRange 9).foldl (fun s k => s.checkSlice p k (bitOf fails.toNat k)) s)

/-- SLICE_SWAP: the ballast slice takes the failed slice's place at the sample where it is ready; with the ballast gone bad
in the meantime the receive side is retired (R73, R74, R75, R76). -/
def execSliceSwap (p : Fin 64) (s : State) : Res :=
  .next (match (s.paths[p]).sliceDue with
    | none => s
    | some k =>
      let s := s.setPath p fun x => { x with sliceDue := none }
      if s.ballastUsable p then
        let s := (s.setBit (Reg.RXP_SLICE p) 31 true).setFld (Reg.RXP_SLICE p) 3 0 k
        (s.bump (Reg.RXP_SLICE_SWAP_CNT p)).raise 0x0A03 [(1, p), (1, k)]
      else s.retireRx p 4)

/-! ### The crossbar under management (R91 to R93) -/

/-- Source `src` is routed to a receiver other than `k` (R91). -/
def State.sourceTaken (s : State) (k src : Nat) : Bool :=
  src != 0x7F && (List.range 9).any fun j => j != k && s.fld (Reg.RXP_OBS_ROUTE j) 22 16 = src

/-- A management write of RXP_OBS_ROUTE is a capture request: granted only when the receiver is free and its source is
not routed elsewhere, otherwise refused and counted (R92). The flag says whether it was refused. The spec does not say what a request does
whose code names no input (66 to 127): the model grants it like another, and 0x7F is routed to any number of receivers. -/
def State.writeObsRoute (s : State) (k : Fin 9) (w : Word) : State × Bool :=
  if s.obsFree k && !s.sourceTaken k (fldOf w 22 16) then
    ((s.obsRoute k (fldOf w 22 16) (fldOf w 12 8) 3).setBit (Reg.RXP_OBS_ROUTE k) 31 true, false)
  else (s.bump (Reg.RXP_OBS_REFUSE_CNT k), true)

/-- OBS_ROUTE_WRITE (R91, R92). -/
def execObsRouteWrite (k : Fin 9) (w : Word) (s : State) : Res :=
  .next (if s.writable then (s.writeObsRoute k w).1 else s)

/-! ### Retirement by command and reinstatement (R97, R101, R103) -/

/-- The path that bit `j` of a LO or HI register names. -/
def pathOfBit (hi : Bool) (j : Fin 32) : Fin 64 := ⟨if hi then 32 + j.val else j.val, by split <;> omega⟩

/-- An action on each path that a written LO or HI mask names. -/
def State.forNamed (s : State) (hi : Bool) (w : Word) (f : State → Fin 64 → State) : State :=
  (List.finRange 32).foldl (fun s (j : Fin 32) => if bitOf w.toNat j then f s (pathOfBit hi j) else s) s

/-- TX_RETIRE_CMD: a write of TXP_RETIRE_CMD_LO or _HI retires the named transmit sides with cause HOST (R97, R98). -/
def execTxRetireCmd (hi : Bool) (w : Word) (s : State) : Res :=
  .next (if s.writable then s.forNamed hi w fun s p => s.retireTx p 5 else s)

/-- RX_RETIRE_CMD: a write of RXP_RETIRE_CMD_LO or _HI retires the named receive sides with cause HOST (R97, R99). -/
def execRxRetireCmd (hi : Bool) (w : Word) (s : State) : Res :=
  .next (if s.writable then s.forNamed hi w fun s p => s.retireRx p 5 else s)

/-- The reinstatement of a named transmit side: in READY with its most recent calibration since boot within limits;
otherwise refused and counted; a live side is left as it is (R103). -/
def State.reinstateTx (s : State) (p : Fin 64) : State :=
  if s.txRetired p then
    if s.mode = .ready ∧ (s.paths[p]).txCal = some true then
      let s := (s.wr (Reg.TXP_RETIRE p) 0).setLive Reg.TXP_LIVE_LO Reg.TXP_LIVE_HI p true
      let s := s.setPath p fun x => { x with txSince := s.now }
      (s.setDpd p fun d => { d with trips := [] }).raise 0x0902 [(1, p)]
    else s.bump Reg.TXP_REFUSE_CNT
  else s

/-- The reinstatement of a named receive side (R103). -/
def State.reinstateRx (s : State) (p : Fin 64) : State :=
  if s.rxRetired p then
    if s.mode = .ready ∧ (s.paths[p]).rxCal = some true then
      let s := (s.wr (Reg.RXP_RETIRE p) 0).setLive Reg.RXP_LIVE_LO Reg.RXP_LIVE_HI p true
      (s.setPath p fun x => { x with rxSince := s.now }).raise 0x0A02 [(1, p)]
    else s.bump Reg.RXP_REFUSE_CNT
  else s

/-- TX_REINSTATE: a write of TXP_REINSTATE_LO or _HI (R103). -/
def execTxReinstate (hi : Bool) (w : Word) (s : State) : Res :=
  .next (if s.writable then s.forNamed hi w fun s p => s.reinstateTx p else s)

/-- RX_REINSTATE: a write of RXP_REINSTATE_LO or _HI (R103). -/
def execRxReinstate (hi : Bool) (w : Word) (s : State) : Res :=
  .next (if s.writable then s.forNamed hi w fun s p => s.reinstateRx p else s)

end Sys2Proof.Machine
end

