-- ==== Sys2Proof/WellFormed.lean ====
section
/-! DEFINITION. When the operands of a command are operands that the part can meet. Their types hold most of it: a number in its field,
a table of its length. What remains is said here. The machine takes every operand, so that no data end a run: a sample past the end of a
list that is too short counts as 0, and one past its proper end is not looked at. -/

namespace Sys2Proof

/-- The operands are of the form that the spec gives them: samples for 64 paths (R152), the 16 384 samples of a capture (R293), a DRAM write
of as many bytes as it says (R496), and words on the lanes in use, of which a direction has at least 4 (R366, R378). -/
def Instr.wellFormed : Instr → Bool
  | .fftComplete _ adc => adc.length == 64
  | .dpdCaptureEnd _ o => o.length == 16384
  | .dramRequest _ l _ => l.all fun x => decide (0 < x.n) && (match x.data with | some bs => bs.length == x.n | none => true)
  | .parcelReceive _ lanes _ _ => decide (4 ≤ lanes.toList.countP fun x => x != [])
  | _ => true

/-- The two halves of a c16 coefficient (R282). -/
def coeffRe (w : Word) : Int := (w.extractLsb' 16 16).toInt
def coeffIm (w : Word) : Int := (w.extractLsb' 0 16).toInt

/-- The bank's response to a constant input of magnitude 1024, the sum of entry 2 of every table, is 16384 + j0 to within
1 LSB (R288). Word 65m + k holds entry k of table m. -/
def unitGain (lut : Vector Word 520) : Bool :=
  let at2 := (List.range 8).map fun m => lut.toList.getD (65 * m + 2) 0
  let re := (at2.map coeffRe).foldl (· + ·) 0
  let im := (at2.map coeffIm).foldl (· + ·) 0
  decide ((re - 16384).natAbs ≤ 1) && decide (im.natAbs ≤ 1)

end Sys2Proof
end

