-- ==== Sys2Proof/Machine/TxChain.lean ====
section
/-! DEFINITION. The transmit chain from the antenna values of a symbol to the DAC codes: transform and CP (R142, R148, R149, R164, R165),
upconversion and carrier sum (R153 to R155), crest-factor reduction (R156 to R159), trims and interpolation (R160), the pre-distorter
(R280 to R287), and the correction stage with its gate (R62 to R64). Sample numbers count from a symbol's first CP sample. -/

namespace Sys2Proof.Machine

/-! ### The symbol engine (R142, R148, R149, R164, R165) -/

/-- The values of `n` subcarriers by bin: subcarrier k lies in bin (k − n/2) mod 4096, and the other bins are zero (R142, R465). -/
def toBins (n : Nat) (x : Samples) : Samples :=
  if x = [] then []
  else
    let a := x.toArray
    (List.range 4096).map fun b =>
      let k := (b + n / 2) % 4096
      if k < n then sampleAt a k else (0, 0)

/-- The values of `n` subcarriers from the bins; the others are discarded (R142, R465). -/
def fromBins (n : Nat) (x : Samples) : Samples :=
  if x = [] then []
  else
    let a := x.toArray
    (List.range n).map fun k => sampleAt a ((k + 4096 - n / 2) % 4096 : Nat)

/-- The c18 samples of a symbol, CP first, from the values of its `n` subcarriers on one path, with N0 = `n0`; and the number of saturated
iFFT samples (R147, R148, R149, R165). DESIGN CHOICE: the rotated value enters the iFFT unrounded, since R146 names c16 for the beam matrix
output and no format behind the rotation; and the bound of 0.01° of R165, which follows its sentence on the uplink, is taken for both rotations. -/
def symbolSamples (a : AirSym) (n0 n : Nat) (x : Samples) : Samples × Nat :=
  let r := rotor (-(rotAngle n0 (bodyStart a) : Int))
  let (body, sat) := toFormat 18 102 (transform true 48 (toBins n (x.map fun v => cmul v r)))
  (body.drop (4096 - cpLen a.sym) ++ body, sat)

/-- The LO code and the offsets in force at tick `t` (R144, R145). -/
def State.tuneAt (s : State) (t : Nat) : Nat × Vector Int 4 :=
  match s.dfe.was with
  | some (b, x) => if t < b then x else (s.fld Reg.SYN_LO 17 0, s.dfe.offset)
  | none => (s.fld Reg.SYN_LO 17 0, s.dfe.offset)

/-- N0 of carrier `c` at tick `t` (R140). -/
def State.n0At (s : State) (c : Fin 4) (t : Nat) : Nat := (6 * ((s.tuneAt t).1 : Int) + (s.tuneAt t).2[c]).toNat

/-- The gain of a channel in units of 2^−29: `g` in Q2.14 times the clamp scale `v` in Q1.15 (R153, R348). -/
def chanGain (g v : Nat) : Nat := g * v

/-- Carrier `c` of a D symbol as a transmit channel, and its saturated iFFT samples; none where it contributes zeros. Every stream is transformed
(R150), and the paths outside `on`, whose quads are blanked, take zeros (R155). -/
def State.carChan (s : State) (j : SymJob) (c : Fin 4) (on : Nat) : Option (TxChan × Nat) :=
  let k := j.cars[c]
  if k.ordered && !k.zeroed && s.carIn c then
    let ofs := s.dfe.offset[c]
    let n := 12 * s.carPrbs c
    let xs := k.ant.map fun x => symbolSamples j.a (s.n0At c s.now) n x
    some ({ num := c, gain := chanGain k.gain j.scale, ofs := ofs, width := n, weight := s.fld (Reg.DFE_CAR_CFR c) 7 0,
            streams := xs.zipIdx.map fun (x, p) => if bitOf on p then x.1 else [] }, (xs.map (·.2)).sum)
  else none

/-- The part of the kite band on path `p` in symbol number `t` of the beacon with payload `bs`, with column `col` and gain `g` (R471). -/
def State.beaconRes (s : State) (col : List (Int × Int)) (g : Nat) (bs : List Byte) (t : Nat) (p : Fin 64) : Samples :=
  if s.pathZero p || col.isEmpty then []
  else quiet ((kiteRes (s.fld Reg.KTE_FREQ 29 20) bs t).map fun x => (precodeRe [col] [x] g p).1)

/-- Symbol number `t`, `a`, of a beacon with payload `bs` as the transmit chain carries it: the kite band alone, on a fifth channel, with what
the stages of R150 took in at their offsets and the bank in force (R286, R465, R471). -/
def State.beaconSym (s : State) (bs : List Byte) (a : AirSym) (t : Nat) : TxSym :=
  let f := s.fld Reg.KTE_FREQ 19 0
  let (col, g, v) := s.beaconTaken a
  let ch : TxChan :=
    { num := 4, gain := chanGain 0x4000 v, ofs := (f : Int) - 6 * (s.fld Reg.SYN_LO 17 0 : Int),
      width := 576, weight := 0,
      streams := (List.finRange 64).map fun p => (symbolSamples a f 576 (s.beaconRes col g bs t p)).1 }
  { a := a, at_ := s.dlTick a, chans := [ch], banks := s.dpd.paths.map (·.bank),
    gates := maskOf 64 fun p => if h : p < 64 then (s.paths[p]).txGate || decide (s.dlTick a < (s.paths[p]).txShut) else false,
    d := false }

/-! ### Upconversion and the carrier sum (R153 to R155) -/

/-- Samples at 122.88 MS/s of the symbols beside a symbol that its filters reach. -/
def reach : Nat := 256

/-- Samples at 983.04 MS/s in a symbol. -/
def TxSym.len8 (t : TxSym) : Nat := 8 * symLen t.a.sym

/-- A channel of a symbol. -/
def TxSym.chan (t : TxSym) (num : Nat) : Option TxChan := t.chans.find? fun c => c.num == num

/-- Path `p`'s samples of a channel, at the full length of the symbol. -/
def TxSym.stream (t : TxSym) (num p : Nat) : Samples :=
  let x := match t.chan num with | some c => c.streams.getD p [] | none => []
  if x = [] then List.replicate (symLen t.a.sym) (0, 0) else x

/-- The symbol before, the symbol and the one after as one stretch of a channel's samples, from `reach` before its start to `reach` after
its end. -/
def stretch (before : Option TxSym) (t : TxSym) (after : Option TxSym) (num p : Nat) : Samples :=
  let a := match before with | some b => (b.stream num p).drop (symLen b.a.sym - reach) | none => List.replicate reach (0, 0)
  let c := match after with | some b => (b.stream num p).take reach | none => List.replicate reach (0, 0)
  a ++ t.stream num p ++ c

/-- The symbol that output sample `n` lies in, with the sample's number there. -/
def ownerOf (before : Option TxSym) (t : TxSym) (after : Option TxSym) (n : Int) : Option (TxSym × Int) :=
  if n < 0 then before.map fun b => (b, n + (b.len8 : Int))
  else if n < t.len8 then some (t, n)
  else after.map fun b => (b, n - t.len8)

/-- Sample `n` of the frame of the NCO of a channel at `ofs`, in units of 2^−48: its phase advances by ofs/196 608 cycle a sample from
zero at the frame boundary (R153). -/
def nco (ofs n : Int) : CInt := phasor (ofs * n) 196608

/-- Number in its frame of a symbol's first sample at 983.04 MS/s. -/
def frameSample (a : AirSym) : Nat := 8 * (a.slot * slotSamples + symStart a.sym)

/-- The c20 output of the upconversion of channel `num` on path `p`, over a symbol and `reach` on both sides (R153); none where no symbol of
the three has the channel. -/
def upconvert (before : Option TxSym) (t : TxSym) (after : Option TxSym) (num p : Nat) : Samples :=
  match [some t, before, after].findSome? fun b => b.bind fun b => b.chan num with
  | none => []
  | some ch =>
    let x := stretch before t after num p
    if x.all fun v => v == (0, 0) then []
    else
      let x := x.toArray
      let h := upTaps ch.width
      (List.range (16 * reach + t.len8)).map fun (i : Nat) =>
        let n := (i : Int) - (8 * reach : Nat)
        match ownerOf before t after n with
        | some (b, m) =>
          match b.chan num with
          | some c =>
            let y := firAt h x 8 (n + (8 * reach : Nat))
            (toC 20 117 (cmul (y.1 * c.gain, y.2 * c.gain) (nco c.ofs ((frameSample b.a : Int) + m)))).1
          | none => (0, 0)
        | none => (0, 0)

/-- The c20 sum of the channels of a path (R155). -/
def carrierSum (chans : List Samples) : Samples :=
  match chans.filter fun x => x != [] with
  | [] => []
  | x :: t => (t.foldl (fun acc y => List.zipWith cadd acc y) x).map fun v => (toC 20 0 v).1

/-! ### Crest-factor reduction (R156 to R159) -/

/-- The peak threshold T (R156). -/
def State.cfrT (s : State) : Nat := (roundRat (32764 * tenth (-(10 * (s.fld Reg.DFE_CFR_CFG 7 0 : Int))))).toNat

/-- The gain trim of a path's transmit side in Q2.14. -/
def State.txGain (s : State) (p : Fin 64) : Nat := s.fld (Reg.DFE_TX_PHG p) 31 16

/-- T_p is T / g_p: the magnitude `m` of a c20 sample lies above it (R156). -/
def aboveTp (t g : Nat) (v : CInt) : Bool := (t * 16384) ^ 2 < power v * g ^ 2

/-- R157 of the part of a cancellation pulse in the band of a carrier with `n` subcarriers. DESIGN CHOICE: its response outside the band lies 74 dB
below that in the band, so that the sum over four carriers lies 60 dB below that of the strongest one; inside, it is 1.0 ± 0.02 dB but for
the 7.68 MHz at either end, since R157 gives no tolerance. -/
def pulseKeeps (n : Nat) (h : Taps) : Bool :=
  decide (0 < h.getD 512 0) && keepsTo h 1 (ripple 2) 0 (bandEdge n - 256) && keepsTo h 0 (tenth (-7400)) (bandEdge n) 16384

/-- The taps at 983.04 MS/s of the part of a cancellation pulse in the band of a carrier with `n` subcarriers, about zero frequency (R157). -/
def bandPulse (n : Nat) : Taps :=
  freeTaps 4 n 1024 (pulseKeeps n) (sincTaps 1024 1022 (mkRat ((bandEdge n - 128 : Nat) : Int) 32768) 0)

/-- The part of a cancellation pulse in one channel's band, in units of 2^−40 of the pulse's peak: the channels' parts, each with its weight, add
up to 1 at the pulse's centre (R157). -/
def pulseTaps (chans : List TxChan) (c : TxChan) : Array CInt :=
  let total : Int := (chans.map fun d => if d.weight = 0 then 0 else d.weight * (bandPulse d.width).getD 512 0).sum
  if total ≤ 0 ∨ c.weight = 0 then Array.replicate 1024 (0, 0)
  else
    let h := bandPulse c.width
    (Array.range 1024).map fun (i : Nat) =>
      let v := cmul (c.weight * h.getD i 0, 0) (nco c.ofs ((i : Int) - 512))
      (roundDiv v.1 (total.toNat * 2 ^ 8), roundDiv v.2 (total.toNat * 2 ^ 8))

/-- The peaks of a pass (R157): samples above T_p, larger than the one before and no smaller than the one after, each with the part of it
that is to be taken away, in units of 2^−40. -/
def cfrPeaks (t g : Nat) (x : Array CInt) : List (Nat × CInt) :=
  (List.range x.size).filterMap fun (i : Nat) =>
    let v := sampleAt x i
    if aboveTp t g v && decide (power (sampleAt x ((i : Int) - 1)) < power v) && decide (power (sampleAt x ((i : Int) + 1)) ≤ power v) then
      let keep : Int := (t * 16384 * 2 ^ 80 / (g * magnitude40 v) : Nat)
      let part := fun a : Int => a * (2 ^ 40 - keep)
      some (i, (part v.1, part v.2))
    else none

/-- What a pass takes away in one channel's band at sample `n`, in units of 2^−80. -/
def cancelAt (h : Array CInt) (peaks : List (Nat × CInt)) (n : Nat) : CInt :=
  peaks.foldl (fun acc (i, v) =>
    let d := (n : Int) - i
    if d.natAbs < 512 then cadd acc (cmul v (sampleAt h (d + 512))) else acc) (0, 0)

/-- One pass (R157): the samples after it, and what it has taken away in each channel's band. -/
def cfrPass (t g : Nat) (chans : List TxChan) (x : Samples) : Samples × List Samples :=
  let a := x.toArray
  let peaks := cfrPeaks t g a
  if peaks = [] then (x, chans.map fun _ => [])
  else
    let parts := chans.map fun c => let h := pulseTaps chans c; (List.range a.size).map (cancelAt h peaks)
    let all := parts.foldl (fun acc y => List.zipWith cadd acc y) (List.replicate a.size (0, 0))
    (List.zipWith (fun v y => (toC 20 80 (v.1 * 2 ^ 80 - y.1, v.2 * 2 ^ 80 - y.2)).1) x all, parts)

/-- Sum of two stretches, of which an empty one is zeros. -/
def plus (x y : Samples) : Samples := if x = [] then y else if y = [] then x else List.zipWith cadd x y

/-- `n` passes. -/
def cfrPasses (t g : Nat) (chans : List TxChan) : Nat → Samples → List Samples → Samples × List Samples
  | 0, x, acc => (x, acc)
  | n + 1, x, acc =>
    let (y, parts) := cfrPass t g chans x
    cfrPasses t g chans n y (List.zipWith plus acc parts)

/-- A sample limited to T_p with its phase kept (R158), and whether it was. -/
def limitTp (t g : Nat) (v : CInt) : CInt × Bool :=
  if aboveTp t g v then
    let d := g * magnitude40 v
    ((roundDiv (v.1 * (t * 16384 * 2 ^ 40 : Nat)) d, roundDiv (v.2 * (t * 16384 * 2 ^ 40 : Nat)) d), true)
  else (v, false)

/-- What a path's chain makes of a symbol. -/
structure PathOut where
  /-- The CFR output over the symbol, and the number of samples limited after the last pass (R158). -/
  cfr : Samples := []
  clipped : Nat := 0
  /-- Cancelled energy and own energy by channel number (R159). -/
  energy : List (Nat × Nat × Nat) := []
  /-- The DFE output from `lead` samples before the symbol on, at 1966.08 MS/s, and the number of saturated samples in the symbol
  (R146, R147). -/
  dfe : Samples := []
  outSat : Nat := 0
  deriving Repr

/-- Samples at 1966.08 MS/s before a symbol that the pre-distorter's taps reach. -/
def lead : Nat := 31

/-- The middle of a stretch at 983.04 MS/s: the symbol itself. -/
def middle (t : TxSym) (x : Samples) : Samples := (x.drop (8 * reach)).take t.len8

/-- The energy of a symbol's part of a stretch in units of 2^−`k`, brought to units of 2^−96. -/
def energyOf (t : TxSym) (k : Nat) (x : Samples) : Nat := ((middle t x).map power).sum * 2 ^ 96 / 2 ^ (2 * k)

/-- The chain of path `p` up to the DFE output (R153 to R160). -/
def State.chainOf (s : State) (before : Option TxSym) (t : TxSym) (after : Option TxSym) (p : Fin 64) : PathOut :=
  let ups := (List.range 5).map fun k => upconvert before t after k p
  let x := carrierSum ups
  if x = [] then {}
  else
    let (limit, g) := (s.cfrT, s.txGain p)
    let passes := if s.bit Reg.DFE_CFR_CFG 24 then max 1 (s.fld Reg.DFE_CFR_CFG 17 16) else 0
    let (y, parts) := cfrPasses limit g t.chans passes x (t.chans.map fun _ => [])
    let ys := y.map (limitTp limit g)
    let y := ys.map (·.1)
    let energy := (t.chans.zip parts).map fun (c, e) => (c.num, energyOf t 80 e, energyOf t 0 (ups.getD c.num []))
    -- trims: delay, phase, gain
    let a := y.toArray
    let h := delayTaps (s.sfld (Reg.DFE_TX_DLY p) 15 0)
    let turn := phasor (s.sfld (Reg.DFE_TX_PHG p) 15 0) 65536
    let z := (List.range a.size).map fun (i : Nat) =>
      let v := cmul (firAt h a 1 i) turn
      (toC 20 102 (v.1 * g, v.2 * g)).1
    -- interpolation by 2
    let z := z.toArray
    let h := doubleTaps
    let first := 16 * reach - lead
    let out := (List.range (lead + 2 * t.len8)).map fun (i : Nat) => toC 16 40 (firAt h z 2 ((first + i : Nat) : Int))
    { cfr := middle t y, clipped := (middle t (ys.map fun v => (if v.2 then 1 else 0, 0))).countP fun v => v != (0, 0),
      energy := energy, dfe := out.map (·.1), outSat := (out.drop lead).countP (·.2) }

/-! ### The pre-distorter (R280 to R287) -/

/-- The identity bank: entry 0 to 64 of table 0 is 16384, every other entry 0 (R283, R284). -/
def identityBank : Coeffs := (List.range 520).map fun i => if i < 65 then 0x40000000 else 0

/-- Magnitude of a tap input, rounded half away from zero, found as the largest `n` with (2n − 1)² ≤ 4(re² + im²) (R283). -/
def tapMag (re im : Int) : Nat :=
  let m := 4 * (re * re + im * im).toNat
  (List.range 17).foldl (fun (n : Nat) i =>
    let b := n + 2 ^ (16 - i)
    if (2 * b - 1) * (2 * b - 1) ≤ m then b else n) 0

/-- The table value of one tap before the product: linear interpolation at magnitude `u` (R283). -/
def tapGain (lut : List Word) (m u : Nat) : Int × Int :=
  let k := u / 512
  let f : Int := u % 512
  let a := lut.getD (65 * m + k) 0
  let b := lut.getD (65 * m + k + 1) 0
  (coeffRe a * (512 - f) + coeffRe b * f, coeffIm a * (512 - f) + coeffIm b * f)

/-- One output sample for the eight delayed inputs `v`, newest tap first: the sample, whether a part saturated, and the number of tap
inputs whose magnitude exceeds 32767 (R283). -/
def dpdSample (lut : List Word) (v : List (Int × Int)) : (Int × Int) × Bool × Nat :=
  let taps := List.zip (List.range 8) v
  let (ar, ai) := taps.foldl (fun (ar, ai) (m, (re, im)) =>
    let (gr, gi) := tapGain lut m (min (tapMag re im) 32767)
    (ar + re * gr - im * gi, ai + re * gi + im * gr)) (0, 0)
  let yr := roundDiv ar 8388608
  let yi := roundDiv ai 8388608
  ((satInt (-32768) 32767 yr, satInt (-32768) 32767 yi),
    (yr < -32768 || 32767 < yr || yi < -32768 || 32767 < yi),
    (taps.filter fun (_, (re, im)) => 32767 * 32767 < (re * re + im * im).toNat).length)

/-- The coefficients in force of bank `b` of a path (R282). -/
def State.bankTable (s : State) (p : Fin 64) (b : Nat) : Coeffs := (List.range 520).map fun i => s.rd (Reg.DPD_LUT p b (i / 65) (i % 65))

/-- The delays of the taps (R281). -/
def State.tapDelays (s : State) : List Nat :=
  0 :: ((List.range 4).map fun i => s.fld Reg.DPD_TAPS0 (8 * i + 4) (8 * i)) ++ (List.range 3).map fun i => s.fld Reg.DPD_TAPS1 (8 * i + 4) (8 * i)

/-- The pre-distorter's output over a symbol, for the DFE output `x` from `lead` samples before it on, with every tap of a sample taken through the
one bank of the symbol (R283, R287): each sample with its counts. -/
def predistort (lut : Coeffs) (d : List Nat) (x : Samples) : List (CInt × Bool × Nat) :=
  let a := x.toArray
  (List.range (a.size - lead)).map fun (i : Nat) => dpdSample lut (d.map fun (k : Nat) => sampleAt a ((i + lead : Nat) - (k : Int)))

/-! ### The correction stage (R62 to R64) -/

/-- The conjugate taps of a path's transmit side. -/
def State.txTaps (s : State) (p : Fin 64) : List CInt :=
  [Reg.TXP_IQ_TAP0 p, Reg.TXP_IQ_TAP1 p, Reg.TXP_IQ_TAP2 p, Reg.TXP_IQ_TAP3 p].map fun r => (s.sfld r 31 16, s.sfld r 15 0)

/-- The DAC codes of a path for the samples `x` after the three of `tail`, of which `n` find the gate open: behind them the DAC receives the zero code, whatever the corrections are (R63, R64). Each comes with its saturation. -/
def State.dacCodes (s : State) (p : Fin 64) (n : Nat) (tail x : Samples) : List (CInt × Bool) :=
  let a := (List.replicate (3 - tail.length) (0, 0) ++ tail ++ x).toArray
  let c := s.txTaps p
  (List.range (a.size - 3)).map fun (i : Nat) =>
    if i < n then
      txSample ((List.range 4).map fun (k : Nat) => sampleAt a ((i + 3 : Nat) - (k : Int))) c (s.sfld (Reg.TXP_DC_OFS p) 27 16) (s.sfld (Reg.TXP_DC_OFS p) 11 0)
    else ((0, 0), false)

/-- Samples at 1966.08 MS/s of symbol `t` that find the gate of path `p` open. -/
def State.openFor (s : State) (t : TxSym) (p : Fin 64) : Nat :=
  if !bitOf t.gates p then 0
  else if t.at_ < (s.paths[p]).txShut then min (2 * t.len8) (2 * ((s.paths[p]).txShut - t.at_))
  else 2 * t.len8

/-! ### A symbol that ends -/

/-- The figures of R159 of a path after a D symbol. -/
def CfrSt.add (x : CfrSt) (t : TxSym) (o : PathOut) : CfrSt :=
  let e := fun (f : Nat × Nat × Nat → Nat) (c : Nat) => ((o.energy.filter fun v => v.1 == c).map f).sum
  { top := (o.cfr.map power).foldl max x.top, sum := x.sum + (o.cfr.map power).sum, cnt := x.cnt + t.len8,
    pulse := Vector.ofFn fun c => x.pulse[c] + e (·.2.1) c, car := Vector.ofFn fun c => x.car[c] + e (·.2.2) c }

/-- The samples of symbol `t` on path `p` have passed: what its stages limited or saturated is counted (R63, R147, R158, R283), and the
figures of the frame take a D symbol in (R159). The conjugate taps still reach three samples that the symbol before has left, made with its own
bank (R287). -/
def State.pathEnd (s : State) (before : Option TxSym) (t : TxSym) (after : Option TxSym) (p : Fin 64) : State :=
  let o := s.chainOf before t after p
  let s := if t.d then { s with dfe := { s.dfe with cfr := upd s.dfe.cfr p fun x => x.add t o } } else s
  let tail := s.dfe.tail[p]
  let leave := fun (s : State) (l : Samples) => { s with dfe := { s.dfe with tail := s.dfe.tail.set p l } }
  if o.dfe = [] then leave s []
  else
    let own := predistort (s.bankTable p (t.banks[p])) s.tapDelays o.dfe
    let dac := s.dacCodes p (s.openFor t p) tail (own.map (·.1))
    let s := leave s ((own.map (·.1)).drop (own.length - 3))
    let s := (s.bumpBy (Reg.DFE_CFR_CLIP_CNT p) o.clipped).bumpBy (Reg.DFE_OUT_SAT_CNT p) o.outSat
    let s := (s.bumpBy (Reg.DPD_IN_OVR_CNT p) (own.map (·.2.2)).sum).bumpBy (Reg.DPD_OUT_SAT_CNT p) (own.countP (·.2.1))
    s.bumpBy (Reg.TXP_SAT_CNT p) (dac.countP (·.2))

/-! ### The figures of a frame (R159) -/

/-- A figure of R159 in its field of ten bits. Where the formula has no value that fits it (a frame without a D sample or without a
cancellation pulse), the spec states none: a free value. -/
def State.showCfr (s : State) (a : Nat) (v : Option Int) : State :=
  match v with
  | some x => if 0 ≤ x ∧ x ≤ 1023 then s.setFld a 9 0 x.toNat else (s.freeNat.2).setFld a 9 0 s.freeNat.1
  | none => (s.freeNat.2).setFld a 9 0 s.freeNat.1

/-- The PAR of a path in 0.1 dB (R159). -/
def CfrSt.par (x : CfrSt) : Option Int := if x.sum = 0 then none else some (logSteps 10 (mkRat (x.top * x.cnt : Nat) x.sum))

/-- The CFR error of carrier `c` in 0.1 dB below the carrier: energy of the pulses over the carrier's own, the mean over the live paths
(R159). -/
def State.cfrError (s : State) (c : Fin 4) : Option Int :=
  let rs := (List.finRange 64).filterMap fun (p : Fin 64) =>
    let x := s.dfe.cfr[p]
    if s.txRetired p || x.car[c] = 0 then none else some (mkRat (x.pulse[c] : Nat) x.car[c])
  let r := rs.foldl (· + ·) 0
  if r = 0 then none else some (-(logSteps 10 (r / (rs.length : Rat))))

/-- The figures of the previous frame are shown, and those of the next begin (R159). -/
def State.cfrStats (s : State) : State :=
  let t := s.forPaths fun s p => s.showCfr (Reg.DFE_CFR_STAT p) (s.dfe.cfr[p]).par
  let t := (List.finRange 4).foldl (fun t (c : Fin 4) => t.showCfr (Reg.DFE_CAR_STAT c) (s.cfrError c)) t
  { t with dfe := { t.dfe with cfr := Vector.replicate 64 {}, cfrDue := false } }

/-- A frame ends: its figures are shown at once, or after the D symbol that ends with it (R159). -/
def State.frameStats (s : State) : State :=
  match s.dfe.tx with
  | some t => if t.d && decide (t.at_ + t.len8 ≤ s.now) then { s with dfe := { s.dfe with cfrDue := true } } else s.cfrStats
  | none => s.cfrStats

/-- The symbol on air ends; `after` follows it without a gap, or nothing does. -/
def State.endTx (s : State) (after : Option TxSym) : State :=
  match s.dfe.tx with
  | none => { s with dfe := { s.dfe with tx := after, txPrev := none, tail := Vector.replicate 64 [] } }
  | some t =>
    let s := s.forPaths fun s p => s.pathEnd s.dfe.txPrev t after p
    let s := { s with dfe := { s.dfe with tx := after, txPrev := after.map fun _ => t,
                                          tail := if after.isNone then Vector.replicate 64 [] else s.dfe.tail } }
    if s.dfe.cfrDue then s.cfrStats else s

/-- Symbol `t` begins on air, and the one before it ends, with or without a gap. -/
def State.nextTx (s : State) (t : TxSym) : State :=
  match s.dfe.tx with
  | some b => if nextSym b.a = t.a then s.endTx (some t) else (s.endTx none).endTx (some t)
  | none => s.endTx (some t)

/-- The beacon in the window that begins in `a` has passed (R465, R471). -/
def State.endBeacon (s : State) (a : AirSym) (bs : List Byte) : State :=
  let l := (windowSyms a).zipIdx.map fun (b, t) => s.beaconSym bs b t
  let s := l.foldl (fun s t => s.endTx (some t)) { s with dfe := { s.dfe with tx := none, txPrev := none } }
  s.endTx none

end Sys2Proof.Machine
end

