-- ==== Sys2Proof/Machine/FrontEnd.lean ====
section
/-! DEFINITION. Chapter 04: carrier offset requests (R143 to R145), and the work of a frame boundary (R136, R153, R159, R453). -/

namespace Sys2Proof.Machine

/-- A write of DFE_CAR_OFS: the request replaces one that waits, with a boundary of its own (R143). -/
def State.writeOffset (s : State) (c : Fin 4) (w : Word) : State :=
  let s := (s.setFld (Reg.DFE_CAR_OFS c) 16 0 (fldOf w 16 0)).setBit (Reg.DFE_CAR_OFS c) 31 true
  let r : OffsetReq := { code := signedOf 17 (fldOf w 16 0), notBefore := s.now + 2 * 983040 }
  { s with dfe := { s.dfe with request := s.dfe.request.set c (some r) } }

/-- OFFSET_WRITE (R143). -/
def execOffsetWrite (c : Fin 4) (w : Word) (s : State) : Res := .next (if s.writable then s.writeOffset c w else s)

/-- The request of carrier `c` falls due at this boundary. -/
def State.offsetDue (s : State) (c : Fin 4) : Option Int :=
  match s.dfe.request[c] with
  | some r => if r.notBefore ≤ s.now then some r.code else none
  | none => none

/-- A due request takes effect, or is refused and counted: the offset does not change (R143, R145). -/
def State.offsetEnd (s : State) (pass : List (Fin 4)) (c : Fin 4) : State :=
  match s.offsetDue c with
  | none => s
  | some code =>
    let s := { s.setBit (Reg.DFE_CAR_OFS c) 31 false with dfe := { s.dfe with request := s.dfe.request.set c none } }
    if pass.contains c then { s.setBit (Reg.DFE_CAR_OFS c) 30 false with dfe := { s.dfe with offset := s.dfe.offset.set c code } }
    else (s.setBit (Reg.DFE_CAR_OFS c) 30 true).bump (Reg.DFE_OFS_REFUSE_CNT c)

/-- Due offsets are checked and applied together (R143, R144). -/
def State.applyOffsets (s : State) : State :=
  let due := (List.finRange 4).filter fun c => (s.offsetDue c).isSome
  let pass := s.passing (s.fld Reg.SYN_LO 17 0) (fun c => s.dfe.offset[c]) s.offsetDue 4 due
  (List.finRange 4).foldl (fun s c => s.offsetEnd pass c) s

/-- The LO and the offsets that a frame boundary has moved are kept, for the symbols received before it (R145, R164). -/
def State.keepTune (s old : State) : State :=
  let x := (old.fld Reg.SYN_LO 17 0, old.dfe.offset)
  if (s.fld Reg.SYN_LO 17 0, s.dfe.offset) = x then s else { s with dfe := { s.dfe with was := some (s.now, x) } }

/-- FRAME_BOUNDARY: a due retune and due offsets take effect together (R136, R143, R144), the frame edge is measured (R453), and the
figures of the previous frame are shown (R159). NCO phases restart: they count samples from this boundary (R153). -/
def execFrameBoundary (s : State) : Res :=
  let s := (s.applyRetune.applyOffsets.keepTune s).frameStats
  .next (match s.air.origin with
    | some (t, _) => s.measureEdge ((s.now - t) / (8 * frameSamples)) ((airAt s.airPos).1.sfn)
    | none => s)

end Sys2Proof.Machine
end

