-- ==== Sys2Proof/Machine/Housekeeping.lean ====
section
/-! DEFINITION. Chapter 15, the housekeeping ADC (R531 to R538) and the thermal scanner (R539 to R545). -/

namespace Sys2Proof.Machine

/-! ### Conversions (R532 to R535) -/

/-- Timing ticks of `n` tenths of a microsecond, rounded up. -/
def tenthsTicks (n : Nat) : Nat := (n * 98304 + 999) / 1000

/-- The converter has powered down before a conversion scheduled at tick `t`: more than 10 µs have passed since the last one
ended (R535). -/
def State.hkaAsleep (s : State) (t : Nat) : Bool :=
  match s.hka.lastEnd with
  | some e => 9831 ≤ t - e
  | none => true

/-- The tick at which a conversion scheduled at `t` starts: 1.5 µs later when the converter has to wake (R535). -/
def State.hkaStart (s : State) (t : Nat) : Nat := if s.hkaAsleep t then t + tenthsTicks 15 else t

/-- The converter is powered, as HKA_SEQ_STAT shows it (R535). -/
def State.hkaAwake (s : State) : Bool := s.hka.conv.isSome || !s.hkaAsleep s.now

/-- Entry of the sequence table that the pass is at. -/
def State.hkaEntry (s : State) : Nat := s.fld Reg.HKA_SEQ_STAT 22 16

/-- A pass is running. -/
def State.passRuns (s : State) : Bool := s.bit Reg.HKA_SEQ_STAT 31

/-- The pass moves to entry `i`: its input is selected and its settle delay runs (R532). -/
def State.toEntry (s : State) (i : Nat) : State :=
  let s := (s.setFld Reg.HKA_SEQ_STAT 22 16 i).setFld Reg.HKA_SEQ_STAT 7 0 0
  let at' := s.hkaStart (s.now + tenthsTicks (s.fld (Reg.HKA_ENTRY i) 14 9))
  { s with hka := { s.hka with conv := some .seq, convAt := at', acc := 0, cnt := 0, taken := 0, settling := false } }

/-- A pass starts at entry 0 (R532, R534). -/
def State.beginPass (s : State) : State := (s.setBit Reg.HKA_SEQ_STAT 31 true).toEntry 0

/-- A trigger of the sequencer (R534, R536): with a pass running it is ignored, and unless the table loops counted; during an
urgent conversion it waits. -/
def State.hkaTrigger (s : State) : State :=
  let s := { s with hka := { s.hka with trigAt := some s.now } }
  if s.passRuns then (if s.fld Reg.HKA_SEQ_CFG 31 30 = 1 then s else s.bump Reg.HKA_OVERRUN_CNT)
  else if s.hka.conv.isSome then { s with hka := { s.hka with trigWait := true } }
  else s.beginPass

/-- The period of the timer trigger in µs: below 10 acts as 10 (R534). -/
def State.hkaPeriod (s : State) : Nat := max 10 (s.fld Reg.HKA_SEQ_TIME 31 16)

/-- HKA_PASS_START: the trigger that HKA_SEQ_CFG selects arrives: at once in a loop, every period_us on the timer, and
delay after an edge of PAENq that edge_fall and edge_quad select (R534). -/
def execHkaPassStart (s : State) : Res :=
  .next (if !s.kpr.imageLoaded then s
    else match s.fld Reg.HKA_SEQ_CFG 31 30 with
      | 0 => s
      | 1 => s.hkaTrigger
      | 2 => match s.hka.trigAt with
        | some t => if usPassed (s.now - t) s.hkaPeriod then s.hkaTrigger else s
        | none => s.hkaTrigger
      | _ => match s.hka.edges with
        | e :: rest =>
          if s.fld Reg.HKA_SEQ_TIME 15 0 * 98304 ≤ (s.now - e) * 1000 then
            { s with hka := { s.hka with edges := rest } }.hkaTrigger
          else s
        | [] => s)

/-- value = round((mean − offset) × gain × 16) as u16, saturating, for a sum of `cnt` conversions (R533). -/
def hkaValue (c : HkaCal) (acc cnt : Nat) : Nat :=
  (satInt 0 65535 (roundDiv (((acc : Int) * 1024 - c.ofs1024 * cnt) * c.num * 16) (cnt * 1024 * c.den))).toNat

/-- The last result of compare slot `k` came from entry `i` with value `v` (R537). -/
def State.compareSlot (s : State) (k : Fin 32) (i v : Nat) : State :=
  let act : Nat := s.fld (Reg.HKA_CMP_ACT k) 9 8
  if s.fld (Reg.HKA_CMP_LIM k) 15 0 ≤ v && v ≤ s.fld (Reg.HKA_CMP_LIM k) 31 16 then
    { s.setBit (Reg.HKA_CMP_ACT k) 31 false with hka := { s.hka with outside := s.hka.outside.set k 0 } }
  else
    let n := s.hka.outside[k] + 1
    let s := { s with hka := { s.hka with outside := s.hka.outside.set k n } }
    if n = max 1 (s.fld (Reg.HKA_CMP_ACT k) 3 0) then
      let s := (s.setBit (Reg.HKA_CMP_ACT k) 31 true).bump Reg.HKA_CMP_CNT
      let s := s.raiseEvent
        { code := 0x1304, ns := s.ns, args := packArgs [(1, k), (1, i), (2, v)], alarm := act != 0 }
      if act = 2 then s.enterSafe 1 else s
    else s

/-- The pass goes on after a result of entry `i`: the entry's next result, the next entry, or the end of the pass, after which
a looping table starts again (R532, R534). -/
def State.afterResult (s : State) (i : Nat) : State :=
  if s.hka.taken < s.fld (Reg.HKA_ENTRY i) 22 15 + 1 then
    { s with hka := { s.hka with convAt := s.now, acc := 0, cnt := 0 } }
  else if i < s.fld Reg.HKA_SEQ_CFG 6 0 then s.toEntry (i + 1)
  else
    let s := { s.setBit Reg.HKA_SEQ_STAT 31 false with hka := { s.hka with conv := none } }
    if s.fld Reg.HKA_SEQ_CFG 31 30 = 1 then s.beginPass else s

/-- A result of the pass is complete: corrected, written with its repeat number, and compared (R533, R537). -/
def State.seqResult (s : State) : State :=
  let i := s.hkaEntry
  let v := hkaValue s.hka.cal s.hka.acc s.hka.cnt
  let s := s.wr (Reg.HKA_RESULT i) (BitVec.ofNat 32 (0x80000000 + s.hka.taken % 256 * 0x10000 + v))
  let s := s.setFld Reg.HKA_SEQ_STAT 7 0 s.hka.taken
  let s := { s with hka := { s.hka with taken := s.hka.taken + 1 } }
  let s := if s.bit (Reg.HKA_ENTRY i) 5 then
      s.compareSlot ⟨s.fld (Reg.HKA_ENTRY i) 4 0 % 32, Nat.mod_lt _ (by decide)⟩ i v
    else s
  s.afterResult i

/-- After an urgent conversion the pass that it held up goes on: a settle delay that was pending restarts, an abandoned result
is taken again in full; a trigger that waited starts its pass (R536). -/
def State.resumePass (s : State) : State :=
  if s.passRuns then
    let wait := if s.hka.settling then tenthsTicks (s.fld (Reg.HKA_ENTRY s.hkaEntry) 14 9) else 0
    { s with hka := { s.hka with conv := some .seq, convAt := s.now + wait, acc := 0, cnt := 0, settling := false } }
  else
    let s := { s with hka := { s.hka with conv := none } }
    if s.hka.trigWait then { s with hka := { s.hka with trigWait := false } }.beginPass else s

/-- The guard's result goes to the trouble-log entry of the trip of path `p`: the latest of event 0x0D01 among the last 64 entries that
names it. Path, kind and air stamp leave one byte of the entry's arguments, and the spec does not say how a result of 16 bits stands in
it: that byte becomes a free value (R309, R536, R582, R584). -/
def State.noteGuard (s : State) (p v : Nat) : State :=
  let s := { s with hka := { s.hka with guardRes := some (p, v) } }
  let ptr := s.fld Reg.KPR_LOG_PTR 15 0
  match (List.range 64).find? fun k =>
      (s.memGets (0xF1744000 + 16 * ((ptr + 65535 - k) % 4096)) 2 == bytesOf 2 0x0D01)
        && (s.memGets (0xF1744000 + 16 * ((ptr + 65535 - k) % 4096) + 8) 1 == bytesOf 1 p) with
  | some k =>
    let a := 0xF1744000 + 16 * ((ptr + 65535 - k) % 4096)
    s.memWrite (a + 15) (bytesOf 1 (Config.tripByte v)) false 2 0x3F
  | none => s

/-- An urgent result is complete (R536): the guard's goes to the record of its trip, the management's to HKA_ONESHOT_RES. -/
def State.urgentResult (s : State) (c : Conv) : State :=
  let v := hkaValue s.hka.cal s.hka.acc s.hka.cnt
  let s := match c with
    | .guard p => s.noteGuard p v
    | _ => ((s.wr Reg.HKA_ONESHOT_RES (BitVec.ofNat 32 (0x80000000 + v))).setBit Reg.HKA_ONESHOT 31 false).setBit
        Reg.HKA_ONESHOT 30 true
  s.resumePass

/-- Conversions averaged into one result of what is running (R532, R536). -/
def State.hkaAvg (s : State) (c : Conv) : Nat :=
  2 ^ (match c with
    | .guard _ => s.fld Reg.HKA_URG_CFG 2 0
    | .oneshot n => n
    | _ => s.fld (Reg.HKA_ENTRY s.hkaEntry) 8 6)

/-- HKA_CONVERSION_END: the running conversion, 500 ns long, ends with code `code`; the last one of an average completes its
result (R533). -/
def execHkaConversionEnd (code : BitVec 12) (s : State) : Res :=
  .next (match s.hka.conv with
    | none | some .cal => s
    | some c =>
      if s.now < s.hka.convAt || !nsPassed (s.now - s.hka.convAt) 500 then s
      else
        let s := { s with hka := { s.hka with
          acc := s.hka.acc + code.toNat, cnt := s.hka.cnt + 1, convAt := s.now, lastEnd := some s.now } }
        if s.hka.cnt < s.hkaAvg c then s
        else match c with
          | .seq => s.seqResult
          | _ => s.urgentResult c)

/-! ### Urgent requests (R536) -/

/-- A conversion of the sequencer is running, its settle delay over. -/
def State.seqConverts (s : State) : Bool := s.hka.conv == some .seq && decide (s.hka.convAt ≤ s.now)

/-- The urgent conversion `c` starts after its settle time and any start-up. -/
def State.runUrgent (s : State) (c : Conv) (settle : Nat) : State :=
  let pending := s.hka.conv == some .seq && !s.seqConverts
  let at' := s.hkaStart (s.now + tenthsTicks settle)
  { s with hka := { s.hka with conv := some c, convAt := at', acc := 0, cnt := 0, settling := pending } }

/-- An urgent request (R536): it runs at once when no conversion runs; a running conversion of the sequencer is abandoned for
it only with its abort bit; otherwise it is dropped and counted. The flag says whether it runs. -/
def State.urgentRequest (s : State) (c : Conv) (settle : Nat) (abort : Bool) : State × Bool :=
  if s.hka.conv.isSome && s.hka.conv != some .seq then (s.bump Reg.HKA_URGENT_DROP_CNT, false)
  else if s.seqConverts then
    if abort then ((s.bump Reg.HKA_ABORT_CNT).runUrgent c settle, true) else (s.bump Reg.HKA_URGENT_DROP_CNT, false)
  else (s.runUrgent c settle, true)

/-- The converter as it was before the management request of this very tick, if one began to run: that request counts as arriving while a
conversion runs, so it is dropped and counted, and an abort counted for it is not (R536). -/
def State.beforeOneshot (s : State) : Option State :=
  match s.hka.urgent with
  | some (t, r) =>
    if t = s.now ∧ s.bit Reg.HKA_ONESHOT 31 then
      let aborted := r.conv == some .seq && decide (r.convAt ≤ s.now)
      let s := if aborted then s.wr Reg.HKA_ABORT_CNT (s.rd Reg.HKA_ABORT_CNT - 1) else s
      let s := { s with hka := { s.hka with
        conv := r.conv, convAt := r.convAt, acc := r.acc, cnt := r.cnt, settling := r.settling, urgent := none } }
      some ((s.setBit Reg.HKA_ONESHOT 31 false).bump Reg.HKA_URGENT_DROP_CNT)
    else none
  | none => none

/-- The PA guard's request at a recorded trip of path `p`, if HKA_GUARD_CH enables it (R536). It takes the place of a management request of
the same tick, but not where its own abort bit has it dropped (DEDUCED). -/
def State.guardRequest (s : State) (p : Fin 64) : State :=
  let ask (s : State) := s.urgentRequest (.guard p) (s.fld Reg.HKA_URG_CFG 13 8) (s.bit Reg.HKA_URG_CFG 31)
  if s.bit (Reg.HKA_GUARD_CH p) 31 then
    match s.beforeOneshot.map ask with
    | some (t, true) => t
    | _ => (ask s).1
  else s

/-- A write of HKA_ONESHOT: the fields are stored, and go makes a management request (R536). -/
def State.writeOneshot (s : State) (w : Word) : State :=
  let s := (((s.setFld Reg.HKA_ONESHOT 29 24 (fldOf w 29 24)).setFld Reg.HKA_ONESHOT 22 20 (fldOf w 22 20)).setFld
    Reg.HKA_ONESHOT 13 8 (fldOf w 13 8)).setFld Reg.HKA_ONESHOT 2 0 (fldOf w 2 0)
  if bitOf w.toNat 31 then
    let before := s.bit Reg.HKA_ONESHOT 31
    let h := s.hka
    let (s, runs) := s.urgentRequest (.oneshot (fldOf w 2 0)) (fldOf w 13 8) (s.bit Reg.HKA_URG_CFG 30)
    if runs then
      let s := { s with hka := { s.hka with urgent := some (s.now, ⟨h.conv, h.convAt, h.acc, h.cnt, h.settling⟩) } }
      (s.setBit Reg.HKA_ONESHOT 31 true).setBit Reg.HKA_ONESHOT 30 false
    else if before then s
    else s.setBit Reg.HKA_ONESHOT 30 false
  else s

/-- HKA_ONESHOT (R536). -/
def execHkaOneshot (w : Word) (s : State) : Res := .next (if s.writable then s.writeOneshot w else s)

/-! ### Calibration (R538) -/

/-- A write of HKA_CAL_CTL: go starts the calibration in READY with a reference of 0.9 to 1.1 V, else it sets failed (R538).
The pass waits meanwhile; an urgent conversion that runs keeps the converter until its end. -/
def State.writeHkaCal (s : State) (w : Word) : State :=
  if bitOf w.toNat 31 then
    let uv := (s.rd Reg.HKA_CAL_REF).toNat
    if s.mode = .ready && 900000 ≤ uv && uv ≤ 1100000 then
      let s := s.wr Reg.HKA_CAL_CTL 0xC0000000
      if s.hka.conv.isNone || s.hka.conv = some .seq then
        { s with hka := { s.hka with conv := some .cal, convAt := s.now, acc := 0, cnt := 0 } }
      else s
    else s.setBit Reg.HKA_CAL_CTL 29 true
  else s

/-- HKA_CAL_START (R538). -/
def execHkaCalStart (w : Word) (s : State) : Res := .next (if s.writable then s.writeHkaCal w else s)

/-- The calibration from the sums of 1024 conversions of ground and of the reference `uv` (R538). A reference that reads no
higher than ground gives no gain that the manual states: it is a free value. -/
def State.hkaCalOf (s : State) (sum50 sum49 uv : Nat) : HkaCal × State :=
  if sum50 < sum49 then ({ ofs1024 := sum50, num := uv * 4096 * 1024, den := 1200000 * (sum49 - sum50) }, s)
  else
    let (n, s) : Nat × State := s.freeNat
    let (d, s) : Nat × State := s.freeNat
    ({ ofs1024 := sum50, num := n, den := d + 1 }, s)

/-- HKA_CAL_END: the sums of 1024 conversions of channels 50 and 49 give offset and gain; the residuals of the second
measurement are reported, and offset and gain are kept in the production record (R538). -/
def execHkaCalEnd (sum50 sum49 : BitVec 22) (gainRes ofsRes : BitVec 16) (s : State) : Res :=
  .next (if s.bit Reg.HKA_CAL_CTL 30 then
      let (c, s) := s.hkaCalOf sum50.toNat sum49.toNat (s.rd Reg.HKA_CAL_REF).toNat
      let s := { s with hka := { s.hka with cal := c, lastEnd := some s.now }, prod := { s.prod with hka := some c } }.countProdRows
      let s := if s.hka.conv = some .cal then s.resumePass else s
      let s := s.wr Reg.HKA_CAL_CTL 0
      let s := s.wr Reg.HKA_CAL_RES (BitVec.ofNat 32 (gainRes.toNat * 0x10000 + ofsRes.toNat))
      s.raise 0x1306 [(4, gainRes.toNat * 0x10000 + ofsRes.toNat)]
    else s)

/-! ### The thermal scanner (R539 to R545) -/

/-- The reading of thermistor ratio `r` in a table of (ratio, reading) points: between two points by the straight line
through them, rounded half away from zero; outside the end points none (R539, R540). -/
def thermReading : List (Nat × Int) → Nat → Option Int
  | (r0, t0) :: (r1, t1) :: rest, r =>
    if min r0 r1 ≤ r ∧ r ≤ max r0 r1 then
      if r0 = r1 then some t0
      else if r0 < r1 then some (t0 + roundDiv ((t1 - t0) * ((r : Int) - r0)) (r1 - r0))
      else some (t0 + roundDiv ((t1 - t0) * ((r0 : Int) - r)) (r0 - r1))
    else thermReading ((r1, t1) :: rest) r
  | _, _ => none

/-- The temperature of a remote diode in 0.0625 °C, from ΔV_BE = `dv` µV (R539): less the drop of the 150 µA of current difference across
the series resistance `rser` (0.1 Ω), divided by n·ln 16·k/q with n = `ideality`/2^14 and k/q = 86.17333 µV/K, less 273.15 °C, rounded
half away from zero. PRESUMED: the law of the junction, which the spec names by its ΔV_BE and its two corrections alone. -/
def diodeReading (ideality : Nat) (rser dv : Int) : Int :=
  satInt (-32768) 32767 (roundDiv ((dv - 15 * rser) * 16384 * 160 * 10000 - 43704 * 2389232 * ideality) (2389232 * ideality * 10))

/-- What a reading says of its sensor: its number, and its value or the cause of its being broken (R539, R540). -/
def State.convert (s : State) : Reading → Fin 28 × Except Nat Int
  | .diode k v10 v160 =>
    let i : Fin 28 := ⟨k, by omega⟩
    let ideality := s.fld (Reg.HKA_SENS_CFG i) 31 16
    if 1100000 < v160 then (i, .error 0)
    else if v10 < 150000 ∨ v160 - v10 < 20000 then (i, .error 1)
    else if ideality = 0 then (i, .ok (signedOf 16 (toBits 16 (Config.openReading v10 v160))))
    else (i, .ok (diodeReading ideality (s.fld (Reg.HKA_SENS_CFG i) 15 0) ((v160 : Int) - v10)))
  | .thermistor k r =>
    let i : Fin 28 := ⟨16 + k, by omega⟩
    match thermReading (s.hka.sensors[i]).table r.toNat with
    | some t => (i, .ok t)
    | none => (i, .error 2)
  | .die k ok t =>
    let i : Fin 28 := ⟨20 + k, by omega⟩
    if ok then (i, .ok t.toInt) else (i, .error 3)

/-- Threshold `k` (0 warn, 1 hot, 2 critical) of sensor `t` in 0.0625 °C (R542). -/
def State.thrOf (s : State) (t : Fin 28) (k : Fin 3) : Int :=
  match k with
  | 0 => s.sfld (Reg.HKA_THR0 t) 31 16
  | 1 => s.sfld (Reg.HKA_THR0 t) 15 0
  | 2 => s.sfld (Reg.HKA_THR1 t) 31 16

/-- One threshold after a reading `v`: `T`, hysteresis `H` and dwell `D` (R541, R542). -/
def thrStep (x : ThrSt) (broken : Bool) (v T H : Int) (D : Nat) : ThrSt :=
  if T = 0x7FFF then { entered := false }
  else if x.entered then
    let n := if !broken && v < T - H then x.leave + 1 else 0
    if D ≤ n then {} else { entered := true, leave := n }
  else
    let n := if broken then D else if T < v then x.enter + 1 else 0
    if D ≤ n then { entered := true } else { enter := n }

/-- The quads that sensor `t` covers, as a test. -/
def State.inScope (s : State) (t : Fin 28) (q : Fin 16) : Bool := bitOf (s.sensorScope t) q

/-- HKA_QUAD of every quad follows the entered thresholds: muted while a hot threshold covers it, or the critical threshold of
a diode or thermistor; bias_clr while such a critical threshold covers it (R543, R545). -/
def State.showThermal (s : State) : State :=
  s.forQuads fun s q =>
    let hot := (List.finRange 28).any fun t => s.thrEntered t 1 && s.inScope t q
    let crit := s.thermalQuads q
    (s.setBit (Reg.HKA_QUAD q) 31 (hot || crit)).setBit (Reg.HKA_QUAD q) 30 crit

/-- A warn threshold of sensor `t` was entered or left: outside SERVICE and LEAN the back-off of its quads changes at once,
in them at each quad's next welt (R544, R69). -/
def State.warnChanged (s : State) (t : Fin 28) : State :=
  if s.mode.live then s
  else s.forQuads fun s q => if s.inScope t q then s.applyBackoff q else s

/-- The action of threshold `k` of sensor `t`, which a reading `v` entered when `now` and had not entered when not `was`, or left (R543): the
back-off follows warn, and critical clears the bias of the scope, or enters SAFE where the sensor is a die sensor. -/
def State.thrAction (s : State) (t : Fin 28) (k : Fin 3) (v : Int) (was : Bool) : State :=
  let now := s.thrEntered t k
  if now = was then s
  else if k = 0 then s.warnChanged t
  else if k = 1 || !now then s
  else if t.val < 20 then (s.biasApply 6).raiseEffect 0x1202 [(1, t), (2, s.sensorScope t)]
  else (s.raise 0x1305 [(1, t), (2, toBits 16 v)]).enterSafe 0

/-- Threshold `k` of sensor `t` is judged at reading `v` (R541, R542). -/
def State.judgeThr (s : State) (t : Fin 28) (broken : Bool) (v : Int) (k : Fin 3) : State :=
  let x := s.hka.sensors[t].thr[k]
  let D := max 1 (s.fld (Reg.HKA_THR1 t) 3 0)
  let x' := thrStep x broken v (s.thrOf t k) (2 * s.fld (Reg.HKA_THR1 t) 15 8) D
  let s := s.setSensor t fun y => { y with thr := y.thr.set k x' }
  let s := s.setBit (Reg.HKA_TEMP t) (16 + k) x'.entered
  if x'.entered && !x.entered then
    (s.bump (Reg.HKA_ENTER_CNT t)).raise 0x1301 [(1, t), (1, k), (2, toBits 16 v)]
  else if !x'.entered && x.entered then s.raise 0x1302 [(1, t), (1, k), (2, toBits 16 v)]
  else s

/-- A reading `v` of sensor `t` is judged, broken for `cause` or valid: first the events of the reading itself, in ascending order of code
(R581), then what the thresholds it entered or left do (R540 to R545). -/
def State.judgeReading (s : State) (t : Fin 28) (cause : Option Nat) (v : Int) : State :=
  let was := fun (k : Fin 3) => s.thrEntered t k
  let wasBroken := s.bit (Reg.HKA_TEMP t) 31
  let s := (s.setBit (Reg.HKA_TEMP t) 31 cause.isSome).setFld (Reg.HKA_TEMP t) 15 0 (toBits 16 v)
  let s := [0, 1, 2].foldl (fun (s : State) (k : Fin 3) => s.judgeThr t cause.isSome v k) s
  let s := match cause with
    | some c => if wasBroken then s else (s.bump (Reg.HKA_BROKEN_CNT t)).raise 0x1303 [(1, t), (1, c)]
    | none => s
  [0, 1, 2].foldl (fun (s : State) (k : Fin 3) => s.thrAction t k v (was k)) s.showThermal

/-- While TEMP is the question, the tick since which no die sensor stands critical in SAFE (R573). -/
def State.noteTemp (s : State) : State :=
  if s.mode = .safe && !s.tempActive then
    if s.kpr.tempClearAt.isNone then { s with kpr := { s.kpr with tempClearAt := some s.now } } else s
  else { s with kpr := { s.kpr with tempClearAt := none } }

/-- THERMAL_SCAN: one reading of one sensor (R539): broken or valid (R540, R541), the three thresholds judged (R542), their
actions (R543 to R545), and the compensation of die sensor 4 (R126). -/
def execThermalScan (r : Reading) (s : State) : Res :=
  .next (if !s.kpr.imageLoaded then s
    else
      let (t, res) := s.convert r
      let s := match res with
        | .error cause => s.judgeReading t (some cause) 0x0960
        | .ok v =>
          let s := (s.setSensor t fun y => { y with lastValid := some v }).judgeReading t none v
          if t = 24 then s.compReading v else s
      s.noteTemp)

end Sys2Proof.Machine
end

