-- ==== Sys2Proof/Machine/RxChain.lean ====
section
/-! DEFINITION. The receive chain from the ADC codes of a U symbol to its subcarriers: the correction stage (R77), trims (R160), downconversion
(R163), the FFT window (R149), the transform and the rotation (R148, R164, R165), clipping (R84), and PRACH extraction (R166, R167).
Sample numbers count from the symbol's first CP sample on the uplink grid. -/

namespace Sys2Proof.Machine

/-- ADC samples before a symbol, and after it, that its filters reach: the operand of a U symbol holds them too. -/
def adcReach : Nat := 1024

/-- A pair of ADC codes as numbers. -/
def adcVal (x : Adc) : CInt := (x.1.toInt, x.2.toInt)

/-- The codes of a sample clip: a part stands at an end of the range (R84). -/
def clips (x : Adc) : Bool := x.1.toInt = -8192 || x.1.toInt = 8191 || x.2.toInt = -8192 || x.2.toInt = 8191

/-- The conjugate taps of a path's receive side. -/
def State.rxTaps (s : State) (p : Fin 64) : List CInt :=
  [Reg.RXP_IQ_TAP0 p, Reg.RXP_IQ_TAP1 p, Reg.RXP_IQ_TAP2 p, Reg.RXP_IQ_TAP3 p].map fun r => (s.sfld r 31 16, s.sfld r 15 0)

/-- The entry of the step table in force: its phase and its gain (R71). -/
def State.stepEntry (s : State) (p : Fin 64) : Int × Nat :=
  let r := Reg.RXP_STEP_TAB p (s.fld (Reg.RXP_AGC_STAT p) 12 8)
  (s.sfld r 15 0, s.fld r 31 16)

/-- The output of the correction stage of path `p`, s20 pairs, sample by sample (R77). -/
def State.rxCorrect (s : State) (p : Fin 64) (x : Samples) : Samples :=
  let a := x.toArray
  let c := s.rxTaps p
  let dcI := s.sfld (Reg.RXP_DC_OFS p) 27 16
  let dcQ := s.sfld (Reg.RXP_DC_OFS p) 11 0
  let turn := rotor (s.stepEntry p).1
  let g := (s.stepEntry p).2
  (List.range a.size).map fun (i : Nat) =>
    let z := rxSample ((List.range 4).map fun (k : Nat) => sampleAt a ((i : Int) - k)) c dcI dcQ
    let w := cmul z turn
    (rxScale w.1 g, rxScale w.2 g)

/-- The trimmed signal of path `p`: gain, phase, delay, in s20 pairs, with the saturation of each sample (R147, R160). -/
def State.rxTrim (s : State) (p : Fin 64) (x : Samples) : List (CInt × Bool) :=
  let g : Int := s.fld (Reg.DFE_RX_PHG p) 31 16
  let turn := phasor (s.sfld (Reg.DFE_RX_PHG p) 15 0) 65536
  let a := (x.map fun v => cmul (v.1 * g, v.2 * g) turn).toArray
  let h := delayTaps (s.sfld (Reg.DFE_RX_DLY p) 15 0)
  (List.range a.size).map fun (i : Nat) => toC 20 102 (firAt h a 1 i)

/-- Number in its frame of a U symbol's first sample at 983.04 MS/s: the uplink grid lies ul_advance ahead (R20, R153). -/
def State.ulFrameSample (s : State) (a : AirSym) : Int := (frameSample a : Int) - (8 * s.air.ulAdvance : Nat)

/-- The c24 output of the downconversion of a channel of `n` subcarriers over symbol `a`, with the saturation of each sample (R163);
`x` is the trimmed signal from `adcReach` samples before the symbol on, and `ofs` gives the channel's offset at a tick (R145). -/
def State.downconvert (s : State) (a : AirSym) (ofs : Nat → Int) (n : Nat) (x : Samples) : List (CInt × Bool) :=
  let n0 := s.ulFrameSample a - (adcReach : Nat)
  let t0 := s.ulTick a - adcReach
  let m := (x.zipIdx.map fun (v, i) => cmul v (nco (-(ofs (t0 + i))) (n0 + (i : Int)))).toArray
  let h := downTaps n
  (List.range (symLen a.sym)).map fun (i : Nat) => toC 24 88 (firAt h m 1 ((adcReach + 8 * i : Nat) : Int))

/-- The signal of path `p` up to the trims over symbol `a`, with the number of saturated trim outputs in the symbol. A path without samples
gives none. -/
def State.rxFront (s : State) (a : AirSym) (p : Fin 64) (adc : List Adc) : Samples × Nat :=
  if adc = [] then ([], 0)
  else
    let ys := s.rxTrim p (s.rxCorrect p (adc.map adcVal))
    (ys.map (·.1), ((ys.drop adcReach).take (8 * symLen a.sym)).countP (·.2))

/-- The c24 samples of a carrier over symbol `a` on one path, and the number that saturated. -/
def State.carSamples (s : State) (a : AirSym) (c : Fin 4) (x : Samples) : Samples × Nat :=
  if x = [] then ([], 0)
  else
    let ys := s.downconvert a (fun t => (s.tuneAt t).2[c]) (12 * s.carPrbs c) x
    (quiet (ys.map (·.1)), ys.countP (·.2))

/-- Subcarriers of a window of 4096 samples with N0 = `n0` and the body start `nb`: transform, mapping, and the uplink rotation, in c24, each
with its saturation (R142, R147, R148, R164, R165). A window of zeros gives none. -/
def subcarriers (n n0 nb : Nat) (x : Samples) : List (CInt × Bool) :=
  let r := rotor (rotAngle n0 nb : Int)
  (fromBins n (transform false 0 x)).map fun v => toC 24 102 (cmul v r)

/-- The FFT window of symbol `a` (R16, R149). -/
def fftWindow (a : AirSym) (x : Samples) : Samples := (x.drop (cpLen a.sym)).take 4096

/-- The antennas whose streams are zeros: retired receive sides and gated quads (R99, R152). -/
def State.rxZero (s : State) (i : Nat) : Bool :=
  s.rxRetired i || (if h : i < 64 then (s.seq.quads[quadOf ⟨i, h⟩]).st == .gated else true)

/-! ### PRACH extraction (R166, R167) -/

/-- CP of an occasion, with the 64 samples of one that starts in symbol 0 (R166). -/
def PrachOcc.cp (o : PrachOcc) : Nat := (prachShape o.sec.format).2.1 + if o.sym % 14 = 0 then 64 else 0

/-- Repetitions of an occasion (R166). -/
def PrachOcc.reps (o : PrachOcc) : Nat := (prachShape o.sec.format).1

/-- Symbols that an occasion occupies (R166). -/
def PrachOcc.span (o : PrachOcc) : Nat := (prachSyms o.sec.format).getD 0

/-- Symbol `k` lies in the occasion. -/
def PrachOcc.covers (o : PrachOcc) (k : Nat) : Bool := decide ((k + 286720 - o.sym) % 286720 < o.span)

/-- First sample of symbol `k` of an occasion, counted from its start. -/
def PrachOcc.offset (o : PrachOcc) (k : Nat) : Nat := symStart (k % 14) - symStart (o.sym % 14)

/-- Clipping ADC samples of symbol `k` that lie in the occasion's windows, at which the index is frozen (R84, R278). -/
def PrachOcc.clipsIn (o : PrachOcc) (k : Nat) (frozen : Nat → Bool) (adc : List Adc) : Nat :=
  (((adc.drop adcReach).take (8 * symLen (k % 14))).zipIdx).countP fun (x, i) =>
    let t := o.offset k + i / 8
    clips x && frozen i && decide (o.cp ≤ t) && decide (t < o.cp + 4096 * o.reps)

/-- The samples of an occasion on antenna `p` from its start on. -/
def PrachOcc.samples (o : PrachOcc) (p : Nat) : Samples :=
  (List.range o.span).flatMap fun i =>
    let k := o.sym + i
    let x := match o.parts.find? fun (j, _) => j == k with | some (_, l) => l.getD p [] | none => []
    if x = [] then List.replicate (symLen (k % 14)) (0, 0) else x

/-- The 144 bins of each repetition by antenna, and the number of values that saturated (R167), with N0 as it was in force at the occasion's
start (R164). -/
def State.prachBins (s : State) (o : PrachOcc) : List (List Samples) × Nat :=
  let c : Fin 4 := ⟨o.car % 4, Nat.mod_lt _ (by decide)⟩
  let n := 12 * s.carPrbs c
  let nb := bodyStart (symOfIdx o.sym) - cpLen (o.sym % 14) + o.cp
  let all := (List.range o.reps).map fun r => (List.range 64).map fun p =>
    ((subcarriers n (s.n0At c (s.ulTick (symOfIdx o.sym))) nb (((o.samples p).drop (o.cp + 4096 * r)).take 4096)).drop (12 * o.sec.first)).take 144
  (all.map fun l => l.map fun x => x.map (·.1), (all.flatten.map fun x => x.countP (·.2)).sum)

end Sys2Proof.Machine
end

