-- ==== Sys2Proof/Machine/KiteRx.lean ====
section
/-! DEFINITION. What the kite detector hears: the kite channel of each receive path from its ADC codes (R465, R476), the 64 beams, their correlation
with the preamble body, and the peaks in it (R476, R478). A lag counts samples of 30.72 MS/s from the opening of the listen interval to the
end of the body. -/

namespace Sys2Proof.Machine

/-! ### The kite channel (R465, R475, R476) -/

/-- The gain index of path `p` at tick `t` of the listen interval. -/
def State.kiteIndex (s : State) (p : Fin 64) (t : Nat) : Nat :=
  match s.kte.steps.reverse.find? fun x => x.1 == p.val && decide (t < x.2.1) with
  | some x => x.2.2
  | none => s.fld (Reg.RXP_AGC_STAT p) 12 8

/-- R81 leaves out the sample of tick `t` of path `p`: the index changed within the 64 samples up to it. -/
def State.kiteLeftOut (s : State) (p : Fin 64) (t : Nat) : Bool :=
  s.kte.steps.any fun x => x.1 == p.val && decide (x.2.1 ≤ t) && decide (t < x.2.1 + 64)

/-- The correction stage of path `p` over the listen interval, each sample with the index of its instant (R71, R77); samples that R81 leaves out
enter as zeros (R476). -/
def State.kiteCorrect (s : State) (p : Fin 64) (adc : List Adc) : Samples :=
  let a := (adc.map adcVal).toArray
  let c := s.rxTaps p
  let dcI := s.sfld (Reg.RXP_DC_OFS p) 27 16
  let dcQ := s.sfld (Reg.RXP_DC_OFS p) 11 0
  let entries := (List.range 32).map fun k => let r := Reg.RXP_STEP_TAB p k; (rotor (s.sfld r 15 0), s.fld r 31 16)
  (List.range a.size).map fun (i : Nat) =>
    if s.kiteLeftOut p (s.kte.openedAt + i) then (0, 0)
    else
    let (turn, g) := entries.getD (s.kiteIndex p (s.kte.openedAt + i)) ((0, 0), 0)
    let z := rxSample ((List.range 4).map fun (k : Nat) => sampleAt a ((i : Int) - k)) c dcI dcQ
    let w := cmul z turn
    (rxScale w.1 g, rxScale w.2 g)

/-- The decimation by 4 keeps the kite band (R476). DESIGN CHOICE: to the figures of R163, since R476 gives none. -/
def kiteKeeps (h : Taps) : Bool := keepsTo h 1 (ripple 2) 0 2304 && keepsTo h 0 (tenth (-8000)) (8192 - 2304) 16384

/-- The filter of the decimation by 4 (R476). -/
def kiteTaps : Array CInt := withGain 1 (freeTaps 5 0 128 kiteKeeps (sincTaps 128 126 (1 / 8) 0))

/-- The trimmed signal of path `p` over the listen interval up to now, and its kite channel at 122.88 MS/s, each sample with its saturation; a path
that is not live gives none (R145, R147, R163, R465, R476). -/
def State.kiteFront (s : State) (p : Fin 64) (adc : List Adc) : List (CInt × Bool) × Array (CInt × Bool) :=
  let adc := adc.take (s.now - s.kte.openedAt)
  if adc = [] || s.rxZero p then ([], #[])
  else
    let a := symOfIdx (s.kte.listen.getD 0)
    let n0 : Int := (frameSample a : Int) + ((s.kte.openedAt : Int) - s.dlTick a)
    let ofs := fun (t : Nat) => (s.fld Reg.KTE_FREQ 19 0 : Int) - 6 * ((s.tuneAt t).1 : Int)
    let x := s.rxTrim p (s.kiteCorrect p adc)
    let m := (x.zipIdx.map fun (v, i) => cmul v.1 (nco (-(ofs (s.kte.openedAt + i))) (n0 + (i : Int)))).toArray
    let h := downTaps 576
    (x, (Array.range (m.size / 8)).map fun (i : Nat) => toC 24 88 (firAt h m 1 ((8 * i : Nat) : Int)))

/-- The kite channel of path `p` at 122.88 MS/s from the opening of the listen interval on. -/
def State.kiteChannel (s : State) (p : Fin 64) (adc : List Adc) : Array CInt := (s.kiteFront p adc).2.map (·.1)

/-- Samples of the trims and of the kite channel of path `p` that saturated in the listen interval (R147). -/
def State.kiteSat (s : State) (p : Fin 64) (adc : List Adc) : Nat :=
  let (x, y) := s.kiteFront p adc
  x.countP (·.2) + y.toList.countP (·.2)

/-- The kite channel of path `p` at 30.72 MS/s, in units of 2^−40 (R476). -/
def State.kiteStream (s : State) (p : Fin 64) (adc : List Adc) : Samples :=
  let y := s.kiteChannel p adc
  quiet ((List.range (y.size / 4)).map fun (i : Nat) => firAt kiteTaps y 1 ((4 * i : Nat) : Int))

/-! ### Beams and correlation (R208, R476) -/

/-- Beam `b` of the kite channels (R208). -/
def State.kiteBeam (s : State) (ys : List Samples) (b : Nat) : Array CInt :=
  let n := ys.foldl (fun n y => max n y.length) 0
  let w := (s.dftBeam b).map cconj
  let parts := (w.zip (ys.map (·.toArray))).filter fun x => x.2.size ≠ 0
  (Array.range n).map fun (i : Nat) => parts.foldl (fun acc (c, y) => cadd acc (cmul c (sampleAt y i))) (0, 0)

/-- The preamble body at 30.72 MS/s (R467, R476). -/
def preambleBody (root : Nat) : Array CInt :=
  let w := (Array.range 1024).map fun (k : Nat) => phasor k 1024
  let xs := (kiteRes root [] 0).zipIdx.filter fun v => v.1 != (0, 0)
  (Array.range 1024).map fun (n : Nat) =>
    xs.foldl (fun acc (x, i) => cadd acc (cmul x (sampleAt w (((i : Int) - 288) * n % 1024)))) (0, 0)

/-- The correlation of a beam with the body at a lag (R476). -/
def correlateBody (body z : Array CInt) (lag : Int) : CInt :=
  (List.range 1024).foldl (fun acc (n : Nat) =>
    let v := sampleAt z (lag - 1024 + n)
    if v = (0, 0) then acc else cadd acc (cmul (cconj (sampleAt body n)) v)) (0, 0)

/-- The offset of the maximum from the middle one of three powers (R478). -/
def parabola (a b c : Nat) : Rat :=
  let d : Int := (a : Int) - 2 * b + c
  if d = 0 then 0 else mkRat 1 2 * ((a : Int) - c : Int) / (d : Rat)

/-- The peak of beam `b` at `lag` in the ADC codes of the listen interval, one a tick from its opening on: a local maximum over beams and lags
whose ratio to the mean of the previous 1024 lags of the beam reaches det_thr; of two beams at one lag the stronger, then the lower, has it
(R476). -/
def State.heardPeak (s : State) (b : Fin 64) (lag : Nat) (adc : Vector (List Adc) 64) : Option KitePeak :=
  let ys := (List.finRange 64).map fun (p : Fin 64) => s.kiteStream p adc[p]
  let body := preambleBody (s.fld Reg.KTE_FREQ 29 20)
  let z := s.kiteBeam ys b
  let at_ := fun l : Int => power (correlateBody body z l)
  let c := correlateBody body z lag
  let (below, here, above) := (at_ ((lag : Int) - 1), power c, at_ ((lag : Int) + 1))
  let beaten := (List.finRange 64).any fun (k : Fin 64) =>
    k != b && (let e := power (correlateBody body (s.kiteBeam ys k) lag); decide (here < e) || (e == here && decide (k.val < b.val)))
  let sum := ((List.range 1024).map fun (i : Nat) => at_ ((lag : Int) - 1024 + i)).sum
  let enough := decide (tenth (50 * (s.fld Reg.KTE_RX_CFG 31 24 : Int)) * (sum : Rat) ≤ (1024 * here : Nat))
  if 0 < here ∧ below < here ∧ above ≤ here ∧ beaten = false ∧ enough = true then
    let t := s.kte.openedAt * 65536 + (roundRat (2097152 * ((lag : Rat) + parabola below here above))).toNat
    some { beam := b, lag := lag, c := c, fit := { tick := t } }
  else none

/-- The preamble power of each beam, over both symbols of the preamble. -/
def State.preamblePowers (s : State) (l1 l2 : Nat) (adc : Vector (List Adc) 64) : List Nat :=
  let ys := (List.finRange 64).map fun (p : Fin 64) => s.kiteStream p adc[p]
  let body := preambleBody (s.fld Reg.KTE_FREQ 29 20)
  (List.range 64).map fun k =>
    let z := s.kiteBeam ys k
    power (correlateBody body z l1) + power (correlateBody body z l2)

/-- The beams by number with their powers: the one of the largest power, the first among equals. -/
def topBeam (l : List (Nat × Nat)) : Nat := (l.foldl (fun (b : Option (Nat × Nat)) v =>
  match b with
  | some x => if x.1 < v.1 then some v else b
  | none => some v) none).elim 0 (·.2)

/-- The beam of highest preamble power (R480). -/
def State.bestBeam (s : State) (l1 l2 : Nat) (adc : Vector (List Adc) 64) : Nat := topBeam (s.preamblePowers l1 l2 adc).zipIdx

/-- The `n` beams of highest power. -/
def topBeams : Nat → List (Nat × Nat) → List Nat
  | 0, _ => []
  | n + 1, l => let k := topBeam l; k :: topBeams n (l.filter fun v => v.2 != k)

/-! ### The decoder (R469, R479) -/

/-- The 576 subcarriers of data symbol `t` of the beacon whose first peak is `p`, on each of the beams `bs`. The FFT windows count from the arrival
instant at RXIN and the receiver's symbol lengths. -/
def State.kiteData (s : State) (p : KitePeak) (bs : List Nat) (adc : Vector (List Adc) 64) (t : Nat) : List (Array CInt) :=
  let sym := fun i => symOfIdx (s.kte.listen.getD 0 + i)
  let a := sym (2 + t)
  let arrived : Int := (p.fit.tick : Int) - (s.kte.openedAt * 65536 : Nat) - ((4096 + cpLen (sym 0).sym) * 8 * 65536 : Nat)
  let from_ := roundDiv arrived (8 * 65536) + (((List.range (2 + t)).map fun i => symLen (sym i).sym).sum + cpLen a.sym : Nat)
  let ys := (List.finRange 64).map fun (k : Fin 64) =>
    let y := s.kiteChannel k adc[k]
    let x := quiet ((List.range 4096).map fun (i : Nat) => sampleAt y (from_ + (i : Int)))
    ((subcarriers 576 (s.fld Reg.KTE_FREQ 19 0) (bodyStart a) x).map (·.1))
  bs.map fun b => s.kiteBeam ys b

/-- The soft values of data symbol `t`, positive for a bit 0, two for each data subcarrier in ascending order (R468, R479): on each beam the channel at
the pilots, between two of them linear and beyond the last that of the last, and the beams combined by it. The common phase of the symbol is in
the channel, which is the symbol's own. -/
def kiteSoft (root t : Nat) (zs : List (Array CInt)) : List Int :=
  let c := (goldSeq (16 * root + t) 288).toArray
  let sign := fun i => if c.getD i false then (-1 : Int) else 1
  let pilot := fun (z : Array CInt) (m : Nat) => let m := min m 143; cmul (sampleAt z (4 * m : Nat)) (sign (2 * m), -(sign (2 * m + 1)))
  let value := fun i =>
    zs.foldl (fun (acc : CInt) z =>
      let (p, q) := (pilot z (i / 4), pilot z (i / 4 + 1))
      let r : Int := (i % 4 : Nat)
      let h : CInt := ((4 - r) * p.1 + r * q.1, (4 - r) * p.2 + r * q.2)
      cadd acc (cmul (cconj h) (sampleAt z (i : Nat)))) (0, 0)
  ((List.range 576).filter fun i => i % 4 != 0).flatMap fun i => let v := value i; [v.1, v.2]

/-- What the branch with register `w` gives for the soft values of a step. -/
def branchMetric (w : Nat) (l : Int × Int × Int) : Int :=
  let f := fun g x => if convTap g w then -x else x
  f 0o133 l.1 + f 0o171 l.2.1 + f 0o165 l.2.2

/-- The better of two paths, the first among equals. -/
def betterPath (x y : Option (Int × List Bool)) : Option (Int × List Bool) :=
  match x, y with
  | some a, some b => if a.1 < b.1 then y else x
  | some _, none => x
  | none, _ => y

/-- One step of the decoder: to each state, the six latest bits, the better of the two paths into it. -/
def viterbiStep (m : Array (Option (Int × List Bool))) (l : Int × Int × Int) : Array (Option (Int × List Bool)) :=
  let ms := (Array.range 128).map fun w => branchMetric w l
  (Array.range 64).map fun n =>
    let path := fun k => (m.getD k none).map fun (x : Int × List Bool) => (x.1 + ms.getD (k + 64 * (n / 32)) 0, decide (32 ≤ n) :: x.2)
    betterPath (path (2 * (n % 32))) (path (2 * (n % 32) + 1))

/-- The bits of the tail-biting path of the largest metric, of which each begins and ends in one state. -/
def viterbi (ls : List (Int × Int × Int)) : List Bool :=
  let best := (List.range 64).foldl (fun b k =>
    betterPath b ((ls.foldl viterbiStep ((Array.range 64).map fun i => if i = k then some (0, []) else none)).getD k none)) none
  match best with
  | some x => x.2.reverse
  | none => []

/-- The 34 bytes of the beacon with peaks `p` and `q`: the soft values of the repetitions summed, and decoded (R469, R479). -/
def State.kiteDecode (s : State) (p q : KitePeak) (adc : Vector (List Adc) 64) : List Byte :=
  let bs := topBeams 4 (s.preamblePowers p.lag q.lag adc).zipIdx
  let soft := ((List.range 4).flatMap fun t => kiteSoft (s.fld Reg.KTE_FREQ 29 20) t (s.kiteData p bs adc t)).toArray
  let sum := fun k => ((List.range 5).map fun i => soft.getD (k + 816 * i) 0).sum
  let bits := viterbi ((List.range 272).map fun k => (sum k, sum (272 + k), sum (544 + k)))
  bitBytes 34 bits

end Sys2Proof.Machine
end

