-- ==== Sys2Proof/Machine/Turnaround.lean ====
section
/-! DEFINITION. Chapter 01, the turnaround tables (R33 to R41), with what other chapters hang on their instants: the
attenuation (R69) and back-off (R544) of a quad that enters TRANSMIT, the bias strobes (R524), the guard's periods
(R304), mutes and bias restores (R305 to R308), and the quads' transitions (R320, R322). -/

namespace Sys2Proof.Machine

/-- The turnaround is one of the whole chip, not a burst of one quad. -/
def turnIsChip : Turn → Bool
  | .burst _ => false
  | _ => true

/-- Turnaround `t` is one of the whole chip that is under way: one around a kite window only where the chip transmits in it (R463). -/
def State.turnHere (s : State) (t : Turn) : Bool := turnIsChip t && (t != .kite || s.kte.turn.isSome)

/-- The instant is that of the RX→TX welt of the window that begins in `a`, 3200 ns before its air start. -/
def State.kiteWeltAt (s : State) (a : AirSym) : Bool := decide (0 ≤ s.ticksTo (symPos a)) && decide (s.ticksTo (symPos a) ≤ 3146)

/-- The turnaround of a kite window begins with the welt before a window that the chip transmits in, which ends a suspension (R463, R466). That
of a burst begins with its quad, in SERVICE and LEAN at the start of the CAL group (R342). -/
def State.startTurn (s : State) (t : Turn) : State :=
  match t with
  | .pattern => s
  | .kite =>
    let a := nextSym (airAt s.airPos).1
    if s.kiteSends a && s.kiteWeltAt a then s.resumeKite.setKite fun k => { k with turn := some (symIdx a) } else s
  | .burst b =>
    match s.seq.burst with
    | some x =>
      let inTime := match x.span with | some (t, _) => t == s.now | none => true
      if x.quad.val = 16 * s.position + b.val && inTime then
        { s with seq := { s.seq with burst := some { x with turn := true } } }
      else s
    | none => s

/-- A change to the quads that take part in turnaround `t`. -/
def State.takers (s : State) (t : Turn) (f : Quad → Quad) : State := s.quadsWhere (s.takesPart t) f

/-- A change to the quads that follow the receive-side events of turnaround `t`. -/
def State.followers (s : State) (t : Turn) (f : Quad → Quad) : State := s.quadsWhere (s.followsRx t) f

/-! ### RX→TX (R36) -/

/-- The AGC of the following quads leaves its frozen state (R36, R39). -/
def State.unfreeze (s : State) (t : Turn) : State :=
  s.forPaths fun s p =>
    if s.followsRx t (quadOf p) then
      (s.setFrozen p false).setPath p fun x => { x with agcArmed := false }
    else s

/-- Quad `q` in RECEIVE enters TRANSMIT at the start of the welt (R320); its pending attenuations and its back-off take
effect (R69, R544). -/
def State.enterTransmit (s : State) (q : Fin 16) : State :=
  if (s.seq.quads[q]).st = .receive then
    let s := s.setQuad q fun x => { x with st := .transmit }
    ((pathsOf q).foldl (fun s p => s.applyAtten p) s).applyBackoff q
  else s

/-- RX_TX_WELT_START: the welt begins; RX gates close, the AGC leaves its frozen state and quads enter TRANSMIT (R36, R320).
At a pattern boundary every quad that is not in TRANSMIT then sits out the whole run, blanked (R330). -/
def execRxTxWeltStart (t : Turn) (s : State) : Res :=
  let s := s.startTurn t
  let s := (s.unfreeze t).pathsWhere (s.followsRx t) fun x => { x with rxGate := false }
  let s := s.forQuads fun s q =>
    match t with
    | .burst b => if b = q && s.burstTurn q then s.enterTransmit q else s
    | .kite => if s.kte.turn.isSome then s.enterTransmit q else s
    | .pattern => s.enterTransmit q
  let s := if s.turnHere t then { s with air := { s.air with rxClosed := true } } else s
  .next (match t with
    | .pattern =>
      let s := { s with air := { s.air with inRun := true } }
      s.forQuads fun s q =>
        s.setQuad q fun x => { x with sitsOut := x.st != .transmit, blankCounted := false }
    | _ => s)

/-- RX_STAGES_DISABLE at −3000 ns (R36). -/
def execRxStagesDisable (t : Turn) (s : State) : Res :=
  let s := s.pathsWhere (s.followsRx t) fun x => { x with rxStage := false }
  .next (if s.turnHere t then { s with air := { s.air with rxOff := true } } else s)

/-- LNA_PROTECT_RISE at −2900 ns: LNAPq rises on every quad that follows, also one that sits the run out (R33, R318). -/
def execLnaProtectRise (t : Turn) (s : State) : Res :=
  let s := s.followers t fun x => { x with lnap := true }
  .next (if s.turnHere t then { s with air := { s.air with lnaProtected := true } } else s)

/-- TRSW_TO_TRANSMIT at −2800 ns: TRSWq changes to transmit on the quads that take part (R33, R36). -/
def execTrswToTransmit (t : Turn) (s : State) : Res := .next (s.takers t fun x => { x with trsw := true })

/-- The guard's bias restore at the TX-on strobe instant of a downlink run (R307, R308): an on-period clear ends; an
off-period clear ends unless the path's envelope `env` lies above fwd_off. -/
def State.guardRestore (s : State) (env : Vector Int 3) (p : Fin 64) : State :=
  let d := s.dpd.paths[p]
  if (s.seq.quads[quadOf p]).st = .transmit then
    let offStays := d.biasOff && (match s.fwdLevel p false with | some lv => decide (lv < s.filtered env) | none => false)
    let s := s.setDpd p fun d => { d with biasOn := false, biasOff := offStays }
    if offStays then s
    else s.forBias fun s c => if isGate c && s.gatePath c = p then s.biasRelease c 4 else s
  else s

/-- TX_ON_STROBE at −1600 ns: groups bound to the TX-on edge load code_on (R36, R524), and the guard's bias clears are
judged with the filtered envelopes of the paths (R307, R308). -/
def execTxOnStrobe (t : Turn) (env : Vector (Vector Int 3) 64) (s : State) : Res :=
  let s := s.tddStrobe (s.takesPart t) false
  .next (match t with
    | .pattern => s.forPaths fun s p => s.guardRestore env[p] p
    | _ => s)

/-- The PAENq edges of turnaround `t`: one of edge_quad in the direction of edge_fall is a trigger of the housekeeping ADC to come (R534). -/
def State.paEdge (s : State) (t : Turn) (fall : Bool) : State :=
  if s.fld Reg.HKA_SEQ_CFG 31 30 = 3 && s.bit Reg.HKA_SEQ_CFG 21 == fall
      && (List.finRange 16).any fun q => s.fld Reg.HKA_SEQ_CFG 20 16 = q.val && s.takesPart t q then
    { s with hka := { s.hka with edges := s.hka.edges ++ [s.now] } }
  else s

/-- PA_ENABLE_RISE at −400 ns (R36, R40). -/
def execPaEnableRise (t : Turn) (s : State) : Res :=
  let s := (s.takers t fun x => { x with paen := true }).paEdge t false
  .next (match t with
    | .burst b => if s.takesPart t b then { s with seq := { s.seq with burstPa := some s.now } } else s
    | _ => s)

/-- A shadowed update of path `p` takes effect, unless freeze holds it: the table in force and the shadow change places (R289, R300), and the
visit whose update it is waits for its verifying capture (R299). -/
def State.applyShadow (s : State) (p : Fin 64) : State :=
  match (s.dpd.paths[p]).shadow, (s.dpd.paths[p]).shadowDue && !s.bit (Reg.DPD_CTRL p) 31 with
  | some (b, new), true =>
    let old := s.bankTable p b
    let s := (List.zip (List.range 520) new).foldl (fun s (i, w) => s.wr (Reg.DPD_LUT p b (i / 65) (i % 65)) w) s
    let src := (s.dpd.paths[p]).shadowSrc
    let s := s.setDpd p fun d => { d with shadow := some (b, old), shadowDue := false, shadowSrc := none }
    (List.finRange 8).foldl (fun s l =>
      match s.dpd.visits[l] with
      | some v =>
        if v.path = p && v.bank = b then
          s.setVisit l (some { v with verify := src.bind fun c => if c.visit = v.id then some c.nmse else none })
        else s
      | none => s) s
  | _, _ => s

/-- The guard mute of path `p` ends with the downlink run (R305). -/
def State.unmuteRun (s : State) (p : Fin 64) : State :=
  if (s.dpd.paths[p]).muteCal then s else s.setBit (Reg.DPD_TRIP_STAT p) 31 false

/-- The guard of path `p` takes its on-period thresholds, a new run's record begins, and a mute left from before ends
(R304, R305, R309). A retired side keeps fwd_off. -/
def State.guardOn (s : State) (p : Fin 64) : State :=
  let s := s.unmute p
  if s.txRetired p then s
  else (s.setDpd p fun d => { d with onPeriod := true, recorded := false }).judgeAfresh p

/-- The cluster of the D symbol that begins next, 250 ns from now: the one that was resolved for it, or that of the last D symbol where it has
no job (R205, R286). -/
def State.comingCluster (s : State) : Nat :=
  match s.bmx.jobs.find? fun j => j.a == nextSym (airAt s.airPos).1 with
  | some j => j.cluster.getD s.bmx.lastCluster
  | none => s.bmx.lastCluster

/-- DPD_BANK_SELECT at −250 ns: the bank of the first D symbol's cluster is selected, due updates take effect, and the
guard changes to its on-period thresholds (R36, R286, R289, R304). -/
def execDpdBankSelect (t : Turn) (s : State) : Res :=
  let cluster := s.comingCluster
  .next (s.forPaths fun s p =>
    if s.takesPart t (quadOf p) then
      let s := match t with
        | .pattern => (s.applyShadow p).setDpd p fun d => { d with bank := cluster }
        | .kite => (s.applyShadow p).setDpd p fun d => { d with bank := s.fld Reg.KTE_TX_CFG 26 24 }
        | _ => s
      s.guardOn p
    else s)

/-- The subcarrier offset of path `p`'s tones in a burst: the four paths of a quad differ (R342). -/
def burstOffset (p : Fin 64) : Nat := 4 * Config.toneOffset (p.val / 4) + p.val % 4

/-- DAC_OUTPUT_ENABLE at −100 ns: DAC outputs at zero code (R36). For a burst, whose four paths transmit from the anchor on, the gates that are
free open here, and the tones of R133 begin, each path's at its own subcarrier offset (R342). -/
def execDacOutputEnable (t : Turn) (s : State) : Res :=
  let s := s.pathsWhere (s.takesPart t) fun x => { x with dacOn := true }
  .next (match t with
    | .burst _ => s.forPaths fun s p =>
      if s.takesPart t (quadOf p) then
        let s := s.setPath p fun x => { x with txGate := s.gateFree p }
        if s.gateFree p then { s with out := .tones p (burstOffset p) :: s.out } else s
      else s
    | _ => s)

/-! ### TX→RX (R35) -/

/-- The transmission that a turnaround ends has passed through the transmit chain: the last D symbol of a run, a beacon, or the tones of a
burst (R63, R147, R158, R283, R342, R465). -/
def State.endSignal (s : State) (t : Turn) : State :=
  match t with
  | .pattern => s.endTx none
  | .kite =>
    match s.kte.beacon, s.kte.payload with
    | some a, some (_, bs) =>
      let s := s.endBeacon a bs
      let s := if s.kte.cut then s else (s.bump Reg.KTE_TX_CNT).setKite fun k => { k with sent := k.sent + 1 }
      s.setKite fun k => { k with beacon := none, taken := [] }
    | _, _ => s
  | .burst q =>
    match s.seq.burstPa with
    | some r => (pathsOf q).foldl (fun s p => s.toneEnd p 29488 (2 * (s.now - r))) s
    | none => s

/-- The TX→RX anchor of turnaround `t` can lie here: that of a burst in SERVICE and LEAN is 3200 ns before the end of its CAL group (R342). -/
def State.anchorHere (s : State) (t : Turn) : Bool :=
  match t, s.seq.burst with
  | .burst _, some x => (match x.span with | some (_, e) => s.now + 3146 == e | none => true)
  | _, _ => true

/-- TX_RX_ANCHOR: the transmission ends, the TX gates close and the DACs hold the zero code (R35, R64); guard mutes of the run end (R305). The
spec names no instant at which the DAC output that R36 enables is disabled again: the model disables it here. -/
def execTxRxAnchor (t : Turn) (s : State) : Res :=
  if !s.anchorHere t then .next s else
  let s := s.endSignal t
  let s := s.pathsWhere (s.takesPart t) fun x => { x.shut s.now with dacOn := false }
  let s := s.forPaths fun s p => if s.takesPart t (quadOf p) then s.unmute p else if s.turnHere t then s.unmuteRun p else s
  .next (match t with
    | .pattern =>
      let s := { s with air := { s.air with onAir := none, inRun := false } }
      s.forQuads fun s q => s.setQuad q fun x => { x with sitsOut := false, blankCounted := false }
    | _ => s)

/-- PA_ENABLE_FALL at +100 ns (R35, R40). A burst's time with PAENq at 1 joins the transmit time of R350. -/
def execPaEnableFall (t : Turn) (s : State) : Res :=
  let s := (s.takers t fun x => { x with paen := false }).paEdge t true
  .next (match t with
    | .burst b => if s.takesPart t b then s.endBurstPa else s
    | _ => s)

/-- TX_OFF_STROBE at +200 ns: groups bound to the TX-off edge load code_off (R35, R524). -/
def execTxOffStrobe (t : Turn) (s : State) : Res := .next (s.tddStrobe (s.takesPart t) true)

/-- CAPTURE_CLOSE at +250 ns: observation capture closes, and the guard changes to its off-period watch (R35, R304); a new
off period's record begins (R309). -/
def execCaptureClose (t : Turn) (s : State) : Res :=
  .next (s.forPaths fun s p =>
    if s.takesPart t (quadOf p) then (s.setDpd p fun d => { d with onPeriod := false, recorded := false }).judgeAfresh p else s)

/-- TRSW_TO_RECEIVE at +400 ns (R35). -/
def execTrswToReceive (t : Turn) (s : State) : Res := .next (s.takers t fun x => { x with trsw := false })

/-- LNA_PROTECT_RELEASE at +1500 ns (R35). -/
def execLnaProtectRelease (t : Turn) (s : State) : Res :=
  let s := s.followers t fun x => { x with lnap := false }
  .next (if s.turnHere t then { s with air := { s.air with lnaProtected := false } } else s)

/-- RX_STAGES_ENABLE at +2000 ns (R35). -/
def execRxStagesEnable (t : Turn) (s : State) : Res :=
  let s := s.pathsWhere (s.followsRx t) fun x => { x with rxStage := true }
  .next (if s.turnHere t then { s with air := { s.air with rxOff := false } } else s)

/-- AGC_ARM at +2400 ns: the AGC of every following path is reset to its start index and armed, with the settings written
since the last arming (R35, R39, R78, R79, R80). -/
def execAgcArm (t : Turn) (s : State) : Res :=
  .next (s.forPaths fun s p => if s.followsRx t (quadOf p) then s.armAgc p else s)

/-- Quad `q` ends the welt: from TRANSMIT to RECEIVE (R320); a power-down request held during the run then runs at once
(R322), and a quad that a quad-out job has taken goes on to STANDBY (R336). -/
def State.leaveTransmit (s : State) (q : Fin 16) : State :=
  if (s.seq.quads[q]).st = .transmit then
    let s := s.setQuad q fun x => { x with st := .receive }
    if (s.seq.quads[q]).deferred = some false then s.enterFalling q
    else if (s.seq.quads[q]).quadOut then s.enterStandby q else s
  else s

/-- The burst in progress has quad `b` of some chip of the cascade under measurement. -/
def State.burstOf (s : State) (b : Fin 16) : Bool :=
  match s.seq.burst with
  | some x => decide (x.quad.val % 16 = b.val)
  | none => false

/-- WELT_END at +3200 ns: RX samples are valid, and quads pass from TRANSMIT to RECEIVE (R35, R320, R322). A burst ends on every chip of the
cascade, and the LNAs of quads in STANDBY are protected again (R318, R342). -/
def execWeltEnd (t : Turn) (s : State) : Res :=
  let s := s.pathsWhere (s.followsRx t) fun x => { x with rxGate := true }
  let s := s.forQuads fun s q =>
    match t with
    | .burst b => if b = q && s.burstTurn q then s.leaveTransmit q else s
    | .kite => if s.kte.turn.isSome then s.leaveTransmit q else s
    | .pattern => s.leaveTransmit q
  .next (match t with
    | .burst b =>
      if s.burstOf b then
        let s := { s with seq := { s.seq with burst := none } }
        s.quadsWhere (fun q => (s.seq.quads[q]).st == .standby) fun x => { x with lnap := true }
      else s
    | .pattern => { s with air := { s.air with rxClosed := false } }
    | .kite =>
      if s.kte.turn.isSome then { s.setKite fun k => { k with turn := none } with air := { s.air with rxClosed := false } } else s)

/-! ### The U symbol's gain control (R39, R81 to R83) -/

/-- AGC_WINDOW_END: one window of 256 ADC samples in the CP of the first U symbol `a` (R81, R82). -/
def execAgcWindowEnd (p : Fin 64) (a : AirSym) (adc : List Adc) (s : State) : Res := .next (s.agcWindow p a adc)

/-- AGC_FREEZE at the FFT window start of the first U symbol (R39, R83). -/
def execAgcFreeze (s : State) : Res := .next s.freezeAgc

end Sys2Proof.Machine
end

