-- ==== Sys2Proof/Machine/Symbol.lean ====
section
/-! DEFINITION. The life of a symbol from its commit point to its air start (R46 to R50, R55, R151, R178, R203 to R206, R348 to R350,
R328, R331, R41), for downlink and uplink symbols. -/

namespace Sys2Proof.Machine

/-! ### The window (R46, R570, R571) -/

/-- Symbol number `e` is not later than symbol number `k`, resolved within half a cycle (R19). -/
def notLater (e k : Nat) : Bool := (k + 286720 - e) % 286720 < 143360

/-- Work for an air start at tick `t` is kept: in SERVICE and LEAN, and in READY from the go-live anchor on (R570, R571). -/
def State.liveFor (s : State) (t : Nat) : Bool :=
  s.mode.live
    || (s.mode == .ready && s.bit Reg.KPR_LIVE_AIR 31
      && match parseStamp (s.fld Reg.KPR_LIVE_AIR 18 0 * 0x200000) with
        | some (a, _) => decide (s.dlTick a ≤ t)
        | none => false)

/-- A symbol's job, changed. -/
def State.setJob (s : State) (a : AirSym) (f : SymJob → SymJob) : State :=
  s.setBmx fun m => { m with jobs := m.jobs.map fun j => if j.a = a then f j else j }

/-- The job of a symbol whose commit point has passed. -/
def State.jobOf (s : State) (a : AirSym) : Option SymJob := s.bmx.jobs.find? fun j => j.a == a

/-! ### Commit point (R46 to R50) -/

/-- Sections in direction `ul` that cover a symbol on a carrier, with the PRBs that are left to them. -/
def State.secsAt (s : State) (a : AirSym) (c : Nat) : List JobSec :=
  s.bmx.held.filterMap fun h =>
    if h.car = c ∧ h.slot = slotIdx a then
      match h.cover.find? fun (k, _) => k == a.sym.val with
      | some (_, m) => if m = 0 then none else some { no := h.no, sec := h.sec, prbs := m, refused := h.refused }
      | none => none
    else none

/-- Layer data of a symbol on a carrier. -/
def State.dataAt (s : State) (a : AirSym) (c : Nat) : List Udl := s.bmx.udl.filter fun d => d.car == c && d.sym == symIdx a

/-- PRBs of a layer that downlink sections cover. -/
def coverOf (secs : List JobSec) (layer : Nat) : Nat :=
  secs.foldl (fun m x =>
    match x.sec with
    | .dl d => if !x.refused && d.l0 ≤ layer && layer < d.l0 + d.nLayer then Nat.lor m x.prbs else m
    | _ => m) 0

/-- PRBs of a layer for which there is data. -/
def dataOf (data : List Udl) (layer : Nat) : Nat :=
  data.foldl (fun m d => if d.layer = layer then Nat.lor m d.left else m) 0

/-- A section has a PRB of a layer for which there is no data (R49). -/
def JobSec.noData (x : JobSec) (data : List Udl) : Bool :=
  match x.sec with
  | .dl d => !x.refused && (List.range d.nLayer).any fun j => maskMinus x.prbs (dataOf data (d.l0 + j)) != 0
  | _ => false

/-- Orders and data of symbol `a` and of earlier ones leave the stores; `stale` data of an earlier symbol that had no commit point
in its direction counts as orphaned (R47). -/
def State.purge (s : State) (a : AirSym) (ul : Bool) : State :=
  let k := symIdx a
  let s := if ul then s else
    (List.range 4).foldl (fun s c =>
      s.bumpBy (Reg.PKT_UDL_ORPHAN_CNT c)
        (s.bmx.udl.filter fun d => d.car == c && d.sym != k && notLater d.sym k).length) s
  s.setBmx fun m =>
    { m with
      udl := if ul then m.udl else m.udl.filter fun d => !notLater d.sym k,
      ordered := m.ordered.filter fun (_, e, u) => u != ul || !notLater e k,
      held := (m.held.map fun h =>
          if (h.sec.stype != 0) = ul then
            { h with cover := h.cover.filter fun (y, m) => m != 0 && !notLater (h.slot * 14 + y) k }
          else h).filter fun h => h.cover != [] }

/-- Transmit time of the duty list inside the `w` samples that end at tick `t` (R350). -/
def dutyIn (l : List (Nat × Nat)) (t w : Nat) : Nat :=
  l.foldl (fun n (e, len) =>
    let lo : Int := max ((e : Int) - len * 8) ((t : Int) - w * 8)
    let hi : Int := min (e : Int) t
    n + ((hi - lo).toNat / 8)) 0

/-- The symbol of `len` samples that ends at tick `t` would break a duty limit (R350). -/
def State.dutyOver (s : State) (t len : Nat) : Bool :=
  decide (s.fld Reg.SEQ_REG_LIM1 23 16 * 1228800 < 200 * (dutyIn s.seq.duty t 1228800 + len))
    || decide (s.fld Reg.SEQ_REG_LIM1 7 0 * 122880000 < 200 * (dutyIn s.seq.duty t 122880000 + len))

/-- The duty limits are in force: an image is loaded, and every image carries a lock record (R346, R552). -/
def State.dutyLimited (s : State) : Bool := s.kpr.imageLoaded

/-- The quads that the thermal rules mute (R545). -/
def State.mutedQuads (s : State) : Nat := maskOf 16 fun i => s.bit (Reg.HKA_QUAD i) 31

/-- Layer data of a symbol on a carrier that no section covers is counted (R47). -/
def State.countOrphans (s : State) (a : AirSym) (c : Nat) : State :=
  let secs := s.secsAt a c
  s.bumpBy (Reg.PKT_UDL_ORPHAN_CNT c) ((s.dataAt a c).countP fun d => maskMinus d.left (coverOf secs d.layer) != 0)

/-- A carrier's part of a downlink symbol at its commit point: fixed, counted under R47, and judged under R48 and R49. -/
def State.commitCar (s : State) (a : AirSym) (c : Nat) : JobCar × State :=
  let secs := s.secsAt a c
  let data := s.dataAt a c
  let s := s.countOrphans a c
  let ord := s.carIn c && s.bmx.ordered.any fun (k, e, u) => k == c && e == symIdx a && !u
  ({ ordered := ord, secs := if s.carIn c then secs else [], data := data,
     gain := s.fld (Reg.DFE_CAR_GAIN c) 15 0, dlGain := s.fld (Reg.BMX_CAR_SCALE c) 15 0, noOrder := s.carIn c && !ord,
     noData := if ord then secs.countP fun x => x.noData data else 0 }, s)

/-- The commit point of a D symbol (R46 to R49), with the checks of R328, R350 and R545. -/
def State.commitD (s : State) (a : AirSym) : State :=
  let (c0, s) := State.commitCar s a 0
  let (c1, s) := State.commitCar s a 1
  let (c2, s) := State.commitCar s a 2
  let (c3, s) := State.commitCar s a 3
  let cars : Vector JobCar 4 := #v[c0, c1, c2, c3]
  let any := cars.toList.any fun c => c.ordered
  let len := symLen a.sym
  let t := s.dlTick a + len * 8
  let tooLong := any && s.dutyLimited && s.dutyOver t len
  let s := if tooLong then s.bump Reg.SEQ_DUTY_BLANK_CNT else s
  let keep := s.seq.duty.filter fun (e, _) => decide (s.now < e + ticksPerS)
  let s := { s with seq := { s.seq with duty := if any && !tooLong then (t, len) :: keep else keep } }
  let j : SymJob :=
    { a := a, cars := cars, dark := s.mode == .lean && !any, duty := tooLong, muted := s.mutedQuads }
  (s.setBmx fun m => { m with jobs := m.jobs ++ [j] }).purge a false

/-- The commit point of a U symbol (R46, R50): its sections are fixed, and the PRACH occasions that start in it are noted. -/
def State.commitU (s : State) (a : AirSym) : State :=
  let car := fun c : Nat => ({
    ordered := s.carIn c && s.bmx.ordered.any (fun (k, e, u) => k == c && e == symIdx a && u),
    secs := if s.carIn c then s.secsAt a c else [] } : JobCar)
  let occ := (List.range 4).flatMap fun c => (car c).secs.filterMap fun x =>
    match x.sec with
    | .prach y => if y.start = a.sym.val then some { car := c, sym := symIdx a, sec := y : PrachOcc } else none
    | _ => none
  let s := { s with ulr := { s.ulr with prach := s.ulr.prach ++ occ } }
  (s.setBmx fun m => { m with jobs := m.jobs ++ [{ a := a, cars := #v[car 0, car 1, car 2, car 3] }] }).purge a true

/-- The duty check of a beacon at the commit point of its first symbol `a` (R473). -/
def State.commitKite (s : State) (a : AirSym) : State :=
  let syms := windowSyms a
  let len := (syms.map fun b => symLen b.sym).foldl (· + ·) 0
  let t := s.dlTick a + len * 8
  if !s.kiteSends a then s
  else if s.dutyLimited && s.dutyOver t len then
    { s.bump Reg.KTE_TX_SKIP_CNT with kte := { s.kte with skip := some (symIdx a) } }
  else
    { s with
      seq := { s.seq with duty := (t, len) :: s.seq.duty.filter fun (e, _) => decide (s.now < e + ticksPerS) },
      kte := { s.kte with skip := none } }

/-- COMMIT_POINT of symbol `a`, u_close before its air start (R46 to R50). Outside SERVICE and LEAN nothing is sent or received for it
(R570, R571), and what was held for it goes, uncovered layer data with its count (R47). At that of a beacon's first symbol the duty is checked
(R473). -/
def execCommitPoint (a : AirSym) (s : State) : Res :=
  .next (if !s.aligned then s
    else if !(s.isD a || s.isU a) then s.commitKite a
    else if !s.liveFor (s.airStart a) then
      (if s.isD a then (List.range 4).foldl (fun s c => s.countOrphans a c) s else s).purge a (s.isU a)
    else if s.isD a then s.commitD a
    else s.commitU a)

/-! ### Weight fetch and column deadline (R55, R203 to R206) -/

/-- Inline columns of a section that saturated when they were decoded (R173, R196). -/
def State.inlineSat (s : State) (x : Sec) : Nat :=
  let code := s.fld Reg.BMX_INLINE_CFG 1 0
  let (cols, kind) := match x with
    | .dl d => (d.cols, d.kind)
    | .ul u => (u.cols, if u.combine then u.kind else 2)
    | _ => ([], 2)
  if kind = 1 then (List.range (cols.length / colBytes code)).foldl (fun n i => n + (inlineColumn code cols i).2) 0 else 0

/-- A kind-0 section of symbol number `k` at the fetch point (R55, R203, R204): absent, or its version fixed and its missing columns gathered. -/
def State.fetchSec (s : State) (k c : Nat) (x : JobSec) : JobSec × State :=
  let s := s.bumpBy (Reg.SYM_BFP_SAT_CNT c) (s.inlineSat x.sec)
  let (kind, value, n, _) := x.sec.source
  if kind != 0 then (x, s)
  else if !s.lastServes value n c then
    ({ x with fixed := some { fallback := true, version := (s.dirOf (bitsOf value 26 16)).version } }, s.bump (Reg.BMX_LAST_ABSENT_CNT c))
  else
    let e := s.dirOf (bitsOf value 26 16)
    let miss := (colKeys value n x.prbs e.version).filter fun k => !s.resident k
    let (bad, s) := miss.foldl (fun (bad, s) k =>
      let (s, b) := State.gatherColumn s k e.bank e.nCol c
      (bad || b, s)) (false, s)
    let s := if bad then s.bump (Reg.BMX_ECC_FALLBACK_CNT c) else s
    let s := if miss != [] then s.setBmx fun m =>
        { m with fetches := (k, bitsOf value 26 16, e.bank) :: m.fetches, fresh := m.fresh.filter (fun k => !miss.contains k) ++ miss } else s
    ({ x with fixed := some { bank := e.bank, version := e.version, fallback := bad, fetching := miss != [] } }, s)

/-- A state change over the sections of a carrier's part of a symbol, each of which may change. -/
def overSecs (f : State → JobSec → JobSec × State) (s : State) : List JobSec → List JobSec × State
  | [] => ([], s)
  | x :: t =>
    let (y, s) := if x.refused then (x, s) else f s x
    let (ys, s) := overSecs f s t
    (y :: ys, s)

/-- A state change over the sections of a symbol on every carrier. -/
def State.overCars (s : State) (a : AirSym) (f : Nat → State → JobSec → JobSec × State) : State :=
  (List.finRange 4).foldl (fun s (c : Fin 4) =>
    match s.jobOf a with
    | some j =>
      let (xs, s) := overSecs (f c) s (j.cars[c]).secs
      s.setJob a fun j => { j with cars := upd j.cars c fun k => { k with secs := xs } }
    | none => s) s

/-- WEIGHT_FETCH_POINT of symbol `a` (R55, R194): versions are fixed, missing columns gathered, inline columns decoded. `upsets` are the
memory errors that the reads meet. For a beacon symbol the beam matrix takes the column and the gain of this instant (R150, R471). -/
def execWeightFetchPoint (a : AirSym) (upsets : List (Nat × Upset)) (s : State) : Res :=
  .next (((s.upset upsets).overCars a fun c s x => State.fetchSec s (symIdx a) c x).takeBeacon a)

/-- A section at the column deadline (R203): a column that is not resident makes it fall back; else the symbol uses the columns as they stand
(R55), and they become the most recently used. Static columns, of a kind-2 source or a fallback, are read from SRAM. -/
def State.deadlineSec (s : State) (c : Nat) (x : JobSec) : JobSec × State :=
  let (kind, value, n, fb) := x.sec.source
  match kind, x.fixed with
  | 0, some f =>
    if f.fallback then ({ x with fixed := some { f with fetching := false } }, s.checkStatic fb n)
    else
      let keys := colKeys value n x.prbs f.version
      if keys.all fun k => s.resident k then
        ({ x with fixed := some { f with fetching := false, cols := s.bmx.cache.filter fun (k, _) => keys.contains k } },
          keys.foldl (fun s k => s.touchColumn k) s)
      else ({ x with fixed := some { f with fallback := true, fetching := false } }, (s.bump (Reg.BMX_FETCH_LATE_CNT c)).checkStatic fb n)
  | 2, _ => (x, s.checkStatic value n)
  | _, _ => (x, s)

/-- The columns that a symbol's sections use in the versions fixed at the fetch point. -/
def SymJob.keys (j : SymJob) : List ColKey :=
  (j.cars.toList.flatMap fun c => c.secs).flatMap fun x =>
    let (kind, value, n, _) := x.sec.source
    match kind, x.fixed with
    | 0, some f => if f.fallback then [] else colKeys value n x.prbs f.version
    | _, _ => []

/-- Columns of a symbol that have not arrived at its column deadline leave the cache and wait for their placement. Only a column that a weight fetch
point gathered and no deadline has seen can be on its way, and of those the first 1344 have arrived (R195). -/
def State.lateColumns (s : State) (a : AirSym) (late : List ColKey) : State :=
  let mine := match s.jobOf a with | some j => j.keys | none => []
  let way := s.bmx.fresh.filter fun k => mine.contains k
  let late := (way.drop 1344).filter fun k => late.contains k
  (s.setBmx fun m =>
    { m with
      cache := m.cache.filter fun (k, _) => !late.contains k,
      waits := m.waits ++ m.cache.filter fun (k, _) => late.contains k,
      fresh := m.fresh.filter fun k => !mine.contains k,
      fetches := m.fetches.filter fun (k, _) => k != symIdx a }).showCache

/-- PRBs × layers of each cluster in a symbol, over all carriers (R205). -/
def SymJob.clusterLoad (j : SymJob) (k : Nat) : Nat :=
  (j.cars.toList.flatMap fun c => c.secs).foldl (fun n x =>
    match x.sec with
    | .dl d => if d.cluster = k then n + prbCount x.prbs * d.nLayer else n
    | _ => n) 0

/-- The clusters that a symbol's sections name. -/
def SymJob.clusters (j : SymJob) : List Nat := (List.range 8).filter fun k => j.clusterLoad k != 0

/-- The cluster with the largest load, the lowest among equals; none without a section (R205). -/
def SymJob.topCluster (j : SymJob) : Option Nat :=
  (j.clusters.foldl (fun (best : Option (Nat × Nat)) k =>
    match best with
    | some (b, l) => if l < j.clusterLoad k then some (k, j.clusterLoad k) else some (b, l)
    | none => some (k, j.clusterLoad k)) none).map (·.1)

/-- The cluster of a D symbol is resolved and shown, and its bank is active (R205, R290). -/
def State.resolveCluster (s : State) (a : AirSym) : State :=
  match s.jobOf a with
  | none => s
  | some j =>
    let k := (j.topCluster).getD s.bmx.lastCluster
    let s := if 1 < j.clusters.length then s.bump Reg.BMX_CLUSTER_MIX_CNT else s
    let s := (s.setBmx fun m => { m with lastCluster := k }).wr Reg.BMX_CLUSTER (BitVec.ofNat 32 (0x100 + k))
    let s := (s.setJob a fun j => { j with cluster := some k }).setBit Reg.DPD_ACTIVE k true
    if h : k < 8 then { s with dpd := { s.dpd with lastUse := s.dpd.lastUse.set k (some s.now) } } else s

/-- Precoding of a carrier's part of a symbol: its antenna values stand in the job, and the saturated ones are counted (R178). -/
def State.precode (s : State) (a : AirSym) (c : Fin 4) : State :=
  match s.jobOf a with
  | some j =>
    let (ys, n) := s.precodeCar c j.cars[c]
    (s.setJob a fun j => { j with cars := upd j.cars c fun k => { k with ant := ys } }).bumpBy (Reg.BMX_DL_SAT_CNT c) n
  | none => s

/-- COLUMN_DEADLINE of symbol `a` (R203, R205): `late` names by last, version, group and column what has not arrived, as far as
R195 lets it. The symbol's fetches are over (R187). Precoding starts, and its saturated values are counted (R178). -/
def execColumnDeadline (a : AirSym) (late : List (Nat × Nat × Nat × Nat)) (s : State) : Res :=
  let s := s.lateColumns a (late.map fun (l, v, g, c) => { last := l, version := v, group := g, col := c })
  let s := s.overCars a fun c s x => State.deadlineSec s c x
  .next (if s.isD a then
      let s := s.resolveCluster a
      (List.finRange 4).foldl (fun s (c : Fin 4) => s.precode a c) s
    else s)

/-! ### Output deadline and power clamp (R151, R348, R349) -/

/-- Sum over the REs of a carrier of the power of path `n` (R348). -/
def JobCar.powerOf (c : JobCar) (n : Nat) : Nat := ((c.ant.getD n []).map power).sum

/-- The predicted powers of a symbol's live paths (R348). -/
def State.symPowers (s : State) (j : SymJob) : List Rat :=
  (List.finRange 64).map fun (n : Fin 64) =>
    if s.txRetired n then (0 : Rat)
    else
      s.paPower ((List.finRange 4).foldl (fun (e : Nat) (c : Fin 4) =>
        let k := j.cars[c]
        if k.ordered && !k.zeroed then e + k.gain * k.gain * k.powerOf n else e) 0) n

/-- A SCALE parcel for the other chips (R349, R429). -/
def State.scaleParcel (s : State) (a : AirSym) (v : Nat) : Parcel :=
  { plane := 5, sub := 2, flow := mkFlow 4 s.position 0 0, air := stampOf a 0, payload := bytesOf 2 v ++ [0, 0] }

/-- The power clamp of a beacon symbol, which takes its scale (R471). -/
def State.kiteClamp (s : State) (a : AirSym) : State :=
  if !isKiteCode (s.symCode a).1 then s
  else match s.windowOfSym a with
    | some b =>
      match s.kte.payload, s.kte.taken.find? fun x => x.1 == symIdx a with
      | some (k, bs), some (_, col, g, _) =>
        if k = symIdx b ∧ s.kiteSends b ∧ s.kte.skip ≠ some k then
          let ps := s.kitePowers col g bs ((symIdx a + 286720 - symIdx b) % 286720)
          let v := s.scaleFor ps
          (s.showClamp v ps).setKite fun k => { k with taken := k.taken.map fun x => if x.1 == symIdx a then (x.1, col, g, v) else x }
        else s
      | _, _ => s
    | none => s

/-- BMX_OUTPUT_DEADLINE of D symbol `a` (R151, R348, R349): the carriers of `late` are zeroed and counted, the power is predicted, and in a
cascade the scale is sent. For a beacon symbol the power is predicted alone (R471). -/
def execBmxOutputDeadline (a : AirSym) (late : BitVec 4) (s : State) : Res :=
  let s := (List.finRange 4).foldl (fun s (c : Fin 4) =>
    match s.jobOf a with
    | some j =>
      if bitOf late.toNat c && (j.cars[c]).ordered then
        (s.setJob a fun j => { j with cars := upd j.cars c fun k => { k with zeroed := true } }).bump (Reg.SYM_BMX_LATE_CNT c)
      else s
    | none => s) s
  .next (match s.jobOf a with
    | none => s.kiteClamp a
    | some j =>
      let ps := s.symPowers j
      let v := s.scaleFor ps
      let s := s.showClamp v ps
      let held := s.seq.scales.filter fun (k, p, _) => k != symIdx a || p != s.position
      let s : State := { s with seq := { s.seq with scales := (symIdx a, s.position, v) :: held } }
      if 1 < s.chips then s.send (s.scaleParcel a v) else s)

/-- SCALE_APPLY of symbol `a` at −8.0 µs: the smallest scale held for it applies (R349), and older ones go. -/
def execScaleApply (a : AirSym) (s : State) : Res :=
  let mine := s.seq.scales.filter fun (k, _, _) => k == symIdx a
  let v := mine.foldl (fun m (_, _, v) => min m v) 32768
  let s := { s with seq := { s.seq with scales := s.seq.scales.filter fun (k, _, _) => !notLater k (symIdx a) } }
  .next (s.setJob a fun j => { j with scale := v })

/-! ### Air start (R41, R331) -/

/-- Quad `q` sends symbol `j` (R328, R331, R545, R350). -/
def State.quadSends (s : State) (j : SymJob) (q : Fin 16) : Bool :=
  (s.seq.quads[q]).st == .transmit && !s.blanked q && !j.duty && !j.dark && !bitOf j.muted q

/-- A quad at the air start of a D symbol: blanked and counted, muted and counted, or on (R331, R545). A due update takes effect, and the bank
of the symbol's cluster is in force on every path (R286, R289). -/
def State.quadStart (s : State) (j : SymJob) (q : Fin 16) : State :=
  let x := s.seq.quads[q]
  let s := s.setQuad q fun x => { x with blankCounted := false }
  let s := if s.blanked q || j.duty then s.countBlank q
    else if bitOf j.muted q && x.st == .transmit then s.bump Reg.HKA_MUTE_SYM_CNT else s
  let on := s.quadSends j q
  (pathsOf q).foldl (fun s p =>
    let s := s.setPath p fun y => if on && s.gateFree p then { y with txGate := true } else y.shut s.now
    (s.applyShadow p).setDpd p fun d => { d with bank := j.cluster.getD d.bank }) s

/-- Quad `q` is blanked in symbol `j` (R330, R350). -/
def State.quadBlank (s : State) (j : SymJob) (q : Fin 16) : Bool := s.blanked q || j.duty

/-- A D symbol as the transmit chain carries it, with the saturated iFFT samples of its carriers (R41, R147, R150, R155): the paths of blanked
quads carry zeros, and those of a quad that is muted or that sends nothing find their gate closed (R328, R545). -/
def State.txSym (s : State) (j : SymJob) : TxSym × List Nat :=
  let on := maskOf 64 fun p => if h : p < 64 then s.quadSends j (quadOf ⟨p, h⟩) else false
  let live := maskOf 64 fun p => if h : p < 64 then !s.quadBlank j (quadOf ⟨p, h⟩) else false
  let chans := (List.finRange 4).map fun c => (c, s.carChan j c live)
  ({ a := j.a, at_ := s.now, chans := chans.filterMap fun (_, x) => x.map (·.1),
     banks := Vector.ofFn fun p => j.cluster.getD (s.dpd.paths[p]).bank,
     gates := maskOf 64 fun p => if h : p < 64 then bitOf on p && s.gateFree ⟨p, h⟩ else false, d := true },
   chans.map fun (_, x) => match x with | some (_, n) => n | none => 0)

/-- The transmit chain takes a D symbol: the one before it ends, and the saturated iFFT samples are counted (R147). -/
def State.startTx (s : State) (j : SymJob) : State :=
  let (t, sat) := s.txSym j
  (List.finRange 4).foldl (fun s (c : Fin 4) => s.bumpBy (Reg.SYM_IFFT_SAT_CNT c) (sat.getD c 0)) (s.nextTx t)

/-- What a symbol lacked is counted at its air start (R48, R49), unless it is blanked on every quad (R332). -/
def State.countLacks (s : State) (j : SymJob) : State :=
  if (List.finRange 16).all fun q => s.blanked q || j.duty then s
  else
    (List.finRange 4).foldl (fun s (c : Fin 4) =>
      let k := j.cars[c]
      let s := s.bumpBy (Reg.SYM_NO_DATA_CNT c) k.noData
      if k.noOrder then s.bump (Reg.SYM_NO_ORDER_CNT c) else s) s

/-- D_SYMBOL_BOUNDARY: the first CP sample of D symbol `a` at TXOUT (R41): weights, phase, bank and scale apply, each quad sends or is blanked
or muted, and what the stages limited or saturated in the symbol before is counted. -/
def execDSymbolBoundary (a : AirSym) (s : State) : Res :=
  .next (match s.jobOf a with
    | none => if s.isD a then s.endTx none else s
    | some j =>
      if s.isD a then
        let s := (s.startTx j).countLacks j
        let s := { s with air := { s.air with onAir := some a, onAirAt := s.now }, seq := { s.seq with scale := j.scale } }
        let s := (List.finRange 8).foldl (fun s (l : Fin 8) =>
          match s.dpd.visits[l] with
          | some v => s.setVisit l (some { v with symUsed := false })
          | none => s) s
        let s := s.forQuads fun s q => s.quadStart j q
        let s := s.dropDuty (s.now + symLen a.sym * 8)
        s.setBmx fun m => { m with jobs := m.jobs.filter fun k => k.a != a && !(s.isD k.a && notLater (symIdx k.a) (symIdx a)) }
      else s)

end Sys2Proof.Machine
end

