-- ==== Sys2Proof/Machine/Kite.lean ====
section
/-! DEFINITION. Chapter 13: kite windows and beacons (R460 to R473), the listen interval and its detector (R474 to R478), and the reports
and the sync check (R480 to R483). -/

namespace Sys2Proof.Machine

/-! ### Windows and transmission (R460 to R463, R470 to R473) -/

/-- The counter at tick `t` to come: its value now and the mean increment until then, in
2^−32 ns (R434, R472). -/
def State.nsAt (s : State) (t : Nat) : Int :=
  let x : Int := 3 * ((s.fld Reg.TIM_INCR_CTL 3 0 * 2 ^ 32 + s.tim.frac : Nat) : Int) - s.third
  s.tns + ((t : Int) - s.now) * x / 3

/-- The peer entry that a beacon echoes (R481): the selected one, or the next valid one in turn. -/
def State.echoEntry (s : State) : Option Nat :=
  let valid := fun e => s.bit (Reg.KTE_PEER e 1) 31
  let sel := s.fld Reg.KTE_ECHO_SEL 4 0
  if sel = 31 then ((List.range 16).map fun i => (s.kte.echoed + 1 + i) % 16).find? valid
  else if sel < 16 ∧ valid sel = true then some sel else none

/-- Milliseconds since the last OK record of entry `e`, saturating at 16 bits (R481). -/
def State.peerAge (s : State) (e : Nat) : Nat := min 65535 ((s.now - s.kte.peerAt.toList.getD e 0) / 983040)

/-- The payload of the window that begins in `a`, with its power field (R470, R472). -/
def State.kitePayload (s : State) (a : AirSym) (power : Nat) : List Byte :=
  let ns := (s.nsAt (s.dlTick a) + s.sfld Reg.KTE_EXT 31 16 * 2 ^ 32 / 10) / 2 ^ 32
  let steer := s.fld Reg.KTE_TX_CFG 31 30 = 1
  let beam := if steer then 0x4000 + s.fld Reg.KTE_TX_STEER 27 16 else s.fld Reg.KTE_TX_CFG 9 0
  let echo : List Byte := match s.echoEntry with
    | some e => bytesOf 4 (s.rd (Reg.KTE_PEER e 0)).toNat ++ bytesOf 4 (s.rd (Reg.KTE_PEER e 2)).toNat ++ bytesOf 2 (s.peerAge e)
    | none => List.replicate 10 0
  bytesOf 4 (s.rd Reg.KTE_UNIT_ID).toNat
    ++ bytesOf 1 (s.position * 64 + s.quality * 16 + s.fld Reg.TIM_QUAL 9 9 * 8 + if s.mode = .lean then 1 else 0)
    ++ bytesOf 3 (((a.sfn * 32 + a.slot) * 16 + a.sym) * 32) ++ bytesOf 4 (toBits 32 ns) ++ bytesOf 1 power ++ bytesOf 2 beam
    ++ bytesOf 1 (s.kte.sent % 256) ++ echo ++ bytesOf 4 (s.rd Reg.KTE_TX_DATA0).toNat ++ bytesOf 2 (s.fld Reg.KTE_TX_DATA1 31 16)

/-- The total power of the preamble after its clamp in 0.5 dBm, as u8 (R348, R470). -/
def State.kiteTotal (s : State) : Nat :=
  let ps := s.kitePowers s.kiteColumn (s.fld Reg.KTE_TX_GAIN 15 0) [] 0
  let v := s.scaleFor ps
  (satInt 0 255 (logSteps 50 (ps.foldl (· + ·) 0 * mkRat (v * v : Nat) (32768 * 32768)))).toNat

/-- KITE_PAYLOAD_FIX, 100 µs before the window that begins in `a` (R470, R472, R481); a modem that is suspended may resume with that window
(R466). -/
def execKitePayloadFix (a : AirSym) (s : State) : Res :=
  .next (if s.kiteOurs a then
      let bs := s.kitePayload a s.kiteTotal
      let e := s.echoEntry
      s.setKite fun k => { k with payload := some (symIdx a, bs), echoed := e.getD k.echoed }
    else s)

/-- The air end and the length in samples of the window that begins in `a`, as the duty list has them. -/
def State.windowSpan (s : State) (a : AirSym) : Nat × Nat :=
  let len := ((windowSyms a).map fun b => symLen b.sym).foldl (· + ·) 0
  (s.dlTick a + len * 8, len)

/-- A beacon that is not sent although the duty check passed: it is counted and takes no transmit time (R332, R473). -/
def State.skipBeacon (s : State) (a : AirSym) : State :=
  let s := { s with seq := { s.seq with duty := s.seq.duty.filter fun x => x != s.windowSpan a } }
  s.bump Reg.KTE_TX_SKIP_CNT

/-- KITE_WINDOW_START: the window that begins in `a` gets its number and the chip its role (R461, R462, R466); a beacon is sent, or
skipped when a blanking interval touches it or no payload was fixed for it (R473). Its end counts it as sent, unless an interval has cut it. -/
def execKiteWindowStart (a : AirSym) (s : State) : Res :=
  .next (if !s.startsWindow a then s
    else
      let s := s.resumeKite
      let s := s.setFld Reg.KTE_STAT 15 0 (s.windowNo a)
      if !s.kiteSends a then s
      else if s.kte.skip = some (symIdx a) then s
      else if s.kiteBlanked || (match s.kte.payload with | some (k, _) => k != symIdx a | none => true) then s.skipBeacon a
      else
        let s := s.setKite fun k => { k with beacon := some a, cut := false, span := s.windowSpan a }
        s.forQuads fun s q =>
          if (s.seq.quads[q]).st == .transmit then
            (pathsOf q).foldl (fun s p => s.setPath p fun y => { y with txGate := s.gateFree p }) s
          else s)

/-! ### The listen interval (R474, R475) -/

/-- The paths under kite control (R474). -/
def State.kitePaths (s : State) (f : State → Fin 64 → State) : State :=
  s.forPaths fun s p => if (s.paths[p]).agcMode = 2 then f s p else s

/-- The index of every path under kite control freezes or is released (R475, R477). -/
def State.kiteFreeze (s : State) (b : Bool) : State := s.kitePaths fun s p => s.setFrozen p b

/-- The detector takes a state, shown in KTE_STAT (R477). -/
def State.detect (s : State) (d : KiteDet) : State :=
  let code := match d with | .search => 0 | .candidate _ => 1 | .receive .. => 2
  (s.setFld Reg.KTE_STAT 25 24 code).setKite fun k => { k with det := d }

/-- What the listen interval of a window holds nothing of, for a symbol `a` near it, in ticks from the present instant: a D symbol, a U symbol on
the uplink grid, a welt of the chip (R474). -/
def State.deafSpans (s : State) (a : AirSym) : List (Int × Int) :=
  let t := s.ticksTo (symPos a)
  let e := t + symLen a.sym * ticksPerSample
  let adv : Int := s.air.ulAdvance * ticksPerSample
  (if s.isD a then [(t, e)] else []) ++ (if s.isU a then [(t - adv, e - adv)] else []) ++ s.weltSpans a

/-- The listen interval of the window that begins in `a`, in ticks from the present instant: kite_ext on either side of it, cut back (R474). -/
def State.listenSpan (s : State) (a : AirSym) : Int × Int :=
  let ext : Int := s.fld Reg.KTE_RX_CFG 4 0 * 98304 / 100
  let t := s.ticksTo (symPos a)
  let e := t + (s.windowSpan a).2 * ticksPerSample
  let spans := (List.range 13).flatMap fun i => s.deafSpans (symOfIdx (symIdx a + 286717 + i))
  (spans.foldl (fun m v => if v.2 ≤ t then max m v.2 else m) (t - ext), spans.foldl (fun m v => if e ≤ v.1 then min m v.1 else m) (e + ext))

/-- LISTEN_INTERVAL_START of the window that begins in `a`: the interval of R474 begins here, and every path under kite control takes
kite_start_idx (R474, R475). An index that this moves is a change as R81 means it. -/
def execListenIntervalStart (a : AirSym) (s : State) : Res :=
  .next (if s.kiteHears a && decide ((s.listenSpan a).1 = 0) then
      let i := s.fld Reg.KTE_RX_CFG 12 8
      let s := s.resumeKite.setKite fun k =>
        { k with listen := some (symIdx a), openedAt := s.now, endsAt := s.now + (s.listenSpan a).2.toNat, steps := [] }
      let s := s.kitePaths fun s p =>
        let moved := s.fld (Reg.RXP_AGC_STAT p) 12 8 != i
        ((s.setIndex p i).setFrozen p false).setPath p fun x => { x with agcMoved := moved }
      s.detect .search
    else s)

/-! ### Reports (R478, R480 to R483) -/

/-- The power of a peak (R476). -/
def peakPower (p : KitePeak) : Nat := (p.c.1 * p.c.1 + p.c.2 * p.c.2).toNat

/-- The arrival instant of a beacon at the antenna plane, in 2^−16 ticks after the air start of the window at TXOUT, ext_rx left out
(R478). -/
def State.arrival (s : State) (a : AirSym) (p : KitePeak) : Int :=
  (p.fit.tick : Int) - ((4096 + cpLen a.sym) * 8 * 65536 : Nat) - (s.dlTick a * 65536 : Nat)

/-- The offset o in 1/16 ns (R478): 2^−16 ticks are 3125/3072 · 2^−16 ns; the delays are in 0.1 ns. -/
def State.kiteOfs (s : State) (a : AirSym) (p : KitePeak) : Int :=
  let ext : Int := s.sfld Reg.KTE_EXT 31 16 + s.sfld Reg.KTE_EXT 15 0
  roundRat (mkRat (s.arrival a p * 3125) (3072 * 4096) - mkRat (16 * ext) 10)

/-- The counter at the arrival instant, in 2^−16 ns, as 48 bits (R480). -/
def State.kiteNs (s : State) (a : AirSym) (p : KitePeak) : Nat :=
  let x : Int := 3 * ((s.fld Reg.TIM_INCR_CTL 3 0 * 2 ^ 32 + s.tim.frac : Nat) : Int) - s.third
  let back := roundRat (mkRat (((4096 + cpLen a.sym) * 8 : Nat) * x) (3 * 65536) + mkRat (s.sfld Reg.KTE_EXT 15 0 * 65536) 10)
  toBits 48 ((s.counterAt p.fit : Int) - back)

/-- The frequency offset in Hz as s16 (R478), of the correlations with the rotations that the two symbols of the window's preamble have on reception
(R164, R465). -/
def State.kiteCfo (s : State) (a : AirSym) (p q : KitePeak) : Nat :=
  let f := s.fld Reg.KTE_FREQ 19 0
  let rot : Int := (rotAngle f (bodyStart (nextSym a)) : Int) - rotAngle f (bodyStart a)
  let raw := argCycles (((q.c.1 * p.c.1 + q.c.2 * p.c.2 : Int) : Rat), ((q.c.2 * p.c.1 - q.c.1 * p.c.2 : Int) : Rat))
  let turn := raw + mkRat rot 65536
  let turn := turn - (roundRat turn : Rat)
  toBits 16 (satInt (-32768) 32767 (roundRat (turn * 30720000 / ((max 1 (q.lag - p.lag) : Nat) : Rat))))

/-- The entry of the peer table that a unit takes (R481): its own, else the first free one, else the one updated least recently. -/
def State.peerEntry (s : State) (id : Nat) : Nat :=
  let valid := fun e => s.bit (Reg.KTE_PEER e 1) 31
  match (List.range 16).find? fun e => valid e && (s.rd (Reg.KTE_PEER e 0)).toNat == id with
  | some e => e
  | none =>
    match (List.range 16).find? fun e => !valid e with
    | some e => e
    | none =>
      let at_ := fun e => s.kte.peerAt.toList.getD e 0
      (List.range 16).foldl (fun b e => if at_ e < at_ b then e else b) 0

/-- The skew check of a peer (R482, R483): shown in its entry; beyond the threshold it sets alarm and counts, and the first one raises the
event. -/
def State.skewCheck (s : State) (e id : Nat) (skew : Int) : State :=
  let w1 := Reg.KTE_PEER e 1
  let had := s.bit w1 29
  let s := (s.setBit w1 30 true).wr (Reg.KTE_PEER e 3) (BitVec.ofNat 32 (toBits 32 skew))
  if s.fld Reg.KTE_SYNC_CFG 15 0 * 16 < skew.natAbs * 10 then
    let s := (s.setBit w1 29 true).bump Reg.KTE_SKEW_ALARM_CNT
    if had then s else s.raise 0x1101 [(4, id), (4, toBits 32 skew)]
  else s.setBit w1 29 false

/-- A record with result OK and self clear updates the peer table (R481 to R483). -/
def State.peerUpdate (s : State) (id : Nat) (ofs : Int) (skew : Option Int) : State :=
  let e := s.peerEntry id
  let same := s.bit (Reg.KTE_PEER e 1) 31 && (s.rd (Reg.KTE_PEER e 0)).toNat == id
  let s := if same then s
    else ((s.wr (Reg.KTE_PEER e 0) (BitVec.ofNat 32 id)).wr (Reg.KTE_PEER e 1) 0x80000000).wr (Reg.KTE_PEER e 3) 0
  let s := s.wr (Reg.KTE_PEER e 2) (BitVec.ofNat 32 (toBits 32 ofs))
  let s := s.setKite fun k => { k with peerAt := if h : e < 16 then k.peerAt.set e s.now else k.peerAt }
  match skew with
  | some x => s.skewCheck e id x
  | none => s

/-- A report record (R480): `payload` is that of a reception with result OK. -/
def State.kiteReport (s : State) (result : Nat) (p q : KitePeak) (snr power best : Nat) (payload : Option (List Byte)) : State :=
  let a := symOfIdx (s.kte.listen.getD 0)
  let r := s.fld Reg.KTE_REPORT_PTR 15 0
  let o := s.kiteOfs a p
  let own := (s.rd Reg.KTE_UNIT_ID).toNat
  let bs := payload.getD []
  let ok := payload.isSome
  let self := ok && fieldAt bs 0 4 == own
  let heard := ok && fieldAt bs 16 4 == own && decide (fieldAt bs 24 2 ≤ 1000)
  let eo := signedOf 32 (fieldAt bs 20 4)
  let skew := if heard then roundDiv (o - eo) 2 else 0
  let dist := if heard then roundDiv (o + eo) 2 else 0
  let rec_ := bytesOf 1 (result * 16 + (if self then 2 else 0) + (if heard then 1 else 0)) ++ bytesOf 1 best ++ bytesOf 2 r
    ++ bytesOf 3 (((a.sfn * 32 + a.slot) * 16 + a.sym) * 32) ++ bytesOf 1 snr ++ bytesOf 6 (s.kiteNs a p)
    ++ bytesOf 2 (s.kiteCfo a p q) ++ bytesOf 4 (toBits 32 o) ++ bytesOf 2 power ++ bytesOf 2 0
    ++ bytesOf 4 (toBits 32 skew) ++ bytesOf 4 (toBits 32 dist) ++ (bs ++ List.replicate 32 0).take 32
  let s := (List.zip (List.range 16) (wordsOf 16 rec_)).foldl (fun s (i, w) => s.wr (Reg.KTE_REPORT_RING (r % 64) i) w) s
  let s := s.setFld Reg.KTE_REPORT_PTR 15 0 (r + 1)
  if ok && !self then s.peerUpdate (fieldAt bs 0 4) o (if heard then some skew else none) else s

/-! ### The detector (R476, R477) -/

/-- A ratio of powers reaches `quarters` quarter-decibels. -/
def reaches (x y : Rat) (quarters : Int) : Bool := decide (tenth (50 * quarters) * y ≤ x)

/-- The CP in samples of 30.72 MS/s of the receiver's next air-grid symbol at a peak: the one whose start lies nearest the peak (R476). -/
def State.nextCp (s : State) (p : KitePeak) : Nat :=
  let d := ((p.fit.tick / 65536 : Nat) : Int) - s.now
  let pos := ((s.airPos : Int) + d / 8 + 2192) % cycleSamples
  cpLen (airAt pos.toNat).1.sym / 4

/-- Peak `q` confirms candidate `p` (R476). -/
def State.confirms (s : State) (p q : KitePeak) : Bool :=
  let gap : Int := (q.lag : Int) - p.lag
  q.beam == p.beam && decide ((gap - (1024 + s.nextCp p : Nat)).natAbs ≤ 2)
    && reaches (peakPower q : Rat) (peakPower p : Rat) (-12) && reaches (peakPower p : Rat) (peakPower q : Rat) (-12)

/-- Of two peaks at one lag `q` wins over `p` (R476). -/
def winsLag (p q : KitePeak) : Bool := decide (peakPower p < peakPower q) || (peakPower p == peakPower q && decide (q.beam < p.beam))

/-- A peak that confirms nothing (R477). -/
def State.otherPeak (s : State) (q : KitePeak) : State :=
  let margin : Int := s.fld Reg.KTE_RX_CFG 23 16
  match s.kte.det with
  | .search => s.detect (.candidate q)
  | .candidate p =>
    if q.lag = p.lag then (if winsLag p q then s.detect (.candidate q) else s)
    else if reaches (peakPower q : Rat) (peakPower p : Rat) margin then (s.bump Reg.KTE_SUPERSEDE_CNT).detect (.candidate q)
    else s.bump Reg.KTE_MASK_CNT
  | .receive p r snr power best =>
    if q.lag = r.lag ∧ winsLag r q = false then s
    else if reaches (2 * peakPower q : Nat) (peakPower p + peakPower r : Nat) margin then
      let s := s.kiteReport 2 p r snr power best none
      ((s.kiteFreeze false).bump Reg.KTE_SUPERSEDE_CNT).detect (.candidate q)
    else s.bump Reg.KTE_MASK_CNT

/-- The detector is at work: a listen interval is open and the modem may receive (R462, R466, R474). -/
def State.hearing (s : State) : Bool := s.kte.listen.isSome && s.mode.live && !s.bit Reg.KTE_STAT 31

/-- Peak `q` confirms the candidate that there is (R477). -/
def State.isConfirm (s : State) (q : KitePeak) : Bool := match s.kte.det with | .candidate p => s.confirms p q | _ => false

/-- KITE_PEAK: beam `b` has a peak at `lag` in the ADC codes of the listen interval, one of each path a tick from its opening on (R476, R477). One
that confirms the candidate is no peak of its own: KITE_CONFIRM carries it. -/
def execKitePeak (b : Fin 64) (lag : Nat) (adc : Vector (List Adc) 64) (s : State) : Res :=
  .next (if s.hearing then
      match s.heardPeak b lag adc with
      | some q => if s.isConfirm q then s else s.otherPeak q
      | none => s
    else s)

/-- A confirmed candidate `p` with its second peak `q` (R475, R477). -/
def State.takeConfirm (s : State) (p q : KitePeak) (snr power best : Nat) : State :=
  ((s.bump Reg.KTE_DET_CNT).kiteFreeze true).detect (.receive p q snr power best)

/-- KITE_CONFIRM: the second peak of the candidate's preamble (R476 to R478), with the preamble SNR in 0.25 dB and the power per live antenna in
0.01 dBm as measured. Without a candidate that it confirms it is a peak like another. -/
def execKiteConfirm (b : Fin 64) (lag : Nat) (adc : Vector (List Adc) 64) (snr : BitVec 8) (power : BitVec 16) (s : State) : Res :=
  .next (if s.hearing then
      match s.heardPeak b lag adc, s.kte.det with
      | some q, .candidate p =>
        if s.confirms p q then s.takeConfirm p q snr.toNat power.toNat (s.bestBeam p.lag lag adc) else s.otherPeak q
      | some q, _ => s.otherPeak q
      | none, _ => s
    else s)

/-- KITE_CONFIRM_MISSED: the confirmation position has passed (R477). -/
def execKiteConfirmMissed (s : State) : Res :=
  .next (match s.kte.det with
    | .candidate p =>
      if p.fit.tick + (1026 + s.nextCp p) * 32 * 65536 < s.now * 65536 then (s.bump Reg.KTE_FALSE_CNT).detect .search else s
    | _ => s)

/-- KITE_DATA_END: the last data symbol is in, and the ADC codes of the listen interval, one of each path a tick from its opening on, are decoded into
payload and CRC (R477, R479, R480). -/
def execKiteDataEnd (adc : Vector (List Adc) 64) (s : State) : Res :=
  .next (match s.kte.det with
    | .receive p q snr power best =>
      let bytes := s.kiteDecode p q adc
      let bs := bytes.take 32
      let ok := crc16 bs == fieldAt bytes 32 2
      let s := if ok then s.kiteReport 0 p q snr power best (some bs)
        else (s.bump Reg.KTE_CRC_FAIL_CNT).kiteReport 1 p q snr power best none
      (s.kiteFreeze false).detect .search
    | _ => s)

/-- LISTEN_INTERVAL_END (R474, R477): the interval has run out; a reception is truncated, the index of every path under kite control returns to
start_idx, and what the trims and the kite channel saturated in the ADC codes `adc` of the interval is counted (R147). -/
def execListenIntervalEnd (adc : Vector (List Adc) 64) (s : State) : Res :=
  .next (if s.kte.listen.isNone || decide (s.now < s.kte.endsAt) then s
    else
      let s := s.forPaths fun s p => s.bumpBy (Reg.DFE_RX_SAT_CNT p) (s.kiteSat p adc[p])
      let s := match s.kte.det with
        | .receive p q snr power best => (s.bump Reg.KTE_TRUNC_CNT).kiteReport 3 p q snr power best none
        | _ => s
      let s := s.kitePaths fun s p => (s.setIndex p (fldOf (s.paths[p]).agcCfg 12 8)).setFrozen p false
      ((s.detect .search).setFld Reg.KTE_STAT 25 24 3).setKite fun k => { k with listen := none })

end Sys2Proof.Machine
end

