-- ==== Sys2Proof/Machine/Lanes.lean ====
section
/-! DEFINITION. Chapter 10: training of the ports, MARKERs and the back-channel, lane failures and takeovers, sleep, and the
lane test. -/

namespace Sys2Proof.Machine

/-! ### Training (R371 to R380) -/

/-- TETHER_LOCK: the receiver has locked to the partner's tether (R377). -/
def execTetherLock (p : Port) (s : State) : Res := .next (if s.portState p.idx = 1 then s.toPort p.idx 2 else s)

/-- Coefficients that R374 permits. -/
def ffeOk (pre main post : Int) : Bool :=
  decide (0 ≤ pre ∧ pre ≤ 15) && decide (0 ≤ post ∧ post ≤ 31) && decide (16 ≤ main ∧ main ≤ 63)
    && decide (pre + main + post ≤ 63) && decide (16 ≤ main - pre - post)

/-- One coefficient's request, with the status it had: the step to try and the status after it (R375). A request is acted on
once; its status stands until the request returns to hold. -/
def ffeStep (req st : Nat) (ok : Int → Bool) : Int × Nat :=
  if req = 0 ∨ req = 3 then (0, 0)
  else if st ≠ 0 then (0, st)
  else if req = 1 then (if ok 1 then (1, 1) else (0, 3))
  else (if ok (-1) then (-1, 1) else (0, 2))

/-- The coefficient requests of byte 2 of a frame reach transmit lane `l` (R374, R375): preset and init take precedence; the
steps are taken in the order pre, main, post. -/
def State.ffeRequest (s : State) (u : Fin 2) (l : Fin 9) (req : Nat) : State :=
  let a := Reg.LN_LANE_TX u l
  if bitOf req 1 then
    (s.wr a (putFld (putFld (putFld (s.rd a) 19 16 0) 13 8 63) 4 0 0)).setLane u l fun x => { x with status := (1, 1, 1) }
  else if bitOf req 0 then
    (s.wr a (putFld (putFld (putFld (s.rd a) 19 16 4) 13 8 47) 4 0 12)).setLane u l fun x => { x with status := (1, 1, 1) }
  else
    let (st0, st1, st2) := ((s.port u).lanes[l]).status
    let pre : Int := s.fld a 19 16
    let main : Int := s.fld a 13 8
    let post : Int := s.fld a 4 0
    let (d0, t0) := ffeStep (bitsOf req 7 6) st0 fun d => ffeOk (pre + d) main post
    let pre := pre + d0
    let (d1, t1) := ffeStep (bitsOf req 5 4) st1 fun d => ffeOk pre (main + d) post
    let main := main + d1
    let (d2, t2) := ffeStep (bitsOf req 3 2) st2 fun d => ffeOk pre main (post + d)
    let post := post + d2
    let w := putFld (putFld (putFld (s.rd a) 19 16 pre.toNat) 13 8 main.toNat) 4 0 post.toNat
    (s.wr a w).setLane u l fun x => { x with status := (t0, t1, t2) }

/-- Receive lane `l` has frame lock. -/
def State.laneLock (s : State) (u : Fin 2) (l : Fin 9) : Bool := s.bit (Reg.LN_LANE_RX u l) 31

/-- The receive lanes that meet `f`, as a mask. -/
def laneMask (f : Fin 9 → Bool) : Nat := (List.finRange 9).foldl (fun m (i : Fin 9) => if f i then m + 2 ^ i.val else m) 0

/-- Frames with a valid or an invalid check sum set and clear the lock (R373). -/
def State.frameSeen (s : State) (u : Fin 2) (l : Fin 9) (ok : Bool) : State :=
  let s := s.setLane u l fun x =>
    if ok then { x with good := x.good + 1, bad := 0 } else { x with bad := x.bad + 1, good := 0 }
  let x := (s.port u).lanes[l]
  if 8 ≤ x.good then s.setBit (Reg.LN_LANE_RX u l) 31 true
  else if 4 ≤ x.bad then s.setBit (Reg.LN_LANE_RX u l) 31 false else s

/-- What a valid frame body says is kept (R373): the partner's lane, state, done, rx_ready, and the mask of our lanes that it
receives as healthy. -/
def State.noteFrame (s : State) (u : Fin 2) (l : Fin 9) (bs : List Byte) : State :=
  let s := s.setLane u l fun x =>
    { x with
      phys := bitsOf (byteAt bs 1) 7 4, phase := bitsOf (byteAt bs 1) 3 0, rdy := bitOf (byteAt bs 3) 1,
      done := bitOf (byteAt bs 3) 0, stat := byteAt bs 3 }
  s.setPort u fun p => { p with txMask := fieldAt bs 8 2 % 512 }

/-- The locked lanes. -/
def State.lockedMask (s : State) (u : Fin 2) : Nat := laneMask fun l => s.laneLock u l

/-- The receive condition of FRAME, and the partner's frames show FRAME with done or a later phase (R377). -/
def State.frameExits (s : State) (u : Fin 2) : Bool :=
  8 ≤ maskCount (s.lockedMask u)
    && (List.finRange 9).all fun (l : Fin 9) =>
      let x := (s.port u).lanes[l]
      !s.laneLock u l || (x.phase == 2 && x.done) || x.phase == 3 || x.phase == 4

/-- rx_ready on every frame-locked lane, and the partner's frames show done, with rx_ready on every lane that they mark
healthy (R377). -/
def State.equaliseExits (s : State) (u : Fin 2) : Bool :=
  s.lockedMask u != 0
    && (List.finRange 9).all fun (l : Fin 9) =>
      let x := (s.port u).lanes[l]
      !s.laneLock u l
        || (x.ready && x.done && (x.phase == 3 || x.phase == 4) && (!bitOf (s.port u).txMask x.phys || x.rdy))

/-- A phase of training is left when its condition holds (R377). -/
def State.phaseExit (s : State) (u : Fin 2) : State :=
  if s.portState u = 2 then (if s.frameExits u then s.toPort u 3 else s)
  else if s.portState u = 3 then
    (if s.equaliseExits u then
      s.leaveEqualise u (laneMask fun l => s.laneLock u l && ((s.port u).lanes[l]).ready)
    else s)
  else s

/-! ### What a training frame carries (R373) -/

/-- The receive condition of the present phase holds (R377). -/
def State.phaseDone (s : State) (u : Fin 2) : Bool :=
  if s.portState u = 2 then decide (8 ≤ maskCount (s.lockedMask u))
  else
    s.portState u = 3 && s.lockedMask u != 0 && (List.finRange 9).all fun (l : Fin 9) => !s.laneLock u l || ((s.port u).lanes[l]).ready

/-- The transmit lanes of the partner that are received as healthy so far (R373, R378). -/
def State.heardMask (s : State) (u : Fin 2) : Nat :=
  s.physMask u (laneMask fun l => s.laneLock u l && ((s.port u).lanes[l]).ready)

/-- The request for one coefficient in bits `[hi:hi-1]`: hold once the lane is finished or until the partner's status has returned to not updated,
else the request that stands or, where there is none, a free one (R373, R375). -/
def stepRequest (x : LaneSt) (free : Nat) (hi : Nat) : Nat :=
  if x.ready || bitsOf x.stat hi (hi - 1) ≠ 0 then 0
  else if bitsOf x.req hi (hi - 1) ≠ 0 then bitsOf x.req hi (hi - 1)
  else free % 3

/-- The request byte for the transmit lane of the partner that receive lane `l` hears. What the 6480's receiver asks for is free. -/
def State.frameRequest (s : State) (u : Fin 2) (l : Fin 9) : Nat :=
  let x := (s.port u).lanes[l]
  let f := Config.free s.freeIdx
  if s.portState u ≠ 3 ∨ x.ready then 0
  else stepRequest x f 7 * 64 + stepRequest x (f / 3) 5 * 16 + stepRequest x (f / 9) 3 * 4 + (f / 27) % 4

/-- The body of the frame that transmit lane `t` carries. Its figures are those of the receive lane `r` that hears the partner's lane of this
number. -/
def State.frameBody (s : State) (u : Fin 2) (t r : Fin 9) (req : Nat) : List Byte :=
  let a := Reg.LN_LANE_RX u r
  let (x, y, z) := ((s.port u).lanes[t]).status
  let rdy := ((s.port u).lanes[r]).ready
  let bs := bytesOf 1 0x01 ++ bytesOf 1 (t * 16 + s.portState u) ++ bytesOf 1 req
    ++ bytesOf 1 (x * 64 + y * 16 + z * 4 + (if rdy then 2 else 0) + (if s.phaseDone u then 1 else 0))
    ++ bytesOf 1 (s.fld a 23 16) ++ bytesOf 2 (s.fld a 15 0)
    ++ bytesOf 1 (u.val * 128 + s.position * 32) ++ bytesOf 2 (s.heardMask u) ++ bytesOf 1 (s.port u).frameSeq ++ [0, 0, 0]
  bs ++ bytesOf 2 (crc16 bs)

/-- The receive lane that hears the partner's lane number `t`: the two lanes of a number train each other (R373). -/
def State.hears (s : State) (u : Fin 2) (t : Fin 9) : Fin 9 :=
  ((List.finRange 9).find? fun (r : Fin 9) => s.laneLock u r && ((s.port u).lanes[r]).phys == t.val).getD t

/-- A free register for the generator of pattern `k`; it is never 0 (R372, R394). -/
def prbsSeed (k i : Nat) : Nat := 1 + Config.free i % (2 ^ (prbsTaps k).1 - 1)

/-- Transmit lane `t` sends its frame. With a request in it the eye figures of the receive lane are noted, for R376 to judge what the request gives.
What state the generator of the PRBS15 segment has is free. -/
def State.sendFrame (s : State) (u : Fin 2) (t : Fin 9) : State :=
  let r := s.hears u t
  let req := s.frameRequest u r
  let a := Reg.LN_LANE_RX u r
  let s := s.emit (.frame u t (frameHalves (s.frameBody u t r req)) (prbsSeed 1 (s.freeIdx + 1)))
  { s.setLane u r fun x =>
      { x with req := req, asked := if req = 0 then x.asked else x.asked.or (some (s.fld a 23 16, s.fld a 15 0)) } with
    freeIdx := s.freeIdx + 2 }

/-- The frame period of 16 384 UI that begins now: a frame on every lane, with the next sequence number (R372, R373). -/
def State.sendFrames (s : State) (u : Fin 2) : State :=
  (s.forLanes fun s t => s.sendFrame u t).setPort u fun p => { p with frameAt := s.now + 512, frameSeq := (p.frameSeq + 1) % 256 }

/-- TRAINING_FRAME: the marker and the body of a frame arrive on lane `l` as half-bits (R372, R373, R375, R377); in LISTEN a valid frame
restarts training (R380). -/
def execTrainingFrame (p : Port) (l : Fin 9) (half : Vector Bool 272) (s : State) : Res :=
  let u := p.idx
  let (inv, body) := frameRead half.toList
  let bs := body.getD []
  let ok := body.isSome && crc16 (bs.take 14) == fieldAt bs 14 2
  let st := s.portState u
  .next (
    if st = 7 then (if ok then s.beginTether u 1 else s)
    else if st = 2 ∨ st = 3 then
      let s := (s.frameSeen u l ok).setBit (Reg.LN_LANE_RX u l) 29 inv
      if ok then
        let t := bitsOf (byteAt bs 1) 7 4
        let s := s.noteFrame u l bs
        let s := if h : t < 9 then s.ffeRequest u ⟨t, h⟩ (byteAt bs 2) else s
        s.phaseExit u
      else s
    else s)

/-- PHASE_TIMEOUT: a phase has lasted 2 ms (R379). -/
def execPhaseTimeout (p : Port) (s : State) : Res :=
  let u := p.idx
  let due := usPassed (s.now - (s.port u).since) 2000
  .next (
    if !due then s
    else match s.portState u with
      | 2 => if 4 ≤ maskCount (s.lockedMask u) then s.toPort u 3 else s.failAttempt u
      | 3 => s.leaveEqualise u (laneMask fun l => s.laneLock u l
          && s.fld (Reg.LN_TRAIN_CFG u) 23 16 ≤ s.fld (Reg.LN_LANE_RX u l) 23 16
          && s.fld (Reg.LN_TRAIN_CFG u) 11 0 ≤ s.fld (Reg.LN_LANE_RX u l) 15 0)
      | 1 | 4 => s.failAttempt u
      | _ => s)

/-- BACKOFF_END: 10 ms of BACKOFF are over and the next attempt starts (R371). -/
def execBackoffEnd (p : Port) (s : State) : Res :=
  let u := p.idx
  .next (if s.portState u = 6 && msPassed (s.now - (s.port u).since) 10 then
      s.beginTether u (s.fld (Reg.LN_TRAIN_STAT u) 25 24 + 1)
    else s)

/-- The body of a BEACON frame (R373, R380). -/
def State.beaconBody (s : State) (u : Fin 2) : List Byte :=
  let a := Reg.LN_LANE_RX u 0
  let bs := [BitVec.ofNat 8 0x11, BitVec.ofNat 8 0x07, 0, 0, BitVec.ofNat 8 (s.fld a 23 16)] ++ bytesOf 2 (s.fld a 15 0)
    ++ bytesOf 1 (u.val * 128 + s.position * 32) ++ bytesOf 2 0 ++ bytesOf 1 (s.port u).frameSeq ++ [0, 0, 0]
  bs ++ bytesOf 2 (crc16 bs)

/-- LISTEN_BEACON: every 1 ms in LISTEN, lane 0 sends a BEACON frame (R380). -/
def execListenBeacon (p : Port) (s : State) : Res :=
  let u := p.idx
  .next (if s.portState u = 7 && msPassed (s.now - (s.port u).beaconAt) 1 then
      (s.emit (.beacon u (frameHalves (s.beaconBody u)))).setPort u fun p =>
        { p with beaconAt := s.now, frameSeq := (p.frameSeq + 1) % 256 }
    else s)

/-- A request has been answered and the eye measured as `w` and `h`: it counts as one that improved neither figure by more than one step, or
the count starts afresh (R376). -/
def LaneSt.judgeRequest (x : LaneSt) (w h : Nat) : LaneSt :=
  match x.asked with
  | some (w0, h0) => { x with asked := none, steady := if decide (w ≤ w0 + 1) && decide (h ≤ h0 + 2) then x.steady + 1 else 0 }
  | none => x

/-- EYE_REFRESH: the eye figures of a receive lane (R376). In EQUALISE, rx_ready sets once both targets are met and the last two
requests have each improved neither figure by more than one step. -/
def execEyeRefresh (p : Port) (l : Fin 9) (w : BitVec 8) (h : BitVec 16) (s : State) : Res :=
  let u := p.idx
  let a := Reg.LN_LANE_RX u l
  let s := (s.setFld a 23 16 w.toNat).setFld a 15 0 h.toNat
  .next (if s.portState u = 3 then
      let s := s.setLane u l fun x => x.judgeRequest w.toNat h.toNat
      let met := s.fld (Reg.LN_TRAIN_CFG u) 23 16 ≤ w.toNat && s.fld (Reg.LN_TRAIN_CFG u) 11 0 ≤ h.toNat
      (s.setLane u l fun x => { x with ready := x.ready || (met && 2 ≤ x.steady) }).phaseExit u
    else s)

/-! ### MARKERs and READY (R364 to R366, R377, R383) -/

/-- A lane test begins (R393): the named lanes carry the pattern, from generator registers that the spec does not give (R394). -/
def State.enterTest (s : State) (u : Fin 2) : State :=
  let k := match (s.port u).test with | some t => t.pattern | none => 0
  let s := (((s.toPort u 8).setBit (Reg.LN_TEST_CFG u) 31 false).wr (Reg.LN_TEST_STAT u) 0x80000000).wr (Reg.LN_SLEEP_STAT u) 0
  let s := s.forLanes fun s l =>
    s.setLane u l fun x => { x with checker := {}, gen := prbsSeed k (s.freeIdx + l), lineAt := s.now }
  { s with freeIdx := s.freeIdx + 9 }

/-- What each named lane sends of the pattern in one tick, 32 bits, in TEST (R393, R394). -/
def State.sendPattern (s : State) (u : Fin 2) : State :=
  match (s.port u).test with
  | some t =>
    s.forLanes fun s l =>
      if bitOf t.lanes l then
        let (bits, r) := prbsBits t.pattern 32 ((s.port u).lanes[l]).gen
        (s.putLine u l bits).setLane u l fun x => { x with gen := r }
      else s
  | none => s

/-- What a port puts on its lanes as time passes, whatever is commanded: a training frame each 16 384 UI in TETHER, FRAME and EQUALISE, and the
pattern in TEST (R370, R372, R393). -/
def State.portTick (s : State) (u : Fin 2) : State :=
  let st := s.portState u
  if (st = 1 ∨ st = 2 ∨ st = 3) ∧ (s.port u).frameAt ≤ s.now then s.sendFrames u
  else if st = 8 then s.sendPattern u
  else s

/-- One MARKER less until the announced test begins, on the side that counts them (R393). -/
def State.testMarker (s : State) (u : Fin 2) (own : Bool) : State :=
  match (s.port u).test with
  | some t =>
    if t.own = own then
      if t.left ≤ 1 then (s.setPort u fun p => { p with test := some { t with left := 0 } }).enterTest u
      else s.setPort u fun p => { p with test := some { t with left := t.left - 1 } }
    else s
  | none => s

/-- The MARKERs of a block have gone out: READY in ALIGN (R383), and a MARKER less before an announced test (R393). -/
def State.afterMarkers (s : State) (u : Fin 2) : State :=
  (if s.portState u = 4 && (s.port u).aligned then s.sendBch u 0x06 0 else s).testMarker u true

/-- The lowest-numbered lane of the transmitter that is healthy in `m` and has the role of a ballast or spare. -/
def spareOf (m : Nat) (role : Fin 9 → Nat) : Option (Fin 9) :=
  (List.finRange 9).find? fun (j : Fin 9) => bitOf m j && role j == 8

/-- The egress direction switches to the lanes of the REMAP it echoed (R385, R386). -/
def State.switchTx (s : State) (u : Fin 2) (r : Remap) : State :=
  let role := fun (j : Fin 9) => s.fld (Reg.LN_LANE_TX u j) 27 24
  let m := laneMask fun j => role j != 0xF && !s.bit (Reg.LN_LANE_TX u j) 31
  let s := s.setPort u fun p => { p with txRemap := none }
  if r.width = 4 ∧ s.fld (Reg.LN_TRAIN_STAT u) 15 12 = 8 then
    let s := (s.forLanes fun s l => s.setFld (Reg.LN_LANE_TX u l) 27 24 (roleIn m 4 l)).setFld (Reg.LN_TRAIN_STAT u) 15 12 4
    let s := s.setPort u fun p => { p with sets := p.sets.flatMap halveSet }
    (s.bump (Reg.LN_DEGRADE_CNT u)).raise (laneEvent u 2) [(1, 1), (1, r.lane)]
  else match spareOf m role with
    | some j =>
      if s.fld (Reg.LN_LANE_TX u r.lane) 27 24 < 8 then
        (s.setFld (Reg.LN_LANE_TX u j) 27 24 (s.fld (Reg.LN_LANE_TX u r.lane) 27 24)).setFld (Reg.LN_LANE_TX u r.lane) 27 24 0xF
      else s
    | none => s

/-- The present block is the switch block of the REMAP that the egress direction echoed, and its MARKERs are still to come (R385). -/
def State.switchDue (s : State) (u : Fin 2) : Bool :=
  match (s.port u).txRemap with
  | some r => decide ((s.rd (Reg.LN_BLOCK u)).toNat % 65536 = r.block)
  | none => false

/-- The egress direction switches at the MARKERs of the present block, which go out on the lanes and with the width after it (R385, R386). -/
def State.switchMarkers (s : State) (u : Fin 2) : State :=
  match (s.port u).txRemap with
  | some r => ((s.switchTx u r).sendMarkers u).afterMarkers u
  | none => s

/-- MARKER_SEND: the 4096 counted words of the block on each lane, its SKIP words, its MARKER and the next block (R358 to R365), with READY in
ALIGN (R383). `gaps` counts the IDLE sets before each set that was sent in the block; the rest of the block is IDLE. The MARKERs of a switch
block go out with LANE_SWITCH, or here where that has not come (R385). -/
def execMarkerSend (p : Port) (gaps : List Nat) (s : State) : Res :=
  let u := p.idx
  .next (
    if (s.portState u = 4 ∨ s.portState u = 5) ∧ s.txAwake u then
      let s := if s.switchDue u then s.switchMarkers u else s
      let (block, rest) := weave 4096 gaps (s.port u).sets
      let s := (s.setPort u fun p => { p with sets := rest }).sendBlock u block
      let s := s.wr (Reg.LN_BLOCK u) (s.rd (Reg.LN_BLOCK u) + 1)
      if s.switchDue u then s else (s.sendMarkers u).afterMarkers u
    else s)

/-- Receive lane `l` has the MARKER of block `n`. -/
def State.hasMark (s : State) (u : Fin 2) (n : Nat) (l : Fin 9) : Bool :=
  let x := (s.port u).lanes[l]
  decide (0 < x.marks) && decide (x.block = n)

/-- The receive lanes in use. -/
def State.usedLanes (s : State) (u : Fin 2) : List (Fin 9) :=
  (List.finRange 9).filter fun l => s.fld (Reg.LN_LANE_RX u l) 27 24 < 8

/-- Every lane in use has the MARKER of block `n`, and so has the ballast where there is one (R366, R377). -/
def State.blockWhole (s : State) (u : Fin 2) (n : Nat) : Bool :=
  let w := s.rxWidth u
  let good := fun (r : Nat) => (List.finRange 9).any fun (l : Fin 9) => s.fld (Reg.LN_LANE_RX u l) 27 24 == r && s.hasMark u n l
  w != 0 && (List.range w).all good && (maskCount (s.fld (Reg.LN_TRAIN_STAT u) 8 0) < 9 || good 8)

/-- The lanes are aligned by the MARKERs of block `n` once all have come: a lane whose own came more than 16 words, 33 ticks, before the last
has overflowed its deskew buffer, which is counted, and word sets are marked errored up to the next MARKER (R366). -/
def State.deskew (s : State) (u : Fin 2) (n : Nat) : State :=
  if s.blockWhole u n && (s.port u).whole != some n then
    let late := (s.usedLanes u).countP fun l => decide (33 < s.now - ((s.port u).lanes[l]).markAt)
    (s.bumpBy (Reg.LN_ELASTIC_CNT u) late).setPort u fun p =>
      { p with
        whole := some n, overflow := late != 0
        deskewed := if late != 0 then 0 else match p.whole with
          | some k => if n = (k + 1) % 2 ^ 32 then p.deskewed + 1 else 1
          | none => 1 }
  else s

/-- The word sets that words received on the physical lanes form at the present width: SKIP words are dropped, and each set takes one word from
each lane in use (R366, R368). -/
def State.setsOf (s : State) (u : Fin 2) (lanes : Vector (List LaneWord) 9) : List WordSet :=
  let w := s.rxWidth u
  let on := fun (r : Nat) => match (s.usedLanes u).find? fun (l : Fin 9) => s.fld (Reg.LN_LANE_RX u l) 27 24 == r with
    | some l => (lanes[l]).filter fun (x : LaneWord) => !(x.head == 2 && payByte x.pay 0 == 0x2D)
    | none => []
  let rows := (List.range w).map on
  let n := rows.foldl (fun n x => max n x.length) 0
  (List.range n).map fun i => { words := rows.filterMap fun x => x[i]?, overflow := (s.port u).overflow }

/-- ALIGN ends in UP once the receive condition holds and READY is there (R377). -/
def State.alignExit (s : State) (u : Fin 2) : State :=
  if s.portState u = 4 && (s.port u).aligned && (s.port u).readyGot then s.enterUp u else s

/-- A payload is a valid MARKER (R363). -/
def markerOk (bs : List Byte) : Bool := byteAt bs 0 == 0x4B && crc8 (bs.take 7) == byteAt bs 7

/-- The words of a block of receive lane `l` are judged (R361, R362, R384), and its coder moves on. -/
def State.judgeWords (s : State) (u : Fin 2) (l : Fin 9) (ws : List LaneWord) (errs : Nat) (c : Coder) : State :=
  let role := s.fld (Reg.LN_LANE_RX u l) 27 24
  (s.bumpBy (Reg.LN_LANE_ERR_CNT u l) (errs + ws.countP badControl)).setLane u l fun x =>
    { x with rx := c, badWords := ws.countP fun w => badWord w role }

/-- What a valid MARKER of block `n` says of receive lane `l` (R363, R377, R378): its block and its arrival, the transmitter's number of the lane,
and in ALIGN, up to the alignment, its role and the width; after that the roles change with a switch alone (R385). -/
def State.noteMarker (s : State) (u : Fin 2) (l : Fin 9) (bs : List Byte) (n : Nat) : State :=
  let s := s.setLane u l fun x =>
    { x with
      marks := if x.marks = 0 ∨ n = (x.block + 1) % 2 ^ 32 then x.marks + 1 else 1, block := n, missed := 0, markAt := s.now
      phys := bitsOf (byteAt bs 1) 3 0 }
  let s := (s.setPort u fun p => { p with rxBlock := n }).setFld (Reg.LN_SLEEP_STAT u) 1 0 0
  let s := if s.bit (Reg.LN_LANE_RX u l) 30 then s else s.setBit (Reg.LN_LANE_RX u l) 31 true
  if s.portState u = 4 && !(s.port u).aligned then
    let s := if s.bit (Reg.LN_LANE_RX u l) 30 then s else s.setFld (Reg.LN_LANE_RX u l) 27 24 (bitsOf (byteAt bs 1) 7 4)
    s.setFld (Reg.LN_TRAIN_STAT u) 19 16 (bitsOf (byteAt bs 6) 7 4)
  else s

/-- MARKER_RECEIVE: the line bits of lane `l` from one MARKER to the end of the next, inverted back where the lane's polarity is inverted (R356,
R358 to R363, R366, R372). The last MARKER of a block aligns the lanes. -/
def execMarkerReceive (p : Port) (l : Fin 9) (bits : List Bool) (s : State) : Res :=
  let u := p.idx
  let bits := if s.bit (Reg.LN_LANE_RX u l) 29 then bits.map (!·) else bits
  let (ws, bs, errs, c) := readLine ((s.port u).lanes[l]).rx bits
  .next (
    if s.portState u = 4 ∨ s.portState u = 5 then
      let s := s.judgeWords u l ws errs c
      if markerOk bs then
        let block := fieldAt bs 2 4
        let fresh := block != (s.port u).rxBlock
        let s := (s.noteMarker u l bs block).deskew u block
        let s :=
          if s.portState u = 4 && !(s.port u).aligned && 4 ≤ (s.port u).deskewed then
            (s.setPort u fun p => { p with aligned := true }).sendBch u 0x06 0
          else s
        let s := s.alignExit u
        if fresh && s.portState u = 5 then s.testMarker u false else s
      else s.setLane u l fun x => { x with marks := 0, missed := x.missed + 1 }
    else s)

/-- A back-channel set of which no copy is valid (R381). -/
def State.bchBad (s : State) (u : Fin 2) : State := s.bump (Reg.LN_BCH_ERR_CNT u)

/-- A back-channel set with the copies that were received on the logical lanes: its first valid copy is acted on when it is the message `msg`
(R381). -/
def State.onBch (s : State) (u : Fin 2) (copies : List (Vector Byte 8)) (msg : Nat) (f : List Byte → State → State) : State :=
  match bchRead copies with
  | some bs => if byteAt bs 1 = msg then f bs s else s
  | none => s.bchBad u

/-- READY, received in ALIGN (R377, R383). -/
def State.takeReady (s : State) (u : Fin 2) : State :=
  if s.portState u = 4 then (s.setPort u fun p => { p with readyGot := true }).alignExit u else s

/-- BCH_READY: a READY message (R383). -/
def execBchReady (p : Port) (copies : List (Vector Byte 8)) (s : State) : Res :=
  .next (s.onBch p.idx copies 0x06 fun _ s => s.takeReady p.idx)

/-! ### Failure and takeover (R384 to R388) -/

/-- The lanes of the ingress direction that are healthy. -/
def State.rxHealthy (s : State) (u : Fin 2) : Nat := s.fld (Reg.LN_TRAIN_STAT u) 8 0

/-- The argument word of a REMAP (R381). -/
def remapArgs (lane width block : Nat) : Nat := (width * 16 + lane) * 0x1000000 + block % 65536 * 256

/-- A REMAP is sent for receive lane `l`, which it names as the transmitter does, for the `k`-th time (R356, R385). -/
def State.sendRemap (s : State) (u : Fin 2) (l : Fin 9) (width k : Nat) : State :=
  let block := ((s.port u).rxBlock + 4) % 65536
  let phys := ((s.port u).lanes[l]).phys
  let r : Remap := { lane := l, phys := phys, width := width, block := block, sentAt := s.now, tries := k }
  (s.setPort u fun p => { p with remap := some r }).sendBch u 0x01 (remapArgs phys width block)

/-- The ingress direction has fewer than four healthy lanes: the port goes down, in ALIGN the attempt fails (R371, R379, R387). -/
def State.laneShort (s : State) (u : Fin 2) : State := if s.portState u = 4 then s.failAttempt u else s.portDown u 1 true

/-- The handling of a failed lane begins (R385, R386): a lane in use is replaced from the ballast or a spare; a direction of width 8 that has
lost a lane since training, or has no lane to take over, drops to width 4; else a lane that is not in use only takes the takeover away. -/
def State.handleFail (s : State) (u : Fin 2) (l : Fin 9) : State :=
  let role := s.fld (Reg.LN_LANE_RX u l) 27 24
  let w := widthOf (if s.rxWidth u = 0 then maskCount (s.rxHealthy u) + 1 else s.rxWidth u)
  let spare := (List.finRange 9).any fun (j : Fin 9) => bitOf (s.rxHealthy u) j && s.fld (Reg.LN_LANE_RX u j) 27 24 == 8
  let drop := w == 8 && ((s.port u).lost || (role < 8 && !spare))
  let s := s.setPort u fun p => { p with lost := true }
  if drop then s.sendRemap u l 4 1 else if 8 ≤ role then s else s.sendRemap u l w 1

/-- A failure joins those that wait; failures of one block in the order of their lanes (R388). -/
def insertFail : List (Nat × Nat) → Nat → Nat → List (Nat × Nat)
  | [], b, l => [(b, l)]
  | (c, j) :: t, b, l => if c = b ∧ l < j then (b, l) :: (c, j) :: t else (c, j) :: insertFail t b l

/-- A receive lane is bad (R384): its MARKER is missing or has a bad CRC in 3 blocks in a row, more than 16 words of a block are not valid, or it
shows loss of signal for 1 µs (`los`). -/
def State.laneBad (s : State) (u : Fin 2) (l : Fin 9) (los : Bool) : Bool :=
  let x := (s.port u).lanes[l]
  let behind := ((s.port u).rxBlock + 2 ^ 32 - x.block) % 2 ^ 32
  los || decide (3 ≤ x.missed) || decide (3 ≤ behind ∧ behind < 2 ^ 31) || decide (16 < x.badWords)

/-- LANE_FAIL: a receive lane is declared failed (R384), also one that has been dead since ALIGN began. Checks pause while the direction
sleeps. -/
def execLaneFail (p : Port) (l : Fin 9) (los : Bool) (s : State) : Res :=
  let u := p.idx
  let up := s.portState u = 4 ∨ s.portState u = 5
  let used := s.fld (Reg.LN_LANE_RX u l) 27 24 ≠ 0xF
  .next (
    if up ∧ used ∧ s.fld (Reg.LN_SLEEP_STAT u) 1 0 = 0 ∧ !s.bit (Reg.LN_LANE_RX u l) 30 ∧ s.laneBad u l los then
      let s := ((s.setBit (Reg.LN_LANE_RX u l) 30 true).setBit (Reg.LN_LANE_RX u l) 31 false).setBit (Reg.LN_TRAIN_STAT u) l false
      if maskCount (s.rxHealthy u) < 4 then s.laneShort u
      else if (s.port u).remap.isSome then
        s.setPort u fun p => { p with waiting := insertFail p.waiting p.rxBlock l }
      else s.handleFail u l
    else s)

/-- A REMAP of the partner for transmit lane `lane`: it is echoed unless its switch block has begun (R385). -/
def State.takeRemap (s : State) (u : Fin 2) (lane width block : Nat) : State :=
  let ahead := (block + 65536 - (s.rd (Reg.LN_BLOCK u)).toNat % 65536) % 65536
  if (s.portState u = 4 ∨ s.portState u = 5) ∧ 0 < ahead ∧ ahead < 32768 ∧ lane < 9 then
    let s := s.setBit (Reg.LN_LANE_TX u lane) 31 true
    let r : Remap := { lane := lane, phys := lane, width := width, block := block, sentAt := s.now, acked := true }
    (s.setPort u fun p => { p with txRemap := some r }).sendBch u 0x02 (remapArgs lane width block)
  else s

/-- The REMAP outstanding is confirmed by its echo (R385). -/
def State.takeRemapAck (s : State) (u : Fin 2) (lane width block : Nat) : State :=
  match (s.port u).remap with
  | some r =>
    if r.phys = lane ∧ r.width = width ∧ r.block = block then s.setPort u fun p => { p with remap := some { r with acked := true } }
    else s
  | none => s

/-- BCH_REMAP: the partner names a failed lane of our egress direction (R385). -/
def execBchRemap (p : Port) (copies : List (Vector Byte 8)) (s : State) : Res :=
  .next (s.onBch p.idx copies 0x01 fun bs s => s.takeRemap p.idx (bitsOf (byteAt bs 2) 3 0) (bitsOf (byteAt bs 2) 7 4) (fieldAt bs 3 2))

/-- BCH_REMAP_ACK: the REMAP outstanding is confirmed (R385). -/
def execBchRemapAck (p : Port) (copies : List (Vector Byte 8)) (s : State) : Res :=
  .next (s.onBch p.idx copies 0x02 fun bs s => s.takeRemapAck p.idx (bitsOf (byteAt bs 2) 3 0) (bitsOf (byteAt bs 2) 7 4) (fieldAt bs 3 2))

/-- The failure that waits longest is handled, unless a REMAP is outstanding (R388). -/
def State.nextFail (s : State) (u : Fin 2) : State :=
  match (s.port u).waiting with
  | (_, l) :: t =>
    let s := s.setPort u fun p => { p with waiting := t }
    if h : l < 9 then s.handleFail u ⟨l, h⟩ else s
  | [] => s

/-- REMAP_TIMEOUT: 50 µs without REMAP_ACK: a new REMAP, or after three the port goes down (R385, R387). In ALIGN, which R371 lets no port leave
for that, the REMAP is abandoned and the phase runs out (DESIGN CHOICE). -/
def execRemapTimeout (p : Port) (s : State) : Res :=
  let u := p.idx
  .next (
    match (s.port u).remap with
    | some r =>
      if !r.acked && usPassed (s.now - r.sentAt) 50 then
        if h : r.tries < 3 ∧ r.lane < 9 then (s.bump (Reg.LN_REMAP_RETRY_CNT u)).sendRemap u ⟨r.lane, h.2⟩ r.width (r.tries + 1)
        else if s.portState u = 4 then (s.setPort u fun p => { p with remap := none }).nextFail u
        else s.portDown u 4 true
      else s
    | none => s)

/-- The receive lane with the transmitter's lowest number among those of `m` that are the ballast or spares. -/
def State.rxSpare (s : State) (u : Fin 2) (m : Nat) : Option (Fin 9) :=
  (List.range 9).findSome? fun k => (List.finRange 9).find? fun (j : Fin 9) =>
    bitOf m j && s.fld (Reg.LN_LANE_RX u j) 27 24 == 8 && ((s.port u).lanes[j]).phys == k

/-- The ingress direction switches to a REMAP's lanes, which the transmitter numbers, without knowing of failures that wait; the drop to width 4
is counted here (R385, R386, R388). Then the next failure that waits is handled. -/
def State.switchRx (s : State) (u : Fin 2) (r : Remap) : State :=
  let m := laneMask fun j => bitOf (s.rxHealthy u) j || (s.port u).waiting.any fun x => x.2 == j.val
  let s := s.setPort u fun p => { p with remap := none }
  let s :=
    if r.width = 4 ∧ s.fld (Reg.LN_TRAIN_STAT u) 19 16 = 8 then
      let heard := s.physMask u m
      let s := s.forLanes fun s l =>
        s.setFld (Reg.LN_LANE_RX u l) 27 24 (if bitOf m l then roleIn heard 4 ((s.port u).lanes[l]).phys else 0xF)
      ((s.setFld (Reg.LN_TRAIN_STAT u) 19 16 4).bump (Reg.LN_DEGRADE_CNT u)).raise (laneEvent u 2) [(1, 0), (1, r.lane)]
    else match s.rxSpare u m with
      | some j =>
        let s := (s.setFld (Reg.LN_LANE_RX u j) 27 24 (s.fld (Reg.LN_LANE_RX u r.lane) 27 24)).setFld (Reg.LN_LANE_RX u r.lane) 27 24 0xF
        (s.bump (Reg.LN_TAKEOVER_CNT u)).raise (laneEvent u 1) [(1, r.lane), (1, j)]
      | none => s
  s.nextFail u

/-- LANE_SWITCH: the MARKER of a switch block, received (`rx`) or sent, where it goes out with the roles and the width after the switch (R385, R386,
R388). -/
def execLaneSwitch (p : Port) (rx : Bool) (s : State) : Res :=
  let u := p.idx
  .next (
    if rx then
      match (s.port u).remap with
      | some r => if r.acked ∧ (s.port u).rxBlock % 65536 = r.block then s.switchRx u r else s
      | none => s
    else if s.switchDue u then s.switchMarkers u else s)

/-- TETHER_LOSS: the tether receiver has lost lock for 1 µs (R387); a tether that stops after a SLEEP set is NAP (R391). -/
def execTetherLoss (p : Port) (s : State) : Res :=
  let u := p.idx
  .next (if s.portState u ≠ 5 then s
    else if s.fld (Reg.LN_SLEEP_STAT u) 1 0 = 0 then s.portDown u 2 true
    else s.setFld (Reg.LN_SLEEP_STAT u) 1 0 2)

/-- BCH_RETRAIN: the partner takes the port down (R387). -/
def execBchRetrain (p : Port) (copies : List (Vector Byte 8)) (s : State) : Res :=
  .next (s.onBch p.idx copies 0x03 fun _ s => if s.portState p.idx = 5 then s.portDown p.idx 3 false else s)

/-- A write of retrain to LNx_CTRL (R380, R387): from UP the port goes down, from LISTEN training restarts; in any other
state the bit stands until TETHER begins. -/
def State.writeRetrain (s : State) (u : Fin 2) : State :=
  if s.portState u = 5 then s.portDown u 5 true
  else if s.portState u = 7 then s.beginTether u 1
  else s.setBit (Reg.LN_CTRL u) 31 true

/-- RETRAIN_WRITE (R387). -/
def execRetrainWrite (p : Port) (s : State) : Res := .next (if s.writable then s.writeRetrain p.idx else s)

/-! ### Sleep (R390 to R392) -/

/-- DOZE_ENTRY: only IDLE sets for doze_idle, so the transmitter sends SLEEP and sleeps (R390). A decision made while a wake
runs waits, and the idle timer restarts (`waking`, R392). `gaps` counts the IDLE sets before each set that was sent in the block and, last, before the
SLEEP set. -/
def execDozeEntry (p : Port) (waking : Bool) (gaps : List Nat) (s : State) : Res :=
  let u := p.idx
  let due := nsPassed (s.now - (s.port u).idleSince) (10 * s.fld (Reg.LN_SLEEP_CFG u) 25 16)
  .next (
    if s.portState u = 5 ∧ s.txAwake u ∧ s.bit (Reg.LN_SLEEP_CFG u) 31 ∧ due then
      if waking then (s.bump (Reg.LN_DEFER_CNT u)).setPort u fun p => { p with idleSince := s.now }
      else
        let sets := (s.port u).sets ++ [.control [BitVec.ofNat 8 0x55, BitVec.ofNat 8 0x01]]
        let s := s.sendSets u (weave (gaps.foldl (· + ·) 0 + sets.length) gaps sets).1
        let s := ((s.setFld (Reg.LN_SLEEP_STAT u) 5 4 1).bump (Reg.LN_DOZE_CNT u)).emit (.sleep u false)
        s.setPort u fun p => { p with dozeAt := s.now, sets := [] }
    else s)

/-- NAP_ENTRY: a further nap_idle has passed and the tether stops (R390). -/
def execNapEntry (p : Port) (s : State) : Res :=
  let u := p.idx
  let due := usPassed (s.now - (s.port u).dozeAt) (s.fld (Reg.LN_SLEEP_CFG u) 11 0)
  .next (
    if s.portState u = 5 ∧ s.fld (Reg.LN_SLEEP_STAT u) 5 4 = 1 ∧ s.bit (Reg.LN_SLEEP_CFG u) 30 ∧ due then
      (s.setFld (Reg.LN_SLEEP_STAT u) 5 4 2).bump (Reg.LN_NAP_CNT u)
    else s)

/-- Something asks for the egress direction: a parcel to send or a back-channel message (R390). -/
def State.wakeWanted (s : State) (u : Fin 2) : Bool :=
  (s.port u).bchWait != [] || (List.finRange 8).any fun (q : Fin 8) =>
    let x := (s.port u).queues[q]
    x.wait != [] || x.kept.any (·.again)

/-- LINK_WAKE: a sleeping direction wakes with a new block (R390); the messages that waited go out. `during` marks a request that
fell in the sleep entry and waited for its end (R392). The MARKERs count toward a test whose TEST message has gone out (R393). -/
def execLinkWake (p : Port) (during : Bool) (s : State) : Res :=
  let u := p.idx
  let announced := !(s.port u).bchWait.any fun x => x.1 == 0x04
  .next (
    if s.portState u = 5 ∧ !s.txAwake u ∧ s.wakeWanted u then
      let s := (if during then s.bump (Reg.LN_DEFER_CNT u) else s).wakeTx u
      if announced then s.testMarker u true else s
    else s)

/-- The last word set that was received is a SLEEP set, of type DOZE or NAP, not marked errored (R362, R369, R390). -/
def State.sleepSet (s : State) (u : Fin 2) (last : Vector (List LaneWord) 9) : Bool :=
  match (s.setsOf u last).getLast? with
  | some x =>
    !badSet x (s.rxWidth u) && x.words.all fun y => y.head == 2 && payByte y.pay 0 == 0x55 && (payByte y.pay 1 == 1 || payByte y.pay 1 == 2)
  | none => false

/-- SLEEP_RECEIVE: electrical idle on every lane, with the tether stopped too (`nap`), after the last words `last` of each lane: it is sleep when
they are a SLEEP set, or when the direction sleeps already (R391). -/
def execSleepReceive (p : Port) (last : Vector (List LaneWord) 9) (nap : Bool) (s : State) : Res :=
  let u := p.idx
  let asleep := s.fld (Reg.LN_SLEEP_STAT u) 1 0 ≠ 0
  .next (if s.portState u = 5 ∧ (asleep ∨ s.sleepSet u last = true) then
      s.setFld (Reg.LN_SLEEP_STAT u) 1 0 (if nap then 2 else max 1 (s.fld (Reg.LN_SLEEP_STAT u) 1 0))
    else s)

/-! ### The lane test (R393 to R395) -/

/-- A write of LNx_TEST_CFG: its fields are stored; go announces a test in READY with the port UP, and is ignored elsewhere
(R393). -/
def State.writeTest (s : State) (u : Fin 2) (w : Word) : State :=
  let a := Reg.LN_TEST_CFG u
  let s := (s.setFld a 25 24 (fldOf w 25 24)).setFld a 8 0 (fldOf w 8 0)
  if fldOf w 31 31 = 1 ∧ s.mode = .ready ∧ s.portUp u then
    let s := (s.setBit a 31 true).setPort u fun p =>
      { p with test := some { pattern := fldOf w 25 24, lanes := fldOf w 8 0, left := 2, own := true } }
    s.sendBch u 0x04 (fldOf w 25 24 * 0x1000000 + fldOf w 8 0 * 256)
  else s

/-- TEST_START (R393). -/
def execTestStart (p : Port) (w : Word) (s : State) : Res := .next (if s.writable then s.writeTest p.idx w else s)

/-- BCH_TEST: the partner announces a test, in READY with the port UP (R393). -/
def execBchTest (p : Port) (copies : List (Vector Byte 8)) (s : State) : Res :=
  let u := p.idx
  .next (s.onBch u copies 0x04 fun bs s =>
    if s.portUp u && s.mode == .ready then
      s.setPort u fun p => { p with test := some { pattern := byteAt bs 2 % 4, lanes := fieldAt bs 3 2 % 512, left := 2, own := false } }
    else s)

/-- The bits that lane `l` has received since the last ones pass its checker, inverted back where the lane's polarity is inverted; the errors
while it held lock are counted (R372, R394). -/
def State.prbsFeed (s : State) (u : Fin 2) (l : Fin 9) (bits : List Bool) : State :=
  match (s.port u).test with
  | some t =>
    if s.portState u = 8 ∧ bitOf t.lanes l then
      let bits := if s.bit (Reg.LN_LANE_RX u l) 29 then bits.map (!·) else bits
      let c := ((s.port u).lanes[l]).checker.take t.pattern bits
      ((s.bumpBy (Reg.LN_PRBS_ERR_CNT u l) c.errs).setLane u l fun x => { x with checker := { c with errs := 0 } }).setBit
        (Reg.LN_TEST_STAT u) l c.lock
    else s
  | none => s

/-- TEST_END: test_ms have passed and the port goes to ALIGN (R393). `bits` are the last bits that each lane received (R394). -/
def execTestEnd (p : Port) (bits : Vector (List Bool) 9) (s : State) : Res :=
  let u := p.idx
  .next (
    if s.portState u = 8 ∧ msPassed (s.now - (s.port u).since) (max 1 (s.fld (Reg.LN_TEST_DUR u) 15 0)) then
      let s := s.forLanes fun s (l : Fin 9) => s.prbsFeed u l bits[l]
      ((s.wr (Reg.LN_TEST_STAT u) 0).setPort u fun p => { p with test := none }).beginAlign u
    else s)

/-- PRBS_CHECKER_LOCK: the bits of lane `l` up to the 64th correct one in a row (R394). -/
def execPrbsCheckerLock (p : Port) (l : Fin 9) (bits : List Bool) (s : State) : Res := .next (s.prbsFeed p.idx l bits)

/-- PRBS_CHECKER_LOCK_LOSS: the bits of lane `l` up to the 64th error in 1024 (R394). -/
def execPrbsCheckerLockLoss (p : Port) (l : Fin 9) (bits : List Bool) (s : State) : Res := .next (s.prbsFeed p.idx l bits)

/-- A write of LNx_TEST_INJ: its fields are stored; inject inverts bits in TEST, and in READY with the port UP (R395). The next bit is the one
that 32 bits a tick since the line's last bits give. -/
def State.writeInject (s : State) (u : Fin 2) (w : Word) : State :=
  let a := Reg.LN_TEST_INJ u
  let s := ((s.setFld a 30 30 (fldOf w 30 30)).setFld a 21 16 (fldOf w 21 16)).setFld a 3 0 (fldOf w 3 0)
  let n := if fldOf w 30 30 = 1 then fldOf w 21 16 + 1 else 1
  if fldOf w 31 31 = 1 ∧ s.mode = .ready ∧ (s.portState u = 8 ∨ s.portUp u) then
    let s := s.emit (.inject u (fldOf w 3 0) n)
    if h : fldOf w 3 0 < 9 then
      s.setLane u ⟨fldOf w 3 0, h⟩ fun x => { x with flips := x.flips ++ [(32 * (s.now - x.lineAt), n)] }
    else s
  else s

/-- ERROR_INJECT (R395). -/
def execErrorInject (p : Port) (w : Word) (s : State) : Res := .next (if s.writable then s.writeInject p.idx w else s)

end Sys2Proof.Machine
end

