-- ==== Sys2Proof/Machine/Memory.lean ====
section
/-! DEFINITION. The commands of the DRAM controller (R496 to R502): requests that arrive and wait, age promotion, refresh, retraining, scrub, and
power-down of ranks. -/

namespace Sys2Proof.Machine

/-! ### Requests (R484 to R497) -/

/-- An arrival is an access of channel `c` that lies in DRAM (R484) and within one block. -/
def State.arrives (s : State) (c : Fin 2) (x : MemArrival) : Bool :=
  let a := x.addr.toNat
  decide (0 < x.n) && s.inDram a x.n && a / 64 == (a + x.n - 1) / 64 && s.chanOf a == c
    && (match x.data with | some bs => bs.length == x.n | none => true)

/-- An arrival as it waits. -/
def State.request (s : State) (x : MemArrival) : DramReq :=
  { class_ := x.cls, addr := x.addr.toNat, n := x.n, data := x.data, at_ := s.now, spool := x.spool }

/-- DRAM_REQUEST at channel `c` (R484 to R497): requests arrive, and the one that goes first is served, unless a retrain step blocks the channel
(R500). `upsets` names the units that
an upset struck since. -/
def execDramRequest (c : Fin 2) (arrivals : List MemArrival) (upsets : List (Nat × Upset)) (s : State) : Res :=
  let s := (arrivals.foldl (fun s x => if s.arrives c x then s.join (s.request x) else s) s).upset upsets
  .next (match if s.now < (s.mem.chans[c]).blocked then none else s.serve c with
    | none => s
    | some (_, _, s) => s)

/-- AGE_PROMOTION at channel `c` (R496): every request of a class above 0 that has waited longer than the age limit counts as class 0,
and is counted once. -/
def execAgePromotion (c : Fin 2) (s : State) : Res :=
  let limit := s.fld Reg.MEM_SCHED_CFG 25 16 * 10
  let due := fun (x : DramReq) => !x.promoted && x.class_ != 0 && decide (limit * 3072 < (s.now - x.at_) * 3125)
  let n := (s.mem.chans[c]).queue.countP due
  .next ((s.bumpBy Reg.MEM_AGE_PROMO_CNT n).setChan c fun k =>
    { k with queue := k.queue.map fun x => if due x then { x with promoted := true } else x })

/-! ### Refresh (R499) -/

/-- REFRESH_RATE_READ: channel `c` reads the refresh rate that its device asks for (R499). -/
def execRefreshRateRead (c : Fin 2) (rate : BitVec 8) (s : State) : Res :=
  .next (s.setChan c fun k => { k with rate := rate.toNat })

/-- REFRESH_DUE of a bank of channel `c` (R499): postponed while requests of class 0 wait for the bank, up to the limit; the refresh
closes the bank's row. -/
def execRefreshDue (c : Fin 2) (rank : Fin 2) (bank : Fin 16) (s : State) : Res :=
  let b := rank.val * 16 + bank.val
  let k := s.mem.chans[c]
  let n := tabGet (fun _ => 0) k.postponed b
  let pending := k.queue.any fun x => (x.class_ = 0 || x.promoted) && (s.bankRow x.addr).2.1 = b
  .next (if rank.val = 1 && !s.twoRanks then s
    else if pending && decide (n < Config.postponeLimit) then
      s.setChan c fun k => { k with postponed := tabPut (fun _ => 0) k.postponed b (n + 1) }
    else
      let s := if pending then s.bump (Reg.MEM_REF_FORCED_CNT c) else s
      s.setChan c fun k =>
        { k with postponed := tabPut (fun _ => 0) k.postponed b 0, rows := tabPut (fun _ => 0) k.rows b 0 })

/-! ### Retraining (R500) -/

/-- RETRAIN_OSC_READ of channel `c` (R500): the drift of each rank since the last training, in ps, and what it asks for. -/
def execRetrainOscRead (c : Fin 2) (drift : Vector (BitVec 8) 2) (s : State) : Res :=
  let d0 := drift[0].toInt
  let d1 := drift[1].toInt
  let d := if s.twoRanks && decide (d0.natAbs < d1.natAbs) then d1 else d0
  let s := s.setFld (Reg.MEM_CH_STAT c) 7 0 (toBits 8 d)
  let force := decide (s.fld Reg.MEM_RETRAIN_CFG 31 24 ≤ d.natAbs)
  let step := decide (s.fld Reg.MEM_RETRAIN_CFG 23 16 ≤ d.natAbs)
  .next (s.setChan c fun k => { k with forceDue := force, stepDue := step })

/-- RETRAIN_STEP of channel `c` (R500): a forced step outside a gather window, or one that is due, in an OPEN symbol outside every
welt. -/
def execRetrainStep (c : Fin 2) (s : State) : Res :=
  let k := s.mem.chans[c]
  let d := s.fld (Reg.MEM_CH_STAT c) 7 0
  let done := fun (s : State) =>
    (s.setFld (Reg.MEM_CH_STAT c) 7 0 0).setChan c fun k => { k with forceDue := false, stepDue := false, blocked := s.now + 1180 }
  .next (if k.forceDue && !s.gathering then
      done ((s.bump (Reg.MEM_RETRAIN_FORCED_CNT c)).raise 0x0503 [(1, c), (1, d)])
    else if k.stepDue && !k.forceDue && s.aligned && s.symUse (airAt s.airPos).1 == 3 && !s.isD (airAt s.airPos).1
        && !s.isU (airAt s.airPos).1 && !s.air.rxClosed then
      done (s.bump (Reg.MEM_RETRAIN_CNT c))
    else s)

/-! ### Scrub and power-down (R501, R502) -/

/-- SCRUB_READ (R501): the next block is read in class 3 and corrected under R492; the last one completes a pass. -/
def execScrubRead (upsets : List (Nat × Upset)) (s : State) : Res :=
  let s := s.upset upsets
  .next (if s.bit Reg.MEM_SCRUB_CFG 31 then
      let s := (s.memRead (s.mem.scrubbed * 64) 64 3 0x3F).2
      let n := s.mem.scrubbed + 1
      if s.dramSize ≤ n * 64 then
        { s.bump Reg.MEM_SCRUB_PASS_CNT with mem := { s.mem with scrubbed := 0 } }
      else { s with mem := { s.mem with scrubbed := n } }
    else s)

/-- RANK_POWER_DOWN of a rank of channel `c` (R502): with no request to it outstanding for pd_timer it enters power-down. -/
def execRankPowerDown (c : Fin 2) (rank : Fin 2) (s : State) : Res :=
  let k := s.mem.chans[c]
  let b := 16 + rank.val
  let busy := k.queue.any fun x => (s.bankRow x.addr).2.1 / 16 = rank.val
  let idle := nsPassed (s.now - k.lastReq[rank]) (s.fld Reg.MEM_SCHED_CFG 9 0 * 10)
  .next (if busy || !idle || (rank.val = 1 && !s.twoRanks) || s.bit (Reg.MEM_CH_STAT c) b then s
    else (s.setBit (Reg.MEM_CH_STAT c) b true).bump (Reg.MEM_PD_CNT c))

end Sys2Proof.Machine
end

