-- ==== Sys2Proof/Machine/ImageCheck.lean ====
section
/-! DEFINITION. What the keeper refuses in an image (check 6 of R556): the words of its REG records (R553), the consistency of its
settings, and its TDD pattern (R26, R32, R125, R347, R460). Times of the pattern are counted in 1/32 of a sample. -/

namespace Sys2Proof.Machine

/-! ### REG records (R553) -/

/-- The bits of a ro field that the image loads. -/
def imageRo (a : Nat) : Word :=
  if a = Reg.SYN_LO then 0x3FFFF
  else if a / 0x400000 = 0x34 ∧ a % 0x10000 = 4 then 0xFFFF0000
  else 0

/-- The bits that a REG record sets at address `a`; none where the address is unmapped. -/
def imageMask (a : Nat) : Option Word :=
  match specOf a with
  | some (r, _) => some (BitVec.ofNat 32 r.im ||| BitVec.ofNat 32 r.rw ||| imageRo a)
  | none => none

/-- A word of a REG record is one that R553 admits. -/
def wordOk (x : Nat × Word) : Bool :=
  match imageMask x.1 with
  | some m => x.2 &&& ~~~m = 0
  | none => false

/-- A word of the static beam table, which SRAM holds (R199). -/
def isStatic (a : Nat) : Bool := 0x0E700000 ≤ a && a < 0x0E740000

/-- A word of a REG record takes its place. -/
def State.loadWord (s : State) (x : Nat × Word) : State :=
  if isStatic x.1 then s.memPuts (x.1 - 0x0E700000 + 0xF1700000) (bytesOf 4 x.2.toNat)
  else
    let m := (imageMask x.1).getD 0
    s.wr x.1 ((s.rd x.1 &&& ~~~m) ||| (x.2 &&& m))

/-- The carriers that an image enables, by bit: those whose DFE_CAR_CFG one of its REG records names. -/
def enabledBy (words : List (Nat × Word)) : Nat := maskOf 4 fun c => words.any fun x => x.1 = Reg.DFE_CAR_CFG c

/-! ### The pattern -/

/-- The symbols of the pattern pair: code, start and end. -/
def pairSyms (pats : List Pattern) : List (Nat × Int × Int) :=
  (List.zip (List.range 560) (pats.map (·.syms)).flatten).map fun (i, c) =>
    let a : Nat := (i / 14 * slotSamples + symStart (i % 14)) * 32
    (c, (a : Int), (a + symLen (i % 14) * 32 : Nat))

/-- Two intervals meet on a circle of length `l`. -/
def cycMeets (l : Int) (x y : Int × Int) : Bool :=
  [-2, -1, 0, 1, 2].any fun k => decide (x.1 < y.2 + k * l) && decide (y.1 + k * l < x.2)

/-- The pattern of an image as the checks see it: the length of the pair, its symbols, the length of ul_advance. -/
structure PatView where
  len : Int
  syms : List (Nat × Int × Int)
  adv : Int
  deriving DecidableEq, Repr

/-- The view of an air record. -/
def patView (a : Air) : PatView :=
  { len := ((a.pats.map (·.nSlot)).foldl (· + ·) 0 * slotSamples * 32 : Nat), syms := pairSyms a.pats, adv := (a.ulAdvance * 32 : Nat) }

/-- The symbol before each symbol on the circle, and the symbol after it: triples of codes with the middle symbol's interval. -/
def PatView.around (v : PatView) : List (Nat × Nat × Nat × Int × Int) :=
  let cs := v.syms.map (·.1)
  let n := cs.length
  (List.zip (List.range n) v.syms).map fun (i, c, a, b) => (cs.getD ((i + n - 1) % n) 8, c, cs.getD ((i + 1) % n) 8, a, b)

/-- A welt of 3.2 µs. -/
def weltLen : Int := 12583

/-- The welts at the D/U boundaries (R32, R35, R36). -/
def PatView.welts (v : PatView) : List (Int × Int) :=
  (v.around.map fun (p, c, n, a, b) =>
    (if c / 4 = 0 ∧ p / 4 ≠ 0 then [(a - weltLen, a)] else [])
      ++ (if c / 4 = 0 ∧ n / 4 ≠ 0 then [(b, b + weltLen)] else [])).flatten

/-- The welts on either side of each kite window (R463). -/
def PatView.kiteWelts (v : PatView) : List (Int × Int) :=
  (v.around.map fun (p, c, n, a, b) =>
    (if c = 9 ∧ p ≠ 9 then [(a - weltLen, a)] else []) ++ (if c = 9 ∧ n ≠ 9 then [(b, b + weltLen)] else [])).flatten

/-- The intervals of the symbols whose code meets `f`, moved earlier by `d`. -/
def PatView.ivs (v : PatView) (f : Nat → Bool) (d : Int) : List (Int × Int) :=
  (v.syms.filter fun x => f x.1).map fun x => (x.2.1 - d, x.2.2 - d)

/-- R26: every period is one of the list, and the pair divides 20 ms. -/
def patPeriods (a : Air) : Bool :=
  a.pats.all (fun p => [1, 2, 4, 5, 6, 8, 10, 20].contains p.nSlot)
    && 40 % max 1 ((a.pats.map (·.nSlot)).foldl (· + ·) 0) = 0

/-- R32: no welt meets a D, U, KITE or CAL symbol, and no KITE, CAL or OPEN symbol meets a U symbol on the uplink grid. -/
def PatView.weltsClear (v : PatView) : Bool :=
  let us := v.ivs (fun c => c / 4 = 1) v.adv
  let fixed := v.ivs (fun c => c / 4 = 0 || c = 9 || c = 10) 0
  (v.welts.all fun w => (us ++ fixed).all fun x => !cycMeets v.len w x)
    && (v.ivs (fun c => 9 ≤ c) 0).all fun x => us.all fun u => !cycMeets v.len x u

/-- The first symbol of the pair that a welt meets, or that overlaps a U symbol, against R32. -/
def PatView.failSym (v : PatView) : Option Nat :=
  let us := v.ivs (fun c => c / 4 = 1) v.adv
  v.syms.findIdx? fun (c, a, b) =>
    ((c / 4 < 2 || c = 9 || c = 10) && v.welts.any fun w => cycMeets v.len w (if c / 4 = 1 then (a - v.adv, b - v.adv) else (a, b)))
      || (decide (9 ≤ c) && us.any fun u => cycMeets v.len (a, b) u)

/-- R460: every KITE group has six symbols between GUARD symbols. -/
def PatView.kiteGroups (v : PatView) : Bool :=
  let cs := v.syms.map (·.1)
  let n := cs.length
  let at_ := fun i => cs.getD (i % n) 8
  let starts := (List.range n).filter fun i => at_ i = 9 && at_ (i + n - 1) != 9
  (starts != [] || cs.all (· != 9))
    && starts.all fun i => at_ (i + n - 1) = 8 && ((List.range 6).all fun k => at_ (i + k) = 9) && at_ (i + 6) = 8

/-- R125: the circle holds an eligible window of at least 16 µs, with every KITE and CAL symbol active and the kite welts taken
out. -/
def PatView.hasWindow (v : PatView) : Bool :=
  let bad := v.welts ++ v.kiteWelts ++ v.ivs (fun c => c / 4 != 2 || c = 9 || c = 10) 0 ++ v.ivs (fun c => c / 4 = 1) v.adv
  bad = [] || bad.any fun x => bad.all fun y => !cycMeets v.len (x.2, x.2 + 62915) y

/-- D time in the 10 ms from `t` on. -/
def PatView.dTime (v : PatView) (t : Int) : Int :=
  (v.ivs (fun c => c / 4 = 0) 0).foldl (fun n (a, b) =>
    (List.range 22).foldl (fun n (r : Nat) =>
      n + max 0 (min (b + r * v.len) (t + 39321600) - max (a + r * v.len) t)) n) 0

/-- R347: no window of 10 ms holds more D time than the limit, in 0.5 %. The windows that hold most begin where a run begins or end
where one ends. -/
def PatView.dutyOk (v : PatView) (duty10 : Nat) : Bool :=
  let starts := (v.around.filter fun (p, c, _) => c / 4 = 0 && p / 4 != 0).map fun x => x.2.2.2.1
  let ends := (v.around.filter fun (_, c, n, _) => c / 4 = 0 && n / 4 != 0).map fun x => (x.2.2.2.2 - 39321600) % v.len
  (0 :: starts ++ ends).all fun t => decide (200 * v.dTime t ≤ (duty10 * 39321600 : Nat))

/-- The pattern passes every check on it. -/
def patternOk (a : Air) (duty10 : Nat) : Bool :=
  patPeriods a && (let v := patView a; v.weltsClear && v.hasWindow && v.kiteGroups && v.dutyOk duty10)

/-! ### Settings -/

/-- R42, R43: the arrival windows. -/
def windowsOk (a : Air) : Bool :=
  200 ≤ a.cOpen && a.cOpen ≤ 2000 && 120 ≤ a.cClose && a.cClose ≤ 500 && 100 ≤ a.uOpen && a.uOpen ≤ 1000
    && 60 ≤ a.uClose && a.uClose ≤ 250 && a.cClose < a.cOpen && a.uClose < a.uOpen && a.uClose ≤ a.cClose

/-- Offset of carrier `c` as the image gives it, in 5 kHz. -/
def State.imageOfs (s : State) (c : Nat) : Int := s.sfld (Reg.DFE_CAR_OFS c) 16 0

/-- R111, R139 to R141, R347: the LO and the enabled carriers. -/
def State.carriersOk (s : State) : Bool :=
  let lo := s.fld Reg.SYN_LO 17 0
  loAllowed lo && (List.finRange 4).all fun (c : Fin 4) =>
    !s.carEnabled c || (s.carBw c ≤ 5 && (s.imageOfs c).natAbs ≤ 40000 && s.carFits lo (fun d => s.imageOfs d) c)

/-- R200: the array. -/
def State.arrayOk (s : State) : Bool :=
  let pol := s.fld Reg.BMX_GEOM 1 0
  (pol = 1 || pol = 2) && s.fld Reg.BMX_GEOM 22 16 * s.fld Reg.BMX_GEOM 14 8 * pol = 64
    && (List.range 64).all fun p => (List.range 64).any fun e => s.fld (Reg.BMX_PATH_MAP e) 5 0 = p

/-- R281: the tap delays. -/
def State.tapsOk (s : State) : Bool :=
  let f := fun i => s.fld Reg.DPD_TAPS0 (8 * i + 4) (8 * i)
  let g := fun i => s.fld Reg.DPD_TAPS1 (8 * i + 4) (8 * i)
  1 ≤ f 0 && f 0 < f 1 && f 1 < f 2 && f 2 < f 3 && f 3 < g 0 && g 0 < g 1 && g 1 < g 2

/-- R488, R495, R183: the DRAM and its mapping, and the last region. DESIGN CHOICE: R183 names 1 to 2048 lasts and refuses only a region that leaves
the DRAM, so another n_last is no fault of its own. -/
def State.dramOk (s : State) : Bool :=
  let ms := if s.twoRanks then [0, 1, 2, 3, 4, 5] else [0, 1, 2, 3, 4]
  let homes := (ms.map fun i => 2 ^ (11 + i)).foldl (· + ·) 0
  s.fld Reg.MEM_CFG 1 0 ≠ 3
    && (ms.all fun i => Nat.land (s.mapMask i) homes = 2 ^ (11 + i) && s.mapMask i < 2 ^ (30 + s.fld Reg.MEM_CFG 1 0))
    && s.lastBase + 2 * s.nLast * lastSlot ≤ s.dramSize

/-- R303: a guard threshold in 0.25 dBm less the coupling in 0.01 dB lies in the detector range; 0xFF is disabled. -/
def guardThrOk (v cpl : Nat) : Bool :=
  v = 0xFF || (decide (-2000 ≤ (25 * v : Nat) - (cpl : Int)) && decide ((25 * v : Nat) - (cpl : Int) ≤ 1200))

/-- R303: every guard threshold. -/
def State.guardOk (s : State) : Bool :=
  ((List.range 64).all fun p =>
    let cpl := s.fld (Reg.DPD_OBS_CFG p) 31 16
    guardThrOk (s.fld (Reg.DPD_GUARD_THR p) 31 24) cpl && guardThrOk (s.fld (Reg.DPD_GUARD_THR p) 23 16) cpl)
    && (List.range 16).all fun q => guardThrOk (s.fld (Reg.DPD_REFL_THR q) 7 0) (s.fld (Reg.DPD_REFL_THR q) 31 16)

/-- R325: the quad masks of LEAN. -/
def State.leanOk (s : State) : Bool :=
  let a := s.fld Reg.SEQ_LEAN_MASK 31 16
  let b := s.fld Reg.SEQ_LEAN_MASK 15 0
  let cnt := fun m => (List.range 16).countP fun i => bitOf m i
  cnt a = 8 && cnt b = 4 && (List.range 16).all fun i => !bitOf b i || bitOf a i

/-- R542: the enabled thresholds of sensor `t` are in order. -/
def State.thresholdsOk (s : State) (t : Nat) : Bool :=
  let w := s.fld (Reg.HKA_THR0 t) 31 16
  let h := s.fld (Reg.HKA_THR0 t) 15 0
  let c := s.fld (Reg.HKA_THR1 t) 31 16
  let le := fun a b : Nat => a = 0x7FFF || b = 0x7FFF || decide (signedOf 16 a ≤ signedOf 16 b)
  le w h && le h c && le w c

/-- The remaining refusals: R174, R196, R229, R405, R526, R531. -/
def State.fieldsOk (s : State) : Bool :=
  ((List.range 4).all fun c => s.fld (Reg.SYM_BFP_CFG c) 5 4 != 3 && s.fld (Reg.SYM_BFP_CFG c) 1 0 != 3)
    && s.fld Reg.BMX_INLINE_CFG 1 0 != 3
    && (8 ≤ s.fld Reg.WSV_LIMITS 20 16 && s.fld Reg.WSV_LIMITS 20 16 ≤ 28)
    && ((List.range 8).all fun q => 129 ≤ s.fld (Reg.PKT_Q_CFG q) 31 16)
    && ((List.range 80).all fun c => s.fld (Reg.BIA_CH_CFG c) 4 0 < 28 || s.fld (Reg.BIA_CH_CFG c) 4 0 = 31)
    && (List.range 128).all fun i => s.fld (Reg.HKA_ENTRY i) 31 26 < 62

/-- R464: the kite band lies inside the IBW and inside one piece in force. -/
def State.kiteOk (s : State) : Bool :=
  let f : Int := s.fld Reg.KTE_FREQ 19 0
  s.kiteBandIn (s.fld Reg.SYN_LO 17 0) && s.bandPermitted (f - 1728) (f + 1728)

/-- The state as the image would leave its registers, with the limits that would be in force: what check 6 judges. -/
def State.withImage (s : State) (m : Image) (l : Limits) : State :=
  let s := (m.words.foldl State.loadWord s).applyLimits l
  { s with dfe := { s.dfe with enabled := enabledBy m.words } }

/-- The slot and symbol that a refusal by check 6 is recorded with: those that R32 finds. A refusal for want of a window (R125) or for a
carrier (R141) is recorded as R32 describes, but no rule says with which symbol: free values. -/
def State.failAt (s : State) (m : Image) (a : Air) (l : Limits) : Option (Nat × Nat) :=
  match (patView a).failSym with
  | some i => some (i / 14, i % 14)
  | none =>
    if !(patView a).hasWindow || !(s.withImage m l).carriersOk then some (Config.free s.freeIdx % 40, Config.free (s.freeIdx + 1) % 14)
    else none

/-- Check 6 of R556. -/
def State.imageOk (s : State) (m : Image) (a : Air) (l : Limits) : Bool :=
  m.words.all wordOk
    && (let t := s.withImage m l
        windowsOk a && t.carriersOk && t.arrayOk && t.tapsOk && t.dramOk && t.guardOk && t.leanOk
          && ((List.range 28).all fun k => t.thresholdsOk k) && t.fieldsOk && t.kiteOk)
    && patternOk a l.duty10

end Sys2Proof.Machine
end

