-- ==== Sys2Proof/Machine/Linear.lean ====
section
/-! DEFINITION. Linear algebra on complex rationals: the factor of a Hermitian matrix, its inverse, and the solution of a system, as the
uplink filters (R260) and the pre-distorter's updates (R297) use them. -/

namespace Sys2Proof.Machine

/-! ### Complex rationals -/

def rAdd (a b : CRat) : CRat := (a.1 + b.1, a.2 + b.2)
def rMul (a b : CRat) : CRat := (a.1 * b.1 - a.2 * b.2, a.1 * b.2 + a.2 * b.1)
def rConj (a : CRat) : CRat := (a.1, -a.2)
def rScale (x : Rat) (a : CRat) : CRat := (x * a.1, x * a.2)
def rAbs2 (a : CRat) : Rat := a.1 * a.1 + a.2 * a.2
def rSum (l : List CRat) : CRat := l.foldl rAdd (0, 0)
def ofInt (a : CInt) : CRat := ((a.1 : Rat), (a.2 : Rat))

/-- The quotient of two complex numbers. -/
def rDiv (a b : CRat) : CRat := rScale (1 / rAbs2 b) (rMul a (rConj b))

/-- The scalar product Σ conj(a) b. -/
def rDot (a b : List CRat) : CRat := rSum (List.zipWith (fun x y => rMul (rConj x) y) a b)

/-- Entry (i, j) of a matrix by rows. -/
def rget (m : List (List CRat)) (i j : Nat) : CRat := (m.getD i []).getD j (0, 0)

/-- An `n` × `m` matrix from its entries. -/
def rMat (n m : Nat) (f : Nat → Nat → CRat) : List (List CRat) := (List.range n).map fun i => (List.range m).map fun j => f i j

/-- The unit lower factor and the pivots of a Hermitian matrix m = l d l^H: the pivots are the squares of the Cholesky factor's
diagonal (R260). -/
def ldl (m : List (List CRat)) (k : Nat) : List (List CRat) × List Rat :=
  (List.range k).foldl (fun (l, d) i =>
    let row := (List.range i).foldl (fun (row : List CRat) j =>
      let sum := rSum ((List.range j).map fun t => rScale (d.getD t 0) (rMul (row.getD t (0, 0)) (rConj (rget l j t))))
      row ++ [rScale (1 / d.getD j 0) (rAdd (rget m i j) (rScale (-1) sum))]) []
    let di := (rget m i i).1 - ((List.range i).foldl (fun x t => x + d.getD t 0 * rAbs2 (row.getD t (0, 0))) 0)
    (l ++ [row ++ [(1, 0)]], d ++ [di])) ([], [])

/-- The inverse of a Hermitian matrix from its factor: m^−1 = x^H d^−1 x with x = l^−1. -/
def ldlInverse (l : List (List CRat)) (d : List Rat) (k : Nat) : List (List CRat) :=
  let x := (List.range k).foldl (fun (x : List (List CRat)) i =>
    x ++ [(List.range i).map (fun j =>
      rScale (-1) (rSum ((List.range (i - j)).map fun t => rMul (rget l i (j + t)) (rget x (j + t) j)))) ++ [(1, 0)]]) []
  rMat k k fun i j => rSum ((List.range k).map fun t => rScale (1 / d.getD t 0) (rMul (rConj (rget x t i)) (rget x t j)))

/-- The product of two matrices. -/
def rProd (a b : List (List CRat)) (n k m : Nat) : List (List CRat) :=
  rMat n m fun i j => rSum ((List.range k).map fun t => rMul (rget a i t) (rget b t j))

/-- The solution y of l d l^H y = b. -/
def ldlSolve (l : List (List CRat)) (d : List Rat) (b : List CRat) (k : Nat) : List CRat :=
  let w := (List.range k).foldl (fun (w : List CRat) i =>
    w ++ [rAdd (b.getD i (0, 0)) (rScale (-1) (rSum ((List.range i).map fun t => rMul (rget l i t) (w.getD t (0, 0)))))]) []
  (List.range k).foldl (fun (y : List CRat) n =>
    let i := k - 1 - n
    rAdd (rScale (1 / d.getD i 0) (w.getD i (0, 0)))
      (rScale (-1) (rSum (y.zipIdx.map fun (v, t) => rMul (rConj (rget l (i + 1 + t) i)) v))) :: y) []

end Sys2Proof.Machine
end

