-- ==== Sys2Proof/Machine/Learning.lean ====
section
/-! DEFINITION. What the pre-distorter learns from a capture: alignment and error (R296), the figures (R301), and the update of a bank with
its scaling (R288, R297). The capture holds 16 384 samples of x and of o. -/

namespace Sys2Proof.Machine

/-! ### Alignment (R296) -/

/-- Samples of a capture (R293). -/
def capLen : Nat := 16384

/-- The correlation of the capture at a lag: Σ o[n + lag] conj(x[n]), over the samples that the capture holds. -/
def capCorr (x o : Array CInt) (lag : Int) : CInt :=
  (List.range capLen).foldl (fun acc (n : Nat) => cadd acc (cmul (sampleAt o (n + lag)) (cconj (sampleAt x n)))) (0, 0)

/-- The lag from −256 to 255 with the largest magnitude of correlation, the first of those that are equal. -/
def bestLag (x o : Array CInt) : Int :=
  ((List.range 512).foldl (fun (best : Int × Nat) (i : Nat) =>
    let lag : Int := (i : Int) - 256
    let m := power (capCorr x o lag)
    if best.2 < m then (lag, m) else best) (-256, 0)).1

/-- The vertex of the parabola through three magnitudes at −1, 0 and 1, in 1/64 sample. -/
def vertex64 (a b c : Nat) : Int :=
  let den : Int := 2 * ((a : Int) - 2 * b + c)
  if den = 0 then 0 else roundRat (64 * mkRat 1 1 * (((a : Int) - c : Int) : Rat) / (den : Rat))

/-- The delay of the capture in 1/64 sample. -/
def capDelay (x o : Array CInt) : Int :=
  let lag := bestLag x o
  let m := fun d => magnitude40 (capCorr x o (lag + d))
  64 * lag + vertex64 (m (-1)) (m 0) (m 1)

/-- Tap `k` of the 32-tap interpolator for a fraction of `f`/64 sample, in units of 2^−40, which the spec leaves open but for the fraction
0, where it passes the sample itself. -/
def interpTap (f k : Nat) : Int :=
  if f = 0 then (if k = 15 then 2 ^ 40 else 0) else Config.taps 6 f k

/-- Sample `i` of the observation: beside the capture it is open. -/
def obsAt (o : Array CInt) (i : Int) : CInt :=
  if 0 ≤ i ∧ i < capLen then sampleAt o i else Config.pastCapture o.toList i

/-- oa: the observation at n + dly for a delay of `dly`/64 sample, in units of 2^−40. -/
def aligned (o : Array CInt) (dly : Int) : Array CInt :=
  let h := (Array.range 32).map fun (k : Nat) => interpTap (dly % 64).toNat k
  (Array.range capLen).map fun (n : Nat) =>
    (List.range 32).foldl (fun acc (k : Nat) =>
      let c := h.getD k 0
      if c = 0 then acc
      else
        let v := obsAt o ((n : Int) + dly / 64 + (k : Int) - 15)
        cadd acc (v.1 * c, v.2 * c)) (0, 0)

/-- The gain g as its two sums, Σ oa conj(x) and Σ |x|², over the samples of x below −6 dBFS. -/
def capGain (x oa : Array CInt) : CInt × Nat :=
  (List.range capLen).foldl (fun (acc : CInt × Nat) (n : Nat) =>
    let v := sampleAt x n
    if power v < 16384 * 16384 then (cadd acc.1 (cmul (sampleAt oa n) (cconj v)), acc.2 + power v) else acc) ((0, 0), 0)

/-- A ratio of powers that no formula gives, from free value number `i`. -/
def openRatio (i k : Nat) : Rat := let v := (Config.openSample i (capLen + k)).1; v * v

/-- What an aligned capture gives: oa, the error e by sample, and nmse as a ratio of powers. -/
structure Aligned where
  oa : Array CInt
  e : List CRat
  nmse : Rat
  /-- There is a gain to divide by. -/
  sound : Bool

/-- The alignment of a capture (R296). Free value number `i` stands for what is divided by a gain of zero, or by an x that is zero. -/
def alignCapture (i : Nat) (x o : Samples) : Aligned :=
  let (x, o) := (x.toArray, o.toArray)
  let oa := aligned o (capDelay x o)
  let (num, den) := capGain x oa
  let g : CRat := rScale (1 / (den : Rat)) (ofInt num)
  let sound := num != (0, 0) && den != 0
  let e := (List.range capLen).map fun (n : Nat) =>
    let z := if sound then rDiv (ofInt (sampleAt oa n)) g else Config.openSample i n
    rAdd z (rScale (-1) (ofInt (sampleAt x n)))
  let inner := fun {α : Type} (l : List α) => (l.take 16352).drop 32
  let px := ((inner x.toList).map power).sum
  let pe := (inner e).foldl (fun acc v => acc + rAbs2 v) 0
  { oa := oa, e := e, nmse := if px = 0 then openRatio i 0 else pe / (px : Rat), sound := sound }

/-! ### The ACLR estimate (R301) -/

/-- The Blackman-Harris window over 4096 samples, in units of 2^−24. -/
def harris : Array Int := (Array.range 4096).map fun (n : Nat) =>
  let c := fun (k : Nat) => (phasor (k * n) 4096).1
  roundDiv (35875 * 2 ^ 48 - 48829 * c 1 + 14128 * c 2 - 1168 * c 3) (100000 * 2 ^ 24)

/-- The Welch spectrum of a capture at bin `b`, 480 kHz wide: the sum over its four segments, up to a common factor. -/
def welch (z : Array CInt) (b : Int) : Nat :=
  ((List.range 4).map fun (i : Nat) =>
    let seg := (List.range 4096).map fun (n : Nat) =>
      let v := sampleAt z (4096 * i + n : Nat)
      let w := harris.getD n 0
      ((v.1 * w, v.2 * w), n)
    power (dftSum false seg (b % 4096).toNat)).sum

/-- The power of the spectrum in the bins whose centres lie from `lo` to below `hi`, in 5 kHz from the LO. -/
def bandPower (z : Array CInt) (lo hi : Int) : Nat :=
  (((List.range 4096).map fun (i : Nat) => (i : Int) - 2048).filter fun b => lo ≤ 96 * b ∧ 96 * b < hi).map (welch z) |>.sum

/-- The residual ACLR as a ratio of powers: the band of the lowest enabled carrier's channel width below its channel and the band of the
highest one's above it, each over its carrier's occupied band, and the worse of the two (R301). None where a band holds no power to divide
by or no carrier is enabled. -/
def State.aclr (s : State) (z : Array CInt) : Option Rat :=
  let cars := (List.finRange 4).filter fun (c : Fin 4) => s.carEnabled c
  let pick := fun (better : Int → Int → Bool) => cars.foldl (fun (best : Option (Fin 4)) c => match best with
    | none => some c
    | some d => if better s.dfe.offset[c] s.dfe.offset[d] then some c else some d) none
  match pick fun a b => decide (a < b), pick fun a b => decide (b < a) with
  | some lo, some hi =>
    let half := fun (c : Fin 4) => (100 * bwMHz (s.carBw c) : Int)
    let own := fun (c : Fin 4) => bandPower z (s.dfe.offset[c] - halfBand (s.carPrbs c)) (s.dfe.offset[c] + halfBand (s.carPrbs c))
    let below := bandPower z (s.dfe.offset[lo] - 3 * half lo) (s.dfe.offset[lo] - half lo)
    let above := bandPower z (s.dfe.offset[hi] + half hi) (s.dfe.offset[hi] + 3 * half hi)
    if own lo = 0 ∨ own hi = 0 then none else some (max (mkRat below (own lo)) (mkRat above (own hi)))
  | _, _ => none

/-- A ratio of powers as a field in 0.25 dB units below, held at the field's limits (R301). -/
def quarterDb (x : Rat) : Nat := (satInt 0 255 (-(logSteps 25 x))).toNat

/-! ### The update (R297) -/

/-- The basis functions that sample `n` reaches: their numbers, 65m + k, with their values φ[m, k][n]. -/
def basisAt (d : List Nat) (x : Array CInt) (n : Nat) : List (Nat × CRat) :=
  d.zipIdx.flatMap fun (dm, m) =>
    let v := sampleAt x ((n : Int) - dm)
    if v = (0, 0) then []
    else
      -- the magnitude in units of 2^−40
      let u := min (magnitude40 v) (32767 * 2 ^ 40)
      let k := u / (512 * 2 ^ 40)
      let f := mkRat (u % (512 * 2 ^ 40) : Nat) (512 * 2 ^ 40)
      [(65 * m + k, rScale (1 - f) (ofInt v)), (65 * m + k + 1, rScale f (ofInt v))]

/-- An array entry grown by a value. -/
def grow (a : Array CRat) (i : Nat) (v : CRat) : Array CRat := a.set! i (rAdd (a.getD i (0, 0)) v)

/-- The sums φ^H φ by row and column, and φ^H e, over n = 32 to 16 351. -/
def normalSums (d : List Nat) (x : Array CInt) (e : Array CRat) : Array CRat × Array CRat :=
  (List.range 16320).foldl (fun (acc : Array CRat × Array CRat) (i : Nat) =>
    let b := basisAt d x (i + 32)
    let v := e.getD (i + 32) (0, 0)
    b.foldl (fun (acc : Array CRat × Array CRat) (k, c) =>
      (b.foldl (fun r (l, w) => grow r (520 * k + l) (rMul (rConj c) w)) acc.1, grow acc.2 k (rMul (rConj c) v))) acc)
    (Array.replicate (520 * 520) (0, 0), Array.replicate 520 (0, 0))

/-- dc of R297 with regularisation exponent `reg`; `open_` stands for it where φ is zero and no system is left to solve. -/
def lutStep (reg : Nat) (d : List Nat) (x : Samples) (e : List CRat) (open_ : Nat → CRat) : List CRat :=
  let (r, b) := normalSums d x.toArray e.toArray
  let trace := (List.range 520).foldl (fun acc i => acc + (r.getD (521 * i) (0, 0)).1) 0
  if trace = 0 then (List.range 520).map open_
  else
    let load := trace / 520 / ((2 ^ reg : Nat) : Rat)
    let m := rMat 520 520 fun i j => let v := r.getD (520 * i + j) (0, 0); if i = j then (v.1 + load, v.2) else v
    let (l, dd) := ldl m 520
    ldlSolve l dd b.toList 520

/-- An entry of a table from its two parts. -/
def coeffOf (re im : Int) : Word := BitVec.ofInt 16 (satInt (-32768) 32767 re) ++ BitVec.ofInt 16 (satInt (-32768) 32767 im)

/-- Entry `i` of the table after a step of `mu`/256 (R297). -/
def lutMoved (mu : Nat) (w : Word) (dc : CRat) : Word :=
  let part := fun (a : Int) (x : Rat) => roundRat ((a : Rat) - 64 * (mu : Rat) * x)
  coeffOf (part (coeffRe w) dc.1) (part (coeffIm w) dc.2)

/-- The response of a table to a constant input of magnitude 1024 (R288). -/
def gain1024 (lut : Coeffs) : CInt :=
  (List.range 8).foldl (fun acc m => let w := lut.getD (65 * m + 2) 0; cadd acc (coeffRe w, coeffIm w)) (0, 0)

/-- Every coefficient times one factor. -/
def lutTimes (f : CRat) (lut : Coeffs) : Coeffs :=
  lut.map fun w => let v := rMul (ofInt (coeffRe w, coeffIm w)) f; coeffOf (roundRat v.1) (roundRat v.2)

/-- The table scaled under R288: the factor brings its response to 16 384, and what the rounding of the eight entries leaves is taken from
entry 2 of table 0. Where the response is zero no factor does, and `open_` stands for it. -/
def scaleLut (open_ : CRat) (lut : Coeffs) : Coeffs :=
  let g := gain1024 lut
  let lut := lutTimes (if g = (0, 0) then open_ else rDiv (16384, 0) (ofInt g)) lut
  if g = (0, 0) then lut
  else
    let r := gain1024 lut
    let w := lut.getD 2 0
    lut.set 2 (coeffOf (coeffRe w + 16384 - r.1) (coeffIm w - r.2))

end Sys2Proof.Machine
end

