-- ==== Sys2Proof/Machine/Predistorter.lean ====
section
/-! DEFINITION. Chapter 08: the visits of the observation receivers (R290
to R295), adaptation (R296 to R301), and the PA guard (R302 to R314). nmse and ACLR are ratios
of powers. -/

namespace Sys2Proof.Machine

/-! ### The visit list (R290, R291) -/

/-- Bank `b` is active (R290). -/
def State.bankActive (s : State) (b : Nat) : Bool := s.bit Reg.DPD_ACTIVE b

/-- Path `p` has pairs in the visit list: its transmit side is live and its quad powered (R290). -/
def State.visitable (s : State) (p : Fin 64) : Bool := !s.txRetired p && !(s.seq.quads[quadOf p]).st.isDown

/-- A receiver visits path `p`, or its FB input is routed otherwise (R91, R291). -/
def State.pathVisited (s : State) (p : Fin 64) : Bool :=
  (s.dpd.visits.toList.any fun v => match v with | some v => v.path == p | none => false) || s.sourceTaken 9 p

/-- The pairs of the visit list, in order, as 8·path + bank (R290). -/
def State.visitPairs (s : State) : List Nat :=
  (List.finRange 64).flatMap fun p =>
    if s.visitable p then (List.range 8).filterMap fun b => if s.bankActive b then some (8 * p.val + b) else none else []

/-- The pair that a free receiver takes: the first of the circular list, after the pair taken last, whose path no receiver
visits (R291). -/
def State.nextPair (s : State) : Option (Fin 64 × Nat) :=
  let free := s.visitPairs.filter fun i => !s.pathVisited ⟨i / 8 % 64, Nat.mod_lt _ (by decide)⟩
  let pick := match s.dpd.lastPair with
    | none => free.head?
    | some (p, b) => match free.find? fun i => 8 * p + b < i with
      | some i => some i
      | none => free.head?
  pick.map fun i => (⟨i / 8 % 64, Nat.mod_lt _ (by decide)⟩, i % 8)

/-- VISIT_START: logical receiver `l`, present and free, takes the next pair and routes FBn with the path's obs_atten (R291,
R292). -/
def execVisitStart (l : Fin 8) (s : State) : Res :=
  .next (
    let k := s.physOf l
    if 9 ≤ k || !s.obsFree k || (s.dpd.visits[l]).isSome then s
    else match s.nextPair with
      | none => s
      | some (p, b) =>
        let s := s.obsRoute k p (s.fld (Reg.DPD_OBS_CFG p) 4 0) 1
        let s := s.setVisit l (some { id := s.dpd.visitNo, path := p, bank := b, routed := s.now, settle := s.now, lastCap := s.now })
        { s with dpd := { s.dpd with lastPair := some (p, b), visitNo := s.dpd.visitNo + 1 } })

/-- VISIT_END: a visit has lasted visit_ms (R292). -/
def execVisitEnd (l : Fin 8) (s : State) : Res :=
  .next (match s.dpd.visits[l] with
    | none => s
    | some v => if msPassed (s.now - v.routed) (s.fld Reg.DPD_SCHED_CFG 15 8) then s.endVisit l else s)

/-- VISIT_IDLE_END: idle_ms have passed with no capture (R292, R295). -/
def execVisitIdleEnd (l : Fin 8) (s : State) : Res :=
  .next (match s.dpd.visits[l] with
    | none => s
    | some v => if msPassed (s.now - v.lastCap) (s.fld Reg.DPD_SCHED_CFG 7 0) then s.endVisit l else s)

/-- BANK_ACTIVITY_EXPIRE: bank `b` has resolved no D symbol for 1 s (R290). -/
def execBankActivityExpire (b : Fin 8) (s : State) : Res :=
  .next (match s.dpd.lastUse[b] with
    | none => s
    | some t =>
      if ticksPerS < s.now - t then
        { s.setBit Reg.DPD_ACTIVE b false with dpd := { s.dpd with lastUse := s.dpd.lastUse.set b none } }
      else s)

/-! ### Captures (R293 to R296) -/

/-- Bank `b`'s state: 0 SEED, 1 ACQUIRE, 2 TRACK, 3 FROZEN (R298). -/
def State.bankState (s : State) (p : Fin 64) (b : Nat) : Nat := s.fld (Reg.DPD_BANK_QUAL p b) 13 12

/-- Bank `b` of path `p` takes a state (R298). -/
def State.setBankState (s : State) (p : Fin 64) (b st : Nat) : State := s.setFld (Reg.DPD_BANK_QUAL p b) 13 12 st

/-- What one bank holds, changed. -/
def State.setBank (s : State) (p : Fin 64) (b : Nat) (f : BankSt → BankSt) : State :=
  if h : b < 8 then s.setDpd p fun d => { d with banks := upd d.banks ⟨b, h⟩ f } else s

/-- What one bank holds. -/
def State.bankSt (s : State) (p : Fin 64) (b : Nat) : BankSt :=
  if h : b < 8 then (s.dpd.paths[p]).banks[(⟨b, h⟩ : Fin 8)] else {}

/-- The path transmits the symbol now on air: its gate is open, so it is neither blanked nor muted (R64, R294). -/
def State.transmits (s : State) (p : Fin 64) : Bool :=
  (s.paths[p]).txGate && !s.blanked (quadOf p) && !s.bit (Reg.DPD_TRIP_STAT p) 31

/-- The pre-distorter input of path `p` from 1.0 µs after the first body sample of the symbol on air, as a capture records it (R293). -/
def State.captureX (s : State) (p : Fin 64) : Samples :=
  match s.dfe.tx with
  | some t => ((s.chainOf s.dfe.txPrev t none p).dfe.drop (lead + 16 * cpLen t.a.sym + 1966)).take capLen
  | none => []

/-- The rms of `x` over a capture lies below cap_min (R294), relative to 0 dBFS in TX scale (R60, R146). -/
def State.belowCapMin (s : State) (x : Samples) : Bool :=
  let full : Rat := (capLen * (32764 * 32764) : Nat)
  decide ((((x.map power).sum : Nat) : Rat) < full * tenth (200 * s.sfld Reg.DPD_SCHED_CFG 23 16))

/-- DPD_CAPTURE_START in the visit of receiver `l`: in a D symbol of the visit's bank that starts at least 200 ns after the route, one capture
is taken, or skipped and counted (R293, R294). -/
def execDpdCaptureStart (l : Fin 8) (s : State) : Res :=
  .next (match s.dpd.visits[l] with
    | none => s
    | some v =>
      let fits := s.air.onAir.isSome && decide ((s.dpd.paths[v.path]).bank = v.bank)
        && decide (v.settle ≤ s.air.onAirAt) && nsPassed (s.air.onAirAt - v.settle) 200
      if !fits || v.capturing || v.symUsed then s
      else
        let x := s.captureX v.path
        if !s.transmits v.path || s.belowCapMin x then
          (s.bump (Reg.DPD_CAP_SKIP_CNT v.path)).setVisit l (some { v with symUsed := true })
        else
          (s.bump (Reg.DPD_CAP_CNT v.path)).setVisit l (some { v with symUsed := true, capturing := true, drop := false, x := x }))

/-- Banks of path `p` adapt: in SERVICE and LEAN, with the path not frozen (R300). -/
def State.adapts (s : State) (p : Fin 64) : Bool := s.mode.live && !s.bit (Reg.DPD_CTRL p) 31

/-- The update of bank `b` of path `p` that the verifying capture judges is reverted (R299): the shadow coefficients are restored under the
timing of R289, and the fourth revert in a row freezes the bank. -/
def State.revertUpdate (s : State) (p : Fin 64) (b flat : Nat) : State :=
  let x := s.bankSt p b
  let s := s.bump (Reg.DPD_REVERT_CNT p)
  let s := s.setDpd p fun d => { d with shadowDue := true, shadowSrc := none }
  let s := s.setBank p b fun x => { x with flat := flat, reverts := x.reverts + 1 }
  if x.reverts + 1 = 4 then
    let s := (s.setBankState p b 3).setBank p b fun x => { x with flat := 0, reverts := 0 }
    s.raise 0x0D02 [(1, p), (1, b)]
  else s

/-- The shadow holds the coefficients that the last update of bank `b` replaced. -/
def State.shadowOld (s : State) (p : Fin 64) (b : Nat) : Bool :=
  let d := s.dpd.paths[p]
  !d.shadowDue && (match d.shadow with | some (c, _) => c == b | none => false)

/-- The judgement of a verifying capture with error `nmse` against the capture that produced the update, `old` (R298, R299): one that is worse
by more than div_db reverts the update, and an update that improves nmse by less than 0.25 dB counts towards TRACK. A later update that already
waits in the shadow leaves nothing to restore, and the update stands. -/
def State.verifyUpdate (s : State) (p : Fin 64) (b : Nat) (old nmse : Rat) : State :=
  let flat := if old < nmse * tenth 50 then (s.bankSt p b).flat + 1 else 0
  let s :=
    if old * tenth (50 * s.fld Reg.DPD_ADAPT_CFG 15 8) < nmse ∧ s.shadowOld p b then s.revertUpdate p b flat
    else s.setBank p b fun x => { x with flat := flat, reverts := 0 }
  if s.bankState p b = 1 ∧ 3 ≤ flat then
    (s.setBankState p b 2).setBank p b fun x => { x with flat := 0, best := nmse }
  else s

/-- The state of a bank after a capture with error `nmse` (R298): SEED becomes ACQUIRE, and TRACK returns to ACQUIRE when the
error lies 3.0 dB above the best. -/
def State.stateAfter (s : State) (p : Fin 64) (b : Nat) (nmse : Rat) : State :=
  match s.bankState p b with
  | 0 => s.setBankState p b 1
  | 2 =>
    if (s.bankSt p b).best * tenth 600 < nmse then (s.setBankState p b 1).setBank p b fun x => { x with flat := 0 }
    else s.setBank p b fun x => { x with best := min x.best nmse }
  | _ => s

/-- A capture of the visit is good: the figures, the judgement of an update, the bank's state, and, while the bank adapts, the update that it
produces (R296 to R301). -/
def State.goodCapture (s : State) (l : Fin 8) (v : Visit) (o : Samples) : State :=
  let q := Reg.DPD_BANK_QUAL v.path v.bank
  let i := s.freeIdx
  let al := alignCapture i v.x o
  let aclr := ((if al.sound then s.aclr al.oa else none).getD (openRatio i 1))
  let s : State := { s with freeIdx := i + 1 }
  let s := (s.setFld q 31 24 (quarterDb al.nmse)).setFld q 23 16 (quarterDb aclr)
  let s := s.setVisit l (some { v with capturing := false, x := [], lastCap := s.now, verify := none })
  let s := match v.verify with
    | some old => s.verifyUpdate v.path v.bank old al.nmse
    | none => s
  let s := s.stateAfter v.path v.bank al.nmse
  if !s.adapts v.path || s.bankState v.path v.bank = 3 then s
  else
    s.setDpd v.path fun d => { d with updates := d.updates ++ [⟨v.bank, ⟨al.nmse, v.id⟩, v.x, al.e⟩] }

/-- DPD_CAPTURE_END of receiver `l`, with the ADC codes `o` that it observed. A capture that R295 discards is counted and gives
nothing. -/
def execDpdCaptureEnd (l : Fin 8) (o : List Adc) (s : State) : Res :=
  .next (match s.dpd.visits[l] with
    | none => s
    | some v =>
      if !v.capturing then s
      else if v.drop then s.setVisit l (some { v with capturing := false, drop := false, x := [] })
      else if 16 < o.countP clips then
        (s.bump (Reg.DPD_CAP_DROP_CNT v.path)).setVisit l (some { v with capturing := false, x := [] })
      else s.goodCapture l v (o.map adcVal))

/-! ### Updates (R297 to R300) -/

/-- The first update of bank `b` leaves the list of updates being computed. -/
def dropUpdate (b : Nat) : List Learning → List Learning
  | [] => []
  | u :: t => if u.bank = b then t else u :: dropUpdate b t

/-- The table that an update of bank `b` of path `p` gives, scaled under R288 (R297). The step starts from the coefficients in force. -/
def State.learned (s : State) (p : Fin 64) (b : Nat) (u : Learning) : Coeffs :=
  let mu := if s.bankState p b = 1 then s.fld Reg.DPD_ADAPT_CFG 31 24 else s.fld Reg.DPD_ADAPT_CFG 23 16
  let open_ := Config.openSample s.freeIdx
  let dc := lutStep (s.fld Reg.DPD_ADAPT_CFG 4 0) s.tapDelays u.x u.e open_
  scaleLut (open_ 520) (List.zipWith (lutMoved mu) (s.bankTable p b) dc)

/-- DPD_UPDATE_READY: the update of bank `b` of path `p` is computed and scaled under R288, and written to the shadow table
(R289, R297); a bank that no longer adapts takes none. -/
def execDpdUpdateReady (p : Fin 64) (b : Fin 8) (s : State) : Res :=
  .next (match (s.dpd.paths[p]).updates.find? fun u => u.bank = b.val with
    | none => s
    | some u =>
      let s := s.setDpd p fun d => { d with updates := dropUpdate b d.updates }
      if s.adapts p && s.bankState p b != 3 && s.bankState p b != 0 then
        let q := Reg.DPD_BANK_QUAL p b
        let lut := s.learned p b u
        let s : State := { s with freeIdx := s.freeIdx + 1 }
        let s := s.setDpd p fun d => { d with shadow := some (b.val, lut), shadowDue := true, shadowSrc := some u.src }
        s.setFld q 7 0 (min 255 (s.fld q 7 0 + 1))
      else s)

/-- Bank `b` of path `p` is loaded with the seed of its cluster and returns to SEED (R284, R300). -/
def State.seedBank (s : State) (p : Fin 64) (b : Fin 8) : State :=
  let lut := match s.dpd.seeds.find? fun (c, m, _) => c = b.val && bitOf m p with
    | some (_, _, x) => x
    | none => identityBank
  let s := (List.zip (List.range 520) lut).foldl
    (fun s (i, w) => s.wr (Reg.DPD_LUT p b (i / 65) (i % 65)) w) s
  let s := (s.setBankState p b 0).setFld (Reg.DPD_BANK_QUAL p b) 7 0 0
  let s := s.setBank p b fun _ => {}
  s.setDpd p fun d =>
    { d with
      updates := d.updates.filter fun u => u.bank != b.val
      shadow := match d.shadow with | some (c, x) => if c = b.val then none else some (c, x) | none => none
      shadowDue := d.shadowDue && (match d.shadow with | some (c, _) => c != b.val | none => false) }

/-- A write of unfreeze: every FROZEN bank of the path returns to ACQUIRE (R298). -/
def State.unfreezeBanks (s : State) (p : Fin 64) : State :=
  (List.range 8).foldl (fun s b =>
    if s.bankState p b = 3 then (s.setBankState p b 1).setBank p b fun x => { x with flat := 0, reverts := 0 } else s) s

/-- A write of reset_bank: accepted only in READY, otherwise refused and counted (R300). -/
def State.resetBanks (s : State) (p : Fin 64) (mask : Nat) : State :=
  if mask = 0 then s
  else if s.mode = .ready then (List.finRange 8).foldl (fun s (b : Fin 8) => if bitOf mask b then s.seedBank p b else s) s
  else s.bump Reg.DPD_REFUSE_CNT

/-- A write of 1 to unfreeze sets the bit (R5) and acts (R298). -/
def State.setUnfreeze (s : State) (p : Fin 64) : State := (s.setBit (Reg.DPD_CTRL p) 24 true).unfreezeBanks p

/-- A write of reset_bank sets the bits written as 1 (R5), and acts or is refused (R300). -/
def State.setResetBank (s : State) (p : Fin 64) (mask : Nat) : State :=
  (s.setFld (Reg.DPD_CTRL p) 15 8 (s.fld (Reg.DPD_CTRL p) 15 8 ||| mask)).resetBanks p mask

/-- A write of DPD_CTRL (R298, R300). The map states no clear for unfreeze and reset_bank, so their bits stay set (R5); each write of 1 acts. -/
def State.writeDpdCtrl (s : State) (p : Fin 64) (w : Word) : State :=
  let s := s.setBit (Reg.DPD_CTRL p) 31 (bitOf w.toNat 31)
  let s := if bitOf w.toNat 24 then s.setUnfreeze p else s
  s.setResetBank p (fldOf w 15 8)

/-- DPD_FREEZE: a write of freeze (R300). -/
def execDpdFreeze (p : Fin 64) (b : Bool) (s : State) : Res :=
  .next (if s.writable then s.setBit (Reg.DPD_CTRL p) 31 b else s)

/-- DPD_UNFREEZE (R298). -/
def execDpdUnfreeze (p : Fin 64) (s : State) : Res := .next (if s.writable then s.setUnfreeze p else s)

/-- DPD_RESET_BANK (R300). -/
def execDpdResetBank (p : Fin 64) (mask : BitVec 8) (s : State) : Res :=
  .next (if s.writable then s.setResetBank p mask.toNat else s)

/-! ### The guard (R302 to R313) -/

/-- The on-period thresholds of path `p` are in force: from bank selection to capture close, and while its TX gate is open; a
retired side keeps fwd_off (R304). -/
def State.guardIsOn (s : State) (p : Fin 64) : Bool :=
  !s.txRetired p && ((s.dpd.paths[p]).onPeriod || (s.paths[p]).txGate)

/-- Path `p` is muted by the guard (R305): to the end of the downlink run, or outside a run to the end of the transmission. -/
def State.mutePath (s : State) (p : Fin 64) : State :=
  let s := s.setBit (Reg.DPD_TRIP_STAT p) 31 true
  let s := s.setDpd p fun d => { d with muteCal := !(d.onPeriod && s.air.inRun) }
  s.setPath p fun x => x.shut s.now

/-- The bias action of an on-period trip, if act_bias is set (R307). -/
def State.biasOnTrip (s : State) (p : Fin 64) : State :=
  if s.bit Reg.DPD_GUARD_CFG 4 then (s.setDpd p fun d => { d with biasOn := true }).gateHold p 4 else s

/-- The bias action of an off-period trip (R308). -/
def State.biasOffTrip (s : State) (p : Fin 64) : State :=
  (s.setDpd p fun d => { d with biasOff := true }).gateHold p 4

/-- A trip of path `p` during a capture discards it (R295, R312). -/
def State.tripDrops (s : State) (p : Fin 64) : State :=
  (List.finRange 8).foldl (fun s l =>
    match s.dpd.visits[l] with
    | some v => if v.path = p then s.dropCapture l else s
    | none => s) s

/-- Ticks and paths of the recorded trips that still lie within the last second (R311). -/
def State.tripWindow (s : State) : List (Nat × Nat) := s.dpd.window.filter fun (t, _) => s.now - t ≤ ticksPerS

/-- Number of distinct paths in a list of trips (R311). -/
def distinctPaths (w : List (Nat × Nat)) : Nat := (w.map (·.2)).eraseDups.length

/-- The window of R311 is brought up to date and shown. -/
def State.showTrips (s : State) : State :=
  let w := s.tripWindow
  { s with dpd := { s.dpd with window := w } }.setFld Reg.DPD_TRIP_WIN 6 0 (distinctPaths w)

/-- The record of a trip: its kind and air stamp, and event 0x0D01 (R309). -/
def State.showTrip (s : State) (p : Fin 64) (kind : Nat) : State :=
  let st := s.airStamp
  let r := Reg.DPD_TRIP_STAT p
  let s := (((s.setFld r 30 28 kind).setFld r 18 9 (st / 0x40000000)).setFld r 8 4 (st / 0x2000000 % 32)).setFld r 3 0
    (st / 0x200000 % 16)
  s.raise 0x0D01 [(1, p), (1, kind), (5, st)]

/-- A trip is recorded for path `p`, at most once in its run or off period (R309): counted, the third within 1 s retires the
transmit side (R310, R313), more than 8 distinct paths within 1 s enter SAFE (R311), and the housekeeping ADC is asked
(R536). A test trip is recorded with its kind and counted nowhere else (R314). The flag says whether it was recorded. -/
def State.recordTrip (s : State) (p : Fin 64) (kind : Nat) : State × Bool :=
  if (s.dpd.paths[p]).recorded then (s, false)
  else
    let s := (s.setDpd p fun d => { d with recorded := true }).showTrip p kind
    if kind = 4 then (s, true)
    else
      let s := (s.bump (Reg.DPD_TRIP_CNT p)).bump (Reg.KPR_LT 16)
      let trips := s.now :: ((s.dpd.paths[p]).trips.filter fun t => s.now - t ≤ ticksPerS)
      let s := s.setDpd p fun d => { d with trips := trips }
      let s := s.guardRequest p
      let s := if 3 ≤ trips.length then s.retireTx p 1 else s
      let s := { s with dpd := { s.dpd with window := (s.now, p.val) :: s.dpd.window } }.showTrips
      (if 8 < distinctPaths s.dpd.window then s.enterSafe 4 else s, true)

/-- An on-period trip of path `p`: mute, bias action, discarded captures, record (R305, R307, R295, R309). -/
def State.onTrip (s : State) (p : Fin 64) (kind : Nat) : State × Bool :=
  (((s.mutePath p).biasOnTrip p).tripDrops p).recordTrip p kind

/-- An off-period trip of path `p`: bias clear and record (R308, R309). -/
def State.offTrip (s : State) (p : Fin 64) (kind : Nat) : State × Bool :=
  ((s.biasOffTrip p).tripDrops p).recordTrip p kind

/-- The forward detector of path `p` compares its envelope with a threshold (R302): `t` acts at the instant at which the envelope first exceeds
it. -/
def State.judgeForward (s : State) (p : Fin 64) (on : Bool) (env : Vector Int 3) (t : State → State) : State :=
  match s.fwdLevel p on with
  | none => s
  | some lv =>
    let beyond := decide (lv < s.filtered env)
    let first := beyond && (s.dpd.paths[p]).above != some lv
    let s := s.setDpd p fun d => { d with above := if beyond then some lv else none }
    if first then t s else s

/-- GUARD_TRIP_FORWARD: in the on period the forward detector of path `p` judges the envelope `env` that its filters give at FBn, in
0.01 dBm (R302, R305, R312). -/
def execGuardTripForward (p : Fin 64) (env : Vector Int 3) (s : State) : Res :=
  .next (if s.mode != .shelf && s.guardIsOn p then s.judgeForward p true env fun s => (s.onTrip p 1).1 else s)

/-- GUARD_TRIP_REFLECTED: while a path of quad `q` is in its on period the reflected detector judges the envelope `env` at REFLq. A trip mutes
all four paths, each of which may record it, and counts once for the quad (R302, R304, R306, R309). -/
def execGuardTripReflected (q : Fin 16) (env : Vector Int 3) (s : State) : Res :=
  .next (if s.mode != .shelf && (pathsOf q).any fun p => s.guardIsOn p then
      match s.reflLevel q with
      | none => s
      | some lv =>
        let beyond := decide (lv < s.filtered env)
        let first := beyond && s.dpd.reflAbove[q] != some lv
        let s := { s with dpd := { s.dpd with reflAbove := s.dpd.reflAbove.set q (if beyond then some lv else none) } }
        if first then ((pathsOf q).foldl (fun s p => (s.onTrip p 2).1) s).bump (Reg.DPD_REFL_TRIP_CNT q) else s
    else s)

/-- GUARD_TRIP_OFF_PERIOD: in its off period the forward detector of path `p` judges the envelope `env` (R302, R308, R309, R313). -/
def execGuardTripOffPeriod (p : Fin 64) (env : Vector Int 3) (s : State) : Res :=
  .next (if s.mode != .shelf && !s.guardIsOn p then
      s.judgeForward p false env fun s =>
        let (s, r) := s.offTrip p 3
        if r then s.bump (Reg.DPD_OFF_TRIP_CNT p) else s
    else s)

/-- TRIP_WINDOW_EXPIRE: recorded trips older than 1 s leave the window (R311). -/
def execTripWindowExpire (s : State) : Res := .next s.showTrips

/-! ### Test trips (R314) -/

/-- A test trip on path `p`, judged by the period in force on it (R314). -/
def State.testTrip (s : State) (p : Fin 64) : State :=
  if s.guardIsOn p then (s.onTrip p 4).1 else (s.offTrip p 4).1

/-- A write of DPD_GUARD_TEST: in READY a test trip on the target path or on the four paths of its quad, counted once; outside
READY refused and counted (R314). -/
def State.writeGuardTest (s : State) (w : Word) : State :=
  if bitOf w.toNat 31 then
    if s.mode = .ready then
      let p : Fin 64 := ⟨fldOf w 5 0 % 64, Nat.mod_lt _ (by decide)⟩
      let s := if bitOf w.toNat 8 then (pathsOf (quadOf p)).foldl (fun s p => s.testTrip p) s else s.testTrip p
      s.bump Reg.DPD_TEST_TRIP_CNT
    else s.bump Reg.DPD_REFUSE_CNT
  else s

/-- GUARD_TEST (R314). -/
def execGuardTest (w : Word) (s : State) : Res := .next (if s.writable then s.writeGuardTest w else s)

end Sys2Proof.Machine
end

