-- ==== Sys2Proof/Machine/Records.lean ====
section
/-! DEFINITION. The keeper store and its ballast rows (R595), the trouble log and the black box (R581 to R594), the fault latch (R597,
R598) and the lifetime counters (R596, R651), with the commands of chapter 17. A command that writes the store carries `bad`, the rows
whose read-back fails during it, once for each failure. -/

namespace Sys2Proof.Machine

/-! ### The keeper store (R595) -/

/-- The physical row that stands for row `r`: itself, or the ballast row that replaced it last. -/
def State.physRow (s : State) (r : Nat) : Nat := ((s.rcd.spares.find? fun x => x.1 = r).map (·.2)).getD r

/-- Byte `i` of row `r`; a byte that nothing has written reads 0 (DESIGN CHOICE). -/
def State.storeGet (s : State) (r i : Nat) : Byte := tabGet (fun _ => 0) s.store (s.physRow r * 64 + i)

/-- The 64 bytes of row `r`. -/
def State.storeRow (s : State) (r : Nat) : List Byte := (List.range 64).map fun i => s.storeGet r i

/-- Bytes put into the store from physical byte `a` on. -/
def State.storePuts (s : State) (a : Nat) (bs : List Byte) : State :=
  match bs with
  | [] => s
  | b :: t => { s with store := tabPut (fun _ => 0) s.store a b }.storePuts (a + 1) t

/-- Row `r` fails its read-back: the lowest unused ballast row takes its contents. With no ballast row left the row's contents are
open. -/
def State.replaceRow (s : State) (r : Nat) (bs : List Byte) : State :=
  match (List.range 16).find? fun b => !(s.rcd.spares.any fun x => x.2 = 4080 + b) with
  | some b =>
    let old := s.physRow r
    let s := { s with rcd := { s.rcd with spares := (r, 4080 + b) :: s.rcd.spares } }
    let s := (s.storePuts ((4080 + b) * 64) bs).bump (Reg.KPR_LT 17)
    (s.bump Reg.KPR_STORE_SPARE_CNT).raise 0x000A [(2, old), (2, 4080 + b)]
  | none =>
    (List.range 64).foldl (fun s i =>
      let (v, s) : Nat × State := s.freeNat
      s.storePuts (s.physRow r * 64 + i) [BitVec.ofNat 8 v]) s

/-- A write of row `r`, read back (R595). -/
def State.writeRow (s : State) (r : Nat) (bs : List Byte) (bad : List Nat) : State :=
  let s := (s.storePuts (s.physRow r * 64) bs).bump (Reg.KPR_LT 17)
  (List.range (bad.count r)).foldl (fun s _ => s.replaceRow r bs) s

/-- Bytes cut into rows of 64, the last one filled with zeros; `n` rows. -/
def storeRows : Nat → List Byte → List (List Byte)
  | 0, _ => []
  | n + 1, bs => ((bs ++ List.replicate 64 0).take 64) :: storeRows n (bs.drop 64)

/-- Rows written from row `r` on. -/
def State.writeRows (s : State) (r : Nat) (rows : List (List Byte)) (bad : List Nat) : State :=
  match rows with
  | [] => s
  | x :: t => (s.writeRow r x bad).writeRows (r + 1) t bad

/-! ### Lifetime counters (R596, R651) -/

/-- A lifetime copy up to its CRC: the generation number and the 18 counters. -/
def State.ltBody (s : State) (gen : Nat) : List Byte :=
  bytesOf 4 gen ++ ((List.range 18).map fun i => bytesOf 4 (s.rd (Reg.KPR_LT i)).toNat).flatten

/-- The first row of copy A or B. -/
def ltRow (b : Bool) : Nat := if b then 96 else 64

/-- The lifetime counters are saved to the copy whose turn it is. -/
def State.saveLifetime (s : State) (bad : List Nat) : State :=
  let gen := (s.rcd.ltGen + 1) % 2 ^ 32
  let body := s.ltBody gen
  let rows := storeRows 32 (body ++ bytesOf 4 (crc32 body))
  let s := s.writeRows (ltRow s.rcd.ltNextB) rows bad
  { s with rcd := { s.rcd with ltGen := gen, ltNextB := !s.rcd.ltNextB } }

/-- A lifetime copy: its generation number and bytes, or none while its CRC does not match. -/
def State.ltCopy (s : State) (b : Bool) : Option (Nat × List Byte) :=
  let bs := (s.storeRow (ltRow b) ++ s.storeRow (ltRow b + 1)).take 80
  if crc32 (bs.take 76) = fieldAt bs 76 4 then some (fieldAt bs 0 4, bs) else none

/-- The counters are loaded from a copy, and the other copy takes the next save. -/
def State.setLifetime (s : State) (b : Bool) (gen : Nat) (bs : List Byte) : State :=
  let s := (List.range 18).foldl (fun s i => s.wr (Reg.KPR_LT i) (BitVec.ofNat 32 (fieldAt bs (4 + 4 * i) 4))) s
  { s with rcd := { s.rcd with ltGen := gen, ltNextB := !b } }

/-- At boot the valid copy with the higher generation is loaded; with neither valid every counter starts at 0 (R651). -/
def State.loadLifetime (s : State) : State :=
  match s.ltCopy false, s.ltCopy true with
  | some (g, x), some (h, y) => if g < h then s.setLifetime true h y else s.setLifetime false g x
  | some (g, x), none => s.setLifetime false g x
  | none, some (h, y) => s.setLifetime true h y
  | none, none => s.setLifetime true 0 []

/-- The hottest valid die-sensor reading (R596). -/
def State.hottestDie (s : State) : Option Int :=
  (List.finRange 28).foldl (fun (m : Option Int) (t : Fin 28) =>
    if 20 ≤ t.val && !s.bit (Reg.HKA_TEMP t) 31 then
      match m, s.hka.sensors[t].lastValid with
      | some a, some b => some (max a b)
      | none, b => b
      | a, none => a
    else m) none

/-- The band of a reading in 0.0625 °C (R596). -/
def tjBand (t : Int) : Nat := ([400, 720, 1040, 1360, 1520, 1680, 1760].filter fun e => decide ((e : Int) ≤ t)).length

/-! ### The rings (R584 to R587) -/

/-- One entry of a ring (R584). -/
def entryBytes (e : Event) (seq : Nat) : List Byte :=
  bytesOf 2 e.code ++ bytesOf 2 seq ++ bytesOf 4 e.ns ++ (e.args ++ List.replicate 8 0).take 8

/-- The pointer at `a` as a read shows it: a read in the core cycle of an entry write gives the value before the write (R585). -/
def State.ptrView (s : State) (a : Nat) : Word :=
  match s.rcd.ptrWas with
  | some (t, l, b) => if t = s.now then (if a = Reg.KPR_LOG_PTR then l else b) else s.rd a
  | none => s.rd a

/-- An entry is written to the ring of `n` entries at `base`, and its pointer advances (R584, R585, R587). -/
def State.ringPut (s : State) (base n ptr : Nat) (e : Event) : State :=
  let seq := s.fld ptr 15 0
  let s := { s with rcd := { s.rcd with ptrWas := some (s.now, s.ptrView Reg.KPR_LOG_PTR, s.ptrView Reg.KPR_BB_PTR) } }
  (s.memWrite (base + 16 * (seq % n)) (entryBytes e seq) false 2 0x3F).setFld ptr 15 0 (seq + 1)

/-- FAULT_N is driven low (R597). -/
def State.faultLow (s : State) : Bool :=
  s.mode != .shelf && (s.kpr.imageLoaded || s.kpr.haltedAt.isSome)
    && (s.mode == .safe || s.kpr.haltedAt.isSome || s.bit Reg.KPR_FAULT_STAT 30)

/-- latched sets and takes the code of its event (R598). -/
def State.setFault (s : State) (code : Nat) : State := (s.setBit Reg.KPR_FAULT_STAT 30 true).setFld Reg.KPR_FAULT_STAT 15 0 code

/-- The first event of this tick that reached fault_sev (R598). -/
def State.reachedNow (s : State) : Option Nat :=
  match s.rcd.reached with
  | some (t, c) => if t = s.now then some c else none
  | none => none

/-- The first event at or above fault_sev latches (R598). -/
def State.faultLatch (s : State) (code : Nat) : State :=
  if s.fld Reg.KPR_FAULT_STAT 17 16 ≤ severity code then
    let s := { s with rcd := { s.rcd with reached := some (s.now, s.reachedNow.getD code) } }
    if s.bit Reg.KPR_FAULT_STAT 30 then s else s.setFault code
  else s

/-- An event goes to the trouble log and out as an alarm: MINOR or higher, or an INFO event that its block enabled (R581, R613). -/
def Event.logged (e : Event) : Bool := decide (1 ≤ severity e.code) || e.enabled

/-- An event is recorded (R581): black box, trouble log, alarm parcel, fault latch. The alarm of event 0x0001 waits for a port
(R558). -/
def State.recordEvent (s : State) (e : Event) : State :=
  let s := s.ringPut 0xF1754000 1024 Reg.KPR_BB_PTR e
  let s := { s with rcd := { s.rcd with bbCount := s.rcd.bbCount + 1 } }
  let log := e.logged
  let s := if log then s.ringPut 0xF1744000 4096 Reg.KPR_LOG_PTR e else s
  let s := if (log || e.alarm) && e.code != 0x0001 then s.sendAlarm e else s
  s.faultLatch e.code

/-- An event that the keeper raises and records in one cycle (R588, R591). -/
def State.recordNow (s : State) (code : Nat) (args : List (Nat × Nat)) : State :=
  (s.noteEvent code).recordEvent { code := code, ns := s.ns, args := packArgs args, cyc := s.now, enabled := s.eventEnabled code }

/-! ### Snapshots (R588 to R594) -/

/-- The header row of slot `k` (R595). -/
def slotRow (k : Nat) : Nat := 128 + 257 * k

/-- The 256 entry rows of slot `k`. -/
def State.slotEntries (s : State) (k : Nat) : List Byte := ((List.range 256).map fun j => s.storeRow (slotRow k + 1 + j)).flatten

/-- The header of slot `k` passes its magic and CRC checks (R590, R593). -/
def State.slotValid (s : State) (k : Nat) : Bool :=
  let h := s.storeRow (slotRow k)
  fieldAt h 0 4 = 0x42425831 && crc32 (h.take 60 ++ s.slotEntries k) = fieldAt h 60 4

/-- Slot `k` holds a valid snapshot that is not marked free. -/
def State.slotHeld (s : State) (k : Nat) : Bool := s.slotValid k && !bitOf (s.storeGet (slotRow k) 36).toNat 0

/-- Slot `k` is being written. -/
def State.slotBusy (s : State) (k : Nat) : Bool := match s.rcd.copy with | some (j, _) => j = k | none => false

/-- snap_seq of slot `k`. -/
def State.slotSeq (s : State) (k : Nat) : Nat := fieldAt (s.storeRow (slotRow k)) 4 4

/-- The slot that a snapshot takes: the lowest free one, or with none free the one with the oldest snap_seq (R590). -/
def State.chooseSlot (s : State) : Nat :=
  match (List.range 8).find? fun k => !s.slotBusy k && !s.slotHeld k with
  | some k => k
  | none => (List.range 8).foldl (fun b k => if s.slotSeq k < s.slotSeq b then k else b) 0

/-- The header row of a freeze (R593), with its CRC over it and the entry rows. -/
def headerRow (f : Freeze) (seq : Nat) (rows : List (List Byte)) : List Byte :=
  let h := bytesOf 4 0x42425831 ++ bytesOf 4 seq ++ bytesOf 2 f.trigger ++ bytesOf 1 (f.mode % 8 + f.image * 8) ++ bytesOf 1 f.cause
    ++ bytesOf 2 f.nEntry ++ bytesOf 2 f.firstSeq ++ bytesOf 4 f.ns ++ bytesOf 5 f.air ++ bytesOf 1 f.quality ++ bytesOf 2 0
    ++ bytesOf 4 f.version ++ bytesOf 4 f.ltOn ++ bytesOf 24 0
  h ++ bytesOf 4 (crc32 (h ++ rows.flatten))

/-- The entry rows of a freeze. -/
def Freeze.rows (f : Freeze) : List (List Byte) := storeRows 256 f.ring

/-- The freeze of the present instant (R589, R593). -/
def State.freezeNow (s : State) (trigger : Nat) : Freeze :=
  let n := min 1024 s.rcd.bbCount
  let first := (s.fld Reg.KPR_BB_PTR 15 0 + 65536 - n) % 65536
  { trigger := trigger, mode := if trigger = 0xFFFE then 0 else modeCode s.mode, image := if s.kpr.imageB then 1 else 0,
    cause := s.fld Reg.KPR_SAFE_CAUSE 5 0, nEntry := n, firstSeq := first, ns := s.ns, air := s.airStamp, quality := s.fld Reg.TIM_QUAL 17 16,
    version := (s.rd Reg.KPR_IMG_VER).toNat, ltOn := (s.rd (Reg.KPR_LT 0)).toNat
    ring := ((List.range n).map fun i => s.memGets (0xF1754000 + 16 * ((first + i) % 1024)) 16).flatten }

/-- The freeze itself (R588 to R590): counted, recorded by event 0x0009, and the ring copied. -/
def State.snapRing (s : State) (trigger : Nat) : State :=
  let slot := s.chooseSlot
  let s := (s.bump Reg.KPR_BB_FREEZE_CNT).bump (Reg.KPR_LT 14)
  let s := (s.setBit Reg.KPR_BB_CTL 31 false).recordNow 0x0009 [(2, trigger), (1, slot)]
  { s with rcd := { s.rcd with copy := some (slot, s.freezeNow trigger), lastSlot := slot, snapSeq := s.rcd.snapSeq + 1 } }

/-- The copy begins: the header row of its slot is written to zeros (R590). -/
def State.startCopy (s : State) (bad : List Nat) : State :=
  match s.rcd.copy with
  | some (k, _) => s.writeRow (slotRow k) (List.replicate 64 0) bad
  | none => s

/-- The early-warning comparator trips in this very core cycle: its command waits in the queue (DEDUCED: the commands that wait together are
of one tick, since time passes only on an empty queue). -/
def State.earlyNow (s : State) : Bool :=
  s.pins.pwrReq && s.pending.any fun c => match c with | .earlyWarning _ _ => true | _ => false

/-- A freeze that occurs now (R588, R591): merged into that of the early warning once it has fired and in the core cycle of its trip, waiting
while a copy runs, else taken. -/
def State.freeze (s : State) (trigger : Nat) (bad : List Nat) : State :=
  if s.rcd.earlyWarned then s.setBit Reg.KPR_BB_CTL 31 false
  else if s.rcd.copy.isSome || s.earlyNow then { s with rcd := { s.rcd with waiting := some (s.rcd.waiting.getD trigger) } }
  else (s.snapRing trigger).startCopy bad

/-- The lifetime counters are saved between a freeze and its copy (R592). -/
def State.freezeLast (s : State) (trigger : Nat) (bad : List Nat) : State :=
  let s := ((s.snapRing trigger).saveLifetime bad).startCopy bad
  { s.setBit Reg.KPR_BB_CTL 31 false with rcd := { s.rcd with lowerAfter := true } }

/-- The copy that runs is over: its entry rows and then its header row stand in the store (R590). -/
def State.endCopy (s : State) (bad : List Nat) : State :=
  match s.rcd.copy with
  | some (k, f) =>
    let rows := f.rows
    let s := (s.writeRows (slotRow k + 1) rows bad).writeRow (slotRow k) (headerRow f (s.rcd.snapSeq % 2 ^ 32) rows) bad
    { s with rcd := { s.rcd with copy := none } }
  | none => s

/-- The copy that runs stops after `n` entry rows and its slot is left invalid (R590, R591). -/
def State.tearCopy (s : State) (n : Nat) : State :=
  match s.rcd.copy with
  | some (k, f) =>
    let s := s.writeRows (slotRow k + 1) (f.rows.take n) []
    { s with rcd := { s.rcd with copy := none } }
  | none => s

/-- A freeze that waits is taken when the copy is complete (R591, R592). -/
def State.takeWaiting (s : State) (bad : List Nat) : State :=
  match s.rcd.waiting with
  | some t =>
    let s := { s with rcd := { s.rcd with waiting := none } }
    if t = 0xFFFE then s.freezeLast t bad else (s.snapRing t).startCopy bad
  | none => s

/-- The early warning's freeze (R591, R592): a copy that runs is abandoned after `n` entry rows, and freezes that wait are merged into
this one. -/
def State.freezeEarly (s : State) (n : Nat) (bad : List Nat) : State :=
  let s := match s.rcd.copy with
    | some (k, _) =>
      let n := min n 256
      ((s.tearCopy n).recordNow 0x000C [(1, k), (2, n)]).bump Reg.KPR_BB_ABANDON_CNT
    | none => s
  let s := { s with rcd := { s.rcd with waiting := none, due := none, earlyWarned := true } }
  s.freezeLast 0xFFFF bad

/-- The shelve command's freeze: at once, or after the copy that runs, in place of a freeze that waits (R588, R591). -/
def State.freezeShelve (s : State) (bad : List Nat) : State :=
  if s.rcd.earlyWarned then s
  else if s.rcd.copy.isSome || s.earlyNow then { s with rcd := { s.rcd with waiting := some 0xFFFE } }
  else s.freezeLast 0xFFFE bad

/-- Slot `k` is marked free (R594): its header is rewritten with freed set. -/
def State.markFree (s : State) (k : Nat) (bad : List Nat) : State :=
  if s.slotBusy k then s.bump Reg.KPR_MODE_REFUSE_CNT
  else if s.slotHeld k then
    let h := putBytes ((s.storeRow (slotRow k)).take 60) 36 [1]
    s.writeRow (slotRow k) (h ++ bytesOf 4 (crc32 (h ++ s.slotEntries k))) bad
  else s

/-- A write of KPR_BB_CTL: slots are marked free first, then the freeze is taken (R588, R594). -/
def State.writeBbCtl (s : State) (w : Word) (bad : List Nat) : State :=
  let s := (List.range 8).foldl (fun s k => if bitOf w.toNat k then s.markFree k bad else s) s
  if bitOf w.toNat 31 then (s.setBit Reg.KPR_BB_CTL 31 true).freeze 0 bad else s

/-- KPR_BB_STAT as it reads. -/
def State.bbStat (s : State) : Word :=
  BitVec.ofNat 32 ((if s.rcd.copy.isSome then 0x80000000 else 0) + (if s.rcd.waiting.isSome then 0x40000000 else 0)
    + s.rcd.lastSlot * 0x10000 + maskOf 8 s.slotHeld)

/-- What a production record holds: gains, couplings and the housekeeping calibration. -/
def Prod.values (p : Prod) : List (Option Int) :=
  p.obsGain.toList ++ (p.coupling.toList.map fun c => c.map fun (n : Nat) => (n : Int)) ++ p.paGain.toList
    ++ match p.hka with
      | some c => [some (c.ofs1024 : Int), some (c.num : Int), some (c.den : Int)]
      | none => []

/-- Word `w` of the store window (R595). The production record's layout in rows 0 to 63 is not given: its words are free values of what it
holds. -/
def State.storeWord (s : State) (w : Nat) : Word :=
  BitVec.ofNat 32 (if w / 16 < 64 then Config.prodWord s.prod.values w
    else natOf ((List.range 4).map fun i => s.storeGet (w / 16) (4 * (w % 16) + i)))

/-! ### Commands -/

/-- A freeze follows a CRITICAL event once the CRITICAL events of its instant `ns` that wait behind it are recorded (R581, R588,
R589). -/
def State.freezeDue (s : State) (ns : Nat) (bad : List Nat) : State :=
  match s.rcd.due with
  | none => s
  | some t =>
    let more := match s.rcd.queue with | e :: _ => severity e.code = 3 && e.ns = ns | [] => false
    if more then s else { s with rcd := { s.rcd with due := none } }.freeze t bad

/-- EVENT_RECORD: the oldest waiting event is recorded (R581). When room returns the events lost are reported (R583). -/
def execEventRecord (bad : List Nat) (s : State) : Res :=
  .next (match s.rcd.queue with
    | [] => s
    | e :: t =>
      if s.mode = .shelf then s
      else
        let s := { s with rcd := { s.rcd with queue := t } }.recordEvent e
        let s := if severity e.code = 3 then { s with rcd := { s.rcd with due := some (s.rcd.due.getD e.code) } } else s
        let s := s.freezeDue e.ns bad
        if s.rcd.lost = 0 then s
        else { s with rcd := { s.rcd with lost := 0 } }.raise 0x000B [(4, s.rcd.lost)])

/-- BB_FREEZE_WRITE: a write of freeze to KPR_BB_CTL (R588). -/
def execBbFreezeWrite (bad : List Nat) (s : State) : Res :=
  .next (if s.writable then s.writeBbCtl 0x80000000 bad else s)

/-- BB_FREE_WRITE: a write of free to KPR_BB_CTL (R594). -/
def execBbFreeWrite (mask : BitVec 8) (bad : List Nat) (s : State) : Res :=
  .next (if s.writable then s.writeBbCtl (BitVec.ofNat 32 mask.toNat) bad else s)

/-- LIFETIME_SECOND: each second with PD_KEEP powered (R596). -/
def execLifetimeSecond (s : State) : Res :=
  .next (if s.mode = .shelf then s
    else
      let s := s.bump (Reg.KPR_LT 0)
      let s := if s.mode.live then s.bump (Reg.KPR_LT 1) else s
      match s.hottestDie with
      | some t => s.bump (Reg.KPR_LT (2 + tjBand t))
      | none => s)

/-- LIFETIME_SAVE: every 60 s in READY, SERVICE, LEAN and SAFE (R596). -/
def execLifetimeSave (bad : List Nat) (s : State) : Res :=
  .next (if s.mode = .shelf ∨ s.mode = .boot then s else s.saveLifetime bad)

/-- A write of 1 to latched of KPR_FAULT_STAT clears it; an event of the same core cycle that reaches fault_sev comes after it and latches
(R598). -/
def State.writeFaultStat (s : State) (w : Word) : State :=
  if bitOf w.toNat 30 then
    match s.reachedNow with
    | some c => s.setFault c
    | none => s.setBit Reg.KPR_FAULT_STAT 30 false
  else s

/-- FAULT_CLEAR_WRITE (R598). -/
def execFaultClearWrite (s : State) : Res := .next (if s.writable then s.writeFaultStat 0x40000000 else s)

end Sys2Proof.Machine
end

