-- ==== Sys2Proof/Machine/Boot.lean ====
section
/-! DEFINITION. Reset, SHELF and the boot sequence (R546 to R548, R556 to R566, R575, R586, R610, R650). -/

namespace Sys2Proof

/-- PLL `k` locks in one of its three attempts, of 200 µs for the LPLL and 100 µs for the others (R113). -/
def BootRun.locked (r : BootRun) (k : Fin 4) : Bool := (r.locks[k]).isSome

/-- GPLL and TPLL lock (R564). -/
def BootRun.early (r : BootRun) : Bool := r.locked 0 && r.locked 1

/-- CPLL and LPLL lock (R564). -/
def BootRun.late (r : BootRun) : Bool := r.locked 2 && r.locked 3

end Sys2Proof

namespace Sys2Proof.Machine

/-! ### Reset and SHELF -/

/-- Registers that a reset keeps (R559, R586, R610): KPR_BOOT_NEXT, KPR_AON, the ring pointers and the lifetime counters. -/
def keptReg (a : Nat) : Bool :=
  a = Reg.KPR_BOOT_NEXT || a = Reg.KPR_AON || a = Reg.KPR_LOG_PTR || a = Reg.KPR_BB_PTR || (0x300 ≤ a && a < 0x348)

/-- SRAM that a reset keeps: the trouble log and the black-box ring (R586). -/
def keptCell (a : Nat) : Bool := 0xF1744000 ≤ a && a < 0xF1758000

/-- What stays through anything: the clock of the model, what was put on the lines, the queue, the pins, the fuses, the keeper store
and the flash. -/
def State.afterPower (s : State) : State :=
  { State.reset with
    now := s.now, out := s.out, pending := s.pending, freeIdx := s.freeIdx, pins := { s.pins with xspiHiZ := false }, fuses := s.fuses,
    prod := s.prod, store := s.store, flash := s.flash }

/-- The chip is reset (R548): every register but those of R586 and R610 takes its reset value, DRAM is not kept (R489), the quads and the
ports take their reset states, and a shelving that has begun goes on. -/
def State.chipReset (s : State) : State :=
  { s.afterPower with
    rcd := s.rcd, regs := s.regs.filter fun x => keptReg x.1
    mem := { cells := s.mem.cells.filter fun x => keptCell x.1 }
    kpr := { shelving := s.kpr.shelving, wakeHeld := s.kpr.wakeHeld, pwrFell := s.kpr.pwrFell, pwrRose := s.kpr.pwrRose } }

/-- BOOT is entered from any mode but SHELF (R548, R567), with `fails` unlock failures held (R579). -/
def State.toBoot (s : State) (fails : Nat) : State :=
  let old := s.mode
  let s := if old = .ready then s.cancelAlign else s
  let s := s.chipReset.bump (Reg.KPR_LT 10)
  let s := { s with kpr := { s.kpr with unlockFails := fails } }
  if old = .boot then s else s.raise 0x0003 [(1, modeCode old), (1, 1)]

/-- SHELF is entered (R575, R586, R610): PWR_REQ falls, and only KPR_AON, the pins, the fuses, the keeper store and the flash keep what
they hold. -/
def State.toShelf (s : State) : State :=
  { s.afterPower with
    mode := .shelf, regs := s.regs.filter fun x => x.1 = Reg.KPR_AON
    pins := { s.pins with pwrReq := false, xspiHiZ := false }
    rcd := { snapSeq := s.rcd.snapSeq, ltGen := s.rcd.ltGen, ltNextB := s.rcd.ltNextB, spares := s.rcd.spares }
    kpr := { wakeHeld := s.kpr.wakeHeld, pwrFell := s.now, pwrRose := s.kpr.pwrRose } }

/-! ### Images tried (R547, R556, R559) -/

/-- The digest of the first `n` bytes of image `b` (R556, R560). -/
def State.imageDigest (s : State) (b : Bool) (n : Nat) : List Byte := sha256 (s.flashBytes (imageBase b) n)

/-- Check 4 of R556: the hash of the image's public key is that of its fused slot, and the slot is not revoked. -/
def State.keyGood (s : State) (m : Image) : Bool :=
  sha256 (keyBytes m.key) == s.fuses.keyHash.toList.getD m.keySlot [] && !bitOf s.fuses.revoked m.keySlot

/-- Check 5 of R556: the 64 bytes after image `b` are a signature, r then s, that verifies over the image (R551). -/
def State.signed (s : State) (b : Bool) (m : Image) : Bool :=
  let sg := s.flashBytes (imageBase b + m.length) 64
  ecdsaOk m.key.1 m.key.2 (natOf (s.imageDigest b m.length)) (fieldAt sg 0 32) (fieldAt sg 32 32)

/-- Image `b`, whose flash read completes or not, passes every check, or the code of the first that fails (R556). -/
def State.judgeImage (s : State) (read : Bool) (b : Bool) : Nat ⊕ (Image × Air × LockRec) :=
  if !read then .inl 1
  else match s.readImage b with
    | .inl c => .inl c
    | .inr m =>
      if m.position != s.pins.pos then .inl 3
      else if !s.keyGood m then .inl 4
      else if !s.signed b m then .inl 5
      else match m.air, m.lock with
        | some a, some k => if s.imageOk m a (s.bankLimits.with k) then .inr (m, a, k) else .inl 6
        | _, _ => .inl 2

/-- The order in which images are tried: false A, true B (R547, R559). -/
def bootOrder (bootsel next : Nat) : List Bool :=
  match bootsel with
  | 2 => [false]
  | 3 => [true]
  | 0 => if next = 2 then [true, false] else [false, true]
  | _ => if next = 1 then [false, true] else [true, false]

/-- The images of a list are tried in turn: the rejections, each with its image, and the image that passed with whether it was tried
second. -/
def State.tryImages (s : State) (r : BootRun) :
    List Bool → List (Bool × Nat) → List (Bool × Nat) × Option (Bool × Image × Air × LockRec)
  | [], rej => (rej, none)
  | b :: t, rej =>
    match s.judgeImage (if b then r.readB else r.readA) b with
    | .inl c => s.tryImages r t (rej ++ [(b, c)])
    | .inr x => (rej, some (b, x))

/-- The rejection of an image is shown, with the failing slot and symbol where a check of the pattern refuses it (R32, R556). -/
def State.noteReject (s : State) (x : Bool × Nat) : State :=
  let at_ := match s.readImage x.1 with
    | .inr m => match m.air, m.lock with
      | some a, some k => if x.2 = 6 then s.failAt m a (s.bankLimits.with k) else none
      | _, _ => none
    | .inl _ => none
  let s := { s with freeIdx := s.freeIdx + 2 }
  if x.1 then { s.setFld Reg.KPR_BOOT_STAT 14 12 x.2 with kpr := { s.kpr with failB := at_ } }
  else { s.setFld Reg.KPR_BOOT_STAT 10 8 x.2 with kpr := { s.kpr with failA := at_ } }

/-! ### Step 5: the image is applied -/

/-- The lock record is written to the lowest unwritten fuse bank when its commit bit is set and no bank is written or it is tighter in
at least one value; with every bank written event 0x0006 reports it (R562). -/
def State.commitLock (s : State) (m : Image) (k : LockRec) : State :=
  let wanted := m.commit && (s.fuses.banks.toList.all (·.isNone) || tighter s.bankLimits k)
  if !wanted then s
  else match (List.finRange 4).find? fun (i : Fin 4) => (s.fuses.banks[i]).isNone with
    | some i =>
      { s with fuses := { s.fuses with banks := s.fuses.banks.set i (some (m.lockBytes ++ bytesOf 2 (crc16 m.lockBytes))) } }
    | none => s.raise 0x0006 [(1, 0xF)]

/-- The limits take force, and values of the image that are looser than the fuses are reported (R346). -/
def State.takeLimits (s : State) (k : LockRec) : State :=
  let fused := s.bankLimits
  let looser := if s.bankRecs = [] then 0 else looserBits fused k
  let s := s.applyLimits (fused.with k)
  if looser = 0 then s else s.raise 0x0008 [(1, looser)]

/-- The production record is reloaded (R344, R538): a path without a measured gain shows 0x8000, none. -/
def State.loadProd (s : State) : State :=
  let s := s.forPaths fun s p =>
    let s := match s.prod.coupling[p] with
      | some c => s.setFld (Reg.DPD_OBS_CFG p) 31 16 c
      | none => s
    s.setFld (Reg.SEQ_PA_GAIN p) 15 0 (match s.prod.paGain[p] with | some g => toBits 16 g | none => 0x8000)
  { s with hka := { s.hka with cal := s.prod.hka.getD {} } }

/-- A bias channel at image load (R530, R650): its target is code_off under R526, its power that of its en bit, and the clears whose
causes hold now apply. -/
def State.loadBias (s : State) (c : Fin 80) : State :=
  let t := s.biasCode c (s.fld (Reg.BIA_STAGE c) 31 16)
  let src := BitVec.ofNat 7 (maskOf 7 fun i => s.srcActive c i)
  let on := s.bit (Reg.BIA_CH_CFG c) 31
  s.setBias c fun b => { b with target := t, pwr := if on then .on else .off, src := src }

/-- The banks of every path that a seed of the image serves are loaded with it; the others hold the identity bank from reset (R284). -/
def State.loadSeeds (s : State) : State :=
  s.forPaths fun s p =>
    (List.finRange 8).foldl (fun s (b : Fin 8) =>
      if s.dpd.seeds.any fun x => x.1 = b.val && bitOf x.2.1 p then s.seedBank p b else s) s

/-- The thermistor tables of the image (R552). -/
def State.loadTherm (s : State) (ts : List (Nat × List (Nat × Int))) : State :=
  ts.foldl (fun s (k, tab) =>
    if h : 16 + k < 28 then s.setSensor ⟨16 + k, h⟩ fun x => { x with table := tab } else s) s

/-- The carriers that the image enables, with their PRB counts and offsets (R139, R140). -/
def State.loadCarriers (s : State) (words : List (Nat × Word)) : State :=
  let s := { s with dfe := { s.dfe with enabled := enabledBy words } }
  let s := (List.finRange 4).foldl (fun s (c : Fin 4) =>
    let s := if s.carEnabled c then s.setFld (Reg.DFE_CAR_CFG c) 8 0 (s.carPrbs c) else s
    { s with dfe := { s.dfe with offset := s.dfe.offset.set c (s.imageOfs c) } }) s
  s.showCarriers

/-- The records of an image that has passed are applied (R344, R553, R562, R650). -/
def State.applyImage (s : State) (r : BootRun) (b : Bool) (m : Image) (a : Air) (k : LockRec) : State :=
  let s := m.words.foldl State.loadWord s
  let s := m.tables.foldl (fun s t => s.memWrite t.1 t.2 false 2 0x3F) s
  let s := ((s.takeLimits k).commitLock m k).loadCarriers m.words
  let s := { s with
    air := a, dpd := { s.dpd with seeds := m.seeds }
    clk := { s.clk with comp := m.comp, refTrims := (m.comp.getD 0 []).drop 1 }
    tim := { s.tim with frac := s.fld Reg.TIM_INCR_FRAC 31 0 } }
  let s := (s.loadSeeds.loadTherm m.therm).loadProd
  let s := s.forPaths fun s p =>
    let v := s.fld (Reg.TXP_ATTEN p) 6 0
    s.setPath p fun x => { x with atten := v }
  let s := ((s.wr Reg.KPR_IMG_VER (BitVec.ofNat 32 m.version)).setBit Reg.KPR_BOOT_STAT 24 b)
  let s := (s.setFld Reg.SYN_VCO 21 16 r.band.toNat).setFld Reg.SYN_VCO 11 0 r.vtune.toNat
  let s := { s with kpr := { s.kpr with imageLoaded := true, imageB := b, keySlot := m.keySlot, imageLen := m.length, digest := s.imageDigest b m.length } }
  s.forBias fun s c => s.loadBias c

/-! ### The sequence (R557, R558, R564 to R566) -/

/-- BOOT halts with a cause: 1 IMAGE, 2 DRAM, 3 CLOCK (R557, R566). The outputs keep their levels of R548. -/
def State.halt (s : State) (cause : Nat) : State :=
  let s := (s.setBit Reg.KPR_BOOT_STAT 31 true).setFld Reg.KPR_BOOT_STAT 29 28 cause
  { s.raise 0x0002 [(1, cause)] with kpr := { s.kpr with haltedAt := some s.now, imageLoaded := false } }

/-- Boot step `n` is reached. -/
def State.bootStep (s : State) (n : Nat) : State := s.setFld Reg.KPR_BOOT_STAT 19 16 n

/-- The start-up pass begins: every quad is powered up as for a job (R317, R320, R340). -/
def State.startPass (s : State) : State :=
  let s := { s with seq := { s.seq with job := some { kind := 0, quads := 0xFFFF, quadOut := false, startup := true } } }
  let s := ((s.setBit Reg.SEQ_CAL_STAT 31 true).setFld Reg.SEQ_CAL_STAT 15 8 1).bootStep 8
  s.forQuads fun s q => s.powerUpQuad q true

/-- Steps 6 to 10 begin: SAFE is entered if a cause stands, the ports train, and the start-up pass runs where the image sets it; without it
the observation receivers are checked with the reference tone `m` (R94). -/
def State.bootRuns (s : State) (m : Vector (Int × Int) 9) : State :=
  let s := { (s.bootStep 7) with kpr := { s.kpr with writesOpen := true } }
  let s := (s.startPort 0).startPort 1
  let s := if s.pins.safeN then s else s.enterSafe 2
  let s := if s.pins.pgood0 && s.pins.pgood1 then s else s.enterSafe 1
  if s.mode != .boot then s
  else if s.bit Reg.SEQ_TURN_CFG 8 then s.startPass.bootAdvance
  else { ((s.obsCheck m).bootStep 9) with kpr := { s.kpr with bootPorts := true } }.bootAdvance

/-- An image was tried second and runs (R558). -/
def State.fellBack (s : State) (code : Nat) : State :=
  let s := (s.setBit Reg.KPR_BOOT_STAT 23 true).bump Reg.KPR_FALLBACK_CNT
  let e : Event := { code := 0x0001, ns := s.ns, args := packArgs [(1, code)] }
  { s.raiseEvent e with kpr := { s.kpr with fallbackAlarm := some e } }

/-- Bytes that the board's programmer has put into the flash (R557). -/
def State.programmed (s : State) (l : List (Nat × Byte)) : State := l.foldl (fun s x => s.flashPut x.1 x.2) s

/-- From RESET_N release on the clear codes of the bias channels read what the strap CLRSEL gives (R7, R522). -/
def State.clearLevel (s : State) : State :=
  if s.pins.clrsel then s.forBias fun s c => s.setFld (Reg.BIA_CLEAR c) 15 0 0xFFFF else s

/-- PLL `k` shows what its attempts at a cold start give (R112, R113). -/
def State.coldLock (r : BootRun) (s : State) (k : Fin 4) : State := s.setLock k (r.locked k)

/-- Both channels have been trained: MEM_CH_STAT shows which passed (R489). -/
def State.trainDram (r : BootRun) (s : State) : State :=
  (List.finRange 2).foldl (fun s (c : Fin 2) => s.setBit (Reg.MEM_CH_STAT c) 31 r.dram[c]) s

/-- The boot sequence up to where commands carry it on (R564): its steps 1 to 5 and 7 in one command (DESIGN CHOICE). -/
def State.boot (s : State) (r : BootRun) : State :=
  let s := { s with
    mode := .boot, tns := 0, tim := { s.tim with tickNo := 0, history := [] }
    kpr := { s.kpr with bootStart := s.now, octal := r.octal } }
  let s := s.clearLevel.programmed r.flash
  let s := ((s.setFld Reg.KPR_BOOT_STAT 6 5 s.pins.bootsel).setFld Reg.KPR_BOOT_STAT 4 3 s.pins.pos).setBit Reg.KPR_BOOT_STAT 2
    s.pins.clrsel
  let s := s.setFld Reg.PKT_CASCADE 9 8 s.pins.pos
  let order := bootOrder s.pins.bootsel (s.fld Reg.KPR_BOOT_NEXT 1 0)
  let s := (s.wr Reg.KPR_BOOT_NEXT 0).bootStep 1
  let s := [0, 1].foldl (State.coldLock r) s
  if !r.early then s.halt 3
  else
    let (rej, win) := s.tryImages r order []
    let s := rej.foldl State.noteReject s
    match win with
    | none => (s.bootStep (2 + rej.length)).halt 1
    | some (b, m, a, k) =>
      let s := match rej with
        | x :: _ => s.fellBack x.2
        | [] => s
      let s := (s.applyImage r b m a k).bootStep 5
      let s := [2, 3].foldl (State.coldLock r) s
      if !r.late then s.halt 3
      else
        let s := s.trainDram r
        if r.dram[(0 : Fin 2)] && r.dram[(1 : Fin 2)] then s.bootRuns r.obs
        else
          let s := (s.bootStep 7).halt 2
          { s with kpr := { s.kpr with writesOpen := true } }

/-- The straps are latched (R546). -/
def State.latchStraps (s : State) (r : BootRun) : State :=
  { s with pins := { s.pins with bootsel := r.bootsel, pos := r.pos, clrsel := r.clrsel } }

/-- SHELF is left for BOOT once PWR_REQ, RESET_N, PGOOD0 and PGOOD1 are all high (R567, R575): PGOOD1 says that VDD_BIAS is in range
(R522, R630). The lifetime counters are loaded (R596). -/
def State.shelfCheck (s : State) (r : BootRun) : State :=
  if s.mode = .shelf && s.pins.vaon && s.pins.pwrReq && s.pins.resetN && s.pins.pgood0 && s.pins.pgood1 then
    let s := { s.loadLifetime with mode := .boot, pins := { s.pins with vddBias := true } }
    let s := (s.bump (Reg.KPR_LT 10)).raise 0x0003 [(1, 0), (1, 1)]
    (s.latchStraps r).boot r
  else s

end Sys2Proof.Machine
end

