-- ==== Sys2Proof/Machine/Spools.lean ====
section
/-! DEFINITION. The spools (R504 to R519): rings, the check of a descriptor, the movement of its bytes or elements, pacing, pause, abort,
power-down and completion. The state of a spool is that of its SPL_STAT. -/

namespace Sys2Proof.Machine

/-! ### Spools (R504) -/

/-- One spool, changed. -/
def State.setSpool (s : State) (sp : Fin 32) (f : Spool → Spool) : State :=
  { s with mem := { s.mem with spools := upd s.mem.spools sp f } }

/-- Spools 20 to 27 are host spools. -/
def hostSpool (sp : Nat) : Bool := decide (20 ≤ sp) && decide (sp ≤ 27)

/-- The state of SPL_STAT: 0 IDLE, 1 RUN, 2 WAIT, 3 PAUSED, 4 PAUSED_POWER, 5 HALTED. -/
def State.splState (s : State) (sp : Nat) : Nat := s.fld (Reg.SPL_STAT sp) 31 28
def State.toSpl (s : State) (sp c : Nat) : State := s.setFld (Reg.SPL_STAT sp) 31 28 c

/-- The DRAM class of a spool (R504). -/
def State.splClass (s : State) (sp : Nat) : Nat :=
  if hostSpool sp then s.fld (Reg.SPL_CTRL sp) 1 0
  else if sp ≤ 3 then 0 else if 16 ≤ sp ∧ sp ≤ 19 then 1 else 2

/-- SPL_CTRL as it reads: a fixed spool shows the class and the priority that R504 fixes; one that makes no DRAM request has no class. -/
def State.splCtrl (s : State) (sp : Nat) : Word :=
  if hostSpool sp then s.rd (Reg.SPL_CTRL sp)
  else
    let none := (4 ≤ sp && sp ≤ 7) || sp = 14 || sp = 15
    let high := sp ≤ 5 || sp = 14 || sp = 15 || sp = 19
    putFld (putFld (s.rd (Reg.SPL_CTRL sp)) 8 8 (if high then 1 else 0)) 1 0 (if none then 0 else s.splClass sp)

/-- A spool of high priority (R504, R513). -/
def State.splHigh (s : State) (sp : Nat) : Bool :=
  if hostSpool sp then s.bit (Reg.SPL_CTRL sp) 8 else sp ≤ 5 || sp = 14 || sp = 15 || sp = 19

/-- A write to a fixed spool is refused and counted (R504). -/
def State.splRefuse (s : State) (sp : Nat) : State := s.bump (Reg.SPL_REFUSE_CNT sp)

/-! ### Rings and descriptors (R505 to R508) -/

/-- Descriptors of a ring; 0 while it is disabled. -/
def State.ringSize (s : State) (sp : Nat) : Nat :=
  let k := s.fld (Reg.SPL_RING_CFG sp) 3 0
  if 1 ≤ k ∧ k ≤ 8 then 2 ^ k else 0

/-- Ring index of the descriptor at tail, and its address. -/
def State.ringIndex (s : State) (sp : Nat) : Nat :=
  s.fld (Reg.SPL_TAIL sp) 8 0 % (if s.ringSize sp = 0 then 256 else s.ringSize sp)
def State.ringSlot (s : State) (sp i : Nat) : Nat := s.fld (Reg.SPL_RING_BASE sp) 31 5 * 32 + 32 * i

/-- The owner of a fixed spool has set its ring before its first descriptor: `Config.ring` says where in the SRAM that the spec leaves to the engines,
and how large. -/
def State.ownRing (s : State) (sp : Nat) : State :=
  if s.ringSize sp = 0 then
    let (x, k) := Config.ring sp
    (s.setFld (Reg.SPL_RING_BASE sp) 31 5 (0x7800000 + x % 0xAFF00)).setFld (Reg.SPL_RING_CFG sp) 3 0 (1 + k % 8)
  else s

/-- Descriptors between tail and head (R505). -/
def State.ringFill (s : State) (sp : Nat) : Nat := (s.fld (Reg.SPL_HEAD sp) 8 0 + 512 - s.fld (Reg.SPL_TAIL sp) 8 0) % 512

/-- The owner writes a descriptor into its ring and advances head (R505); a full ring takes none. -/
def State.pushDesc (s : State) (sp : Nat) (bs : List Byte) : State :=
  let size := s.ringSize sp
  let head := s.fld (Reg.SPL_HEAD sp) 8 0
  if s.ringFill sp < size then
    (s.memWrite (s.ringSlot sp (head % size)) bs false (s.splClass sp) sp).setFld (Reg.SPL_HEAD sp) 8 0 (head + 1)
  else s

/-- The fields of a descriptor (R506). -/
def parseDesc (i : Nat) (bs : List Byte) : Desc :=
  let w := fun k n => natOf ((bs.drop k).take n)
  { index := i, op := w 0 1 / 16, event := w 0 1 % 2 = 1, queue := w 1 1 % 32, esize := w 2 2 % 0x2000,
    src := w 4 4, dst := w 8 4, len := w 12 4, table := w 16 4 }

/-- Op and sizes are those of R506. -/
def descSizes (d : Desc) : Bool :=
  if d.op = 1 then decide (4 ≤ d.esize) && decide (d.esize ≤ 4096) && decide (1 ≤ d.len) && decide (d.len ≤ 65535)
  else decide (d.op ≤ 3) && decide (1 ≤ d.len) && decide (d.len ≤ 2 ^ 31)

/-- A spool may write these bytes (R484, R485, R487). -/
def State.splMayWrite (s : State) (sp a n : Nat) : Bool :=
  s.memValid a n && (!hostSpool sp || s.hostWritable a n)

/-- The index table of op 1 (R507). -/
def offsets : Nat → List Byte → List (Nat × Nat)
  | 0, _ => []
  | n + 1, bs => (natOf (bs.take 4), natOf ((bs.drop 4).take 4)) :: offsets n (bs.drop 8)

/-- Every address that a descriptor touches may be touched (R508). -/
def State.descAddrs (s : State) (sp : Nat) (d : Desc) : Bool :=
  match d.op with
  | 0 => s.memValid d.src d.len && s.splMayWrite sp d.dst d.len
  | 1 => d.elems.all fun (x, y) => s.memValid (d.src + x) d.esize && s.splMayWrite sp (d.dst + y) d.esize
  | 2 => s.splMayWrite sp d.dst d.len
  | _ => s.memValid d.src d.len

/-! ### Movement (R509, R510, R518) -/

/-- Source and destination overlap and the destination lies above: the copy descends (R509). -/
def descends (a b n : Nat) : Bool := decide (a < b) && decide (b < a + n)

/-- The next beat of a copy of `n` bytes from `a` to `b` with `done` bytes moved: where it reads, where it writes, and how many bytes: at
most 64, and across no 64-byte boundary at either end. -/
def beatAt (a b n done left : Nat) (down : Bool) : Nat × Nat × Nat :=
  if down then
    let x := a + n - done
    let y := b + n - done
    let k := min left (min (if x % 64 = 0 then 64 else x % 64) (if y % 64 = 0 then 64 else y % 64))
    (x - k, y - k, k)
  else
    let x := a + done
    let y := b + done
    (x, y, min left (min (64 - x % 64) (64 - y % 64)))

/-- Beats of a copy until `left` bytes are moved: the state after, and the offset of the first byte whose beat was read uncorrectable
(R518). `fuel` bounds the beats. -/
def State.copyBeats (s : State) (cls sp a b n : Nat) (down : Bool) : (fuel done left : Nat) → Option Nat × State
  | 0, _, _ => (none, s)
  | f + 1, done, left =>
    if left = 0 then (none, s)
    else
      let (x, y, k) := beatAt a b n done left down
      let ((bs, bad), s) := s.memRead x k cls sp
      let (ue, s) := (s.memWrite y bs bad cls sp).copyBeats cls sp a b n down f (done + k) (left - k)
      (if bad then some (x - a) else ue, s)

/-- One element of an index-table gather is read in full before it is written (R510). -/
def State.copyElem (s : State) (cls sp a b n : Nat) : Bool × State :=
  let (ue, s) := s.copyBeats cls sp a b n (descends a b n) n 0 n
  (ue.isSome, s)

/-- Elements of an index-table gather, in table order (R510): the first marked one, and the state after. -/
def State.copyElems (s : State) (cls sp : Nat) (d : Desc) (i : Nat) : List (Nat × Nat) → Option Nat × State
  | [] => (none, s)
  | (x, y) :: t =>
    let (bad, s) := s.copyElem cls sp (d.src + x) (d.dst + y) d.esize
    let (ue, s) := s.copyElems cls sp d (i + 1) t
    (if bad then some i else ue, s)

/-! ### Queues (R506, R512) -/

/-- Port and number of a link queue of R506, and whether it is an egress queue. -/
def queuePort (queue : Nat) : Fin 2 := ⟨queue / 16 % 2, Nat.mod_lt _ (by decide)⟩
def queueNo (queue : Nat) : Fin 8 := ⟨queue % 8, Nat.mod_lt _ (by decide)⟩
def egressQueue (queue : Nat) : Bool := queue / 8 % 2 = 1

/-- Credits that parcels fill (R405, R512). -/
def creditsOf (ps : List (List Byte)) : Nat := (ps.map fun p => creditsFor (p.length - 20)).sum

/-- A parcel as it lies in an egress queue: it has no sequence yet. -/
def laidOut (p : Parcel) : List Byte :=
  parcelBytes { plane := p.plane, sub := p.sub, judged := p.judged, bits := p.bits, flow := p.flow, seq := 0, air := p.air } p.payload p.stomp

/-- The parcels of a queue, oldest first (R512): of an egress queue those that wait; of an ingress queue those that a spool has put in, and `given`, since
the parcels that arrive there are acted on at once. -/
def State.queuedParcels (s : State) (queue : Nat) (given : List (List Byte)) : List (List Byte) :=
  let q := (s.port (queuePort queue)).queues[queueNo queue]
  if egressQueue queue then q.wait.map laidOut else q.held ++ given

/-- The first `n` parcels leave a queue. -/
def State.takeParcels (s : State) (queue n : Nat) : State :=
  s.setQueue (queuePort queue) (queueNo queue) fun x =>
    if egressQueue queue then { x with wait := x.wait.drop n } else { x with held := x.held.drop n }

/-- The whole parcels at the front of some bytes, and the bytes after them. -/
def cutParcels : Nat → List Byte → List (List Byte) × List Byte
  | 0, bs => ([], bs)
  | n + 1, bs =>
    let len := 20 + headerLen bs
    if bs.length < 20 ∨ bs.length < len then ([], bs)
    else let (ps, t) := cutParcels n (bs.drop len); (bs.take len :: ps, t)

/-- The bytes of a parcel as it waits in a queue. -/
def queued (now : Nat) (bs : List Byte) : Parcel :=
  let h := parseHeader bs
  let n := headerLen bs
  { plane := h.plane, sub := h.sub, judged := h.judged, bits := h.bits, flow := h.flow, air := h.air, payload := (bs.drop 16).take n,
    stomp := fieldAt bs (16 + n) 4 != crc32 (bs.take (16 + n)), at_ := now }

/-- Parcels join a queue. DESIGN CHOICE: in an ingress queue they wait until a spool of op 2 takes them. -/
def State.giveParcels (s : State) (queue : Nat) (ps : List (List Byte)) : State :=
  s.setQueue (queuePort queue) (queueNo queue) fun x =>
    if egressQueue queue then { x with wait := x.wait ++ ps.map (queued s.now) } else { x with held := x.held ++ ps }

/-- The leading parcels that op 2 moves: while they fit in `room` bytes and the fill is above `lo` (R512). -/
def fitting (lo : Nat) : Nat → List (List Byte) → List (List Byte)
  | _, [] => []
  | room, p :: t => if p.length ≤ room ∧ lo < creditsOf (p :: t) then p :: fitting lo (room - p.length) t else []

/-! ### Progress -/

/-- What is left of a descriptor, in bytes or elements. -/
def Desc.left (d : Desc) : Nat := d.len - d.done

/-- The marks of a spool (R512). -/
def State.paceLo (s : State) (sp : Nat) : Nat := s.fld (Reg.SPL_PACE sp) 7 0
def State.paceHi (s : State) (sp : Nat) : Nat := s.fld (Reg.SPL_PACE sp) 15 8

/-- Beats of op 3, at most `left` bytes of them, until the fill reaches hi (R512): the bytes make parcels. `fuel` bounds the beats. -/
def State.feed (s : State) (sp : Nat) : (fuel left : Nat) → Desc → Desc × State
  | 0, _, d => (d, s)
  | f + 1, left, d =>
    if left = 0 ∨ s.paceHi sp ≤ creditsOf (s.queuedParcels d.queue []) then (d, s)
    else
      let a := d.src + d.done
      let k := min left (64 - a % 64)
      let ((bs, bad), s) := s.memRead a k (s.splClass sp) sp
      let (ps, rest) := cutParcels (d.stage.length + k) (d.stage ++ bs)
      let d := { d with done := d.done + k, ue := if d.ue.isNone && bad then some d.done else d.ue, stage := rest }
      (s.giveParcels d.queue ps).feed sp f (left - k) d

/-- Of a descriptor at most `n` further bytes or elements are moved, of op 2 whole parcels (R512): the descriptor, the parcels of `m` that are left, and
the state. -/
def State.advance (s : State) (sp : Fin 32) (d : Desc) (n : Nat) (m : SpoolMove) : (Desc × List (List Byte)) × State :=
  let s := s.upset m.upsets
  let s := { s with mem := { s.mem with turn := sp } }
  let cls := s.splClass sp
  let k := min n d.left
  match d.op with
  | 0 =>
    let (ue, s) := s.copyBeats cls sp d.src d.dst d.len d.down k d.done k
    (({ d with done := d.done + k, ue := d.ue <|> ue }, m.parcels), s)
  | 1 =>
    let (ue, s) := s.copyElems cls sp d d.done ((d.elems.drop d.done).take k)
    (({ d with done := d.done + k, ue := d.ue <|> ue }, m.parcels), s)
  | 2 =>
    let own := s.queuedParcels d.queue []
    let ps := fitting (s.paceLo sp) k (s.queuedParcels d.queue m.parcels)
    let bs := ps.flatten
    (({ d with done := d.done + bs.length }, m.parcels.drop (ps.length - own.length)),
      (s.takeParcels d.queue ps.length).memWrite (d.dst + d.done) bs false cls sp)
  | _ => let (d, s) := s.feed sp k k d; ((d, m.parcels), s)

/-- A descriptor is complete (R512): everything is moved; or, of op 2, the next of the parcels that wait does not fit. -/
def State.finished (s : State) (d : Desc) (given : List (List Byte)) : Bool :=
  d.left = 0 || (d.op = 2 && match (s.queuedParcels d.queue given).head? with | some p => decide (d.left < p.length) | none => false)

/-- SPL_CUR_SRC, SPL_CUR_DST, SPL_DONE and SPL_CUR_ELEM describe the next byte or element (R514); the end of a queue has no address and
reads 0. -/
def State.showCur (s : State) (sp : Nat) (d : Desc) : State :=
  let (a, b) : Nat × Nat :=
    match d.op with
    | 0 => if d.down then (d.src + d.len - d.done - 1, d.dst + d.len - d.done - 1) else (d.src + d.done, d.dst + d.done)
    | 1 => match d.elems[d.done]? with
      | some (x, y) => (d.src + x, d.dst + y)
      | none => (d.src, d.dst)
    | 2 => (0, d.dst + d.done)
    | _ => (d.src + d.done, 0)
  let s := (s.wr (Reg.SPL_CUR_SRC sp) (BitVec.ofNat 32 a)).wr (Reg.SPL_CUR_DST sp) (BitVec.ofNat 32 b)
  (s.wr (Reg.SPL_DONE sp) (BitVec.ofNat 32 d.done)).wr (Reg.SPL_CUR_ELEM sp) (BitVec.ofNat 32 (if d.op = 1 then d.done else 0))

/-! ### Completion (R506, R515, R516, R518, R519) -/

/-- Bytes 24 to 31 of a descriptor (R506). -/
def statusBytes (d : Desc) (status : Nat) : List Byte :=
  bytesOf 1 status ++ bytesOf 1 (if d.op = 0 ∧ d.down then 1 else 0)
    ++ bytesOf 2 (if d.op = 1 then d.ue.getD 0 else 0) ++ bytesOf 4 d.done

/-- Spool `sp` completes descriptor `d` with `status`: the descriptor's status is written, then tail advances; the spool takes state
`c` (R519). -/
def State.complete (s : State) (sp : Fin 32) (d : Desc) (status c : Nat) : State :=
  let a := s.ringSlot sp d.index
  let s := s.showCur sp d
  let s := if inSram a 32 && s.splMayWrite sp (a + 24) 8 then s.memWrite (a + 24) (statusBytes d status) false (s.splClass sp) sp else s
  let s := s.bump (Reg.SPL_DESC_CNT sp)
  let s := if status = 1 then (s.bump (Reg.SPL_UE_CNT sp)).raise 0x0602 [(1, sp), (4, d.ue.getD 0)] else s
  let s := if d.event then s.raise 0x0603 [(1, sp), (1, d.index)] else s
  let s := s.setFld (Reg.SPL_TAIL sp) 8 0 (s.fld (Reg.SPL_TAIL sp) 8 0 + 1)
  (s.toSpl sp c).setSpool sp fun x => { x with cur := none, paced := false, draining := false, aborting := false, powerAt := none }

/-- The state of a spool that has no descriptor: PAUSED while pause is set, else IDLE (R514). -/
def State.restState (s : State) (sp : Nat) : Nat := if s.bit (Reg.SPL_CTRL sp) 31 then 3 else 0

/-- A spool that runs and that nothing stops. -/
def State.runsFree (s : State) (sp : Fin 32) : Bool :=
  let x := s.mem.spools[sp]
  s.splState sp = 1 && !x.draining && !x.aborting && x.powerAt.isNone

/-- A normal-priority spool that could issue the next beat. -/
def State.yields (s : State) (sp : Fin 32) : Bool := s.runsFree sp && !s.splHigh sp

/-- The spool that a high-priority one interrupts as it becomes ready (R513): `cut` where it runs at normal priority, else the next such spool in
turn. -/
def State.interrupted (s : State) (cut : Option (Fin 32)) : Option (Fin 32) :=
  match cut.filter s.yields with
  | some x => some x
  | none => ((List.finRange 32).map fun i => s.mem.turn + 1 + i).find? s.yields

/-- Spool `sp` becomes ready: at high priority it takes the next beat, and the interruption is counted (R513). -/
def State.interrupt (s : State) (sp : Fin 32) (cut : Option (Fin 32)) : State :=
  if s.splHigh sp then
    match s.interrupted cut with
    | some x => s.bump (Reg.SPL_PREEMPT_CNT x)
    | none => s
  else s

/-- A descriptor is checked, and begins or completes at once (R508, R512); the addresses it touches include the bytes of its own status (R485,
R506). -/
def State.begin_ (s : State) (sp : Fin 32) (d : Desc) (cut : Option (Fin 32)) : State :=
  if !s.splMayWrite sp (s.ringSlot sp d.index + 24) 8 then s.complete sp d 2 (s.restState sp)
  else if !descSizes d then s.complete sp d 3 (s.restState sp)
  else if d.op = 1 && !s.memValid d.table (8 * d.len) then s.complete sp d 2 (s.restState sp)
  else
    let ((tab, _), s) := if d.op = 1 then s.memRead d.table (8 * d.len) (s.splClass sp) sp else (([], false), s)
    let d := { d with elems := if d.op = 1 then offsets d.len tab else [] }
    if !s.descAddrs sp d then s.complete sp d 2 (s.restState sp)
    else
      let d := { d with down := d.op = 0 && descends d.src d.dst d.len }
      let paced := 2 ≤ d.op
      let s := (s.toSpl sp (if paced then 2 else 1)).setFld (Reg.SPL_STAT sp) 24 24 (if d.down then 1 else 0)
      let s := (s.setFld (Reg.SPL_STAT sp) 7 0 d.index).setSpool sp fun x => { x with cur := some d, paced := paced }
      let s := s.showCur sp d
      if paced then s else s.interrupt sp cut

/-- The descriptor at tail is fetched from the ring and begins (R505). -/
def State.fetchDesc (s : State) (sp : Fin 32) (cut : Option (Fin 32)) : State :=
  let i := s.ringIndex sp
  let a := s.ringSlot sp i
  if s.ringSize sp = 0 || !inSram a 32 || s.ringFill sp = 0 then s
  else
    let ((bs, _), s) := s.memRead a 32 (s.splClass sp) sp
    s.begin_ sp (parseDesc i bs) cut

/-- DESCRIPTOR_START on spool `sp` (R505, R508, R513). The owner of a fixed spool writes the descriptor `eng` and advances head; the spool fetches the
descriptor at tail. `cut` is the spool that a high-priority one interrupts. -/
def execDescriptorStart (sp : Fin 32) (eng : Vector Byte 32) (cut : Option (Fin 32)) (upsets : List (Nat × Upset)) (s : State) : Res :=
  let s := s.upset upsets
  .next (if s.splState sp != 0 || s.mode = .shelf then s
    else if hostSpool sp then s.fetchDesc sp cut
    else ((s.ownRing sp).pushDesc sp eng.toList).fetchDesc sp cut)

/-- The current descriptor of spool `sp` is moved on by at most `n`, and stands there: RUN, or WAIT where pacing has stopped it (R512). -/
def State.moveOn (s : State) (sp : Fin 32) (d : Desc) (n : Nat) (m : SpoolMove) : State :=
  let ((d, _), s) := s.advance sp d n m
  (s.showCur sp d).setSpool sp fun x => { x with cur := some d }

/-- A ready high-priority spool takes every beat before one of normal priority (R513): those that run move what they have to move. DESIGN CHOICE: a
spool in RUN is ready. -/
def State.highFirst (s : State) (sp : Fin 32) : State :=
  if s.splHigh sp then s
  else (List.finRange 32).foldl (fun s x =>
    match (s.mem.spools[x]).cur with
    | some d => if s.splHigh x && s.runsFree x then s.moveOn x d d.left ⟨0, [], []⟩ else s
    | none => s) s

/-- DESCRIPTOR_COMPLETE on spool `sp` (R512, R513, R518, R519): what is left of the current descriptor is moved, and it completes; a paced one that its
queue stops before waits. -/
def execDescriptorComplete (sp : Fin 32) (m : SpoolMove) (s : State) : Res :=
  .next (match (s.mem.spools[sp]).cur with
    | some d =>
      if s.runsFree sp then
        let ((d, rest), s) := (s.highFirst sp).advance sp d d.left m
        if s.finished d rest then s.complete sp d (if d.ue.isSome then 1 else 0) (s.restState sp)
        else ((s.showCur sp d).toSpl sp 2).setSpool sp fun x => { x with cur := some d, paced := true }
      else s
    | none => s)

/-! ### Pause and abort (R514, R515) -/

/-- Pause is set: no new read; a spool without a descriptor stands at once. -/
def State.splPause (s : State) (sp : Fin 32) : State :=
  let s := s.setBit (Reg.SPL_CTRL sp) 31 true
  match s.splState sp with
  | 0 => s.toSpl sp 3
  | 1 | 2 => s.setSpool sp fun x => { x with draining := true }
  | _ => s

/-- The spool goes on from where it stands: RUN, WAIT while pacing stops it, IDLE without a descriptor. -/
def State.splGo (s : State) (sp : Fin 32) : State :=
  let x := s.mem.spools[sp]
  if x.cur.isNone then s.toSpl sp 0
  else if x.paced then s.toSpl sp 2
  else (s.toSpl sp 1).interrupt sp none

/-- Pause is cleared. -/
def State.splResume (s : State) (sp : Fin 32) : State :=
  let s := (s.setBit (Reg.SPL_CTRL sp) 31 false).setSpool sp fun x => { x with draining := false }
  if s.splState sp = 3 then s.splGo sp else s

/-- HALTED is reached by an abort (R515). -/
def State.splHalt (s : State) (sp : Fin 32) (d : Option Desc) : State :=
  let s := (s.bump (Reg.SPL_ABORT_CNT sp)).setBit (Reg.SPL_CTRL sp) 30 false
  match d with
  | some d => s.complete sp d 4 5
  | none => s.toSpl sp 5

/-- A write of abort: a spool with nothing to drain is halted at once. -/
def State.splAbort (s : State) (sp : Fin 32) : State :=
  let x := s.mem.spools[sp]
  match s.splState sp with
  | 1 | 2 => (s.setBit (Reg.SPL_CTRL sp) 30 true).setSpool sp fun x => { x with aborting := true }
  | 5 => s
  | _ => s.splHalt sp x.cur

/-- A write of restart. -/
def State.splRestart (s : State) (sp : Fin 32) : State := if s.splState sp = 5 then s.toSpl sp (s.restState sp) else s

/-- A write of SPL_CTRL (R504, R514, R515). -/
def State.writeSplCtrl (s : State) (sp : Fin 32) (w : Word) : State :=
  if !hostSpool sp then s.splRefuse sp
  else
    let was := s.bit (Reg.SPL_CTRL sp) 31
    let pause := fldOf w 31 31 = 1
    let s := (s.setFld (Reg.SPL_CTRL sp) 8 8 (fldOf w 8 8)).setFld (Reg.SPL_CTRL sp) 1 0 (fldOf w 1 0)
    let s := if pause && !was then s.splPause sp else if !pause && was then s.splResume sp else s
    let s := if fldOf w 30 30 = 1 then s.splAbort sp else s
    if fldOf w 29 29 = 1 then s.splRestart sp else s

/-- A register write of a spool's owner: `f` on a host spool, a refusal on any other (R504). -/
def State.hostSpl (s : State) (sp : Fin 32) (f : State → State) : Res :=
  .next (if !s.writable then s else if hostSpool sp then f s else s.splRefuse sp)

/-- SPOOL_PAUSE (R514). -/
def execSpoolPause (sp : Fin 32) (s : State) : Res := s.hostSpl sp fun s => if s.bit (Reg.SPL_CTRL sp) 31 then s else s.splPause sp

/-- SPOOL_RESUME (R514, R517). -/
def execSpoolResume (sp : Fin 32) (s : State) : Res := s.hostSpl sp fun s => if s.bit (Reg.SPL_CTRL sp) 31 then s.splResume sp else s

/-- SPOOL_ABORT (R515). -/
def execSpoolAbort (sp : Fin 32) (s : State) : Res := s.hostSpl sp fun s => s.splAbort sp

/-- SPOOL_RESTART (R515). -/
def execSpoolRestart (sp : Fin 32) (s : State) : Res := s.hostSpl sp fun s => s.splRestart sp

/-- SPOOL_DRAINED (R514, R515): the beats that were read are written, and the spool enters PAUSED, or completes its descriptor as
ABORTED_HOST and enters HALTED. -/
def execSpoolDrained (sp : Fin 32) (m : SpoolMove) (s : State) : Res :=
  let x := s.mem.spools[sp]
  .next (match x.cur with
    | some d =>
      if (x.draining || x.aborting) && x.powerAt.isNone && (s.splState sp = 1 || s.splState sp = 2) then
        let ((d, _), s) := s.advance sp d m.n m
        if x.aborting then s.splHalt sp (some d)
        else ((s.showCur sp d).toSpl sp 3).setSpool sp fun x => { x with cur := some d, draining := false }
      else s
    | none => s)

/-! ### Rings and pacing (R505, R512) -/

/-- A write of SPL_HEAD (R505). -/
def State.writeHead (s : State) (sp : Fin 32) (w : Word) : State :=
  let ahead := (fldOf w 8 0 + 512 - s.fld (Reg.SPL_TAIL sp) 8 0) % 512
  if !hostSpool sp || decide (s.ringSize sp < ahead) then s.splRefuse sp else s.setFld (Reg.SPL_HEAD sp) 8 0 (fldOf w 8 0)

/-- SPOOL_HEAD_WRITE (R505). -/
def execSpoolHeadWrite (sp : Fin 32) (w : Word) (s : State) : Res := .next (if s.writable then s.writeHead sp w else s)

/-- A write of SPL_PACE (R512). -/
def State.writePace (s : State) (sp : Fin 32) (w : Word) : State :=
  if !hostSpool sp || decide (fldOf w 15 8 ≤ fldOf w 7 0) then s.splRefuse sp
  else (s.setFld (Reg.SPL_PACE sp) 31 20 (fldOf w 31 20)).setFld (Reg.SPL_PACE sp) 15 0 (fldOf w 15 0)

/-- SPOOL_PACE_WRITE (R512). -/
def execSpoolPaceWrite (sp : Fin 32) (w : Word) (s : State) : Res := .next (if s.writable then s.writePace sp w else s)

/-- The fill of a queue in credits, and how long its oldest parcel has waited in ticks (R512): of an egress queue those of the state; of an ingress queue
what a spool has put in beside `given`, which has waited the time beside it. -/
def State.fillOf (s : State) (queue : Nat) (given : Nat × Nat) : Nat × Nat :=
  let fill := creditsOf (s.queuedParcels queue [])
  if egressQueue queue then
    (fill, match ((s.port (queuePort queue)).queues[queueNo queue]).wait.head? with | some p => s.now - p.at_ | none => 0)
  else (fill + given.1, given.2)

/-- PACING_START on spool `sp` (R512): the fill of its queue, or the wait of the oldest byte, starts it. `fill` and `waited`, in ticks, are those of
an ingress queue. -/
def execPacingStart (sp : Fin 32) (fill waited : Nat) (cut : Option (Fin 32)) (s : State) : Res :=
  let x := s.mem.spools[sp]
  .next (match x.cur with
    | some d =>
      let (n, t) := s.fillOf d.queue (fill, waited)
      let go := if d.op = 2 then decide (s.paceHi sp ≤ n) || (decide (0 < n) && nsPassed t (s.fld (Reg.SPL_PACE sp) 31 20 * 250))
        else decide (n ≤ s.paceLo sp)
      if s.splState sp = 2 && !x.draining && !x.aborting && x.powerAt.isNone && go then
        ((s.toSpl sp 1).setSpool sp fun x => { x with paced := false }).interrupt sp cut
      else s
    | none => s)

/-- PACING_STOP on spool `sp` (R512): what it has moved since, and WAIT. -/
def execPacingStop (sp : Fin 32) (m : SpoolMove) (s : State) : Res :=
  .next (match (s.mem.spools[sp]).cur with
    | some d =>
      if s.runsFree sp && decide (2 ≤ d.op) then
        let ((d', rest), s') := (s.highFirst sp).advance sp d m.n m
        let n := creditsOf (s'.queuedParcels d.queue rest)
        let stop := if d.op = 2 then decide (n ≤ s.paceLo sp) else decide (s.paceHi sp ≤ n)
        if stop then ((s'.showCur sp d').toSpl sp 2).setSpool sp fun x => { x with cur := some d', paced := true } else s
      else s
    | none => s)

/-! ### Power-down in flight (R516, R517) -/

/-- Every running spool is asked to stop its reads: its domains power down (R503, R516). -/
def State.stopSpools (s : State) : State :=
  (List.finRange 32).foldl (fun s (x : Fin 32) =>
    if (s.splState x = 1 || s.splState x = 2) && (s.mem.spools[x]).powerAt.isNone then s.setSpool x fun y => { y with powerAt := some s.now }
    else s) s

/-- SPOOL_POWER_WAIT: a domain at either end of the running spool `sp` is asked to power down (R516). -/
def execSpoolPowerWait (sp : Fin 32) (s : State) : Res :=
  .next (if (s.splState sp = 1 || s.splState sp = 2) && (s.mem.spools[sp]).powerAt.isNone then
      s.setSpool sp fun x => { x with powerAt := some s.now }
    else s)

/-- SPOOL_POWER_TIMEOUT: the wait of R516 ends with everything written within 2 µs, or after them with beats `left`, of which what came later than 2 µs
counts as left. -/
def execSpoolPowerTimeout (sp : Fin 32) (m : SpoolMove) (left : Bool) (s : State) : Res :=
  let x := s.mem.spools[sp]
  .next (match x.cur, x.powerAt with
    | some d, some t =>
      let late := decide (2 * 3072000 < (s.now - t) * 3125)
      if left && !usPassed (s.now - t) 2 then s
      else
        let ((d, _), s) := s.advance sp d m.n m
        if left || late then
          let s := (s.complete sp d 5 5).setBit (Reg.SPL_CTRL sp) 30 false
          (s.bump (Reg.SPL_PWR_ABORT_CNT sp)).raise 0x0601 [(1, sp), (4, d.done)]
        else if x.aborting then s.splHalt sp (some d)
        else
          let s := ((s.showCur sp d).toSpl sp 4).bump (Reg.SPL_PWR_PAUSE_CNT sp)
          s.setSpool sp fun x => { x with cur := some d, draining := false, powerAt := none }
    | _, _ => s)

/-- SPOOL_POWER_RESUME: every domain that spool `sp` touches is powered again; an engine restarts its own spool (R517). -/
def execSpoolPowerResume (sp : Fin 32) (s : State) : Res :=
  .next (match s.splState sp with
    | 4 => if s.bit (Reg.SPL_CTRL sp) 31 then s.toSpl sp 3 else s.splGo sp
    | 5 => if hostSpool sp then s else s.toSpl sp 0
    | _ => s)

/-- SPL_ACTIVE and SPL_PAUSED as they read: spools in RUN or WAIT, and in PAUSED or PAUSED_POWER. -/
def State.splActive (s : State) : Nat := maskOf 32 fun i => s.splState i = 1 || s.splState i = 2
def State.splPaused (s : State) : Nat := maskOf 32 fun i => s.splState i = 3 || s.splState i = 4

end Sys2Proof.Machine
end

