-- ==== Sys2Proof/Machine/Modes.lean ====
section
/-! DEFINITION. The commands of reset, power and the operating modes (R548, R557, R560, R564 to R575, R590 to R592, R630 to R634). -/

namespace Sys2Proof.Machine

/-- A cause of SAFE that recover waits for is active: every one but WATCHDOG and GUARD, which recover itself ends (R572 to R574). -/
def State.safeHolds (s : State) : Bool := s.tempActive || s.supplyActive || !s.pins.safeN || s.bit Reg.KPR_SAFE_CAUSE 5

/-! ### Pins (R546, R548, R572, R574) -/

/-- RESET_ASSERT: RESET_N low for 10 µs; in SHELF it is ignored (R548). While it is low the level `clrsel` of CLRSEL is followed (R546). -/
def execResetAssert (clrsel : Bool) (s : State) : Res :=
  let s := { s with pins := { s.pins with resetN := false } }
  .next (if s.mode = .shelf then s else { s with pins := { s.pins with clrsel := clrsel } }.toBoot 0)

/-- RESET_RELEASE: the straps are latched and the boot sequence runs (R546, R564); out of SHELF once the rest of R575 holds. -/
def execResetRelease (r : BootRun) (s : State) : Res :=
  .next (if s.pins.resetN then s
    else
      let s := { s with pins := { s.pins with resetN := true } }
      if s.mode = .shelf then s.shelfCheck r else (s.latchStraps r).boot r)

/-- A cause of SAFE that a pin brings; while RESET_N is low the pin is judged again at its release. -/
def State.pinCause (s : State) (cause : Nat) : State := if s.pins.resetN then s.enterSafe cause else s

/-- SAFE_N_ASSERT: SAFE_N low after its filter (R572). -/
def execSafeNAssert (s : State) : Res := .next ({ s with pins := { s.pins with safeN := false } }.pinCause 2)

/-- SAFE_N_RELEASE (R572). -/
def execSafeNRelease (s : State) : Res := .next { s with pins := { s.pins with safeN := true } }

/-- PGOOD_LOW: input `k` low for 10 µs (R572). -/
def execPgoodLow (k : Fin 2) (s : State) : Res :=
  .next ({ s with pins := { s.pins with pgood0 := s.pins.pgood0 && k.val != 0, pgood1 := s.pins.pgood1 && k.val != 1 } }.pinCause 1)

/-- PGOOD_HIGH: both inputs are high (R572), and with PGOOD1 VDD_BIAS is in range (R522, R630); in a wake it ends the wait of R575 and may start
BOOT. -/
def execPgoodHigh (r : BootRun) (s : State) : Res :=
  .next ({ s with pins := { s.pins with pgood0 := true, pgood1 := true, vddBias := true } }.shelfCheck r)

/-! ### Keeper faults (R560, R572, R588) -/

/-- WATCHDOG_EXPIRE: the keeper restarts and freezes from the surviving ring: by the SAFE entry's event, or in SAFE already by the same
trigger (R572, R588). -/
def execWatchdogExpire (bad : List Nat) (s : State) : Res :=
  .next (if s.mode = .shelf || !s.pins.resetN then s
    else
      let safe := s.mode = .safe ∨ s.kpr.haltedAt.isSome
      let s := (s.bump Reg.KPR_WDOG_CNT).enterSafe 3
      if safe then s.freeze 0x0004 bad else s)

/-- INTEGRITY_CHECK: the running image is read back every 60 s (R560), after the flash cells of `upsets` have come to hold other bytes; a
digest other than that taken at boot enters SAFE. -/
def execIntegrityCheck (upsets : List (Nat × Byte)) (s : State) : Res :=
  let s := s.programmed upsets
  .next (if s.mode != .shelf && s.mode != .boot && s.imageDigest s.kpr.imageB s.kpr.imageLen != s.kpr.digest then
      ((s.bump Reg.KPR_INTEGRITY_CNT).raise 0x0005 []).enterSafe 5
    else s)

/-! ### Causes of one core cycle (R568) -/

/-- Brown-outs of this rail are ignored once the early-warning comparator has tripped (R634). -/
def railIgnored : Rail → Bool
  | .vddCore | .vddSram | .vdd18 => false
  | _ => true

/-- A cause that arises in SAFE or leads to it (R568, R572): what a command with outcome `r` brings. -/
def State.bringsSafe (s : State) (r : Res) : Bool :=
  match r with
  | .next t => t.mode == .safe
      && (s.mode != .safe || t.safeHolds || t.fld Reg.KPR_SAFE_CAUSE 5 0 != s.fld Reg.KPR_SAFE_CAUSE 5 0)
  | _ => false

/-- The row of R568 that a command waiting in the queue falls under: 3 supply loss and shelve, 2 RESET_N and reboot, 1 SAFE, 0 everything
else. -/
def State.causeRank (s : State) (c : Instr) : Nat :=
  let safe (r : Res) : Nat := if s.bringsSafe r then 1 else 0
  match c with
  | .vaonBrownout _ => 3
  | .supplyLoss k _ => if s.pins.pwrReq && !(s.rcd.earlyWarned && railIgnored k) then 3 else 0
  | .earlyWarning _ _ => if s.pins.pwrReq && !s.rcd.earlyWarned then 3 else 0
  | .shelve _ => if s.writable && !s.kpr.shelving then 3 else 0
  | .resetAssert _ => 2
  | .reboot _ => if s.writable || s.kpr.haltedAt.isSome then 2 else 0
  | .registerWrite a w _ =>
    if !s.writable || a.toNat ≠ Reg.KPR_MODE_CMD then 0
    else match fldOf w 2 0 with
      | 4 => if s.kpr.shelving then 0 else 3
      | 5 => 2
      | _ => 0
  | .safeNAssert => safe (execSafeNAssert s)
  | .pgoodLow k => safe (execPgoodLow k s)
  | .watchdogExpire bad => safe (execWatchdogExpire bad s)
  | .integrityCheck upsets => safe (execIntegrityCheck upsets s)
  | .thermalScan r => safe (execThermalScan r s)
  | .hkaConversionEnd code => safe (execHkaConversionEnd code s)
  | .guardTripForward p env => safe (execGuardTripForward p env s)
  | .guardTripReflected q env => safe (execGuardTripReflected q env s)
  | .guardTripOffPeriod p env => safe (execGuardTripOffPeriod p env s)
  | _ => 0

/-- A cause of an earlier row of R568 than `k` falls in this core cycle: its command waits in the queue (DEDUCED: the commands that wait
together are of one tick, since time passes only on an empty queue). What an M-plane or service-port frame that waits would write is not looked
into. -/
def State.overtaken (s : State) (k : Nat) : Bool := s.pending.any fun c => decide (k < s.causeRank c)

/-! ### Mode commands (R567 to R575) -/

/-- A command that the mode does not allow is refused and counted (R567). -/
def State.refuseMode (s : State) : State := s.bump Reg.KPR_MODE_REFUSE_CNT

/-- KPR_LIVE_AIR shows the symbol at the go-live anchor (R571). -/
def State.showLiveAir (s : State) : State :=
  match s.anchorSym with
  | some a => s.wr Reg.KPR_LIVE_AIR (BitVec.ofNat 32 (0x80000000 + a.sfn * 512 + a.slot * 16 + a.sym))
  | none => s

/-- go_live (R326, R568, R569, R571). -/
def State.goLive (s : State) : State :=
  if s.mode = .ready && !s.kpr.goLive && !s.kpr.shelving && s.quality = 1 && s.safeActive = 0 && s.seq.job.isNone
      && !s.overtaken 0 then
    let s := (s.setFld Reg.SEQ_LEAN 9 8 0).setFld Reg.SEQ_LEAN 3 0 0xF
    let s := (s.requestSet .goLive 0xFFFF 0xF).showLiveAir
    { s with kpr := { s.kpr with goLive := true } }
  else s.refuseMode

/-- stand_down (R338, R568, R569). -/
def State.standDown (s : State) : State :=
  if s.mode.live && !s.overtaken 0 then
    let s := match s.seq.job with
      | some j => if j.quadOut then s.abortJob 2 else s
      | none => s
    let s := s.requestSet .standDown 0 s.seq.carMask
    { s with kpr := { s.kpr with standDown := true } }
  else s.refuseMode

/-- SAFE is left for READY and its cause bits clear (R573). -/
def State.leaveSafe (s : State) : State := (s.setFld Reg.KPR_SAFE_CAUSE 5 0 0).setMode .ready

/-- recover (R568, R573, R574). -/
def State.recover (s : State) : State := if s.mode = .safe && !s.safeHolds && !s.overtaken 0 then s.leaveSafe else s.refuseMode

/-- SHELF entry begins (R320, R575): every quad falls, and a set change or a go-live that waits is given up (R568). PD_MEM is asked to power down with
the other domains: every outstanding DRAM request completes, and the spools stop their reads (R503, R516). -/
def State.beginShelf (s : State) : State :=
  let s := s.drainDram.stopSpools
  let s := (s.forQuads fun s q => s.dropQuad q).dropSetChange
  { s.setBit Reg.KPR_LIVE_AIR 31 false with kpr := { s.kpr with shelving := true, goLive := false, standDown := false } }

/-- shelve (R575, R588, R592, R596). -/
def State.shelve (s : State) (bad : List Nat) : State :=
  if s.kpr.shelving then s.refuseMode else ((s.bump (Reg.KPR_LT 12)).beginShelf).freezeShelve bad

/-- reboot (R548, R567, R568): the straps stay as latched, and the unlock failures as counted. -/
def State.reboot (s : State) (r : BootRun) : State :=
  if s.overtaken 2 then s.refuseMode else (s.toBoot s.kpr.unlockFails).boot r

/-- A write of KPR_MODE_CMD (R567). -/
def State.writeModeCmd (s : State) (w : Word) (e : WriteEnv) : State :=
  match fldOf w 2 0 with
  | 1 => s.goLive
  | 2 => s.standDown
  | 3 => s.recover
  | 4 => s.shelve e.bad
  | 5 => s.reboot e.boot
  | _ => s.refuseMode

/-- GO_LIVE (R569). -/
def execGoLive (s : State) : Res := .next (if s.writable then s.goLive else s)

/-- STAND_DOWN (R569). -/
def execStandDown (s : State) : Res := .next (if s.writable then s.standDown else s)

/-- RECOVER (R573). -/
def execRecover (s : State) : Res := .next (if s.writable then s.recover else s)

/-- AUTO_RECOVER: safe_auto is set, TEMP is the only cause since SAFE entry and has been inactive for cool_s (R568, R573, R574). -/
def execAutoRecover (s : State) : Res :=
  .next (match s.kpr.tempClearAt with
    | some t =>
      if s.mode = .safe && s.bit Reg.KPR_SAFE_CFG 31 && s.fld Reg.KPR_SAFE_CAUSE 5 0 = 1 && !s.safeHolds && !s.overtaken 0
          && decide (s.fld Reg.KPR_SAFE_CFG 15 0 * ticksPerS ≤ s.now - t) then s.leaveSafe
      else s
    | none => s)

/-- SHELVE (R575). -/
def execShelve (bad : List Nat) (s : State) : Res := .next (if s.writable then s.shelve bad else s)

/-- REBOOT: also the way out of a halted BOOT (R557, R567). -/
def execReboot (r : BootRun) (s : State) : Res := .next (if s.writable || s.kpr.haltedAt.isSome then s.reboot r else s)

/-! ### Power (R575, R590 to R592, R630 to R634) -/

/-- PWR_REQ rises. -/
def State.raisePwr (s : State) (r : BootRun) : State :=
  { s with pins := { s.pins with pwrReq := true }, kpr := { s.kpr with wakeHeld := false, pwrRose := s.now } }.shelfCheck r

/-- WAKE_RISE: WAKE high for 1 ms (R575): while shelving it is held. -/
def execWakeRise (r : BootRun) (s : State) : Res :=
  let s := { s with pins := { s.pins with wake := true } }
  .next (if s.kpr.shelving then { s.setBit Reg.KPR_AON 1 true with kpr := { s.kpr with wakeHeld := true } }
    else if s.mode = .shelf && s.pins.vaon && !s.pins.pwrReq then s.raisePwr r
    else s)

/-- HELD_WAKE_RAISE: PWR_REQ has been low for 10 ms (R575). -/
def execHeldWakeRaise (r : BootRun) (s : State) : Res :=
  .next (if s.mode = .shelf && s.pins.vaon && s.kpr.wakeHeld && !s.pins.pwrReq && msPassed (s.now - s.kpr.pwrFell) 10 then s.raisePwr r
    else s)

/-- WAKE_FAIL: the power-good inputs are not both high 100 ms after PWR_REQ rose (R575). -/
def execWakeFail (s : State) : Res :=
  .next (if s.mode = .shelf && s.pins.pwrReq && !(s.pins.pgood0 && s.pins.pgood1) && msPassed (s.now - s.kpr.pwrRose) 100 then
      { s.setBit Reg.KPR_AON 0 true with
        pins := { s.pins with pwrReq := false }, kpr := { s.kpr with pwrFell := s.now } }
    else s)

/-- SUPPLY_LOSS: a rail below its brown-out level while PWR_REQ is high (R632); a copy that runs stops after `rows` entry rows. Without VDD_BIAS the
bias outputs are high-impedance, whatever else follows (R522, R634). -/
def execSupplyLoss (rail : Rail) (rows : Nat) (s : State) : Res :=
  let s := if rail = .vddBias then { s with pins := { s.pins with vddBias := false } } else s
  .next (if s.mode = .shelf || !s.pins.pwrReq || (s.rcd.earlyWarned && railIgnored rail) then s else (s.tearCopy rows).toShelf)

/-- VAON_BROWNOUT: PD_AON is reset, KPR_AON included (R632). -/
def execVaonBrownout (rows : Nat) (s : State) : Res :=
  let s := (s.tearCopy rows).toShelf
  .next { s with regs := [], pins := { s.pins with vaon := false }, kpr := {} }

/-- VAON_POWER_ON: the part starts in SHELF (R567, R632). -/
def execVaonPowerOn (s : State) : Res :=
  let s := s.toShelf
  .next { s with regs := [], pins := { s.pins with vaon := true }, kpr := {} }

/-- EARLY_WARNING: the VDD_18 comparator (R591, R592, R633): quads fall, ports go OFF, the lifetime counters and a snapshot are saved, and
PWR_REQ falls when the snapshot is complete. A copy that runs has written `rows` entry rows. -/
def execEarlyWarning (rows : Nat) (bad : List Nat) (s : State) : Res :=
  .next (if s.mode = .shelf || !s.pins.pwrReq || s.rcd.earlyWarned then s
    else
      let s := (s.bump (Reg.KPR_LT 13)).beginShelf
      ((s.portOff 0).portOff 1).freezeEarly rows bad)

/-- SNAPSHOT_COMPLETE: the entry rows and the header row are written (R590); the freeze that waits is taken (R591), and after the shelve or
early-warning snapshot PWR_REQ falls (R592). -/
def execSnapshotComplete (bad : List Nat) (s : State) : Res :=
  .next (if s.rcd.copy.isSome then
      let s := s.endCopy bad
      if s.rcd.lowerAfter then s.toShelf else s.takeWaiting bad
    else s)

/-! ### BOOT goes on (R557, R564) -/

/-- LINK_WAIT_EXPIRE: the link wait of step 10 runs out (R564). -/
def execLinkWaitExpire (s : State) : Res :=
  .next (match s.kpr.portsAt with
    | some t =>
      if s.mode = .boot && msPassed (s.now - t) (100 * s.fld Reg.KPR_BOOT_CFG 7 0) then
        { s with kpr := { s.kpr with linkWaitOver := true } }.bootAdvance
      else s
    | none => s)

/-- XSPI_RELEASE: 100 ms after a halt (R557). -/
def execXspiRelease (s : State) : Res :=
  .next (match s.kpr.haltedAt with
    | some t => if msPassed (s.now - t) 100 then { s with pins := { s.pins with xspiHiZ := true } } else s
    | none => s)

end Sys2Proof.Machine
end

