-- ==== Sys2Proof/Machine/CalMath.lean ====
section
/-! DEFINITION. What the calibration engine computes from its measurements: the trims of an array calibration (R341), the coherence figure
(R133), and the reciprocity solution (R343). The nine tones lie 47.5 MHz apart about the LO; phases are in cycles and delays in
microseconds. -/

namespace Sys2Proof.Machine

/-! ### Phases over the tones -/

/-- A phase difference brought to within half a cycle. -/
def wrapHalf (x : Rat) : Rat := x - (roundRat x : Rat)

/-- Phases without steps of more than half a cycle. -/
def unwrapped : List Rat → List Rat
  | [] => []
  | x :: t => (t.foldl (fun (acc : List Rat × Rat) y => let z := acc.2 + wrapHalf (y - acc.2); (acc.1 ++ [z], z)) ([x], x)).1

/-- The least-squares slope of nine phases over frequency: a delay in microseconds. -/
def toneSlope (e : List Rat) : Rat :=
  (e.zipIdx.map fun (v, k) => (((k : Int) - 4 : Int) : Rat) * v).sum / 2850

/-- The frequency of tone `k` in MHz from the LO. -/
def toneFreq (k : Nat) : Rat := 95 / 2 * (((k : Int) - 4 : Int) : Rat)

/-- The circular mean of phases. -/
def circMean (e : List Rat) : Rat := argCycles (rSum (e.map cis))

/-- The phases left after a delay is taken out. -/
def withoutDelay (tau : Rat) (e : List Rat) : List Rat := e.zipIdx.map fun (v, k) => v - toneFreq k * tau

/-! ### Array calibration (R341) -/

/-- The response of one side of one path: its delay, its phase, and the ninth power of its squared magnitude. -/
structure PathResp where
  tau : Rat
  ph : Rat
  mag : Rat

/-- The measured response with the mismatch of its ICN branch taken out. -/
def toneResp (raw icn : Tones) : List CRat := List.zipWith (fun a b => rDiv (ofInt a) (ofInt b)) raw.toList icn.toList

/-- The figures of a response `m` relative to that of the reference path `ref`; none where one of them is zero at a tone. -/
def pathResp (m ref : List CRat) : Option PathResp :=
  if m.any (fun v => v == (0, 0)) || ref.any (fun v => v == (0, 0)) then none
  else
    let q := List.zipWith rDiv m ref
    let e := unwrapped (q.map argCycles)
    let tau := toneSlope e
    some { tau := tau, ph := circMean (withoutDelay tau e), mag := (q.map rAbs2).foldl (· * ·) 1 }

/-- A delay in microseconds as a trim in 1/4096 of a 983.04 MS/s sample (R160). -/
def delayTrim (t : Rat) : Int := satInt (-32768) 32767 (roundRat (t * 98304 * 4096 / 100))

/-- A gain held in the field of R160: 0x2000 to 0x7FFF. -/
def gainField (g : Nat) : Nat := max 0x2000 (min 0x7FFF g)

/-- The gain trim of a response in Q2.14, 10^(−gdb/20): the 18th root of its magnitude's inverse. -/
def gainTrim (mag : Rat) : Nat := (rootFloor 18 ((1 / mag) * ((32768 ^ 18 : Nat) : Rat)).floor.toNat + 1) / 2

/-- A trim word from a gain in Q2.14 and a phase in cycles. -/
def trimWord (g : Nat) (ph : Rat) : Word := BitVec.ofNat 32 (gainField g * 0x10000 + toBits 16 (roundRat (ph * 65536)))

/-! ### Figures of one path (R71, R88, R89) -/

/-- The entry of the step table for an index with response `m` beside the response `m0` of index 0: the gain in Q6.10 that restores the scale of
index 0 and the phase that takes the step's out (R71); none where a response is zero. DESIGN CHOICE: a gain beyond the field stands at its end. -/
def stepWord (m0 m : Int × Int) : Option Word :=
  let q := rDiv (ofInt m0) (ofInt m)
  if m0 = (0, 0) ∨ m = (0, 0) then none
  else some (BitVec.ofNat 32 (min 65535 (sqrtNear (1048576 * rAbs2 q)) * 0x10000 + toBits 16 (roundRat (argCycles q * 65536))))

/-- A ratio of powers in 0.1 dB in a field of ten bits (R88, R89). DESIGN CHOICE: a ratio beyond the field, that to a power of zero among them, shows the
field's end. -/
def ratioCode (x : Nat × Nat) : Nat := if x.2 = 0 then 1023 else (satInt 0 1023 (logSteps 10 (mkRat x.1 x.2))).toNat

/-- The residual image rejection: the smallest ratio of a test tone to its image (R88). -/
def imgRej (v : Vector (Nat × Nat) 8) : Nat := (v.toList.map ratioCode).foldl min 1023

/-! ### The coherence figure (R133, R134) -/

/-- The residual phases of a side's live paths less their circular mean at each tone, in cycles, by path. -/
def residuals (r : List (Nat × List Rat)) : List (Nat × List Rat) :=
  let c := (List.range 9).map fun k => circMean (r.map fun x => x.2.getD k 0)
  r.map fun (p, v) => (p, List.zipWith (fun a b => wrapHalf (a - b)) v c)

/-- phase_rms in 0.01° over the residuals of both sides; none where there is no residual. -/
def phaseRms (e : List Rat) : Option Nat :=
  if e = [] then none else some (sqrtNear (36000 * 36000 * (e.map fun v => v * v).sum / (e.length : Rat)))

/-- The spread of the delays of a side in microseconds. -/
def delaySpread (e : List (List Rat)) : Rat :=
  match e.map toneSlope with
  | [] => 0
  | t :: ts => ts.foldl max t - ts.foldl min t

/-! ### Reciprocity (R343) -/

/-- Coupling of a pair over the nine tones. -/
def pairPower (y : Tones) : Nat := (y.toList.map fun v => (v.1 * v.1 + v.2 * v.2).toNat).sum

/-- Paths `i` and `j` lie in different quads, and the coupling between them is no more than 40 dB below the strongest of path `i`; both
directions are measured at every tone. Each pair comes with q at the tones. -/
def usablePairs (ms : List PairMeas) : List (Nat × Nat × List CRat) :=
  ms.filterMap fun m =>
    let mine := (ms.filter fun x => x.i == m.i && x.i.val / 4 != x.j.val / 4).map fun x => pairPower x.y
    match ms.find? fun x => x.i == m.j && x.j == m.i with
    | none => none
    | some back =>
      let zero := fun (y : Tones) => y.toList.any fun v => v == (0, 0)
      if m.i.val / 4 = m.j.val / 4 ∨ 10000 * pairPower m.y < mine.foldl max 0 ∨ zero m.y ∨ zero back.y then none
      else some (m.i, m.j, List.zipWith (fun a b => rDiv (ofInt a) (ofInt b)) m.y.toList back.y.toList)

/-- The paths that pairs join to path `r`. -/
def joined (pairs : List (Nat × Nat × List CRat)) (r : Nat) : List Nat :=
  (List.range 256).foldl (fun (set : List Nat) _ =>
    set ++ (((List.range 256).filter fun i => !set.contains i && pairs.any fun x => (x.1 == i && set.contains x.2.1) || (x.2.1 == i && set.contains x.1)))) [r]

/-- log b of the paths `ns` at tone `k`, as logarithm of the magnitude and phase in cycles: the least-squares solution with log b = 0 at the
reference `r`. -/
def solveTone (pairs : List (Nat × Nat × List CRat)) (ns : List Nat) (r k : Nat) : List CRat :=
  let free := ns.filter fun i => i != r
  let n := free.length
  let eqs := pairs.map fun (i, j, q) => let v := q.getD k (1, 0); (i, j, ((lnRat (rAbs2 v) / 2, argCycles v) : CRat))
  let sign := fun (e : Nat × Nat × CRat) (i : Nat) => (if e.1 = i then (1 : Int) else 0) - (if e.2.1 = i then 1 else 0)
  let a := rMat n n fun x y =>
    (((eqs.map fun e => sign e (free.getD x 0) * sign e (free.getD y 0)).sum : Int), 0)
  let b := free.map fun i => rSum (eqs.map fun e => rScale ((sign e i : Int) : Rat) e.2.2)
  let (l, d) := ldl a n
  let x := ldlSolve l d b n
  ns.map fun i => if i = r then (0, 0) else x.getD (free.idxOf i) (0, 0)

/-- What a reciprocity calibration says of a path: nothing to go by, no pair that joins it to the reference, or the delay, the phase and the
logarithm of the gain of b_i / b_ref. -/
inductive RecipResult where
  | noPair
  | apart
  | solved (tau ph ln : Rat)

/-- The results of a reciprocity calibration for the paths `mine`. -/
def recipSolve (ms : List PairMeas) (mine : List Nat) : List (Nat × RecipResult) :=
  let pairs := usablePairs ms
  let has := fun i => pairs.any fun x => x.1 == i || x.2.1 == i
  match ((List.range 256).filter has).head? with
  | none => mine.map fun i => (i, .noPair)
  | some r =>
    let ns := joined pairs r
    let pairs := pairs.filter fun x => ns.contains x.1
    let xs := (List.range 9).map fun k => solveTone pairs ns r k
    mine.map fun i =>
      if !has i then (i, .noPair)
      else if !ns.contains i then (i, .apart)
      else
        let b := xs.map fun x => x.getD (ns.idxOf i) (0, 0)
        let e := unwrapped (b.map (·.2))
        let tau := toneSlope e
        (i, .solved tau (circMean (withoutDelay tau e)) ((b.map (·.1)).sum / 9))

end Sys2Proof.Machine
end

