-- ==== Sys2Proof/Machine/Sequencer.lean ====
section
/-! DEFINITION. Chapter 09: power of the quads (R319 to R323), set changes (R325 to R327), calibration jobs, windows, steps
and bursts (R334 to R345). Blanking is in QuadOps, the power clamp and the duty limits are with the symbols. -/

namespace Sys2Proof.Machine

/-! ### COUPLER transmissions (R345, R527) -/

/-- The gate channel of the job's path and the driver channels of its quad take code_on at the start of a COUPLER job: their
BOOT, READY and gated clears lift (R527). -/
def State.couplerBias (s : State) (p : Fin 64) : State :=
  s.forBias fun s c =>
    let mine := (isGate c && s.gatePath c = p) || (isDriver c && (s.servedQuads c).contains (quadOf p))
    if mine then
      let t := s.biasCode c (s.fld (Reg.BIA_STAGE c) 15 0)
      s.setBias c fun b => { b with target := t, src := b.src &&& ~~~ BitVec.ofNat 7 12 }
    else s

/-- The transmission of a COUPLER job begins once the path's quad stands by: the PA is enabled and the path's gate opens
(R304, R345). -/
def State.couplerStart (s : State) : State :=
  match s.seq.job with
  | some j =>
    let p : Fin 64 := ⟨s.fld Reg.SEQ_PA_REF 5 0 % 64, Nat.mod_lt _ (by decide)⟩
    if j.kind = 5 && (s.seq.quads[quadOf p]).st == .standby && s.seq.couplerTx.isNone && !s.txRetired p then
      let s := { s with seq := { s.seq with couplerTx := some p } }
      let s := s.setQuad (quadOf p) fun x => { x with paen := true }
      let s := (s.setDpd p fun d => { d with recorded := false }).judgeAfresh p
      s.setPath p fun x => { x with txGate := true, dacOn := true }
    else s
  | none => s

/-! ### Power of the quads (R319 to R323) -/

/-- QUAD_RISING_COMPLETE: the quad's correction values are restored, attenuations written meanwhile apply, and it enters STANDBY for a job and
RECEIVE otherwise, on to STANDBY where a quad-out job has started; a power-down that waited then runs (R58, R59, R320, R322). -/
def execQuadRisingComplete (q : Fin 16) (s : State) : Res :=
  let x := s.seq.quads[q]
  .next (if x.st = .rising then
      let s := (pathsOf q).foldl (fun s p => s.applyAtten p) s
      let s := if x.forJob then s.enterStandby q else if x.quadOut then (s.enterReceive q).enterStandby q else s.enterReceive q
      if x.deferred = some false then s.enterFalling q else s.couplerStart
    else s)

/-- QUAD_FALLING_COMPLETE: the quad is GATED; a power-up that waited then runs in full (R58, R320, R322). -/
def execQuadFallingComplete (q : Fin 16) (s : State) : Res :=
  let x := s.seq.quads[q]
  .next (if x.st = .falling then
      let s := s.setQuad q fun x => { x with st := .gated, paen := false, trsw := false, lnap := true, deferred := none }
      let s := s.quadBiasHold q
      if x.deferred = some true then s.setQuad q fun x => { x with st := .rising } else s
    else s)

/-! ### Set changes (R325 to R327, R567, R569) -/

/-- SET_CHANGE_REQUEST: a write of SEQ_LEAN (R326). An accepted order's lean field asks for the same through
PARCEL_RECEIVE. -/
def execSetChangeRequest (w : Word) (s : State) : Res := .next (if s.writable then s.writeLean w else s)

/-- The waiting change has come within `us` µs of its anchor, or has none. -/
def SetChange.near (c : SetChange) (now us : Nat) : Bool :=
  match c.anchor with
  | some a => a ≤ now || !nsPassed (a - now) (us * 1000 + 1)
  | none => true

/-- SET_CHANGE_START at A − 16 µs: leaving quads enter FALLING and joining quads enter RISING (R320, R326, R569). -/
def execSetChangeStart (s : State) : Res :=
  .next (match s.seq.waiting with
    | none => s
    | some c =>
      if c.near s.now 16 && s.seq.underway.isNone then
        let s := { s with seq := { s.seq with waiting := none, underway := some c } }
        s.forQuads fun s q => if bitOf c.quads q then s.powerUpQuad q false else s.powerDownQuad q
      else s)

/-- The mode that a set change in force gives (R567). -/
def State.modeOfSet (s : State) (c : SetChange) : Mode :=
  let full := c.quads = 0xFFFF && (List.range 4).all fun k => !s.carEnabled k || bitOf c.carMask k
  match c.kind with
  | .standDown => .ready
  | _ => if full then .service else .lean

/-- SET_CHANGE_ANCHOR at A: the quad set, the carrier mask and the mode take effect (R326, R327, R567, R569). -/
def execSetChangeAnchor (s : State) : Res :=
  .next (match s.seq.underway with
    | none => s
    | some c =>
      if c.near s.now 0 then
        let s := { s with seq := { s.seq with underway := none } }
        let s := s.setBit Reg.SEQ_LEAN 31 s.seq.waiting.isSome
        if c.kind = .standDown then
          { s with kpr := { s.kpr with standDown := false } }.setMode .ready
        else
          let s := { s with seq := { s.seq with active := c.quads, carMask := c.carMask } }.showCarriers
          let s := if c.kind = .goLive then { s with kpr := { s.kpr with goLive := false } } else s
          if s.mode.live || c.kind = .goLive then s.setMode (s.modeOfSet c) else s
      else s)

/-! ### Calibration jobs (R336 to R339) -/

/-- Kinds of job (R339): a code that the table does not hold is no kind. -/
def calKind (k : Nat) : Bool := 1 ≤ k && k ≤ 5

/-- A request is refused (R337): a job runs, the mode is SAFE, OBSREF or COUPLER outside READY, no quad named for PATH or COUPLER, the kinds
that need one (R339), or no kind at all. -/
def State.calRefused (s : State) (kind quads : Nat) : Bool :=
  s.seq.job.isSome || s.mode == .safe || !calKind kind || ((kind = 4 || kind = 5) && s.mode != .ready)
    || ((kind = 1 || kind = 5) && quads = 0)

/-- Quad `q` is needed powered by a job: the named quads of a PATH or COUPLER or quad-out job; every quad with a live side for ARRAY and RECIP,
which cover all live paths (R339). -/
def State.calNeeds (s : State) (kind quads : Nat) (quadOut : Bool) (q : Fin 16) : Bool :=
  ((kind = 1 || kind = 5 || quadOut) && bitOf quads q)
    || ((kind = 2 || kind = 3) && (pathsOf q).any fun p => !s.txRetired p || !s.rxRetired p)

/-- The receiver for source `src` of a calibration: the one that a visit routes it to, or the first with a logical number; none while
management holds the source, and never one that management holds (R91, R92). -/
def State.calReceiver (s : State) (src : Nat) : Option Nat :=
  let owner := fun k => s.fld (Reg.RXP_OBS_ROUTE k) 1 0
  match (List.range 9).find? fun k => s.fld (Reg.RXP_OBS_ROUTE k) 22 16 = src && owner k != 0 with
  | some k => if owner k = 3 then none else some k
  | none => ((List.finRange 8).map fun (l : Fin 8) => s.physOf l).find? fun k => k < 9 && owner k != 3

/-- Receiver `k` is taken for source `src`. -/
def State.calRoute (s : State) (k src : Nat) : State := (s.calTakes k).setFld (Reg.RXP_OBS_ROUTE k) 22 16 src

/-- The calibration engine takes the observation receivers of a job: every receiver, with CAL_RF at the first, for OBSREF, FBn of the path for
COUPLER, the coupler network for ARRAY (R91, R92, R341, R345). R92 lets it pre-empt the pre-distorter alone: the model leaves a management
capture where it runs, and the calibration takes what management frees (MANAGEMENT_CAPTURE_END). -/
def State.calRoutes (s : State) (kind : Nat) : State :=
  match kind with
  | 4 =>
    let mine := (List.range 9).filter fun k => s.fld (Reg.RXP_OBS_ROUTE k) 1 0 != 3
    let s := mine.foldl (fun s k => s.calRoute k 0x7F) s
    if s.sourceTaken 9 64 then s else match mine with | k :: _ => s.setFld (Reg.RXP_OBS_ROUTE k) 22 16 64 | [] => s
  | 5 => match s.calReceiver (s.fld Reg.SEQ_PA_REF 5 0) with | some k => s.calRoute k (s.fld Reg.SEQ_PA_REF 5 0) | none => s
  | 2 => match s.calReceiver 65 with | some k => s.calRoute k 65 | none => s
  | _ => s

/-- CAL_RF goes to the next receiver of an OBSREF job in turn (R345). -/
def State.obsTurn (s : State) : State :=
  match (List.range 9).find? fun k => s.fld (Reg.RXP_OBS_ROUTE k) 1 0 = 2 && s.fld (Reg.RXP_OBS_ROUTE k) 22 16 = 64 with
  | some k =>
    match (List.range 9).find? fun i => k < i && s.fld (Reg.RXP_OBS_ROUTE i) 1 0 = 2 with
    | some i => (s.setFld (Reg.RXP_OBS_ROUTE k) 22 16 0x7F).setFld (Reg.RXP_OBS_ROUTE i) 22 16 64
    | none => s
  | none => s

/-- MANAGEMENT_CAPTURE_END: a management capture ends, and its receiver and source are free again, for a calibration that waits for them first
(R91, R92). -/
def execManagementCaptureEnd (k : Fin 9) (s : State) : Res :=
  .next (if s.fld (Reg.RXP_OBS_ROUTE k) 1 0 = 3 then
      let s := s.obsRelease k
      match s.seq.job with
      | some j => if (List.range 9).any fun i => s.fld (Reg.RXP_OBS_ROUTE i) 1 0 = 2 then s else s.calRoutes j.kind
      | none => s
    else s)

/-- Quad `q` is taken by a job: to STANDBY and blanked for a quad-out job, powered up where it is needed (R320, R330, R336). -/
def State.calQuad (s : State) (j : CalJob) (q : Fin 16) : State :=
  if s.calNeeds j.kind j.quads j.quadOut q then
    let st := (s.seq.quads[q]).st
    let out := j.quadOut && bitOf j.quads q
    let s := if out then (s.setQuad q fun x => { x with quadOut := true }) else s
    match st with
    | .gated | .falling | .rising => s.powerUpQuad q true
    | .receive => if out then s.enterStandby q else s
    | _ => s
  else s

/-- A job starts (R336, R339): its quads, of which those of a quad-out job are blanked from now on (R331), its receivers, and for COUPLER its bias
codes; the sides that a PATH job covers have their verdict open (R103). Within an OPEN window its first step begins at once (R334). -/
def State.startJob (s : State) (j : CalJob) : State :=
  let window := match s.windowNow with | some w => if w.use = 3 then some w else s.seq.window | none => s.seq.window
  let s := { s with seq := { s.seq with job := some j, nextBurst := 0, window := window } }
  let s := (s.setBit Reg.SEQ_CAL_STAT 31 true).setFld Reg.SEQ_CAL_STAT 26 24 j.kind
  let s := s.forPaths fun s p => s.setPath p fun x => { x with txCalVoid := false, rxCalVoid := false }
  let s := (s.forQuads fun s q => s.calQuad j q).calRoutes j.kind
  let s := if j.quadOut then s.blankOnset else s
  if j.kind = 5 then
    let p : Fin 64 := ⟨s.fld Reg.SEQ_PA_REF 5 0 % 64, Nat.mod_lt _ (by decide)⟩
    { s with seq := { s.seq with coupler := none } }.couplerBias p |>.couplerStart
  else s

/-- A write of SEQ_CAL_REQ: abort stops the running job, go starts one or is refused and counted (R336 to R338). -/
def State.writeCalReq (s : State) (w : Word) : State :=
  let s := s.setBit Reg.SEQ_CAL_REQ 8 (bitOf w.toNat 8)
  let s := s.setFld Reg.SEQ_CAL_REQ 2 0 (fldOf w 2 0)
  let aborts := bitOf w.toNat 30 && (match s.seq.job with | some j => !j.startup | none => false)
  let s := if aborts then s.abortJob 2 else s
  if bitOf w.toNat 31 then
    let j : CalJob := { kind := fldOf w 2 0, quads := s.fld Reg.SEQ_CAL_SEL 15 0, quadOut := bitOf w.toNat 8 }
    if s.calRefused j.kind j.quads then s.bump Reg.SEQ_CAL_REFUSE_CNT else s.startJob j
  else s

/-- CAL_JOB_REQUEST (R336, R337). -/
def execCalJobRequest (w : Word) (s : State) : Res := .next (if s.writable then s.writeCalReq w else s)

/-- CAL_JOB_ABORT: a write of abort to SEQ_CAL_REQ (R338). -/
def execCalJobAbort (s : State) : Res :=
  .next (match s.seq.job with
    | some j => if s.writable && !j.startup then s.abortJob 2 else s
    | none => s)

/-! ### Windows and steps (R87, R94, R334, R339) -/

/-- In SERVICE and LEAN a calibration window is open from here on: its first step begins, unless the window was open already (R334). -/
def State.openWindow (s : State) : State :=
  match s.windowNow, s.seq.window with
  | some w, some o =>
    if o.use = w.use && decide (s.now ≤ o.endsAt) then s else { s with seq := { s.seq with window := some w } }
  | some w, none => { s with seq := { s.seq with window := some w } }
  | none, _ => s

/-- The item of the background cycle goes on: the array calibration takes the coupler network's receiver, where it does not hold it (R92, R339,
R341). -/
def State.goOn (s : State) : State :=
  let s := { s with seq := { s.seq with bgBegun := true } }
  if s.bgArray && !((List.range 9).any fun k => s.fld (Reg.RXP_OBS_ROUTE k) 1 0 = 2) then s.calRoutes 2 else s

/-- CAL_WINDOW_START: a calibration window begins here, or another active CAL symbol of it. In an active CAL symbol the observation receivers
are checked, which pre-empts the captures that run, and in SERVICE and LEAN the item of the background cycle goes on (R92, R94, R334, R339). -/
def execCalWindowStart (m : Vector (Int × Int) 9) (s : State) : Res :=
  let s := s.openWindow
  .next (if s.calUse = some 2 ∧ s.mode ≠ .shelf then
      let s := (List.range 9).foldl (fun s k =>
        match (List.finRange 8).find? fun (l : Fin 8) => s.physOf l = k with
        | some l => match s.dpd.visits[l] with
          | some v => if v.capturing && !v.drop then s.obsDrop k else s
          | none => s
        | none => s) s
      let s := s.obsCheck m
      if s.mode.live then s.goOn else s
    else s)

/-- A step that ends now lies in a window of use `u`: it has begun in the window that is open, has lasted no more than 16.0 µs, and neither a
burst nor a clock item has the window (R131, R334). -/
def State.stepFits (s : State) (u : Nat) : Bool :=
  match s.seq.window with
  | some w =>
    decide (w.use = u) && decide (s.now ≤ w.endsAt) && decide ((s.now - w.stepAt) * 3125 ≤ 16000 * 3072) && s.seq.burst.isNone
      && !(decide (u = 3) && s.clockFirst)
  | none => false

/-- Steps of the running job complete at this instant: in SERVICE and LEAN only in OPEN windows, but for a job whose quads are out of service
(R334 to R336). -/
def State.jobRuns (s : State) (j : CalJob) : Bool := !s.mode.live || j.quadOut || s.stepFits 3

/-- Steps of the background cycle complete at this instant: in SERVICE and LEAN in active CAL windows (R334, R339). -/
def State.bgRuns (s : State) : Bool := s.mode.live && s.seq.bgBegun && s.stepFits 2

/-- Results that all live paths take can take effect at this instant: in SERVICE and LEAN inside an F symbol (R87). -/
def State.atF (s : State) : Bool := !s.mode.live || s.calUse.isSome

/-- Every quad is in STANDBY, as the start-up pass needs it (R340). -/
def State.allStandby (s : State) : Bool := (List.finRange 16).all fun q => (s.seq.quads[q]).st == .standby

/-- The calibration has had its burst of every quad of this chip that is powered (R342, R343). -/
def State.burstsDone (s : State) : Bool :=
  (List.finRange 16).all fun q => (s.seq.quads[q]).st.isDown || decide (16 * s.position + q.val < s.seq.nextBurst)

/-- A side of path `p` is retired by the calibration that is running, of the background cycle where `bg` (R97, R340): a job notes the path. -/
def State.calRetire (s : State) (bg : Bool) (p : Fin 64) (tx : Bool) (cause : Nat) : State :=
  let was := if tx then s.txRetired p else s.rxRetired p
  let s := if tx then s.retireTx p cause else s.retireRx p cause
  let s := if bg then s else s.setPath p fun x => if tx then { x with txCalVoid := true } else { x with rxCalVoid := true }
  match s.seq.job with
  | some j =>
    if bg || was || j.retired.contains p.val then s
    else { s with seq := { s.seq with job := some { j with retired := p.val :: j.retired } } }
  | none => s

/-- The cells of a DAC that are bad: error beyond ±0.5 LSB (R65). -/
def badCells (e : Vector Int 67) : List Nat := (List.range 67).filter fun i => 50 < (e.toList.getD i 0).natAbs

/-- The substitution register of a DAC: each bad unary cell takes the lowest free slot whose ballast cell is good; a bad
ballast cell is marked (R66). DESIGN CHOICE: the bad unary cells take their slots in ascending cell number. -/
def cellSubs (bad : List Nat) : Nat × Nat :=
  (List.range 4).foldl (fun (w, used) k =>
    if bad.contains (63 + k) then (w + 0x7F * 128 ^ k, used)
    else match (bad.filter fun i => i < 63)[used]? with
      | some c => (w + (64 + c) * 128 ^ k, used + 1)
      | none => (w, used)) (0, 0)

/-- A DAC has more bad unary cells than usable ballast cells (R67). -/
def cellShort (bad : List Nat) : Bool :=
  (List.range 4).countP (fun k => !bad.contains (63 + k)) < (bad.filter fun i => i < 63).length

/-- The results of path `p`'s transmit or receive side are discarded, in the background cycle where `bg` (R102). -/
def State.calVoid (s : State) (bg : Bool) (p : Fin 64) (tx : Bool) : Bool :=
  if bg then bitOf (if tx then s.seq.bgVoidTx else s.seq.bgVoidRx) p else if tx then (s.paths[p]).txCalVoid else (s.paths[p]).rxCalVoid

/-- The step table of path `p` is written from the responses at the gain indices (R71). An index whose entry a zero response leaves open takes a free
value. -/
def State.putSteps (s : State) (p : Fin 64) (v : Vector (Int × Int) 32) : State :=
  (List.finRange 32).foldl (fun s (i : Fin 32) =>
    match stepWord v[(0 : Fin 32)] v[i] with
    | some w => s.wr (Reg.RXP_STEP_TAB p i) w
    | none => (s.freeNat.2).wr (Reg.RXP_STEP_TAB p i) (BitVec.ofNat 32 s.freeNat.1)) s

/-- The legacy record of path `p` is written with the current values (R351). -/
def State.putLegacy (s : State) (p : Fin 64) : State :=
  let ws : List Word := [s.rd (Reg.TXP_DC_OFS p) &&& 0x0FFF0FFF, s.rd (Reg.TXP_IQ_TAP0 p), s.rd (Reg.RXP_DC_OFS p) &&& 0x0FFF0FFF,
    s.rd (Reg.RXP_IQ_TAP0 p),
    BitVec.ofNat 32 (s.fld (Reg.TXP_BW_CODE p) 5 0 * 0x1000000 + s.fld (Reg.RXP_BW_CODE p) 5 0 * 0x10000),
    s.rd (Reg.DFE_TX_PHG p), s.rd (Reg.DFE_RX_PHG p)]
  let s := (List.zip (List.range 7) ws).foldl (fun s (i, w) => s.wr (Reg.SEQ_LEGACY p i) w) s
  s.setBit (Reg.SEQ_LEGACY p 7) 7 true

/-- A path's results of a calibration, applied together on the sides whose results are not discarded (R87, R102). -/
def State.applyPathCal (s : State) (bg : Bool) (p : Fin 64) (r : PathCal) : State :=
  let tx := fun (t : State) (f : State → State) => if s.calVoid bg p true then t else f t
  let rx := fun (t : State) (f : State → State) => if s.calVoid bg p false then t else f t
  let s := match r.cells with
    | some (ci, cq) => tx s fun s =>
      (s.wr (Reg.TXP_CELL_SUB_I p) (BitVec.ofNat 32 (cellSubs (badCells ci)).1)).wr (Reg.TXP_CELL_SUB_Q p)
        (BitVec.ofNat 32 (cellSubs (badCells cq)).1)
    | none => s
  let s := match r.bw with
    | some (t, v) => rx (tx s fun s => s.setFld (Reg.TXP_BW_CODE p) 5 0 t.toNat) fun s =>
      s.setFld (Reg.RXP_BW_CODE p) 5 0 v.toNat
    | none => s
  let ofs := fun (b : BitVec 24) => BitVec.ofNat 32 (b.toNat / 4096 * 65536 + b.toNat % 4096)
  let s := match r.ofs with
    | some (t, v) => rx (tx s fun s => s.wr (Reg.TXP_DC_OFS p) (ofs t)) fun s => s.wr (Reg.RXP_DC_OFS p) (ofs v)
    | none => s
  let put := fun (s : State) (a : Nat) (v : Vector Word 4) =>
    (List.zip (List.range 4) v.toList).foldl (fun s (i, w) => s.wr (a + 4 * i) w) s
  let s := match r.taps with
    | some (t, v) => rx (tx s fun s => put s (Reg.TXP_IQ_TAP0 p) t) fun s => put s (Reg.RXP_IQ_TAP0 p) v
    | none => s
  let s := match r.txRej with | some v => tx s fun s => s.setFld (Reg.TXP_QUAL p) 25 16 (imgRej v) | none => s
  let s := match r.loLeak with | some v => tx s fun s => s.setFld (Reg.TXP_QUAL p) 9 0 (ratioCode v) | none => s
  let s := match r.rxRej with | some v => rx s fun s => s.setFld (Reg.RXP_QUAL p) 25 16 (imgRej v) | none => s
  let s := match r.steps with
    | some v => rx s fun s => s.putSteps p v
    | none => s
  s.putLegacy p

/-- The limits of a path's calibration (R67, R88, R97): cells first, then image rejection. The corrections that the calibration gave stay
applied when a limit fails: no rule takes them back. -/
def State.judgePathCal (s : State) (bg : Bool) (p : Fin 64) (r : PathCal) : State :=
  let short := match r.cells with
    | some (ci, cq) => cellShort (badCells ci) || cellShort (badCells cq)
    | none => false
  let s := if short then s.calRetire bg p true 3 else s
  let lim := s.fld Reg.SEQ_CAL_LIM 9 0
  let low := fun (v : Option (Vector (Nat × Nat) 8)) => match v with | some v => decide (imgRej v < lim) | none => false
  let s := if low r.txRej then s.calRetire bg p true 2 else s
  if low r.rxRej then s.calRetire bg p false 2 else s

/-! ### Array and reciprocity calibration (R133, R341, R343) -/

/-- The live paths of a side that an array calibration measures: a gated quad has no signal to measure. -/
def State.livePaths (s : State) (tx : Bool) : List (Fin 64) :=
  (List.finRange 64).filter fun p => !(if tx then s.txRetired p else s.rxRetired p) && !(s.seq.quads[quadOf p]).st.isDown

/-- The responses of a side's live paths relative to the reference path, the first live one (R341). -/
def State.sideResp (s : State) (tx : Bool) (a : ArrayCal) : List (Fin 64 × Option PathResp) :=
  let raw := if tx then a.tx else a.rx
  let icn := if tx then s.fuses.icnTx else s.fuses.icnRx
  let m := fun (p : Fin 64) => toneResp raw[p] icn[p]
  match s.livePaths tx with
  | [] => []
  | r :: t => (r :: t).map fun p => (p, pathResp (m p) (m r))

/-- The leaf trim of quad `q` in 0.5 ps: the mean delay of its live paths on both sides (R119, R341). -/
def leafTrim (rs : List (Fin 64 × Option PathResp)) (q : Fin 16) : Option Int :=
  match rs.filterMap fun (p, r) => if quadOf p = q then r.map (·.tau) else none with
  | [] => none
  | l => some (satInt (-128) 127 (roundRat (2000000 * l.sum / (l.length : Rat))))

/-- One side's trims of path `p` in an array calibration, judged with its residuals `e` (R160, R341). A response that is zero at a tone has no
phase and no logarithm: its trims are free values. -/
def State.sideTrim (s : State) (bg : Bool) (tx : Bool) (e : List (Nat × List Rat)) (x : Fin 64 × Option PathResp) : State :=
  let (p, r) := x
  let leaf : Rat := (s.sfld (Reg.SYN_LEAF (quadOf p)) 7 0 : Int) / 2000000
  let (dly, g, ph) := match r with
    | some r => (delayTrim (leaf - r.tau), gainTrim r.mag, -r.ph)
    | none => ((Config.freeInt s.freeIdx : Int), Config.free (s.freeIdx + 1), mkRat (Config.freeInt (s.freeIdx + 2)) 65536)
  let s := if r.isNone then { s with freeIdx := s.freeIdx + 3 } else s
  let s := s.setFld (if tx then Reg.DFE_TX_DLY p else Reg.DFE_RX_DLY p) 15 0 (toBits 16 dly)
  let s := (s.wr (if tx then Reg.DFE_TX_PHG p else Reg.DFE_RX_PHG p) (trimWord g ph)).putLegacy p
  let lim : Rat := (s.fld Reg.SEQ_CAL_LIM 31 16 : Nat) / 36000
  let far := e.any fun (k, v) => k == p.val && v.any fun y => decide (lim < y) || decide (y < -lim)
  if g < 8192 || 32768 < g || far then s.calRetire bg p tx 2 else s

/-- The leaf trims of an array calibration, the arrivals they move, and the references (R119, R120, R135). -/
def State.setLeaves (s : State) (rs : List (Fin 64 × Option PathResp)) : State :=
  let s := (List.finRange 16).foldl (fun (s : State) (q : Fin 16) =>
    match leafTrim rs q with
    | some t =>
      let k : Fin 17 := ⟨q.val, by omega⟩
      let moved := s.clk.arrival[k] + 10 * (t - s.sfld (Reg.SYN_LEAF q) 7 0)
      { s.setFld (Reg.SYN_LEAF q) 7 0 (toBits 8 t) with clk := { s.clk with arrival := s.clk.arrival.set k moved } }
    | none => s) s
  let s := { s with clk := { s.clk with leafRef := s.clk.arrival.map some, cohLo := some (s.fld Reg.SYN_LO 17 0) } }
  (List.finRange 17).foldl (fun (s : State) (q : Fin 17) => s.setArrival q s.clk.arrival[q]) s

/-- The residual phases of a side's live paths in cycles. -/
def State.sideResiduals (s : State) (tx : Bool) (a : ArrayCal) : List (Nat × List Rat) :=
  let r := if tx then a.txRes else a.rxRes
  residuals ((s.livePaths tx).map fun (p : Fin 64) => (p.val, (r[p]).toList.map fun v => mkRat v.toInt 65536))

/-- The coherence figure of R133 in SYN_COH (R134, R135); without a live converter phase_rms is a mean of nothing, a free value. -/
def State.showCoherence (s : State) (et er : List (Nat × List Rat)) : State :=
  let rms := phaseRms ((et ++ er).flatMap (·.2))
  let mm := roundRat (10000000 * max (delaySpread (et.map (·.2))) (delaySpread (er.map (·.2))))
  let s := (s.setBit Reg.SYN_COH 31 false).setFld Reg.SYN_COH 7 0 (min 255 mm.toNat)
  match rms with
  | some v => s.setFld Reg.SYN_COH 25 16 (min 1023 v)
  | none => (s.freeNat.2).setFld Reg.SYN_COH 25 16 s.freeNat.1

/-- An array calibration (R71, R133 to R135, R341): leaf trims and references, path trims, step tables, the coherence figure. -/
def State.applyArrayCal (s : State) (bg : Bool) (a : ArrayCal) : State :=
  let (rt, rr) := (s.sideResp true a, s.sideResp false a)
  let (et, er) := (s.sideResiduals true a, s.sideResiduals false a)
  let s := s.setLeaves (rt ++ rr)
  let s := rr.foldl (fun s x => match a.steps[x.1] with | some v => s.putSteps x.1 v | none => s) s
  let s := rr.foldl (fun s x => s.sideTrim bg false er x) (rt.foldl (fun s x => s.sideTrim bg true et x) s)
  (List.finRange 17).foldl (fun s q => s.noteTrim q) (s.showCoherence et er)

/-- The transmit trims of path `p` after a reciprocity calibration (R343): phase and gain are multiplied by b_ref / b_i, and the delay takes in
the slope. A path that no pair joins to the reference has no b_ref / b_i: its trims are free values. -/
def State.recipTrim (s : State) (p : Fin 64) (r : RecipResult) : State :=
  match r with
  | .noPair => s
  | .apart =>
    let s := s.setFld (Reg.DFE_TX_DLY p) 15 0 (Config.free s.freeIdx)
    let s := s.wr (Reg.DFE_TX_PHG p) (trimWord (Config.free (s.freeIdx + 1)) (mkRat (Config.freeInt (s.freeIdx + 2)) 65536))
    { s with freeIdx := s.freeIdx + 3 }.putLegacy p
  | .solved tau ph ln =>
    let d := s.sfld (Reg.DFE_TX_DLY p) 15 0 + roundRat (-(tau * 98304 * 4096 / 100))
    let g := roundRat ((s.fld (Reg.DFE_TX_PHG p) 31 16 : Rat) * expRat (-ln))
    let a := mkRat (s.sfld (Reg.DFE_TX_PHG p) 15 0) 65536 - ph
    ((s.setFld (Reg.DFE_TX_DLY p) 15 0 (toBits 16 (satInt (-32768) 32767 d))).wr (Reg.DFE_TX_PHG p) (trimWord g.toNat a)).putLegacy p

/-- A reciprocity calibration (R343), over the paths of a cascade: the trims of the live paths, and the number without a usable pair. It solves
over the measurements that were gathered and those that the chip does not hold, `ms`. -/
def State.applyRecip (s : State) (ms : List PairMeas) : State :=
  let live := (List.finRange 64).filter fun (p : Fin 64) => !s.txRetired p && !s.rxRetired p
  let rs := recipSolve (s.seq.recipIn ++ ms) (live.map fun p => 64 * s.position + p.val)
  let s := (live.zip rs).foldl (fun s (p, _, r) => s.recipTrim p r) s
  { s.setFld Reg.SEQ_CAL_STAT 6 0 (rs.countP fun x => match x.2 with | .noPair => true | _ => false) with seq := { s.seq with recipIn := [] } }

/-- The verdict on the sides that a calibration covered: within limits unless it was discarded or failed (R102, R103). -/
def State.closeCal (s : State) (c : Fin 64 → Bool) : State :=
  s.forPaths fun s p =>
    if c p then s.setPath p fun x => { x with txCal := some !x.txCalVoid, rxCal := some !x.rxCalVoid } else s

/-- Last step of the start-up pass: 9 with startup_recip, else 8 (R340). -/
def State.lastStep (s : State) : Nat := if s.bit Reg.SEQ_TURN_CFG 9 then 9 else 8

/-- The start-up pass is done: recorded, and its quads pass to GATED (R320, R340, R564). -/
def State.endStartup (s : State) (j : CalJob) : State :=
  let s := (s.closeCal fun _ => true).setBit Reg.SEQ_CAL_STAT 31 false
  let s := { s with seq := { s.seq with job := none } }.jobQuadsBack
  let s := s.raise 0x0703 [(1, s.fld Reg.SEQ_CAL_STAT 15 8), (1, j.retired.length)]
  let s := s.setFld Reg.KPR_BOOT_STAT 19 16 9
  { s with kpr := { s.kpr with bootPorts := true } }.bootAdvance

/-- The background cycle passes to its next item; after its array calibration the coupler network's receiver is free again, unless a job has
it (R339, R341). -/
def State.bgItemEnd (s : State) : State :=
  if s.bgRuns then
    let s := if s.bgArray && s.seq.job.isNone then s.calFreesAll else s
    { s with seq := { s.seq with bgStep := (s.seq.bgStep + 1) % 17, bgBegun := false, bgVoidTx := 0, bgVoidRx := 0 } }
  else s

/-- Step `n` of the start-up pass begins, after the one before: array calibration takes the coupler network's receiver, and reciprocity
calibration has its first burst to come (R92, R340, R341). -/
def State.startStep (s : State) (n : Nat) : State :=
  let s := s.setFld Reg.SEQ_CAL_STAT 15 8 n
  if n = 8 then s.calRoutes 2
  else if n = 9 then { s.calFreesAll with seq := { s.seq with nextBurst := 0 } }
  else s

/-- A step of the start-up pass, or an item of the background cycle, ends (R339, R340). Step 9 has a burst for each quad. -/
def State.calItemEnd (s : State) : State :=
  match s.seq.job with
  | some j =>
    if j.startup then
      let n := s.fld Reg.SEQ_CAL_STAT 15 8
      if !s.allStandby || (n = 9 && !s.burstsDone) then s
      else if n < s.lastStep then s.startStep (n + 1) else s.endStartup j
    else s.bgItemEnd
  | none => s.bgItemEnd

/-- The part of a path's results that step `n` of the start-up pass gives (R340); the background cycle gives offsets and image taps
(R339). -/
def pathPart (r : PathCal) (n : Nat) : PathCal :=
  let none_ : PathCal := { cells := none, bw := none, ofs := none, taps := none, txRej := none, loLeak := none, rxRej := none, steps := none }
  match n with
  | 3 => { none_ with cells := r.cells }
  | 4 => { none_ with bw := r.bw }
  | 5 => { none_ with ofs := r.ofs }
  | 6 => { none_ with taps := r.taps, txRej := r.txRej, loLeak := r.loLeak, rxRej := r.rxRej }
  | 7 => { none_ with steps := r.steps }
  | _ => none_

/-- The results of path `p` that the background cycle's item under way gives (R339). -/
def State.bgPath (s : State) (p : Fin 64) (r : PathCal) : Option (Bool × PathCal) :=
  if s.bgRuns && decide (s.seq.bgStep = (quadOf p).val) then
    some (true, { (pathPart r 6) with ofs := r.ofs })
  else none

/-- The results of path `p` that the calibration under way at this instant gives, with whether it is the background cycle: of the start-up pass,
of a PATH job that covers it, or of the background cycle at its quad (R334, R339, R340). -/
def State.pathTaken (s : State) (p : Fin 64) (r : PathCal) : Option (Bool × PathCal) :=
  match s.seq.job with
  | some j =>
    if j.startup then
      let n := s.fld Reg.SEQ_CAL_STAT 15 8
      if 3 ≤ n && n ≤ 7 && s.allStandby then some (false, pathPart r n) else none
    else if j.kind = 1 && inMask j.quads (quadOf p) && s.jobRuns j then some (false, r)
    else s.bgPath p r
  | none => s.bgPath p r

/-- The results of an array calibration can come at this instant, with whether they are the background cycle's: from step 8 of the start-up
pass, an ARRAY job, or the cycle's last item. -/
def State.arrayTaken (s : State) : Option Bool :=
  let bg := if s.bgRuns && decide (s.seq.bgStep = 16) then some true else none
  match s.seq.job with
  | some j =>
    if j.startup then (if s.fld Reg.SEQ_CAL_STAT 15 8 = 8 && s.allStandby then some false else none)
    else if j.kind = 2 && s.jobRuns j && s.atF then some false else bg
  | none => bg

/-- The attenuation of the TX driver of path `p`, 0.25 dB units: that of TXP_ATTEN with the back-off, and at least 20 dB while an array
calibration measures (R69, R341, R544). -/
def State.driverAtten (s : State) (p : Fin 64) : Nat :=
  if s.arrayTaken.isSome then max 80 (s.attenInForce p) else s.attenInForce p

/-- The start-up pass is at step `n`, with every quad in STANDBY (R340). -/
def State.atStep (s : State) (n : Nat) : Bool :=
  match s.seq.job with
  | some j => j.startup && s.fld Reg.SEQ_CAL_STAT 15 8 == n && s.allStandby
  | none => false

/-- CAL_STEP_COMPLETE (R87, R94, R340, R341, R343). The tones that a PATH or ARRAY measurement or a step of the start-up pass sends have no level in
the spec, and no sample of theirs is counted as saturated in the correction stage (R63, DESIGN CHOICE). In a window the next step begins when
one completes (R334). -/
def execCalStepComplete (r : CalResult) (s : State) : Res :=
  let fits := s.stepFits 2 || s.stepFits 3
  let t := match r with
    | .part => match s.seq.job with
      | some j => if j.kind = 4 then s.obsTurn else s
      | none => s
    | .path p r => match s.pathTaken p r with
      | some (bg, r) => (s.applyPathCal bg p r).judgePathCal bg p r
      | none => s
    | .array a => match s.arrayTaken with
      | some bg => s.applyArrayCal bg a
      | none => s
    | .recip y => if s.atStep 9 && s.burstsDone then s.applyRecip y else s
    | .obs m => if s.atStep 1 then s.obsCheck m else s
    | .itemEnd => s.calItemEnd
  .next (if fits then t.nextStep else t)

/-! ### Bursts, the end of jobs, tracing (R342 to R345) -/

/-- Measurements cut into parcels of at most 107 (R396, R429). -/
def cutRecip : Nat → List PairMeas → List (List PairMeas)
  | 0, _ => []
  | n + 1, l => if l.isEmpty then [] else l.take 107 :: cutRecip n (l.drop 107)

/-- What the chip's receive paths recorded of the burst of quad `q` of the cascade: the head keeps it, another chip sends it there (R343, R429). -/
def State.gatherRecip (s : State) (q : Nat) (ys : List PairMeas) : State :=
  let heard := ys.filter fun m => m.i.val / 4 = q && m.j.val / 64 = s.position
  let s := { s with seq := { s.seq with recipIn := s.seq.recipIn ++ heard } }
  if s.position = 0 then s
  else
    (cutRecip heard.length heard).foldl (fun s l =>
      s.send { plane := 5, sub := 6, flow := mkFlow 0 s.position 0 0, air := s.airStamp, payload := recipBytes l }) s

/-- A contiguous group of active CAL symbols begins at this tick: its first and its last tick (R334, R342). -/
def State.groupHere (s : State) : Option (Nat × Nat) :=
  let a := (airAt s.airPos).1
  let p := prevSym a
  if s.calUse = some 2 && s.ticksTo (symPos a) == 0 && !(s.isF p && s.symUse p == 2) then
    some (s.now, ((s.now : Int) + s.useEnd 2 572 (symIdx a)).toNat)
  else none

/-- Quad `q` of the cascade can have the next burst of the order of R343, position and then quad: every powered quad of this chip before it has
had its own. -/
def State.burstNext (s : State) (q : Fin 64) : Bool :=
  decide (s.seq.nextBurst ≤ q.val) && decide (q.val / 16 < s.chips)
    && (List.finRange 16).all fun i =>
      let n := 16 * s.position + i.val
      (s.seq.quads[i]).st.isDown || decide (n < s.seq.nextBurst) || decide (q.val ≤ n)

/-- RECIP_BURST: quad `q` of the cascade is the quad under measurement of one burst of a RECIP job or of step 9; every other powered quad of this chip
holds its T/R switch at receive and its LNA released, and records the tones (R340, R342, R343). In SERVICE and LEAN a burst takes one whole
contiguous group of active CAL symbols, and this command comes at its start (R334). -/
def execRecipBurst (q : Fin 64) (ys : List PairMeas) (s : State) : Res :=
  .next (match s.seq.job with
    | some j =>
      let k : Fin 16 := ⟨q.val % 16, Nat.mod_lt _ (by decide)⟩
      let own := q.val / 16 = s.position
      let busy := match s.seq.burst with | some x => x.turn | none => false
      if (j.kind = 3 || s.atStep 9) && (!s.mode.live || s.groupHere.isSome) && s.burstNext q && !busy
          && !(own && (s.seq.quads[k]).st.isDown) then
        let b : Burst := { quad := q, span := if s.mode.live then s.groupHere else none }
        let s := { s with seq := { s.seq with burst := some b, nextBurst := q.val + 1 } }
        (s.quadsWhere (fun i => !(own && i == k) && !(s.seq.quads[i]).st.isDown) fun x => { x with lnap := false, trsw := false }).gatherRecip q ys
      else s
    | none => s)

/-- The absolute gain of an observation receiver in 0.01 dB: the mean square of the tone in its ADC codes, against full scale, over the power
at CAL_RF (R345). A tone of which nothing arrives gives no gain: a free value. -/
def State.obsGain (s : State) (k : Nat) (m : Nat) : Int :=
  if m = 0 then Config.freeInt (s.freeIdx + k) else logSteps 1 (mkRat m (8191 * 8191)) - s.sfld Reg.SEQ_CAL_RF 31 16

/-- What a job's end gives, when it is of the job's kind (R343 to R345). -/
def State.applyCalEnd (s : State) (kind : Nat) (e : CalEnd) : State :=
  match kind, e with
  | 3, .recip t => s.applyRecip t
  | 4, .obsref m =>
    { s with freeIdx := s.freeIdx + 9, prod := { s.prod with obsGain := Vector.ofFn fun k => some (s.obsGain k m[k]) } }.countProdRows
  | 5, .coupler fb tx =>
    let p : Fin 64 := ⟨s.fld Reg.SEQ_PA_REF 5 0 % 64, Nat.mod_lt _ (by decide)⟩
    if (s.paths[p]).txCalVoid then s else { s with seq := { s.seq with coupler := some (p, fb, tx) } }
  | _, _ => s

/-- The running job can end at this instant: a reciprocity job has had its bursts, and its trims take effect inside an F symbol (R87, R342). -/
def State.jobEnds (s : State) (j : CalJob) : Bool := !j.startup && (j.kind != 3 || (s.burstsDone && s.atF))

/-- CAL_JOB_END: the job's quads return to their states, and its result is shown, counted and recorded (R320, R339). -/
def execCalJobEnd (e : CalEnd) (s : State) : Res :=
  .next (match s.seq.job with
    | none => s
    | some j =>
      if !s.jobEnds j then s
      else
        let s := s.applyCalEnd j.kind e
        let s := if j.kind = 1 then s.closeCal fun p => s.calCovers p else s
        let s := { s with seq := { s.seq with job := none } }
        let result := if j.retired.isEmpty then 1 else 2
        let s := (s.calResult j.kind result (s.fld Reg.SEQ_CAL_STAT 6 0)).bump Reg.SEQ_CAL_DONE_CNT
        s.jobQuadsBack.raise 0x0701 [(1, j.kind), (1, result)])

/-- A write of SEQ_PA_REF: with the powers of a COUPLER job of the same path held, the coupling is the PA output less the FBn
power and the PA gain the PA output less the TXOUTn power; both go to the production record (R344, R345). -/
def State.writePaRef (s : State) (w : Word) : State :=
  let s := (s.setFld Reg.SEQ_PA_REF 31 16 (fldOf w 31 16)).setFld Reg.SEQ_PA_REF 5 0 (fldOf w 5 0)
  match s.seq.coupler with
  | some (n, fb, tx) =>
    if n = fldOf w 5 0 then
      let out := signedOf 16 (fldOf w 31 16)
      let cpl := (satInt 0 65535 (out - fb)).toNat
      let gain := satInt (-32767) 32767 (out - tx)
      let p : Fin 64 := ⟨fldOf w 5 0 % 64, Nat.mod_lt _ (by decide)⟩
      let s := (s.setFld (Reg.DPD_OBS_CFG p) 31 16 cpl).setFld (Reg.SEQ_PA_GAIN p) 15 0 (toBits 16 gain)
      { s with prod := { s.prod with coupling := s.prod.coupling.set p (some cpl), paGain := s.prod.paGain.set p (some gain) } }.countProdRows
    else s
  | none => s

/-- PA_REF_WRITE (R344, R345). -/
def execPaRefWrite (w : Word) (s : State) : Res := .next (if s.writable then s.writePaRef w else s)

end Sys2Proof.Machine
end

