-- ==== Sys2Proof/Machine/Transmit.lean ====
section
/-! DEFINITION. The transmitter of a port: which parcel goes next and with what header (R398, R403 to R405), the deadlines of uplink
output (R53, R247, R279), PTP messages as they leave (R444 to R449), credits (R405), reliable queues (R407 to R409), and the ownership of
carriers (R417, R418). -/

namespace Sys2Proof.Machine

/-! ### The next parcel (R403 to R405, R408) -/

/-- A parcel has waited longer than its queue's age limit (R404). -/
def State.aged (s : State) (q : Nat) (p : Parcel) : Bool :=
  let us := s.fld (Reg.PKT_Q_CFG q) 7 0
  us != 0 && decide (us * 3072000 < (s.now - p.at_) * 3125)

/-- Parcels of queue `q` that have waited too long are dropped and counted (R404). -/
def State.dropAged (s : State) (u : Fin 2) (q : Fin 8) : State :=
  let x := (s.port u).queues[q]
  let old := x.wait.countP fun p => s.aged q p
  if old = 0 then s
  else (s.bumpBy (Reg.PKT_SHED_CNT u q) old).setQueue u q fun x => { x with wait := x.wait.filter fun p => !s.aged q p }

/-- What queue `q` sends next: a copy to be sent again with its sequence, or the oldest parcel that waits. -/
def QueueSt.next (x : QueueSt) : Option (Parcel × Option Nat) :=
  match x.kept.find? fun k => k.again with
  | some k => some (k.parcel, some k.seq)
  | none => x.wait.head?.map fun p => (p, none)

/-- Queue `q` of port `u` holds a parcel and the credits for it (R405). -/
def State.sendable (s : State) (u : Fin 2) (q : Fin 8) : Bool :=
  match ((s.port u).queues[q]).next with
  | some (p, _) => decide (creditsFor p.payload.length ≤ s.fld (Reg.PKT_CREDIT u q) 23 0)
  | none => false

/-- The queue that sends next (R403). -/
def State.nextQueue (s : State) (u : Fin 2) : Option (Fin 8) :=
  let urgent := match ((s.port u).queues[(7 : Fin 8)]).next with
    | some (p, _) => usPassed (s.now - p.at_) 50
    | none => false
  if urgent && s.sendable u 7 then some 7 else (List.finRange 8).find? fun q => s.sendable u q

/-! ### What leaves -/

/-- The output of a symbol with air stamp `air`, on time until tick `t`, is late: it is counted once for the carrier of counter `r` (R53). -/
def State.countLate (s : State) (r air t : Nat) : State :=
  if s.pkt.late.contains (r, air, t) then s
  else { s.bump r with pkt := { s.pkt with late := (r, air, t) :: s.pkt.late } }

/-- A deadline that the departure misses is counted; the flag of R267 is set in equalised output and reports (R53, R247, R279). -/
def State.departure (s : State) (p : Parcel) : List Byte × State :=
  match p.due with
  | some (r, t) =>
    if t < s.now then
      if (List.range 4).any fun c => r == Reg.ULR_LATE_OUT_CNT c then
        (putBytes p.payload 9 [BitVec.ofNat 8 (setBitTo (byteAt p.payload 9) 3 true)], s.countLate r p.air t)
      else (p.payload, s.bump r)
    else (p.payload, s)
  | none => (p.payload, s)

/-- A PTP message as it leaves on port `v` with its egress SOP stamp: corrected when it is forwarded, recorded when the chip originated it
(R444, R445, R448, R449). -/
def State.ptpLeaves (s : State) (v : Fin 2) (p : Parcel) (egr : Stamp) (bs : List Byte) : List Byte × State :=
  match p.ing with
  | some (u, st, trim) => s.ptpForward u v st egr trim bs
  | none =>
    if p.dreq then
      (bs, (s.stampRecord 1 v (s.viewAt egr) (s.stamp48 egr (s.egrTrim v egr)) bs).setBit Reg.TIM_DREQ_CTL 31 false)
    else (bs, s)

/-- A parcel leaves with sequence `seq`; its credits are spent (R396, R398, R405). -/
def State.launch (s : State) (u : Fin 2) (q : Fin 8) (p : Parcel) (seq : Nat) (resent : Bool) : State :=
  let h : Header := { plane := p.plane, sub := p.sub, judged := p.judged, bits := setBitTo p.bits 6 (bitOf p.bits 6 || resent),
                      flow := p.flow, seq := seq, air := p.air }
  let a := Reg.PKT_CREDIT u q
  let bs := parcelBytes h p.payload p.stomp
  ((s.emit (.parcel u bs)).pushSets u (packSets (s.txWidth u) bs.length true bs)).setFld a 23 0 (s.fld a 23 0 - creditsFor p.payload.length)

/-- A new parcel of queue `q` is sent, and kept on a reliable queue (R398, R408). -/
def State.sendNew (s : State) (u : Fin 2) (q : Fin 8) (p : Parcel) (egr : Stamp) : State :=
  let (bs, s) := s.departure p
  let (bs, s) := if p.plane = 3 then s.ptpLeaves u p egr bs else (bs, s)
  let p := { p with payload := bs }
  let seq := (s.port u).queues[q].nextSeq
  (s.launch u q p seq false).setQueue u q fun x =>
    { x with
      wait := x.wait.drop 1, nextSeq := (seq + 1) % 2 ^ 32,
      kept := if reliable q then x.kept ++ [{ seq := seq, parcel := p, sentAt := s.now }] else x.kept }

/-- A copy of queue `q` is sent again (R408). -/
def State.sendAgain (s : State) (u : Fin 2) (q : Fin 8) (p : Parcel) (seq : Nat) : State :=
  ((s.launch u q p seq true).bump (Reg.PKT_RETX_CNT u)).setQueue u q fun x =>
    { x with
      kept := x.kept.map fun k => if k.seq = seq then { k with again := false, resends := k.resends + 1, sentAt := s.now } else k }

/-- PARCEL_TRANSMIT on port `p` (R403): the next parcel leaves; its last byte passes the balls now, its first word at the egress SOP
stamp `egr` (R439, R442). -/
def execParcelTransmit (p : Port) (egr : Stamp) (s : State) : Res :=
  let u := p.idx
  .next (if !s.portUp u || !s.txAwake u then s
    else
      let s := s.forQueues fun s q => s.dropAged u q
      match s.nextQueue u with
      | none => s
      | some q =>
        match ((s.port u).queues[q]).next with
        | some (x, some seq) => s.sendAgain u q x seq
        | some (x, none) => s.sendNew u q x egr
        | none => s)

/-- AGE_LIMIT_DROP on queue `q` of port `p` (R404). -/
def execAgeLimitDrop (p : Port) (q : Fin 8) (s : State) : Res := .next (s.dropAged p.idx q)

/-! ### Credits (R405, R406) -/

/-- CREDIT_GRANT: the credits that were freed on ingress queue `q` of port `p` are granted (R405). -/
def execCreditGrant (p : Port) (q : Fin 8) (s : State) : Res :=
  let u := p.idx
  let x := (s.port u).queues[q]
  let given := (x.given + x.freed) % 0x1000000
  .next (if !s.portUp u || x.freed = 0 then s
    else (s.sendBch u 0x81 (q * 0x1000000 + given)).setQueue u q fun x => { x with given := given, freed := 0 })

/-- The cumulative count of credits that queue `q` has been granted (R405, R406). -/
def State.takeCredit (s : State) (u : Fin 2) (q : Fin 8) (count : Nat) : State :=
  let a := Reg.PKT_CREDIT u q
  let more := (count + 0x1000000 - (s.port u).queues[q].granted) % 0x1000000
  if !s.portUp u then s
  else (s.setFld a 23 0 (s.fld a 23 0 + more)).setQueue u q fun x => { x with granted := count }

/-- BCH_CREDIT on port `p`: a queue and the cumulative count (R405, R406). -/
def execBchCredit (p : Port) (copies : List (Vector Byte 8)) (s : State) : Res :=
  .next (s.onBch p.idx copies 0x81 fun bs s => s.takeCredit p.idx (bchQueue bs) (bchNumber bs))

/-! ### Reliable queues (R407 to R409) -/

/-- Resends of a queue's parcels before one is given up (R409). -/
def resendLimit (q : Nat) : Nat := if q = 7 then 8 else 3

/-- Every unacknowledged parcel of queue `q` is to be sent again; those that were sent often enough are dropped, and RESYNC names the next
one (R408, R409). -/
def State.resendAll (s : State) (u : Fin 2) (q : Fin 8) : State :=
  let x := (s.port u).queues[q]
  let (gone, left) := x.kept.partition fun k => decide (resendLimit q ≤ k.resends)
  let s := s.setQueue u q fun x => { x with kept := left.map fun k => { k with again := true } }
  if gone.isEmpty then s
  else
    let next := match left.head? with | some k => k.seq | none => x.nextSeq
    let s := gone.foldl (fun s k => s.raise 0x0403 [(1, u), (1, q), (4, k.seq)]) s
    (s.bumpBy (Reg.PKT_RETX_FAIL_CNT u) gone.length).sendBch u 0x84 (q * 0x1000000 + next % 0x1000000)

/-- The copies that an acknowledgement of `seq` leaves (R406, R408). -/
def unacked (seq : Nat) (l : List Kept) : List Kept := l.filter fun k => decide (2 ^ 23 ≤ (seq + 0x1000000 - k.seq % 0x1000000) % 0x1000000)

/-- BCH_ACK on port `p` of a queue up to a sequence (R407, R408). -/
def execBchAck (p : Port) (copies : List (Vector Byte 8)) (s : State) : Res :=
  .next (s.onBch p.idx copies 0x82 fun bs s =>
    if s.portUp p.idx then s.setQueue p.idx (bchQueue bs) fun x => { x with kept := unacked (bchNumber bs) x.kept } else s)

/-- BCH_NACK on port `p` of a queue: every unacknowledged parcel of it is sent again (R408). -/
def execBchNack (p : Port) (copies : List (Vector Byte 8)) (s : State) : Res :=
  .next (s.onBch p.idx copies 0x83 fun bs s =>
    if s.portUp p.idx && reliable (bchQueue bs) then s.resendAll p.idx (bchQueue bs) else s)

/-- Queue `q` expects the sequence whose low 24 bits are `seq`, and what it skips is lost (R409). -/
def State.takeResync (s : State) (u : Fin 2) (q : Fin 8) (seq : Nat) : State :=
  let e := (s.port u).queues[q].expect
  let gap := (seq + 0x1000000 - e % 0x1000000) % 0x1000000
  if !s.portUp u || !reliable q then s
  else if gap < 2 ^ 23 then
    (s.bumpBy (Reg.PKT_LOST_CNT u) gap).setQueue u q fun x => { x with expect := (e + gap) % 2 ^ 32, nack := none }
  else s.setQueue u q fun x => { x with expect := (e + 2 ^ 32 + gap - 0x1000000) % 2 ^ 32, nack := none }

/-- BCH_RESYNC on port `p`: a queue and the sequence it is to expect (R409). -/
def execBchResync (p : Port) (copies : List (Vector Byte 8)) (s : State) : Res :=
  .next (s.onBch p.idx copies 0x84 fun bs s => s.takeResync p.idx (bchQueue bs) (bchNumber bs))

/-- RETX_TIMEOUT on queue `q` of port `p`: the oldest unacknowledged parcel has waited its timeout (R408). -/
def execRetxTimeout (p : Port) (q : Fin 8) (s : State) : Res :=
  let u := p.idx
  .next (match ((s.port u).queues[q]).kept.head? with
    | some k => if s.portUp u && reliable q && !k.again && usPassed (s.now - k.sentAt) (if q = 1 then 5 else if q = 5 then 10 else 100)
        then s.resendAll u q else s
    | none => s)

/-! ### Ownership (R417, R418) -/

/-- The other named end of carrier `c`; none without an alternate end (R417). -/
def State.otherEnd (s : State) (c : Nat) : Option (Fin 2) :=
  let alt := s.fld (Reg.PKT_OWN c) 3 2
  let owner := s.fld (Reg.PKT_OWN c) 1 0
  let other := if s.fld (Reg.PKT_OWN c) 4 4 = owner then alt else owner
  if alt ≤ 1 ∧ other = 0 then some 0 else if alt ≤ 1 ∧ other = 1 then some 1 else none

/-- The end in force of carrier `c` moves (R418). -/
def State.moveOwner (s : State) (c : Nat) (e : Fin 2) : State :=
  ((s.setFld (Reg.PKT_OWN c) 5 4 e).bump (Reg.PKT_OWNER_MOVE_CNT c)).raise 0x0401 [(1, c), (1, e)]

/-- OWNER_PORT_TIMEOUT of carrier `c`: its owning port has not been UP for 200 µs (R418). -/
def execOwnerPortTimeout (c : Fin 4) (s : State) : Res :=
  .next (match s.otherEnd c with
    | some e =>
      let down := match (1 - e : Fin 2) with | u => !s.portUp u && usPassed (s.now - (s.port u).downAt) 200
      if s.pkt.firstUp && down && s.portUp e && e.val != s.fld (Reg.PKT_OWN c) 4 4 then s.moveOwner c e else s
    | none => s)

/-- A write of PKT_OWN with move set: the bit is set (R5; the map states no clear), and the end in force moves when the port toward the other end is
UP (R418). -/
def State.writeOwn (s : State) (c : Nat) (w : Word) : State :=
  if fldOf w 31 31 = 1 then
    let s := s.setBit (Reg.PKT_OWN c) 31 true
    match s.otherEnd c with
    | some e => if s.portUp e then s.moveOwner c e else s
    | none => s
  else s

/-- OWNER_MOVE_WRITE of carrier `c` (R418). -/
def execOwnerMoveWrite (c : Fin 4) (s : State) : Res := .next (if s.writable then s.writeOwn c 0x80000000 else s)

end Sys2Proof.Machine
end

