-- ==== Sys2Proof/Machine/SolveOps.lean ====
section
/-! DEFINITION. The arithmetic of the weight solver, exact up to the rounding shown in the spec: estimates and noise (R222 to R225), Gram
blocks and their sum (R226, R239), loading, factorisation and inverse (R227, R228), ill-conditioned groups (R230), scale and rows (R232,
R233), the quality figures (R248), and the bytes of blocks (R241). -/

namespace Sys2Proof.Machine

/-! ### Matrices -/

/-- Entry (i, j) of a matrix by rows. -/
def mget (m : List (List CInt)) (i j : Nat) : CInt := (m.getD i []).getD j (0, 0)

/-- The index pairs of the upper triangle in the order of R241. -/
def tri (k : Nat) : List (Nat × Nat) := (List.range k).flatMap fun i => (List.range (k - i)).map fun d => (i, i + d)

/-- Entry (i, j) of a Hermitian matrix of `k` rows given by its upper triangle. -/
def herm (u : List CInt) (k i j : Nat) : CInt :=
  if i ≤ j then u.getD (i * (2 * k + 1 - i) / 2 + (j - i)) (0, 0) else cconj (u.getD (j * (2 * k + 1 - j) / 2 + (i - j)) (0, 0))

/-- The sum of complex integers. -/
def csum (l : List CInt) : CInt := l.foldl cadd (0, 0)

/-- The squared magnitude. -/
def cabs2 (a : CInt) : Nat := (a.1 * a.1 + a.2 * a.2).toNat

/-- The larger part in magnitude. -/
def cmax (a : CInt) : Nat := max a.1.natAbs a.2.natAbs

/-- Both parts times 2^e, rounded. -/
def cscale (a : CInt) (e : Int) : CInt := (scaleRound a.1 e, scaleRound a.2 e)

/-- Both parts divided by a positive number, rounded. -/
def cdiv (a : CInt) (d : Nat) : CInt := (roundDiv a.1 d, roundDiv a.2 d)

/-- A part fits `w` bits. -/
def fitsBits (w : Nat) (x : Int) : Bool := decide (-(2 ^ (w - 1)) ≤ x) && decide (x ≤ 2 ^ (w - 1) - 1)

/-- Both parts fit `w` bits. -/
def cfits (w : Nat) (a : CInt) : Bool := fitsBits w a.1 && fitsBits w a.2

/-- Both parts saturated to `w` bits. -/
def csat (w : Nat) (a : CInt) : CInt :=
  (satInt (-(2 ^ (w - 1))) (2 ^ (w - 1) - 1) a.1, satInt (-(2 ^ (w - 1))) (2 ^ (w - 1) - 1) a.2)

/-- The first of `n` + 1 numbers from `e` on that meets `f`; the last one if none does. -/
def firstFrom (f : Int → Bool) : Nat → Int → Int
  | 0, e => e
  | n + 1, e => if f e then e else firstFrom f n (e + 1)

/-! ### Estimates and noise (R222 to R225) -/

/-- n_cs_max of a comb (R222). -/
def nCsMax : Nat → Nat
  | 2 => 8
  | 4 => 12
  | 8 => 6
  | _ => 0

/-- The SRS section that a port names. -/
def srsOf (srs : List SrsSec) (p : SolvePort) : Option SrsSec := srs.find? fun x => x.id == p.srs

/-- What a port contributes: its SRS section, the length of its sequence in comb REs, and the port. -/
structure PortRef where
  sec : SrsSec
  len : Nat
  port : SolvePort
  deriving DecidableEq, Repr

/-- The ports of a solve with their SRS sections. -/
def Solve.ports (v : Solve) : List PortRef :=
  v.sec.ports.filterMap fun p => (srsOf v.srs p).map fun x => { sec := x, len := 12 * x.n / max 1 x.comb, port := p }

/-- Number of ports. -/
def Solve.k (v : Solve) : Nat := v.sec.ports.length

/-- First PRB and PRBs of the solve. -/
def Solve.range (v : Solve) : Nat × Nat :=
  match v.ports with
  | r :: _ => (r.sec.first, r.sec.n)
  | [] => (0, 0)

/-- The PRB groups of the solve. -/
def Solve.gs (v : Solve) : List Nat := if v.range.2 = 0 then [] else groupsOf v.range.1 v.range.2

/-- Symbols of the slot that a port names. -/
def PortRef.syms (r : PortRef) : List Nat := (List.range r.sec.nSym).map fun i => r.sec.start + i

/-- The symbols that a solve names, as symbol numbers (R220). -/
def Solve.syms (v : Solve) : List Nat := (v.ports.flatMap fun r => r.syms).map fun y => v.slot * 14 + y

/-- Comb REs of group `g` for a port: the first and the number (R222, R224). -/
def PortRef.res (r : PortRef) (g : Nat) : List Nat :=
  let mg := 48 / max 1 r.sec.comb
  let m0 := (g - r.sec.first / 4) * mg
  (List.range (min mg (r.len - m0))).map fun i => m0 + i

/-- A number of at least 2 is prime. -/
def isPrime (n : Nat) : Bool := (List.range 42).all fun d => d < 2 || n ≤ d || n % d != 0

/-- The largest prime below `n`, for `n` up to 1764. -/
def primeBelow (n : Nat) : Nat := ((List.range n).reverse.find? fun p => 2 ≤ p && isPrime p).getD 2

/-- The angle of base sequence `u` with v = 0 at position `m`, in turns (R222; TS 38.211 §5.2.2): a Zadoff-Chu sequence from length 36 on, its own
formula at length 30, and phase indexes −3, −1, 1 or 3 of an eighth of a turn at the other lengths. PRESUMED: the formulas are that standard's. -/
def srsBase (len u m : Nat) : Rat :=
  if 36 ≤ len then
    let n := primeBelow len
    let q := (2 * n * (u + 1) + 31) / 62
    let i := m % n
    mkRat (-(q * i * (i + 1) : Int)) (2 * n)
  else if len = 30 then mkRat (-((u + 1) * (m + 1) * (m + 2) : Int)) 62
  else mkRat (2 * ((Config.srsPhase len u m % 4 : Nat) : Int) - 3) 8

/-- The SRS value x[m] of a port (R222, R223): the base sequence of group n_id mod 30, turned by the port's cyclic shift, as Q1.14. -/
def PortRef.x (r : PortRef) (m : Nat) : CInt :=
  unitCoeff (srsBase r.len (r.port.nId % 30) m + mkRat (r.port.ncs * m) (max 1 (nCsMax r.sec.comb))) 1

/-- The subcarrier of comb RE `m` (R169). -/
def SrsSec.re (x : SrsSec) (m : Nat) : Nat := 12 * x.first + x.ofs + x.comb * m

/-- The estimate of one port on one antenna, whose REs are `y` by symbol and subcarrier (R223). -/
def PortRef.estimate (r : PortRef) (y : Nat → Nat → CInt) (g : Nat) : CInt :=
  let ms := r.res g
  let acc := csum (r.syms.flatMap fun s => ms.map fun m => cmul (y s (r.sec.re m)) (cconj (r.x m)))
  csat 24 (cdiv acc (max 1 (16384 * ms.length * r.sec.nSym)))

/-- The pairs of symbol and comb that ports use, each once, with a port that uses it (R225). -/
def combsUsed (rs : List PortRef) : List (Nat × PortRef) :=
  rs.foldl (fun l r => r.syms.foldl (fun l s =>
    if l.any fun (t, q) => t == s && q.sec.comb == r.sec.comb && q.sec.ofs == r.sec.ofs then l else l ++ [(s, r)]) l) []

/-- A port uses a pair of symbol and comb. -/
def PortRef.uses (p : PortRef) (s : Nat) (r : PortRef) : Bool :=
  p.syms.contains s && p.sec.comb == r.sec.comb && p.sec.ofs == r.sec.ofs

/-- Residual power of one antenna in a group, with its estimates `h` by port (R225). -/
def residual (rs : List PortRef) (h : List CInt) (y : Nat → Nat → CInt) (g : Nat) : Nat :=
  (combsUsed rs).foldl (fun n (s, r) =>
    (r.res g).foldl (fun n m =>
      let fit := csum ((rs.zip h).map fun (p, hq) => if p.uses s r then cmul hq (p.x m) else (0, 0))
      let v := y s (r.sec.re m)
      n + cabs2 (csat 24 (cdiv (v.1 * 16384 - fit.1, v.2 * 16384 - fit.2) 16384))) n) 0

/-- Degrees of freedom of a group per antenna (R225). -/
def dofOf (rs : List PortRef) (g : Nat) : Int :=
  (combsUsed rs).foldl (fun n (s, r) => n + ((r.res g).length : Int) - (rs.countP fun p => p.uses s r)) 0

/-! ### Gram blocks (R226, R239) -/

/-- e_h of R226 for the largest part. -/
def expH (mx : Nat) : Int := firstFrom (fun e => decide ((mx : Rat) ≤ 32767 * pow2 e)) 24 (-15)

/-- The smallest shift from 0 on with every part of `l` within 2^31 − 1 after rounding. -/
def shift31 (l : List CInt) : Int :=
  firstFrom (fun e => l.all fun x => decide (cmax (cscale x (-e)) ≤ 2 ^ 31 - 1)) 80 0

/-- The exact upper triangle of H^H H for rows `h` by antenna (R226). -/
def gramExact (k : Nat) (h : List (List CInt)) : List CInt :=
  (tri k).map fun (i, j) => csum (h.map fun row => cmul (cconj (row.getD i (0, 0))) (row.getD j (0, 0)))

/-- The Gram block of a chip (R226). -/
def gramOf (k : Nat) (h : List (List CInt)) (eh : Int) (nLive sig2 pos : Nat) : Gram :=
  let g := gramExact k h
  let sh := shift31 g
  { gm := g.map fun x => cscale x (-sh), eg := 2 * eh + sh, nLive := nLive, ns := (sig2 * nLive : Nat), contrib := 2 ^ pos }

/-- The sum of two Gram blocks (R239). -/
def gramAdd (a b : Gram) : Gram :=
  let e := max a.eg b.eg
  let s := List.zipWith cadd (a.gm.map fun x => cscale x (a.eg - e)) (b.gm.map fun x => cscale x (b.eg - e))
  let wide := s.any fun x => !cfits 32 x
  { gm := if wide then s.map fun x => cscale x (-1) else s, eg := if wide then e + 1 else e, nLive := a.nLive + b.nLive,
    ns := a.ns + b.ns, contrib := Nat.lor a.contrib b.contrib }

/-- The real trace of a Hermitian matrix. -/
def hermTrace (u : List CInt) (k : Nat) : Int := (List.range k).foldl (fun t i => t + (herm u k i i).1) 0

/-! ### Loading, factorisation, inverse (R227, R228) -/

/-- The factor l by rows, with the smallest pivot; none where a pivot fails the test (R228). -/
def cholesky (m : Nat → Nat → CInt) (dmax pivBits : Nat) (k : Nat) : Option (List (List CInt) × Rat) :=
  (List.range k).foldl (fun (acc : Option (List (List CInt) × Rat)) j =>
    match acc with
    | none => none
    | some (l, piv) =>
      let row := (List.range j).foldl (fun (row : List CInt) t =>
        let sum := csum ((List.range t).map fun u => cmul (row.getD u (0, 0)) (cconj (mget l t u)))
        let mm := m j t
        row ++ [cdiv (mm.1 * 2 ^ 30 - sum.1, mm.2 * 2 ^ 30 - sum.2) (mget l t t).1.toNat]) []
      let d : Int := (m j j).1 * 2 ^ 30 - row.foldl (fun n x => n + (cabs2 x : Int)) 0
      if d * 2 ^ pivBits < dmax * 2 ^ 30 then none
      else
        let r : Rat := mkRat d (dmax * 2 ^ 30)
        some (l ++ [row ++ [((sqrtNear (d : Rat) : Int), 0)]], if r < piv then r else piv)) (some ([], 1))

/-- y = l^−1 by rows, and whether a part saturated (R228). -/
def triInverse (l : List (List CInt)) (k : Nat) : List (List CInt) × Bool :=
  (List.range k).foldl (fun (y, sat) i =>
    let lii := (mget l i i).1.toNat
    let row := (List.range i).map fun j =>
      let acc := csum ((List.range (i - j)).map fun d => cmul (mget l i (j + d)) (mget y (j + d) j))
      cdiv (-acc.1, -acc.2) lii
    (y ++ [row.map (csat 48) ++ [csat 48 (roundDiv (2 ^ 61) lii, 0)]],
      sat || row.any (fun x => !cfits 48 x) || !fitsBits 48 (roundDiv (2 ^ 61) lii))) ([], false)

/-- a = y^H y, upper triangle, and whether a part saturated (R228). -/
def invGram (y : List (List CInt)) (k : Nat) : List CInt × Bool :=
  let a := (tri k).map fun (i, j) =>
    cscale (csum ((List.range (k - j)).map fun d => cmul (cconj (mget y (j + d) i)) (mget y (j + d) j))) (-31)
  (a.map (csat 56), a.any fun x => !cfits 56 x)

/-- What R228 makes of a loaded Gram block: the inverse with its exponent and the smallest pivot, or the cause, PIVOT or SAT. -/
def invert (g : Gram) (k : Nat) (lam : Rat) (pivBits : Nat) : (List CInt × Int × Rat) ⊕ Nat :=
  let load := fun (i j : Nat) (e : Int) =>
    let x := herm g.gm k i j
    (roundRat (((x.1 : Rat) + if i = j then lam else 0) * pow2 (-e)), roundRat ((x.2 : Rat) * pow2 (-e)))
  let dj := fun (e : Int) => (List.range k).foldl (fun n j => max n (load j j e).1) 0
  let en := firstFrom (fun e => decide (dj e < 2 ^ 30)) 255 (-128)
  let m := (List.range k).map fun i => (List.range k).map fun j => if i ≤ j then load i j en else cconj (load j i en)
  match cholesky (fun i j => mget m i j) (dj en).toNat pivBits k with
  | none => .inr 2
  | some (l, piv) =>
    let (y, sy) := triInverse l k
    let (a, sa) := invGram y k
    if sy || sa then .inr 4
    else
      let sh := shift31 a
      .inl (a.map (fun x => cscale x (-sh)), sh - 61 - en - g.eg, piv)

/-- The identity in the place of an inverse (R231). -/
def identTri (k : Nat) : List CInt := (tri k).map fun (i, j) => if i = j then (1, 0) else (0, 0)

/-! ### Scale and rows (R232, R233) -/

/-- The product of two Hermitian matrices, entry (i, j). -/
def hmul (a b : List CInt) (k i j : Nat) : CInt := csum ((List.range k).map fun t => cmul (herm a k i t) (herm b k t j))

/-- P = tr(A G A) of R232, in units of 2^(2 e_a + e_g). -/
def traceAGA (am gm : List CInt) (k : Nat) : Int :=
  (List.range k).foldl (fun n i =>
    (List.range k).foldl (fun n j => n + (cmul (hmul am gm k i j) (herm am k j i)).1) n) 0

/-- A positive number's square root as a mantissa in Q1.15 from 0x4000 to 0x7FFF and an exponent (R232). -/
def scaleOf (t : Rat) : Nat × Int :=
  let e := firstFrom (fun e => decide (t < pow2 (2 * e))) 255 (-128)
  let m := sqrtNear (t * pow2 (2 * (15 - e)))
  if m < 32768 then (m, e) else (16384, e + 1)

/-- The rows of one antenna (R233), with whether the row was capped. -/
def rowOf (am : List CInt) (k : Nat) (h : List CInt) (sm : Nat) (e : Int) (lim : Rat) : List CInt × Bool :=
  let w := (List.range k).map fun c =>
    let u := csum ((List.range k).map fun p => cmul (h.getD p (0, 0)) (herm am k p c))
    let v := cscale (u.1 * sm, u.2 * sm) e
    (satInt (-32767) 32767 v.1, satInt (-32767) 32767 v.2)
  let r := w.foldl (fun n x => n + cabs2 x) 0
  let cut := fun (x : Int) =>
    let m : Int := sqrtNear (((x * x : Int) : Rat) * lim / (r : Rat))
    if x < 0 then -m else m
  if lim < (r : Rat) then (w.map fun x => (cut x.1, cut x.2), true) else (w, false)

/-- The rows of a chip by antenna, and how many were capped (R233). -/
def rowsOf (am : List CInt) (k : Nat) (h16 : List (List CInt)) (sm : Nat) (e : Int) (rowCap : Nat) : List (List CInt) × Nat :=
  let lim : Rat := tenth (20 * rowCap) * mkRat k 64 * 2 ^ 28
  let rs := h16.map fun h => rowOf am k h sm e lim
  (rs.map (·.1), rs.countP (·.2))

/-- The figures that a group adds (R248). -/
def figuresOf (g : Gram) (k : Nat) (am : List CInt) (ea : Int) (sm : Nat) (es : Int) (piv : Rat) : Figures :=
  let c : Rat := ((sm * sm : Nat) : Rat) * pow2 (2 * (g.eg + ea + es - 15))
  let sum := fun (f : Nat → Nat → Bool) =>
    (List.range k).foldl (fun n i => (List.range k).foldl (fun n j => if f i j then n + cabs2 (hmul g.gm am k i j) else n) n) 0
  { snr := if g.ns = 0 then pow2 200 else ((hermTrace g.gm k : Int) : Rat) * pow2 g.eg / g.ns
    off := ((sum fun i j => i != j : Nat) : Rat) * c, dia := ((sum fun i j => i == j : Nat) : Rat) * c, piv := piv }

/-! ### Blocks (R241) -/

/-- A positive rational as a u16 mantissa and the smallest exponent that fits. -/
def noiseParts (x : Rat) : Nat × Int :=
  let e := firstFrom (fun e => decide (roundRat (x * pow2 (-e)) ≤ 65535)) 255 (-128)
  ((roundRat (x * pow2 (-e))).toNat % 65536, e)

/-- The bytes of a block (R241). -/
def blockBytes (g kind k contrib flags : Nat) (exp : Int) (nLive mant2 : Nat) (exp2 : Int) (car tag : Nat) (u : List CInt) : List Byte :=
  bytesOf 1 g ++ bytesOf 1 (kind * 32 + k) ++ bytesOf 1 (contrib * 16 + flags) ++ bytesOf 1 (toBits 8 exp) ++ bytesOf 2 nLive
    ++ bytesOf 2 mant2 ++ bytesOf 1 (toBits 8 exp2) ++ bytesOf 1 car ++ bytesOf 1 tag ++ bytesOf 1 0
    ++ u.flatMap fun x => bytesOf 4 (toBits 32 x.1) ++ bytesOf 4 (toBits 32 x.2)

/-- A Gram block's bytes. -/
def gramBlock (car tag k g : Nat) (b : Gram) : List Byte :=
  let (m, e) := noiseParts b.ns
  blockBytes g 0 k b.contrib 0 b.eg b.nLive m e car tag b.gm

/-- An inverse block's bytes. -/
def inverseBlock (car tag k g : Nat) (b : Inverse) : List Byte :=
  blockBytes g 1 k b.contrib ((if b.prev then 8 else 0) + b.cause) b.ea b.nLive b.sm b.es car tag b.am

/-- The entries of a block. -/
def blockEntries (bs : List Byte) : List CInt :=
  (List.range ((bs.length - 12) / 8)).map fun i => (signedOf 32 (fieldAt bs (12 + 8 * i) 4), signedOf 32 (fieldAt bs (16 + 8 * i) 4))

/-- A received Gram block. -/
def readGram (bs : List Byte) : Gram :=
  { gm := blockEntries bs, eg := signedOf 8 (byteAt bs 3), nLive := fieldAt bs 4 2,
    ns := ((fieldAt bs 6 2 : Nat) : Rat) * pow2 (signedOf 8 (byteAt bs 8)), contrib := byteAt bs 2 / 16 }

/-- A received inverse block. -/
def readInverse (bs : List Byte) : Inverse :=
  { am := blockEntries bs, ea := signedOf 8 (byteAt bs 3), nLive := fieldAt bs 4 2, sm := fieldAt bs 6 2,
    es := signedOf 8 (byteAt bs 8), contrib := byteAt bs 2 / 16, prev := bitOf (byteAt bs 2) 3, cause := byteAt bs 2 % 8 }

/-- Group, ports, carrier and tag of a block. -/
def blockGroup (bs : List Byte) : Nat := byteAt bs 0
def blockK (bs : List Byte) : Nat := byteAt bs 1 % 32
def blockCar (bs : List Byte) : Nat := byteAt bs 9 % 4
def blockTag (bs : List Byte) : Nat := byteAt bs 10

end Sys2Proof.Machine
end

