-- ==== Sys2Proof/Machine/Solver.lean ====
section
/-! DEFINITION. Chapter 06: the life of a solve from its anchor to its commit, on a single chip (R215 to R237) and in a cascade (R239 to
R245), the estimate export (R246, R247) and the quality figures (R248). -/

namespace Sys2Proof.Machine

/-! ### Solves in flight -/

/-- The uplink receiver and solver, changed. -/
def State.setUlr (s : State) (f : Ulr → Ulr) : State := { s with ulr := f s.ulr }

/-- WSV_STAT shows the solves in flight (R218). -/
def State.showSolves (s : State) : State := s.setFld Reg.WSV_STAT 3 0 s.ulr.solves.length

/-- The solve of a carrier with a tag. -/
def State.solveOf (s : State) (c tag : Nat) : Option Solve := s.ulr.solves.find? fun v => v.car == c && v.sec.tag == tag

/-- The first solve of a list that meets `p`, changed. -/
def updFirst (p : Solve → Bool) (f : Solve → Solve) : List Solve → List Solve
  | [] => []
  | v :: t => if p v then f v :: t else v :: updFirst p f t

/-- The solve of a carrier with a tag, changed. -/
def State.setSolve (s : State) (c tag : Nat) (f : Solve → Solve) : State :=
  s.setUlr fun u => { u with solves := updFirst (fun v => v.car == c && v.sec.tag == tag) f u.solves }

/-- One group of a solve, changed. -/
def Solve.setGroup (v : Solve) (g : Nat) (f : SolveGroup → SolveGroup) : Solve :=
  { v with groups := v.groups.map fun x => if x.g = g then f x else x }

/-- A group of a solve that has been formed. -/
def Solve.group (v : Solve) (g : Nat) : Option SolveGroup := v.groups.find? fun x => x.g == g

/-- Every group of a solve has been formed. -/
def Solve.formed (v : Solve) : Bool := v.gs.all fun g => (v.group g).isSome

/-- Every group has its columns at cascade position `pos`: computed, copied, or zeros for a chip outside the sum (R231, R243). -/
def Solve.ready (v : Solve) (pos : Nat) : Bool :=
  v.gs.all fun g =>
    match v.group g with
    | some x => x.copied || x.rows.isSome
    | none => v.early.any fun (h, b) => h == g && (b.prev || !bitOf b.contrib pos)

/-- A solve is over: it commits no more, its estimates are complete, and its export has been sent. -/
def Solve.finished (v : Solve) : Bool :=
  (v.ended || (!v.sec.writeLast && v.formed)) && (v.exported || !v.sec.exportEst || v.dropped)

/-- Solves that are over leave. -/
def State.sweepSolves (s : State) : State :=
  (s.setUlr fun u => { u with solves := u.solves.filter fun v => !v.finished }).showSolves

/-- A solve ends its write without a commit (R189, R245). -/
def State.giveUp (s : State) (v : Solve) : State :=
  match s.solveGrant v.sec.tag v.car with
  | some g => s.endGrant g.last
  | none => s

/-- A solve is dropped and counted (R219, R220). In a cascade it stays until its readiness check (R245). -/
def State.dropSolve (s : State) (v : Solve) : State :=
  let s := (s.giveUp v).bump Reg.WSV_DROP_CNT
  (s.setSolve v.car v.sec.tag fun v => { v with dropped := true, anchored := true, ended := s.chips = 1 || !v.sec.writeLast }).sweepSolves

/-- Quad `q` is powered: its domain is on (R318). -/
def State.quadPowered (s : State) (q : Fin 16) : Bool :=
  match (s.seq.quads[q]).st with
  | .standby | .receive | .transmit => true
  | _ => false

/-- The antennas of a solve (R221). -/
def State.liveAntennas (s : State) : Nat :=
  maskOf 64 fun i => if h : i < 64 then !s.txRetired i && !s.rxRetired i && s.quadPowered (quadOf ⟨i, h⟩) else false

/-- The solve whose anchor comes next: the earliest, and of those the first received (R218). -/
def State.nextSolve (s : State) : Option Solve :=
  s.ulr.solves.foldl (fun best v =>
    if v.anchored then best
    else match best with
      | some b => if v.at_ < b.at_ then some v else some b
      | none => some v) none

/-- SOLVE_ANCHOR: the next solve's anchor has come (R218, R219, R221): its antennas are fixed, and it asks for its last or is dropped. -/
def execSolveAnchor (s : State) : Res :=
  .next (match s.nextSolve with
    | none => s
    | some v =>
      if s.now < v.at_ then s
      else
        let live := s.liveAntennas
        let s := s.setSolve v.car v.sec.tag fun v => { v with anchored := true, live := live }
        if v.sec.writeLast then
          let (s, ok) := s.askGrant { last := v.sec.last, mgmt := false, tag := v.sec.tag, car := v.car, nCol := v.k, bw := s.carBw v.car }
          if ok then s else s.dropSolve v
        else s)

/-! ### Estimates (R222 to R226) -/

/-- FFT output of carrier `c`, antenna `a`, symbol number `k`, subcarrier `re` (R146). -/
def State.fftRe (s : State) (c a k re : Nat) : CInt :=
  match s.ulr.ffts.find? fun f => f.sym == k with
  | some f => ((f.grid.getD c []).getD a []).getD re (0, 0)
  | none => (0, 0)

/-- The default noise, from a level relative to an RE of magnitude 8191 (R225). -/
def State.noiseDef (s : State) : Nat := (roundRat (8191 * 8191 * tenth (2 * s.sfld Reg.WSV_NOISE_DEF 15 0))).toNat

/-- The group whose REs give a group's estimates (R224). -/
def State.estGroup (s : State) (v : Solve) (g : Nat) : Nat :=
  if 4 * g + 4 ≤ s.carPrbs v.car ∨ !v.gs.contains (g - 1) ∨ g = 0 then g else g - 1

/-- A group of a solve formed from the REs of its symbols (R222 to R226). With no live antenna the spec gives no noise: a free value. -/
def State.formGroup (s : State) (v : Solve) (g : Nat) : SolveGroup × State :=
  let rs := v.ports
  let e := s.estGroup v g
  let y := fun (a t re : Nat) => if bitOf v.live a then s.fftRe v.car a (v.slot * 14 + t) re else (0, 0)
  let hq := (List.range 64).map fun a => if bitOf v.live a then rs.map fun r => r.estimate (y a) e else rs.map fun _ => (0, 0)
  let nLive := (List.range 64).countP fun a => bitOf v.live a
  let dof := dofOf rs e
  let acc := (List.range 64).foldl (fun n a => if bitOf v.live a then n + residual rs (hq.getD a []) (y a) e else n) 0
  let (sig2, s) : Nat × State :=
    if dof ≤ 0 then (s.noiseDef, s.bump Reg.WSV_NOISE_DEF_CNT)
    else if nLive = 0 then (let (x, s) := s.freeNat; (x % 2 ^ 48, s))
    else ((roundDiv acc (nLive * dof.toNat)).toNat % 2 ^ 48, s)
  let eh := expH ((hq.flatten.map cmax).foldl max 0)
  let h16 := hq.map fun row => row.map fun x => cscale x (-eh)
  ({ g := g, h16 := h16, eh := eh, sig2 := sig2, own := gramOf v.k h16 eh nLive sig2 s.position }, s)

/-! ### Inverse, scale and rows (R227 to R234) -/

/-- The committed version of the solve's last has the same columns and bandwidth code (R231, R236). -/
def State.prevServes (s : State) (v : Solve) : Bool :=
  let e := s.dirOf v.sec.last
  e.valid && e.nCol == v.k && e.bw == s.carBw v.car

/-- A Gram block is solved (R227 to R232): the inverse block and the figures of a group that is not ill-conditioned. P is open by a
relative error below 2^−24; where P is 0 the spec gives no scale. -/
def State.solveGram (s : State) (v : Solve) (b : Gram) : (Inverse × Option Figures) × State :=
  let k := v.k
  let tr := hermTrace b.gm k
  let lam : Rat := mkRat (s.fld Reg.WSV_LOAD 31 16) 65536 * tr / k + mkRat (s.fld Reg.WSV_LOAD 15 0) 4096 * b.ns * pow2 (-b.eg)
  let low := decide ((tr : Rat) * pow2 b.eg < tenth (100 * s.sfld Reg.WSV_LIMITS 15 8) * k * b.ns)
  let power := tr = 0 || low
  let r := if (tr : Rat) + lam = 0 then .inr 0 else invert b k lam (s.fld Reg.WSV_LIMITS 20 16)
  let cause := (if power then 1 else 0) + (match r with | .inr c => c | .inl _ => 0)
  let prev := cause ≠ 0 && s.bit Reg.WSV_LIMITS 0 && s.prevServes v
  let (am, ea, piv) := match cause, r with
    | 0, .inl x => x
    | _, _ => (identTri k, 0, 0)
  let s := if cause ≠ 0 then s.bump Reg.WSV_ILL_CNT else s
  let (x, s) := s.freeInt
  let dev : Rat := mkRat (x % (2 ^ 25 - 1) - (2 ^ 24 - 1)) (2 ^ 48)
  let p : Rat := (traceAGA am b.gm k : Int) * pow2 (2 * ea + b.eg) * (1 + dev)
  let ((sm, es), s) : (Nat × Int) × State :=
    if p ≤ 0 then
      let (m, s) := s.freeNat
      let (e, s) := s.freeNat
      ((16384 + m % 16384, signedOf 8 (e % 256)), s)
    else (scaleOf (mkRat (k * b.nLive) 64 / p), s)
  (({ am := am, ea := ea, nLive := b.nLive, sm := sm, es := es, contrib := b.contrib, prev := prev, cause := cause },
    if cause = 0 then some (figuresOf b k am ea sm es piv) else none), s)

/-- The chip copies the columns of its own previous version for an inverse block, whether or not it is in the sum (R231, R243). -/
def State.copies (s : State) (v : Solve) (b : Inverse) : Bool := b.prev && s.prevServes v

/-- A group that an inverse block leaves without columns of this chip: it is outside the sum, and copies nothing (R243). -/
def State.outside (s : State) (v : Solve) (b : Inverse) : Bool := !s.copies v b && !bitOf b.contrib s.position

/-- The columns of a group follow from its inverse (R231, R233, R243): copied, zeros on a chip outside the sum, or rows of its own. -/
def State.applyInverse (s : State) (v : Solve) (x : SolveGroup) (b : Inverse) (f : Option Figures) : State :=
  if s.copies v b then
    s.setSolve v.car v.sec.tag fun v => v.setGroup x.g fun x => { x with inv := some b, copied := true, sent := true, figures := f }
  else if s.outside v b then
    s.setSolve v.car v.sec.tag fun v => v.setGroup x.g fun x => { x with inv := some b, rows := some [], sent := true, figures := f }
  else
    let (rows, n) := rowsOf b.am v.k x.h16 b.sm (x.eh + b.ea + b.es - 1) (s.fld Reg.WSV_LIMITS 31 24)
    (s.bumpBy Reg.WSV_ROW_CAP_CNT n).setSolve v.car v.sec.tag fun v =>
      v.setGroup x.g fun x => { x with inv := some b, rows := some rows, capped := n, sent := true, figures := f }

/-! ### Bridle parcels of a solve (R239 to R245) -/

/-- A bridle parcel of a solve: subtype, destination, payload (R429). -/
def State.solveParcel (s : State) (v : Solve) (sub dest : Nat) (payload : List Byte) : Parcel :=
  { plane := 5, sub := sub, flow := mkFlow dest s.position v.car 0, air := stampOf (symOfIdx v.anchor) 0, payload := payload }

/-- One block in a parcel's payload. -/
def oneBlock (b : List Byte) : List Byte := [1, 0, 0, 0] ++ b

/-- A Gram block is sent toward the head, and its group counts as forwarded (R239, R240). -/
def State.sendGram (s : State) (v : Solve) (g : Nat) (b : Gram) : State :=
  (s.send (s.solveParcel v 4 0 (oneBlock (gramBlock v.car v.sec.tag v.k g b)))).setSolve v.car v.sec.tag fun v =>
    v.setGroup g fun x => { x with sent := true }

/-- The block of a group received from downstream. -/
def Solve.downOf (v : Solve) (g : Nat) : Option Gram := (v.downs.find? fun (h, _) => h == g).map (·.2)

/-- A formed group on a chip of a cascade (R239): the far end sends its block, any other chip sends the sum once it has the block from
downstream; the head waits for its cut-off. -/
def State.passGram (s : State) (v : Solve) (x : SolveGroup) : State :=
  if s.position = 0 ∨ x.sent then s
  else match v.downOf x.g with
    | some d => s.sendGram v x.g (gramAdd x.own d)
    | none => if s.isTail then s.sendGram v x.g x.own else s

/-- Every symbol that a solve names has been transformed. -/
def State.hasRes (s : State) (v : Solve) : Bool := v.syms.all fun k => s.ulr.ffts.any fun f => f.sym == k

/-- GRAM_BLOCK_FORMED: the estimates, noise and Gram block of group `g` of a solve are complete (R222 to R226). A single chip solves the
group and forms its rows (R227 to R234); in a cascade the block travels (R239). -/
def execGramBlockFormed (c : Fin 4) (tag g : BitVec 8) (s : State) : Res :=
  .next (match s.solveOf c tag.toNat with
    | none => s
    | some v =>
      let g := g.toNat
      if !v.anchored || v.dropped || v.ended || !v.gs.contains g || (v.group g).isSome || !s.hasRes v then s
      else
        let (x, s) := s.formGroup v g
        let s := s.setSolve v.car v.sec.tag fun v => { v with groups := v.groups ++ [x] }
        let early := (v.early.find? fun (h, _) => h == g).map (·.2)
        let s :=
          if !v.sec.writeLast then s
          else if s.chips = 1 then
            let ((b, f), s) := s.solveGram v x.own
            s.applyInverse v x b f
          else match early with
            | some b => (s.passGram v x).applyInverse v x b none
            | none => s.passGram v x
        s.sweepSolves)

/-- The oldest bridle parcel of a subtype that was consumed from a port. -/
def State.bridleIn (s : State) (u : Fin 2) (sub : Nat) : Option (Nat × Nat × List Byte) :=
  (s.pkt.bridle.find? fun (p, t, _) => p == u.val && t == sub).map fun (_, _, flow, air, bs) => (flow, air, bs)

/-- The list without its first element that meets `f`. -/
def eraseFirst {α : Type} (f : α → Bool) : List α → List α
  | [] => []
  | x :: t => if f x then t else x :: eraseFirst f t

/-- That parcel is taken. -/
def State.takeBridle (s : State) (u : Fin 2) (sub : Nat) : State :=
  { s with pkt := { s.pkt with bridle := eraseFirst (fun (p, t, _) => p == u.val && t == sub) s.pkt.bridle } }

/-- The solve in which a chip takes part with blocks of a parcel: one that it holds and has not dropped, with as many ports (R240). -/
def State.blockSolve (s : State) (b : List Byte) : Option Solve :=
  match s.solveOf (blockCar b) (blockTag b) with
  | some v => if v.dropped || v.k != blockK b then none else some v
  | none => none

/-- A Gram block from downstream (R239, R240): late and discarded, or kept and sent on with the chip's own. -/
def State.gramIn (s : State) (v : Solve) (b : List Byte) : State :=
  let g := blockGroup b
  let keep := fun v : Solve => { v with downs := (g, readGram b) :: v.downs.filter fun (h, _) => h != g }
  match v.group g with
  | some x =>
    if x.sent then s.bump Reg.WSV_GRAM_LATE_CNT
    else (s.setSolve v.car v.sec.tag keep).passGram (keep v) x
  | none => s.setSolve v.car v.sec.tag keep

/-- GRAM_PARCEL_RECEIVE from port `p` (R239, R240): blocks of a solve that the chip holds are summed on; others are forwarded unchanged and
counted. -/
def execGramParcelReceive (p : Port) (s : State) : Res :=
  .next (match s.bridleIn p.idx 4 with
    | none => s
    | some (flow, air, bs) =>
      let s := s.takeBridle p.idx 4
      match cutBlocks (byteAt bs 0) (bs.drop 4) with
      | none => s
      | some blocks =>
        match blocks.head? with
        | none => s
        | some b =>
          match s.blockSolve b with
          | some _ => blocks.foldl (fun s b =>
              match s.blockSolve b with
              | some v => s.gramIn v b
              | none => s) s
          | none =>
            let s := s.bumpBy Reg.WSV_MISSING_CNT blocks.length
            if s.position = 0 then s else s.enqueue (s.routeTo 0) { plane := 5, sub := 4, flow := flow, air := air, payload := bs })

/-- GRAM_FORWARD_TIMEOUT at +190 µs of a solve (R240): groups without a block from downstream go on alone. -/
def execGramForwardTimeout (c : Fin 4) (tag : BitVec 8) (s : State) : Res :=
  .next (match s.solveOf c tag.toNat with
    | none => s
    | some v =>
      if s.chips = 1 || s.position = 0 || v.dropped || !v.anchored || !v.sec.writeLast || !usPassed (s.now - v.at_) 190 then s
      else v.groups.foldl (fun s x => if x.sent then s else s.sendGram v x.g x.own) s)

/-- The head solves a group and sends its inverse block toward every other chip (R242, R243). -/
def State.headSolve (s : State) (v : Solve) (x : SolveGroup) : State :=
  let ((b, f), s) := s.solveGram v (match v.downOf x.g with | some d => gramAdd x.own d | none => x.own)
  let s := s.send (s.solveParcel v 5 4 (oneBlock (inverseBlock v.car v.sec.tag v.k x.g b)))
  s.applyInverse v x b f

/-- GRAM_CUTOFF at +220 µs of a solve (R242, R243). -/
def execGramCutoff (c : Fin 4) (tag : BitVec 8) (s : State) : Res :=
  .next (match s.solveOf c tag.toNat with
    | none => s
    | some v =>
      if s.chips = 1 || s.position != 0 || v.dropped || !v.anchored || !v.sec.writeLast || !usPassed (s.now - v.at_) 220 then s
      else v.groups.foldl (fun s x => if x.sent then s else s.headSolve v x) s)

/-- An inverse block at a chip that takes part in its solve (R243): a group whose zeros it is counts, and the group's columns follow, now or once
the chip has formed the group. The first block of a group counts. -/
def State.takeInverse (s : State) (v : Solve) (g : Nat) (b : Inverse) : State :=
  let seen := (v.early.any fun (h, _) => h == g) || match v.group g with | some x => x.inv.isSome | none => false
  if seen || v.ended || !v.sec.writeLast || !v.gs.contains g then s
  else
    let s := if s.outside v b then s.bump Reg.WSV_MISSING_CNT else s
    match v.group g with
    | some x => s.applyInverse v x b none
    | none => s.setSolve v.car v.sec.tag fun v => { v with early := v.early ++ [(g, b)] }

/-- INVERSE_PARCEL_RECEIVE from port `p` (R243): the chip forms its columns. The parcel went on when it was received (R424). -/
def execInverseParcelReceive (p : Port) (s : State) : Res :=
  .next (match s.bridleIn p.idx 5 with
    | none => s
    | some (_, _, bs) =>
      let s := s.takeBridle p.idx 5
      match cutBlocks (byteAt bs 0) (bs.drop 4) with
      | none => s
      | some blocks => blocks.foldl (fun s b =>
          match s.blockSolve b with
          | some v => s.takeInverse v (blockGroup b) (readInverse b)
          | none => s) s)

/-! ### Writing and commit (R235 to R237, R244, R245, R248) -/

/-- The words of a column of weights. -/
def columnBytes (col : List CInt) : List Byte := col.flatMap fun x => bytesOf 2 (toBits 16 x.1) ++ bytesOf 2 (toBits 16 x.2)

/-- Column `j` of group `g` of the last that a solve writes: its own rows, a copy of the committed version, or zeros (R231, R233, R236,
R243), with the mark of a copy that was read uncorrectable. -/
def State.newColumn (s : State) (v : Solve) (g j : Nat) : (List Byte × Bool) × State :=
  let old := fun s : State =>
    let e := s.dirOf v.sec.last
    s.memRead (s.colAddr { last := v.sec.last, version := e.version, group := g, col := j } e.bank e.nCol) 256 1 (16 + v.car / 2)
  match v.group g with
  | some x =>
    if x.copied then old s
    else
      let rows := x.rows.getD []
      ((columnBytes ((List.range 64).map fun a => if bitOf v.live a then mget rows a j else (0, 0)), false), s)
  | none =>
    let copied := if v.gs.contains g then v.early.any fun (h, b) => h == g && b.prev else true
    if copied && s.prevServes v then old s else ((List.replicate 256 0, false), s)

/-- The last of a solve is written into bank `b`, group by group and column by column (R235, R236). -/
def State.writeLast (s : State) (v : Solve) (b : Nat) : State :=
  let k := v.k
  (List.range (prbGroups (s.carPrbs v.car))).foldl (fun s g =>
    (List.range k).foldl (fun s j =>
      let ((bs, bad), s) := State.newColumn s v g j
      s.memWrite (s.colAddr { last := v.sec.last, version := 0, group := g, col := j } b k) bs bad 1 (16 + v.car / 2)) s) s

/-- A figure in steps of `k` hundredths of a decibel, limited to a field. -/
def figure (k : Nat) (lo hi : Int) (x : Rat) : Int := satInt lo hi (logSteps k x)

/-- WSV_QUAL0 from the figures that the chip has (R248): they are open on a chip that does not solve, and where every group is
ill-conditioned. -/
def State.qualWord (s : State) (v : Solve) : Word × State :=
  let fs := v.groups.filterMap fun x => x.figures
  let ill := v.groups.countP fun x => match x.inv with | some b => b.cause != 0 | none => false
  if fs = [] then
    let (x, s) := s.freeNat
    (BitVec.ofNat 32 (x % 2 ^ 24 * 256 + ill), s)
  else
    let snr := (fs.foldl (fun a f => a + f.snr) 0) / ((fs.length * v.k : Nat) : Rat)
    let off := fs.foldl (fun a f => a + f.off) 0
    let dia := fs.foldl (fun a f => a + f.dia) 0
    let piv := fs.foldl (fun a f => min a f.piv) 1
    let leak := if dia = 0 then 0 else -(logSteps 25 (off / dia))
    (BitVec.ofNat 32 (toBits 8 (figure 50 (-128) 127 snr) * 2 ^ 24 + (satInt 0 255 leak).toNat * 2 ^ 16
      + (satInt 0 255 (-(logSteps 25 piv))).toNat * 2 ^ 8 + ill), s)

/-- A solve commits into bank `b` (R188, R192, R237, R248): the version, its columns in the cache but for those copied from an uncorrectable
source (R204), the counts and the figures. -/
def State.commitSolve (s : State) (v : Solve) (g : Grant) (b : Nat) : State :=
  let k := v.k
  let s := s.commitLast g b k (s.carBw v.car)
  let ver := (s.dirOf v.sec.last).version
  let s := (List.range (prbGroups (s.carPrbs v.car))).foldl (fun s g =>
    (List.range k).foldl (fun s j =>
      let key : ColKey := { last := v.sec.last, version := ver, group := g, col := j }
      let at_ := s.colAddr key b k
      if s.memBad at_ 256 then s else s.placeColumn key (wordsOf 64 (s.memGets at_ 256))) s) s
  let (q0, s) := s.qualWord v
  let contrib := v.groups.foldl (fun m x => match x.inv with | some i => Nat.land m i.contrib | none => m) 15
  let caps := v.groups.foldl (fun n x => n + x.capped) 0
  let s := (s.wr (Reg.WSV_QUAL0 v.car) q0).wr (Reg.WSV_QUAL1 v.car) (BitVec.ofNat 32 (v.sec.last * 65536 + ver))
  let s := s.wr (Reg.WSV_QUAL2 v.car) (BitVec.ofNat 32 (v.sec.tag * 2 ^ 24 + contrib * 2 ^ 16 + min caps 8191))
  ((s.bump Reg.WSV_SOLVE_CNT).setSolve v.car v.sec.tag fun v => { v with ended := true }).sweepSolves

/-- The bank that a solve has been granted. -/
def State.solveBank (s : State) (v : Solve) : Option (Grant × Nat) :=
  match s.solveGrant v.sec.tag v.car with
  | some g => g.bank.map fun b => (g, b)
  | none => none

/-- SOLVE_LAST_WRITTEN: on a single chip the last column of a solve is written, and it commits (R235 to R237). `upsets` are the memory
errors that its reads of the committed version meet. -/
def execSolveLastWritten (c : Fin 4) (tag : BitVec 8) (upsets : List (Nat × Upset)) (s : State) : Res :=
  .next (match s.solveOf c tag.toNat with
    | none => s
    | some v =>
      match s.solveBank v with
      | some (g, b) =>
        if s.chips = 1 && v.ready s.position && !v.finished then
          let s := ((s.upset upsets).writeLast v b).commitSolve v g b
          if 400000 * 3072 < (s.now - v.at_) * 3125 then s.bump Reg.WSV_LATE_CNT else s
        else s
      | none => s)

/-- A solve does not commit (R245): its write ends, it is counted, and the event tells why: 0 not written, 1 grant refused, 2 dropped,
3 abort received (R602). -/
def State.abortSolve (s : State) (v : Solve) (cause : Nat) : State :=
  let s := ((s.giveUp v).bump Reg.WSV_JOINT_ABORT_CNT).raise 0x0F01 [(1, v.sec.tag), (1, v.car), (1, cause)]
  (s.setSolve v.car v.sec.tag fun v => { v with ended := true }).sweepSolves

/-- Why a solve that is not written does not commit. -/
def State.abortCause (s : State) (v : Solve) : Nat :=
  if v.dropped then 2 else if (s.solveGrant v.sec.tag v.car).isNone then 1 else 0

/-- The joint abort goes out of both ports (R245). -/
def State.sendAbort (s : State) (v : Solve) : State :=
  let p := s.solveParcel v 3 4 (bytesOf 1 v.sec.tag ++ [0, 0, 0])
  let s := if s.portState 0 = 0 then s else s.enqueue 0 p
  if s.portState 1 = 0 then s else s.enqueue 1 p

/-- JOINT_READINESS_CHECK at +480 µs of a solve (R244, R245): its last is fully written, or it aborts. -/
def execJointReadinessCheck (c : Fin 4) (tag : BitVec 8) (upsets : List (Nat × Upset)) (s : State) : Res :=
  .next (match s.solveOf c tag.toNat with
    | none => s
    | some v =>
      if s.chips = 1 || v.ended || v.written || !v.sec.writeLast || !usPassed (s.now - v.at_) 480 then s
      else match s.solveBank v with
        | some (_, b) =>
          if v.ready s.position && !v.dropped then
            ((s.upset upsets).writeLast v b).setSolve v.car v.sec.tag fun v => { v with written := true }
          else (s.sendAbort v).abortSolve v (s.abortCause v)
        | none => (s.sendAbort v).abortSolve v (s.abortCause v))

/-- JOINT_ABORT_RECEIVE from port `p` (R245): before +500 µs the chip does not commit. The parcel went on when it was received (R424). -/
def execJointAbortReceive (p : Port) (s : State) : Res :=
  .next (match s.bridleIn p.idx 3 with
    | none => s
    | some (flow, _, bs) =>
      let s := s.takeBridle p.idx 3
      match s.solveOf (flowCar flow) (byteAt bs 0) with
      | some v => if v.ended || usPassed (s.now - v.at_) 500 then s else s.abortSolve v 3
      | none => s)

/-- JOINT_COMMIT at +500 µs of a solve (R244): a chip that is ready commits. -/
def execJointCommit (c : Fin 4) (tag : BitVec 8) (s : State) : Res :=
  .next (match s.solveOf c tag.toNat with
    | none => s
    | some v =>
      match s.solveBank v with
      | some (g, b) =>
        if s.chips != 1 && v.written && !v.finished && usPassed (s.now - v.at_) 500 then s.commitSolve v g b else s
      | none => s)

/-! ### Estimate export (R246, R247) -/

/-- The path maps of R104 in an output header, for this chip alone: live sides by bit. -/
def State.ownMaps (s : State) : Nat × Nat :=
  (maskOf 64 fun i => !s.txRetired i, maskOf 64 fun i => !s.rxRetired i)

/-- The header of every U-UL payload (R267): record type, carrier, section, first layer, items, PRBs, missing chips, and the path maps by
position. -/
def State.ulHeader (s : State) (rtype car id lFirst nItem first n missing : Nat) (maps : List (Nat × Nat)) : List Byte :=
  bytesOf 1 (rtype * 16 + car * 4 + (s.chips - 1)) ++ bytesOf 2 (id * 16) ++ bytesOf 1 (lFirst % 16 * 16) ++ bytesOf 1 nItem
    ++ bytesOf 2 first ++ bytesOf 2 n ++ bytesOf 1 (missing * 16) ++ bytesOf 2 0
    ++ (List.range s.chips).flatMap fun i => let (t, r) := maps.getD i (0, 0); bytesOf 8 t ++ bytesOf 8 r

/-- A U-UL parcel (R267, R401): it goes to the carrier's end in force. -/
def State.ulParcel (s : State) (sub car stream air : Nat) (due : Option (Nat × Nat)) (payload : List Byte) : Parcel :=
  { plane := 2, sub := sub, flow := mkFlow (5 + s.fld (Reg.PKT_OWN car) 4 4) s.position car stream, air := air, payload := payload, due := due }

/-- A weight or estimate column as six BFP blocks (R196), and how many saturated. -/
def inlineEncode (code : Nat) (col : List CInt) : List Byte × Nat :=
  let parts := (col ++ List.replicate 8 (0, 0)).flatMap fun (x : CInt) => [x.1, x.2]
  bfpRun 16 (bfpWidth code) ((List.range 6).map fun b => (parts.drop (24 * b)).take 24)

/-- The record of a group (R246), and its saturated blocks. -/
def State.estRecord (s : State) (v : Solve) (x : SolveGroup) : List Byte × Nat :=
  let noise := satInt (-32768) 32767 (logSteps 1 (mkRat x.sig2 (8191 * 8191)))
  let cols := (List.range v.k).map fun j => inlineEncode (s.fld (Reg.SYM_BFP_CFG v.car) 1 0) (x.h16.map fun r => r.getD j (0, 0))
  (bytesOf 1 x.g ++ bytesOf 1 v.k ++ bytesOf 1 (toBits 8 x.eh) ++ bytesOf 1 s.position ++ bytesOf 2 (toBits 16 noise)
    ++ cols.flatMap (·.1), (cols.map (·.2)).foldl (· + ·) 0)

/-- The record of one group is queued, with the deadline on the last of them (R246, R247). The spec gives the header's first layer and
item count no value for it: free values. `maps` are the live maps of the chips, as R104 gives them. -/
def State.exportGroup (s : State) (v : Solve) (x : SolveGroup) (last : Bool) (maps : List (Nat × Nat)) : State :=
  let (body, sat) := s.estRecord v x
  let (l, s) := s.freeNat
  let (n, s) := s.freeNat
  let prbs := min 4 (s.carPrbs v.car - 4 * x.g)
  let due := if last then some (Reg.WSV_EXPORT_LATE_CNT, v.at_ + 245760) else none
  let s := s.bumpBy (Reg.SYM_BFP_SAT_CNT v.car) sat
  s.send (s.ulParcel 1 v.car (l % 16) (stampOf (symOfIdx v.anchor) 0) due
    (s.ulHeader 4 v.car v.sec.id l (n % 64) (4 * x.g) prbs 0 maps ++ body))

/-- The live maps of the chips by position: the chip's own as it stands, the others' as they have told. -/
def State.mapsWith (s : State) (own : Nat × Nat) (others : Vector (BitVec 64 × BitVec 64) 4) : List (Nat × Nat) :=
  (List.finRange 4).map fun i => if i.val = s.position then own else ((others[i]).1.toNat, (others[i]).2.toNat)

/-- The chip's live maps at the FFT window start of symbol `k` (R104); as they stand for a symbol that gave no output. -/
def State.mapsFor (s : State) (k : Nat) : Nat × Nat :=
  match s.ulr.ffts.find? fun f => f.sym == k with
  | some f => (f.txMap, f.rxMap)
  | none => s.ownMaps

/-- ESTIMATE_EXPORT of a solve with export set (R246). `others` are the live maps of the other chips. -/
def execEstimateExport (c : Fin 4) (tag : BitVec 8) (others : Vector (BitVec 64 × BitVec 64) 4) (s : State) : Res :=
  .next (match s.solveOf c tag.toNat with
    | none => s
    | some v =>
      if v.sec.exportEst && v.formed && !v.exported && !v.dropped then
        let maps := s.mapsWith (s.mapsFor v.anchor) others
        let s := v.gs.foldl (fun s g =>
          match v.group g with
          | some x => s.exportGroup v x (v.gs.getLast? == some g) maps
          | none => s) s
        (s.setSolve v.car v.sec.tag fun v => { v with exported := true }).sweepSolves
      else s)

end Sys2Proof.Machine
end

