-- ==== Sys2Proof/Machine/UplinkOps.lean ====
section
/-! DEFINITION. The arithmetic of the uplink receiver: DMRS patterns (R249, R256), estimates and offsets (R256 to R258), covariance and
MMSE-IRC filters (R259 to R261), the beamspace selection (R253 to R255), returns (R430), and the PRACH profile and peaks (R273 to R277). -/

namespace Sys2Proof.Machine

/-! ### DMRS (R249, R250, R256) -/

/-- The CDM group of a DMRS port (TS 38.211 tables 6.4.1.1.3-1 and -2). -/
def cdmGroup (type2 : Bool) (port : Nat) : Nat := if type2 then port % 6 / 2 else port % 4 / 2

/-- The CDM group and k' of RE `i` of a PRB. -/
def reGroup (type2 : Bool) (i : Nat) : Nat × Nat := if type2 then (i % 6 / 2, i % 2) else (i % 2, i / 2 % 2)

/-- The cover wf(k) wt(s) of a port on RE `i` of DMRS symbol number `l` of an occasion. -/
def dmrsCover (type2 : Bool) (port i l : Nat) : Rat :=
  let f := (reGroup type2 i).2 = 1 ∧ port % 2 = 1
  let t := l = 1 ∧ (if type2 then 6 else 4) ≤ port
  (if f then -1 else 1) * (if t then -1 else 1)

/-- The port exists for the type and length (R251). -/
def portExists (type2 double : Bool) (port : Nat) : Bool :=
  decide (port < (if type2 then 6 else 4) * (if double then 2 else 1))

/-- The layers of a section in order: user number, port and user (R249). -/
def UlSec.layers (u : UlSec) : List (Nat × Nat × UserGroup) :=
  (List.zip (List.range u.users.length) u.users).flatMap fun (i, g) => (List.range g.nLay).map fun j => (i, g.ports.getD j 0, g)

/-- The estimate occasions of a section by first symbol, and their length (R250). -/
def UlSec.occasions (u : UlSec) : List Nat := (List.range 14).filter fun i => bitOf u.mask i
def UlSec.occLen (u : UlSec) : Nat := if u.dmrsDouble then 2 else 1

/-- Symbol `y` of the slot carries DMRS of the section. -/
def UlSec.isDmrs (u : UlSec) (y : Nat) : Bool := bitOf u.mask y || (u.dmrsDouble && decide (1 ≤ y) && bitOf u.mask (y - 1))

/-- The occasion that symbol `y` uses, by its first symbol (est_mode of R249): the distance counts from the nearer symbol of a pair. -/
def UlSec.occOf (u : UlSec) (y : Nat) : Option Nat :=
  if u.estFirst then u.occasions.head?
  else
    let dist := fun o => if y < o then o - y else y - min y (o + u.occLen - 1)
    u.occasions.foldl (fun best o => match best with
      | some b => if dist o < dist b then some o else some b
      | none => some o) none

/-- The CDM groups of a section whose REs carry no data: those without data and those of its ports. -/
def UlSec.dmrsGroups (u : UlSec) : List Nat :=
  (List.range (if u.dmrs2 then 3 else 2)).filter fun g => decide (g < u.cdm) || u.layers.any fun (_, p, _) => cdmGroup u.dmrs2 p == g

/-- RE `i` of a PRB carries DMRS in a DMRS symbol. -/
def UlSec.dmrsRe (u : UlSec) (i : Nat) : Bool := u.dmrsGroups.contains (reGroup u.dmrs2 i).1

/-- The DMRS amplitude relative to data (R249): 0, −3.01 or −4.77 dB. -/
def UlSec.beta (u : UlSec) : Rat := tenth (if u.cdm = 2 then -301 else if u.cdm = 3 then -477 else 0)

/-- The number of receiver dimensions of a section (R252). -/
def UlSec.dims (u : UlSec) : Nat := if u.combine then u.nCol else 32

/-! ### Estimates (R256) -/

/-- The receiver's input of a section: by symbol of the slot, dimension and RE of the section's range. -/
abbrev RxIn : Type := Nat → Nat → Nat → CRat

/-- c_init of the DMRS sequence of a user in symbol `y` of slot `slot` (TS 38.211 §6.4.1.1.1.1, R250). -/
def dmrsInit (g : UserGroup) (slot y : Nat) : Nat :=
  (2 ^ 17 * (14 * (slot % 20) + y + 1) * (2 * g.nId + 1) + 2 * g.nId + if g.scid then 1 else 0) % 2 ^ 31

/-- The pseudo-random bits of a section's users, by user identity and DMRS symbol. -/
abbrev DmrsTab : Type := List ((Nat × Bool × Nat) × Array Bool)

/-- The bits that a section's DMRS takes in a slot, from common resource block 0 on, for a carrier `crb` blocks above it. -/
def UlSec.dmrsTab (u : UlSec) (crb slot : Nat) : DmrsTab :=
  ((List.range 14).filter fun y => u.isDmrs y).flatMap fun y => u.users.map fun g =>
    ((g.nId, g.scid, y), (goldSeq (dmrsInit g slot y) (12 * (crb + u.first + u.n))).toArray)

/-- 1/√2 to 160 bits. -/
def halfRoot : Rat := mkRat (rootFloor 2 (2 ^ 319)) (2 ^ 160)

/-- The unit-magnitude value r(m) of TS 38.211 §6.4.1.1.1.1 on the subcarrier with number `k` from common resource block 0: m is k/2 for
type 1, and 2⌊k/6⌋ + k mod 2 for type 2 (§6.4.1.1.3). -/
def dmrsBit (bits : Array Bool) (type2 : Bool) (k : Nat) : CRat :=
  let m := if type2 then 2 * (k / 6) + k % 2 else k / 2
  let part := fun i => if bits.getD i false then -halfRoot else halfRoot
  (part (2 * m), part (2 * m + 1))

/-- The DMRS value of a layer's user on RE `i` of PRB `n` with the carrier's offset `crb`, in symbol `y` (R250). -/
def dmrsVal (tab : DmrsTab) (u : UlSec) (g : UserGroup) (crb y n i : Nat) : CRat :=
  match tab.find? fun (k, _) => k == (g.nId, g.scid, y) with
  | some (_, bits) => dmrsBit bits u.dmrs2 (12 * (crb + n) + i)
  | none => (0, 0)

/-! ### PTRS (R264, TS 38.211 §6.4.1.2) -/

/-- The PTRS symbols of an allocation of `n` symbols with time density `l`, both counted from its start; `dm` says where DMRS stands
(§6.4.1.2.2.1): the place counts in steps of `l` from the last reference, which a DMRS symbol replaces. -/
def ptrsWalk (dm : Nat → Bool) (l n : Nat) : Nat → Nat → Nat → List Nat
  | 0, _, _ => []
  | f + 1, ref, i =>
    if n ≤ ref + i * l then []
    else
      let lo := if i = 0 then ref else ref + (i - 1) * l + 1
      match ((List.range n).filter fun y => lo ≤ y && y ≤ ref + i * l && dm y).getLast? with
      | some y => ptrsWalk dm l n f (if dm (y + 1) then y + 1 else y) 1
      | none => (ref + i * l) :: ptrsWalk dm l n f ref (i + 1)

/-- Symbol `y` of the slot carries PTRS of user `g` of a section. -/
def UlSec.isPtrs (u : UlSec) (g : UserGroup) (y : Nat) : Bool :=
  u.start ≤ y && (ptrsWalk (fun k => u.isDmrs (u.start + k)) (max 1 g.lPt) u.nSym 64 0 0).contains (y - u.start)

/-- k_ref^RE of table 6.4.1.2.2.1-1. -/
def ptrsRe (type2 : Bool) (port ofs : Nat) : Nat :=
  let row := if type2 then [[0, 1, 6, 7], [1, 6, 7, 0], [2, 3, 8, 9], [3, 8, 9, 2], [4, 5, 10, 11], [5, 10, 11, 4]]
    else [[0, 2, 6, 8], [2, 4, 8, 10], [1, 3, 7, 9], [3, 5, 9, 11]]
  match row[port]? with
  | some r => r.getD ofs 0
  | none => Config.ptrsOffset port ofs % 12

/-- The PTRS value of user `g` on RE `re` of a section's range in symbol `y`: the value of its first DMRS symbol on that subcarrier
(§6.4.1.2.1.1), or none where the RE carries no PTRS. -/
def UlSec.ptrsVal (u : UlSec) (tab : DmrsTab) (g : UserGroup) (crb y re : Nat) : Option CRat :=
  let k := max 1 g.kPt
  let rb := if u.n % k = 0 then Config.rnti g.nId g.scid % k else Config.rnti g.nId g.scid % (u.n % k)
  if u.isPtrs g y && re / 12 % k == rb && re % 12 == ptrsRe u.dmrs2 (g.ports.getD g.assoc 0) g.reOfs then
    u.occasions.head?.map fun o => dmrsVal tab u g crb o (u.first + re / 12) (re % 12)
  else none

/-- The estimate of a layer on PRB `n` and one dimension in the occasion that starts at `o` (R256). -/
def UlSec.estimate (u : UlSec) (tab : DmrsTab) (z : RxIn) (crb o : Nat) (layer : Nat × Nat × UserGroup) (n d : Nat) : CRat :=
  let (_, port, g) := layer
  let res := (List.range 12).filter fun i => (reGroup u.dmrs2 i).1 == cdmGroup u.dmrs2 port
  let acc := rSum ((List.range u.occLen).flatMap fun l => res.map fun i =>
    rScale (dmrsCover u.dmrs2 port i l) (rMul (z (o + l) d (12 * (n - u.first) + i)) (rConj (dmrsVal tab u g crb (o + l) n i))))
  rScale (1 / ((((res.length * u.occLen : Nat) : Rat)) * u.beta)) acc

/-- Residual of an occasion on one RE by dimension (R259): `h` gives the estimate by layer and dimension. -/
def UlSec.residualRe (u : UlSec) (tab : DmrsTab) (z : RxIn) (h : Nat → Nat → CRat) (crb o l n i : Nat) : List CRat :=
  (List.range u.dims).map fun d =>
    let fit := rSum ((List.zip (List.range u.layers.length) u.layers).map fun (j, (_, port, g)) =>
      if cdmGroup u.dmrs2 port = (reGroup u.dmrs2 i).1 then
        rScale (dmrsCover u.dmrs2 port i l * u.beta) (rMul (h j d) (dmrsVal tab u g crb (o + l) n i))
      else (0, 0))
    rAdd (z (o + l) d (12 * (n - u.first) + i)) (rScale (-1) fit)

/-- The DMRS residuals of one PRB of a section in an occasion (R259). -/
def UlSec.residuals (u : UlSec) (tab : DmrsTab) (z : RxIn) (h : Nat → Nat → CRat) (crb o n : Nat) : List (List CRat) :=
  (List.range u.occLen).flatMap fun l => ((List.range 12).filter fun i => u.dmrsRe i).map fun i => u.residualRe tab z h crb o l n i

/-! ### Covariance and filters (R259 to R261) -/

/-- The covariance rr of residuals of `dims` dimensions with `dof` degrees of freedom (R259). -/
def covariance (dims : Nat) (es : List (List CRat)) (dof : Int) : List (List CRat) :=
  if dof ≤ 0 then rMat dims dims fun _ _ => (0, 0)
  else rMat dims dims fun i j =>
    rScale (1 / (dof : Rat)) (rSum (es.map fun e => rMul (e.getD i (0, 0)) (rConj (e.getD j (0, 0)))))

/-- The inverse of the loaded covariance of R259 and R260, and whether the diagonal one took its place. -/
def whitening (dims : Nat) (rr : List (List CRat)) (rho fl : Rat) (pivBits : Nat) : List (List CRat) × Bool :=
  let load := fun (r : Rat) => rMat dims dims fun i j =>
    if i = j then ((rget rr i i).1 + fl, 0) else rScale (1 - r) (rget rr i j)
  let rs := load rho
  let (l, d) := ldl rs dims
  let top := (List.range dims).foldl (fun m i => max m (rget rs i i).1) 0
  if d.any fun x => decide (x < top * pow2 (-(pivBits : Int))) then
    let (l, d) := ldl (load 1) dims
    (ldlInverse l d dims, true)
  else (ldlInverse l d dims, false)

/-- The filter and beta of a PRB (R260): `h` by layer and dimension. -/
def mmse (dims layers : Nat) (ri : List (List CRat)) (h : Nat → Nat → CRat) : List (List CRat) × List Rat :=
  let hr := rProd (rMat layers dims fun l d => rConj (h l d)) ri layers dims dims
  let a := rMat layers layers fun i j =>
    let x := rSum ((List.range dims).map fun d => rMul (rget hr i d) (h j d))
    if i = j then (x.1 + 1, 0) else x
  let (l, d) := ldl a layers
  let c := ldlInverse l d layers
  (rProd c hr layers layers dims, (List.range layers).map fun i => 1 - (rget c i i).1)

/-- A layer's PRB is unrecoverable (R261). -/
def lostLayer (beta : Rat) : Bool := decide (beta ≤ pow2 (-16))

/-- The SINR code of a layer on a PRB (R261, R266); `dev` from 0 to 1 places the open error of R263 between −0.1 and +0.1 dB. -/
def sinrCode (beta dev : Rat) : Nat :=
  if lostLayer beta then 0
  else if beta = 1 then 255
  else
    let f := tenth (-20) + (tenth 20 - tenth (-20)) * dev
    (satInt 0 255 (logSteps 25 (beta / (1 - beta) * f) + 40)).toNat

/-! ### Beamspace (R209, R253 to R255) -/

/-- Dimensions of the chip at a position in a cascade of `n` chips, and the first of them at the head (R209). -/
def dimsAt (n pos : Nat) : Nat × Nat :=
  match n with
  | 1 => (32, 0)
  | 2 => (16, 16 * pos)
  | 3 => if pos = 0 then (12, 0) else (10, 12 + 10 * (pos - 1))
  | _ => (8, 8 * pos)

/-- Numbers in ascending order, each placed once. -/
def insertAsc (x : Nat) : List Nat → List Nat
  | [] => [x]
  | y :: t => if x ≤ y then x :: y :: t else y :: insertAsc x t

/-- A list of numbers in ascending order. -/
def sortAsc (l : List Nat) : List Nat := l.foldr insertAsc []

/-- The default set (R255). -/
def State.defaultSet (s : State) : List Nat :=
  sortAsc ((List.range (dimsAt s.chips s.position).1).map fun j =>
    s.fld (Reg.ULR_SEL_DEFAULT (j / 4)) (8 * (j % 4) + 7) (8 * (j % 4)) % 64)

/-- The set of a carrier and group in force (R253). -/
def State.beamSet (s : State) (c g : Nat) : List Nat := tabGet (fun _ => s.defaultSet) s.ulr.sel (c * 69 + g)

/-- Slot `slot` lies before the slot whose sets are in force. -/
def State.beforeSel (s : State) (slot : Nat) : Bool :=
  match s.ulr.selSlot with
  | some n => slot != n && decide ((n + 20480 - slot) % 20480 < 10240)
  | none => false

/-- The set of a carrier and group for a slot: it is fixed over the slot (R255). -/
def State.beamSetAt (s : State) (slot c g : Nat) : List Nat :=
  if s.beforeSel slot then tabGet (fun _ => s.defaultSet) s.ulr.selOld (c * 69 + g) else s.beamSet c g

/-- The survey average of a carrier, group and beam (R254). -/
def State.survey (s : State) (c g k : Nat) : Nat := tabGet (fun _ => 0) s.ulr.pw ((c * 69 + g) * 64 + k)

/-- Beams in descending power, the lower number first among equals. -/
def byPower (pw : Nat → Nat) (l : List Nat) : List Nat :=
  l.foldl (fun acc c =>
    let (a, b) := acc.span fun x => decide (pw c ≤ pw x)
    a ++ c :: b) []

/-- The beam of a set with the smallest power, the higher number among equals. -/
def weakest (pw : Nat → Nat) (set : List Nat) : Option Nat :=
  set.foldl (fun best m => match best with
    | some b => if pw m ≤ pw b then some m else some b
    | none => some m) none

/-- The replacements of R255 for the candidates `cs`: `num` is round(2^8 · 10^(hyst/40)). -/
def replaceBeams (pw : Nat → Nat) (num : Nat) : List Nat → List Nat → List Nat
  | [], set => set
  | c :: cs, set =>
    match weakest pw set with
    | some m => if pw m * num < pw c * 256 then replaceBeams pw num cs (sortAsc (set.map fun x => if x = m then c else x)) else set
    | none => set

/-! ### Returns (R430) -/

/-- The pieces of a range of `n` PRBs of which at most `m` fit: whole groups of four but for the last (R269). -/
def splitRun : Nat → Nat → Nat → Nat → List (Nat × Nat)
  | 0, _, _, _ => []
  | f + 1, m, first, n => if n = 0 then [] else if n ≤ m then [(first, n)]
    else
      let k := max 4 (m / 4 * 4)
      (first, k) :: splitRun f m (first + k) (n - k)

/-- PRBs of width `w` that fit `room` bytes. -/
def prbsIn (w room : Nat) : Nat := room * 8 / bfpBlockBits w

/-- The 24-part blocks of PRBs `first` to `first + n − 1` of a run of REs that starts at PRB `p0`. -/
def blocksOf (z : List CInt) (p0 first n : Nat) : List (List Int) :=
  (List.range n).map fun i => ((z.drop (12 * (first + i - p0))).take 12).flatMap fun (x : CInt) => [x.1, x.2]

/-- A run of PRBs from bytes as REs of `p`-bit parts, and how many blocks saturated (R173). -/
def runRes (p w : Nat) (bs : List Byte) (n : Nat) : List CInt × Nat :=
  let bl := (List.range n).map fun i => let (e, m) := bfpBlockAt w (natOf bs) (8 * bs.length) i; bfpDecode p e m
  (bl.flatMap fun (v, _) => (List.range 12).map fun i => (v.getD (2 * i) 0, v.getD (2 * i + 1) 0), bl.countP (·.2))

/-- A RETURN as received (R430), and its saturated blocks. -/
def readReturn (car sym : Nat) (bs : List Byte) : Ret × Nat :=
  let w := if bitOf (byteAt bs 0) 6 then 12 else 9
  let n := fieldAt bs 7 2 % 512
  let len := bfpRunBytes w n
  let runs := (List.range (byteAt bs 4 % 64)).map fun j => runRes 24 w ((bs.drop (12 + j * len)).take len) n
  ({ sym := sym, car := car, id := fieldAt bs 1 2 / 16, combine := bitOf (byteAt bs 0) 7, contrib := byteAt bs 0 % 16,
     dimFirst := byteAt bs 3 % 64, first := fieldAt bs 5 2 % 512, n := n, z := runs.map (·.1) },
   (runs.map (·.2)).foldl (· + ·) 0)

/-- The payload of a RETURN of one or more dimensions, and its saturated blocks. -/
def returnBytes (wide combine : Bool) (contrib id dim first n : Nat) (z : List (List CInt)) (p0 : Nat) : List Byte × Nat :=
  let w := if wide then 12 else 9
  let runs := z.map fun d => bfpRun 24 w (blocksOf d p0 first n)
  (bytesOf 1 ((if combine then 128 else 0) + (if wide then 64 else 0) + contrib) ++ bytesOf 2 (id * 16) ++ bytesOf 1 dim
    ++ bytesOf 1 z.length ++ bytesOf 2 first ++ bytesOf 2 n ++ [0, 0, 0] ++ runs.flatMap (·.1), (runs.map (·.2)).foldl (· + ·) 0)

/-! ### PRACH (R273 to R277) -/

/-- Ncs of a zeroCorrelationZoneConfig (R273). -/
def nCsOf (zcz : Nat) : Nat := [0, 2, 4, 6, 8, 10, 12, 13, 15, 17, 19, 23, 27, 34, 46, 69].getD zcz 0

/-- The physical root of a logical one for L_RA = 139 (TS 38.211 §6.3.3.1). -/
def physRoot (l : Nat) : Nat := if l % 138 % 2 = 0 then l % 138 / 2 + 1 else 139 - (l % 138 / 2 + 1)

/-- Preambles of a root (R274), and the logical roots of an occasion. -/
def perRoot (zcz : Nat) : Nat := if nCsOf zcz = 0 then 1 else 139 / nCsOf zcz
def PrachSec.roots (x : PrachSec) : List Nat :=
  (List.range ((64 + perRoot x.zcz - 1) / perRoot x.zcz)).map fun i => (x.root + i) % 138

/-- The value of the Zadoff-Chu sequence of a physical root (TS 38.211 §6.3.3.1). -/
def zcVal (u n : Nat) : CRat := cis (-(mkRat (u * n * (n + 1) : Nat) 278))

/-- The profile of one physical root over the beams, whose bins summed over repetitions are `yc` by beam (R275). -/
def pdpOf (yc : List (List CInt)) (u : Nat) : List Rat :=
  (List.range 1024).map fun q => yc.foldl (fun p y =>
    p + rAbs2 (rSum ((List.zip (List.range 139) y).map fun (n, v) =>
      rMul (ofInt v) (rMul (rConj (zcVal u n)) (cis (mkRat (n * q : Nat) 1024)))))) 0

/-- A profile as u16 mantissas and the smallest exponent that fits (R429). -/
def pdpParts (p : List Rat) : Int × List Nat :=
  let e := firstFrom (fun e => p.all fun x => decide (roundRat (x * pow2 (-e)) ≤ 65535)) 255 (-128)
  (e, p.map fun x => (roundRat (x * pow2 (-e))).toNat % 65536)

/-- A peak: preamble, second peak or not, grid bin, delay in bins, and power. -/
structure Peak where
  preamble : Nat
  second : Bool
  dq : Nat
  delay : Rat
  power : Rat
  deriving DecidableEq, Repr

/-- The delay of a peak in bins, refined by a parabola through its neighbours (R276). -/
def peakDelay (p : List Rat) (q dq : Nat) : Rat :=
  let a := p.getD ((q + 1023) % 1024) 0
  let b := p.getD (q % 1024) 0
  let c := p.getD ((q + 1) % 1024) 0
  let den := 2 * (a - 2 * b + c)
  (dq : Rat) - (if den = 0 then 0 else (a - c) / den)

/-- The peaks of a preamble on the profile of its root: the largest, and the largest of those at least `sep` bins from it (R275, R276). -/
def peaksOf (p : List Rat) (limit : Rat) (zcz v preamble sep : Nat) : List Peak :=
  let ncs := nCsOf zcz
  let c := (roundDiv ((v * ncs * 1024 : Nat) : Int) 139).toNat
  let found := (List.range 1024).filterMap fun dq =>
    let q := (c + 2048 - dq) % 1024
    let x := p.getD q 0
    if (ncs = 0 ∨ dq * 139 < ncs * 1024) ∧ limit < x ∧ p.getD ((q + 1023) % 1024) 0 < x ∧ p.getD ((q + 1) % 1024) 0 ≤ x then
      some { preamble := preamble, second := false, dq := dq, delay := peakDelay p q dq, power := x : Peak }
    else none
  let best := fun (l : List Peak) => l.foldl (fun (b : Option Peak) x => match b with
    | some y => if y.power < x.power then some x else some y
    | none => some x) none
  match best found with
  | none => []
  | some a =>
    match best (found.filter fun x => decide (a.dq + sep ≤ x.dq ∨ x.dq + sep ≤ a.dq) && x.dq != a.dq) with
    | some b => [a, { b with second := true }]
    | none => [a]

/-- The mean of a list of rationals. -/
def meanRat (l : List Rat) : Rat := if l = [] then 0 else l.foldl (· + ·) 0 / (l.length : Rat)

/-- The noise n2 of R275 over the profiles of an occasion, for the threshold factor `thr`. -/
def prachNoise (ps : List (List Rat)) (thr : Rat) : Rat :=
  let all := ps.flatten
  meanRat (all.filter fun x => decide (x ≤ thr * meanRat all))

/-- The peaks of an occasion's preambles in order (R274 to R276). -/
def occasionPeaks (x : PrachSec) (ps : List (List Rat)) (limit : Rat) (sep : Nat) : List Peak :=
  (List.range 64).flatMap fun i => peaksOf (ps.getD (i / perRoot x.zcz) []) limit x.zcz (i % perRoot x.zcz) i sep

/-- The `n` strongest peaks, in their order; among equals those of the lower preambles (R277). -/
def strongest (n : Nat) (l : List Peak) : List Peak :=
  let ix := List.zip (List.range l.length) l
  (ix.filter fun (i, p) => decide (ix.countP (fun (j, q) => decide (p.power < q.power) || (p.power == q.power && decide (j < i))) < n)).map (·.2)

end Sys2Proof.Machine
end

