-- ==== Sys2Proof/Machine/Uplink.lean ====
section
/-! DEFINITION. Chapter 07 and the uplink of chapters 04, 05 and 11: a U symbol from its FFT to its output (R152, R211 to R214, R249 to
R272, R430 to R432), the beamspace selection (R255), and PRACH (R273 to R279). -/

namespace Sys2Proof.Machine

/-! ### FFT (R152, R99, R114, R220) -/

/-- Symbol number `e` lies at most `n` symbols before symbol number `k`. -/
def within (n k e : Nat) : Bool := decide ((k + 286720 - e) % 286720 < n)

/-- Tick at which the FFT window of a U symbol begins, and at which it ends (R16). -/
def State.windowOf (s : State) (a : AirSym) : Nat × Nat :=
  let t := s.ulTick a + cpLen a.sym * ticksPerSample
  (t, t + 4096 * ticksPerSample)

/-- The window holds a sample that is invalid for want of a lock (R114). -/
def State.windowLost (s : State) (a : AirSym) : Bool :=
  let (t, e) := s.windowOf a
  (s.clk.unlocked && decide (s.clk.unlockAt < e)) || s.clk.outages.any fun (a, b) => decide (a < e) && decide (t < b)

/-- The live maps at tick `t` (R104): a side that has changed since then had the other status. -/
def State.mapsAt (s : State) (t : Nat) : Nat × Nat :=
  (maskOf 64 fun i => s.txRetired i == decide (t < (s.paths.toList.getD i {}).txSince),
    maskOf 64 fun i => s.rxRetired i == decide (t < (s.paths.toList.getD i {}).rxSince))

/-- Symbol number `e` lies at most 279 symbols before symbol number `k`, or after it, resolved within half a cycle (R19). -/
def recent (k e : Nat) : Bool := within 280 k e || decide (143360 ≤ (k + 286720 - e) % 286720)

/-- What the receiver holds of symbols more than a frame older than `k` goes. -/
def State.purgeUl (s : State) (k : Nat) : State :=
  let new := recent k
  let s := s.setUlr fun u =>
    { u with
      ffts := u.ffts.filter fun f => new f.sym, lost := u.lost.filter new, outs := u.outs.filter fun o => new o.sym,
      returns := u.returns.filter fun r => new r.sym, sending := u.sending.filter new, cut := u.cut.filter new,
      occs := u.occs.filter fun o => new o.sym, phases := u.phases.filter fun p => new p.occ,
      prach := u.prach.filter fun p => new p.sym, prachIn := u.prachIn.filter fun p => new p.sym }
  s.setBmx fun m => { m with jobs := m.jobs.filter fun j => !s.isU j.a || new (symIdx j.a) }

/-- A U symbol without output (R114): counted once, and the solves that name it are dropped (R220). -/
def State.loseSymbol (s : State) (k : Nat) : State :=
  let s := (s.setUlr fun u => { u with lost := k :: u.lost }).bump Reg.SYN_UL_LOST_CNT
  (s.ulr.solves.filter fun v => v.syms.contains k && !v.dropped && !v.ended).foldl (fun s v => s.dropSolve v) s

/-- The samples of each carrier by antenna over U symbol `a` (R163), with the saturated samples counted (R147); an antenna that feeds zeros
has none. -/
def State.ulSamples (s : State) (a : AirSym) (adc : List (List Adc)) : List (List Samples) × State :=
  let front := (List.finRange 64).map fun (p : Fin 64) => if s.rxZero p then (([] : Samples), 0) else s.rxFront a p (adc.getD p [])
  let cars := (List.finRange 4).map fun (c : Fin 4) => front.map fun (x, _) => if s.carIn c then s.carSamples a c x else ([], 0)
  (cars.map fun l => l.map (·.1),
    s.forPaths fun s p => s.bumpBy (Reg.DFE_RX_SAT_CNT p) ((front.getD p ([], 0)).2 + (cars.map fun l => (l.getD p ([], 0)).2).sum))

/-- ADC samples of a U symbol that clip while the index is frozen (R83, R84). -/
def State.countClips (s : State) (a : AirSym) (adc : List (List Adc)) : State :=
  s.forPaths fun s p =>
    s.bumpBy (Reg.RXP_CLIP_CNT p) (((((adc.getD p []).drop adcReach).take (8 * symLen a.sym)).zipIdx).countP fun (x, i) =>
      clips x && s.frozenAt p (s.ulTick a + i))

/-- The PRACH occasions that symbol `k` lies in take its samples (R166), its clipping on live paths (R278), and at their first symbol the path
maps (R104). -/
def State.feedPrach (s : State) (k : Nat) (adc : List (List Adc)) (xs : List (List Samples)) (maps : Nat × Nat) : State :=
  let clip := fun (o : PrachOcc) => ((List.finRange 64).map fun (p : Fin 64) =>
    if s.rxRetired p then 0 else o.clipsIn k (fun i => s.frozenAt p (s.ulTick (symOfIdx k) + i)) (adc.getD p [])).sum
  s.setUlr fun u => { u with
    prach := u.prach.map fun o =>
      if o.covers k then
        { o with parts := o.parts ++ [(k, xs.getD o.car [])], clip := o.clip + clip o, maps := if o.sym = k then maps else o.maps }
      else o }

/-- The REs of a symbol by carrier, antenna and subcarrier, with the saturated ones counted (R147, R148, R165). DEDUCED: the N0 in force for the
symbol is that of its window's start (R164). -/
def State.ulGrid (s : State) (a : AirSym) (xs : List (List Samples)) : List (List Samples) × State :=
  let g := (List.finRange 4).map fun (c : Fin 4) => (xs.getD c []).map fun x =>
    subcarriers (12 * s.carPrbs c) (s.n0At c (s.windowOf a).1) (bodyStart a) (fftWindow a x)
  (g.map fun car => car.map fun x => x.map (·.1),
    (List.finRange 4).foldl (fun s (c : Fin 4) =>
      s.bumpBy (Reg.SYM_FFT_SAT_CNT c) ((g.getD c []).map fun x => x.countP (·.2)).sum) s)

/-- FFT_COMPLETE of U symbol `a` (R152): `adc` holds the ADC codes of each path from `adcReach` samples before the symbol to as many after
it, at RXIN. -/
def execFftComplete (a : AirSym) (adc : List (List Adc)) (s : State) : Res :=
  .next (if !s.aligned || !s.isU a then s
    else
      let k := symIdx a
      let (xs, s) := (s.countClips a adc).ulSamples a adc
      let (g, s) := s.ulGrid a xs
      let s := s.purgeUl k
      let (tx, rx) := s.mapsAt (s.windowOf a).1
      let s := s.feedPrach k adc xs (tx, rx)
      if s.windowLost a then s.loseSymbol k
      else s.setUlr fun u => { u with ffts := { sym := k, grid := g, txMap := tx, rxMap := rx } :: u.ffts.filter fun f => f.sym != k })

/-! ### Beam matrix output (R207 to R214, R254) -/

/-- The antenna values of an RE. -/
def State.antennas (s : State) (c k re : Nat) : List CInt := (List.range 64).map fun a => s.fftRe c a k re

/-- The columns of an uplink section on a group: the selected beams, or the weights of its source (R210, R211). -/
def State.ulColumns (s : State) (slot c : Nat) (x : JobSec) (u : UlSec) (g : Nat) : List (List CInt) :=
  if u.combine then (List.range u.nCol).map fun j => s.column c x j g else (s.beamSetAt slot c g).map fun b => s.dftBeam b

/-- The outputs of one PRB by column and RE, with how many saturated (R211). -/
def State.reducePrb (s : State) (c k : Nat) (cols : List (List CInt)) (p : Nat) : List (List CInt) × Nat :=
  let rs := (List.range 12).map fun i => s.antennas c k (12 * p + i)
  let z := cols.map fun v => rs.map fun r => combineRe v r
  (z.map fun l => l.map (·.1), (z.flatten.filter (·.2)).length)

/-- This chip's output of a section in symbol `k`, by column and RE of the section's range: zeros on the PRBs that the section does
not cover there (R211). -/
def State.reduceSec (s : State) (c k : Nat) (x : JobSec) (u : UlSec) : List (List CInt) × Nat :=
  let n := if u.combine then u.nCol else (dimsAt s.chips s.position).1
  let prbs := (List.range u.n).map fun i =>
    let p := u.first + i
    if bitOf x.prbs p then s.reducePrb c k (s.ulColumns (k / 14) c x u (p / 4)) p else (List.replicate n (List.replicate 12 (0, 0)), 0)
  ((List.range n).map fun j => prbs.flatMap fun (z, _) => z.getD j [], (prbs.map (·.2)).foldl (· + ·) 0)

/-- A section's output with the head's dimensions of other chips still zero (R209, R252). -/
def State.placeOwn (s : State) (u : UlSec) (z : List (List CInt)) : List (List CInt) :=
  if u.combine || s.position != 0 then z else z ++ List.replicate (32 - z.length) (List.replicate (12 * u.n) (0, 0))

/-- The uplink sections of a symbol on a carrier. -/
def SymJob.ulSecs (j : SymJob) (c : Fin 4) : List (JobSec × UlSec) :=
  (j.cars[c]).secs.filterMap fun x => match x.sec with | .ul u => if x.refused then none else some (x, u) | _ => none

/-- The power of the 64 beams summed over the DMRS REs of a group that sections cover in symbols of an occasion (R254). -/
def State.surveyGroup (s : State) (c : Nat) (secs : List (JobSec × UlSec)) (o len g : Nat) : List Nat :=
  (List.range 64).map fun b =>
    let w := s.dftBeam b
    let e := secs.foldl (fun e (x, u) =>
      ((List.range u.n).map fun i => u.first + i).foldl (fun e p =>
        if p / 4 = g && bitOf x.prbs p then
          (List.range len).foldl (fun e l =>
            ((List.range 12).filter fun i => u.dmrsRe i).foldl (fun e i => e + cabs2 (cdot (w.map cconj) (s.antennas c (o + l) (12 * p + i)))) e) e
        else e) e) 0
    min 0xFFFFFFFF (roundDiv e (2 ^ 28)).toNat

/-- The surveys of the occasions that end with symbol `a`, on one carrier (R254). They enter the averages at a slot boundary (R255). -/
def State.surveyCar (s : State) (a : AirSym) (j : SymJob) (c : Fin 4) : State :=
  let k := symIdx a
  [2, 1].foldl (fun s len =>
    let o := k + 1 - len
    let secs := (j.ulSecs c).filter fun (_, u) =>
      !u.combine && u.occLen == len && decide (len ≤ a.sym.val + 1) && bitOf u.mask (a.sym.val + 1 - len)
    let ok := (List.range len).all fun l => s.ulr.ffts.any fun f => f.sym == o + l
    if secs = [] || !ok then s
    else
      let gs := (List.range 69).filter fun g => secs.any fun (x, _) => Nat.land x.prbs (prbMask (4 * g) 4) != 0
      s.setUlr fun u => { u with
        surveys := u.surveys ++ gs.map fun g => ((s.windowOf a).2, c.val, g, s.surveyGroup c secs o len g) }) s

/-- A RETURN parcel of this chip (R429, R430). -/
def State.returnParcel (s : State) (k c : Nat) (payload : List Byte) : Parcel :=
  { plane := 5, sub := 0, flow := mkFlow 0 s.position c 0, air := stampOf (symOfIdx k) 0, payload := payload }

/-- PRBs of a RETURN that fit its payload. -/
def State.returnPrbs (s : State) : Nat := prbsIn (if s.bit Reg.PKT_BRIDLE_CFG 0 then 12 else 9) (8192 - 12)

/-- One dimension of an output is sent in its pieces (R430, R431). -/
def State.sendDim (s : State) (o : UlOut) (dim : Nat) (z : List CInt) : State :=
  (splitRun 273 s.returnPrbs o.sec.first o.sec.n).foldl (fun s (f, n) =>
    let (bs, sat) := returnBytes (s.bit Reg.PKT_BRIDLE_CFG 0) o.sec.combine o.contrib o.sec.id dim f n [z] o.sec.first
    (s.bumpBy (Reg.SYM_BFP_SAT_CNT o.car) sat).enqueue (s.routeTo 0) (s.returnParcel o.sym o.car bs)) s

/-- An output is sent whole. -/
def State.sendOut (s : State) (o : UlOut) : State :=
  let d0 := if o.sec.combine then 0 else (dimsAt s.chips s.position).2
  let s := (List.zip (List.range o.z.length) o.z).foldl (fun s (j, z) => s.sendDim o (d0 + j) z) s
  s.setUlr fun u => { u with outs := u.outs.map fun x => if x = o then { x with sent := true } else x }

/-- The outputs of symbol `k` that are complete are sent, once sending has begun (R213, R431): beamspace at once, a partial of combine mode
alone at the end of the cascade, or where the downstream port is not UP. -/
def State.sendReturns (s : State) (k : Nat) : State :=
  if s.position = 0 || !s.ulr.sending.contains k then s
  else (s.ulr.outs.filter fun o => o.sym == k && !o.sent && (!o.sec.combine || s.isTail || !s.portUp 1)).foldl (fun s o => s.sendOut o) s

/-- RETURN_SEND_START of U symbol `a` (R431): from now on its returns go out as the beam matrix produces them. -/
def execReturnSendStart (a : AirSym) (s : State) : Res :=
  .next (if s.position = 0 || (s.jobOf a).isNone then s
    else (s.setUlr fun u => { u with sending := symIdx a :: u.sending.filter fun k => k != symIdx a }).sendReturns (symIdx a))

/-- A section's output of symbol `a` is complete on this chip (R211). -/
def State.completeSec (s : State) (k : Nat) (c : Fin 4) (x : JobSec) (u : UlSec) : State :=
  let (z, sat) := s.reduceSec c k x u
  let o : UlOut := { sym := k, car := c, no := x.no, sec := u, prbs := x.prbs, contrib := 2 ^ s.position, z := s.placeOwn u z }
  (s.bumpBy (Reg.BMX_UL_SAT_CNT c) sat).setUlr fun v => { v with outs := v.outs ++ [o] }

/-! ### Returns on the way (R213, R431, R432) -/

/-- A return's part of a section: columns `dimFirst` on, PRBs `first` to `first + n − 1`. -/
def Ret.holds (r : Ret) (j p : Nat) : Bool :=
  decide (r.dimFirst ≤ j) && decide (j < r.dimFirst + r.z.length) && decide (r.first ≤ p) && decide (p < r.first + r.n)

/-- The value of a return for column `j` on RE `i` of PRB `p`. -/
def Ret.at (r : Ret) (j p i : Nat) : CInt := (r.z.getD (j - r.dimFirst) []).getD (12 * (p - r.first) + i) (0, 0)

/-- Sums with s24 saturation, and how many saturated (R213). -/
def addSat (a b : List CInt) : List CInt × Nat :=
  let s := List.zipWith cadd a b
  (s.map (csat 24), s.countP fun x => !cfits 24 x)

/-- A combine partial from downstream meets this chip's own, and the sum goes on (R213). -/
def State.forwardSum (s : State) (r : Ret) (o : UlOut) : State :=
  let u := o.sec
  let (zs, sat) := (List.zip (List.range r.z.length) r.z).foldl (fun (zs, n) (j, z) =>
    let own := (List.range (12 * r.n)).map fun i => (o.z.getD (r.dimFirst + j) []).getD (12 * (r.first - u.first) + i) (0, 0)
    let (t, m) := addSat own z
    (zs ++ [t], n + m)) (([] : List (List CInt)), 0)
  let (bs, bad) := returnBytes (s.bit Reg.PKT_BRIDLE_CFG 0) true (Nat.lor r.contrib o.contrib) u.id r.dimFirst r.first r.n zs r.first
  ((s.bumpBy (Reg.BMX_UL_SAT_CNT r.car) sat).bumpBy (Reg.SYM_BFP_SAT_CNT r.car) bad).enqueue (s.routeTo 0) (s.returnParcel r.sym r.car bs)

/-- A partial that meets no output of this chip goes on as it came. -/
def State.forwardRet (s : State) (r : Ret) : State :=
  let (bs, _) := returnBytes (s.bit Reg.PKT_BRIDLE_CFG 0) true r.contrib r.id r.dimFirst r.first r.n r.z r.first
  s.enqueue (s.routeTo 0) (s.returnParcel r.sym r.car bs)

/-- The symbol has a section in combine mode with this id whose output is still to come. -/
def State.awaitsOut (s : State) (r : Ret) : Bool :=
  !s.ulr.lost.contains r.sym &&
    match s.jobOf (symOfIdx r.sym) with
    | some j => if h : r.car < 4 then (j.ulSecs ⟨r.car, h⟩).any fun (_, u) => u.combine && u.id == r.id else false
    | none => false

/-- A combine partial at a chip that is not the head: summed and sent on, kept until this chip's output is there, or passed on (R213). -/
def State.partialIn (s : State) (r : Ret) : State :=
  match s.ulr.outs.find? fun o => o.sym == r.sym && o.car == r.car && o.sec.combine && o.sec.id == r.id with
  | some o => s.forwardSum r o
  | none => if s.awaitsOut r then s.setUlr fun u => { u with returns := u.returns ++ [r] } else s.forwardRet r

/-- The partials of symbol `k` that waited for this chip's output. -/
def State.flushPartials (s : State) (k : Nat) : State :=
  if s.position = 0 then s
  else
    let mine := s.ulr.returns.filter fun r => r.sym == k
    let s := s.setUlr fun u => { u with returns := u.returns.filter fun r => r.sym != k }
    mine.foldl (fun s r =>
      match s.ulr.outs.find? fun o => o.sym == k && o.car == r.car && o.sec.combine && o.sec.id == r.id with
      | some o => s.forwardSum r o
      | none => s.forwardRet r) s

/-- A RETURN that reaches this chip (R430, R431): at the head it is kept until the cut-off; at another chip it is a combine partial. -/
def State.returnIn (s : State) (car sym : Nat) (bs : List Byte) : State :=
  let (r, sat) := readReturn car sym bs
  let s := s.bumpBy (Reg.SYM_BFP_SAT_CNT car) sat
  if s.position = 0 then
    if s.ulr.cut.contains sym then s else s.setUlr fun u => { u with returns := u.returns ++ [r] }
  else s.partialIn r

/-- UL_BMX_COMPLETE of U symbol `a` (R214): every uplink section's output is formed (R211, R212) and handed to the receiver or the bridle, and
the surveys of its occasions are taken (R254). -/
def execUlBmxComplete (a : AirSym) (s : State) : Res :=
  .next (match s.jobOf a with
    | none => s
    | some j =>
      let k := symIdx a
      let fresh := s.isU a && (s.ulr.ffts.any fun f => f.sym == k) && !(s.ulr.outs.any fun o => o.sym == k)
      let s := if fresh then
          let s := (List.finRange 4).foldl (fun s c => (j.ulSecs c).foldl (fun s (x, u) => s.completeSec k c x u) s) s
          (List.finRange 4).foldl (fun s c => s.surveyCar a j c) s
        else s
      (s.sendReturns k).flushPartials k)

/-! ### Cut-off at the head (R270, R271) -/

/-- The chip at position `i` gave its part of a section: every dimension on every PRB of its range (R270). -/
def State.chipHere (s : State) (o : UlOut) (rs : List Ret) (i : Nat) : Bool :=
  let (d, d0) := dimsAt s.chips i
  (List.range d).all fun j => (List.range o.sec.n).all fun p => rs.any fun r => r.holds (d0 + j) (o.sec.first + p)

/-- A section's output with the returns that have arrived (R209, R213, R270): in beamspace mode the dimensions of the chips that are here
whole; in combine mode the sum. The count is that of saturated sums. -/
def State.mergeOut (s : State) (o : UlOut) : UlOut × Nat :=
  let rs := s.ulr.returns.filter fun r => r.sym == o.sym && r.car == o.car && r.id == o.sec.id && r.combine == o.sec.combine
  let value := fun (j p i : Nat) => match rs.find? fun r => r.holds j p with | some r => r.at j p i | none => ((0, 0) : CInt)
  let col := fun (j : Nat) => (List.range o.sec.n).flatMap fun p => (List.range 12).map fun i => value j (o.sec.first + p) i
  if o.sec.combine then
    let zs := (List.zip (List.range o.z.length) o.z).map fun (j, z) => addSat z (col j)
    ({ o with z := zs.map (·.1), contrib := rs.foldl (fun m r => Nat.lor m r.contrib) o.contrib }, (zs.map (·.2)).foldl (· + ·) 0)
  else
    let here := (List.range s.chips).filter fun i => i != 0 && s.chipHere o rs i
    let dims := here.flatMap fun i => let (d, d0) := dimsAt s.chips i; (List.range d).map fun j => d0 + j
    ({ o with
       z := (List.zip (List.range o.z.length) o.z).map fun (j, z) => if dims.contains j then col j else z,
       contrib := here.foldl (fun m i => Nat.lor m (2 ^ i)) o.contrib }, 0)

/-- The chips missing from an output (R270). -/
def State.missing (s : State) (o : UlOut) : Nat := maskOf s.chips fun i => !bitOf o.contrib i

/-- HEAD_CUTOFF of U symbol `a` (R270, R271): what has not arrived counts as zero, and each missing chip once for each carrier. -/
def execHeadCutoff (a : AirSym) (s : State) : Res :=
  let k := symIdx a
  .next (if s.position != 0 || !s.isU a || s.ulr.cut.contains k || (s.jobOf a).isNone then s
    else
      let s := s.setUlr fun u => { u with cut := k :: u.cut }
      let (outs, s) := s.ulr.outs.foldl (fun (l, s) o =>
        if o.sym = k then
          let (o, n) := State.mergeOut s o
          (l ++ [o], s.bumpBy (Reg.BMX_UL_SAT_CNT o.car) n)
        else (l ++ [o], s)) (([] : List UlOut), s)
      let s := s.setUlr fun u => { u with outs := outs, returns := u.returns.filter fun r => r.sym != k }
      let mine := outs.filter fun o => o.sym == k
      let miss := fun (f : UlOut → Bool) => (mine.filter f).foldl (fun m o => Nat.lor m (s.missing o)) 0
      let s := (List.range 4).foldl (fun s c =>
        s.bumpBy (Reg.ULR_BS_LATE_CNT c) ((List.range 4).countP fun i => bitOf (miss fun o => o.car == c) i)) s
      s.setFld Reg.ULR_STAT 11 8 (miss fun _ => true))

/-! ### Estimates and filters (R256 to R261) -/

/-- The carrier's first PRB above common resource block 0 (R250). -/
def State.crbOf (s : State) (c : Nat) : Nat := s.fld (Reg.ULR_CAR_CFG c) 8 0

/-- The receiver's input of a section by symbol of its slot. -/
def State.rxIn (s : State) (c no slot : Nat) : RxIn := fun y d re =>
  match s.ulr.outs.find? fun o => o.sym == slot * 14 + y && o.car == c && o.no == no with
  | some o => ofInt ((o.z.getD d []).getD re (0, 0))
  | none => (0, 0)

/-- The estimates of a section's occasion by layer, PRB of its range and dimension (R256). -/
def State.estimates (s : State) (o : UlOut) (tab : DmrsTab) (slot o0 : Nat) : List (List (List CRat)) :=
  let z := s.rxIn o.car o.no slot
  o.sec.layers.map fun l => (List.range o.sec.n).map fun i => (List.range o.sec.dims).map fun d =>
    if bitOf o.prbs (o.sec.first + i) then o.sec.estimate tab z (s.crbOf o.car) o0 l (o.sec.first + i) d else (0, 0)

/-- c_l of R257 for one layer of an occasion. -/
def correlation (o : UlOut) (h : List (List CRat)) : CRat :=
  rSum ((List.range (o.sec.n - 1)).map fun i =>
    if bitOf o.prbs (o.sec.first + i) && bitOf o.prbs (o.sec.first + i + 1) then rDot (h.getD i []) (h.getD (i + 1) []) else (0, 0))

/-- A section's output with its DMRS bits and its estimates. -/
abbrev Est : Type := UlOut × DmrsTab × List (List (List CRat))

/-- The sections whose residuals share a covariance: every section of the carrier in beamspace mode that runs the receiver, or the section
alone in combine mode (R259). -/
def peersOf (o : UlOut) (l : List Est) : List Est :=
  l.filter fun (p, _, _) => p.car == o.car && p.sec.occLen == o.sec.occLen && (if o.sec.combine then p.no == o.no else !p.sec.combine)

/-- The inverse covariance of group `g` for a section, and whether it is the diagonal one (R259, R260). -/
def State.groupCov (s : State) (o : UlOut) (l : List Est) (slot o0 g : Nat) : List (List CRat) × Bool :=
  let parts := (peersOf o l).flatMap fun (p, tab, h) =>
    ((List.range p.sec.n).filter fun i => (p.sec.first + i) / 4 == g && bitOf p.prbs (p.sec.first + i)).map fun i =>
      (p.sec.residuals tab (s.rxIn p.car p.no slot) (fun j d => ((h.getD j []).getD i []).getD d (0, 0)) (s.crbOf p.car) o0
        (p.sec.first + i), p.sec.layers.length)
  let es := parts.flatMap (·.1)
  let dof : Int := (es.length : Int) - ((parts.map (·.2)).foldl (· + ·) 0 : Nat)
  let fl : Rat := 8191 * 8191 * tenth (2 * s.sfld Reg.ULR_IRC_CFG 15 0)
  whitening o.sec.dims (covariance o.sec.dims es dof) (mkRat (s.fld Reg.ULR_IRC_CFG 31 24) 256) fl (s.fld Reg.ULR_IRC_CFG 20 16)

/-- A free value between 0 and 1. -/
def State.freeUnit (s : State) : Rat × State := let (x, s) := s.freeNat; (mkRat (x % (2 ^ 64 + 1) : Nat) (2 ^ 64), s)

/-- The SINR codes of a section's occasion by layer and PRB: each lies within 0.1 dB (R263, R266). -/
def State.sinrCodes (s : State) (layers n : Nat) (prbs first : Nat) (beta : List (List Rat)) : List (List Nat) × State :=
  (List.range layers).foldl (fun (ls, s) l =>
    let (row, s) := (List.range n).foldl (fun (row, s) i =>
      if bitOf prbs (first + i) then
        let (x, s) := State.freeUnit s
        (row ++ [sinrCode ((beta.getD i []).getD l 0) x], s)
      else (row ++ [0], s)) (([] : List Nat), s)
    (ls ++ [row], s)) (([] : List (List Nat)), s)

/-- The filters of one section's occasion (R257 to R261). -/
def State.filterSec (s : State) (slot o0 : Nat) (covs : List (Nat × List (List CRat) × Bool)) (o : UlOut)
    (h : List (List (List CRat))) : State :=
  let ls := o.sec.layers.length
  let fs := (List.range o.sec.n).map fun i =>
    let ri := match covs.find? fun (g, _) => g == (o.sec.first + i) / 4 with | some (_, r, _) => r | none => []
    mmse o.sec.dims ls ri fun j d => ((h.getD j []).getD i []).getD d (0, 0)
  let (codes, s) := s.sinrCodes ls o.sec.n o.prbs o.sec.first (fs.map (·.2))
  s.setUlr fun u => { u with occs := u.occs ++ [
    { car := o.car, no := o.no, sym := slot * 14 + o0, prbs := o.prbs, h := h, corr := h.map fun x => correlation o x,
      w := fs.map (·.1), beta := fs.map (·.2), codes := codes }] }

/-- UL_FILTERS_COMPLETE: `a` is the last symbol of occasions (R256 to R260, R270). The receiver runs at the head, after the cut-off (R271). -/
def execUlFiltersComplete (a : AirSym) (s : State) : Res :=
  let k := symIdx a
  .next (if s.position != 0 || !s.ulr.cut.contains k then s
    else
      let slot := slotIdx a
      let ends := s.ulr.outs.filter fun o =>
        o.sym == k && !(o.sec.passthru && !o.sec.combine) && decide (o.sec.occLen ≤ a.sym.val + 1) && bitOf o.sec.mask (a.sym.val + 1 - o.sec.occLen)
          && (o.sec.occLen == 1 || (s.ulr.outs.any fun p => p.sym + 1 == k && p.car == o.car && p.no == o.no))
          && !(s.ulr.occs.any fun q => q.car == o.car && q.no == o.no && q.sym + o.sec.occLen == k + 1)
      let l := ends.map fun o =>
        let tab := o.sec.dmrsTab (s.crbOf o.car) slot
        ((o, tab, s.estimates o tab slot (a.sym.val + 1 - o.sec.occLen)) : Est)
      (l.foldl (fun (acc : State × List (Nat × Nat × Nat × Nat)) (o, _, h) =>
        let (s, counted) := acc
        let o0 := a.sym.val + 1 - o.sec.occLen
        let gs := (groupsOf o.sec.first o.sec.n).filter fun g => Nat.land o.prbs (prbMask (4 * g) 4) != 0
        let covs := gs.map fun g => (g, s.groupCov o l slot o0 g)
        let keys := (covs.filter fun (_, _, d) => d).map fun (g, _) => (o.car, g, o.sec.occLen, if o.sec.combine then o.no + 1 else 0)
        let new := keys.filter fun x => !counted.contains x
        ((s.bumpBy (Reg.ULR_IRC_FALLBACK_CNT o.car) new.length).filterSec slot o0 covs o h, counted ++ new)) (s, [])).1)

/-! ### Output (R261 to R272) -/

/-- One output value before the phase of R264: the filter's output scaled and turned by the timing offset (R262). `cyc` is arg(c_l) in
cycles. -/
def equalise (q : CRat) (beta cyc : Rat) (i : Nat) : CRat :=
  rScale (4096 / beta) (rMul q (cis (-(cyc / 12) * ((i : Rat) - 11 / 2))))

/-- Rounding and saturation to s16, with whether a part saturated. -/
def toS16 (x : CRat) : CInt × Bool :=
  let v : CInt := (roundRat x.1, roundRat x.2)
  (csat 16 v, !cfits 16 v)

/-- The REs of a section's symbol by layer, before the phase (R262): none on a PRB without an estimate or with an unrecoverable layer. -/
def rawRes (o : UlOut) (q : Occ) (y : Nat) : List (List (Option CRat)) :=
  (List.range o.sec.layers.length).map fun l =>
    let cyc := argCycles (q.corr.getD l (0, 0))
    (List.range (12 * o.sec.n)).map fun re =>
      let i := re / 12
      let p := o.sec.first + i
      let beta := (q.beta.getD i []).getD l 0
      if !bitOf o.prbs p || !bitOf q.prbs p || lostLayer beta || (o.sec.isDmrs y && o.sec.dmrsRe (re % 12)) then none
      else
        let w := (q.w.getD i []).getD l []
        some (equalise (rSum ((List.zip (List.range w.length) w).map fun (d, c) => rMul c (ofInt ((o.z.getD d []).getD re (0, 0))))) beta cyc (re % 12))

/-- Index of the first layer of user `i` in its section. -/
def UlSec.userLayer (u : UlSec) (i : Nat) : Nat := ((u.users.take i).map fun g => g.nLay).foldl (· + ·) 0

/-- The phase of a user in a symbol (R264): new on a PTRS symbol, else the one held for the occasion, else 0. -/
def State.phaseOf (s : State) (o : UlOut) (q : Occ) (y : Nat) (raw : List (List (Option CRat))) (i : Nat) (g : UserGroup) : Rat × State :=
  let tab := if g.ptrs && o.sec.isPtrs g y then o.sec.dmrsTab (s.crbOf o.car) (q.sym / 14) else []
  let ref := fun re => o.sec.ptrsVal tab g (s.crbOf o.car) y re
  let row := raw.getD (o.sec.userLayer i + g.assoc) []
  let hits := if g.ptrs then (List.zip (List.range row.length) row).filterMap fun (re, x) =>
      match x, ref re with
      | some x, some p => some (rMul (ofInt (toS16 x).1) (rConj p))
      | _, _ => none
    else []
  let mine := fun (p : Phase) => p.car == o.car && p.no == o.no && p.user == i && p.occ == q.sym
  if hits = [] then
    (match s.ulr.phases.find? mine with
      | some p => p.cycles
      | none => 0, s)
  else
    let c := argCycles (rSum hits)
    (c, s.setUlr fun u => { u with
      phases := { car := o.car, no := o.no, user := i, occ := q.sym, cycles := c } :: u.phases.filter fun p => !mine p })

/-- An output value as sent: each part within 1 LSB of the exact one (R263). -/
def State.nearValue (s : State) (v : CInt) : CInt × State :=
  let (x, s) := s.freeNat
  (csat 16 (v.1 + (x % 3 : Nat) - 1, v.2 + (x / 3 % 3 : Nat) - 1), s)

/-- One layer's REs with its phase applied, and how many saturated (R262). -/
def State.layerOut (s : State) (row : List (Option CRat)) (phi : Rat) : (List CInt × Nat) × State :=
  let turn := cis (-phi)
  let ((vs, n), s) := row.foldl (fun ((vs, n), s) x =>
    match x with
    | some x =>
      let (v, sat) := toS16 (rMul x turn)
      let (v, s) := State.nearValue s v
      ((v :: vs, if sat then n + 1 else n), s)
    | none => (((0, 0) :: vs, n), s)) ((([] : List CInt), 0), s)
  ((vs.reverse, n), s)

/-- The s16 REs of a section's symbol by layer (R262 to R264). -/
def State.layersOut (s : State) (o : UlOut) (q : Occ) (y : Nat) : List (List CInt) × State :=
  let raw := rawRes o q y
  let (phis, s) := (List.zip (List.range o.sec.users.length) o.sec.users).foldl (fun (l, s) (i, g) =>
    let (c, s) := State.phaseOf s o q y raw i g
    (l ++ List.replicate g.nLay c, s)) (([] : List Rat), s)
  (List.zip raw phis).foldl (fun (l, s) (row, phi) =>
    let ((vs, n), s) := State.layerOut s row phi
    (l ++ [vs], s.bumpBy (Reg.ULR_OUT_SAT_CNT o.car) n)) (([] : List (List CInt)), s)

/-- What the parcels of a symbol's output share: the live maps, the deadline, and the air stamp. -/
structure OutCtx where
  maps : List (Nat × Nat)
  due : Nat
  air : Nat

/-- Bytes of the header (R267). -/
def State.ulHead (s : State) : Nat := 12 + 16 * s.chips

/-- The pieces of a range whose bytes fit: whole groups of four PRBs but for the last (R269). -/
def fitPieces (fits : Nat → Nat → Bool) : Nat → Nat → Nat → List (Nat × Nat)
  | 0, _, _ => []
  | f + 1, first, n =>
    if n = 0 then []
    else if fits first n then [(first, n)]
    else
      let k := max 4 (4 * ((List.range 69).foldl (fun m i => if fits first (4 * i) then max m i else m) 0))
      (first, k) :: fitPieces fits f (first + k) (n - k)

/-- Runs by layer or dimension are queued in parcels of as many whole ones as fit, in steps of `step`; where one step does not fit its PRBs
are split (R269, R272). `pre` gives the bytes before the runs of a piece. -/
def State.sendRuns (s : State) (x : OutCtx) (o : UlOut) (rtype step l0 : Nat) (pre : Nat → Nat → List Byte) (z : List (List CInt)) : State :=
  let w := bfpWidth (s.fld (Reg.SYM_BFP_CFG o.car) 1 0)
  let fits := fun (m f n : Nat) => decide (s.ulHead + (pre f n).length + m * bfpRunBytes w n ≤ 8192)
  let whole := (List.range (z.length + 1)).foldl (fun b m => if m % step = 0 && fits m o.sec.first o.sec.n then max b m else b) 0
  let per := max step whole
  let pieces := if 0 < whole then [(o.sec.first, o.sec.n)] else fitPieces (fits step) 273 o.sec.first o.sec.n
  (List.range ((z.length + per - 1) / per)).foldl (fun s b =>
    pieces.foldl (fun s (f, n) =>
      let zs := (z.drop (b * per)).take per
      let runs := zs.map fun r => bfpRun 16 w (blocksOf r o.sec.first f n)
      let first := l0 + b * per / (if rtype = 3 then 2 else 1)
      let s := s.bumpBy (Reg.SYM_BFP_SAT_CNT o.car) ((runs.map (·.2)).foldl (· + ·) 0)
      s.send (s.ulParcel 0 o.car (first % 16) x.air (some (Reg.ULR_LATE_OUT_CNT o.car, x.due))
        (s.ulHeader rtype o.car o.sec.id first zs.length f n (s.missing o) x.maps ++ pre f n ++ runs.flatMap (·.1)))) s) s

/-- The SINR report of an occasion, with the first symbol that uses it (R266, R268), and its codes in the slot's figures. -/
def State.sendSinr (s : State) (x : OutCtx) (o : UlOut) (q : Occ) : State :=
  if q.reported then s
  else
    let s := s.setUlr fun u => { u with
      occs := u.occs.map fun r => if r.car = o.car && r.no = o.no && r.sym = q.sym then { r with reported := true } else r }
    s.send (s.ulParcel 0 o.car o.sec.l0 x.air (some (Reg.ULR_LATE_OUT_CNT o.car, x.due))
      (s.ulHeader 1 o.car o.sec.id o.sec.l0 o.sec.nLayer o.sec.first o.sec.n (s.missing o) x.maps
        ++ q.codes.flatMap fun r => r.map fun c => BitVec.ofNat 8 c))

/-- The mean of the codes of a layer on the PRBs that its occasions cover, rounded. -/
def meanCode (o : UlOut) (qs : List Occ) (l : Nat) : Nat :=
  let cs := qs.flatMap fun q => (List.zip (List.range o.sec.n) (q.codes.getD l [])).filterMap fun (i, c) =>
    if bitOf q.prbs (o.sec.first + i) then some c else none
  if cs = [] then 0 else (roundDiv (cs.foldl (· + ·) 0 : Nat) cs.length).toNat

/-- Twice the place in its slot of the centre of an occasion that starts in symbol `y`, in samples: halfway between the first CP sample of its
first symbol and the end of its last (R258). -/
def UlSec.centre2 (u : UlSec) (y : Nat) : Nat :=
  let l := y + u.occLen - 1
  symStart y + symStart l + symLen l

/-- The eight bytes of a layer in the slot report (R257, R258, R268). With one occasion the frequency offset has no value: it is open. -/
def State.layerReport (s : State) (o : UlOut) (qs : List Occ) (l : Nat) (g : UserGroup) : List Byte × State :=
  let tau := roundRat (-(argCycles (rSum (qs.map fun q => q.corr.getD l (0, 0)))) * 250000 / 9)
  let (freq, s) : Int × State := match qs.head?, qs.getLast? with
    | some a, some b =>
      if a.sym = b.sym then s.freeInt
      else
        let c := rSum ((List.range o.sec.n).map fun i =>
          if bitOf a.prbs (o.sec.first + i) && bitOf b.prbs (o.sec.first + i) then rDot ((a.h.getD l []).getD i []) ((b.h.getD l []).getD i [])
          else (0, 0))
        let dt : Rat := mkRat (o.sec.centre2 (b.sym % 14) - o.sec.centre2 (a.sym % 14) : Nat) 245760000
        (satInt (-32768) 32767 (roundRat (argCycles c / dt)), s)
    | _, _ => s.freeInt
  let valid := decide (2 ≤ qs.length)
  (bytesOf 2 (toBits 16 (satInt (-32768) 32767 tau)) ++ bytesOf 2 (toBits 16 freq) ++ bytesOf 1 (meanCode o qs l)
    ++ bytesOf 1 ((if valid then 1 else 0) + (if g.ptrs then 2 else 0)) ++ [0, 0], s)

/-- The slot report of a section (R268, R269). -/
def State.sendReport (s : State) (x : OutCtx) (o : UlOut) : State :=
  let qs := s.ulr.occs.filter fun q => q.car == o.car && q.no == o.no && q.sym / 14 == o.sym / 14
  let (body, s) := (List.zip (List.range o.sec.layers.length) o.sec.layers).foldl (fun (b, s) (l, (_, _, g)) =>
    let (r, s) := State.layerReport s o qs l g
    (b ++ r, s)) (([] : List Byte), s)
  s.send (s.ulParcel 0 o.car o.sec.l0 x.air (some (Reg.ULR_LATE_OUT_CNT o.car, x.due))
    (s.ulHeader 2 o.car o.sec.id o.sec.l0 o.sec.nLayer o.sec.first o.sec.n (s.missing o) x.maps ++ body))

/-- The slot's figures of a carrier: a new slot shows those of the one before in ULR_QUAL (R266). -/
def State.slotQual (s : State) (c : Fin 4) (slot : Nat) : State :=
  let q := s.ulr.qual[c]
  if q.slot = slot then s
  else
    let mean := if q.cnt = 0 then 0 else (roundDiv (q.sum : Nat) q.cnt).toNat
    let s := s.wr (Reg.ULR_QUAL c) (BitVec.ofNat 32 (mean * 2 ^ 24 + (List.range 16).countP fun i => bitOf q.layers i))
    s.setUlr fun u => { u with qual := upd u.qual c fun _ => { slot := slot } }

/-- A section's layers and its new codes enter the slot's figures. -/
def State.noteQual (s : State) (o : UlOut) (q : Occ) : State :=
  if h : o.car < 4 then
    let c : Fin 4 := ⟨o.car, h⟩
    let cs := if q.reported then [] else q.codes.flatMap fun r => (List.zip (List.range o.sec.n) r).filterMap fun (i, x) =>
      if bitOf q.prbs (o.sec.first + i) then some x else none
    (s.slotQual c (o.sym / 14)).setUlr fun u => { u with qual := upd u.qual c fun x =>
      { x with sum := x.sum + cs.foldl (· + ·) 0, cnt := x.cnt + cs.length, layers := Nat.lor x.layers (prbMask o.sec.l0 o.sec.nLayer) } }
  else s

/-- The last symbol of the occasion that a section's output of a symbol uses; the symbol itself where it uses none. -/
def UlOut.occEnd (o : UlOut) : Nat :=
  if o.sec.passthru && !o.sec.combine then o.sym
  else match o.sec.occOf (o.sym % 14) with
    | some e => o.sym / 14 * 14 + e + o.sec.occLen - 1
    | none => o.sym

/-- The output of symbol `k` of a carrier is on time until 100 µs after the later of its end and the end of the last DMRS symbol that a section applies to
it (R51). -/
def State.outDue (s : State) (c k : Nat) : Nat :=
  let fin := fun k => let a := symOfIdx k; s.ulTick a + symLen a.sym * ticksPerSample
  ((s.ulr.outs.filter fun o => o.car == c && o.sym == k).foldl (fun t o => max t (fin o.occEnd)) (fin k)) + 98304

/-- The output of a section's symbol by the receiver (R261 to R269). -/
def State.equalOut (s : State) (o : UlOut) (q : Occ) (maps : List (Nat × Nat)) : State :=
  let y := o.sym % 14
  let x : OutCtx := { maps := maps, due := s.outDue o.car o.sym, air := stampOf (symOfIdx o.sym) 0 }
  let s := s.noteQual o q
  let s := if !o.sec.isDmrs y || o.sec.cdm = 1 then
      let (z, s) := s.layersOut o q y
      s.sendRuns x o 0 1 o.sec.l0 (fun _ _ => []) z
    else s
  let s := s.sendSinr x o q
  if y + 1 = o.sec.start + o.sec.nSym then s.sendReport x o else s

/-- The dimension bytes of the PRB groups of a piece in pass-through, in slot `slot` (R272). Which beams the other chips use the head is not told:
free values, fixed over the slot as their sets are. -/
def State.dimBytes (s : State) (slot c f n : Nat) : List Byte :=
  let no := if s.beforeSel slot then s.ulr.selNo - 1 else s.ulr.selNo
  (groupsOf f n).flatMap fun g =>
    let own := (s.beamSetAt slot c g).map fun b => BitVec.ofNat 8 b
    let rest := (List.range s.chips).flatMap fun i =>
      if i = 0 then []
      else
        let (d, d0) := dimsAt s.chips i
        (List.range d).map fun j => BitVec.ofNat 8 (i * 64 + Config.otherBeam no c g (d0 + j) % 64)
    (own ++ rest ++ List.replicate 32 0xFF).take 32

/-- The output of a section's symbol in pass-through (R272). -/
def State.passOut (s : State) (o : UlOut) (maps : List (Nat × Nat)) : State :=
  let x : OutCtx := { maps := maps, due := s.outDue o.car o.sym, air := stampOf (symOfIdx o.sym) 0 }
  let vs := o.z.map fun d => d.map fun v => let c := cdiv v (2 ^ s.fld Reg.ULR_PT_CFG 3 0); (csat 16 c, !cfits 16 c)
  let s := s.bumpBy (Reg.ULR_OUT_SAT_CNT o.car) (vs.flatten.countP (·.2))
  let all := s.dimBytes (o.sym / 14) o.car o.sec.first o.sec.n
  let pre := fun f n => (all.drop (32 * (f / 4 - o.sec.first / 4))).take (32 * (groupsOf f n).length)
  s.sendRuns x o 3 2 0 pre (vs.map fun d => d.map (·.1))

/-- One section's symbol goes out if its occasion is complete; else it stays (R265, R270, R272). -/
def State.outputSec (s : State) (o : UlOut) (maps : List (Nat × Nat)) : State :=
  let drop := fun s : State => s.setUlr fun u =>
    { u with outs := u.outs.map fun p => if p.sym = o.sym ∧ p.car = o.car ∧ p.no = o.no then { p with done := true } else p }
  if o.sec.passthru && !o.sec.combine then drop (s.passOut o maps)
  else
    match o.sec.occOf (o.sym % 14) with
    | none => s
    | some e =>
      match s.ulr.occs.find? fun q => q.car == o.car && q.no == o.no && q.sym == o.sym / 14 * 14 + e with
      | some q => drop (s.equalOut o q maps)
      | none => s

/-- UL_OUTPUT_COMPLETE of U symbol `a` (R265 to R272): at the head, after the cut-off, the output of every section whose occasion is complete is
queued. `others` are the live maps of the other chips. -/
def execUlOutputComplete (a : AirSym) (others : LiveMaps) (s : State) : Res :=
  let k := symIdx a
  .next (if s.position != 0 || !s.ulr.cut.contains k then s
    else
      let maps := s.mapsWith (s.mapsFor k) others
      (s.ulr.outs.filter fun o => o.sym == k && !o.done).foldl (fun s o => s.outputSec o maps) s)

/-! ### Beamspace selection (R253 to R255) -/

/-- A survey enters the averages (R254). -/
def State.applySurvey (s : State) (c g : Nat) (e : List Nat) : State :=
  let sh := s.fld Reg.ULR_SEL_CFG 18 16
  (List.zip (List.range 64) e).foldl (fun s (k, x) =>
    let p := s.survey c g k
    s.setUlr fun u => { u with pw := tabPut (fun _ => 0) u.pw ((c * 69 + g) * 64 + k) ((p : Int) + roundDiv ((x : Int) - p) (2 ^ sh)).toNat }) s

/-- The set of a carrier and group for a new slot (R255). -/
def State.newSet (s : State) (c g : Nat) : List Nat :=
  if s.bit Reg.ULR_SEL_CFG 31 || !s.ulr.started then s.defaultSet
  else
    let set := s.beamSet c g
    let num := (roundRat (256 * tenth (50 * (s.fld Reg.ULR_SEL_CFG 7 0 : Int)))).toNat
    replaceBeams (s.survey c g) num (byPower (s.survey c g) ((List.range 64).filter fun b => !set.contains b)) set

/-- BEAMSPACE_SELECT at the start of a slot of the uplink grid (R255): the averages take in the occasions that ended at least 50 µs
before, and each group's set follows. -/
def execBeamspaceSelect (sfn : Fin 1024) (slot : Fin 20) (s : State) : Res :=
  .next (if !s.aligned then s
    else
      let t := s.ulTick ⟨sfn, slot, 0⟩
      let (due, later) := s.ulr.surveys.partition fun (e, _) => decide (e + 49152 ≤ t)
      let s := s.setUlr fun u => { u with surveys := later }
      let s := due.foldl (fun s (_, c, g, x) => s.applySurvey c g x) s
      let s := s.setUlr fun u => { u with
        started := u.started || u.pw != [], selOld := u.sel, selSlot := some (slotIdx ⟨sfn, slot, 0⟩), selNo := u.selNo + 1 }
      (List.range 4).foldl (fun s c =>
        if s.carEnabled c then
          (List.range (prbGroups (s.carPrbs c))).foldl (fun s g =>
            let new := s.newSet c g
            if new = s.beamSet c g then s
            else (s.setUlr fun u => { u with sel := tabPut (fun _ => s.defaultSet) u.sel (c * 69 + g) new }).bump (Reg.ULR_SEL_CHANGE_CNT c)) s
        else s) s)

/-! ### PRACH (R275 to R279) -/

/-- The bins of an occasion summed over repetitions, by beam (R275): `bins` by repetition, antenna and bin 0 to 143. -/
def State.prachBeams (s : State) (bins : List (List Samples)) : List Samples :=
  let y := bins.map fun ants => ants.map fun x => (x.drop 2).take 139
  (List.range 64).map fun b =>
    let w := s.dftBeam b
    (List.range 139).map fun i => csum (y.map fun ants => (combineRe w (ants.map fun r => r.getD i (0, 0))).1)

/-- The PRACH partials that a chip sends to the head, three roots to a parcel (R429). -/
def State.sendPdp (s : State) (o : PrachOcc) (ps : List (Nat × List Rat)) : Nat → State
  | 0 => s
  | f + 1 =>
    if ps = [] then s
    else
      let body := (ps.take 3).flatMap fun (l, p) =>
        let (e, m) := pdpParts p
        bytesOf 1 l ++ bytesOf 1 (toBits 8 e) ++ [0, 0] ++ m.flatMap fun x => bytesOf 2 x
      let p : Parcel :=
        { plane := 5, sub := 1, flow := mkFlow 0 s.position o.car 0, air := stampOf (symOfIdx o.sym) 0,
          payload := bytesOf 2 o.sec.id ++ bytesOf 1 (min 3 ps.length) ++ body }
      (s.enqueue (s.routeTo 0) p).sendPdp o (ps.drop 3) f

/-- A received PRACH partial (R429). -/
def readPdp (src car sym : Nat) (bs : List Byte) : List PrachPdp :=
  (List.range (byteAt bs 2)).map fun r =>
    let b := bs.drop (3 + 2052 * r)
    { src := src, car := car, sym := sym, id := fieldAt bs 0 2 % 4096, root := byteAt b 0, exp := signedOf 8 (byteAt b 1),
      pdp := (List.range 1024).map fun i => fieldAt b (4 + 2 * i) 2 }

/-- Profiles of an occasion with those of other chips added (R275). -/
def State.sumPdp (s : State) (o : PrachOcc) (ps : List (Nat × List Rat)) : List (List Rat) :=
  ps.map fun (l, p) =>
    (s.ulr.prachIn.filter fun x => x.car == o.car && x.sym == o.sym && x.id == o.sec.id && x.root == l).foldl (fun p x =>
      List.zipWith (fun (a : Rat) (m : Nat) => a + (m : Rat) * pow2 x.exp) p x.pdp) p

/-- One peak's entry in the report (R276, R279): the power is `unit` times the peak's. -/
def peakBytes (n2 unit : Rat) (k : Peak) : List Byte :=
  bytesOf 1 k.preamble ++ bytesOf 1 (if k.second then 1 else 0)
    ++ bytesOf 2 (satInt 0 65535 (roundRat (k.delay * 3125 / 48))).toNat
    ++ bytesOf 1 (if n2 = 0 then 255 else (satInt 0 255 (logSteps 25 (k.power / n2))).toNat) ++ [0]
    ++ bytesOf 2 (toBits 16 (satInt (-32768) 32767 (logSteps 1 (k.power * unit))))

/-- The report of an occasion at the head (R275 to R279). -/
def State.prachReport (s : State) (o : PrachOcc) (ps : List (List Rat)) (clip live missing : Nat) (maps : List (Nat × Nat)) : State :=
  let (reps, cp, _) := prachShape o.sec.format
  let n2 := prachNoise ps (tenth (50 * (s.fld Reg.ULR_PRACH_CFG 31 24 : Int)))
  let all := occasionPeaks o.sec ps (tenth (50 * (s.fld Reg.ULR_PRACH_CFG 31 24 : Int)) * n2) (s.fld Reg.ULR_PRACH_CFG 15 8)
  let (unit, s) : Rat × State := if live = 0 then s.freeUnit
    else (1 / (((139 * reps) * (139 * reps) * live * (8191 * 8191) : Nat) : Rat), s)
  let out := if 64 < all.length then strongest 64 all else all
  let s := s.bump (Reg.ULR_PRACH_OCC_CNT o.car)
  let s := s.bumpBy (Reg.ULR_PRACH_DET_CNT o.car) out.length
  let s := if 64 < all.length then s.bump (Reg.ULR_PRACH_TRUNC_CNT o.car) else s
  let s := if clip != 0 then s.bump (Reg.ULR_PRACH_CLIP_CNT o.car) else s
  let a := symOfIdx o.sym
  let fin := s.ulTick a + (cp + (if a.sym.val = 0 then 64 else 0) + 4096 * reps) * ticksPerSample
  let body := bytesOf 1 (o.sec.format * 16 + o.sec.zcz) ++ bytesOf 2 o.sec.first ++ bytesOf 1 out.length ++ bytesOf 2 (min 0xFFFF clip)
    ++ bytesOf 2 (toBits 16 (satInt (-32768) 32767 (logSteps 1 (n2 * unit)))) ++ out.flatMap (peakBytes n2 unit)
  s.send (s.ulParcel 0 o.car 0 (stampOf a 0) (some (Reg.ULR_PRACH_LATE_CNT o.car, fin + 196608))
    (s.ulHeader 5 o.car o.sec.id 0 0 o.sec.first 12 missing maps ++ body))

/-- PRACH_DETECT of the occasion of a carrier that starts in symbol `a` with a section id (R275 to R279). `clip` is the clip count and `live`
the live antennas of the other chips (R276, R278), `others` their live maps. A chip that is not the head sends its profiles there. -/
def execPrachDetect (c : Fin 4) (a : AirSym) (id : BitVec 12) (clip live : Nat) (others : LiveMaps) (s : State) : Res :=
  let mine := fun (o : PrachOcc) => o.car == c.val && o.sym == symIdx a && o.sec.id == id.toNat
  .next (match s.ulr.prach.find? mine with
    | none => s
    | some o =>
      let s := s.setUlr fun u => { u with prach := u.prach.filter fun p => !mine p }
      if s.ulr.lost.any fun k => o.covers k then s
      else
        let (bins, sat) := s.prachBins o
        let s := s.bumpBy (Reg.SYM_FFT_SAT_CNT c) sat
        let yc := s.prachBeams bins
        let ps := o.sec.roots.map fun l => (l, pdpOf yc (physRoot l))
        if s.position != 0 then s.sendPdp o ps 64
        else
          let here := fun (i : Nat) => i = 0 || s.ulr.prachIn.any fun x => x.car == o.car && x.sym == o.sym && x.id == o.sec.id && x.src == i
          let own := (List.range 64).countP fun i => bitOf o.maps.2 i
          s.prachReport o (s.sumPdp o ps) (o.clip + clip) (own + live) (maskOf s.chips fun i => !here i) (s.mapsWith o.maps others))

end Sys2Proof.Machine
end

