-- ==== Sys2Proof/Machine/Registers.lean ====
section
/-! DEFINITION. Access to the management address space (R604 to R610): what a word reads when its register is a view of other state,
and what a written word does beside changing its rw fields. -/

namespace Sys2Proof.Machine

/-- Instance `i` of `n` words that lie `st` apart from `base` on, if `a` is one of them. -/
def instOf (base st n a : Nat) : Option (Fin n) :=
  if h : (a - base) / st < n then if base ≤ a ∧ (a - base) % st = 0 then some ⟨(a - base) / st, h⟩ else none else none

/-! ### Reading -/

/-- The counters (R9) that stand away from 0, by block: an entry of the register table that is a counter of block `b`. -/
def counterOf (b a : Nat) : Bool :=
  a / 0x1000000 == b && (match specOf a with | some (r, _) => r.counter | none => false)

/-- A counter of block `b`, a lifetime counter included, stands at its end (R9, R614). -/
def State.saturated (s : State) (b : Nat) : Bool :=
  s.regs.any fun (a, w) => w == 0xFFFFFFFF && (counterOf b a || (b == 0 && (instOf (Reg.KPR_LT 0) 4 18 a).isSome))

/-- KPR words that are views (R346, R572, R579, R585, R590, R597 and R614). -/
def State.viewKpr (s : State) (a : Nat) : Option Word :=
  if a = Reg.KPR_MODE then some (BitVec.ofNat 32 (modeCode s.mode))
  else if a = Reg.KPR_SAFE_CAUSE then some s.safeCauseWord
  else if a = Reg.KPR_LOCK_STAT then some s.lockStat
  else if a = Reg.KPR_DIE_ID_HI then some s.fuses.dieIdHi
  else if a = Reg.KPR_DIE_ID_LO then some s.fuses.dieIdLo
  else if a = Reg.KPR_BB_STAT then some s.bbStat
  else if a = Reg.KPR_LOG_PTR ∨ a = Reg.KPR_BB_PTR then some (s.ptrView a)
  else if a = Reg.KPR_FAULT_STAT then some (putFld (s.rd a) 31 31 (if s.faultLow then 1 else 0))
  else if a = Reg.KPR_SUM_MAP then some (BitVec.ofNat 32 (maskOf 20 fun b => s.bit (Reg.BLK_STAT_SUM b) 31))
  else none

/-- PKT_LEASE_STAT: the time since the holder's last accepted write or request, in ms, at most 4095. -/
def State.leaseStat (s : State) : Word :=
  let w := s.rd Reg.PKT_LEASE_STAT
  if fldOf w 31 31 = 1 then putFld w 11 0 (min 4095 ((s.now - s.pkt.leaseAt) / 983040)) else w

/-- Word `w` of the legacy record of path `n` (R351): the values that calibrations have written, then the valid and fail bits. -/
def State.legacyWord (s : State) (n : Fin 64) (w : Nat) : Word :=
  if w < 7 then s.rd (Reg.SEQ_LEGACY n w)
  else
    let b := fun (x : Bool) (i : Nat) => if x then 2 ^ i else 0
    BitVec.ofNat 32 (b (s.bit (Reg.SEQ_LEGACY n 7) 7) 31 + b (s.txRetired n && s.fld (Reg.TXP_RETIRE n) 2 0 == 2) 30
      + b (s.rxRetired n && s.fld (Reg.RXP_RETIRE n) 2 0 == 2) 29)

/-- SEQ_DUTY_STAT: the transmit time in the windows of 10 ms and 1 s that end now, in 0.5 % (R350). -/
def State.dutyStat (s : State) : Word :=
  let u := fun (w : Nat) => min 255 ((400 * dutyIn s.seq.duty s.now w + w) / (2 * w))
  BitVec.ofNat 32 (u 1228800 * 0x10000 + u 122880000)

/-- SEQ words that are views. -/
def State.viewSeq (s : State) (a : Nat) : Option Word :=
  if a = Reg.SEQ_DUTY_STAT then some s.dutyStat
  else if 0x7600000 ≤ a then (instOf 0x7600000 4 512 a).map fun i => s.legacyWord ⟨i.val / 8 % 64, Nat.mod_lt _ (by decide)⟩ (i.val % 8)
  else (instOf (Reg.SEQ_QSTAT 0) 0x10000 16 a).map fun q => s.qstat q

/-- ULR_SEL_BEAMS: four dimensions of the set of the viewed group, the highest in bits [31:24]; 0xFF where unused (R253). DESIGN CHOICE: the
reset value shows until a first slot has a set, and for the groups above 68 that no carrier has. -/
def State.selBeams (s : State) (c j : Nat) : Word :=
  let g := s.fld (Reg.ULR_SEL_VIEW c) 6 0
  let l := if s.ulr.selSlot.isNone || 69 ≤ g then [] else s.beamSet c g
  let d := fun (i : Nat) => (l.getD (4 * j + i) 0xFF)
  BitVec.ofNat 32 (d 3 * 0x1000000 + d 2 * 0x10000 + d 1 * 0x100 + d 0)

/-- ULR words that are views. -/
def State.viewUlr (s : State) (a : Nat) : Option Word :=
  if a = Reg.ULR_STAT then some (putFld (s.rd a) 1 0 (s.chips - 1))
  else
    let o := a % 0x10000
    if a < 0x10040000 ∧ 0x10 ≤ o ∧ o < 0x30 ∧ o % 4 = 0 then some (s.selBeams (a / 0x10000 % 4) ((o - 0x10) / 4)) else none

/-- BMX words that are views: the directory entry that BMX_DIR_SEL names (R185) and the static beam table in SRAM (R199, R485). -/
def State.viewBmx (s : State) (a : Nat) : Option Word :=
  if a = Reg.BMX_DIR_DATA then some s.dirData
  else if a = Reg.BMX_UL_DIMS then
    let (d, first) := dimsAt s.chips s.position
    some (BitVec.ofNat 32 (first * 256 + d))
  else if 0xE700000 ≤ a ∧ a < 0xE740000 then some (BitVec.ofNat 32 (natOf (s.memGets (0xF1700000 + (a - 0xE700000)) 4)))
  else none

/-- BIA words that are views. -/
def State.viewBia (s : State) (a : Nat) : Option Word :=
  if a = Reg.BIA_PIN then some (BitVec.ofNat 32 ((if s.pins.biasClrN then 2 else 0) + (if s.pins.clrsel then 1 else 0)))
  else (instOf (Reg.BIA_STAT 0) 0x10000 80 a).map fun c => s.biaStat c

/-- KTE words that are views: the age of a peer entry (R481). -/
def State.viewKte (s : State) (a : Nat) : Option Word :=
  match instOf (Reg.KTE_PEER 0 1) 16 16 a with
  | some e => if s.bit a 31 then some (putFld (s.rd a) 15 0 (s.peerAge e)) else none
  | none => none

/-- What a word reads when its register is a view of other state. -/
def State.view (s : State) (a : Nat) : Option Word :=
  if a % 0x1000000 = 0xF0000C then some (putFld (s.rd a) 30 30 (if s.saturated (a / 0x1000000) then 1 else 0))
  else match a / 0x1000000 with
    | 0x00 => s.viewKpr a
    | 0x01 => if a = Reg.TIM_NS then some (BitVec.ofNat 32 s.ns) else none
    | 0x04 => if a = Reg.PKT_LEASE_STAT then some s.leaseStat else none
    | 0x06 =>
      if a = Reg.SPL_ACTIVE then some (BitVec.ofNat 32 s.splActive)
      else if a = Reg.SPL_PAUSED then some (BitVec.ofNat 32 s.splPaused)
      else (instOf (Reg.SPL_CTRL 0) 0x10000 32 a).map fun sp => s.splCtrl sp
    | 0x07 => s.viewSeq a
    | 0x0D => if a = Reg.DPD_TRIP_WIN then some (BitVec.ofNat 32 (distinctPaths s.tripWindow)) else none
    | 0x0E => s.viewBmx a
    | 0x0F => if a = Reg.WSV_STAT then some (putFld (s.rd a) 8 8 (if 2 ≤ s.chips then 1 else 0)) else none
    | 0x10 => s.viewUlr a
    | 0x11 => s.viewKte a
    | 0x12 => s.viewBia a
    | 0x13 => if a = Reg.HKA_SEQ_STAT then some (putFld (s.rd a) 30 30 (if s.hkaAwake then 1 else 0)) else none
    | _ => none

/-- What reading the word at `a` does: a read of TIM_NS latches the fraction (R438), a word of the static beam table in SRAM is checked (R486), rc
fields clear (R8, R608). -/
def State.afterRead (s : State) (a : Nat) : State :=
  if a = Reg.TIM_NS then s.latchFrac
  else if 0xE700000 ≤ a ∧ a < 0xE740000 then (s.checkUnit (markKey (0xF1700000 + (a - 0xE700000))) 2 0x3F).2
  else match specOf a with
    | some (r, _) => if r.rc = 0 then s else s.wr a (s.rd a &&& ~~~ BitVec.ofNat 32 r.rc)
    | none => s

/-- A read of the word at `a` (R604 to R608): wo fields read 0. -/
def State.readReg (s : State) (a : Nat) : Word × State :=
  match instOf (Reg.KPR_STORE 0) 4 65536 a with
  | some w => (s.storeWord w, s)
  | none =>
    let w := (s.view a).getD (s.rd a)
    let m : Word := match specOf a with | some (r, _) => BitVec.ofNat 32 r.wo | none => 0
    (w &&& ~~~m, s.afterRead a)

/-! ### Writing -/

/-- The word that a write leaves in a register (R5, R607): rw fields take the written value, w1s bits written as 1 set, w1c bits written
as 1 clear; every other bit stays. -/
def plainWord (r : RegSpec) (old w : Word) : Word :=
  let rw := BitVec.ofNat 32 r.rw
  let w1s := BitVec.ofNat 32 r.w1s
  let w1c := BitVec.ofNat 32 r.w1c
  ((old &&& ~~~ (rw ||| (w1c &&& w))) ||| (w &&& (rw ||| w1s)))

/-- Every counter of block `b` clears, in every instance (R612). -/
def State.clearCounters (s : State) (b : Nat) : State := { s with regs := s.regs.filter fun (a, _) => !counterOf b a }

/-- A write of BLK_EVT_EN of block `b`: the word before the writes of this tick is kept for the events of this tick (R613). -/
def State.writeEvtEn (s : State) (b : Nat) (w : Word) : State :=
  let was := s.eventEnable b
  { s with rcd := { s.rcd with enWas := (b, s.now, was) :: s.rcd.enWas.filter fun x => x.1 != b } }.wr (Reg.BLK_EVT_EN b) w

/-- Writes that act, in KPR. -/
def State.hookKpr (s : State) (a : Nat) (w : Word) (e : WriteEnv) : Option State :=
  if a = Reg.KPR_MODE_CMD then some (s.writeModeCmd w e)
  else if a = Reg.KPR_KEY_REVOKE then some (s.writeKeyRevoke w)
  else if a = Reg.KPR_FLASH_CTL then some (s.writeFlashCtl w)
  else if a = Reg.KPR_UNLOCK_CTL then some (s.writeUnlockCtl w)
  else if a = Reg.KPR_BB_CTL then some (s.writeBbCtl w e.bad)
  else if a = Reg.KPR_FAULT_STAT then some (s.writeFaultStat w)
  else if (instOf (Reg.KPR_UNLOCK_RESP 0) 4 16 a).isSome then some (s.wr a w)
  else none

/-- Writes that act, in TIM. -/
def State.hookTim (s : State) (a : Nat) (w : Word) : Option State :=
  if a = Reg.TIM_INCR_CTL then some (s.writeIncr w)
  else if a = Reg.TIM_ADJ_CTL then some (if bitOf w.toNat 0 then s.setBit a 0 true else s)
  else if a = Reg.TIM_QUAL then some (if bitOf w.toNat 31 then s.writeValid else s)
  else if a = Reg.TIM_EPOCH_CTRL then some (if bitOf w.toNat 31 then s.armEpoch else s)
  else if a = Reg.TIM_DREQ_CTL then some (s.writeDreq w)
  else none

/-- Writes that act, in the lane block of port `u`. -/
def State.hookLanes (s : State) (u : Fin 2) (a : Nat) (w : Word) : Option State :=
  if a = Reg.LN_CTRL u then some (if bitOf w.toNat 31 then s.writeRetrain u else s)
  else if a = Reg.LN_TEST_CFG u then some (s.writeTest u w)
  else if a = Reg.LN_TEST_INJ u then some (s.writeInject u w)
  else none

/-- Writes that act, in SPL: fixed spools refuse every write to their rw and w1s fields (R504). -/
def State.hookSpl (s : State) (a : Nat) (w : Word) : Option State :=
  match instOf 0x6000000 0x10000 32 (a / 0x10000 * 0x10000) with
  | none => none
  | some sp =>
    if a = Reg.SPL_CTRL sp then some (s.writeSplCtrl sp w)
    else if a = Reg.SPL_HEAD sp then some (s.writeHead sp w)
    else if a = Reg.SPL_PACE sp then some (s.writePace sp w)
    else if (a = Reg.SPL_RING_BASE sp ∨ a = Reg.SPL_RING_CFG sp) ∧ hostSpool sp = false then some (s.splRefuse sp)
    else none

/-- Writes that act, in SEQ. -/
def State.hookSeq (s : State) (a : Nat) (w : Word) : Option State :=
  if a = Reg.SEQ_LEAN then some (s.writeLean w)
  else if a = Reg.SEQ_CAL_REQ then some (s.writeCalReq w)
  else if a = Reg.SEQ_PA_REF then some (s.writePaRef w)
  else none

/-- Writes that act, in SYN. -/
def State.hookSyn (s : State) (a : Nat) (w : Word) : Option State :=
  if a = Reg.SYN_RETUNE then some (s.writeRetune w)
  else if a = Reg.SYN_ALIGN then some (if bitOf w.toNat 0 then s.armAlign else s)
  else none

/-- Writes that act, in TXP. -/
def State.hookTxp (s : State) (a : Nat) (w : Word) : Option State :=
  if a = Reg.TXP_RETIRE_CMD_LO then some (s.forNamed false w fun s p => s.retireTx p 5)
  else if a = Reg.TXP_RETIRE_CMD_HI then some (s.forNamed true w fun s p => s.retireTx p 5)
  else if a = Reg.TXP_REINSTATE_LO then some (s.forNamed false w fun s p => s.reinstateTx p)
  else if a = Reg.TXP_REINSTATE_HI then some (s.forNamed true w fun s p => s.reinstateTx p)
  else (instOf (Reg.TXP_ATTEN 0) 0x10000 64 a).map fun p => s.writeAtten p w

/-- Writes that act, in RXP, the routing requests apart. -/
def State.hookRxp (s : State) (a : Nat) (w : Word) : Option State :=
  if a = Reg.RXP_RETIRE_CMD_LO then some (s.forNamed false w fun s p => s.retireRx p 5)
  else if a = Reg.RXP_RETIRE_CMD_HI then some (s.forNamed true w fun s p => s.retireRx p 5)
  else if a = Reg.RXP_REINSTATE_LO then some (s.forNamed false w fun s p => s.reinstateRx p)
  else if a = Reg.RXP_REINSTATE_HI then some (s.forNamed true w fun s p => s.reinstateRx p)
  else none

/-- Writes that act, in DPD. -/
def State.hookDpd (s : State) (a : Nat) (w : Word) : Option State :=
  if a = Reg.DPD_GUARD_TEST then some (s.writeGuardTest w)
  else (instOf (Reg.DPD_CTRL 0) 0x10000 64 a).map fun p => s.writeDpdCtrl p w

/-- Writes that act, in BIA. -/
def State.hookBia (s : State) (a : Nat) (w : Word) : Option State :=
  if a = Reg.BIA_STROBE then some (s.writeStrobe w)
  else match instOf (Reg.BIA_CH_CFG 0) 0x10000 80 a with
    | some c => some (s.writeBiasEn c (bitOf w.toNat 31))
    | none =>
      match instOf (Reg.BIA_QUEUE 0) 0x10000 80 a with
      | some c => some (s.writeBiasQueue c w)
      | none => (instOf (Reg.BIA_STAGE 0) 0x10000 80 a).map fun c => s.writeStage c w

/-- What a write of `w` to the word at `a` does where the register's chapter gives it an action; `none` where it only changes fields. -/
def State.hook (s : State) (a : Nat) (w : Word) (e : WriteEnv) : Option State :=
  if a % 0x1000000 = 0xF00004 then some (if bitOf w.toNat 0 then s.clearCounters (a / 0x1000000) else s)
  else if a % 0x1000000 = 0xF00008 then some (s.writeEvtEn (a / 0x1000000) w)
  else match a / 0x1000000 with
    | 0x00 => s.hookKpr a w e
    | 0x01 => s.hookTim a w
    | 0x02 => s.hookLanes 0 a w
    | 0x03 => s.hookLanes 1 a w
    | 0x04 => (instOf (Reg.PKT_OWN 0) 0x10000 4 a).map fun c => s.writeOwn c w
    | 0x06 => s.hookSpl a w
    | 0x07 => s.hookSeq a w
    | 0x08 => s.hookSyn a w
    | 0x09 => s.hookTxp a w
    | 0x0A => s.hookRxp a w
    | 0x0B => (instOf (Reg.DFE_CAR_OFS 0) 0x10000 4 a).map fun c => s.writeOffset c w
    | 0x0D => s.hookDpd a w
    | 0x0E =>
      if a = Reg.BMX_LAST_OPEN then some (s.writeLastOpen w)
      else if a = Reg.BMX_LAST_COMMIT then some (s.writeLastCommit w) else none
    | 0x12 => s.hookBia a w
    | 0x13 =>
      if a = Reg.HKA_ONESHOT then some (s.writeOneshot w)
      else if a = Reg.HKA_CAL_CTL then some (s.writeHkaCal w) else none
    | _ => none

/-- A write of `w` to the word at `a` (R604, R607), and whether it is a management capture that R92 refuses (R420). -/
def State.writeReg (s : State) (a : Nat) (w : Word) (e : WriteEnv) : State × Bool :=
  match instOf (Reg.RXP_OBS_ROUTE 0) 0x10000 9 a with
  | some k => s.writeObsRoute k w
  | none =>
    match s.hook a w e with
    | some s => (s, false)
    | none =>
      match specOf a with
      | some (r, _) => (s.wr a (plainWord r (s.rd a) w), false)
      | none => (s, false)

/-! ### Commands -/

/-- REGISTER_WRITE (R604, R605, R607, R609, R610): a word written at `a`. -/
def execRegisterWrite (a w : Word) (e : WriteEnv) (s : State) : Res :=
  .next (if s.writable && mapped a.toNat then (s.writeReg a.toNat w e).1 else s)

/-- CNT_CLR_WRITE: a write of clr to BLK_CNT_CLR of block `b` (R612). -/
def execCntClrWrite (b : Fin 20) (s : State) : Res := .next (if s.writable then s.clearCounters b else s)

/-- STAT_SUM_READ: a read of BLK_STAT_SUM of block `b` clears its rc fields (R614). -/
def execStatSumRead (b : Fin 20) (s : State) : Res := .next (if s.mode = .shelf then s else s.afterRead (Reg.BLK_STAT_SUM b))

end Sys2Proof.Machine
end

