-- ==== Sys2Proof/Machine/Mgmt.lean ====
section
/-! DEFINITION. The lease (R421), the management plane's requests (R419, R420, R484 to R487, R605 to R609) and the service port's frames
(R577, R578). -/

namespace Sys2Proof.Machine

/-! ### The lease (R421) -/

/-- The master that holds the lease. -/
def State.holder (s : State) : Option Nat :=
  if s.bit Reg.PKT_LEASE_STAT 31 then some (s.fld Reg.PKT_LEASE_STAT 25 24) else none

/-- A master's priority: 0 the UP end, 1 the DN end, 2 the service port. -/
def State.leasePri (s : State) (m : Nat) : Nat := s.fld Reg.PKT_LEASE_CFG (4 * m + 2) (4 * m)

/-- The lease is held by `h` from now on, or free. -/
def State.setHolder (s : State) (h : Option Nat) : State :=
  match h with
  | some m => { s.wr Reg.PKT_LEASE_STAT (BitVec.ofNat 32 (0x80000000 + m % 4 * 0x1000000)) with pkt := { s.pkt with leaseAt := s.now } }
  | none => s.wr Reg.PKT_LEASE_STAT 0

/-- A takeover or a lapse: counted and alarmed toward the former holder `old` (new holder 3: none), and a management last ends (R189). -/
def State.leaseMoved (s : State) (old new : Nat) : State :=
  let s := s.bump Reg.PKT_LEASE_MOVE_CNT
  (s.raiseEvent { code := 0x0402, ns := s.ns, args := packArgs [(1, old), (1, new)], toOld := some old }).abortMgmtWrite

/-- LEASE_REQ of master `m`: the status and, where the lease is held by another, the holder. -/
def State.leaseReq (s : State) (m : Nat) : (Nat × Nat) × State :=
  match s.holder with
  | none => ((0, 0), s.setHolder (some m))
  | some h =>
    if h = m then ((0, 0), s.setHolder (some m))
    else if s.leasePri h < s.leasePri m then ((0, 0), (s.leaseMoved h m).setHolder (some m))
    else ((5, h), s)

/-- LEASE_REL of master `m`. DESIGN CHOICE: by another than the holder it changes nothing, and the reply is LEASE_HELD with the holder, or OK
while the lease is free. -/
def State.leaseRel (s : State) (m : Nat) : (Nat × Nat) × State :=
  match s.holder with
  | none => ((0, 0), s)
  | some h => if h = m then ((0, 0), (s.setHolder none).abortMgmtWrite) else ((5, h), s)

/-- The holder's accepted write or request starts the 2 s again. -/
def State.touchLease (s : State) : State := { s with pkt := { s.pkt with leaseAt := s.now } }

/-- LEASE_LAPSE: 2 s after the holder's last accepted write or request. -/
def execLeaseLapse (s : State) : Res :=
  .next (match s.holder with
    | some h => if 2 * ticksPerS ≤ s.now - s.pkt.leaseAt then (s.leaseMoved h 3).setHolder none else s
    | none => s)

/-! ### Words and bytes -/

/-- Every word of an access is aligned and mapped (R604, R605). -/
def regsOk (a n : Nat) : Bool := a % 4 == 0 && (List.range n).all fun i => mapped (a + 4 * i)

/-- Words read in ascending order (R606). -/
def State.readWords (s : State) (a : Nat) : Nat → List Byte × State
  | 0 => ([], s)
  | n + 1 =>
    let (w, s) := s.readReg a
    let (bs, s) := s.readWords (a + 4) n
    (bytesOf 4 w.toNat ++ bs, s)

/-- What a sequence of written words came to: how many were performed, whether one was a capture that R92 refuses, whether one started a
reboot, after which nothing is left of the request. -/
structure WroteWords where
  done : Nat := 0
  busy : Bool := false
  rebooted : Bool := false
  deriving DecidableEq, Repr

/-- Words written in ascending order (R606). -/
def State.writeWords (s : State) (a : Nat) (e : WriteEnv) : List Word → WroteWords × State
  | [] => ({}, s)
  | w :: t =>
    let reboots := a = Reg.KPR_MODE_CMD ∧ fldOf w 2 0 = 5 ∧ !s.overtaken 2
    let (busy, s) := let (s, b) := s.writeReg a w e; (b, s)
    if reboots then ({ done := 1, rebooted := true }, s)
    else
      let (r, s) := s.writeWords (a + 4) e t
      ({ r with done := r.done + (if busy then 0 else 1), busy := busy || r.busy }, s)

/-- Bytes as words, most significant byte first; a word that is cut short is discarded (R577). -/
def wholeWords : List Byte → List Word
  | a :: b :: c :: d :: t => BitVec.ofNat 32 (natOf [a, b, c, d]) :: wholeWords t
  | _ => []

/-- The check of a write to registers or memory by master `m`: NO_LEASE, then `form`, the status of its length and addresses, then BUSY while
writes are not open (R420, R421, R608, R609); 0 when it is to be performed. -/
def State.writeCheck (s : State) (m form : Nat) (reboot : Bool) : Nat × State :=
  if s.holder != some m then (1, s.bump Reg.PKT_NO_LEASE_CNT)
  else if form ≠ 0 then (form, s)
  else if s.writable || (reboot && s.kpr.haltedAt.isSome) then (0, s)
  else (4, s)

/-- The words are one reboot command, which leaves a halted BOOT (R557). -/
def isReboot (a : Nat) (ws : List Word) : Bool :=
  match ws with
  | [w] => a == Reg.KPR_MODE_CMD && fldOf w 2 0 == 5
  | _ => false

/-- A WRITE of master `m` whose length and addresses have the status `form`: its own status, the words performed, and whether it rebooted the
chip. -/
def State.writeChecked (s : State) (m form a : Nat) (ws : List Word) (e : WriteEnv) : (Nat × Nat × Bool) × State :=
  let (st, s) := s.writeCheck m form (isReboot a ws)
  if st ≠ 0 then ((st, 0, false), s)
  else
    let (r, s) := s.touchLease.writeWords a e ws
    ((if r.busy then 4 else 0, r.done, r.rebooted), s)

/-! ### Requests of the management plane (R419, R420) -/

/-- A request. -/
structure MReq where
  op : Nat
  txn : Nat
  addr : Nat
  count : Nat
  data : List Byte
  deriving DecidableEq, Repr

/-- The request in an M-plane payload (R419). -/
def parseReq (bs : List Byte) : MReq :=
  { op := byteAt bs 0, txn := fieldAt bs 2 2, addr := fieldAt bs 4 4, count := fieldAt bs 8 2, data := bs.drop 16 }

/-- The master behind a parcel's source: an end, or the end that its port leads to (R421). -/
def State.masterOf (s : State) (src : Nat) : Nat := if src = 5 then 0 else if src = 6 then 1 else (s.routeTo src).val

/-- The reply to a request of `src` (R419). -/
def State.replyParcel (s : State) (src : Nat) (q : MReq) (status done : Nat) (data : List Byte) : Parcel :=
  { plane := 4, sub := 1, flow := mkFlow src s.position 0 0, air := s.airStamp,
    payload := bytesOf 1 (q.op % 128 + 128) ++ bytesOf 1 status ++ bytesOf 2 q.txn ++ bytesOf 4 q.addr ++ bytesOf 2 q.count
      ++ bytesOf 2 done ++ bytesOf 4 0 ++ data }

/-- The reply to a request goes to its source (R419). -/
def State.reply (s : State) (src : Nat) (q : MReq) (status done : Nat) (data : List Byte) : State :=
  s.send (s.replyParcel src q status done data)

/-- The oldest request of a source. -/
def oldestReq (src : Nat) : List (Nat × Nat × List Byte) → Option MReq
  | [] => none
  | (c, _, bs) :: t => if c = src then some (parseReq bs) else oldestReq src t

/-- The tick at which the oldest request of a source arrived. -/
def oldestAt (src : Nat) : List (Nat × Nat × List Byte) → Option Nat
  | [] => none
  | (c, a, _) :: t => if c = src then some a else oldestAt src t

/-- The requests without the oldest of a source. -/
def dropReq (src : Nat) : List (Nat × Nat × List Byte) → List (Nat × Nat × List Byte)
  | [] => []
  | (c, a, bs) :: t => if c = src then t else (c, a, bs) :: dropReq src t

/-- The oldest request of a source no longer waits. -/
def State.dropOldest (s : State) (src : Nat) : State := { s with pkt := { s.pkt with requests := dropReq src s.pkt.requests } }

/-- Of requests in one core cycle master `x` goes before master `y`: by priority, and at equal priority the lower master (R421). -/
def State.outranks (s : State) (x y : Nat) : Bool :=
  decide (s.leasePri y < s.leasePri x) || (s.leasePri x == s.leasePri y && decide (x < y))

/-- A lease request that has left the queue is performed (R421). -/
def State.doLease (s : State) (src : Nat) (q : MReq) : State :=
  let ((st, h), s) := if q.op = 5 then s.leaseReq (s.masterOf src) else s.leaseRel (s.masterOf src)
  s.reply src q st h []

/-- Sources whose oldest request is a lease request that arrived at tick `a`, from a master that goes before master `m` in a cycle. -/
def State.rivals (s : State) (m a : Nat) : List Nat :=
  (List.range 8).filter fun c => oldestAt c s.pkt.requests == some a && s.outranks (s.masterOf c) m
    && match oldestReq c s.pkt.requests with
      | some q => q.op == 5 || q.op == 6
      | none => false

/-- The rivals of `m` at tick `a` are performed first, the one that goes before the others at each turn; there are two masters beside any. -/
def State.rivalsFirst (s : State) (m a : Nat) : Nat → State
  | 0 => s
  | n + 1 =>
    let l := s.rivals m a
    match l.find? fun c => l.all fun d => !s.outranks (s.masterOf d) (s.masterOf c) with
    | some c =>
      match oldestReq c s.pkt.requests with
      | some q => ((s.dropOldest c).doLease c q).rivalsFirst m a n
      | none => s
    | none => s

/-- The state in which the oldest request of `src` is performed when the lease decides it: lease requests of its core cycle by masters that go
before its own are performed ahead of it (R421). -/
def State.ahead (s : State) (src : Nat) : State :=
  match oldestAt src s.pkt.requests with
  | some a => s.rivalsFirst (s.masterOf src) a 8
  | none => s

/-- An operation that the lease decides (R419, R421). -/
def leaseDecides (op : Nat) : Bool := op = 2 || (decide (4 ≤ op) && decide (op ≤ 6))

/-- The oldest request of a source is performed by `f` when its operation is one of those of the command; each master's requests are
performed in order of arrival (R420). -/
def State.takeReq (s : State) (src : Fin 8) (ok : Nat → Bool) (f : State → MReq → State) : State :=
  match oldestReq src s.pkt.requests with
  | some q =>
    if !ok q.op then s
    else
      f ((if leaseDecides q.op then s.ahead src else s).dropOldest src) q
  | none => s

/-- A READ, or a request whose operation does not exist. -/
def State.doRead (s : State) (src : Nat) (q : MReq) : State :=
  if q.op ≠ 1 then s.reply src q 6 0 []
  else if q.count = 0 ∨ 256 < q.count then s.reply src q 3 0 []
  else if !regsOk q.addr q.count then s.reply src q 2 0 []
  else
    let (bs, s) := s.readWords q.addr q.count
    s.reply src q 0 q.count bs

/-- A WRITE. -/
def State.doWrite (s : State) (src : Nat) (e : WriteEnv) (q : MReq) : State :=
  let form := if q.count = 0 ∨ 256 < q.count ∨ q.data.length ≠ 4 * q.count then 3 else if regsOk q.addr q.count then 0 else 2
  let ((st, done, rebooted), s) := s.writeChecked (s.masterOf src) form q.addr (wholeWords q.data) e
  if rebooted then s else s.reply src q st done []

/-- The spool through which a source's master reaches memory (R504). -/
def State.memSpool (s : State) (src : Nat) : Nat := 8 + s.masterOf src

/-- A MEM_READ (R484, R486, R492): the bytes of an uncorrectable unit come as read. -/
def State.doMemRead (s : State) (src : Nat) (q : MReq) : State :=
  if q.count = 0 ∨ 8176 < q.count then s.reply src q 3 0 []
  else if !s.memValid q.addr q.count then s.reply src q 2 0 []
  else
    let ((bs, _), s) := s.memRead q.addr q.count 2 (s.memSpool src)
    s.reply src q 0 q.count bs

/-- A MEM_WRITE (R484, R485, R487). -/
def State.doMemWrite (s : State) (src : Nat) (q : MReq) : State :=
  let form := if q.count = 0 ∨ 8176 < q.count ∨ q.data.length ≠ q.count then 3 else if s.hostWritable q.addr q.count then 0 else 2
  let (st, s) := s.writeCheck (s.masterOf src) form false
  if st ≠ 0 then s.reply src q st 0 []
  else (s.touchLease.memWrite q.addr q.data false 2 (s.memSpool src)).reply src q 0 q.count []

/-- M_READ of source `src` (R420, R604 to R608). A request with an operation that R419 does not list is answered here with BAD_OP. -/
def execMRead (src : Fin 8) (s : State) : Res :=
  .next (s.takeReq src (fun op => op == 1 || op == 0 || decide (6 < op)) fun s q => s.doRead src q)

/-- M_WRITE of source `src` (R420, R421, R605 to R609). -/
def execMWrite (src : Fin 8) (e : WriteEnv) (s : State) : Res := .next (s.takeReq src (· == 2) fun s q => s.doWrite src e q)

/-- M_MEM_READ of source `src` (R484). `upsets` names the units that an upset struck since. -/
def execMMemRead (src : Fin 8) (upsets : List (Nat × Upset)) (s : State) : Res :=
  .next ((s.upset upsets).takeReq src (· == 3) fun s q => s.doMemRead src q)

/-- M_MEM_WRITE of source `src` (R485, R487). -/
def execMMemWrite (src : Fin 8) (upsets : List (Nat × Upset)) (s : State) : Res :=
  .next ((s.upset upsets).takeReq src (· == 4) fun s q => s.doMemWrite src q)

/-- M_LEASE_REQ of source `src` (R421). -/
def execMLeaseReq (src : Fin 8) (s : State) : Res :=
  .next (s.takeReq src (· == 5) fun s q => s.doLease src q)

/-- M_LEASE_REL of source `src` (R421). -/
def execMLeaseRel (src : Fin 8) (s : State) : Res :=
  .next (s.takeReq src (· == 6) fun s q => s.doLease src q)

/-! ### The service port (R577, R578) -/

/-- The status of the service port's operation, kept for STATUS. -/
def State.svcEnd (s : State) (status : Nat) : State := { s with kpr := { s.kpr with svcStatus := status } }

/-- The locked port's WRITE reaches KPR_UNLOCK_RESP and KPR_UNLOCK_CTL alone (R578). -/
def unlockWords (a n : Nat) : Bool := decide (Reg.KPR_UNLOCK_RESP 0 ≤ a) && decide (a + 4 * n ≤ Reg.KPR_UNLOCK_CTL + 4)

/-- SVC_READ: a READ frame of `n` words from `a` on; in SHELF there is no answer (R610). -/
def execSvcRead (a : Word) (n : Nat) (s : State) : Res :=
  .next (if s.mode = .shelf then s
    else if (s.locked && decide (0x1000000 < a.toNat + 4 * n)) || !regsOk a.toNat n then s.svcEnd 2
    else
      let (bs, s) := s.readWords a.toNat n
      (s.emit (.svc bs)).svcEnd 0)

/-- SVC_WRITE: a WRITE frame with the bytes that came before SVC_CS_N rose. -/
def execSvcWrite (a : Word) (bytes : List Byte) (e : WriteEnv) (s : State) : Res :=
  .next (if s.mode = .shelf then s
    else
      let ws := wholeWords bytes
      if s.locked && !unlockWords a.toNat ws.length then s.svcEnd 2
      else
        let form := if regsOk a.toNat ws.length then 0 else 2
        let ((st, _, rebooted), s) := (s.rivalsFirst 2 s.now 8).writeChecked 2 form a.toNat ws e
        if rebooted then s else s.svcEnd st)

/-- SVC_STATUS: the status of the previous operation. -/
def execSvcStatus (s : State) : Res :=
  .next (if s.mode = .shelf then s else s.emit (.svc [BitVec.ofNat 8 s.kpr.svcStatus]))

/-- SVC_LEASE_REQ (R421). -/
def execSvcLeaseReq (s : State) : Res :=
  .next (if s.mode = .shelf then s
    else
      let ((st, _), s) := (s.rivalsFirst 2 s.now 8).leaseReq 2
      s.svcEnd st)

/-- SVC_LEASE_REL (R421). -/
def execSvcLeaseRel (s : State) : Res :=
  .next (if s.mode = .shelf then s
    else
      let ((st, _), s) := (s.rivalsFirst 2 s.now 8).leaseRel 2
      s.svcEnd st)

end Sys2Proof.Machine
end

