-- ==== Sys2Proof/Machine/Receive.lean ====
section
/-! DEFINITION. PARCEL_RECEIVE: the checks of a received parcel (R400), its sequence (R407, R410), judging (R412, R413), what an order
and layer data become (R411 to R416, R168 to R170, R191, R202, R212, R215 to R218, R251, R570, R571), routing (R424 to R426), and
what each plane does at the chip that consumes it. -/

namespace Sys2Proof.Machine

/-! ### Form (R400, R411, R415, R419, R429, R430, R443, R267) -/

/-- The body length of a U-UL payload of `len` bytes in `bs` is what its header says, for a carrier with width code `code` (R268, R272,
R279, R246). -/
def ulOk (code : Nat) (bs : List Byte) : Bool :=
  let h := 12 + 16 * (byteAt bs 0 % 4 + 1)
  let n := fieldAt bs 7 2 % 512
  let item := byteAt bs 4 % 64
  let body := bs.drop h
  let len := bs.length - h
  decide (h ≤ bs.length) &&
    match byteAt bs 0 / 16 with
    | 0 => len == item * bfpRunBytes (bfpWidth code) n
    | 1 => len == item * n
    | 2 => len == 8 * item
    | 3 => len == 32 * (groupsOf (fieldAt bs 5 2 % 512) n).length + item * bfpRunBytes (bfpWidth code) n
    | 4 => decide (6 ≤ len) && len == 6 + byteAt body 1 % 32 * colBytes code
    | 5 => decide (8 ≤ len) && len == 8 + 8 * (byteAt body 3 % 128)
    | _ => false

/-- A management reply fits its own fields (R419). -/
def replyOk (bs : List Byte) : Bool :=
  let n := if byteAt bs 0 = 0x81 then 4 * fieldAt bs 10 2 else if byteAt bs 0 = 0x83 then fieldAt bs 10 2 else 0
  decide (16 ≤ bs.length) && bs.length == 16 + n

/-- The symbol that a parcel's air stamp names (R17, R401). -/
def stampSym (air : Nat) : AirSym := ((parseStamp air).map (·.1)).getD (symOfIdx 0)

/-- The order that a C-plane payload carries. -/
def State.orderOf (s : State) (h : Header) (bs : List Byte) : Option Order :=
  if h.plane = 0 then parseOrder (s.fld Reg.BMX_INLINE_CFG 1 0) (stampSym h.air).sym bs else none

/-- The layer data that a U-DL payload carries: its first PRB, PRBs and layer. -/
def State.udlOf (s : State) (h : Header) (bs : List Byte) : Option (Nat × Nat × Nat) :=
  let c := flowCar h.flow
  if h.plane = 1 then parseUdl (if s.carEnabled c then s.carPrbs c else 0) (s.fld (Reg.SYM_BFP_CFG c) 5 4) bs else none

/-- The payload's own fields agree with its length (R400). -/
def State.payloadOk (s : State) (h : Header) (bs : List Byte) : Bool :=
  match h.plane, h.sub with
  | 0, _ => (s.orderOf h bs).isSome
  | 1, _ => (s.udlOf h bs).isSome
  | 2, _ => ulOk (s.fld (Reg.SYM_BFP_CFG (flowCar h.flow)) 1 0) bs
  | 3, t => ptpOk t bs
  | 4, 0 => decide (flowDest h.flow ≤ 3) && requestOk bs
  | 4, 1 => replyOk bs
  | 4, _ => bs.length == 16
  | _, t => bridleOk t bs

/-- The form check of R400, on a header and a payload. -/
def State.formOk (s : State) (h : Header) (len : Nat) (bs : List Byte) : Bool :=
  (queueOf h.plane h.sub).isSome && flowDest h.flow != 7 && flowSrc h.flow != 4 && flowSrc h.flow != 7
    && decide (len ≤ 8192) && (parseStamp h.air).isSome && s.payloadOk h bs

/-! ### Sequences (R407, R410) -/

/-- The retransmission timeout of a reliable queue in µs (R408). -/
def retxUs (q : Nat) : Nat := if q = 1 then 5 else if q = 5 then 10 else 100

/-- An ACK for queue `q` names the highest sequence received in order (R406, R407). -/
def State.sendAck (s : State) (u : Fin 2) (q : Fin 8) : State :=
  s.sendBch u 0x82 (q * 0x1000000 + ((s.port u).queues[q].expect + 0xFFFFFFFF) % 0x1000000)

/-- The sequence of a parcel that passed R400, and whether the queue accepts it (R407, R410). -/
def State.takeSeq (s : State) (u : Fin 2) (q : Fin 8) (seq : Nat) : Bool × State :=
  let x := (s.port u).queues[q]
  let gap := (seq + 2 ^ 32 - x.expect) % 2 ^ 32
  let next := fun s : State => s.setQueue u q fun x => { x with expect := (seq + 1) % 2 ^ 32, nack := none }
  if reliable q then
    if gap = 0 then (true, (next s).sendAck u q)
    else if gap < 2 ^ 31 then
      let soon := match x.nack with
        | some (e, t) => e == x.expect && !usPassed (s.now - t) (retxUs q)
        | none => false
      if soon then (false, s)
      else
        (false, (s.sendBch u 0x83 (q * 0x1000000 + x.expect % 0x1000000)).setQueue u q fun y => { y with nack := some (x.expect, s.now) })
    else (false, (s.bump (Reg.PKT_DUP_CNT u)).sendAck u q)
  else if gap < 2 ^ 31 then (true, next (s.bumpBy (Reg.PKT_LOST_CNT u) gap))
  else (true, s)

/-! ### Judging (R24, R31, R42 to R45, R198, R412, R413) -/

/-- The lead of air start `t` in ticks. DESIGN CHOICE: the arrival instant of R42 is the tick at which the parcel's receipt is performed, which stands
for the eyelet of its final byte; TIM_ING_TRIM is not added to it. -/
def State.leadTo (s : State) (t : Nat) : Int := (t : Int) - s.now

/-- A lead is longer than `us` microseconds. -/
def longer (lead : Int) (us : Nat) : Bool := decide ((us * 3072000 : Nat) < lead * 3125)

/-- A lead is shorter than `us` microseconds. -/
def shorter (lead : Int) (us : Nat) : Bool := decide (lead * 3125 < (us * 3072000 : Nat))

/-- An order names symbols of its own direction alone (R31). -/
def State.dirOk (s : State) (a : AirSym) (o : Order) : Bool :=
  (List.range o.nSym).all fun i => let b := symOfIdx (symIdx a + i); if o.ul then s.isU b else s.isD b

/-- The inline-weight bytes of an order (R198). -/
def Order.inlineBytes (o : Order) : Nat := (o.secs.map Sec.inlineBytes).foldl (· + ·) 0

/-- The air start of the first symbol that a parcel names (R42, R44). -/
def State.parcelTick (s : State) (a : AirSym) (o : Option Order) : Nat :=
  match o with
  | some o => if o.ul then s.ulTick a else s.dlTick a
  | none => s.dlTick a

/-- The window check of R42 on a baseband port: none passed, else the counter. -/
def State.windowFault (s : State) (c : Nat) (lead : Int) (order : Bool) : Option Nat :=
  let (op, cl) := if order then (s.air.cOpen, s.air.cClose) else (s.air.uOpen, s.air.uClose)
  if longer lead op then some (if order then Reg.PKT_C_EARLY_CNT c else Reg.PKT_UDL_EARLY_CNT c)
  else if shorter lead cl then some (if order then Reg.PKT_C_LATE_CNT c else Reg.PKT_UDL_LATE_CNT c)
  else none

/-- The end in force of carrier `c`, which is also the number of its owning port (R417). -/
def State.ownPort (s : State) (c : Nat) : Nat := s.fld (Reg.PKT_OWN c) 4 4

/-- A C or U-DL parcel is judged (R412, R413): whether it is accepted, and the state with the discard counted. A parcel on a port that
is no baseband port is taken as judged. -/
def State.judgeParcel (s : State) (u : Fin 2) (c : Nat) (a : AirSym) (o : Option Order) : Bool × State :=
  let order := o.isSome
  let lead := s.leadTo (s.parcelTick a o)
  let base := s.basebandPort u
  let late := if order then Reg.PKT_C_LATE_CNT c else Reg.PKT_UDL_LATE_CNT c
  let wrong := match o with | some o => !s.dirOk a o | none => false
  if !s.aligned then (false, s.bump late)
  else match if base then s.windowFault c lead order else none with
    | some r => (false, s.bump r)
    | none =>
      if u.val ≠ s.ownPort c then (false, s.bump (Reg.PKT_FOREIGN_CNT c))
      else if wrong then (false, s.bump (Reg.PKT_DIR_MISMATCH_CNT c))
      else if !base then
        if shorter lead s.air.uClose then (false, s.bump (Reg.PKT_FWD_LATE_CNT c)) else (true, s)
      else match o with
        | some o =>
          let used := (s.rd (Reg.BMX_INLINE_USED u)).toNat + o.inlineBytes
          if 2000000 < used then (false, s.bump (Reg.BMX_INLINE_REFUSE_CNT u))
          else (true, s.wr (Reg.BMX_INLINE_USED u) (BitVec.ofNat 32 used))
        | none => (true, s)

/-! ### Refusals of sections (R168, R170, R202, R212, R217, R251) -/

/-- The `n` symbols from `first` on of the slot of `a` are U symbols. -/
def State.allU (s : State) (a : AirSym) (first n : Nat) : Bool :=
  (List.range n).all fun i => s.isU (symOfIdx (slotIdx a * 14 + first + i))

/-- A kind-3 section of either direction that R202 refuses: too many layers or columns for the polarisations, or an angle out of range. -/
def State.steerRefused (s : State) (x : Sec) : Bool :=
  let (kind, value, n, _) := x.source
  let az := signedOf 12 (bitsOf value 27 16)
  let el := signedOf 12 (bitsOf value 11 0)
  kind == 3 && (decide (s.fld Reg.BMX_GEOM 1 0 < n) || decide (900 < az.natAbs) || decide (900 < el.natAbs))

/-- An SRS section keeps R169 (R170). -/
def State.srsOk (s : State) (a : AirSym) (c : Nat) (x : SrsSec) : Bool :=
  (x.nSym == 1 || x.nSym == 2 || x.nSym == 4) && x.comb != 0 && decide (x.ofs < x.comb) && x.first % 4 == 0 && decide (1 ≤ x.n)
    && decide (x.first + x.n ≤ s.carPrbs c) && (x.n % 4 == 0 || x.first + x.n == s.carPrbs c) && s.allU a x.start x.nSym

/-- A PRACH section that R168 refuses: the occasions beside it at its start symbol are those that it does not replace. DEDUCED: one time instance is
one start symbol; an occasion that starts elsewhere and overlaps in time counts at its own. -/
def State.prachRefused (s : State) (a : AirSym) (c : Nat) (x : PrachSec) : Bool :=
  let mine := prbMask x.first 12
  let beside := s.bmx.held.countP fun h =>
    match h.sec with
    | .prach y => h.car == c && h.slot == slotIdx a && y.start == x.start
        && h.cover.any fun (k, m) => k == x.start && m != 0 && Nat.land m mine == 0
    | _ => false
  !s.allU a x.start ((prachSyms x.format).getD 0) || decide (s.carPrbs c < x.first + 12) || decide (8 ≤ beside)

/-- An uplink section asks for more columns than combine mode has (R212). -/
def State.combineRefused (s : State) (u : UlSec) : Bool := u.combine && decide ((if s.chips = 1 then 32 else 24) < u.nCol)

/-- No number stands twice in a list. -/
def noRepeat : List Nat → Bool
  | [] => true
  | x :: t => !t.contains x && noRepeat t

/-- An uplink section that R251 refuses. -/
def State.ulRefused (s : State) (a : AirSym) (u : UlSec) : Bool :=
  let inside := fun y => decide (u.start ≤ y) && decide (y < u.start + u.nSym)
  let ports := u.layers.map fun (_, p, _) => p
  !s.allU a u.start u.nSym || u.mask == 0
    || (u.occasions.any fun o => !inside o || !inside (o + u.occLen - 1))
    || (u.users.map (·.nLay)).foldl (· + ·) 0 != u.nLayer || decide (16 < u.l0 + u.nLayer) || decide (u.dims < u.nLayer)
    || !noRepeat ports || (ports.any fun p => !portExists u.dmrs2 u.dmrsDouble p)
    || (u.users.any fun g => g.ptrs && decide (g.nLay ≤ g.assoc)) || (u.passthru && u.combine)

/-- The symbols that an SRS section names. -/
def SrsSec.syms (x : SrsSec) : List Nat := (List.range x.nSym).map fun i => x.start + i

/-- Two ports share a symbol, comb offset and cyclic shift (R217). -/
def portsClash (a b : SolvePort × SrsSec) : Bool :=
  a.1.ncs == b.1.ncs && a.2.ofs == b.2.ofs && a.2.syms.any fun y => b.2.syms.contains y

/-- Some pair of a list meets `f`. -/
def anyPair {α : Type} (f : α → α → Bool) : List α → Bool
  | [] => false
  | x :: t => t.any (f x) || anyPair f t

/-- A solve section that R217 refuses, with the SRS sections of its order that are in force. -/
def State.solveRefused (s : State) (srs : List SrsSec) (x : SolveSec) : Bool :=
  let ps := x.ports.filterMap fun p => (srsOf srs p).map fun y => (p, y)
  x.ports.isEmpty || decide (24 < x.ports.length) || (x.writeLast && decide (s.nLast ≤ x.last)) || ps.length != x.ports.length
    || anyPair (fun p q => p.2.first != q.2.first || p.2.n != q.2.n) ps || (ps.any fun (p, y) => decide (nCsMax y.comb ≤ p.ncs))
    || anyPair portsClash ps || decide (8 ≤ s.ulr.solves.length)

/-! ### What is kept (R414, R416, R570, R571) -/

/-- A new section replaces the earlier ones of its carrier, slot and type on the PRBs and symbols that it covers; each one cut counts once
(R414). -/
def State.placeSec (s : State) (c : Nat) (a : AirSym) (n : Nat) (x : Sec) (refused : Bool) : State :=
  let (first, len) := x.span a.sym n
  let m := x.prbs
  let cuts := fun h : Held => h.car == c && h.slot == slotIdx a && h.sec.stype == x.stype
    && h.cover.any fun (k, w) => decide (first ≤ k) && decide (k < first + len) && Nat.land w m != 0
  let cut := fun h : Held =>
    if cuts h then { h with cover := h.cover.map fun (k, w) => if first ≤ k ∧ k < first + len then (k, maskMinus w m) else (k, w) } else h
  let s := s.bumpBy (Reg.PKT_OVERLAP_CNT c) (s.bmx.held.countP cuts)
  s.setBmx fun b =>
    { b with
      held := b.held.map cut ++ [{ no := b.nextNo, car := c, slot := slotIdx a, sec := x, refused := refused,
                                   cover := (List.range len).map fun i => (first + i, m) }],
      nextNo := b.nextNo + 1 }

/-- A solve that its chip takes up (R215, R216, R218). -/
def State.startSolve (s : State) (c : Nat) (a : AirSym) (srs : List SrsSec) (x : SolveSec) : State :=
  let used := x.ports.filterMap fun p => srsOf srs p
  let last := used.foldl (fun m y => max m (y.start + y.nSym - 1)) 0
  let b := symOfIdx (slotIdx a * 14 + last)
  (s.setUlr fun u =>
    { u with solves := u.solves ++ [{ car := c, sec := x, srs := srs, slot := slotIdx a, anchor := symIdx b,
                                      at_ := s.ulTick b + symLen b.sym * ticksPerSample }] }).showSolves

/-- One section of an accepted order: refused and counted, or in force (R168, R170, R191, R202, R212, R217, R251). -/
def State.keepSec (s : State) (c : Nat) (a : AirSym) (n : Nat) (srs : List SrsSec) (x : Sec) : State :=
  let place := fun s : State => (s.placeSec c a n x false).prefetch x c
  let refuse := fun s : State => s.placeSec c a n x true
  match x with
  | .dl _ => if s.steerRefused x then refuse (s.bump (Reg.BMX_STEER_REFUSE_CNT c)) else place s
  | .ul u =>
    let beam := s.combineRefused u || s.steerRefused x
    let form := s.ulRefused a u
    let s := if beam then s.bump (Reg.BMX_STEER_REFUSE_CNT c) else s
    let s := if form then s.bump (Reg.ULR_REFUSE_CNT c) else s
    if beam || form then refuse s else place s
  | .srs y => if s.srsOk a c y then place s else s.bump (Reg.SYM_SRS_REFUSE_CNT c)
  | .prach y => if s.prachRefused a c y then s.bump (Reg.SYM_PRACH_REFUSE_CNT c) else place s
  | .solve y => if s.solveRefused srs y then s.bump Reg.WSV_REFUSE_CNT else s.startSolve c a srs y

/-- An accepted order of a chip that is live for it (R326, R327, R411, R414). -/
def State.keepOrder (s : State) (c : Nat) (a : AirSym) (o : Order) : State :=
  if !s.carIn c then s.bump Reg.SEQ_DROP_ORDER_CNT
  else
    let s := if o.leanReq then s.requestSet .lean (s.leanQuads o.leanPaths) (s.fld Reg.SEQ_LEAN 3 0) else s
    let named := (List.range o.nSym).map fun i => (c, symIdx a + i, o.ul)
    let s := s.setBmx fun b => { b with ordered := b.ordered ++ named.filter fun x => !b.ordered.contains x }
    let srs := o.secs.filterMap fun x => match x with | .srs y => if s.srsOk a c y then some y else none | _ => none
    o.secs.foldl (fun s x => s.keepSec c a o.nSym srs x) s

/-- Bytes of a parcel in the window buffer (R416). -/
def Udl.bytes (d : Udl) : Nat := if d.left = 0 then 0 else 8 + d.run.length

/-- Accepted layer data of a chip that is live for it (R173, R416). DESIGN CHOICE: R173 gives no instant for the decoding; its saturated blocks
are counted here, at the acceptance. -/
def State.keepUdl (s : State) (u : Fin 2) (c : Nat) (a : AirSym) (first n layer : Nat) (bs : List Byte) : State :=
  let m := prbMask first n
  let laps := fun d : Udl => d.car == c && d.sym == symIdx a && d.layer == layer && Nat.land d.left m != 0
  let used := (s.bmx.udl.map Udl.bytes).foldl (· + ·) 0
  if 10485760 < used + bs.length then s.bump (Reg.PKT_WIN_FULL_CNT u)
  else
    let w := bfpWidth (byteAt bs 5 % 4)
    let run := bs.drop 8
    let s := s.bumpBy (Reg.SYM_BFP_SAT_CNT c) ((List.range n).countP fun i => (bfpRead w run i).2)
    let s := if s.bmx.udl.any laps then s.bump (Reg.PKT_UDL_OVERLAP_CNT c) else s
    s.setBmx fun b =>
      { b with
        udl := (b.udl.map fun d => if laps d then { d with left := maskMinus d.left m } else d)
          ++ [{ car := c, sym := symIdx a, layer := layer, left := m, first := first, width := w, run := run }] }

/-- An accepted C or U-DL parcel at a chip that consumes it (R570, R571). -/
def State.keep (s : State) (u : Fin 2) (h : Header) (bs : List Byte) : State :=
  let a := stampSym h.air
  let c := flowCar h.flow
  let o := s.orderOf h bs
  if !s.liveFor (s.parcelTick a o) then s.bump Reg.KPR_NOT_LIVE_CNT
  else match o, s.udlOf h bs with
    | some o, _ => s.keepOrder c a o
    | none, some (first, n, layer) => s.keepUdl u c a first n layer bs
    | none, none => s

/-! ### The other planes at the chip that consumes them -/

/-- A scale of another chip is held for its symbol (R349). -/
def State.takeScale (s : State) (h : Header) (bs : List Byte) : State :=
  let k := symIdx (stampSym h.air)
  let held := s.seq.scales.filter fun (j, p, _) => j != k || p != flowSrc h.flow
  { s with seq := { s.seq with scales := (k, flowSrc h.flow, fieldAt bs 0 2) :: held } }

/-- A bridle parcel that waits for its own step: ABORT, GRAM or INVERSE (R240, R243, R245). -/
def State.holdBridle (s : State) (u : Fin 2) (h : Header) (bs : List Byte) : State :=
  { s with pkt := { s.pkt with bridle := s.pkt.bridle ++ [(u.val, h.sub, h.flow, h.air, bs)] } }

/-- A parcel that this chip consumes (R424). -/
def State.consume (s : State) (u : Fin 2) (h : Header) (sop : Stamp) (bs : List Byte) : State :=
  let k := symIdx (stampSym h.air)
  let c := flowCar h.flow
  match h.plane, h.sub with
  | 0, _ | 1, _ => s.keep u h bs
  | 3, _ => s.ptpConsume u sop bs
  | 4, 0 => { s with pkt := { s.pkt with requests := s.pkt.requests ++ [(flowSrc h.flow, s.now, bs)] } }
  | 5, 0 => s.returnIn c k bs
  | 5, 1 => s.setUlr fun v => { v with prachIn := v.prachIn ++ readPdp (flowSrc h.flow) c k bs }
  | 5, 2 => s.takeScale h bs
  | 5, 3 | 5, 4 | 5, 5 => s.holdBridle u h bs
  | 5, 6 => { s with seq := { s.seq with recipIn := s.seq.recipIn ++ readRecip bs } }
  | _, _ => s

/-! ### Routing (R424 to R426) -/

/-- The port that a parcel which came in on port `u` is forwarded on, if any. DEDUCED: in a ring a parcel that has turned round goes on in the
direction in which it travels while the port there is UP, or it would go to and fro between the chip and the port that is not UP. -/
def State.forwardPort (s : State) (u : Fin 2) (dest : Nat) : Option (Fin 2) :=
  if dest = s.position then none
  else if dest = 4 then
    if s.basebandPort (1 - u) || s.portState (1 - u) = 0 then none else some (1 - u)
  else
    let v := s.routeTo dest
    if s.bit Reg.PKT_CASCADE 0 && v == u && s.portUp (1 - u) then some (1 - u) else some v

/-- A parcel that this chip takes in though its destination lies further on: a Gram parcel (R239), and at a chip that is not the head a
combine partial (R213). -/
def State.intercepts (s : State) (h : Header) (bs : List Byte) : Bool :=
  h.plane == 5 && s.position != 0 && (h.sub == 4 || (h.sub == 0 && bitOf (byteAt bs 0) 7)) && flowDest h.flow == 0

/-- The copy of a parcel that goes on: every field as it came but the judged bit (R398, R412). -/
def State.forward (s : State) (u v : Fin 2) (h : Header) (sop : Stamp) (bs : List Byte) (stomp : Bool) : State :=
  if h.plane = 3 ∧ ptpDropped bs then s
  else
    s.enqueue v { plane := h.plane, sub := h.sub, judged := h.judged || (decide (h.plane ≤ 1) && s.basebandPort u), bits := h.bits,
                  flow := h.flow, air := h.air, payload := bs, stomp := stomp, ing := if h.plane = 3 then some (u, sop, s.ingTrim u sop) else none }

/-- A parcel that passed R400, its queue and its judge: forwarded, consumed, or both (R424). -/
def State.route (s : State) (u : Fin 2) (h : Header) (sop : Stamp) (bs : List Byte) : State :=
  let dest := flowDest h.flow
  if s.intercepts h bs then s.consume u h sop bs
  else
    let s := match s.forwardPort u dest with
      | some v => s.forward u v h sop bs false
      | none => s
    if dest = s.position ∨ dest = 4 then s.consume u h sop bs else s

/-- A parcel whose trailer fails: on a port that is no baseband port it had been forwarded cut-through, and its copy is stomped (R426).
DEDUCED: on a reliable queue the header of a parcel out of sequence already says that it is discarded (R407). -/
def State.cutThrough (s : State) (u : Fin 2) (q : Fin 8) (h : Header) (sop : Stamp) (bs : List Byte) : State :=
  if s.basebandPort u || (reliable q && h.seq != (s.port u).queues[q].expect) || s.intercepts h bs then s
  else match s.forwardPort u (flowDest h.flow) with
    | some v => s.forward u v h sop bs true
    | none => s

/-- A parcel with a good trailer: its sequence, the judge, and its way (R407 to R413, R424, R444). -/
def State.accept (s : State) (u : Fin 2) (q : Fin 8) (h : Header) (sop : Stamp) (bs : List Byte) : State :=
  let (ok, s) := s.takeSeq u q h.seq
  if !ok then s
  else
    let s := if h.plane = 3 then
        let s := s.bump (Reg.TIM_PTP_RX_CNT u)
        if ptpClass bs ≠ 0 then s.bump (Reg.TIM_PTP_UNSUP_CNT u) else s
      else s
    if h.plane ≤ 1 then
      let (ok, s) := s.judgeParcel u (flowCar h.flow) (stampSym h.air) (s.orderOf h bs)
      if ok then s.route u h sop bs else s
    else s.route u h sop bs

/-- PARCEL_RECEIVE on port `p`: the words of the physical lanes from the set on that begins the parcel (R366 to R369), the stamp of its ingress SOP eyelet (R439), and
the memory errors that a column prefetch meets (R191). -/
def execParcelReceive (p : Port) (lanes : Vector (List LaneWord) 9) (sop : Stamp) (upsets : List (Nat × Upset)) (s : State) : Res :=
  let u := p.idx
  let sets := s.setsOf u lanes
  let (bytes, errored) := readSets (s.rxWidth u) sets
  .next (if !s.portUp u || !beginsParcel sets then s
    else if bytes.length < 16 || crc8 (bytes.take 15) != byteAt bytes 15 then s.bump (Reg.PKT_HDR_ERR_CNT u)
    else
      let h := parseHeader bytes
      let len := headerLen bytes
      let bs := (bytes.drop 16 ++ List.replicate len 0).take len
      match queueOf h.plane h.sub with
      | none => s.bump (Reg.PKT_MALFORMED_CNT u)
      | some q =>
        let s := s.setQueue u q fun x => { x with freed := x.freed + creditsFor len }
        if !s.formOk h len bs then s.bump (Reg.PKT_MALFORMED_CNT u)
        else
          let c := crc32 (bytes.take (16 + len))
          let t := fieldAt bytes (16 + len) 4
          let whole := decide (20 + len ≤ bytes.length)
          if whole && !errored && t == c then (s.upset upsets).accept u q h sop bs
          else if whole && t == 0xFFFFFFFF - c then (s.bump (Reg.PKT_STOMP_CNT u)).cutThrough u q h sop bs
          else (s.bump (Reg.PKT_CRC_ERR_CNT u)).cutThrough u q h sop bs)

end Sys2Proof.Machine
end

