-- ==== Sys2Proof/Machine/Dispatch.lean ====
section
/-! DEFINITION. Which meaning each command has. -/

namespace Sys2Proof.Machine

/-- The effect of a command on everything but the queue. -/
def exec (i : Instr) (s : State) : Host.Outcome State Fault Refusal :=
  match i with
  | .commitPoint a => Sys2Proof.Machine.execCommitPoint a s
  | .weightFetchPoint a upsets => Sys2Proof.Machine.execWeightFetchPoint a upsets s
  | .columnDeadline a late => Sys2Proof.Machine.execColumnDeadline a late s
  | .bmxOutputDeadline a late => Sys2Proof.Machine.execBmxOutputDeadline a late s
  | .scaleApply a => Sys2Proof.Machine.execScaleApply a s
  | .rxTxWeltStart t => Sys2Proof.Machine.execRxTxWeltStart t s
  | .rxStagesDisable t => Sys2Proof.Machine.execRxStagesDisable t s
  | .lnaProtectRise t => Sys2Proof.Machine.execLnaProtectRise t s
  | .trswToTransmit t => Sys2Proof.Machine.execTrswToTransmit t s
  | .txOnStrobe t env => Sys2Proof.Machine.execTxOnStrobe t env s
  | .paEnableRise t => Sys2Proof.Machine.execPaEnableRise t s
  | .dpdBankSelect t => Sys2Proof.Machine.execDpdBankSelect t s
  | .dacOutputEnable t => Sys2Proof.Machine.execDacOutputEnable t s
  | .dSymbolBoundary a => Sys2Proof.Machine.execDSymbolBoundary a s
  | .txRxAnchor t => Sys2Proof.Machine.execTxRxAnchor t s
  | .paEnableFall t => Sys2Proof.Machine.execPaEnableFall t s
  | .txOffStrobe t => Sys2Proof.Machine.execTxOffStrobe t s
  | .captureClose t => Sys2Proof.Machine.execCaptureClose t s
  | .trswToReceive t => Sys2Proof.Machine.execTrswToReceive t s
  | .lnaProtectRelease t => Sys2Proof.Machine.execLnaProtectRelease t s
  | .rxStagesEnable t => Sys2Proof.Machine.execRxStagesEnable t s
  | .agcArm t => Sys2Proof.Machine.execAgcArm t s
  | .weltEnd t => Sys2Proof.Machine.execWeltEnd t s
  | .agcWindowEnd p a adc => Sys2Proof.Machine.execAgcWindowEnd p a adc s
  | .agcFreeze => Sys2Proof.Machine.execAgcFreeze s
  | .returnSendStart a => Sys2Proof.Machine.execReturnSendStart a s
  | .fftComplete a adc => Sys2Proof.Machine.execFftComplete a adc s
  | .ulBmxComplete a => Sys2Proof.Machine.execUlBmxComplete a s
  | .headCutoff a => Sys2Proof.Machine.execHeadCutoff a s
  | .ulFiltersComplete a => Sys2Proof.Machine.execUlFiltersComplete a s
  | .ulOutputComplete a others => Sys2Proof.Machine.execUlOutputComplete a others s
  | .beamspaceSelect sfn slot => Sys2Proof.Machine.execBeamspaceSelect sfn slot s
  | .prachDetect c a id clip live others => Sys2Proof.Machine.execPrachDetect c a id clip live others s
  | .frameBoundary => Sys2Proof.Machine.execFrameBoundary s
  | .retuneSettled band vtune => Sys2Proof.Machine.execRetuneSettled band vtune s
  | .retuneWrite w => Sys2Proof.Machine.execRetuneWrite w s
  | .offsetWrite c w => Sys2Proof.Machine.execOffsetWrite c w s
  | .attenWrite p w => Sys2Proof.Machine.execAttenWrite p w s
  | .sliceCheck p fails => Sys2Proof.Machine.execSliceCheck p fails s
  | .sliceSwap p => Sys2Proof.Machine.execSliceSwap p s
  | .obsRouteWrite k w => Sys2Proof.Machine.execObsRouteWrite k w s
  | .txRetireCmd hi w => Sys2Proof.Machine.execTxRetireCmd hi w s
  | .rxRetireCmd hi w => Sys2Proof.Machine.execRxRetireCmd hi w s
  | .txReinstate hi w => Sys2Proof.Machine.execTxReinstate hi w s
  | .rxReinstate hi w => Sys2Proof.Machine.execRxReinstate hi w s
  | .refclkLoss freq => Sys2Proof.Machine.execRefclkLoss freq s
  | .refclkRestore => Sys2Proof.Machine.execRefclkRestore s
  | .pllUnlock p => Sys2Proof.Machine.execPllUnlock p s
  | .pllLock p band vtune => Sys2Proof.Machine.execPllLock p band vtune s
  | .relockAttemptTimeout p => Sys2Proof.Machine.execRelockAttemptTimeout p s
  | .relockSequenceRestart p => Sys2Proof.Machine.execRelockSequenceRestart p s
  | .leafMeasure q roundTrip => Sys2Proof.Machine.execLeafMeasure q roundTrip s
  | .eligibleWindowStart => Sys2Proof.Machine.execEligibleWindowStart s
  | .recentreComplete band vtune => Sys2Proof.Machine.execRecentreComplete band vtune s
  | .recentreLate => Sys2Proof.Machine.execRecentreLate s
  | .synAlignArm => Sys2Proof.Machine.execSynAlignArm s
  | .epochArm => Sys2Proof.Machine.execEpochArm s
  | .epochCompareFire => Sys2Proof.Machine.execEpochCompareFire s
  | .alignmentEdge low => Sys2Proof.Machine.execAlignmentEdge low s
  | .lastOpen w => Sys2Proof.Machine.execLastOpen w s
  | .lastGrant => Sys2Proof.Machine.execLastGrant s
  | .lastCommit => Sys2Proof.Machine.execLastCommit s
  | .lastAbort => Sys2Proof.Machine.execLastAbort s
  | .cachePlacement => Sys2Proof.Machine.execCachePlacement s
  | .inlineIntervalStart => Sys2Proof.Machine.execInlineIntervalStart s
  | .solveAnchor => Sys2Proof.Machine.execSolveAnchor s
  | .solveLastWritten c tag upsets => Sys2Proof.Machine.execSolveLastWritten c tag upsets s
  | .gramBlockFormed c tag g => Sys2Proof.Machine.execGramBlockFormed c tag g s
  | .gramParcelReceive p => Sys2Proof.Machine.execGramParcelReceive p s
  | .gramForwardTimeout c tag => Sys2Proof.Machine.execGramForwardTimeout c tag s
  | .gramCutoff c tag => Sys2Proof.Machine.execGramCutoff c tag s
  | .inverseParcelReceive p => Sys2Proof.Machine.execInverseParcelReceive p s
  | .jointReadinessCheck c tag upsets => Sys2Proof.Machine.execJointReadinessCheck c tag upsets s
  | .jointAbortReceive p => Sys2Proof.Machine.execJointAbortReceive p s
  | .jointCommit c tag => Sys2Proof.Machine.execJointCommit c tag s
  | .estimateExport c tag others => Sys2Proof.Machine.execEstimateExport c tag others s
  | .dpdCaptureStart l => Sys2Proof.Machine.execDpdCaptureStart l s
  | .dpdCaptureEnd l o => Sys2Proof.Machine.execDpdCaptureEnd l o s
  | .dpdUpdateReady p b => Sys2Proof.Machine.execDpdUpdateReady p b s
  | .visitStart l => Sys2Proof.Machine.execVisitStart l s
  | .visitEnd l => Sys2Proof.Machine.execVisitEnd l s
  | .visitIdleEnd l => Sys2Proof.Machine.execVisitIdleEnd l s
  | .bankActivityExpire b => Sys2Proof.Machine.execBankActivityExpire b s
  | .dpdFreeze p b => Sys2Proof.Machine.execDpdFreeze p b s
  | .dpdUnfreeze p => Sys2Proof.Machine.execDpdUnfreeze p s
  | .dpdResetBank p mask => Sys2Proof.Machine.execDpdResetBank p mask s
  | .guardTripForward p env => Sys2Proof.Machine.execGuardTripForward p env s
  | .guardTripReflected q env => Sys2Proof.Machine.execGuardTripReflected q env s
  | .guardTripOffPeriod p env => Sys2Proof.Machine.execGuardTripOffPeriod p env s
  | .tripWindowExpire => Sys2Proof.Machine.execTripWindowExpire s
  | .guardTest w => Sys2Proof.Machine.execGuardTest w s
  | .quadRisingComplete q => Sys2Proof.Machine.execQuadRisingComplete q s
  | .quadFallingComplete q => Sys2Proof.Machine.execQuadFallingComplete q s
  | .setChangeRequest w => Sys2Proof.Machine.execSetChangeRequest w s
  | .setChangeStart => Sys2Proof.Machine.execSetChangeStart s
  | .setChangeAnchor => Sys2Proof.Machine.execSetChangeAnchor s
  | .calJobRequest w => Sys2Proof.Machine.execCalJobRequest w s
  | .calJobAbort => Sys2Proof.Machine.execCalJobAbort s
  | .calWindowStart m => Sys2Proof.Machine.execCalWindowStart m s
  | .calStepComplete r => Sys2Proof.Machine.execCalStepComplete r s
  | .recipBurst q ys => Sys2Proof.Machine.execRecipBurst q ys s
  | .calJobEnd e => Sys2Proof.Machine.execCalJobEnd e s
  | .paRefWrite w => Sys2Proof.Machine.execPaRefWrite w s
  | .tetherLock p => Sys2Proof.Machine.execTetherLock p s
  | .trainingFrame p l half => Sys2Proof.Machine.execTrainingFrame p l half s
  | .phaseTimeout p => Sys2Proof.Machine.execPhaseTimeout p s
  | .backoffEnd p => Sys2Proof.Machine.execBackoffEnd p s
  | .listenBeacon p => Sys2Proof.Machine.execListenBeacon p s
  | .markerSend p gaps => Sys2Proof.Machine.execMarkerSend p gaps s
  | .markerReceive p l bits => Sys2Proof.Machine.execMarkerReceive p l bits s
  | .bchReady p copies => Sys2Proof.Machine.execBchReady p copies s
  | .laneFail p l los => Sys2Proof.Machine.execLaneFail p l los s
  | .bchRemap p copies => Sys2Proof.Machine.execBchRemap p copies s
  | .bchRemapAck p copies => Sys2Proof.Machine.execBchRemapAck p copies s
  | .remapTimeout p => Sys2Proof.Machine.execRemapTimeout p s
  | .laneSwitch p rx => Sys2Proof.Machine.execLaneSwitch p rx s
  | .tetherLoss p => Sys2Proof.Machine.execTetherLoss p s
  | .bchRetrain p copies => Sys2Proof.Machine.execBchRetrain p copies s
  | .retrainWrite p => Sys2Proof.Machine.execRetrainWrite p s
  | .dozeEntry p waking gaps => Sys2Proof.Machine.execDozeEntry p waking gaps s
  | .napEntry p => Sys2Proof.Machine.execNapEntry p s
  | .linkWake p during => Sys2Proof.Machine.execLinkWake p during s
  | .sleepReceive p last nap => Sys2Proof.Machine.execSleepReceive p last nap s
  | .eyeRefresh p l w h => Sys2Proof.Machine.execEyeRefresh p l w h s
  | .testStart p w => Sys2Proof.Machine.execTestStart p w s
  | .bchTest p copies => Sys2Proof.Machine.execBchTest p copies s
  | .testEnd p bits => Sys2Proof.Machine.execTestEnd p bits s
  | .errorInject p w => Sys2Proof.Machine.execErrorInject p w s
  | .parcelReceive p lanes sop upsets => Sys2Proof.Machine.execParcelReceive p lanes sop upsets s
  | .parcelTransmit p egr => Sys2Proof.Machine.execParcelTransmit p egr s
  | .ageLimitDrop p q => Sys2Proof.Machine.execAgeLimitDrop p q s
  | .creditGrant p q => Sys2Proof.Machine.execCreditGrant p q s
  | .bchCredit p copies => Sys2Proof.Machine.execBchCredit p copies s
  | .bchAck p copies => Sys2Proof.Machine.execBchAck p copies s
  | .bchNack p copies => Sys2Proof.Machine.execBchNack p copies s
  | .bchResync p copies => Sys2Proof.Machine.execBchResync p copies s
  | .retxTimeout p q => Sys2Proof.Machine.execRetxTimeout p q s
  | .mRead src => Sys2Proof.Machine.execMRead src s
  | .mWrite src e => Sys2Proof.Machine.execMWrite src e s
  | .mMemRead src upsets => Sys2Proof.Machine.execMMemRead src upsets s
  | .mMemWrite src upsets => Sys2Proof.Machine.execMMemWrite src upsets s
  | .mLeaseReq src => Sys2Proof.Machine.execMLeaseReq src s
  | .mLeaseRel src => Sys2Proof.Machine.execMLeaseRel src s
  | .leaseLapse => Sys2Proof.Machine.execLeaseLapse s
  | .ownerPortTimeout c => Sys2Proof.Machine.execOwnerPortTimeout c s
  | .ownerMoveWrite c => Sys2Proof.Machine.execOwnerMoveWrite c s
  | .timIncrWrite w => Sys2Proof.Machine.execTimIncrWrite w s
  | .timAdjStep => Sys2Proof.Machine.execTimAdjStep s
  | .timNsRead => Sys2Proof.Machine.execTimNsRead s
  | .pendingEntryExpire => Sys2Proof.Machine.execPendingEntryExpire s
  | .delayReqSend w => Sys2Proof.Machine.execDelayReqSend w s
  | .timeValidWrite => Sys2Proof.Machine.execTimeValidWrite s
  | .kiteWindowStart a => Sys2Proof.Machine.execKiteWindowStart a s
  | .kitePayloadFix a => Sys2Proof.Machine.execKitePayloadFix a s
  | .listenIntervalStart a => Sys2Proof.Machine.execListenIntervalStart a s
  | .listenIntervalEnd adc => Sys2Proof.Machine.execListenIntervalEnd adc s
  | .kitePeak b lag adc => Sys2Proof.Machine.execKitePeak b lag adc s
  | .kiteConfirm b lag adc snr power => Sys2Proof.Machine.execKiteConfirm b lag adc snr power s
  | .kiteConfirmMissed => Sys2Proof.Machine.execKiteConfirmMissed s
  | .kiteDataEnd adc => Sys2Proof.Machine.execKiteDataEnd adc s
  | .dramRequest c arrivals upsets => Sys2Proof.Machine.execDramRequest c arrivals upsets s
  | .agePromotion c => Sys2Proof.Machine.execAgePromotion c s
  | .refreshRateRead c rate => Sys2Proof.Machine.execRefreshRateRead c rate s
  | .refreshDue c rank bank => Sys2Proof.Machine.execRefreshDue c rank bank s
  | .retrainOscRead c drift => Sys2Proof.Machine.execRetrainOscRead c drift s
  | .retrainStep c => Sys2Proof.Machine.execRetrainStep c s
  | .scrubRead upsets => Sys2Proof.Machine.execScrubRead upsets s
  | .rankPowerDown c rank => Sys2Proof.Machine.execRankPowerDown c rank s
  | .spoolHeadWrite sp w => Sys2Proof.Machine.execSpoolHeadWrite sp w s
  | .descriptorStart sp eng cut upsets => Sys2Proof.Machine.execDescriptorStart sp eng cut upsets s
  | .descriptorComplete sp m => Sys2Proof.Machine.execDescriptorComplete sp m s
  | .spoolPause sp => Sys2Proof.Machine.execSpoolPause sp s
  | .spoolDrained sp m => Sys2Proof.Machine.execSpoolDrained sp m s
  | .spoolResume sp => Sys2Proof.Machine.execSpoolResume sp s
  | .spoolAbort sp => Sys2Proof.Machine.execSpoolAbort sp s
  | .spoolRestart sp => Sys2Proof.Machine.execSpoolRestart sp s
  | .spoolPaceWrite sp w => Sys2Proof.Machine.execSpoolPaceWrite sp w s
  | .pacingStart sp fill waited cut => Sys2Proof.Machine.execPacingStart sp fill waited cut s
  | .pacingStop sp m => Sys2Proof.Machine.execPacingStop sp m s
  | .spoolPowerWait sp => Sys2Proof.Machine.execSpoolPowerWait sp s
  | .spoolPowerTimeout sp m left => Sys2Proof.Machine.execSpoolPowerTimeout sp m left s
  | .spoolPowerResume sp => Sys2Proof.Machine.execSpoolPowerResume sp s
  | .queueTick => Sys2Proof.Machine.execQueueTick s
  | .biaQueueWrite c w => Sys2Proof.Machine.execBiaQueueWrite c w s
  | .biaStrobeWrite w => Sys2Proof.Machine.execBiaStrobeWrite w s
  | .biasClrAssert => Sys2Proof.Machine.execBiasClrAssert s
  | .biasClrRelease => Sys2Proof.Machine.execBiasClrRelease s
  | .biaPowerWrite c en => Sys2Proof.Machine.execBiaPowerWrite c en s
  | .biaPowerComplete c => Sys2Proof.Machine.execBiaPowerComplete c s
  | .hkaPassStart => Sys2Proof.Machine.execHkaPassStart s
  | .hkaConversionEnd code => Sys2Proof.Machine.execHkaConversionEnd code s
  | .hkaOneshot w => Sys2Proof.Machine.execHkaOneshot w s
  | .hkaCalStart w => Sys2Proof.Machine.execHkaCalStart w s
  | .hkaCalEnd sum50 sum49 gainRes ofsRes => Sys2Proof.Machine.execHkaCalEnd sum50 sum49 gainRes ofsRes s
  | .thermalScan r => Sys2Proof.Machine.execThermalScan r s
  | .resetAssert clrsel => Sys2Proof.Machine.execResetAssert clrsel s
  | .resetRelease r => Sys2Proof.Machine.execResetRelease r s
  | .goLive => Sys2Proof.Machine.execGoLive s
  | .standDown => Sys2Proof.Machine.execStandDown s
  | .recover => Sys2Proof.Machine.execRecover s
  | .autoRecover => Sys2Proof.Machine.execAutoRecover s
  | .shelve bad => Sys2Proof.Machine.execShelve bad s
  | .reboot r => Sys2Proof.Machine.execReboot r s
  | .safeNAssert => Sys2Proof.Machine.execSafeNAssert s
  | .safeNRelease => Sys2Proof.Machine.execSafeNRelease s
  | .pgoodLow k => Sys2Proof.Machine.execPgoodLow k s
  | .watchdogExpire bad => Sys2Proof.Machine.execWatchdogExpire bad s
  | .integrityCheck upsets => Sys2Proof.Machine.execIntegrityCheck upsets s
  | .wakeRise r => Sys2Proof.Machine.execWakeRise r s
  | .wakeFail => Sys2Proof.Machine.execWakeFail s
  | .supplyLoss rail rows => Sys2Proof.Machine.execSupplyLoss rail rows s
  | .vaonBrownout rows => Sys2Proof.Machine.execVaonBrownout rows s
  | .earlyWarning rows bad => Sys2Proof.Machine.execEarlyWarning rows bad s
  | .flashErase => Sys2Proof.Machine.execFlashErase s
  | .flashProgram => Sys2Proof.Machine.execFlashProgram s
  | .flashOpComplete ok => Sys2Proof.Machine.execFlashOpComplete ok s
  | .keyRevoke slots => Sys2Proof.Machine.execKeyRevoke slots s
  | .unlockNew => Sys2Proof.Machine.execUnlockNew s
  | .unlockCheck => Sys2Proof.Machine.execUnlockCheck s
  | .svcRead a n => Sys2Proof.Machine.execSvcRead a n s
  | .svcWrite a bytes e => Sys2Proof.Machine.execSvcWrite a bytes e s
  | .svcStatus => Sys2Proof.Machine.execSvcStatus s
  | .svcLeaseReq => Sys2Proof.Machine.execSvcLeaseReq s
  | .svcLeaseRel => Sys2Proof.Machine.execSvcLeaseRel s
  | .eventRecord bad => Sys2Proof.Machine.execEventRecord bad s
  | .bbFreezeWrite bad => Sys2Proof.Machine.execBbFreezeWrite bad s
  | .snapshotComplete bad => Sys2Proof.Machine.execSnapshotComplete bad s
  | .bbFreeWrite mask bad => Sys2Proof.Machine.execBbFreeWrite mask bad s
  | .lifetimeSecond => Sys2Proof.Machine.execLifetimeSecond s
  | .lifetimeSave bad => Sys2Proof.Machine.execLifetimeSave bad s
  | .faultClearWrite => Sys2Proof.Machine.execFaultClearWrite s
  | .cntClrWrite b => Sys2Proof.Machine.execCntClrWrite b s
  | .statSumRead b => Sys2Proof.Machine.execStatSumRead b s
  | .registerWrite a w e => Sys2Proof.Machine.execRegisterWrite a w e s
  | .vaonPowerOn => Sys2Proof.Machine.execVaonPowerOn s
  | .pgoodHigh r => Sys2Proof.Machine.execPgoodHigh r s
  | .heldWakeRaise r => Sys2Proof.Machine.execHeldWakeRaise r s
  | .linkWaitExpire => Sys2Proof.Machine.execLinkWaitExpire s
  | .tuningVoltageOutOfRange mv => Sys2Proof.Machine.execTuningVoltageOutOfRange mv s
  | .prbsCheckerLock p l bits => Sys2Proof.Machine.execPrbsCheckerLock p l bits s
  | .prbsCheckerLockLoss p l bits => Sys2Proof.Machine.execPrbsCheckerLockLoss p l bits s
  | .managementCaptureEnd k => Sys2Proof.Machine.execManagementCaptureEnd k s
  | .xspiRelease => Sys2Proof.Machine.execXspiRelease s

end Sys2Proof.Machine
end

