-- ==== Sys2Proof/Machine/Idle.lean ====
section
/-! DEFINITION. What happens at a tick of the timing clock, whatever is commanded: network time (R433 to R437) and what the link lanes carry in
training and in a lane test (R370, R372, R393), and the management strobes of the cycle before (R524). -/

namespace Sys2Proof.Machine

/-- One tick with no command: the timing clock, the management strobes, then the lanes of both ports. -/
def State.idle (s : State) : State := (s.tick.biasTick.portTick 0).portTick 1

end Sys2Proof.Machine
end

