-- ==== Sys2Proof/Machine/Step.lean ====
section
/-! DEFINITION. One step: the command at the front of the queue, or one tick of the timing clock while no command waits. -/

namespace Sys2Proof.Machine

/-- One step. With commands waiting it performs the oldest on the state without it; with none the timing clock ticks (R433, DESIGN
CHOICE: log entry of the tick). -/
def step (s : State) : Host.Outcome State Fault Refusal :=
  match s.pending with
  | [] => .next s.idle
  | c :: t => exec c { s with pending := t }

/-- The state with the command that a word spells put in front of the queue; no word spells one. -/
def State.withFetchWord (s : State) (nbits w : Nat) : State :=
  match decodeTableWord nbits w with
  | some c => { s with pending := c :: s.pending }
  | none => s

end Sys2Proof.Machine
end

