-- ==== Sys2Proof/Safety.lean ====
section
/-! DEFINITION. What claims are stated in: the canonical form that every step keeps, the parts of the state with what it means
that a command leaves a part alone, and the registers that an event touches. -/

namespace Sys2Proof.Machine

/-- Memory is in canonical form: bytes, marks and what was written where the spec gives no layout, at rising keys, none that an unlisted key
reads as. -/
abbrev Memory.wf (m : Mem) : Prop :=
  tabWf (fun _ => (0 : Byte)) m.cells = true ∧ tabWf (fun _ => Mark.ok) m.marks = true ∧ tabWf (fun _ => false) m.wrote = true

/-- The canonical form of the state's tables: registers, memory bytes, the marks of memory units, the keeper store, the flash
and what was written where the spec gives memory no layout. Each lists rising keys and no entry that reads as an unlisted key would. -/
abbrev State.Canon (s : State) : Prop :=
  tabWf resetWord s.regs = true ∧ tabWf (fun _ => (0 : Byte)) s.mem.cells = true ∧ tabWf (fun _ => Mark.ok) s.mem.marks = true ∧
    tabWf (fun _ => (0 : Byte)) s.store = true ∧ tabWf (fun _ => (0xFF : Byte)) s.flash = true ∧
    tabWf (fun _ => false) s.mem.wrote = true

/-- The canonical form of the lists that the engines keep by key: the directory of lasts, the open rows and postponed refreshes of the DRAM
channels, the survey powers. -/
abbrev State.Side (s : State) : Prop :=
  tabWf (fun _ => ({} : DirEntry)) s.bmx.dir = true ∧
    (∀ c : Fin 2, tabWf (fun _ => (0 : Nat)) (s.mem.chans[c]).rows = true ∧ tabWf (fun _ => (0 : Nat)) (s.mem.chans[c]).postponed = true) ∧
    tabWf (fun _ => (0 : Nat)) s.ulr.pw = true

/-- The unit's block is read back from another address. -/
def Mark.moved : Mark → Bool
  | .astray _ => true
  | _ => false

/-- No DRAM request waits and every block is read back from its own address: bytes change only where a command stores. -/
abbrev State.QuietMem (s : State) : Prop :=
  (∀ c : Fin 2, s.mem.chans[c].queue = []) ∧ ∀ x ∈ s.mem.marks, x.2.moved = false

/-- No running spool of high priority goes before spool `sp` (R513). -/
abbrev State.First (s : State) (sp : Fin 32) : Prop :=
  s.splHigh sp = true ∨ ∀ k : Fin 32, s.splHigh k = true → s.runsFree k = false

/-- The fields of the state beside the registers. -/
inductive Part where
  | now | mode | air | paths | clk | dpd | seq | bias | hka | kpr | rcd | pins | fuses | tim | dfe | pkt | bmx | ulr | kte | mem | tns | prod | store | flash | freeIdx | out | pending
  deriving DecidableEq, Repr

/-- Part `p` of `t` is that of `s`. -/
def Part.same (s t : State) : Part → Prop
  | .now => t.now = s.now
  | .mode => t.mode = s.mode
  | .air => t.air = s.air
  | .paths => t.paths = s.paths
  | .clk => t.clk = s.clk
  | .dpd => t.dpd = s.dpd
  | .seq => t.seq = s.seq
  | .bias => t.bias = s.bias
  | .hka => t.hka = s.hka
  | .kpr => t.kpr = s.kpr
  | .rcd => t.rcd = s.rcd
  | .pins => t.pins = s.pins
  | .fuses => t.fuses = s.fuses
  | .tim => t.tim = s.tim
  | .dfe => t.dfe = s.dfe
  | .pkt => t.pkt = s.pkt
  | .bmx => t.bmx = s.bmx
  | .ulr => t.ulr = s.ulr
  | .kte => t.kte = s.kte
  | .mem => t.mem = s.mem
  | .tns => t.tns = s.tns
  | .prod => t.prod = s.prod
  | .store => t.store = s.store
  | .flash => t.flash = s.flash
  | .freeIdx => t.freeIdx = s.freeIdx
  | .out => t.out = s.out
  | .pending => t.pending = s.pending

/-- Frame: from `s` to `t` nothing changes but the parts `ps` and the registers at the addresses `rs`. Where `.mem` is not among the
parts, every byte of memory reads as before. -/
abbrev Frame (s t : State) (ps : List Part) (rs : Nat → Prop) : Prop :=
  (∀ p, p ∉ ps → p.same s t) ∧ ∀ a, ¬ rs a → t.rd a = s.rd a

/-- The registers that raising an event of code `c` may change: BLK_STAT_SUM of its block (R614) and the count of lost events
(R583). Raising one changes the part `.rcd` beside them. -/
abbrev eventRegs (c a : Nat) : Prop := a = Reg.BLK_STAT_SUM (c / 256) ∨ a = Reg.KPR_EVT_OVF_CNT

/-- No register changes. -/
abbrev noRegs (_ : Nat) : Prop := False

/-- The registers of an array of `n`. -/
abbrev arr (n : Nat) (f : Nat → Nat) (a : Nat) : Prop := ∃ i < n, a = f i

/-- The registers of an array of `n` by `m`. -/
abbrev arr2 (n m : Nat) (f : Nat → Nat → Nat) (a : Nat) : Prop := ∃ i < n, ∃ j < m, a = f i j

/-- The registers of an array of `n` by `m` by `k`. -/
abbrev arr3 (n m k : Nat) (f : Nat → Nat → Nat → Nat) (a : Nat) : Prop := ∃ i < n, ∃ j < m, ∃ l < k, a = f i j l

/-- The registers of an array of four levels. -/
abbrev arr4 (n m k j : Nat) (f : Nat → Nat → Nat → Nat → Nat) (a : Nat) : Prop :=
  ∃ x < n, ∃ y < m, ∃ z < k, ∃ w < j, a = f x y z w

/-- From `s` to `t` the counter at `a` grew by `n`, saturating (R9). -/
abbrev Counted (s t : State) (a n : Nat) : Prop := (t.rd a).toNat = satAdd (s.rd a).toNat n

/-- Between `s` and `t` an event of code `c` with the arguments `l`, each with its number of bytes, was raised: with room among
the waiting events, it waits (R581 to R583). -/
abbrev Raised (s t : State) (c : Nat) (l : List (Nat × Nat)) : Prop :=
  s.rcd.queue.length < 64 → ∃ e ∈ t.rcd.queue, e.code = c ∧ e.args = packArgs l

/-- The oldest request of `src` no longer waits (R420). -/
def State.taken (s : State) (src : Nat) : State := s.dropOldest src

/-- The words `ws` written in ascending order from `a`, each as a write of its own, and how many of them were performed: a management
capture that R92 refuses is not (R420, R606). -/
def State.wroteEach (s : State) (a : Nat) (ws : List Word) (e : WriteEnv) : State × Nat :=
  ws.zipIdx.foldl (fun r x =>
    let (u, busy) := r.1.writeReg (a + 4 * x.2) x.1 e
    (u, if busy then r.2 else r.2 + 1)) (s, 0)

/-- From `s` to `t` the reply to request `q` of `src` has joined queue 7 of the port toward `src`, and nothing else of the ports changed
(R402, R419); a source that stands for all chips is answered on every port that leads to a chip. -/
abbrev Replied (s t : State) (src : Nat) (q : MReq) (status done : Nat) (data : List Byte) : Prop :=
  ∀ u : Fin 2, t.pkt.ports[u] =
    if (if src = 4 then t.basebandPort u = false else u = t.routeTo src) then
      { s.pkt.ports[u] with
        queues := (s.pkt.ports[u]).queues.set 7 { (s.pkt.ports[u]).queues[7] with
          wait := (s.pkt.ports[u]).queues[7].wait ++ [{ t.replyParcel src q status done data with at_ := t.now }] } }
    else s.pkt.ports[u]

end Sys2Proof.Machine
end

