-- ==== Sys2Proof/Certificates/Slice0/Obligations.lean ====
section
/-! DEFINITION. The statements for the provers, by family of commands. A statement about a command says when it has the effect the
manual gives it, that it then answers a next state, what that state holds, and its frame. -/

open Sys2Proof Sys2Proof.Machine

/-- On every state with its tables in canonical form: REFCLK_LOSS sets ref_lost, counts, raises 0x0802 with its cause, and puts
the PLLs in holdover and the chip in the blanking of lost lock; REFCLK_RESTORE clears ref_lost and starts the attempts of all
four PLLs. PLL_UNLOCK of a locked PLL clears its lock bit, counts in SYN_UNLOCK_CNT, raises 0x0801, begins the blanking, starts
the attempts of that PLL while REFCLK is present, and for the GPLL and the TPLL begins holdover. PLL_LOCK ends an attempt that
has not run longer than its 200 µs (LPLL) or 100 µs with the lock bit set and 0x0804 raised, the LPLL with its band and voltage
in SYN_VCO, and ends the blanking when the others are locked. RELOCK_ATTEMPT_TIMEOUT goes on to the next attempt when one has
run its length, and after the third clears the lock bit, ends the sequence and raises 0x0803. RELOCK_SEQUENCE_RESTART starts a
new sequence 100 ms later, not in BOOT. Where REFCLK is already lost or present, the PLL not locked, no attempt running or its
length not run, or no sequence ended 100 ms ago, the state stays. Nothing else changes but the listed parts and registers. -/
def Obligations.ClockLossAndRelock : Prop := ∀ s : State, s.Canon →
  (∀ (freq : Bool), s.clk.refLost = false → ∃ t, exec (.refclkLoss freq) s = .next t ∧ t.clk.refLost = true ∧
    t.bit Reg.SYN_LOCK_STAT 4 = true ∧ Counted s t Reg.SYN_REF_LOSS_CNT 1 ∧ Raised s t 0x0802 [(1, if freq then 1 else 0)] ∧
    t.clk.holdover = true ∧ t.clk.unlocked = true ∧ Frame s t [.paths, .clk, .seq, .rcd,
    .kte] (fun a => a ∈ [Reg.KTE_TX_SKIP_CNT, Reg.SYN_LOCK_STAT, Reg.SYN_REF_LOSS_CNT, Reg.TIM_QUAL, Reg.TIM_QUAL_CHANGE_CNT] ∨
    arr 16 Reg.SEQ_BLANK_CNT a ∨ eventRegs 0x0103 a ∨ eventRegs 0x0802 a)) ∧
  (∀ (freq : Bool), s.clk.refLost = true → exec (.refclkLoss freq) s = .next s) ∧
  (s.clk.refLost = true → ∃ t, exec .refclkRestore s = .next t ∧ t.clk.refLost = false ∧ t.bit Reg.SYN_LOCK_STAT 4 = false ∧
    (∀ k : Fin 4, t.clk.plls[k].attempt = some 1 ∧ t.clk.plls[k].exhausted = none) ∧
    Frame s t [.clk] (fun a => a = Reg.SYN_LOCK_STAT)) ∧
  (s.clk.refLost = false → exec .refclkRestore s = .next s) ∧
  (∀ (p : Pll), s.clk.plls[p.idx].locked = true → ∃ t, exec (.pllUnlock p) s = .next t ∧ t.clk.plls[p.idx].locked = false ∧
    t.bit Reg.SYN_LOCK_STAT p.idx = false ∧ Counted s t (Reg.SYN_UNLOCK_CNT p.idx) 1 ∧ Raised s t 0x0801 [(1, p.idx)] ∧
    t.clk.unlocked = true ∧ (s.clk.refLost = false → t.clk.plls[p.idx].attempt = some 1) ∧ (p = .gpll ∨ p = .tpll →
    t.clk.holdover = true) ∧ Frame s t [.paths, .clk, .seq, .rcd, .kte] (fun a => a ∈ [Reg.KTE_TX_SKIP_CNT, Reg.SYN_LOCK_STAT,
    Reg.TIM_QUAL, Reg.TIM_QUAL_CHANGE_CNT] ∨ arr 16 Reg.SEQ_BLANK_CNT a ∨ arr 4 Reg.SYN_UNLOCK_CNT a ∨ eventRegs 0x0103 a ∨
    eventRegs 0x0801 a)) ∧
  (∀ (p : Pll), s.clk.plls[p.idx].locked = false → exec (.pllUnlock p) s = .next s) ∧
  (∀ (p : Pll) (band : BitVec 6) (vtune : BitVec 12) (n : Nat), s.clk.plls[p.idx].attempt = some n →
    s.now - s.clk.plls[p.idx].attemptAt ≤ attemptTicks p.idx → ∃ t, exec (.pllLock p band vtune) s = .next t ∧
    t.clk.plls[p.idx].locked = true ∧ t.clk.plls[p.idx].attempt = none ∧ t.bit Reg.SYN_LOCK_STAT p.idx = true ∧
    Raised s t 0x0804 [(1, p.idx), (1, n)] ∧ (p = .lpll → t.fld Reg.SYN_VCO 21 16 = band.toNat ∧
    t.fld Reg.SYN_VCO 11 0 = vtune.toNat) ∧ ((∀ j : Fin 4, j ≠ p.idx → s.clk.plls[j].locked = true ∧
    s.clk.plls[j].attempt = none) → s.clk.refLost = false → t.clk.unlocked = false) ∧ Frame s t [.clk,
    .rcd] (fun a => a ∈ [Reg.SYN_LOCK_STAT, Reg.SYN_VCO, Reg.TIM_QUAL, Reg.TIM_QUAL_CHANGE_CNT] ∨ eventRegs 0x0103 a ∨
    eventRegs 0x0804 a)) ∧
  (∀ (p : Pll) (band : BitVec 6) (vtune : BitVec 12), s.clk.plls[p.idx].attempt = none ∨
    attemptTicks p.idx < s.now - s.clk.plls[p.idx].attemptAt → exec (.pllLock p band vtune) s = .next s) ∧
  (∀ (p : Pll) (n : Nat), s.clk.plls[p.idx].attempt = some n → attemptTicks p.idx ≤ s.now - s.clk.plls[p.idx].attemptAt → ∃ t,
    exec (.relockAttemptTimeout p) s = .next t ∧ (n < 3 → t.clk.plls[p.idx].attempt = some (n + 1) ∧
    t.clk.plls[p.idx].attemptAt = s.now) ∧ (3 ≤ n → t.clk.plls[p.idx].attempt = none ∧
    t.clk.plls[p.idx].exhausted = some s.now ∧ t.bit Reg.SYN_LOCK_STAT p.idx = false ∧
    Counted s t (Reg.SYN_UNLOCK_CNT p.idx) (if s.clk.plls[p.idx].locked then 1 else 0) ∧ (s.rcd.queue.length < 63 →
    Raised s t 0x0803 [(1, p.idx)])) ∧ Frame s t [.clk, .rcd] (fun a => a = Reg.SYN_LOCK_STAT ∨ arr 4 Reg.SYN_UNLOCK_CNT a ∨
    eventRegs 0x0801 a ∨ eventRegs 0x0803 a)) ∧
  (∀ (p : Pll), s.clk.plls[p.idx].attempt = none ∨ s.now - s.clk.plls[p.idx].attemptAt < attemptTicks p.idx →
    exec (.relockAttemptTimeout p) s = .next s) ∧
  (∀ (p : Pll) (a : Nat), s.clk.plls[p.idx].exhausted = some a → msPassed (s.now - a) 100 = true → s.mode ≠ .boot → ∃ t,
    exec (.relockSequenceRestart p) s = .next t ∧ t.clk.plls[p.idx].attempt = some 1 ∧ t.clk.plls[p.idx].exhausted = none ∧
    Frame s t [.clk] noRegs) ∧
  (∀ (p : Pll), s.mode = .boot ∨ (s.clk.plls[p.idx].exhausted.all fun a => !msPassed (s.now - a) 100) = true →
    exec (.relockSequenceRestart p) s = .next s)

/-- LEAF_MEASURE takes half the round trip as the arrival delay and shows the drift (R120). ELIGIBLE_WINDOW_START where a window
of 16 µs or more begins opens it and starts a requested re-centring; elsewhere it changes nothing (R124, R127, R131).
RECENTRE_COMPLETE shows band and voltage and counts (R127). RECENTRE_LATE counts once and keeps waiting (R128).
TUNING_VOLTAGE_OUT_OF_RANGE shows the voltage, and outside the range a re-centring is requested (R127). Each with its frame. The
unit of arrival delays, 0.05 ps, is the model's. -/
def Obligations.ClockTreeTrackingAndRecentring : Prop := ∀ s : State, s.Canon →
  (∀ (q : Fin 17) (roundTrip : Nat), ∃ t, exec (.leafMeasure q roundTrip) s = .next t ∧ t.clk.arrival[q] = roundTrip ∧
    t.fld (Reg.SYN_LEAF q) 31 24 = toBits 8 (satInt (-128) 127 (roundDiv (t.leafDrift q) 2)) ∧
    Frame s t [.clk] (fun a => a = Reg.SYN_LEAF q)) ∧
  (∀ (len : Nat), s.windowHere = some len → nsPassed len 16000 = true → ∃ t, exec .eligibleWindowStart s = .next t ∧
    t.clk.windowEnd = s.now + len ∧ t.clk.recentreReq = none ∧
    t.clk.recentring = (s.clk.recentring || s.clk.recentreReq.isSome) ∧ (s.clk.recentreReq = none → t.clk.trimDue = false) ∧
    Frame s t [.clk] (fun a => a ∈ [Reg.SYN_COH, Reg.SYN_TRACK_CNT] ∨ arr 17 Reg.SYN_LEAF a)) ∧
  ((s.windowHere.all fun len => !nsPassed len 16000) = true → exec .eligibleWindowStart s = .next s) ∧
  (∀ (band : BitVec 6) (vtune : BitVec 12), s.clk.recentring = true → ∃ t, exec (.recentreComplete band vtune) s = .next t ∧
    t.clk.recentring = false ∧ t.fld Reg.SYN_VCO 21 16 = band.toNat ∧ t.fld Reg.SYN_VCO 11 0 = vtune.toNat ∧
    Counted s t Reg.SYN_RECENTRE_CNT 1 ∧ Frame s t [.clk, .seq] (fun a => a ∈ [Reg.SYN_COH, Reg.SYN_RECENTRE_CNT,
    Reg.SYN_TRACK_CNT, Reg.SYN_VCO] ∨ arr 17 Reg.SYN_LEAF a)) ∧
  (∀ (band : BitVec 6) (vtune : BitVec 12), s.clk.recentring = false → exec (.recentreComplete band vtune) s = .next s) ∧
  (∀ (a : Nat), s.clk.recentreReq = some a → 20 * 983040 < s.now - a → s.clk.recentreLate = false → ∃ t,
    exec .recentreLate s = .next t ∧ t.clk.recentreLate = true ∧ t.clk.recentreReq = some a ∧
    Counted s t Reg.SYN_RECENTRE_LATE_CNT 1 ∧ Raised s t 0x0805 [(1, s.fld Reg.SYN_VCO 30 24)] ∧ Frame s t [.clk,
    .rcd] (fun a => a = Reg.SYN_RECENTRE_LATE_CNT ∨ eventRegs 0x0805 a)) ∧
  (s.clk.recentreLate = true ∨ s.clk.recentreReq = none → exec .recentreLate s = .next s) ∧
  (∀ (mv : BitVec 12), ∃ t, exec (.tuningVoltageOutOfRange mv) s = .next t ∧ t.fld Reg.SYN_VCO 11 0 = mv.toNat ∧
    (mv.toNat < s.fld Reg.SYN_RECENTRE 11 0 ∨ s.fld Reg.SYN_RECENTRE 27 16 < mv.toNat → t.clk.recentreReq.isSome = true) ∧
    (s.fld Reg.SYN_RECENTRE 11 0 ≤ mv.toNat ∧ mv.toNat ≤ s.fld Reg.SYN_RECENTRE 27 16 → t.clk = s.clk) ∧
    Frame s t [.clk] (fun a => a = Reg.SYN_VCO))

/-- RETUNE_WRITE accepts or refuses the code and holds an accepted one for the frame boundary 2 ms later (R136 to R138).
OFFSET_WRITE holds the requested offset likewise (R143). FRAME_BOUNDARY applies a due retune (R136), or refuses it where the
offsets that apply there break R137 (the model's reading, log of R144), and shows the figures of the previous frame (R159), or
leaves them to the end of a D symbol that ends there. RETUNE_SETTLED ends the settling after 80 µs and shows the band and the
voltage of the new frequency (R136). While writes are not performed the write commands change nothing (R609). Each with its
frame. -/
def Obligations.LoRetuneAndCarrierOffsets : Prop := ∀ s : State, s.Canon →
  (∀ (w : Word), s.writable = true → ∃ t, exec (.retuneWrite w) s = .next t ∧ t.fld Reg.SYN_RETUNE 17 0 = fldOf w 17 0 ∧
    (s.retuneAllowed (fldOf w 17 0) = true → t.bit Reg.SYN_RETUNE 31 = true ∧ t.bit Reg.SYN_RETUNE 30 = false ∧
    t.clk.retune = some { code := fldOf w 17 0, notBefore := s.now + 2 * 983040 }) ∧ (s.retuneAllowed (fldOf w 17 0) = false →
    t.bit Reg.SYN_RETUNE 30 = true ∧ Counted s t Reg.SYN_RETUNE_REFUSE_CNT 1 ∧ t.clk = s.clk) ∧
    Frame s t [.clk] (fun a => a ∈ [Reg.SYN_RETUNE, Reg.SYN_RETUNE_REFUSE_CNT])) ∧
  (∀ (w : Word), s.writable = false → exec (.retuneWrite w) s = .next s) ∧
  (∀ (c : Fin 4) (w : Word), s.writable = true → ∃ t, exec (.offsetWrite c w) s = .next t ∧
    t.fld (Reg.DFE_CAR_OFS c) 16 0 = fldOf w 16 0 ∧ t.bit (Reg.DFE_CAR_OFS c) 31 = true ∧
    t.bit (Reg.DFE_CAR_OFS c) 30 = false ∧
    t.dfe.request[c] = some { code := signedOf 17 (fldOf w 16 0), notBefore := s.now + 2 * 983040 } ∧
    t.dfe.offset = s.dfe.offset ∧ Frame s t [.dfe] (fun a => a = Reg.DFE_CAR_OFS c)) ∧
  (∀ (c : Fin 4) (w : Word), s.writable = false → exec (.offsetWrite c w) s = .next s) ∧
  (∃ t, exec .frameBoundary s = .next t ∧ ((s.dfe.tx.all fun x => !(x.d && decide (x.at_ + x.len8 ≤ s.now))) = true →
    ∀ (p : Fin 64) (v : Int), (s.dfe.cfr[p]).par = some v → 0 ≤ v → v ≤ 1023 → (t.fld (Reg.DFE_CFR_STAT p) 9 0 : Int) = v) ∧
    ((s.dfe.tx.all fun x => !(x.d && decide (x.at_ + x.len8 ≤ s.now))) = true → ∀ (c : Fin 4) (v : Int),
    s.cfrError c = some v → 0 ≤ v → v ≤ 1023 → (t.fld (Reg.DFE_CAR_STAT c) 9 0 : Int) = v) ∧
    ((s.dfe.tx.all fun x => !(x.d && decide (x.at_ + x.len8 ≤ s.now))) = true → t.dfe.cfr = Vector.replicate 64 {} ∧
    t.dfe.cfrDue = false) ∧ ((s.dfe.tx.all fun x => !(x.d && decide (x.at_ + x.len8 ≤ s.now))) = false →
    t.dfe.cfr = s.dfe.cfr ∧ t.dfe.cfrDue = true) ∧ (∀ r, s.clk.retune = some r → r.notBefore ≤ s.now → t.clk.retune = none ∧
    (s.retuneStands r.code = true → t.clk.settling = some s.now ∧ t.fld Reg.SYN_LO 17 0 = r.code % 2 ^ 18) ∧
    (s.retuneStands r.code = false → t.clk.settling = s.clk.settling ∧ t.fld Reg.SYN_LO 17 0 = s.fld Reg.SYN_LO 17 0 ∧
    t.bit Reg.SYN_RETUNE 30 = true ∧ Counted s t Reg.SYN_RETUNE_REFUSE_CNT 1)) ∧ Frame s t [.paths, .clk, .dpd, .seq, .bias,
    .rcd, .dfe, .kte, .freeIdx] (fun a => a ∈ [Reg.KTE_STAT, Reg.KTE_SUSPEND_CNT, Reg.KTE_TX_SKIP_CNT, Reg.SEQ_CAL_FAIL_CNT,
    Reg.SEQ_CAL_STAT, Reg.SYN_COH, Reg.SYN_LO, Reg.SYN_RETUNE, Reg.SYN_RETUNE_REFUSE_CNT, Reg.TIM_EDGE_ALARM_CNT,
    Reg.TIM_EDGE_ERR, Reg.TIM_EDGE_STAT, Reg.TIM_QUAL, Reg.TIM_QUAL_CHANGE_CNT] ∨ arr 80 Reg.BIA_CLEAR_CNT a ∨
    arr 4 Reg.DFE_CAR_OFS a ∨ arr 4 Reg.DFE_CAR_STAT a ∨ arr 64 Reg.DFE_CFR_STAT a ∨ arr 4 Reg.DFE_OFS_REFUSE_CNT a ∨
    arr 64 Reg.DPD_TRIP_STAT a ∨ arr 9 Reg.RXP_OBS_ROUTE a ∨ arr 16 Reg.SEQ_BLANK_CNT a ∨ arr 16 Reg.SEQ_DEFER_CNT a ∨
    arr 64 Reg.TXP_SAT_CNT a ∨ eventRegs 0x0102 a ∨ eventRegs 0x0103 a ∨ eventRegs 0x0702 a ∨ eventRegs 0x1102 a)) ∧
  (∀ (band : BitVec 6) (vtune : BitVec 12) (a : Nat), s.clk.settling = some a → usPassed (s.now - a) 80 = true → ∃ t,
    exec (.retuneSettled band vtune) s = .next t ∧ t.clk.settling = none ∧ t.fld Reg.SYN_VCO 21 16 = band.toNat ∧
    t.fld Reg.SYN_VCO 11 0 = vtune.toNat ∧ (s.clk.retune = none → t.bit Reg.SYN_RETUNE 31 = false) ∧
    Frame s t [.clk] (fun a => a ∈ [Reg.SYN_RETUNE, Reg.SYN_VCO])) ∧
  (∀ (band : BitVec 6) (vtune : BitVec 12), s.clk.settling = none → exec (.retuneSettled band vtune) s = .next s)

/-- TIM_INCR_WRITE holds an allowed increment for the next tick and refuses and counts another (R435). TIM_ADJ_STEP asks for the
step (R436). TIM_NS_READ latches the fraction (R438). TIME_VALID_WRITE makes the quality VALID where R458 allows it and is
counted as refused elsewhere. PENDING_ENTRY_EXPIRE drops the entries of Syncs that left 10 ms ago (R447). While writes are not
performed the write commands change nothing (R609). Each with its frame. -/
def Obligations.TimeCounterCommands : Prop := ∀ s : State, s.Canon →
  (∀ (w : Word), s.writable = true → ∃ t, exec (.timIncrWrite w) s = .next t ∧
    (incrAllowed (fldOf w 3 0) (s.fld Reg.TIM_INCR_FRAC 31 0) (fldOf w 9 8) = true → t.tim.incr = some (fldOf w 3 0,
    s.fld Reg.TIM_INCR_FRAC 31 0, fldOf w 9 8) ∧ t.bit Reg.TIM_INCR_CTL 31 = false) ∧
    (incrAllowed (fldOf w 3 0) (s.fld Reg.TIM_INCR_FRAC 31 0) (fldOf w 9 8) = false → t.tim = s.tim ∧
    t.bit Reg.TIM_INCR_CTL 31 = true ∧ Counted s t Reg.TIM_INCR_REFUSE_CNT 1) ∧
    Frame s t [.tim] (fun a => a ∈ [Reg.TIM_INCR_CTL, Reg.TIM_INCR_REFUSE_CNT])) ∧
  (∀ (w : Word), s.writable = false → exec (.timIncrWrite w) s = .next s) ∧
  (s.writable = true → ∃ t, exec .timAdjStep s = .next t ∧ t.bit Reg.TIM_ADJ_CTL 0 = true ∧
    Frame s t [] (fun a => a = Reg.TIM_ADJ_CTL)) ∧
  (s.writable = false → exec .timAdjStep s = .next s) ∧
  (∃ t, exec .timNsRead s = .next t ∧ (t.rd Reg.TIM_NS_FRAC).toNat = s.tns % 2 ^ 32 ∧ t.ns = s.ns ∧
    Frame s t [] (fun a => a = Reg.TIM_NS_FRAC)) ∧
  (s.writable = true → ∃ t, exec .timeValidWrite s = .next t ∧ ((s.quality = 0 ∧ s.aligned = true) ∨ (s.quality = 2 ∧
    s.bit Reg.TIM_QUAL 9 = false) → t.quality = 1 ∧ t.bit Reg.TIM_QUAL 8 = false ∧ Counted s t Reg.TIM_QUAL_CHANGE_CNT 1) ∧
    (¬ ((s.quality = 0 ∧ s.aligned = true) ∨ (s.quality = 2 ∧ s.bit Reg.TIM_QUAL 9 = false)) → t.quality = s.quality ∧
    Counted s t Reg.TIM_ACK_REFUSE_CNT 1) ∧ Frame s t [.rcd] (fun a => a ∈ [Reg.TIM_ACK_REFUSE_CNT, Reg.TIM_QUAL,
    Reg.TIM_QUAL_CHANGE_CNT] ∨ eventRegs 0x0103 a)) ∧
  (s.writable = false → exec .timeValidWrite s = .next s) ∧
  (∃ t, exec .pendingEntryExpire s = .next t ∧ (∀ e ∈ t.tim.pend, e ∈ s.tim.pend ∧ msPassed (s.now - e.at_) 10 = false) ∧
    (∀ e ∈ s.tim.pend, msPassed (s.now - e.at_) 10 = false → e ∈ t.tim.pend) ∧ Frame s t [.tim] noRegs)

/-- DELAY_REQ_SEND with go on a port that is up shows go and no refusal, and with the port down it is refused (R449). EPOCH_ARM
latches the epoch in READY within 2 s; otherwise it is refused and counted, and an arm accepted before stands (R450).
EPOCH_COMPARE_FIRE fires an armed compare once the counter has reached the epoch, and else changes nothing (R450). SYN_ALIGN_ARM
arms the ALIGN_IN capture in READY, and is refused and counted elsewhere (R123, R452). In READY, ALIGNMENT_EDGE places the
timeline at an edge after the compare has fired, or at an edge that samples ALIGN_IN high after two low samples that follow the
arm (R122, R123, R451); else it changes nothing. While writes are not performed the write commands change nothing (R609). Each
with its frame. -/
def Obligations.DelayRequestAndEpoch : Prop := ∀ s : State, s.Canon →
  (∀ (w : Word), s.writable = true → ∃ t, exec (.delayReqSend w) s = .next t ∧ (fldOf w 31 31 = 1 →
    s.portUp (s.routeTo (5 + fldOf w 24 24)) = true → t.bit Reg.TIM_DREQ_CTL 31 = true ∧ t.bit Reg.TIM_DREQ_CTL 30 = false) ∧
    (fldOf w 31 31 = 1 → s.portUp (s.routeTo (5 + fldOf w 24 24)) = false → t.bit Reg.TIM_DREQ_CTL 31 = false ∧
    t.bit Reg.TIM_DREQ_CTL 30 = true ∧ t.pkt = s.pkt) ∧ (fldOf w 31 31 = 0 → t.pkt = s.pkt) ∧
    Frame s t [.pkt] (fun a => a = Reg.TIM_DREQ_CTL)) ∧
  (∀ (w : Word), s.writable = false → exec (.delayReqSend w) s = .next s) ∧
  (s.writable = true → ∃ t, exec .epochArm s = .next t ∧ (s.mode = .ready →
    (s.fld Reg.TIM_EPOCH_NS 31 0 + 2 ^ 32 - s.ns) % 2 ^ 32 ≤ 2000000000 → t.bit Reg.TIM_EPOCH_CTRL 31 = true ∧
    t.bit Reg.TIM_EPOCH_CTRL 30 = false ∧ t.bit Reg.SYN_ALIGN 0 = false ∧ t.tim.epochNs = s.fld Reg.TIM_EPOCH_NS 31 0 ∧
    t.tim.epochSfn = s.fld Reg.TIM_EPOCH_SFN 9 0 ∧ t.tim.fired = false) ∧ (s.mode ≠ .ready ∨
    2000000000 < (s.fld Reg.TIM_EPOCH_NS 31 0 + 2 ^ 32 - s.ns) % 2 ^ 32 →
    t.bit Reg.TIM_EPOCH_CTRL 31 = s.bit Reg.TIM_EPOCH_CTRL 31 ∧ t.bit Reg.TIM_EPOCH_CTRL 30 = true ∧ t.tim = s.tim ∧
    Counted s t Reg.TIM_ALIGN_REFUSE_CNT 1) ∧ Frame s t [.rcd, .tim] (fun a => a ∈ [Reg.SYN_ALIGN, Reg.TIM_ALIGN_REFUSE_CNT,
    Reg.TIM_EPOCH_CTRL] ∨ eventRegs 0x0104 a)) ∧
  (s.writable = false → exec .epochArm s = .next s) ∧
  (s.bit Reg.TIM_EPOCH_CTRL 31 = true → (s.ns + 2 ^ 32 - s.tim.epochNs) % 2 ^ 32 < 2 ^ 31 → ∃ t,
    exec .epochCompareFire s = .next t ∧ t.bit Reg.TIM_EPOCH_CTRL 31 = false ∧
    t.tim = { s.tim with fired := true, firedAt := s.now } ∧ Frame s t [.tim] (fun a => a = Reg.TIM_EPOCH_CTRL)) ∧
  (s.bit Reg.TIM_EPOCH_CTRL 31 = false ∨ 2 ^ 31 ≤ (s.ns + 2 ^ 32 - s.tim.epochNs) % 2 ^ 32 →
    exec .epochCompareFire s = .next s) ∧
  (s.writable = true → ∃ t, exec .synAlignArm s = .next t ∧ (s.mode = .ready → t.tim.armAt = s.now ∧
    t.bit Reg.SYN_ALIGN 0 = true ∧ t.bit Reg.TIM_EPOCH_CTRL 31 = false ∧ t.tim.alignSfn = s.fld Reg.TIM_EPOCH_SFN 9 0 ∧
    t.tim.fired = false) ∧ (s.mode ≠ .ready → t.tim = s.tim ∧ Counted s t Reg.TIM_ALIGN_REFUSE_CNT 1) ∧ Frame s t [.rcd,
    .tim] (fun a => a ∈ [Reg.SYN_ALIGN, Reg.TIM_ALIGN_REFUSE_CNT, Reg.TIM_EPOCH_CTRL] ∨ eventRegs 0x0104 a)) ∧
  (s.writable = false → exec .synAlignArm s = .next s) ∧
  (∀ (low : Nat), s.mode = .ready → s.tim.fired = true → s.tim.firedAt < s.now → ∃ t, exec (.alignmentEdge low) s = .next t ∧
    t.air.origin = some (s.now, s.tim.epochSfn) ∧ t.clk.dividersAligned = true ∧ t.tim.fired = false ∧
    t.tim.ref = s.tim.epochNs * 2 ^ 32 ∧ Counted s t Reg.TIM_ALIGN_CNT 1 ∧ Raised s t 0x0105 [(4, s.ns), (2, s.tim.epochSfn),
    (1, 0)] ∧ Frame s t [.air, .clk, .rcd, .tim] (fun a => a ∈ [Reg.SYN_ALIGN, Reg.SYN_ALIGN_CNT, Reg.TIM_ALIGN_CNT,
    Reg.TIM_EDGE_ALARM_CNT, Reg.TIM_EDGE_ERR, Reg.TIM_EDGE_STAT, Reg.TIM_EPOCH_CAP, Reg.TIM_EPOCH_CTRL, Reg.TIM_QUAL,
    Reg.TIM_QUAL_CHANGE_CNT] ∨ eventRegs 0x0102 a ∨ eventRegs 0x0103 a ∨ eventRegs 0x0105 a)) ∧
  (∀ (low : Nat), s.mode = .ready → s.tim.fired = false → s.bit Reg.SYN_ALIGN 0 = true → 2 ≤ low → s.tim.armAt + 8 < s.now →
    ∃ t, exec (.alignmentEdge low) s = .next t ∧ t.air.origin = some (s.now, s.tim.alignSfn) ∧ t.bit Reg.SYN_ALIGN 0 = false ∧
    t.bit Reg.SYN_ALIGN 4 = true ∧ Counted s t Reg.SYN_ALIGN_CNT 1 ∧ t.tim.ref = s.tns ∧ Counted s t Reg.TIM_ALIGN_CNT 1 ∧
    Frame s t [.air, .clk, .rcd, .tim] (fun a => a ∈ [Reg.SYN_ALIGN, Reg.SYN_ALIGN_CNT, Reg.TIM_ALIGN_CNT,
    Reg.TIM_EDGE_ALARM_CNT, Reg.TIM_EDGE_ERR, Reg.TIM_EDGE_STAT, Reg.TIM_EPOCH_CAP, Reg.TIM_EPOCH_CTRL, Reg.TIM_QUAL,
    Reg.TIM_QUAL_CHANGE_CNT] ∨ eventRegs 0x0102 a ∨ eventRegs 0x0103 a ∨ eventRegs 0x0105 a)) ∧
  (∀ (low : Nat), s.mode ≠ .ready ∨ (s.tim.fired = true ∧ s.now ≤ s.tim.firedAt) ∨ (s.tim.fired = false ∧
    (s.bit Reg.SYN_ALIGN 0 = false ∨ low < 2 ∨ s.now ≤ s.tim.armAt + 8)) → exec (.alignmentEdge low) s = .next s)

/-- RX_TX_WELT_START closes the RX gates of the following quads, ends their AGC freeze, and quads in RECEIVE enter TRANSMIT (a
burst moves its own quad alone); RX_STAGES_DISABLE, LNA_PROTECT_RISE, TRSW_TO_TRANSMIT, PA_ENABLE_RISE and DAC_OUTPUT_ENABLE
move their one level on the quads or paths that follow or take part and leave every other quad and path alone (R33, R36);
TX_ON_STROBE loads code_on into the strobe-mode channels of the bound groups whose quads take part (R524); DPD_BANK_SELECT
selects the bank and takes the on-period thresholds (R286, R304). Each with its frame. -/
def Obligations.RxToTxTurnaroundTable : Prop := ∀ s : State, s.Canon →
  (∀ (tn : Turn), ∃ t, exec (.rxTxWeltStart tn) s = .next t ∧ (∀ p : Fin 64, (s.startTurn tn).followsRx tn (quadOf p) = true →
    t.paths[p].rxGate = false ∧ t.paths[p].agcArmed = false ∧ t.bit (Reg.RXP_AGC_STAT p) 16 = false) ∧ (∀ q : Fin 16,
    s.seq.quads[q].st = .receive → (∀ b, tn = .burst b → b = q ∧ (s.startTurn tn).burstTurn q = true) → (tn = .kite →
    (s.startTurn tn).kte.turn.isSome = true) → t.seq.quads[q].st = .transmit) ∧ (∀ q b : Fin 16, tn = .burst b → (b ≠ q ∨
    (s.startTurn tn).burstTurn q = false) → t.seq.quads[q] = s.seq.quads[q]) ∧ (tn = .kite →
    s.kiteSends (nextSym (airAt s.airPos).1) = true → s.kiteWeltAt (nextSym (airAt s.airPos).1) = true →
    t.kte.turn = some (symIdx (nextSym (airAt s.airPos).1))) ∧ ((s.startTurn tn).turnHere tn = true → t.air.rxClosed = true) ∧
    (tn = .pattern → t.air.inRun = true) ∧ Frame s t [.air, .paths, .seq, .kte] (fun a => a = Reg.KTE_STAT ∨
    arr 16 Reg.HKA_QUAD a ∨ arr 64 Reg.RXP_AGC_STAT a ∨ arr 64 Reg.TXP_ATTEN a)) ∧
  (∀ (b : Fin 16) (x : Burst), s.seq.burst = some x → x.quad.val = 16 * s.position + b.val → (x.span = none ∨
    x.span.map Prod.fst = some s.now) → s.seq.quads[b].st = .receive → ∃ t, exec (.rxTxWeltStart (.burst b)) s = .next t ∧
    t.seq.burst = some { x with turn := true } ∧ t.seq.quads[b].st = .transmit ∧ t.air = s.air ∧ (∀ q : Fin 16, q ≠ b →
    t.seq.quads[q] = s.seq.quads[q]) ∧ Frame s t [.air, .paths, .seq, .kte] (fun a => a = Reg.KTE_STAT ∨
    arr 16 Reg.HKA_QUAD a ∨ arr 64 Reg.RXP_AGC_STAT a ∨ arr 64 Reg.TXP_ATTEN a)) ∧
  (∀ (tn : Turn), ∃ t, exec (.rxStagesDisable tn) s = .next t ∧ (∀ p : Fin 64,
    t.paths[p] = if s.followsRx tn (quadOf p) then { s.paths[p] with rxStage := false } else s.paths[p]) ∧
    t.air = (if s.turnHere tn then { s.air with rxOff := true } else s.air) ∧ Frame s t [.air, .paths] noRegs) ∧
  (∀ (tn : Turn), ∃ t, exec (.lnaProtectRise tn) s = .next t ∧ (∀ q : Fin 16,
    t.seq.quads[q] = if s.followsRx tn q then { s.seq.quads[q] with lnap := true } else s.seq.quads[q]) ∧
    t.seq = { s.seq with quads := t.seq.quads } ∧
    t.air = (if s.turnHere tn then { s.air with lnaProtected := true } else s.air) ∧ Frame s t [.air, .seq] noRegs) ∧
  (∀ (tn : Turn), ∃ t, exec (.trswToTransmit tn) s = .next t ∧ (∀ q : Fin 16,
    t.seq.quads[q] = if s.takesPart tn q then { s.seq.quads[q] with trsw := true } else s.seq.quads[q]) ∧
    t.seq = { s.seq with quads := t.seq.quads } ∧ Frame s t [.seq] noRegs) ∧
  (∀ (tn : Turn) (env : Vector (Vector Int 3) 64), ∃ t, exec (.txOnStrobe tn env) s = .next t ∧ (∀ c : Fin 80,
    s.queueMode c = false → s.bit (Reg.BIA_GROUP (s.fld (Reg.BIA_CH_CFG c) 18 16)) 8 = true → (∃ k, s.takesPart tn k = true ∧
    (s.fld (Reg.BIA_GROUP (s.fld (Reg.BIA_CH_CFG c) 18 16)) 4 0 = 31 ∨
    s.fld (Reg.BIA_GROUP (s.fld (Reg.BIA_CH_CFG c) 18 16)) 4 0 = k.val)) →
    t.bias[c].target = s.biasCode c (fldOf (s.stageWord c) 15 0)) ∧ Frame s t [.dpd, .bias] noRegs) ∧
  (∀ (tn : Turn), ∃ t, exec (.paEnableRise tn) s = .next t ∧ (∀ q : Fin 16,
    t.seq.quads[q] = if s.takesPart tn q then { s.seq.quads[q] with paen := true } else s.seq.quads[q]) ∧
    t.seq = { s.seq with quads := t.seq.quads, burstPa := if turnIsChip tn = false ∧ (∃ b, tn = .burst b ∧ s.takesPart tn b = true) then some s.now else s.seq.burstPa } ∧
    t.hka = (s.paEdge tn false).hka ∧ Frame s t [.seq, .hka] noRegs) ∧
  (∀ (tn : Turn), ∃ t, exec (.dpdBankSelect tn) s = .next t ∧ (∀ p : Fin 64, s.takesPart tn (quadOf p) = true →
    (tn = .pattern → t.dpd.paths[p].bank = s.comingCluster) ∧ (tn = .kite → t.dpd.paths[p].bank = s.fld Reg.KTE_TX_CFG 26 24) ∧
    (s.txRetired p = false → t.dpd.paths[p].onPeriod = true ∧ t.dpd.paths[p].recorded = false)) ∧ (∀ p : Fin 64,
    s.takesPart tn (quadOf p) = false → t.dpd.paths[p] = s.dpd.paths[p]) ∧
    Frame s t [.dpd] (fun a => arr4 64 8 8 65 Reg.DPD_LUT a ∨ arr 64 Reg.DPD_TRIP_STAT a)) ∧
  (∀ (tn : Turn), ∃ t, exec (.dacOutputEnable tn) s = .next t ∧ (∀ p : Fin 64,
    t.paths[p] = if s.takesPart tn (quadOf p) then { s.paths[p] with dacOn := true, txGate := if turnIsChip tn then s.paths[p].txGate else s.gateFree p } else s.paths[p]) ∧
    (∀ b : Fin 16, tn = .burst b → ∀ p : Fin 64, s.takesPart tn (quadOf p) = true → s.gateFree p = true →
    Output.tones p (burstOffset p) ∈ t.out) ∧ (turnIsChip tn = true → t.out = s.out) ∧ Frame s t [.paths, .out] noRegs)

/-- TX_RX_ANCHOR closes the TX gates and holds the DACs of the quads that take part; PA_ENABLE_FALL, CAPTURE_CLOSE,
TRSW_TO_RECEIVE, LNA_PROTECT_RELEASE and RX_STAGES_ENABLE move their level on the quads or paths that follow or take part and
leave the others alone; TX_OFF_STROBE loads code_off (R524); AGC_ARM arms the following paths at their start index (R79, R80);
WELT_END opens the RX gates and takes quads from TRANSMIT to RECEIVE, FALLING where a power-down waits, or STANDBY for a quad-
out job (R35, R320, R322, R336); AGC_WINDOW_END counts the window of an armed path and steps its index unless it is fixed (R81),
under kite control outside the freeze (R475), and changes nothing of a path that is not armed; AGC_FREEZE freezes every armed
path (R83). Each with its frame. -/
def Obligations.TxToRxTurnaroundTable : Prop := ∀ s : State, s.Canon →
  (∀ (tn : Turn), s.anchorHere tn = true → ∃ t, exec (.txRxAnchor tn) s = .next t ∧ (∀ p : Fin 64,
    t.paths[p] = if s.takesPart tn (quadOf p) then { s.paths[p].shut s.now with dacOn := false } else s.paths[p]) ∧
    (∀ p : Fin 64, s.takesPart tn (quadOf p) = true → t.bit (Reg.DPD_TRIP_STAT p) 31 = false ∧
    t.dpd.paths[p].muteCal = false) ∧ (s.turnHere tn = true → ∀ p : Fin 64, s.dpd.paths[p].muteCal = false →
    t.bit (Reg.DPD_TRIP_STAT p) 31 = false) ∧ (tn = .pattern → t.air.onAir = none ∧ t.air.inRun = false) ∧ Frame s t [.air,
    .paths, .dpd, .seq, .dfe, .kte, .freeIdx] (fun a => a = Reg.KTE_TX_CNT ∨ arr 64 Reg.DFE_CFR_CLIP_CNT a ∨
    arr 64 Reg.DFE_OUT_SAT_CNT a ∨ arr 64 Reg.DPD_IN_OVR_CNT a ∨ arr 64 Reg.DPD_OUT_SAT_CNT a ∨ arr 64 Reg.DPD_TRIP_STAT a ∨
    arr 64 Reg.TXP_SAT_CNT a)) ∧
  (∀ (tn : Turn), s.anchorHere tn = false → exec (.txRxAnchor tn) s = .next s) ∧
  (∀ (tn : Turn), ∃ t, exec (.paEnableFall tn) s = .next t ∧ (∀ q : Fin 16,
    t.seq.quads[q] = if s.takesPart tn q then { s.seq.quads[q] with paen := false } else s.seq.quads[q]) ∧
    t.hka = (s.paEdge tn true).hka ∧ (∀ b : Fin 16, tn = .burst b → s.takesPart tn b = true → t.seq.burstPa = none ∧
    (s.seq.burstPa.isSome = true → t.seq.duty = (s.now, (s.now - s.seq.burstPa.getD 0) / ticksPerSample) :: s.seq.duty)) ∧
    Frame s t [.seq, .hka] noRegs) ∧
  (∀ (tn : Turn), ∃ t, exec (.txOffStrobe tn) s = .next t ∧ (∀ c : Fin 80, s.queueMode c = false →
    s.bit (Reg.BIA_GROUP (s.fld (Reg.BIA_CH_CFG c) 18 16)) 8 = true → (∃ k, s.takesPart tn k = true ∧
    (s.fld (Reg.BIA_GROUP (s.fld (Reg.BIA_CH_CFG c) 18 16)) 4 0 = 31 ∨
    s.fld (Reg.BIA_GROUP (s.fld (Reg.BIA_CH_CFG c) 18 16)) 4 0 = k.val)) →
    t.bias[c].target = s.biasCode c (fldOf (s.stageWord c) 31 16)) ∧ Frame s t [.bias] noRegs) ∧
  (∀ (tn : Turn), ∃ t, exec (.captureClose tn) s = .next t ∧ (∀ p : Fin 64,
    t.dpd.paths[p] = if s.takesPart tn (quadOf p) then { s.dpd.paths[p] with onPeriod := false, recorded := false, above := none } else s.dpd.paths[p]) ∧
    Frame s t [.dpd] noRegs) ∧
  (∀ (tn : Turn), ∃ t, exec (.trswToReceive tn) s = .next t ∧ (∀ q : Fin 16,
    t.seq.quads[q] = if s.takesPart tn q then { s.seq.quads[q] with trsw := false } else s.seq.quads[q]) ∧
    t.seq = { s.seq with quads := t.seq.quads } ∧ Frame s t [.seq] noRegs) ∧
  (∀ (tn : Turn), ∃ t, exec (.lnaProtectRelease tn) s = .next t ∧ (∀ q : Fin 16,
    t.seq.quads[q] = if s.followsRx tn q then { s.seq.quads[q] with lnap := false } else s.seq.quads[q]) ∧
    t.seq = { s.seq with quads := t.seq.quads } ∧
    t.air = (if s.turnHere tn then { s.air with lnaProtected := false } else s.air) ∧ Frame s t [.air, .seq] noRegs) ∧
  (∀ (tn : Turn), ∃ t, exec (.rxStagesEnable tn) s = .next t ∧ (∀ p : Fin 64,
    t.paths[p] = if s.followsRx tn (quadOf p) then { s.paths[p] with rxStage := true } else s.paths[p]) ∧
    t.air = (if s.turnHere tn then { s.air with rxOff := false } else s.air) ∧ Frame s t [.air, .paths] noRegs) ∧
  (∀ (tn : Turn), ∃ t, exec (.agcArm tn) s = .next t ∧ (∀ p : Fin 64, s.followsRx tn (quadOf p) = true →
    t.paths[p] = { s.paths[p] with agcCfg := s.rd (Reg.RXP_AGC_CFG p), agcThr := s.rd Reg.RXP_AGC_THR, agcArmed := true, agcWin := 0, agcMoved := false, thawAt := if s.bit (Reg.RXP_AGC_STAT p) 16 then s.now else s.paths[p].thawAt } ∧
    t.bit (Reg.RXP_AGC_STAT p) 16 = false ∧
    t.fld (Reg.RXP_AGC_STAT p) 12 8 = if t.paths[p].agcMode = 1 then s.fld (Reg.RXP_AGC_CFG p) 4 0 else s.fld (Reg.RXP_AGC_CFG p) 12 8) ∧
    (∀ p : Fin 64, s.followsRx tn (quadOf p) = false → t.paths[p] = s.paths[p]) ∧ Frame s t [.paths,
    .kte] (fun a => arr 64 Reg.RXP_AGC_STAT a)) ∧
  (∀ (tn : Turn), ∃ t, exec (.weltEnd tn) s = .next t ∧ (∀ p : Fin 64, s.followsRx tn (quadOf p) = true → (∀ q : Fin 16,
    s.seq.quads[q].st = .transmit → s.seq.quads[q].deferred = some false → q ≠ quadOf p) → t.paths[p].rxGate = true) ∧
    (∀ q : Fin 16, (∀ b, tn = .burst b → b = q ∧ s.burstTurn q = true) → (tn = .kite → s.kte.turn.isSome = true) →
    s.seq.quads[q].st = .transmit →
    t.seq.quads[q].st = if s.seq.quads[q].deferred = some false then .falling else if s.seq.quads[q].quadOut then .standby else .receive) ∧
    (∀ q : Fin 16, s.seq.quads[q].st ≠ .transmit → t.seq.quads[q].st = s.seq.quads[q].st) ∧ (s.turnHere tn = true →
    t.air.rxClosed = false) ∧ (tn = .kite → t.kte.turn = none) ∧ (∀ b : Fin 16, tn = .burst b → s.burstOf b = true →
    t.seq.burst = none ∧ ∀ q : Fin 16, t.seq.quads[q].st = .standby → t.seq.quads[q].lnap = true) ∧ Frame s t [.air, .paths,
    .dpd, .seq, .bias, .kte] (fun a => arr 80 Reg.BIA_CLEAR_CNT a ∨ arr 64 Reg.DPD_TRIP_STAT a)) ∧
  (∀ (p : Fin 64) (a : AirSym) (adc : List Adc), s.kte.listen = none ∨ s.paths[p].agcMode ≠ 2 → s.paths[p].agcArmed = true →
    s.paths[p].agcWin < agcWindows a → ∃ t, exec (.agcWindowEnd p a adc) s = .next t ∧
    t.paths[p].agcWin = s.paths[p].agcWin + 1 ∧ (s.paths[p].agcMode ≠ 1 →
    t.fld (Reg.RXP_AGC_STAT p) 12 8 = agcNext s.paths[p].agcThr (s.fld (Reg.RXP_AGC_STAT p) 12 8) (peakOf (if s.paths[p].agcMoved then adc.drop 64 else adc)) % 32) ∧
    (s.paths[p].agcMode = 1 → t.fld (Reg.RXP_AGC_STAT p) 12 8 = s.fld (Reg.RXP_AGC_STAT p) 12 8) ∧ (∀ q : Fin 64, q ≠ p →
    t.paths[q] = s.paths[q]) ∧ Frame s t [.paths, .kte, .freeIdx] (fun a => a = Reg.RXP_AGC_STAT p)) ∧
  (∀ (p : Fin 64) (a : AirSym) (adc : List Adc), s.kte.listen ≠ none → s.paths[p].agcMode = 2 →
    s.bit (Reg.RXP_AGC_STAT p) 16 = false → ∃ t, exec (.agcWindowEnd p a adc) s = .next t ∧
    t.fld (Reg.RXP_AGC_STAT p) 12 8 = agcNext s.paths[p].agcThr (s.fld (Reg.RXP_AGC_STAT p) 12 8) (peakOf (if s.paths[p].agcMoved then adc.drop 64 else adc)) % 32 ∧
    (∀ q : Fin 64, q ≠ p → t.paths[q] = s.paths[q]) ∧ Frame s t [.paths, .kte, .freeIdx] (fun a => a = Reg.RXP_AGC_STAT p)) ∧
  (∀ (p : Fin 64) (a : AirSym) (adc : List Adc), s.kte.listen = none → s.paths[p].agcArmed = false →
    exec (.agcWindowEnd p a adc) s = .next s) ∧
  (∃ t, exec .agcFreeze s = .next t ∧ (∀ p : Fin 64, s.paths[p].agcArmed = true → t.bit (Reg.RXP_AGC_STAT p) 16 = true ∧
    t.paths[p] = { s.paths[p] with agcArmed := false, frozeAt := if s.bit (Reg.RXP_AGC_STAT p) 16 then s.paths[p].frozeAt else s.now }) ∧
    (∀ p : Fin 64, s.paths[p].agcArmed = false → t.paths[p] = s.paths[p]) ∧
    Frame s t [.paths] (fun a => arr 64 Reg.RXP_AGC_STAT a))

/-- COMMIT_POINT of a D or U symbol in a live mode: the symbol has a job whose sections on each carrier are those accepted for
it, and for a D symbol its layer data; no layer data of it or of an earlier symbol is left, and no order of its direction is
left for it or an earlier symbol (R46 to R50). Layer data that no section covers is counted, in a live mode or not (R47).
Outside a live mode no job begins (R570, R571). Unaligned, nothing changes. With its frame. -/
def Obligations.SymbolCommitPoint : Prop := ∀ s : State, s.Canon →
  (∀ (a : AirSym), s.aligned = true → s.isD a = true → s.liveFor (s.dlTick a) = true → ∃ t, exec (.commitPoint a) s = .next t ∧
    (∃ j ∈ t.bmx.jobs, j.a = a ∧ ∀ c : Fin 4, j.cars[c].secs = (if s.carIn c then s.secsAt a c else []) ∧
    j.cars[c].data = s.dataAt a c) ∧ (∀ c : Fin 4,
    Counted s t (Reg.PKT_UDL_ORPHAN_CNT c) ((s.dataAt a c).countP fun d => maskMinus d.left (coverOf (s.secsAt a c) d.layer) != 0)) ∧
    (∀ d ∈ t.bmx.udl, d ∈ s.bmx.udl ∧ notLater d.sym (symIdx a) = false) ∧ (∀ x ∈ t.bmx.ordered, x.2.2 = false →
    notLater x.2.1 (symIdx a) = false) ∧ Frame s t [.seq, .bmx, .ulr, .kte] (fun a => a ∈ [Reg.KTE_TX_SKIP_CNT,
    Reg.SEQ_DUTY_BLANK_CNT] ∨ arr 4 Reg.PKT_UDL_ORPHAN_CNT a)) ∧
  (∀ (a : AirSym), s.aligned = true → s.isU a = true → s.liveFor (s.ulTick a) = true → ∃ t, exec (.commitPoint a) s = .next t ∧
    (∃ j ∈ t.bmx.jobs, j.a = a ∧ ∀ c : Fin 4, j.cars[c].secs = (if s.carIn c then s.secsAt a c else [])) ∧
    t.bmx.udl = s.bmx.udl ∧ (∀ x ∈ t.bmx.ordered, x.2.2 = true → notLater x.2.1 (symIdx a) = false) ∧ (∀ o ∈ s.ulr.prach,
    o ∈ t.ulr.prach) ∧ Frame s t [.seq, .bmx, .ulr, .kte] (fun a => a ∈ [Reg.KTE_TX_SKIP_CNT, Reg.SEQ_DUTY_BLANK_CNT] ∨
    arr 4 Reg.PKT_UDL_ORPHAN_CNT a)) ∧
  (∀ (a : AirSym), s.aligned = true → (s.isD a || s.isU a) = true → s.liveFor (s.airStart a) = false → ∃ t,
    exec (.commitPoint a) s = .next t ∧ t.bmx.jobs = s.bmx.jobs ∧ (s.isD a = true → ∀ c : Fin 4,
    Counted s t (Reg.PKT_UDL_ORPHAN_CNT c) ((s.dataAt a c).countP fun d => maskMinus d.left (coverOf (s.secsAt a c) d.layer) != 0)) ∧
    (s.isD a = true → ∀ d ∈ t.bmx.udl, d ∈ s.bmx.udl ∧ notLater d.sym (symIdx a) = false) ∧ Frame s t [.seq, .bmx, .ulr,
    .kte] (fun a => a ∈ [Reg.KTE_TX_SKIP_CNT, Reg.SEQ_DUTY_BLANK_CNT] ∨ arr 4 Reg.PKT_UDL_ORPHAN_CNT a)) ∧
  (∀ (a : AirSym), s.aligned = false → exec (.commitPoint a) s = .next s)

/-- WEIGHT_FETCH_POINT fixes every kind-0 section (R55, R203). COLUMN_DEADLINE of a D symbol shows the resolved cluster, and no
section is left fetching (R203, R205). BMX_OUTPUT_DEADLINE zeros and counts the late ordered carriers and holds the chip's own
scale (R151, R348, R349). SCALE_APPLY applies the smallest scale held, 1.0 at most, and drops the scales up to the symbol
(R349). D_SYMBOL_BOUNDARY of a D symbol with a job puts it on air: the transmit chain takes the symbol that its carriers form,
with the saturated iFFT samples of each carrier counted (R147), its scale applies, its cluster's bank is in force, its missing
data and missing orders are counted unless it is blanked on every quad (R48, R49), and a transmit gate is open exactly on the
live unmuted paths of a quad that sends (R41, R49, R64, R286, R331, R332); with no job the transmit chain only ends what it
carried. A symbol that is no D symbol changes nothing. Each with its frame. -/
def Obligations.SymbolWeightsToAirStart : Prop := ∀ s : State, s.Canon →
  (∀ (a : AirSym) (upsets : List (Nat × Upset)), (s.jobOf a).isSome = true → ∃ t,
    exec (.weightFetchPoint a upsets) s = .next t ∧ (t.jobOf a).isSome = true ∧ (∀ j ∈ t.jobOf a, ∀ c : Fin 4,
    ∀ x ∈ j.cars[c].secs, x.refused = false → x.sec.source.1 = 0 → x.fixed.isSome = true) ∧ (∀ a, t.memGet a = s.memGet a) ∧
    Frame s t [.rcd, .bmx, .kte, .mem, .freeIdx] (fun a => a ∈ [Reg.BMX_CACHE_STAT, Reg.MEM_CE_CNT, Reg.MEM_ERR_ADDR,
    Reg.MEM_ERR_STAT, Reg.MEM_POISON_CNT, Reg.MEM_SRAM_CE_CNT, Reg.MEM_SRAM_UE_CNT, Reg.MEM_UE_CNT] ∨
    arr 4 Reg.BMX_ECC_FALLBACK_CNT a ∨ arr 4 Reg.BMX_LAST_ABSENT_CNT a ∨ arr 2 Reg.MEM_CH_STAT a ∨
    arr 4 Reg.SYM_BFP_SAT_CNT a ∨ eventRegs 0x0501 a ∨ eventRegs 0x0502 a ∨ eventRegs 0x0E01 a)) ∧
  (∀ (a : AirSym) (late : List (Nat × Nat × Nat × Nat)), (s.jobOf a).isSome = true → s.isD a = true → ∃ t,
    exec (.columnDeadline a late) s = .next t ∧ t.rd Reg.BMX_CLUSTER = BitVec.ofNat 32 (0x100 + t.bmx.lastCluster) ∧
    (∀ j ∈ t.jobOf a, j.cluster = some t.bmx.lastCluster ∧ ∀ c : Fin 4, ∀ x ∈ j.cars[c].secs, x.refused = false →
    x.sec.source.1 = 0 → ∀ f ∈ x.fixed, f.fetching = false) ∧ (∀ a, t.memGet a = s.memGet a) ∧ Frame s t [.dpd, .rcd, .bmx,
    .mem] (fun a => a ∈ [Reg.BMX_CACHE_STAT, Reg.BMX_CLUSTER, Reg.BMX_CLUSTER_MIX_CNT, Reg.DPD_ACTIVE, Reg.MEM_CE_CNT,
    Reg.MEM_ERR_ADDR, Reg.MEM_ERR_STAT, Reg.MEM_SRAM_CE_CNT, Reg.MEM_SRAM_UE_CNT, Reg.MEM_UE_CNT] ∨
    arr 4 Reg.BMX_DL_SAT_CNT a ∨ arr 4 Reg.BMX_FETCH_LATE_CNT a ∨ eventRegs 0x0501 a ∨ eventRegs 0x0502 a)) ∧
  (∀ (a : AirSym) (late : List (Nat × Nat × Nat × Nat)), s.jobOf a = none → ∃ t, exec (.columnDeadline a late) s = .next t ∧
    t.ulr = s.ulr ∧ t.mem = s.mem ∧ t.bmx.jobs = s.bmx.jobs ∧ (∀ a, t.memGet a = s.memGet a) ∧ Frame s t [.dpd, .rcd, .bmx,
    .mem] (fun a => a ∈ [Reg.BMX_CACHE_STAT, Reg.BMX_CLUSTER, Reg.BMX_CLUSTER_MIX_CNT, Reg.DPD_ACTIVE, Reg.MEM_CE_CNT,
    Reg.MEM_ERR_ADDR, Reg.MEM_ERR_STAT, Reg.MEM_SRAM_CE_CNT, Reg.MEM_SRAM_UE_CNT, Reg.MEM_UE_CNT] ∨
    arr 4 Reg.BMX_DL_SAT_CNT a ∨ arr 4 Reg.BMX_FETCH_LATE_CNT a ∨ eventRegs 0x0501 a ∨ eventRegs 0x0502 a)) ∧
  (∀ (a : AirSym) (late : BitVec 4), (s.jobOf a).isSome = true → ∃ t, exec (.bmxOutputDeadline a late) s = .next t ∧
    (∀ j ∈ s.jobOf a, ∀ c : Fin 4, bitOf late.toNat c = true → j.cars[c].ordered = true →
    Counted s t (Reg.SYM_BMX_LATE_CNT c) 1 ∧ ∀ k ∈ t.jobOf a, k.cars[c].zeroed = true) ∧ (∃ x ∈ t.seq.scales, x.1 = symIdx a ∧
    x.2.1 = s.position) ∧ Frame s t [.seq, .pkt, .bmx, .kte] (fun a => a ∈ [Reg.SEQ_PWR_CLAMP_CNT, Reg.SEQ_PWR_STAT] ∨
    arr 4 Reg.SYM_BMX_LATE_CNT a)) ∧
  (∀ (a : AirSym), ∃ t, exec (.scaleApply a) s = .next t ∧ (∀ x ∈ t.seq.scales, x ∈ s.seq.scales ∧
    notLater x.1 (symIdx a) = false) ∧ (∀ j ∈ t.jobOf a, j.scale ≤ 32768 ∧ (∀ x ∈ s.seq.scales, x.1 = symIdx a →
    j.scale ≤ x.2.2) ∧ (j.scale = 32768 ∨ ∃ x ∈ s.seq.scales, x.1 = symIdx a ∧ x.2.2 = j.scale)) ∧ Frame s t [.seq,
    .bmx] noRegs) ∧
  (∀ (a : AirSym) (j : SymJob), s.jobOf a = some j → s.isD a = true → ∃ t, exec (.dSymbolBoundary a) s = .next t ∧
    t.air.onAir = some a ∧ t.air.onAirAt = s.now ∧ t.seq.scale = j.scale ∧ t.jobOf a = none ∧ t.dfe.tx = some (s.txSym j).1 ∧
    (∀ p : Fin 64, t.paths[p].txGate = (s.quadSends j (quadOf p) && s.gateFree p)) ∧ (∀ p : Fin 64,
    t.dpd.paths[p].bank = j.cluster.getD s.dpd.paths[p].bank) ∧ (∀ c : Fin 4,
    Counted s t (Reg.SYM_IFFT_SAT_CNT c) ((s.txSym j).2.getD c 0)) ∧ (∀ c : Fin 4,
    Counted s t (Reg.SYM_NO_DATA_CNT c) (if (List.finRange 16).all (fun q => s.blanked q || j.duty) then 0 else j.cars[c].noData)) ∧
    (∀ c : Fin 4, Counted s t (Reg.SYM_NO_ORDER_CNT c) (if (List.finRange 16).all (fun q => s.blanked q || j.duty) = false ∧
    j.cars[c].noOrder = true then 1 else 0)) ∧ Frame s t [.air, .paths, .dpd, .seq, .dfe, .bmx,
    .freeIdx] (fun a => a = Reg.HKA_MUTE_SYM_CNT ∨ arr 64 Reg.DFE_CFR_CLIP_CNT a ∨ arr 64 Reg.DFE_OUT_SAT_CNT a ∨
    arr 64 Reg.DPD_IN_OVR_CNT a ∨ arr4 64 8 8 65 Reg.DPD_LUT a ∨ arr 64 Reg.DPD_OUT_SAT_CNT a ∨ arr 16 Reg.SEQ_BLANK_CNT a ∨
    arr 4 Reg.SYM_IFFT_SAT_CNT a ∨ arr 4 Reg.SYM_NO_DATA_CNT a ∨ arr 4 Reg.SYM_NO_ORDER_CNT a ∨ arr 64 Reg.TXP_SAT_CNT a)) ∧
  (∀ (a : AirSym), s.jobOf a = none → s.isD a = true → ∃ t, exec (.dSymbolBoundary a) s = .next t ∧ t.dfe.tx = none ∧
    t.dfe.txPrev = none ∧ t.paths = s.paths ∧ t.bmx = s.bmx ∧ t.air = s.air ∧ Frame s t [.air, .paths, .dpd, .seq, .dfe, .bmx,
    .freeIdx] (fun a => a = Reg.HKA_MUTE_SYM_CNT ∨ arr 64 Reg.DFE_CFR_CLIP_CNT a ∨ arr 64 Reg.DFE_OUT_SAT_CNT a ∨
    arr 64 Reg.DPD_IN_OVR_CNT a ∨ arr4 64 8 8 65 Reg.DPD_LUT a ∨ arr 64 Reg.DPD_OUT_SAT_CNT a ∨ arr 16 Reg.SEQ_BLANK_CNT a ∨
    arr 4 Reg.SYM_IFFT_SAT_CNT a ∨ arr 4 Reg.SYM_NO_DATA_CNT a ∨ arr 4 Reg.SYM_NO_ORDER_CNT a ∨ arr 64 Reg.TXP_SAT_CNT a)) ∧
  (∀ (a : AirSym), s.isD a = false → exec (.dSymbolBoundary a) s = .next s)

/-- ATTEN_WRITE waits for the welt in SERVICE and LEAN and takes effect at once elsewhere (R69). SLICE_CHECK counts consecutive
failures of the slices in use (R72). SLICE_SWAP puts the ballast slice in a failed slice's place (R73), or retires the receive
side where the ballast cannot take over (R76). OBS_ROUTE_WRITE is granted only when the receiver is free and its source is not
routed elsewhere, and is otherwise refused and counted (R91, R92). MANAGEMENT_CAPTURE_END frees a receiver that management owns
(R92). Each with its frame. -/
def Obligations.AttenuationSlicesAndCrossbar : Prop := ∀ s : State, s.Canon →
  (∀ (p : Fin 64) (w : Word), s.writable = true → ∃ t, exec (.attenWrite p w) s = .next t ∧
    t.fld (Reg.TXP_ATTEN p) 6 0 = fldOf w 6 0 ∧ (s.mode.live = true → t.bit (Reg.TXP_ATTEN p) 31 = true ∧ t.paths = s.paths) ∧
    (s.mode.live = false → t.bit (Reg.TXP_ATTEN p) 31 = false ∧ t.paths[p].atten = fldOf w 6 0) ∧ (∀ q : Fin 64, q ≠ p →
    t.paths[q] = s.paths[q]) ∧ Frame s t [.paths] (fun a => a = Reg.TXP_ATTEN p)) ∧
  (∀ (p : Fin 64) (w : Word), s.writable = false → exec (.attenWrite p w) s = .next s) ∧
  (∀ (p : Fin 64) (fails : BitVec 9), ∃ t, exec (.sliceCheck p fails) s = .next t ∧ (∀ k : Fin 9, s.sliceInUse p k = true →
    t.paths[p].sliceFails[k] = if bitOf fails.toNat k then s.paths[p].sliceFails[k] + 1 else 0) ∧ (∀ k : Fin 9,
    s.sliceInUse p k = false → t.paths[p].sliceFails[k] = s.paths[p].sliceFails[k]) ∧ (∀ q : Fin 64, q ≠ p →
    t.paths[q] = s.paths[q]) ∧ Frame s t [.paths, .seq, .rcd] (fun a => a ∈ [Reg.RXP_LIVE_HI, Reg.RXP_LIVE_LO,
    Reg.RXP_RETIRE_CNT] ∨ arr 18 Reg.KPR_LT a ∨ arr 64 Reg.RXP_RETIRE a ∨ arr 64 Reg.RXP_SLICE a ∨ eventRegs 0x0A01 a ∨
    eventRegs 0x0A04 a)) ∧
  (∀ (p : Fin 64) (k : Nat), s.paths[p].sliceDue = some k → k < 8 → s.ballastUsable p = true → ∃ t,
    exec (.sliceSwap p) s = .next t ∧ t.paths[p].sliceDue = none ∧ t.bit (Reg.RXP_SLICE p) 31 = true ∧
    t.fld (Reg.RXP_SLICE p) 3 0 = k ∧ Counted s t (Reg.RXP_SLICE_SWAP_CNT p) 1 ∧ Raised s t 0x0A03 [(1, p), (1, k)] ∧
    Frame s t [.paths, .seq, .rcd] (fun a => a ∈ [Reg.RXP_LIVE_HI, Reg.RXP_LIVE_LO, Reg.RXP_RETIRE_CNT] ∨ arr 18 Reg.KPR_LT a ∨
    arr 64 Reg.RXP_RETIRE a ∨ arr 64 Reg.RXP_SLICE a ∨ arr 64 Reg.RXP_SLICE_SWAP_CNT a ∨ eventRegs 0x0A01 a ∨
    eventRegs 0x0A03 a)) ∧
  (∀ (p : Fin 64) (k : Nat), s.paths[p].sliceDue = some k → s.ballastUsable p = false → s.rxRetired p = false → ∃ t,
    exec (.sliceSwap p) s = .next t ∧ t.paths[p].sliceDue = none ∧ t.bit (Reg.RXP_RETIRE p) 31 = true ∧ Raised s t 0x0A01 [(1,
    p), (1, 4)] ∧ Frame s t [.paths, .seq, .rcd] (fun a => a ∈ [Reg.RXP_LIVE_HI, Reg.RXP_LIVE_LO, Reg.RXP_RETIRE_CNT] ∨
    arr 18 Reg.KPR_LT a ∨ arr 64 Reg.RXP_RETIRE a ∨ arr 64 Reg.RXP_SLICE a ∨ arr 64 Reg.RXP_SLICE_SWAP_CNT a ∨
    eventRegs 0x0A01 a ∨ eventRegs 0x0A03 a)) ∧
  (∀ (p : Fin 64), s.paths[p].sliceDue = none → exec (.sliceSwap p) s = .next s) ∧
  (∀ (k : Fin 9) (w : Word), s.writable = true → ∃ t, exec (.obsRouteWrite k w) s = .next t ∧ (s.obsFree k = true →
    s.sourceTaken k (fldOf w 22 16) = false → t.fld (Reg.RXP_OBS_ROUTE k) 22 16 = fldOf w 22 16 ∧
    t.fld (Reg.RXP_OBS_ROUTE k) 12 8 = fldOf w 12 8 ∧ t.fld (Reg.RXP_OBS_ROUTE k) 1 0 = 3 ∧
    t.bit (Reg.RXP_OBS_ROUTE k) 31 = true ∧ t.rd (Reg.RXP_OBS_REFUSE_CNT k) = s.rd (Reg.RXP_OBS_REFUSE_CNT k)) ∧
    (s.obsFree k = false ∨ s.sourceTaken k (fldOf w 22 16) = true → t.rd (Reg.RXP_OBS_ROUTE k) = s.rd (Reg.RXP_OBS_ROUTE k) ∧
    Counted s t (Reg.RXP_OBS_REFUSE_CNT k) 1) ∧ Frame s t [] (fun a => a = Reg.RXP_OBS_ROUTE k ∨ a = Reg.RXP_OBS_REFUSE_CNT k)) ∧
  (∀ (k : Fin 9) (w : Word), s.writable = false → exec (.obsRouteWrite k w) s = .next s) ∧
  (∀ (k : Fin 9), s.fld (Reg.RXP_OBS_ROUTE k) 1 0 = 3 → ∃ t, exec (.managementCaptureEnd k) s = .next t ∧ t.obsFree k = true ∧
    t.fld (Reg.RXP_OBS_ROUTE k) 22 16 = 0x7F ∧ t.bit (Reg.RXP_OBS_ROUTE k) 31 = false ∧
    Frame s t [.dpd] (fun a => a = Reg.RXP_OBS_ROUTE k)) ∧
  (∀ (k : Fin 9), s.fld (Reg.RXP_OBS_ROUTE k) 1 0 ≠ 3 → exec (.managementCaptureEnd k) s = .next s)

/-- TX_RETIRE_CMD and RX_RETIRE_CMD retire exactly the named sides that are live, with cause HOST, and leave every other side as
it is (R97 to R101). TX_REINSTATE and RX_REINSTATE bring back a named retired side in READY with its most recent calibration
within limits, refuse the named side otherwise, and leave sides that are not named alone (R103). Each with its frame. -/
def Obligations.RetirementAndReinstatement : Prop := ∀ s : State, s.Canon →
  (∀ (hi : Bool) (w : Word), s.writable = true → ∃ t, exec (.txRetireCmd hi w) s = .next t ∧ (∀ j : Fin 32,
    bitOf w.toNat j = true → t.txRetired (pathOfBit hi j) = true ∧ (s.txRetired (pathOfBit hi j) = false →
    t.rd (Reg.TXP_RETIRE (pathOfBit hi j)) = 0x80000005 ∧ t.paths[pathOfBit hi j].txGate = false ∧
    t.paths[pathOfBit hi j].txSince = s.now ∧ (s.rcd.queue.length ≤ 32 → Raised s t 0x0901 [(1, pathOfBit hi j), (1, 5)]))) ∧
    (∀ p : Fin 64, (∀ j : Fin 32, pathOfBit hi j = p → bitOf w.toNat j = false) →
    t.rd (Reg.TXP_RETIRE p) = s.rd (Reg.TXP_RETIRE p) ∧ t.paths[p] = s.paths[p]) ∧ Frame s t [.paths, .dpd, .seq, .bias,
    .rcd] (fun a => a ∈ [Reg.TXP_LIVE_HI, Reg.TXP_LIVE_LO, Reg.TXP_RETIRE_CNT] ∨ arr 80 Reg.BIA_CLEAR_CNT a ∨
    arr 18 Reg.KPR_LT a ∨ arr 9 Reg.RXP_OBS_ROUTE a ∨ arr 64 Reg.TXP_RETIRE a ∨ eventRegs 0x0901 a)) ∧
  (∀ (hi : Bool) (w : Word), s.writable = false → exec (.txRetireCmd hi w) s = .next s) ∧
  (∀ (hi : Bool) (w : Word), s.writable = true → ∃ t, exec (.rxRetireCmd hi w) s = .next t ∧ (∀ j : Fin 32,
    bitOf w.toNat j = true → t.rxRetired (pathOfBit hi j) = true ∧ (s.rxRetired (pathOfBit hi j) = false →
    t.rd (Reg.RXP_RETIRE (pathOfBit hi j)) = 0x80000005 ∧ t.paths[pathOfBit hi j].rxSince = s.now ∧ (s.rcd.queue.length ≤ 32 →
    Raised s t 0x0A01 [(1, pathOfBit hi j), (1, 5)]))) ∧ (∀ p : Fin 64, (∀ j : Fin 32, pathOfBit hi j = p →
    bitOf w.toNat j = false) → t.rd (Reg.RXP_RETIRE p) = s.rd (Reg.RXP_RETIRE p) ∧ t.paths[p] = s.paths[p]) ∧
    Frame s t [.paths, .seq, .rcd] (fun a => a ∈ [Reg.RXP_LIVE_HI, Reg.RXP_LIVE_LO, Reg.RXP_RETIRE_CNT] ∨ arr 18 Reg.KPR_LT a ∨
    arr 64 Reg.RXP_RETIRE a ∨ eventRegs 0x0A01 a)) ∧
  (∀ (hi : Bool) (w : Word), s.writable = false → exec (.rxRetireCmd hi w) s = .next s) ∧
  (∀ (hi : Bool) (w : Word), s.writable = true → ∃ t, exec (.txReinstate hi w) s = .next t ∧ (∀ j : Fin 32,
    bitOf w.toNat j = true → s.txRetired (pathOfBit hi j) = true → (s.mode = .ready ∧
    s.paths[pathOfBit hi j].txCal = some true → t.rd (Reg.TXP_RETIRE (pathOfBit hi j)) = 0 ∧
    t.paths[pathOfBit hi j].txSince = s.now ∧ t.dpd.paths[pathOfBit hi j].trips = []) ∧ (¬ (s.mode = .ready ∧
    s.paths[pathOfBit hi j].txCal = some true) →
    t.rd (Reg.TXP_RETIRE (pathOfBit hi j)) = s.rd (Reg.TXP_RETIRE (pathOfBit hi j)))) ∧ (∀ p : Fin 64, (∀ j : Fin 32,
    pathOfBit hi j = p → bitOf w.toNat j = false) → t.rd (Reg.TXP_RETIRE p) = s.rd (Reg.TXP_RETIRE p) ∧
    t.paths[p] = s.paths[p]) ∧ Frame s t [.paths, .dpd, .rcd] (fun a => a ∈ [Reg.TXP_LIVE_HI, Reg.TXP_LIVE_LO,
    Reg.TXP_REFUSE_CNT] ∨ arr 64 Reg.TXP_RETIRE a ∨ eventRegs 0x0902 a)) ∧
  (∀ (hi : Bool) (w : Word), s.writable = false → exec (.txReinstate hi w) s = .next s) ∧
  (∀ (hi : Bool) (w : Word), s.writable = true → ∃ t, exec (.rxReinstate hi w) s = .next t ∧ (∀ j : Fin 32,
    bitOf w.toNat j = true → s.rxRetired (pathOfBit hi j) = true → (s.mode = .ready ∧
    s.paths[pathOfBit hi j].rxCal = some true → t.rd (Reg.RXP_RETIRE (pathOfBit hi j)) = 0 ∧
    t.paths[pathOfBit hi j].rxSince = s.now) ∧ (¬ (s.mode = .ready ∧ s.paths[pathOfBit hi j].rxCal = some true) →
    t.rd (Reg.RXP_RETIRE (pathOfBit hi j)) = s.rd (Reg.RXP_RETIRE (pathOfBit hi j)))) ∧ (∀ p : Fin 64, (∀ j : Fin 32,
    pathOfBit hi j = p → bitOf w.toNat j = false) → t.rd (Reg.RXP_RETIRE p) = s.rd (Reg.RXP_RETIRE p) ∧
    t.paths[p] = s.paths[p]) ∧ Frame s t [.paths, .rcd] (fun a => a ∈ [Reg.RXP_LIVE_HI, Reg.RXP_LIVE_LO, Reg.RXP_REFUSE_CNT] ∨
    arr 64 Reg.RXP_RETIRE a ∨ eventRegs 0x0A02 a)) ∧
  (∀ (hi : Bool) (w : Word), s.writable = false → exec (.rxReinstate hi w) s = .next s)

/-- BIA_QUEUE_WRITE appends to a queue-mode channel with room, counts an overflow on a full queue, and is discarded in strobe
mode (R523). QUEUE_TICK takes the oldest code of every queue as an update event (R523, R526). BIA_STROBE_WRITE counts a strobe
that names a group and strobes every strobe-mode channel of the named groups, which take the staged code with the strobes of the
cycle after (R524, R526). BIAS_CLR_ASSERT forces the clear code onto every channel, counts and raises the event (R527, R529);
BIAS_CLR_RELEASE moves the pin alone. BIA_POWER_WRITE and BIA_POWER_COMPLETE move the power state and defer a request that meets
the opposite transition (R530). Each with its frame. -/
def Obligations.BiasChannelCommands : Prop := ∀ s : State, s.Canon →
  (∀ (c : Fin 80) (w : Word), s.writable = true → ∃ t, exec (.biaQueueWrite c w) s = .next t ∧ (s.queueMode c = true →
    s.bias[c].queue.length < 16 → t.bias[c] = { s.bias[c] with queue := s.bias[c].queue ++ [fldOf w 15 0] } ∧
    t.rd (Reg.BIA_Q_OVF_CNT c) = s.rd (Reg.BIA_Q_OVF_CNT c)) ∧ (s.queueMode c = true → 16 ≤ s.bias[c].queue.length →
    t.bias = s.bias ∧ Counted s t (Reg.BIA_Q_OVF_CNT c) 1) ∧ (s.queueMode c = false → t.bias = s.bias ∧
    t.rd (Reg.BIA_Q_OVF_CNT c) = s.rd (Reg.BIA_Q_OVF_CNT c)) ∧ (∀ d : Fin 80, d ≠ c → t.bias[d] = s.bias[d]) ∧
    Frame s t [.bias] (fun a => a = Reg.BIA_Q_OVF_CNT c)) ∧
  (∀ (c : Fin 80) (w : Word), s.writable = false → exec (.biaQueueWrite c w) s = .next s) ∧
  (s.kpr.imageLoaded = true → ∃ t, exec .queueTick s = .next t ∧ (∀ c : Fin 80, t.bias[c].queue = s.bias[c].queue.tail ∧
    (s.bias[c].queue ≠ [] → t.bias[c].target = s.biasCode c (s.bias[c].queue.headD 0)) ∧ (s.bias[c].queue = [] →
    t.bias[c] = s.bias[c])) ∧ Frame s t [.bias] noRegs) ∧
  (s.kpr.imageLoaded = false → exec .queueTick s = .next s) ∧
  (∀ (w : Word), s.writable = true → fldOf w 7 0 ≠ 0 → ∃ t, exec (.biaStrobeWrite w) s = .next t ∧
    Counted s t Reg.BIA_STROBE_CNT 1 ∧ (∀ c : Fin 80, t.bias[c] = if s.queueMode c = false ∧
    bitOf w.toNat (s.fld (Reg.BIA_CH_CFG c) 18 16) = true then { s.bias[c] with strobe := some (bitOf w.toNat 16) } else s.bias[c]) ∧
    (∀ c : Fin 80, s.queueMode c = false → bitOf w.toNat (s.fld (Reg.BIA_CH_CFG c) 18 16) = true →
    t.biasTick.bias[c].strobe = none ∧
    t.biasTick.bias[c].target = s.biasCode c (if bitOf w.toNat 16 then fldOf (s.stageWord c) 31 16 else fldOf (s.stageWord c) 15 0)) ∧
    Frame s t [.bias] (fun a => a = Reg.BIA_STROBE_CNT)) ∧
  (∀ (w : Word), s.writable = false ∨ fldOf w 7 0 = 0 → exec (.biaStrobeWrite w) s = .next s) ∧
  (s.pins.biasClrN = true → s.mode ≠ .shelf → ∃ t, exec .biasClrAssert s = .next t ∧
    t.pins = { s.pins with biasClrN := false } ∧ (∀ c : Fin 80, t.bias[c].src = (s.bias[c].src ||| 1) ∧
    t.bias[c].target = s.bias[c].target) ∧ Counted s t Reg.BIA_PIN_CLR_CNT 1 ∧ Raised s t 0x1201 [(4, s.ns)] ∧
    Frame s t [.bias, .rcd, .pins] (fun a => a = Reg.BIA_PIN_CLR_CNT ∨ arr 80 Reg.BIA_CLEAR_CNT a ∨ eventRegs 0x1201 a)) ∧
  (s.pins.biasClrN = true → s.mode = .shelf → ∃ t, exec .biasClrAssert s = .next t ∧
    t.pins = { s.pins with biasClrN := false } ∧ Frame s t [.pins] noRegs) ∧
  (s.pins.biasClrN = false → exec .biasClrAssert s = .next s) ∧
  (∃ t, exec .biasClrRelease s = .next t ∧ t.pins = { s.pins with biasClrN := true } ∧ Frame s t [.pins] noRegs) ∧
  (∀ (c : Fin 80) (en : Bool), s.writable = true → s.bit (Reg.BIA_CH_CFG c) 31 ≠ en → ∃ t,
    exec (.biaPowerWrite c en) s = .next t ∧ t.bit (Reg.BIA_CH_CFG c) 31 = en ∧ (s.bias[c].pwr = .off → en = true →
    t.bias[c] = { s.bias[c] with pwr := .rising, upHold := true }) ∧ (s.bias[c].pwr = .on → en = false →
    t.bias[c] = { s.bias[c] with pwr := .falling }) ∧ (s.bias[c].pwr = .falling → en = true →
    t.bias[c] = { s.bias[c] with deferred := some true } ∧ Counted s t (Reg.BIA_DEFER_CNT c) 1) ∧ (s.bias[c].pwr = .rising →
    en = false → t.bias[c] = { s.bias[c] with deferred := some false } ∧ Counted s t (Reg.BIA_DEFER_CNT c) 1) ∧ (∀ d : Fin 80,
    d ≠ c → t.bias[d] = s.bias[d]) ∧ Frame s t [.bias] (fun a => a = Reg.BIA_CH_CFG c ∨ a = Reg.BIA_DEFER_CNT c)) ∧
  (∀ (c : Fin 80) (en : Bool), s.writable = false ∨ s.bit (Reg.BIA_CH_CFG c) 31 = en → exec (.biaPowerWrite c en) s = .next s) ∧
  (∀ (c : Fin 80), ∃ t, exec (.biaPowerComplete c) s = .next t ∧ (s.bias[c].pwr = .rising →
    t.bias[c].pwr = (if s.bias[c].deferred = some false then .falling else .on) ∧ t.bias[c].deferred = none) ∧
    (s.bias[c].pwr = .falling → t.bias[c].pwr = (if s.bias[c].deferred = some true then .rising else .off) ∧
    t.bias[c].deferred = none) ∧ (s.bias[c].pwr = .on ∨ s.bias[c].pwr = .off → t.bias[c] = s.bias[c]) ∧ (∀ d : Fin 80, d ≠ c →
    t.bias[d] = s.bias[d]) ∧ Frame s t [.bias] noRegs)

/-- HKA_PASS_START starts a pass at entry 0 when its trigger arrives, in a loop, after the timer's period, or delay after an
edge of PAENq, and neither a pass nor a conversion runs; the timer's trigger counts an overrun while a pass runs (R534).
HKA_CONVERSION_END of a conversion that has taken 500 ns sums it, and the last one of an average writes the corrected result of
a pass entry or of a one-shot request (R533, R536). HKA_ONESHOT stores the fields, and go runs at once while nothing converts
(R536). HKA_CAL_START starts the calibration in READY with a reference of 0.9 to 1.1 V, behind an urgent conversion that runs,
and sets failed otherwise; HKA_CAL_END of a running calibration takes offset and gain and reports the residuals (R538). Each
with its frame. -/
def Obligations.HousekeepingAdc : Prop := ∀ s : State, s.Canon →
  (s.kpr.imageLoaded = true → s.fld Reg.HKA_SEQ_CFG 31 30 = 1 ∨ (s.fld Reg.HKA_SEQ_CFG 31 30 = 2 ∧
    (s.hka.trigAt.all fun t => usPassed (s.now - t) s.hkaPeriod) = true) → s.passRuns = false → s.hka.conv = none → ∃ t,
    exec .hkaPassStart s = .next t ∧ t.passRuns = true ∧ t.hkaEntry = 0 ∧ t.hka.conv = some .seq ∧ t.hka.acc = 0 ∧
    t.hka.cnt = 0 ∧ t.hka.trigAt = some s.now ∧ Frame s t [.hka] (fun a => a ∈ [Reg.HKA_OVERRUN_CNT, Reg.HKA_SEQ_STAT])) ∧
  (s.kpr.imageLoaded = true → (s.fld Reg.HKA_SEQ_CFG 31 30 = 2 ∧
    (s.hka.trigAt.all fun t => usPassed (s.now - t) s.hkaPeriod) = true) → s.passRuns = true → ∃ t,
    exec .hkaPassStart s = .next t ∧ Counted s t Reg.HKA_OVERRUN_CNT 1 ∧ t.hka = { s.hka with trigAt := some s.now } ∧
    Frame s t [.hka] (fun a => a ∈ [Reg.HKA_OVERRUN_CNT, Reg.HKA_SEQ_STAT])) ∧
  (∀ (e : Nat) (l : List Nat), s.kpr.imageLoaded = true → s.fld Reg.HKA_SEQ_CFG 31 30 = 3 → s.hka.edges = e :: l →
    s.fld Reg.HKA_SEQ_TIME 15 0 * 98304 ≤ (s.now - e) * 1000 → s.passRuns = false → s.hka.conv = none → ∃ t,
    exec .hkaPassStart s = .next t ∧ t.passRuns = true ∧ t.hkaEntry = 0 ∧ t.hka.conv = some .seq ∧ t.hka.edges = l ∧
    Frame s t [.hka] (fun a => a ∈ [Reg.HKA_OVERRUN_CNT, Reg.HKA_SEQ_STAT])) ∧
  (s.kpr.imageLoaded = false ∨ s.fld Reg.HKA_SEQ_CFG 31 30 = 0 ∨ (s.fld Reg.HKA_SEQ_CFG 31 30 = 3 ∧ s.hka.edges = []) →
    exec .hkaPassStart s = .next s) ∧
  (∀ (code : BitVec 12) (c : Conv), s.hka.conv = some c → c ≠ .cal → s.hka.convAt ≤ s.now →
    nsPassed (s.now - s.hka.convAt) 500 = true → s.hka.cnt + 1 < s.hkaAvg c → ∃ t, exec (.hkaConversionEnd code) s = .next t ∧
    t.hka = { s.hka with acc := s.hka.acc + code.toNat, cnt := s.hka.cnt + 1, convAt := s.now, lastEnd := some s.now } ∧
    Frame s t [.hka] noRegs) ∧
  (∀ (code : BitVec 12), s.hka.conv = some .seq → s.hka.convAt ≤ s.now → nsPassed (s.now - s.hka.convAt) 500 = true →
    s.hkaAvg .seq ≤ s.hka.cnt + 1 → ∃ t, exec (.hkaConversionEnd code) s = .next t ∧
    t.rd (Reg.HKA_RESULT s.hkaEntry) = BitVec.ofNat 32 (0x80000000 + s.hka.taken % 256 * 0x10000 + hkaValue s.hka.cal (s.hka.acc + code.toNat) (s.hka.cnt + 1)) ∧
    (∀ a, t.memGet a = s.memGet a) ∧ Frame s t [.mode, .paths, .dpd, .seq, .bias, .hka, .kpr, .rcd, .tim, .mem,
    .freeIdx] (fun a => a ∈ [Reg.HKA_CMP_CNT, Reg.HKA_ONESHOT, Reg.HKA_ONESHOT_RES, Reg.HKA_SEQ_STAT, Reg.KPR_LIVE_AIR,
    Reg.KPR_SAFE_CAUSE, Reg.KPR_SAFE_CNT, Reg.MEM_CE_CNT, Reg.MEM_ERR_ADDR, Reg.MEM_ERR_STAT, Reg.MEM_POISON_CNT,
    Reg.MEM_SRAM_CE_CNT, Reg.MEM_SRAM_UE_CNT, Reg.MEM_UE_CNT, Reg.SEQ_CAL_FAIL_CNT, Reg.SEQ_CAL_STAT, Reg.SEQ_LEAN,
    Reg.SYN_ALIGN, Reg.TIM_ALIGN_REFUSE_CNT, Reg.TIM_EPOCH_CTRL] ∨ arr 80 Reg.BIA_CLEAR_CNT a ∨ arr 64 Reg.DPD_TRIP_STAT a ∨
    arr 32 Reg.HKA_CMP_ACT a ∨ arr 16 Reg.HKA_QUAD a ∨ arr 128 Reg.HKA_RESULT a ∨ arr 18 Reg.KPR_LT a ∨
    arr 2 Reg.MEM_CH_STAT a ∨ arr 9 Reg.RXP_OBS_ROUTE a ∨ arr 16 Reg.SEQ_DEFER_CNT a ∨ arr 64 Reg.TXP_ATTEN a ∨
    arr 64 Reg.TXP_SAT_CNT a ∨ eventRegs 0x0004 a ∨ eventRegs 0x0104 a ∨ eventRegs 0x0501 a ∨ eventRegs 0x0502 a ∨
    eventRegs 0x0702 a)) ∧
  (∀ (code : BitVec 12) (n : Nat), s.hka.conv = some (.oneshot n) → s.hka.convAt ≤ s.now →
    nsPassed (s.now - s.hka.convAt) 500 = true → 2 ^ n ≤ s.hka.cnt + 1 → ∃ t, exec (.hkaConversionEnd code) s = .next t ∧
    t.rd Reg.HKA_ONESHOT_RES = BitVec.ofNat 32 (0x80000000 + hkaValue s.hka.cal (s.hka.acc + code.toNat) (s.hka.cnt + 1)) ∧
    t.bit Reg.HKA_ONESHOT 31 = false ∧ t.bit Reg.HKA_ONESHOT 30 = true ∧ (∀ a, t.memGet a = s.memGet a) ∧ Frame s t [.mode,
    .paths, .dpd, .seq, .bias, .hka, .kpr, .rcd, .tim, .mem, .freeIdx] (fun a => a ∈ [Reg.HKA_CMP_CNT, Reg.HKA_ONESHOT,
    Reg.HKA_ONESHOT_RES, Reg.HKA_SEQ_STAT, Reg.KPR_LIVE_AIR, Reg.KPR_SAFE_CAUSE, Reg.KPR_SAFE_CNT, Reg.MEM_CE_CNT,
    Reg.MEM_ERR_ADDR, Reg.MEM_ERR_STAT, Reg.MEM_POISON_CNT, Reg.MEM_SRAM_CE_CNT, Reg.MEM_SRAM_UE_CNT, Reg.MEM_UE_CNT,
    Reg.SEQ_CAL_FAIL_CNT, Reg.SEQ_CAL_STAT, Reg.SEQ_LEAN, Reg.SYN_ALIGN, Reg.TIM_ALIGN_REFUSE_CNT, Reg.TIM_EPOCH_CTRL] ∨
    arr 80 Reg.BIA_CLEAR_CNT a ∨ arr 64 Reg.DPD_TRIP_STAT a ∨ arr 32 Reg.HKA_CMP_ACT a ∨ arr 16 Reg.HKA_QUAD a ∨
    arr 128 Reg.HKA_RESULT a ∨ arr 18 Reg.KPR_LT a ∨ arr 2 Reg.MEM_CH_STAT a ∨ arr 9 Reg.RXP_OBS_ROUTE a ∨
    arr 16 Reg.SEQ_DEFER_CNT a ∨ arr 64 Reg.TXP_ATTEN a ∨ arr 64 Reg.TXP_SAT_CNT a ∨ eventRegs 0x0004 a ∨ eventRegs 0x0104 a ∨
    eventRegs 0x0501 a ∨ eventRegs 0x0502 a ∨ eventRegs 0x0702 a)) ∧
  (∀ (code : BitVec 12), s.hka.conv = none → exec (.hkaConversionEnd code) s = .next s) ∧
  (∀ (w : Word), s.writable = true → ∃ t, exec (.hkaOneshot w) s = .next t ∧ t.fld Reg.HKA_ONESHOT 29 24 = fldOf w 29 24 ∧
    t.fld Reg.HKA_ONESHOT 22 20 = fldOf w 22 20 ∧ t.fld Reg.HKA_ONESHOT 13 8 = fldOf w 13 8 ∧
    t.fld Reg.HKA_ONESHOT 2 0 = fldOf w 2 0 ∧ (bitOf w.toNat 31 = true → s.hka.conv = none →
    t.hka.conv = some (.oneshot (fldOf w 2 0)) ∧ t.bit Reg.HKA_ONESHOT 31 = true ∧ t.bit Reg.HKA_ONESHOT 30 = false) ∧
    (bitOf w.toNat 31 = false → t.hka = s.hka) ∧ Frame s t [.hka] (fun a => a ∈ [Reg.HKA_ABORT_CNT, Reg.HKA_ONESHOT,
    Reg.HKA_URGENT_DROP_CNT])) ∧
  (∀ (w : Word), s.writable = false → exec (.hkaOneshot w) s = .next s) ∧
  (∀ (w : Word), s.writable = true → bitOf w.toNat 31 = true → ∃ t, exec (.hkaCalStart w) s = .next t ∧ (s.mode = .ready →
    900000 ≤ (s.rd Reg.HKA_CAL_REF).toNat → (s.rd Reg.HKA_CAL_REF).toNat ≤ 1100000 → t.rd Reg.HKA_CAL_CTL = 0xC0000000 ∧
    t.hka.conv = (if s.hka.conv = none ∨ s.hka.conv = some .seq then some .cal else s.hka.conv)) ∧ (s.mode ≠ .ready ∨
    (s.rd Reg.HKA_CAL_REF).toNat < 900000 ∨ 1100000 < (s.rd Reg.HKA_CAL_REF).toNat → t.bit Reg.HKA_CAL_CTL 29 = true ∧
    t.hka = s.hka) ∧ Frame s t [.hka] (fun a => a = Reg.HKA_CAL_CTL)) ∧
  (∀ (w : Word), s.writable = false ∨ bitOf w.toNat 31 = false → exec (.hkaCalStart w) s = .next s) ∧
  (∀ (sum50 sum49 : BitVec 22) (gainRes ofsRes : BitVec 16), s.bit Reg.HKA_CAL_CTL 30 = true → ∃ t,
    exec (.hkaCalEnd sum50 sum49 gainRes ofsRes) s = .next t ∧ t.rd Reg.HKA_CAL_CTL = 0 ∧
    t.rd Reg.HKA_CAL_RES = BitVec.ofNat 32 (gainRes.toNat * 0x10000 + ofsRes.toNat) ∧ Raised s t 0x1306 [(4,
    gainRes.toNat * 0x10000 + ofsRes.toNat)] ∧ t.prod.hka = some t.hka.cal ∧ (sum50.toNat < sum49.toNat →
    t.hka.cal = { ofs1024 := sum50.toNat, num := (s.rd Reg.HKA_CAL_REF).toNat * 4096 * 1024, den := 1200000 * (sum49.toNat - sum50.toNat) }) ∧
    Frame s t [.hka, .rcd, .prod, .freeIdx] (fun a => a ∈ [Reg.HKA_CAL_CTL, Reg.HKA_CAL_RES, Reg.HKA_SEQ_STAT] ∨
    arr 18 Reg.KPR_LT a ∨ eventRegs 0x1306 a)) ∧
  (∀ (sum50 sum49 : BitVec 22) (gainRes ofsRes : BitVec 16), s.bit Reg.HKA_CAL_CTL 30 = false →
    exec (.hkaCalEnd sum50 sum49 gainRes ofsRes) s = .next s)

/-- THERMAL_SCAN after the image is loaded: a valid reading is shown in HKA_TEMP with broken clear and becomes the sensor's last
valid reading (R539); a broken one sets broken and shows 0x0960 (R540, R541); in both cases each of the sensor's three
thresholds takes the one step that R541 and R542 give it, and the other sensors stay as they are. Before image load nothing
changes. With its frame. -/
def Obligations.ThermalScanJudgesThresholds : Prop := ∀ s : State, s.Canon →
  (∀ (r : Reading), s.kpr.imageLoaded = true → ∃ t, exec (.thermalScan r) s = .next t ∧ (∀ v, (s.convert r).2 = .ok v →
    t.bit (Reg.HKA_TEMP (s.convert r).1) 31 = false ∧ t.fld (Reg.HKA_TEMP (s.convert r).1) 15 0 = toBits 16 v ∧
    t.hka.sensors[(s.convert r).1].lastValid = some v ∧ ∀ k : Fin 3,
    t.hka.sensors[(s.convert r).1].thr[k] = thrStep s.hka.sensors[(s.convert r).1].thr[k] false v (s.thrOf (s.convert r).1 k) (2 * s.fld (Reg.HKA_THR1 (s.convert r).1) 15 8) (max 1 (s.fld (Reg.HKA_THR1 (s.convert r).1) 3 0))) ∧
    (∀ e, (s.convert r).2 = .error e → t.bit (Reg.HKA_TEMP (s.convert r).1) 31 = true ∧
    t.fld (Reg.HKA_TEMP (s.convert r).1) 15 0 = 0x0960 ∧ ∀ k : Fin 3,
    t.hka.sensors[(s.convert r).1].thr[k] = thrStep s.hka.sensors[(s.convert r).1].thr[k] true 0x0960 (s.thrOf (s.convert r).1 k) (2 * s.fld (Reg.HKA_THR1 (s.convert r).1) 15 8) (max 1 (s.fld (Reg.HKA_THR1 (s.convert r).1) 3 0))) ∧
    (∀ x : Fin 28, x ≠ (s.convert r).1 → t.hka.sensors[x] = s.hka.sensors[x]) ∧ Frame s t [.mode, .paths, .clk, .dpd, .seq,
    .bias, .hka, .kpr, .rcd, .tim, .freeIdx] (fun a => a ∈ [Reg.KPR_LIVE_AIR, Reg.KPR_SAFE_CAUSE, Reg.KPR_SAFE_CNT,
    Reg.SEQ_CAL_FAIL_CNT, Reg.SEQ_CAL_STAT, Reg.SEQ_LEAN, Reg.SYN_ALIGN, Reg.SYN_VCO, Reg.TIM_ALIGN_REFUSE_CNT,
    Reg.TIM_EPOCH_CTRL] ∨ arr 80 Reg.BIA_CLEAR_CNT a ∨ arr 64 Reg.DPD_TRIP_STAT a ∨ arr 28 Reg.HKA_BROKEN_CNT a ∨
    arr 28 Reg.HKA_ENTER_CNT a ∨ arr 16 Reg.HKA_QUAD a ∨ arr 28 Reg.HKA_TEMP a ∨ arr 18 Reg.KPR_LT a ∨
    arr 9 Reg.RXP_OBS_ROUTE a ∨ arr 16 Reg.SEQ_DEFER_CNT a ∨ arr 64 Reg.TXP_ATTEN a ∨ arr 64 Reg.TXP_SAT_CNT a ∨
    eventRegs 0x0004 a ∨ eventRegs 0x0104 a ∨ eventRegs 0x0702 a ∨ eventRegs 0x1202 a ∨ eventRegs 0x1301 a ∨
    eventRegs 0x1302 a ∨ eventRegs 0x1303 a ∨ eventRegs 0x1305 a)) ∧
  (∀ (r : Reading), s.kpr.imageLoaded = false → exec (.thermalScan r) s = .next s)

/-- QUAD_RISING_COMPLETE takes a rising quad to STANDBY for a job, to RECEIVE otherwise, and to FALLING where a power-down
waited; QUAD_FALLING_COMPLETE takes a falling quad to GATED, or to RISING where a power-up waited (R320, R322).
SET_CHANGE_REQUEST stores the fields and in SERVICE and LEAN makes the request for its anchor (R326). SET_CHANGE_START powers
the joining quads up and the leaving ones down; SET_CHANGE_ANCHOR puts the quad set, the carrier mask and the mode in force
(R326, R327, R567, R569). The other quads keep their state. Each with its frame. -/
def Obligations.QuadPowerTransitions : Prop := ∀ s : State, s.Canon →
  (∀ (q : Fin 16), s.seq.quads[q].st = .rising → ∃ t, exec (.quadRisingComplete q) s = .next t ∧
    t.seq.quads[q].st = (if s.seq.quads[q].deferred = some false then .falling else if s.seq.quads[q].forJob then .standby else .receive) ∧
    (∀ k : Fin 16, k ≠ q → t.seq.quads[k].st = s.seq.quads[k].st) ∧ Frame s t [.paths, .dpd, .seq,
    .bias] (fun a => arr 80 Reg.BIA_CLEAR_CNT a ∨ arr 64 Reg.DPD_TRIP_STAT a ∨ arr 64 Reg.TXP_ATTEN a)) ∧
  (∀ (q : Fin 16), s.seq.quads[q].st ≠ .rising → exec (.quadRisingComplete q) s = .next s) ∧
  (∀ (q : Fin 16), s.seq.quads[q].st = .falling → ∃ t, exec (.quadFallingComplete q) s = .next t ∧
    t.seq.quads[q].st = (if s.seq.quads[q].deferred = some true then .rising else .gated) ∧ t.seq.quads[q].deferred = none ∧
    t.seq.quads[q].paen = false ∧ t.seq.quads[q].trsw = false ∧ t.seq.quads[q].lnap = true ∧ (∀ k : Fin 16, k ≠ q →
    t.seq.quads[k] = s.seq.quads[k]) ∧ Frame s t [.seq, .bias] (fun a => arr 80 Reg.BIA_CLEAR_CNT a)) ∧
  (∀ (q : Fin 16), s.seq.quads[q].st ≠ .falling → exec (.quadFallingComplete q) s = .next s) ∧
  (∀ (w : Word), s.writable = true → ∃ t, exec (.setChangeRequest w) s = .next t ∧ t.fld Reg.SEQ_LEAN 9 8 = fldOf w 9 8 ∧
    t.fld Reg.SEQ_LEAN 3 0 = fldOf w 3 0 ∧ (s.mode.live = true → (s.seq.waiting.all fun c => c.kind != .standDown) = true →
    t.bit Reg.SEQ_LEAN 31 = true ∧
    t.seq.waiting = some { kind := .lean, quads := s.leanQuads (fldOf w 9 8), carMask := fldOf w 3 0, anchor := s.anchorSym.map fun a => s.dlTick a }) ∧
    (s.mode.live = false → t.seq = s.seq) ∧ Frame s t [.seq] (fun a => a = Reg.SEQ_LEAN)) ∧
  (∀ (w : Word), s.writable = false → exec (.setChangeRequest w) s = .next s) ∧
  (∀ (c : SetChange), s.seq.waiting = some c → c.near s.now 16 = true → s.seq.underway = none → ∃ t,
    exec .setChangeStart s = .next t ∧ t.seq.waiting = none ∧ t.seq.underway = some c ∧ (∀ q : Fin 16, bitOf c.quads q = true →
    s.seq.quads[q].st = .gated → t.seq.quads[q].st = .rising) ∧ (∀ q : Fin 16, bitOf c.quads q = false →
    s.seq.quads[q].st = .receive ∨ s.seq.quads[q].st = .standby → t.seq.quads[q].st = .falling) ∧ (∀ q : Fin 16,
    bitOf c.quads q = false → s.seq.quads[q].st = .transmit → t.seq.quads[q].deferred = some false ∧
    t.seq.quads[q].st = .transmit) ∧ Frame s t [.paths, .dpd, .seq, .bias] (fun a => arr 80 Reg.BIA_CLEAR_CNT a ∨
    arr 64 Reg.DPD_TRIP_STAT a ∨ arr 16 Reg.SEQ_DEFER_CNT a)) ∧
  (s.seq.waiting = none → exec .setChangeStart s = .next s) ∧
  (∀ (c : SetChange), s.seq.underway = some c → c.near s.now 0 = true → c.kind ≠ .standDown → ∃ t,
    exec .setChangeAnchor s = .next t ∧ t.seq.underway = none ∧ t.seq.active = c.quads ∧ t.seq.carMask = c.carMask ∧
    t.mode = (if s.mode.live = true ∨ c.kind = .goLive then s.modeOfSet c else s.mode) ∧ (∀ k : Fin 4,
    t.bit (Reg.DFE_CAR_CFG k) 31 = (s.carEnabled k && bitOf c.carMask k)) ∧ (c.kind = .goLive → t.kpr.goLive = false) ∧
    Frame s t [.mode, .paths, .seq, .bias, .kpr, .rcd, .tim] (fun a => a ∈ [Reg.KPR_LIVE_AIR, Reg.SEQ_LEAN, Reg.SYN_ALIGN,
    Reg.TIM_ALIGN_REFUSE_CNT, Reg.TIM_EPOCH_CTRL] ∨ arr 80 Reg.BIA_CLEAR_CNT a ∨ arr 4 Reg.DFE_CAR_CFG a ∨
    arr 16 Reg.HKA_QUAD a ∨ arr 9 Reg.RXP_OBS_ROUTE a ∨ arr 64 Reg.TXP_ATTEN a ∨ eventRegs 0x0003 a ∨ eventRegs 0x0104 a)) ∧
  (∀ (c : SetChange), s.seq.underway = some c → c.near s.now 0 = true → c.kind = .standDown → ∃ t,
    exec .setChangeAnchor s = .next t ∧ t.seq.underway = none ∧ t.mode = .ready ∧ t.kpr.standDown = false ∧
    t.seq.active = s.seq.active ∧ Frame s t [.mode, .paths, .seq, .bias, .kpr, .rcd, .tim] (fun a => a ∈ [Reg.KPR_LIVE_AIR,
    Reg.SEQ_LEAN, Reg.SYN_ALIGN, Reg.TIM_ALIGN_REFUSE_CNT, Reg.TIM_EPOCH_CTRL] ∨ arr 80 Reg.BIA_CLEAR_CNT a ∨
    arr 4 Reg.DFE_CAR_CFG a ∨ arr 16 Reg.HKA_QUAD a ∨ arr 9 Reg.RXP_OBS_ROUTE a ∨ arr 64 Reg.TXP_ATTEN a ∨ eventRegs 0x0003 a ∨
    eventRegs 0x0104 a)) ∧
  (s.seq.underway = none → exec .setChangeAnchor s = .next s)

/-- CAL_JOB_REQUEST with go starts the job that it names or is refused and counted (R336, R337). CAL_JOB_ABORT ends a job that
is no start-up pass with result aborted (R338). CAL_WINDOW_START in an active CAL symbol declares failed every live observation
receiver that lies beyond 0.5 dB or 3° of the median (R94); elsewhere it opens the window alone (R334). CAL_STEP_COMPLETE with a
path's results that the calibration under way covers applies them and retires a side whose image rejection lies below the limit
(R87, R88, R97, R102); with an array calibration's it takes the references and shows the coherence figure (R133, R135); with a
reciprocity calibration's at step 9 it shows the number of paths without a pair (R343); at step 1 it checks the observation
receivers (R94); the end of an item moves the background cycle on, or the start-up pass to its next step once every quad is in
STANDBY (R339, R340); in an OBSREF job CAL_RF goes on in turn (R345). Results outside the calibration under way change nothing
but the start of the next step in an open window. RECIP_BURST, in the order of quads and in SERVICE and LEAN at the start of a
CAL group, names the quad under measurement, lets the other powered quads listen and keeps what this chip recorded, and else
changes nothing (R342, R343). CAL_JOB_END ends a job that can end and shows, counts and raises its result (R339); that of an
OBSREF job takes the gains of the receivers against the power at CAL_RF (R345). PA_REF_WRITE stores the reference power and,
with the powers of a COUPLER job of that path held, sets its coupling and gain (R344, R345). Each with its frame. -/
def Obligations.CalibrationJobs : Prop := ∀ s : State, s.Canon →
  (∀ (w : Word), s.writable = true → bitOf w.toNat 30 = false → bitOf w.toNat 31 = true → ∃ t,
    exec (.calJobRequest w) s = .next t ∧ (s.calRefused (fldOf w 2 0) (s.fld Reg.SEQ_CAL_SEL 15 0) = true →
    Counted s t Reg.SEQ_CAL_REFUSE_CNT 1 ∧ t.seq = s.seq) ∧ (s.calRefused (fldOf w 2 0) (s.fld Reg.SEQ_CAL_SEL 15 0) = false →
    t.seq.job = some { kind := fldOf w 2 0, quads := s.fld Reg.SEQ_CAL_SEL 15 0, quadOut := bitOf w.toNat 8 } ∧
    t.bit Reg.SEQ_CAL_STAT 31 = true ∧ t.fld Reg.SEQ_CAL_STAT 26 24 = fldOf w 2 0) ∧
    (s.calRefused (fldOf w 2 0) (s.fld Reg.SEQ_CAL_SEL 15 0) = false → bitOf w.toNat 8 = true → ∀ q : Fin 16,
    bitOf (s.fld Reg.SEQ_CAL_SEL 15 0) q = true → s.seq.quads[q].st = .receive → t.seq.quads[q].st = .standby ∧
    t.seq.quads[q].quadOut = true) ∧ Frame s t [.paths, .dpd, .seq, .bias, .rcd, .kte,
    .freeIdx] (fun a => a ∈ [Reg.KTE_TX_SKIP_CNT, Reg.SEQ_CAL_FAIL_CNT, Reg.SEQ_CAL_REFUSE_CNT, Reg.SEQ_CAL_REQ,
    Reg.SEQ_CAL_STAT] ∨ arr 80 Reg.BIA_CLEAR_CNT a ∨ arr 64 Reg.DPD_CAP_DROP_CNT a ∨ arr 64 Reg.DPD_TRIP_STAT a ∨
    arr 9 Reg.RXP_OBS_ABORT_CNT a ∨ arr 9 Reg.RXP_OBS_ROUTE a ∨ arr 16 Reg.SEQ_BLANK_CNT a ∨ arr 16 Reg.SEQ_DEFER_CNT a ∨
    arr 64 Reg.TXP_SAT_CNT a ∨ eventRegs 0x0702 a)) ∧
  (∀ (w : Word), s.writable = false → exec (.calJobRequest w) s = .next s) ∧
  (∀ (j : CalJob), s.seq.job = some j → s.writable = true → j.startup = false → ∃ t, exec .calJobAbort s = .next t ∧
    t.seq.job = none ∧ t.bit Reg.SEQ_CAL_STAT 31 = false ∧ t.fld Reg.SEQ_CAL_STAT 21 20 = 3 ∧
    Counted s t Reg.SEQ_CAL_FAIL_CNT 1 ∧ Raised s t 0x0702 [(1, j.kind), (1, 2)] ∧ Frame s t [.paths, .dpd, .seq, .bias, .rcd,
    .freeIdx] (fun a => a ∈ [Reg.SEQ_CAL_FAIL_CNT, Reg.SEQ_CAL_STAT] ∨ arr 80 Reg.BIA_CLEAR_CNT a ∨
    arr 64 Reg.DPD_TRIP_STAT a ∨ arr 9 Reg.RXP_OBS_ROUTE a ∨ arr 16 Reg.SEQ_DEFER_CNT a ∨ arr 64 Reg.TXP_SAT_CNT a ∨
    eventRegs 0x0702 a)) ∧
  ((s.seq.job.all fun j => j.startup) = true ∨ s.writable = false → exec .calJobAbort s = .next s) ∧
  (∀ (m : Vector (Int × Int) 9), s.calUse = some 2 → s.mode ≠ .shelf → ∃ t, exec (.calWindowStart m) s = .next t ∧
    (3 ≤ ((List.finRange 9).filter fun (k : Fin 9) => s.obsRole k != 2).length →
    ∀ k ∈ ((List.finRange 9).filter fun (k : Fin 9) => s.obsRole k != 2),
    100 < (2 * (m[k]).1 - median2 (((List.finRange 9).filter fun (k : Fin 9) => s.obsRole k != 2).map fun i => (m[i]).1)).natAbs ∨
    600 < (wrapDeg2 (2 * (m[k]).2 - median2 (((List.finRange 9).filter fun (k : Fin 9) => s.obsRole k != 2).map fun i => (m[i]).2))).natAbs →
    t.obsRole k = 2) ∧ (∀ k : Fin 9, s.obsRole k = 2 → t.obsRole k = 2) ∧ t.seq.bgBegun = (s.seq.bgBegun || s.mode.live) ∧
    t.seq.window = s.openWindow.seq.window ∧ Frame s t [.dpd, .seq, .rcd] (fun a => a = Reg.RXP_OBS_MAP ∨
    arr 64 Reg.DPD_CAP_DROP_CNT a ∨ arr 9 Reg.RXP_OBS_ABORT_CNT a ∨ arr 9 Reg.RXP_OBS_ROUTE a ∨ arr 9 Reg.RXP_OBS_STAT a ∨
    eventRegs 0x0A05 a)) ∧
  (∀ (m : Vector (Int × Int) 9), s.calUse ≠ some 2 ∨ s.mode = .shelf → ∃ t, exec (.calWindowStart m) s = .next t ∧
    t = s.openWindow) ∧
  (∀ (p : Fin 64) (r : PathCal) (bg : Bool) (x : PathCal), s.pathTaken p r = some (bg, x) → ∃ t,
    exec (.calStepComplete (.path p r)) s = .next t ∧ t.bit (Reg.SEQ_LEGACY p 7) 7 = true ∧ (∀ v, x.txRej = some v →
    s.calVoid bg p true = false → t.fld (Reg.TXP_QUAL p) 25 16 = imgRej v) ∧ (∀ v, x.loLeak = some v →
    s.calVoid bg p true = false → t.fld (Reg.TXP_QUAL p) 9 0 = ratioCode v) ∧ (∀ v, x.rxRej = some v →
    s.calVoid bg p false = false → t.fld (Reg.RXP_QUAL p) 25 16 = imgRej v) ∧ (∀ v, x.txRej = some v →
    imgRej v < s.fld Reg.SEQ_CAL_LIM 9 0 → t.txRetired p = true) ∧ (∀ v, x.rxRej = some v →
    imgRej v < s.fld Reg.SEQ_CAL_LIM 9 0 → t.rxRetired p = true) ∧ (∀ v, x.steps = some v → s.calVoid bg p false = false →
    ∀ i : Fin 32, ∀ y, stepWord v[(0 : Fin 32)] v[i] = some y → t.rd (Reg.RXP_STEP_TAB p i) = y) ∧ Frame s t [.mode, .paths,
    .clk, .dpd, .seq, .bias, .kpr, .rcd, .tim, .freeIdx] (fun a => a ∈ [Reg.KPR_BOOT_STAT, Reg.KPR_BOOT_TIME, Reg.KPR_LIVE_AIR,
    Reg.RXP_LIVE_HI, Reg.RXP_LIVE_LO, Reg.RXP_OBS_MAP, Reg.RXP_RETIRE_CNT, Reg.SEQ_CAL_STAT, Reg.SYN_ALIGN, Reg.SYN_COH,
    Reg.TIM_ALIGN_REFUSE_CNT, Reg.TIM_EPOCH_CTRL, Reg.TXP_LIVE_HI, Reg.TXP_LIVE_LO, Reg.TXP_RETIRE_CNT] ∨
    arr 80 Reg.BIA_CLEAR_CNT a ∨ arr 64 Reg.DFE_RX_DLY a ∨ arr 64 Reg.DFE_RX_PHG a ∨ arr 64 Reg.DFE_TX_DLY a ∨
    arr 64 Reg.DFE_TX_PHG a ∨ arr 64 Reg.DPD_CAP_DROP_CNT a ∨ arr 64 Reg.DPD_TRIP_STAT a ∨ arr 16 Reg.HKA_QUAD a ∨
    arr 18 Reg.KPR_LT a ∨ arr 64 Reg.RXP_BW_CODE a ∨ arr 64 Reg.RXP_DC_OFS a ∨ arr 64 Reg.RXP_IQ_TAP0 a ∨
    arr 64 Reg.RXP_IQ_TAP1 a ∨ arr 64 Reg.RXP_IQ_TAP2 a ∨ arr 64 Reg.RXP_IQ_TAP3 a ∨ arr 9 Reg.RXP_OBS_ABORT_CNT a ∨
    arr 9 Reg.RXP_OBS_ROUTE a ∨ arr 9 Reg.RXP_OBS_STAT a ∨ arr 64 Reg.RXP_QUAL a ∨ arr 64 Reg.RXP_RETIRE a ∨
    arr2 64 32 Reg.RXP_STEP_TAB a ∨ arr 16 Reg.SEQ_DEFER_CNT a ∨ arr2 64 8 Reg.SEQ_LEGACY a ∨ arr 17 Reg.SYN_LEAF a ∨
    arr 64 Reg.TXP_ATTEN a ∨ arr 64 Reg.TXP_BW_CODE a ∨ arr 64 Reg.TXP_CELL_SUB_I a ∨ arr 64 Reg.TXP_CELL_SUB_Q a ∨
    arr 64 Reg.TXP_DC_OFS a ∨ arr 64 Reg.TXP_IQ_TAP0 a ∨ arr 64 Reg.TXP_IQ_TAP1 a ∨ arr 64 Reg.TXP_IQ_TAP2 a ∨
    arr 64 Reg.TXP_IQ_TAP3 a ∨ arr 64 Reg.TXP_QUAL a ∨ arr 64 Reg.TXP_RETIRE a ∨ arr 64 Reg.TXP_SAT_CNT a ∨
    eventRegs 0x0003 a ∨ eventRegs 0x0104 a ∨ eventRegs 0x0703 a ∨ eventRegs 0x0901 a ∨ eventRegs 0x0A01 a ∨
    eventRegs 0x0A05 a)) ∧
  (∀ (p : Fin 64) (r : PathCal), s.pathTaken p r = none → ∃ t, exec (.calStepComplete (.path p r)) s = .next t ∧
    t = (if s.stepFits 2 = true ∨ s.stepFits 3 = true then s.nextStep else s)) ∧
  (∀ (r : ArrayCal) (bg : Bool), s.arrayTaken = some bg → ∃ t, exec (.calStepComplete (.array r)) s = .next t ∧
    t.bit Reg.SYN_COH 31 = false ∧
    t.fld Reg.SYN_COH 7 0 = min 255 (roundRat (10000000 * max (delaySpread ((s.sideResiduals true r).map (·.2))) (delaySpread ((s.sideResiduals false r).map (·.2))))).toNat ∧
    (∀ v, phaseRms ((s.sideResiduals true r ++ s.sideResiduals false r).flatMap (·.2)) = some v →
    t.fld Reg.SYN_COH 25 16 = min 1023 v) ∧ t.clk.cohLo = some (s.fld Reg.SYN_LO 17 0) ∧
    t.clk.leafRef = t.clk.arrival.map some ∧ Frame s t [.mode, .paths, .clk, .dpd, .seq, .bias, .kpr, .rcd, .tim,
    .freeIdx] (fun a => a ∈ [Reg.KPR_BOOT_STAT, Reg.KPR_BOOT_TIME, Reg.KPR_LIVE_AIR, Reg.RXP_LIVE_HI, Reg.RXP_LIVE_LO,
    Reg.RXP_OBS_MAP, Reg.RXP_RETIRE_CNT, Reg.SEQ_CAL_STAT, Reg.SYN_ALIGN, Reg.SYN_COH, Reg.TIM_ALIGN_REFUSE_CNT,
    Reg.TIM_EPOCH_CTRL, Reg.TXP_LIVE_HI, Reg.TXP_LIVE_LO, Reg.TXP_RETIRE_CNT] ∨ arr 80 Reg.BIA_CLEAR_CNT a ∨
    arr 64 Reg.DFE_RX_DLY a ∨ arr 64 Reg.DFE_RX_PHG a ∨ arr 64 Reg.DFE_TX_DLY a ∨ arr 64 Reg.DFE_TX_PHG a ∨
    arr 64 Reg.DPD_CAP_DROP_CNT a ∨ arr 64 Reg.DPD_TRIP_STAT a ∨ arr 16 Reg.HKA_QUAD a ∨ arr 18 Reg.KPR_LT a ∨
    arr 64 Reg.RXP_BW_CODE a ∨ arr 64 Reg.RXP_DC_OFS a ∨ arr 64 Reg.RXP_IQ_TAP0 a ∨ arr 64 Reg.RXP_IQ_TAP1 a ∨
    arr 64 Reg.RXP_IQ_TAP2 a ∨ arr 64 Reg.RXP_IQ_TAP3 a ∨ arr 9 Reg.RXP_OBS_ABORT_CNT a ∨ arr 9 Reg.RXP_OBS_ROUTE a ∨
    arr 9 Reg.RXP_OBS_STAT a ∨ arr 64 Reg.RXP_QUAL a ∨ arr 64 Reg.RXP_RETIRE a ∨ arr2 64 32 Reg.RXP_STEP_TAB a ∨
    arr 16 Reg.SEQ_DEFER_CNT a ∨ arr2 64 8 Reg.SEQ_LEGACY a ∨ arr 17 Reg.SYN_LEAF a ∨ arr 64 Reg.TXP_ATTEN a ∨
    arr 64 Reg.TXP_BW_CODE a ∨ arr 64 Reg.TXP_CELL_SUB_I a ∨ arr 64 Reg.TXP_CELL_SUB_Q a ∨ arr 64 Reg.TXP_DC_OFS a ∨
    arr 64 Reg.TXP_IQ_TAP0 a ∨ arr 64 Reg.TXP_IQ_TAP1 a ∨ arr 64 Reg.TXP_IQ_TAP2 a ∨ arr 64 Reg.TXP_IQ_TAP3 a ∨
    arr 64 Reg.TXP_QUAL a ∨ arr 64 Reg.TXP_RETIRE a ∨ arr 64 Reg.TXP_SAT_CNT a ∨ eventRegs 0x0003 a ∨ eventRegs 0x0104 a ∨
    eventRegs 0x0703 a ∨ eventRegs 0x0901 a ∨ eventRegs 0x0A01 a ∨ eventRegs 0x0A05 a)) ∧
  (∀ (r : ArrayCal), s.arrayTaken = none → ∃ t, exec (.calStepComplete (.array r)) s = .next t ∧ t = (if s.stepFits 2 = true ∨
    s.stepFits 3 = true then s.nextStep else s)) ∧
  (∀ (y : List PairMeas), s.atStep 9 = true → s.burstsDone = true → ∃ t, exec (.calStepComplete (.recip y)) s = .next t ∧
    t.seq.recipIn = [] ∧
    t.fld Reg.SEQ_CAL_STAT 6 0 = (recipSolve (s.seq.recipIn ++ y) (((List.finRange 64).filter fun (p : Fin 64) => !s.txRetired p && !s.rxRetired p).map fun p => 64 * s.position + p.val)).countP (fun x => match x.2 with | .noPair => true | _ => false) % 128 ∧
    Frame s t [.seq, .freeIdx] (fun a => a = Reg.SEQ_CAL_STAT ∨ arr 64 Reg.DFE_TX_DLY a ∨ arr 64 Reg.DFE_TX_PHG a ∨
    arr2 64 8 Reg.SEQ_LEGACY a)) ∧
  (∀ (m : Vector (Int × Int) 9), s.atStep 1 = true → ∃ t, exec (.calStepComplete (.obs m)) s = .next t ∧
    (3 ≤ ((List.finRange 9).filter fun (k : Fin 9) => s.obsRole k != 2).length →
    ∀ k ∈ ((List.finRange 9).filter fun (k : Fin 9) => s.obsRole k != 2),
    100 < (2 * (m[k]).1 - median2 (((List.finRange 9).filter fun (k : Fin 9) => s.obsRole k != 2).map fun i => (m[i]).1)).natAbs ∨
    600 < (wrapDeg2 (2 * (m[k]).2 - median2 (((List.finRange 9).filter fun (k : Fin 9) => s.obsRole k != 2).map fun i => (m[i]).2))).natAbs →
    t.obsRole k = 2) ∧ (∀ k : Fin 9, s.obsRole k = 2 → t.obsRole k = 2) ∧ Frame s t [.mode, .paths, .clk, .dpd, .seq, .bias,
    .kpr, .rcd, .tim, .freeIdx] (fun a => a ∈ [Reg.KPR_BOOT_STAT, Reg.KPR_BOOT_TIME, Reg.KPR_LIVE_AIR, Reg.RXP_LIVE_HI,
    Reg.RXP_LIVE_LO, Reg.RXP_OBS_MAP, Reg.RXP_RETIRE_CNT, Reg.SEQ_CAL_STAT, Reg.SYN_ALIGN, Reg.SYN_COH,
    Reg.TIM_ALIGN_REFUSE_CNT, Reg.TIM_EPOCH_CTRL, Reg.TXP_LIVE_HI, Reg.TXP_LIVE_LO, Reg.TXP_RETIRE_CNT] ∨
    arr 80 Reg.BIA_CLEAR_CNT a ∨ arr 64 Reg.DFE_RX_DLY a ∨ arr 64 Reg.DFE_RX_PHG a ∨ arr 64 Reg.DFE_TX_DLY a ∨
    arr 64 Reg.DFE_TX_PHG a ∨ arr 64 Reg.DPD_CAP_DROP_CNT a ∨ arr 64 Reg.DPD_TRIP_STAT a ∨ arr 16 Reg.HKA_QUAD a ∨
    arr 18 Reg.KPR_LT a ∨ arr 64 Reg.RXP_BW_CODE a ∨ arr 64 Reg.RXP_DC_OFS a ∨ arr 64 Reg.RXP_IQ_TAP0 a ∨
    arr 64 Reg.RXP_IQ_TAP1 a ∨ arr 64 Reg.RXP_IQ_TAP2 a ∨ arr 64 Reg.RXP_IQ_TAP3 a ∨ arr 9 Reg.RXP_OBS_ABORT_CNT a ∨
    arr 9 Reg.RXP_OBS_ROUTE a ∨ arr 9 Reg.RXP_OBS_STAT a ∨ arr 64 Reg.RXP_QUAL a ∨ arr 64 Reg.RXP_RETIRE a ∨
    arr2 64 32 Reg.RXP_STEP_TAB a ∨ arr 16 Reg.SEQ_DEFER_CNT a ∨ arr2 64 8 Reg.SEQ_LEGACY a ∨ arr 17 Reg.SYN_LEAF a ∨
    arr 64 Reg.TXP_ATTEN a ∨ arr 64 Reg.TXP_BW_CODE a ∨ arr 64 Reg.TXP_CELL_SUB_I a ∨ arr 64 Reg.TXP_CELL_SUB_Q a ∨
    arr 64 Reg.TXP_DC_OFS a ∨ arr 64 Reg.TXP_IQ_TAP0 a ∨ arr 64 Reg.TXP_IQ_TAP1 a ∨ arr 64 Reg.TXP_IQ_TAP2 a ∨
    arr 64 Reg.TXP_IQ_TAP3 a ∨ arr 64 Reg.TXP_QUAL a ∨ arr 64 Reg.TXP_RETIRE a ∨ arr 64 Reg.TXP_SAT_CNT a ∨
    eventRegs 0x0003 a ∨ eventRegs 0x0104 a ∨ eventRegs 0x0703 a ∨ eventRegs 0x0901 a ∨ eventRegs 0x0A01 a ∨
    eventRegs 0x0A05 a)) ∧
  (∀ (y : List PairMeas), s.atStep 9 = false ∨ s.burstsDone = false → ∃ t, exec (.calStepComplete (.recip y)) s = .next t ∧
    t = (if s.stepFits 2 = true ∨ s.stepFits 3 = true then s.nextStep else s)) ∧
  (∀ (m : Vector (Int × Int) 9), s.atStep 1 = false → ∃ t, exec (.calStepComplete (.obs m)) s = .next t ∧
    t = (if s.stepFits 2 = true ∨ s.stepFits 3 = true then s.nextStep else s)) ∧
  (s.seq.job = none → s.bgRuns = true → ∃ t, exec (.calStepComplete .itemEnd) s = .next t ∧
    t.seq.bgStep = (s.seq.bgStep + 1) % 17 ∧ t.seq.bgBegun = false ∧ t.seq.bgVoidTx = 0 ∧ t.seq.bgVoidRx = 0 ∧
    t.seq.window = s.nextStep.seq.window ∧ t.seq.quads = s.seq.quads ∧ t.seq.job = none ∧
    Frame s t [.seq] (fun a => arr 9 Reg.RXP_OBS_ROUTE a)) ∧
  (s.seq.job = none → s.bgRuns = false → ∃ t, exec (.calStepComplete .itemEnd) s = .next t ∧ t = (if s.stepFits 2 = true ∨
    s.stepFits 3 = true then s.nextStep else s)) ∧
  (∀ (j : CalJob), s.seq.job = some j → j.startup = true → s.allStandby = true → s.fld Reg.SEQ_CAL_STAT 15 8 < s.lastStep →
    ∃ t, exec (.calStepComplete .itemEnd) s = .next t ∧ t.fld Reg.SEQ_CAL_STAT 15 8 = s.fld Reg.SEQ_CAL_STAT 15 8 + 1 ∧
    t.seq.job = s.seq.job ∧ t.seq.quads = s.seq.quads ∧ Frame s t [.dpd, .seq] (fun a => a = Reg.SEQ_CAL_STAT ∨
    arr 9 Reg.RXP_OBS_ROUTE a ∨ eventRegs 0x0003 a ∨ eventRegs 0x0104 a ∨ eventRegs 0x0703 a ∨ eventRegs 0x0901 a ∨
    eventRegs 0x0A01 a ∨ eventRegs 0x0A05 a)) ∧
  (∀ (j : CalJob), s.seq.job = some j → j.startup = true → s.allStandby = false → ∃ t,
    exec (.calStepComplete .itemEnd) s = .next t ∧ t = (if s.stepFits 2 = true ∨ s.stepFits 3 = true then s.nextStep else s)) ∧
  (∀ (j : CalJob) (k i : Nat), s.seq.job = some j → j.kind = 4 →
    ((List.range 9).find? fun k => s.fld (Reg.RXP_OBS_ROUTE k) 1 0 = 2 && s.fld (Reg.RXP_OBS_ROUTE k) 22 16 = 64) = some k →
    ((List.range 9).find? fun i => k < i && s.fld (Reg.RXP_OBS_ROUTE i) 1 0 = 2) = some i → ∃ t,
    exec (.calStepComplete .part) s = .next t ∧ t.fld (Reg.RXP_OBS_ROUTE k) 22 16 = 0x7F ∧
    t.fld (Reg.RXP_OBS_ROUTE i) 22 16 = 64 ∧ Frame s t [] (fun a => a = Reg.RXP_OBS_ROUTE k ∨ a = Reg.RXP_OBS_ROUTE i)) ∧
  ((s.seq.job.all fun j => j.kind != 4) = true → ∃ t, exec (.calStepComplete .part) s = .next t ∧ t = (if s.stepFits 2 = true ∨
    s.stepFits 3 = true then s.nextStep else s)) ∧
  (∀ (q : Fin 64) (ys : List PairMeas) (j : CalJob) (k : Fin 16), s.seq.job = some j → j.kind = 3 ∨ s.atStep 9 = true →
    s.mode.live = false ∨ s.groupHere.isSome = true → s.burstNext q = true → (s.seq.burst.all fun x => !x.turn) = true →
    q.val % 16 = k.val → q.val / 16 = s.position → s.seq.quads[k].st.isDown = false → ∃ t,
    exec (.recipBurst q ys) s = .next t ∧ t.seq.burst = some { quad := q, span := if s.mode.live then s.groupHere else none } ∧
    t.seq.nextBurst = q.val + 1 ∧
    t.seq.recipIn = s.seq.recipIn ++ ys.filter (fun m => m.i.val / 4 = q.val && m.j.val / 64 = s.position) ∧ (∀ i : Fin 16,
    t.seq.quads[i] = if i ≠ k ∧
    s.seq.quads[i].st.isDown = false then { s.seq.quads[i] with lnap := false, trsw := false } else s.seq.quads[i]) ∧
    Frame s t [.seq, .pkt] noRegs) ∧
  (∀ (q : Fin 64) (ys : List PairMeas) (j : CalJob), s.seq.job = some j → j.kind = 3 ∨ s.atStep 9 = true →
    s.mode.live = false ∨ s.groupHere.isSome = true → s.burstNext q = true → (s.seq.burst.all fun x => !x.turn) = true →
    q.val / 16 ≠ s.position → ∃ t, exec (.recipBurst q ys) s = .next t ∧
    t.seq.burst = some { quad := q, span := if s.mode.live then s.groupHere else none } ∧ t.seq.nextBurst = q.val + 1 ∧
    t.seq.recipIn = s.seq.recipIn ++ ys.filter (fun m => m.i.val / 4 = q.val && m.j.val / 64 = s.position) ∧ (∀ i : Fin 16,
    t.seq.quads[i] = if s.seq.quads[i].st.isDown = false then { s.seq.quads[i] with lnap := false, trsw := false } else s.seq.quads[i]) ∧
    Frame s t [.seq, .pkt] noRegs) ∧
  (∀ (q : Fin 64) (ys : List PairMeas), (s.seq.job.all fun j => j.kind != 3 && !s.atStep 9) = true ∨ s.burstNext q = false ∨
    (s.mode.live = true ∧ s.groupHere = none) → exec (.recipBurst q ys) s = .next s) ∧
  (∀ (e : CalEnd) (j : CalJob), s.seq.job = some j → s.jobEnds j = true → ∃ t, exec (.calJobEnd e) s = .next t ∧
    t.seq.job = none ∧ t.bit Reg.SEQ_CAL_STAT 31 = false ∧ t.fld Reg.SEQ_CAL_STAT 26 24 = j.kind % 8 ∧
    t.fld Reg.SEQ_CAL_STAT 21 20 = (if j.retired = [] then 1 else 2) ∧ Counted s t Reg.SEQ_CAL_DONE_CNT 1 ∧
    Raised s t 0x0701 [(1, j.kind), (1, if j.retired = [] then 1 else 2)] ∧ Frame s t [.paths, .dpd, .seq, .bias, .rcd, .prod,
    .freeIdx] (fun a => a ∈ [Reg.SEQ_CAL_DONE_CNT, Reg.SEQ_CAL_STAT] ∨ arr 80 Reg.BIA_CLEAR_CNT a ∨ arr 64 Reg.DFE_TX_DLY a ∨
    arr 64 Reg.DFE_TX_PHG a ∨ arr 64 Reg.DPD_TRIP_STAT a ∨ arr 18 Reg.KPR_LT a ∨ arr 9 Reg.RXP_OBS_ROUTE a ∨
    arr 16 Reg.SEQ_DEFER_CNT a ∨ arr2 64 8 Reg.SEQ_LEGACY a ∨ arr 64 Reg.TXP_SAT_CNT a ∨ eventRegs 0x0701 a)) ∧
  (∀ (m : Vector Nat 9) (j : CalJob), s.seq.job = some j → j.kind = 4 → j.startup = false → ∃ t,
    exec (.calJobEnd (.obsref m)) s = .next t ∧ (∀ k : Fin 9, m[k] ≠ 0 →
    t.prod.obsGain[k] = some (logSteps 1 (mkRat m[k] (8191 * 8191)) - s.sfld Reg.SEQ_CAL_RF 31 16)) ∧ Frame s t [.paths, .dpd,
    .seq, .bias, .rcd, .prod, .freeIdx] (fun a => a ∈ [Reg.SEQ_CAL_DONE_CNT, Reg.SEQ_CAL_STAT] ∨ arr 80 Reg.BIA_CLEAR_CNT a ∨
    arr 64 Reg.DFE_TX_DLY a ∨ arr 64 Reg.DFE_TX_PHG a ∨ arr 64 Reg.DPD_TRIP_STAT a ∨ arr 18 Reg.KPR_LT a ∨
    arr 9 Reg.RXP_OBS_ROUTE a ∨ arr 16 Reg.SEQ_DEFER_CNT a ∨ arr2 64 8 Reg.SEQ_LEGACY a ∨ arr 64 Reg.TXP_SAT_CNT a ∨
    eventRegs 0x0701 a)) ∧
  (∀ (e : CalEnd), (s.seq.job.all fun j => !s.jobEnds j) = true → exec (.calJobEnd e) s = .next s) ∧
  (∀ (w : Word), s.writable = true → ∃ t, exec (.paRefWrite w) s = .next t ∧ t.fld Reg.SEQ_PA_REF 31 16 = fldOf w 31 16 ∧
    t.fld Reg.SEQ_PA_REF 5 0 = fldOf w 5 0 ∧ (∀ fb tx, s.seq.coupler = some (fldOf w 5 0, fb, tx) →
    t.fld (Reg.DPD_OBS_CFG (fldOf w 5 0)) 31 16 = (satInt 0 65535 (signedOf 16 (fldOf w 31 16) - fb)).toNat ∧
    t.sfld (Reg.SEQ_PA_GAIN (fldOf w 5 0)) 15 0 = satInt (-32767) 32767 (signedOf 16 (fldOf w 31 16) - tx)) ∧ Frame s t [.prod,
    .freeIdx] (fun a => a = Reg.SEQ_PA_REF ∨ arr 64 Reg.DPD_OBS_CFG a ∨ arr 18 Reg.KPR_LT a ∨ arr 64 Reg.SEQ_PA_GAIN a)) ∧
  (∀ (w : Word), s.writable = false → exec (.paRefWrite w) s = .next s)

/-- VISIT_START with a present and free receiver and a pair to take routes that receiver to the path and starts the visit at the
pair (R291, R292). VISIT_END after visit_ms and VISIT_IDLE_END after idle_ms without a capture end the visit and free its
receiver (R292). BANK_ACTIVITY_EXPIRE makes a bank inactive that has resolved no D symbol for 1 s (R290). Before those times,
and with no visit, nothing changes. Each with its frame: no other receiver, visit or bank changes. -/
def Obligations.VisitsOfTheObservationReceivers : Prop := ∀ s : State, s.Canon →
  (∀ (l : Fin 8) (p : Fin 64) (b : Nat), s.physOf l < 9 → s.obsFree (s.physOf l) = true → s.dpd.visits[l] = none →
    s.nextPair = some (p, b) → ∃ t, exec (.visitStart l) s = .next t ∧
    t.dpd.visits[l] = some { id := s.dpd.visitNo, path := p, bank := b, routed := s.now, settle := s.now, lastCap := s.now } ∧
    t.dpd.visitNo = s.dpd.visitNo + 1 ∧ t.dpd.lastPair = some (p.val, b) ∧
    t.fld (Reg.RXP_OBS_ROUTE (s.physOf l)) 22 16 = p.val ∧
    t.fld (Reg.RXP_OBS_ROUTE (s.physOf l)) 12 8 = s.fld (Reg.DPD_OBS_CFG p) 4 0 ∧
    t.fld (Reg.RXP_OBS_ROUTE (s.physOf l)) 1 0 = 1 ∧ t.dpd.paths = s.dpd.paths ∧ (∀ k : Fin 8, k ≠ l →
    t.dpd.visits[k] = s.dpd.visits[k]) ∧ Frame s t [.dpd] (fun a => a = Reg.RXP_OBS_ROUTE (s.physOf l))) ∧
  (∀ (l : Fin 8), 9 ≤ s.physOf l ∨ s.obsFree (s.physOf l) = false ∨ (s.dpd.visits[l]).isSome = true ∨ s.nextPair = none →
    exec (.visitStart l) s = .next s) ∧
  (∀ (l : Fin 8) (v : Visit), s.dpd.visits[l] = some v → msPassed (s.now - v.routed) (s.fld Reg.DPD_SCHED_CFG 15 8) = true →
    ∃ t, exec (.visitEnd l) s = .next t ∧ t.dpd = { s.dpd with visits := s.dpd.visits.set l none } ∧ (s.physOf l < 9 →
    t.obsFree (s.physOf l) = true ∧ t.fld (Reg.RXP_OBS_ROUTE (s.physOf l)) 22 16 = 0x7F) ∧
    Frame s t [.dpd] (fun a => a = Reg.RXP_OBS_ROUTE (s.physOf l))) ∧
  (∀ (l : Fin 8), (s.dpd.visits[l].all fun v => !msPassed (s.now - v.routed) (s.fld Reg.DPD_SCHED_CFG 15 8)) = true →
    exec (.visitEnd l) s = .next s) ∧
  (∀ (l : Fin 8) (v : Visit), s.dpd.visits[l] = some v → msPassed (s.now - v.lastCap) (s.fld Reg.DPD_SCHED_CFG 7 0) = true →
    ∃ t, exec (.visitIdleEnd l) s = .next t ∧ t.dpd = { s.dpd with visits := s.dpd.visits.set l none } ∧ (s.physOf l < 9 →
    t.obsFree (s.physOf l) = true ∧ t.fld (Reg.RXP_OBS_ROUTE (s.physOf l)) 22 16 = 0x7F) ∧
    Frame s t [.dpd] (fun a => a = Reg.RXP_OBS_ROUTE (s.physOf l))) ∧
  (∀ (l : Fin 8), (s.dpd.visits[l].all fun v => !msPassed (s.now - v.lastCap) (s.fld Reg.DPD_SCHED_CFG 7 0)) = true →
    exec (.visitIdleEnd l) s = .next s) ∧
  (∀ (b : Fin 8) (u : Nat), s.dpd.lastUse[b] = some u → ticksPerS < s.now - u → ∃ t, exec (.bankActivityExpire b) s = .next t ∧
    t.bankActive b = false ∧ t.dpd = { s.dpd with lastUse := s.dpd.lastUse.set b none } ∧ (∀ k : Fin 8, k ≠ b →
    t.bankActive k = s.bankActive k) ∧ Frame s t [.dpd] (fun a => a = Reg.DPD_ACTIVE)) ∧
  (∀ (b : Fin 8), (s.dpd.lastUse[b].all fun u => decide (s.now - u ≤ ticksPerS)) = true →
    exec (.bankActivityExpire b) s = .next s)

/-- DPD_CAPTURE_START in a symbol of the visit's bank counts one capture, or one skip where the path does not transmit or the
level lies below min_rms; one is taken in a symbol at most (R293, R294). DPD_CAPTURE_END discards and counts a capture with more
than 16 clipped samples; another one that is not to be discarded shows nmse and ACLR of the aligned capture, and asks for an
update of a bank in SEED that adapts, which enters ACQUIRE (R295 to R301). DPD_UPDATE_READY writes the learned table of a bank
that adapts to the shadow table and counts it in iter, and drops the update of one that does not (R288, R289, R297). DPD_FREEZE,
DPD_UNFREEZE and DPD_RESET_BANK act on the banks of one path; the last is refused and counted outside READY and otherwise
returns every named bank to SEED (R298, R300); the bits written as 1 of unfreeze and reset_bank stay set (R5). Each with its
frame. -/
def Obligations.CapturesUpdatesAndBankControl : Prop := ∀ s : State, s.Canon →
  (∀ (l : Fin 8) (v : Visit), s.dpd.visits[l] = some v → s.air.onAir.isSome = true → s.dpd.paths[v.path].bank = v.bank →
    v.settle ≤ s.air.onAirAt → nsPassed (s.air.onAirAt - v.settle) 200 = true → v.capturing = false → v.symUsed = false → ∃ t,
    exec (.dpdCaptureStart l) s = .next t ∧ (s.transmits v.path = true → s.belowCapMin (s.captureX v.path) = false →
    Counted s t (Reg.DPD_CAP_CNT v.path) 1 ∧ t.rd (Reg.DPD_CAP_SKIP_CNT v.path) = s.rd (Reg.DPD_CAP_SKIP_CNT v.path) ∧
    t.dpd = { s.dpd with visits := s.dpd.visits.set l (some { v with symUsed := true, capturing := true, drop := false, x := s.captureX v.path }) }) ∧
    (s.transmits v.path = false ∨ s.belowCapMin (s.captureX v.path) = true → Counted s t (Reg.DPD_CAP_SKIP_CNT v.path) 1 ∧
    t.rd (Reg.DPD_CAP_CNT v.path) = s.rd (Reg.DPD_CAP_CNT v.path) ∧
    t.dpd = { s.dpd with visits := s.dpd.visits.set l (some { v with symUsed := true }) }) ∧
    Frame s t [.dpd] (fun a => a = Reg.DPD_CAP_CNT v.path ∨ a = Reg.DPD_CAP_SKIP_CNT v.path)) ∧
  (∀ (l : Fin 8), s.dpd.visits[l] = none ∨ s.air.onAir = none → exec (.dpdCaptureStart l) s = .next s) ∧
  (∀ (l : Fin 8) (o : List Adc) (v : Visit), s.dpd.visits[l] = some v → v.capturing = true → v.drop = false →
    16 < o.countP clips → ∃ t, exec (.dpdCaptureEnd l o) s = .next t ∧ Counted s t (Reg.DPD_CAP_DROP_CNT v.path) 1 ∧
    t.dpd = { s.dpd with visits := s.dpd.visits.set l (some { v with capturing := false, x := [] }) } ∧
    Frame s t [.dpd] (fun a => a = Reg.DPD_CAP_DROP_CNT v.path)) ∧
  (∀ (l : Fin 8) (o : List Adc) (v : Visit), s.dpd.visits[l] = some v → v.capturing = true → v.drop = false →
    o.countP clips ≤ 16 → ∃ t, exec (.dpdCaptureEnd l o) s = .next t ∧
    t.dpd.visits[l] = some { v with capturing := false, x := [], lastCap := s.now, verify := none } ∧
    t.fld (Reg.DPD_BANK_QUAL v.path v.bank) 31 24 = quarterDb (alignCapture s.freeIdx v.x (o.map adcVal)).nmse ∧
    t.fld (Reg.DPD_BANK_QUAL v.path v.bank) 23 16 = quarterDb ((if (alignCapture s.freeIdx v.x (o.map adcVal)).sound then s.aclr (alignCapture s.freeIdx v.x (o.map adcVal)).oa else none).getD (openRatio s.freeIdx 1)) ∧
    (s.adapts v.path = false → v.verify = none → t.dpd.paths[v.path].updates = s.dpd.paths[v.path].updates) ∧
    (s.adapts v.path = true → s.bankState v.path v.bank = 0 → v.verify = none → t.bankState v.path v.bank = 1 ∧
    t.dpd.paths[v.path].updates = s.dpd.paths[v.path].updates ++ [⟨v.bank, ⟨(alignCapture s.freeIdx v.x (o.map adcVal)).nmse,
    v.id⟩, v.x, (alignCapture s.freeIdx v.x (o.map adcVal)).e⟩]) ∧ (s.bankState v.path v.bank = 3 → v.verify = none →
    t.bankState v.path v.bank = 3 ∧ t.dpd.paths = s.dpd.paths) ∧ Frame s t [.dpd, .rcd,
    .freeIdx] (fun a => eventRegs 0x0D02 a ∨ a = Reg.DPD_BANK_QUAL v.path v.bank ∨ a = Reg.DPD_REVERT_CNT v.path)) ∧
  (∀ (l : Fin 8) (o : List Adc) (v : Visit), s.dpd.visits[l] = some v → v.capturing = true → v.drop = true → ∃ t,
    exec (.dpdCaptureEnd l o) s = .next t ∧
    t.dpd = { s.dpd with visits := s.dpd.visits.set l (some { v with capturing := false, drop := false, x := [] }) } ∧
    Frame s t [.dpd] noRegs) ∧
  (∀ (l : Fin 8) (o : List Adc), (s.dpd.visits[l].all fun v => !v.capturing) = true → exec (.dpdCaptureEnd l o) s = .next s) ∧
  (∀ (p : Fin 64) (b : Fin 8) (u : Learning), s.dpd.paths[p].updates.find? (fun u => u.bank = b.val) = some u →
    s.adapts p = true → s.bankState p b ≠ 0 → s.bankState p b ≠ 3 → ∃ t, exec (.dpdUpdateReady p b) s = .next t ∧
    t.dpd.paths[p] = { s.dpd.paths[p] with updates := dropUpdate b s.dpd.paths[p].updates, shadow := some (b.val, s.learned p b u), shadowDue := true, shadowSrc := some u.src } ∧
    (∀ k : Fin 64, k ≠ p → t.dpd.paths[k] = s.dpd.paths[k]) ∧
    t.fld (Reg.DPD_BANK_QUAL p b) 7 0 = min 255 (s.fld (Reg.DPD_BANK_QUAL p b) 7 0 + 1) ∧ t.bankState p b = s.bankState p b ∧
    Frame s t [.dpd, .freeIdx] (fun a => arr2 64 8 Reg.DPD_BANK_QUAL a)) ∧
  (∀ (p : Fin 64) (b : Fin 8), s.adapts p = false ∨ s.bankState p b = 0 ∨ s.bankState p b = 3 → ∃ t,
    exec (.dpdUpdateReady p b) s = .next t ∧
    t.dpd.paths[p] = { s.dpd.paths[p] with updates := dropUpdate b s.dpd.paths[p].updates } ∧ (∀ k : Fin 64, k ≠ p →
    t.dpd.paths[k] = s.dpd.paths[k]) ∧ Frame s t [.dpd] noRegs) ∧
  (∀ (p : Fin 64) (b : Fin 8), s.dpd.paths[p].updates.find? (fun u => u.bank = b.val) = none →
    exec (.dpdUpdateReady p b) s = .next s) ∧
  (∀ (p : Fin 64) (b : Bool), s.writable = true → ∃ t, exec (.dpdFreeze p b) s = .next t ∧ t.bit (Reg.DPD_CTRL p) 31 = b ∧
    (∀ k : Fin 31, t.bit (Reg.DPD_CTRL p) k = s.bit (Reg.DPD_CTRL p) k) ∧ Frame s t [] (fun a => a = Reg.DPD_CTRL p)) ∧
  (∀ (p : Fin 64) (b : Bool), s.writable = false → exec (.dpdFreeze p b) s = .next s) ∧
  (∀ (p : Fin 64), s.writable = true → ∃ t, exec (.dpdUnfreeze p) s = .next t ∧ t.bit (Reg.DPD_CTRL p) 24 = true ∧
    (∀ b : Fin 8, t.bankState p b = if s.bankState p b = 3 then 1 else s.bankState p b) ∧ (∀ b : Fin 8,
    t.dpd.paths[p].banks[b] = if s.bankState p b = 3 then { s.dpd.paths[p].banks[b] with flat := 0, reverts := 0 } else s.dpd.paths[p].banks[b]) ∧
    (∀ k : Fin 64, k ≠ p → t.dpd.paths[k] = s.dpd.paths[k]) ∧ Frame s t [.dpd] (fun a => a = Reg.DPD_CTRL p ∨
    arr 8 (Reg.DPD_BANK_QUAL p) a)) ∧
  (∀ (p : Fin 64), s.writable = false → exec (.dpdUnfreeze p) s = .next s) ∧
  (∀ (p : Fin 64) (mask : BitVec 8), s.writable = true → s.mode = .ready → ∃ t, exec (.dpdResetBank p mask) s = .next t ∧
    t.fld (Reg.DPD_CTRL p) 15 8 = (s.fld (Reg.DPD_CTRL p) 15 8 ||| mask.toNat) ∧ (∀ b : Fin 8, bitOf mask.toNat b = true →
    t.bankState p b = 0 ∧ t.fld (Reg.DPD_BANK_QUAL p b) 7 0 = 0 ∧ t.dpd.paths[p].banks[b] = {}) ∧ (∀ b : Fin 8,
    bitOf mask.toNat b = true → (s.dpd.seeds.any fun (c, m, _) => c = b.val && bitOf m p) = false → ∀ (k : Fin 8) (i : Fin 65),
    t.rd (Reg.DPD_LUT p b k i) = if k = 0 then 0x40000000 else 0) ∧ (∀ b : Fin 8, bitOf mask.toNat b = false →
    t.rd (Reg.DPD_BANK_QUAL p b) = s.rd (Reg.DPD_BANK_QUAL p b) ∧ t.dpd.paths[p].banks[b] = s.dpd.paths[p].banks[b]) ∧
    Frame s t [.dpd] (fun a => a = Reg.DPD_CTRL p ∨ arr 8 (Reg.DPD_BANK_QUAL p) a ∨
    arr3 8 8 65 (fun x y z => Reg.DPD_LUT p x y z) a)) ∧
  (∀ (p : Fin 64) (mask : BitVec 8), s.writable = true → s.mode ≠ .ready → mask ≠ 0 → ∃ t,
    exec (.dpdResetBank p mask) s = .next t ∧ Counted s t Reg.DPD_REFUSE_CNT 1 ∧
    t.fld (Reg.DPD_CTRL p) 15 8 = (s.fld (Reg.DPD_CTRL p) 15 8 ||| mask.toNat) ∧
    Frame s t [] (fun a => a = Reg.DPD_REFUSE_CNT ∨ a = Reg.DPD_CTRL p)) ∧
  (∀ (p : Fin 64) (mask : BitVec 8), s.writable = false → exec (.dpdResetBank p mask) s = .next s)

/-- GUARD_TRIP_FORWARD in the on period with a threshold in force, whose filtered envelope exceeds the detector level and did
not at the last comparison with it, mutes the path and closes its TX gate (R302, R305); GUARD_TRIP_REFLECTED likewise, while a
path of the quad is in its on period, on all four paths, and counts one trip for the quad (R306, R309); GUARD_TRIP_OFF_PERIOD
likewise clears the gate bias and records the trip (R308, R309). Without such an excess only the detector's last comparison is
kept. A trip is recorded once in a run or off period with kind and event (R309). The third within 1 s retires the side (R310),
and more than 8 distinct paths within 1 s enter SAFE (R311). GUARD_TEST makes a test trip in READY and is refused and counted
elsewhere (R314). TRIP_WINDOW_EXPIRE drops trips older than 1 s from the window (R311). Each with its frame. -/
def Obligations.GuardTrips : Prop := ∀ s : State, s.Canon →
  (∀ (p : Fin 64) (env : Vector Int 3) (lv : Int), s.mode ≠ .shelf → s.guardIsOn p = true → s.fwdLevel p true = some lv →
    lv < s.filtered env → s.dpd.paths[p].above ≠ some lv → ∃ t, exec (.guardTripForward p env) s = .next t ∧ (t.mode = s.mode →
    t.bit (Reg.DPD_TRIP_STAT p) 31 = true ∧ t.paths[p].txGate = false ∧ t.dpd.paths[p].recorded = true) ∧
    (s.dpd.paths[p].recorded = false → t.fld (Reg.DPD_TRIP_STAT p) 30 28 = 1 ∧ Counted s t (Reg.DPD_TRIP_CNT p) 1 ∧
    Raised s t 0x0D01 [(1, p), (1, 1), (5, s.airStamp)]) ∧ (s.dpd.paths[p].recorded = false →
    2 ≤ (s.dpd.paths[p].trips.filter fun u => s.now - u ≤ ticksPerS).length → t.txRetired p = true) ∧
    (s.dpd.paths[p].recorded = false → s.kpr.haltedAt = none → t.mode = if 8 < distinctPaths ((s.now,
    p.val) :: s.tripWindow) then .safe else s.mode) ∧ (s.dpd.paths[p].recorded = true →
    t.rd (Reg.DPD_TRIP_CNT p) = s.rd (Reg.DPD_TRIP_CNT p) ∧ t.mode = s.mode ∧ t.rcd = s.rcd) ∧ Frame s t [.mode, .paths, .dpd,
    .seq, .bias, .hka, .kpr, .rcd, .tim, .freeIdx] (fun a => a ∈ [Reg.DPD_TRIP_WIN, Reg.HKA_ABORT_CNT, Reg.HKA_ONESHOT,
    Reg.HKA_URGENT_DROP_CNT, Reg.KPR_LIVE_AIR, Reg.KPR_SAFE_CAUSE, Reg.KPR_SAFE_CNT, Reg.SEQ_CAL_FAIL_CNT, Reg.SEQ_CAL_STAT,
    Reg.SEQ_LEAN, Reg.SYN_ALIGN, Reg.TIM_ALIGN_REFUSE_CNT, Reg.TIM_EPOCH_CTRL, Reg.TXP_LIVE_HI, Reg.TXP_LIVE_LO,
    Reg.TXP_RETIRE_CNT] ∨ arr 80 Reg.BIA_CLEAR_CNT a ∨ arr 64 Reg.DPD_CAP_DROP_CNT a ∨ arr 64 Reg.DPD_TRIP_CNT a ∨
    arr 64 Reg.DPD_TRIP_STAT a ∨ arr 16 Reg.HKA_QUAD a ∨ arr 18 Reg.KPR_LT a ∨ arr 9 Reg.RXP_OBS_ROUTE a ∨
    arr 16 Reg.SEQ_DEFER_CNT a ∨ arr 64 Reg.TXP_ATTEN a ∨ arr 64 Reg.TXP_RETIRE a ∨ arr 64 Reg.TXP_SAT_CNT a ∨
    eventRegs 0x0004 a ∨ eventRegs 0x0104 a ∨ eventRegs 0x0702 a ∨ eventRegs 0x0901 a ∨ eventRegs 0x0D01 a)) ∧
  (∀ (p : Fin 64) (env : Vector Int 3) (lv : Int), s.mode ≠ .shelf → s.guardIsOn p = true → s.fwdLevel p true = some lv →
    lv < s.filtered env → s.dpd.paths[p].above ≠ some lv → s.dpd.paths[p].recorded = false → 8 < distinctPaths ((s.now,
    p.val) :: s.tripWindow) → s.kpr.haltedAt = none → ∃ t, exec (.guardTripForward p env) s = .next t ∧ t.mode = .safe ∧
    Frame s t [.mode, .paths, .dpd, .seq, .bias, .hka, .kpr, .rcd, .tim, .freeIdx] (fun a => a ∈ [Reg.DPD_TRIP_WIN,
    Reg.HKA_ABORT_CNT, Reg.HKA_ONESHOT, Reg.HKA_URGENT_DROP_CNT, Reg.KPR_LIVE_AIR, Reg.KPR_SAFE_CAUSE, Reg.KPR_SAFE_CNT,
    Reg.SEQ_CAL_FAIL_CNT, Reg.SEQ_CAL_STAT, Reg.SEQ_LEAN, Reg.SYN_ALIGN, Reg.TIM_ALIGN_REFUSE_CNT, Reg.TIM_EPOCH_CTRL,
    Reg.TXP_LIVE_HI, Reg.TXP_LIVE_LO, Reg.TXP_RETIRE_CNT] ∨ arr 80 Reg.BIA_CLEAR_CNT a ∨ arr 64 Reg.DPD_CAP_DROP_CNT a ∨
    arr 64 Reg.DPD_TRIP_CNT a ∨ arr 64 Reg.DPD_TRIP_STAT a ∨ arr 16 Reg.HKA_QUAD a ∨ arr 18 Reg.KPR_LT a ∨
    arr 9 Reg.RXP_OBS_ROUTE a ∨ arr 16 Reg.SEQ_DEFER_CNT a ∨ arr 64 Reg.TXP_ATTEN a ∨ arr 64 Reg.TXP_RETIRE a ∨
    arr 64 Reg.TXP_SAT_CNT a ∨ eventRegs 0x0004 a ∨ eventRegs 0x0104 a ∨ eventRegs 0x0702 a ∨ eventRegs 0x0901 a ∨
    eventRegs 0x0D01 a)) ∧
  (∀ (p : Fin 64) (env : Vector Int 3) (lv : Int), s.mode ≠ .shelf → s.guardIsOn p = true → s.fwdLevel p true = some lv →
    s.filtered env ≤ lv ∨ s.dpd.paths[p].above = some lv → ∃ t, exec (.guardTripForward p env) s = .next t ∧
    t.dpd.paths[p] = { s.dpd.paths[p] with above := if lv < s.filtered env then some lv else none } ∧ (∀ k : Fin 64, k ≠ p →
    t.dpd.paths[k] = s.dpd.paths[k]) ∧ Frame s t [.dpd] noRegs) ∧
  (∀ (p : Fin 64) (env : Vector Int 3), s.mode = .shelf ∨ s.guardIsOn p = false ∨ s.fwdLevel p true = none →
    exec (.guardTripForward p env) s = .next s) ∧
  (∀ (q : Fin 16) (env : Vector Int 3) (lv : Int), s.mode ≠ .shelf → s.reflLevel q = some lv → (∃ p ∈ pathsOf q,
    s.guardIsOn p = true) → lv < s.filtered env → s.dpd.reflAbove[q] ≠ some lv → ∃ t,
    exec (.guardTripReflected q env) s = .next t ∧ (t.mode = s.mode → ∀ p ∈ pathsOf q, t.bit (Reg.DPD_TRIP_STAT p) 31 = true ∧
    t.paths[p].txGate = false ∧ t.dpd.paths[p].recorded = true) ∧ Counted s t (Reg.DPD_REFL_TRIP_CNT q) 1 ∧ (∀ p : Fin 64,
    t.txRetired p = false ∨ s.txRetired p = true ∨ quadOf p = q) ∧ Frame s t [.mode, .paths, .dpd, .seq, .bias, .hka, .kpr,
    .rcd, .tim, .freeIdx] (fun a => a ∈ [Reg.DPD_TRIP_WIN, Reg.HKA_ABORT_CNT, Reg.HKA_ONESHOT, Reg.HKA_URGENT_DROP_CNT,
    Reg.KPR_LIVE_AIR, Reg.KPR_SAFE_CAUSE, Reg.KPR_SAFE_CNT, Reg.SEQ_CAL_FAIL_CNT, Reg.SEQ_CAL_STAT, Reg.SEQ_LEAN,
    Reg.SYN_ALIGN, Reg.TIM_ALIGN_REFUSE_CNT, Reg.TIM_EPOCH_CTRL, Reg.TXP_LIVE_HI, Reg.TXP_LIVE_LO, Reg.TXP_RETIRE_CNT] ∨
    arr 80 Reg.BIA_CLEAR_CNT a ∨ arr 64 Reg.DPD_CAP_DROP_CNT a ∨ arr 16 Reg.DPD_REFL_TRIP_CNT a ∨ arr 64 Reg.DPD_TRIP_CNT a ∨
    arr 64 Reg.DPD_TRIP_STAT a ∨ arr 16 Reg.HKA_QUAD a ∨ arr 18 Reg.KPR_LT a ∨ arr 9 Reg.RXP_OBS_ROUTE a ∨
    arr 16 Reg.SEQ_DEFER_CNT a ∨ arr 64 Reg.TXP_ATTEN a ∨ arr 64 Reg.TXP_RETIRE a ∨ arr 64 Reg.TXP_SAT_CNT a ∨
    eventRegs 0x0004 a ∨ eventRegs 0x0104 a ∨ eventRegs 0x0702 a ∨ eventRegs 0x0901 a ∨ eventRegs 0x0D01 a)) ∧
  (∀ (q : Fin 16) (env : Vector Int 3) (lv : Int), s.mode ≠ .shelf → s.reflLevel q = some lv → (∃ p ∈ pathsOf q,
    s.guardIsOn p = true) → s.filtered env ≤ lv ∨ s.dpd.reflAbove[q] = some lv → ∃ t,
    exec (.guardTripReflected q env) s = .next t ∧
    t.dpd = { s.dpd with reflAbove := s.dpd.reflAbove.set q (if lv < s.filtered env then some lv else none) } ∧
    Frame s t [.dpd] noRegs) ∧
  (∀ (q : Fin 16) (env : Vector Int 3), s.mode = .shelf ∨ s.reflLevel q = none ∨ (∀ p ∈ pathsOf q, s.guardIsOn p = false) →
    exec (.guardTripReflected q env) s = .next s) ∧
  (∀ (p : Fin 64) (env : Vector Int 3) (lv : Int), s.mode ≠ .shelf → s.guardIsOn p = false → s.fwdLevel p false = some lv →
    lv < s.filtered env → s.dpd.paths[p].above ≠ some lv → ∃ t, exec (.guardTripOffPeriod p env) s = .next t ∧
    (t.mode = s.mode → t.dpd.paths[p].biasOff = true ∧ t.dpd.paths[p].recorded = true) ∧ (s.dpd.paths[p].recorded = false →
    t.fld (Reg.DPD_TRIP_STAT p) 30 28 = 3 ∧ Counted s t (Reg.DPD_TRIP_CNT p) 1 ∧ Counted s t (Reg.DPD_OFF_TRIP_CNT p) 1) ∧
    (s.dpd.paths[p].recorded = true → t.rd (Reg.DPD_TRIP_CNT p) = s.rd (Reg.DPD_TRIP_CNT p) ∧
    t.rd (Reg.DPD_OFF_TRIP_CNT p) = s.rd (Reg.DPD_OFF_TRIP_CNT p) ∧ t.rcd = s.rcd) ∧ Frame s t [.mode, .paths, .dpd, .seq,
    .bias, .hka, .kpr, .rcd, .tim, .freeIdx] (fun a => a ∈ [Reg.DPD_TRIP_WIN, Reg.HKA_ABORT_CNT, Reg.HKA_ONESHOT,
    Reg.HKA_URGENT_DROP_CNT, Reg.KPR_LIVE_AIR, Reg.KPR_SAFE_CAUSE, Reg.KPR_SAFE_CNT, Reg.SEQ_CAL_FAIL_CNT, Reg.SEQ_CAL_STAT,
    Reg.SEQ_LEAN, Reg.SYN_ALIGN, Reg.TIM_ALIGN_REFUSE_CNT, Reg.TIM_EPOCH_CTRL, Reg.TXP_LIVE_HI, Reg.TXP_LIVE_LO,
    Reg.TXP_RETIRE_CNT] ∨ arr 80 Reg.BIA_CLEAR_CNT a ∨ arr 64 Reg.DPD_CAP_DROP_CNT a ∨ arr 64 Reg.DPD_OFF_TRIP_CNT a ∨
    arr 64 Reg.DPD_TRIP_CNT a ∨ arr 64 Reg.DPD_TRIP_STAT a ∨ arr 16 Reg.HKA_QUAD a ∨ arr 18 Reg.KPR_LT a ∨
    arr 9 Reg.RXP_OBS_ROUTE a ∨ arr 16 Reg.SEQ_DEFER_CNT a ∨ arr 64 Reg.TXP_ATTEN a ∨ arr 64 Reg.TXP_RETIRE a ∨
    arr 64 Reg.TXP_SAT_CNT a ∨ eventRegs 0x0004 a ∨ eventRegs 0x0104 a ∨ eventRegs 0x0702 a ∨ eventRegs 0x0901 a ∨
    eventRegs 0x0D01 a)) ∧
  (∀ (p : Fin 64) (env : Vector Int 3) (lv : Int), s.mode ≠ .shelf → s.guardIsOn p = false → s.fwdLevel p false = some lv →
    s.filtered env ≤ lv ∨ s.dpd.paths[p].above = some lv → ∃ t, exec (.guardTripOffPeriod p env) s = .next t ∧
    t.dpd.paths[p] = { s.dpd.paths[p] with above := if lv < s.filtered env then some lv else none } ∧ (∀ k : Fin 64, k ≠ p →
    t.dpd.paths[k] = s.dpd.paths[k]) ∧ Frame s t [.dpd] noRegs) ∧
  (∀ (p : Fin 64) (env : Vector Int 3), s.mode = .shelf ∨ s.guardIsOn p = true ∨ s.fwdLevel p false = none →
    exec (.guardTripOffPeriod p env) s = .next s) ∧
  (∃ t, exec .tripWindowExpire s = .next t ∧ t.dpd.window = s.tripWindow ∧
    t.fld Reg.DPD_TRIP_WIN 6 0 = distinctPaths s.tripWindow % 128 ∧ Frame s t [.dpd] (fun a => a = Reg.DPD_TRIP_WIN)) ∧
  (∀ (w : Word), s.writable = true → bitOf w.toNat 31 = true → s.mode = .ready → ∃ t, exec (.guardTest w) s = .next t ∧
    Counted s t Reg.DPD_TEST_TRIP_CNT 1 ∧ (bitOf w.toNat 8 = false → ∀ p : Fin 64, p.val = fldOf w 5 0 →
    t.dpd.paths[p].recorded = true ∧ (s.guardIsOn p = false → t.dpd.paths[p].biasOff = true) ∧ (s.guardIsOn p = true →
    t.bit (Reg.DPD_TRIP_STAT p) 31 = true) ∧ (s.dpd.paths[p].recorded = false → t.fld (Reg.DPD_TRIP_STAT p) 30 28 = 4)) ∧
    (∀ p : Fin 64, t.rd (Reg.DPD_TRIP_CNT p) = s.rd (Reg.DPD_TRIP_CNT p)) ∧ Frame s t [.paths, .dpd, .bias,
    .rcd] (fun a => a = Reg.DPD_TEST_TRIP_CNT ∨ arr 80 Reg.BIA_CLEAR_CNT a ∨ arr 64 Reg.DPD_CAP_DROP_CNT a ∨
    arr 64 Reg.DPD_TRIP_STAT a ∨ eventRegs 0x0D01 a)) ∧
  (∀ (w : Word), s.writable = true → bitOf w.toNat 31 = true → s.mode ≠ .ready → ∃ t, exec (.guardTest w) s = .next t ∧
    Counted s t Reg.DPD_REFUSE_CNT 1 ∧ Frame s t [] (fun a => a = Reg.DPD_REFUSE_CNT)) ∧
  (∀ (w : Word), s.writable = false ∨ bitOf w.toNat 31 = false → exec (.guardTest w) s = .next s)

/-- LAST_OPEN stores the fields; its go is refused and counted when a management write is open or the last is busy or does not
exist; otherwise the last is busy, and the bank without the committed version is granted or held back while a fetch from it is
outstanding (R186, R187, R189). LAST_GRANT makes the first grant whose bank is free of fetches (R187). LAST_COMMIT makes the
written bank current, counts the version on and records columns and bandwidth (R188). LAST_ABORT ends the write without a commit
(R189). CACHE_PLACEMENT places the column that has waited longest (R193). INLINE_INTERVAL_START clears both sums (R198). Each
with its frame. The bank of a last that holds no committed version is open in the manual. -/
def Obligations.ManagementWritesOfLasts : Prop := ∀ s : State, s.Canon →
  (∀ (w : Word), s.writable = true → bitOf w.toNat 31 = false → ∃ t, exec (.lastOpen w) s = .next t ∧
    t.fld Reg.BMX_LAST_OPEN 26 24 = fldOf w 26 24 ∧ t.fld Reg.BMX_LAST_OPEN 20 16 = fldOf w 20 16 ∧
    t.fld Reg.BMX_LAST_OPEN 10 0 = fldOf w 10 0 ∧ t.fld Reg.BMX_LAST_OPEN 31 28 = s.fld Reg.BMX_LAST_OPEN 31 28 ∧
    Frame s t [] (fun a => a = Reg.BMX_LAST_OPEN)) ∧
  (∀ (w : Word), s.writable = true → bitOf w.toNat 31 = true → s.mgmtGrant.isSome = true ∨ s.nLast ≤ fldOf w 10 0 ∨
    (s.dirOf (fldOf w 10 0)).busy = true → ∃ t, exec (.lastOpen w) s = .next t ∧ Counted s t Reg.BMX_WRITE_REFUSE_CNT 1 ∧
    t.bit Reg.BMX_LAST_OPEN 28 = true ∧ t.fld Reg.BMX_LAST_OPEN 10 0 = fldOf w 10 0 ∧
    Frame s t [] (fun a => a ∈ [Reg.BMX_LAST_OPEN, Reg.BMX_WRITE_REFUSE_CNT])) ∧
  (∀ (w : Word), s.writable = true → bitOf w.toNat 31 = true → s.mgmtGrant = none → fldOf w 10 0 < s.nLast →
    (s.dirOf (fldOf w 10 0)).busy = false → ∃ t, exec (.lastOpen w) s = .next t ∧ (t.dirOf (fldOf w 10 0)).busy = true ∧
    (∃ b < 2, ((s.dirOf (fldOf w 10 0)).valid = true → b = (1 - (s.dirOf (fldOf w 10 0)).bank) % 2) ∧
    t.bmx.grants = s.bmx.grants ++ [{ last := fldOf w 10 0, mgmt := true, nCol := fldOf w 20 16, bw := fldOf w 26 24, bank := if s.fetching (fldOf w 10 0) b = true then none else some b }] ∧
    (s.fetching (fldOf w 10 0) b = true → t.bit Reg.BMX_LAST_OPEN 31 = true ∧ t.fld Reg.BMX_LAST_OPEN 29 28 = 0) ∧
    (s.fetching (fldOf w 10 0) b = false → t.bit Reg.BMX_LAST_OPEN 31 = false ∧ t.fld Reg.BMX_LAST_OPEN 29 28 = 2 ∧
    t.rd Reg.BMX_LAST_SLOT = BitVec.ofNat 32 (s.slotAddr (fldOf w 10 0) b))) ∧ (∀ k : Fin 2048, k.val ≠ fldOf w 10 0 →
    t.dirOf k = s.dirOf k) ∧ t.bmx.cache = s.bmx.cache ∧ t.bmx.held = s.bmx.held ∧ Frame s t [.bmx,
    .freeIdx] (fun a => a ∈ [Reg.BMX_LAST_OPEN, Reg.BMX_LAST_SLOT])) ∧
  (∀ (w : Word), s.writable = false → exec (.lastOpen w) s = .next s) ∧
  (∀ (g : Grant), s.bmx.grants.find? (fun g => g.bank.isNone && !s.fetching g.last (1 - (s.dirOf g.last).bank)) = some g → ∃ t,
    exec .lastGrant s = .next t ∧
    t.bmx = { s.bmx with grants := s.bmx.grants.map fun h => if h = g then { h with bank := some (1 - (s.dirOf g.last).bank) } else h } ∧
    (g.mgmt = true → t.bit Reg.BMX_LAST_OPEN 31 = false ∧ t.fld Reg.BMX_LAST_OPEN 29 28 = 2 ∧
    t.rd Reg.BMX_LAST_SLOT = BitVec.ofNat 32 (s.slotAddr g.last (1 - (s.dirOf g.last).bank))) ∧ (g.mgmt = false →
    t.regs = s.regs) ∧ Frame s t [.bmx] (fun a => a ∈ [Reg.BMX_LAST_OPEN, Reg.BMX_LAST_SLOT])) ∧
  (s.bmx.grants.find? (fun g => g.bank.isNone && !s.fetching g.last (1 - (s.dirOf g.last).bank)) = none →
    exec .lastGrant s = .next s) ∧
  (∀ (g : Grant) (b : Nat), s.writable = true → s.mgmtGrant = some g → g.bank = some b → ∃ t, exec .lastCommit s = .next t ∧
    t.dirOf g.last = { valid := true, busy := false, mgmt := true, bank := b, bw := g.bw, nCol := g.nCol, version := ((s.dirOf g.last).version + 1) % 65536 } ∧
    (t.bmx.grants = s.bmx.grants.filter fun h => h.last != g.last) ∧ t.bit Reg.BMX_LAST_OPEN 29 = false ∧ (∀ k : Fin 2048,
    k.val ≠ g.last → t.dirOf k = s.dirOf k) ∧ Frame s t [.bmx] (fun a => a = Reg.BMX_LAST_OPEN)) ∧
  (s.writable = false ∨ s.mgmtGrant = none → exec .lastCommit s = .next s) ∧
  (∀ (g : Grant), s.writable = true → s.mgmtGrant = some g → tabWf (fun _ => ({} : DirEntry)) s.bmx.dir = true → ∃ t,
    exec .lastAbort s = .next t ∧ t.dirOf g.last = { s.dirOf g.last with busy := false } ∧
    (t.bmx.grants = s.bmx.grants.filter fun h => h.last != g.last) ∧ t.bit Reg.BMX_LAST_OPEN 29 = false ∧
    t.bit Reg.BMX_LAST_OPEN 31 = false ∧ (∀ k : Fin 2048, k.val ≠ g.last → t.dirOf k = s.dirOf k) ∧
    Frame s t [.bmx] (fun a => a = Reg.BMX_LAST_OPEN)) ∧
  (s.writable = false ∨ s.mgmtGrant = none → exec .lastAbort s = .next s) ∧
  (∀ (k : ColKey) (c : Column) (rest : List (ColKey × Column)) (l : List (ColKey × Column)), s.bmx.waits = (k, c) :: rest →
    s.makeRoom = some l → ∃ t, exec .cachePlacement s = .next t ∧ t.bmx.waits = rest ∧ (s.resident k = false →
    t.bmx.cache = (k, c) :: l ∧ t.rd Reg.BMX_CACHE_STAT = BitVec.ofNat 32 (l.length + 1)) ∧ (s.resident k = true →
    t.bmx.cache = s.bmx.cache ∧ t.regs = s.regs) ∧ t.bmx.dir = s.bmx.dir ∧ Frame s t [.bmx] (fun a => a = Reg.BMX_CACHE_STAT)) ∧
  (s.bmx.waits = [] ∨ s.makeRoom = none → exec .cachePlacement s = .next s) ∧
  (∃ t, exec .inlineIntervalStart s = .next t ∧ t.rd (Reg.BMX_INLINE_USED 0) = 0 ∧ t.rd (Reg.BMX_INLINE_USED 1) = 0 ∧
    Frame s t [] (fun a => arr 2 Reg.BMX_INLINE_USED a))

/-- TETHER_LOCK takes TETHER to FRAME (R377). TRAINING_FRAME counts valid and invalid frames, sets and clears frame lock after 8
and 4 in a row, keeps what a valid frame says and acts on a preset request of the transmit lane that the frame names (R373 to
R375); in LISTEN a valid frame restarts training (R380). PHASE_TIMEOUT after 2 ms goes on with at least four lanes or fails the
attempt, which leads to BACKOFF, or from the third attempt to LISTEN with its event (R379, R380). BACKOFF_END starts the next
attempt (R371). LISTEN_BEACON sends a BEACON frame (R380). EYE_REFRESH stores the figures and in EQUALISE judges what the last
request gave, and rx_ready (R376). Each with its frame; the other port keeps its state where the chip's boot does not go on. -/
def Obligations.LinkTraining : Prop := ∀ s : State, s.Canon →
  (∀ (p : Port), s.portState p.idx = 1 → ∃ t, exec (.tetherLock p) s = .next t ∧ t.portState p.idx = 2 ∧
    (t.port p.idx).since = s.now ∧ (∀ u : Fin 2, u ≠ p.idx → t.port u = s.port u) ∧
    Frame s t [.pkt] (fun a => a = Reg.LN_TRAIN_STAT p.idx)) ∧
  (∀ (p : Port), s.portState p.idx ≠ 1 → exec (.tetherLock p) s = .next s) ∧
  (∀ (p : Port) (l : Fin 9) (half : Vector Bool 272) (inv : Bool) (bs : List Byte), s.portState p.idx = 7 →
    frameRead half.toList = (inv, some bs) → crc16 (bs.take 14) = fieldAt bs 14 2 → ∃ t,
    exec (.trainingFrame p l half) s = .next t ∧ t.portState p.idx = 1 ∧ t.fld (Reg.LN_TRAIN_STAT p.idx) 25 24 = 1 ∧
    (∀ u : Fin 2, u ≠ p.idx → t.port u = s.port u) ∧ Frame s t [.pkt] (fun a => a = Reg.LN_CTRL p.idx ∨
    arr 9 (Reg.LN_LANE_RX p.idx) a ∨ arr 9 (Reg.LN_LANE_TX p.idx) a ∨ a = Reg.LN_SLEEP_STAT p.idx ∨ a = Reg.LN_TEST_CFG p.idx ∨
    a = Reg.LN_TRAIN_STAT p.idx)) ∧
  (∀ (p : Port) (l : Fin 9) (half : Vector Bool 272), s.portState p.idx = 2 ∨ s.portState p.idx = 3 →
    ((frameRead half.toList).2.all fun bs => crc16 (bs.take 14) != fieldAt bs 14 2) = true → ∃ t,
    exec (.trainingFrame p l half) s = .next t ∧ ((t.port p.idx).lanes[l]).bad = ((s.port p.idx).lanes[l]).bad + 1 ∧
    ((t.port p.idx).lanes[l]).good = 0 ∧ t.bit (Reg.LN_LANE_RX p.idx l) 29 = (frameRead half.toList).1 ∧
    t.bit (Reg.LN_LANE_RX p.idx l) 31 = (s.bit (Reg.LN_LANE_RX p.idx l) 31 && decide (((s.port p.idx).lanes[l]).bad + 1 < 4)) ∧
    (∀ u : Fin 2, u ≠ p.idx → t.port u = s.port u) ∧ Frame s t [.pkt] (fun a => a = Reg.LN_LANE_RX p.idx l)) ∧
  (∀ (p : Port) (l : Fin 9) (half : Vector Bool 272) (inv : Bool) (bs : List Byte), s.portState p.idx = 2 →
    frameRead half.toList = (inv, some bs) → crc16 (bs.take 14) = fieldAt bs 14 2 → ∃ t,
    exec (.trainingFrame p l half) s = .next t ∧ ((t.port p.idx).lanes[l]).good = ((s.port p.idx).lanes[l]).good + 1 ∧
    ((t.port p.idx).lanes[l]).bad = 0 ∧ t.bit (Reg.LN_LANE_RX p.idx l) 29 = inv ∧
    t.bit (Reg.LN_LANE_RX p.idx l) 31 = (s.bit (Reg.LN_LANE_RX p.idx l) 31 || decide (8 ≤ ((s.port p.idx).lanes[l]).good + 1)) ∧
    (t.port p.idx).txMask = fieldAt bs 8 2 % 512 ∧ (t.portState p.idx = 2 ∨ t.portState p.idx = 3) ∧ (∀ k : Fin 9,
    k.val = bitsOf (byteAt bs 1) 7 4 → bitOf (byteAt bs 2) 1 = true → t.fld (Reg.LN_LANE_TX p.idx k) 19 16 = 0 ∧
    t.fld (Reg.LN_LANE_TX p.idx k) 13 8 = 63 ∧ t.fld (Reg.LN_LANE_TX p.idx k) 4 0 = 0) ∧ (∀ u : Fin 2, u ≠ p.idx →
    t.port u = s.port u) ∧ Frame s t [.pkt] (fun a => arr 9 (Reg.LN_LANE_TX p.idx) a ∨ a = Reg.LN_TRAIN_STAT p.idx ∨
    a = Reg.LN_LANE_RX p.idx l)) ∧
  (∀ (p : Port) (l : Fin 9) (half : Vector Bool 272) (inv : Bool) (bs : List Byte), s.portState p.idx = 3 →
    frameRead half.toList = (inv, some bs) → crc16 (bs.take 14) = fieldAt bs 14 2 → ∃ t,
    exec (.trainingFrame p l half) s = .next t ∧ (t.portState p.idx = 3 ∨ t.portState p.idx = 4 ∨ t.portState p.idx = 6 ∨
    t.portState p.idx = 7) ∧ (t.port p.idx).txMask = fieldAt bs 8 2 % 512 ∧ Frame s t [.mode, .paths, .bias, .kpr, .rcd, .tim,
    .pkt, .out] (fun a => a ∈ [Reg.KPR_BOOT_STAT, Reg.KPR_BOOT_TIME, Reg.KPR_LIVE_AIR, Reg.SYN_ALIGN, Reg.TIM_ALIGN_REFUSE_CNT,
    Reg.TIM_EPOCH_CTRL] ∨ arr 80 Reg.BIA_CLEAR_CNT a ∨ arr 16 Reg.HKA_QUAD a ∨ arr 9 Reg.RXP_OBS_ROUTE a ∨
    arr 64 Reg.TXP_ATTEN a ∨ eventRegs 0x0003 a ∨ eventRegs 0x0104 a ∨ a = Reg.LN_BLOCK p.idx ∨
    arr 9 (Reg.LN_LANE_RX p.idx) a ∨ arr 9 (Reg.LN_LANE_STUFF_CNT p.idx) a ∨ arr 9 (Reg.LN_LANE_TX p.idx) a ∨
    a = Reg.LN_LISTEN_CNT p.idx ∨ a = Reg.LN_TRAIN_FAIL_CNT p.idx ∨ a = Reg.LN_TRAIN_STAT p.idx ∨
    eventRegs (laneEvent p.idx 0) a)) ∧
  (∀ (p : Port) (l : Fin 9) (half : Vector Bool 272), s.portState p.idx ≠ 2 → s.portState p.idx ≠ 3 → s.portState p.idx ≠ 7 ∨
    ((frameRead half.toList).2.all fun bs => crc16 (bs.take 14) != fieldAt bs 14 2) = true →
    exec (.trainingFrame p l half) s = .next s) ∧
  (∀ (p : Port), usPassed (s.now - (s.port p.idx).since) 2000 = true → s.portState p.idx = 2 →
    4 ≤ maskCount (s.lockedMask p.idx) → ∃ t, exec (.phaseTimeout p) s = .next t ∧ t.portState p.idx = 3 ∧
    (t.port p.idx).since = s.now ∧ (∀ u : Fin 2, u ≠ p.idx → t.port u = s.port u) ∧
    Frame s t [.pkt] (fun a => a = Reg.LN_TRAIN_STAT p.idx)) ∧
  (∀ (p : Port), usPassed (s.now - (s.port p.idx).since) 2000 = true → s.portState p.idx = 1 ∨ s.portState p.idx = 4 ∨
    (s.portState p.idx = 2 ∧ maskCount (s.lockedMask p.idx) < 4) → ∃ t, exec (.phaseTimeout p) s = .next t ∧
    t.fld (Reg.LN_TRAIN_STAT p.idx) 23 20 = s.portState p.idx ∧ Counted s t (Reg.LN_TRAIN_FAIL_CNT p.idx) 1 ∧
    (s.fld (Reg.LN_TRAIN_STAT p.idx) 25 24 < 3 → t.portState p.idx = 6) ∧ (s.fld (Reg.LN_TRAIN_STAT p.idx) 25 24 = 3 →
    t.portState p.idx = 7 ∧ Counted s t (Reg.LN_LISTEN_CNT p.idx) 1 ∧ Raised s t (laneEvent p.idx 4) [(1,
    s.portState p.idx)]) ∧ Frame s t [.mode, .paths, .bias, .kpr, .rcd, .tim, .pkt, .out] (fun a => a ∈ [Reg.KPR_BOOT_STAT,
    Reg.KPR_BOOT_TIME, Reg.KPR_LIVE_AIR, Reg.SYN_ALIGN, Reg.TIM_ALIGN_REFUSE_CNT, Reg.TIM_EPOCH_CTRL] ∨
    arr 80 Reg.BIA_CLEAR_CNT a ∨ arr 16 Reg.HKA_QUAD a ∨ arr 9 Reg.RXP_OBS_ROUTE a ∨ arr 64 Reg.TXP_ATTEN a ∨
    eventRegs 0x0003 a ∨ eventRegs 0x0104 a ∨ arr 9 (Reg.LN_LANE_STUFF_CNT p.idx) a ∨ a = Reg.LN_LISTEN_CNT p.idx ∨
    a = Reg.LN_SLEEP_STAT p.idx ∨ a = Reg.LN_TRAIN_FAIL_CNT p.idx ∨ a = Reg.LN_TRAIN_STAT p.idx ∨
    eventRegs (laneEvent p.idx 0) a)) ∧
  (∀ (p : Port), usPassed (s.now - (s.port p.idx).since) 2000 = true → s.portState p.idx = 3 → ∃ t,
    exec (.phaseTimeout p) s = .next t ∧
    t.fld (Reg.LN_TRAIN_STAT p.idx) 8 0 = (laneMask fun l => s.laneLock p.idx l && s.fld (Reg.LN_TRAIN_CFG p.idx) 23 16 ≤ s.fld (Reg.LN_LANE_RX p.idx l) 23 16 && s.fld (Reg.LN_TRAIN_CFG p.idx) 11 0 ≤ s.fld (Reg.LN_LANE_RX p.idx l) 15 0) ∧
    (4 ≤ maskCount (laneMask fun l => s.laneLock p.idx l && s.fld (Reg.LN_TRAIN_CFG p.idx) 23 16 ≤ s.fld (Reg.LN_LANE_RX p.idx l) 23 16 && s.fld (Reg.LN_TRAIN_CFG p.idx) 11 0 ≤ s.fld (Reg.LN_LANE_RX p.idx l) 15 0) →
    4 ≤ maskCount (s.port p.idx).txMask → t.portState p.idx = 4 ∧
    t.fld (Reg.LN_TRAIN_STAT p.idx) 15 12 = widthOf (maskCount (s.port p.idx).txMask) ∧ t.rd (Reg.LN_BLOCK p.idx) = 0) ∧
    (maskCount (laneMask fun l => s.laneLock p.idx l && s.fld (Reg.LN_TRAIN_CFG p.idx) 23 16 ≤ s.fld (Reg.LN_LANE_RX p.idx l) 23 16 && s.fld (Reg.LN_TRAIN_CFG p.idx) 11 0 ≤ s.fld (Reg.LN_LANE_RX p.idx l) 15 0) < 4 ∨
    maskCount (s.port p.idx).txMask < 4 → t.fld (Reg.LN_TRAIN_STAT p.idx) 23 20 = 3 ∧
    Counted s t (Reg.LN_TRAIN_FAIL_CNT p.idx) 1) ∧ Frame s t [.mode, .paths, .bias, .kpr, .rcd, .tim, .pkt,
    .out] (fun a => a ∈ [Reg.KPR_BOOT_STAT, Reg.KPR_BOOT_TIME, Reg.KPR_LIVE_AIR, Reg.SYN_ALIGN, Reg.TIM_ALIGN_REFUSE_CNT,
    Reg.TIM_EPOCH_CTRL] ∨ arr 80 Reg.BIA_CLEAR_CNT a ∨ arr 16 Reg.HKA_QUAD a ∨ arr 9 Reg.RXP_OBS_ROUTE a ∨
    arr 64 Reg.TXP_ATTEN a ∨ eventRegs 0x0003 a ∨ eventRegs 0x0104 a ∨ a = Reg.LN_BLOCK p.idx ∨
    arr 9 (Reg.LN_LANE_RX p.idx) a ∨ arr 9 (Reg.LN_LANE_STUFF_CNT p.idx) a ∨ arr 9 (Reg.LN_LANE_TX p.idx) a ∨
    a = Reg.LN_LISTEN_CNT p.idx ∨ a = Reg.LN_SLEEP_STAT p.idx ∨ a = Reg.LN_TRAIN_FAIL_CNT p.idx ∨ a = Reg.LN_TRAIN_STAT p.idx ∨
    eventRegs (laneEvent p.idx 0) a)) ∧
  (∀ (p : Port), usPassed (s.now - (s.port p.idx).since) 2000 = false → exec (.phaseTimeout p) s = .next s) ∧
  (∀ (p : Port), s.portState p.idx = 6 → msPassed (s.now - (s.port p.idx).since) 10 = true → ∃ t,
    exec (.backoffEnd p) s = .next t ∧ t.portState p.idx = 1 ∧
    t.fld (Reg.LN_TRAIN_STAT p.idx) 25 24 = (s.fld (Reg.LN_TRAIN_STAT p.idx) 25 24 + 1) % 4 ∧ (∀ u : Fin 2, u ≠ p.idx →
    t.port u = s.port u) ∧ Frame s t [.pkt] (fun a => a = Reg.LN_CTRL p.idx ∨ arr 9 (Reg.LN_LANE_RX p.idx) a ∨
    arr 9 (Reg.LN_LANE_TX p.idx) a ∨ a = Reg.LN_SLEEP_STAT p.idx ∨ a = Reg.LN_TEST_CFG p.idx ∨ a = Reg.LN_TRAIN_STAT p.idx)) ∧
  (∀ (p : Port), s.portState p.idx ≠ 6 → exec (.backoffEnd p) s = .next s) ∧
  (∀ (p : Port), s.portState p.idx = 7 → msPassed (s.now - (s.port p.idx).beaconAt) 1 = true → ∃ t,
    exec (.listenBeacon p) s = .next t ∧ t.out = .beacon p.idx (frameHalves (s.beaconBody p.idx)) :: s.out ∧
    (t.port p.idx) = { (s.port p.idx) with beaconAt := s.now, frameSeq := ((s.port p.idx).frameSeq + 1) % 256 } ∧ (∀ u : Fin 2,
    u ≠ p.idx → t.port u = s.port u) ∧ Frame s t [.pkt, .out] noRegs) ∧
  (∀ (p : Port), s.portState p.idx ≠ 7 → exec (.listenBeacon p) s = .next s) ∧
  (∀ (p : Port) (l : Fin 9) (w : BitVec 8) (h : BitVec 16), s.portState p.idx = 3 → ∃ t,
    exec (.eyeRefresh p l w h) s = .next t ∧ t.fld (Reg.LN_LANE_RX p.idx l) 23 16 = w.toNat ∧
    t.fld (Reg.LN_LANE_RX p.idx l) 15 0 = h.toNat ∧
    ((t.port p.idx).lanes[l]).steady = (if ((s.port p.idx).lanes[l]).asked = none then ((s.port p.idx).lanes[l]).steady else if w.toNat ≤ (((s.port p.idx).lanes[l]).asked.getD (0,
    0)).1 + 1 ∧ h.toNat ≤ (((s.port p.idx).lanes[l]).asked.getD (0,
    0)).2 + 2 then ((s.port p.idx).lanes[l]).steady + 1 else 0) ∧ ((t.port p.idx).lanes[l]).asked = none ∧
    ((t.port p.idx).lanes[l]).ready = (((s.port p.idx).lanes[l]).ready || decide (s.fld (Reg.LN_TRAIN_CFG p.idx) 23 16 ≤ w.toNat ∧
    s.fld (Reg.LN_TRAIN_CFG p.idx) 11 0 ≤ h.toNat ∧ 2 ≤ ((t.port p.idx).lanes[l]).steady)) ∧ Frame s t [.mode, .paths, .bias,
    .kpr, .rcd, .tim, .pkt, .out] (fun a => a ∈ [Reg.KPR_BOOT_STAT, Reg.KPR_BOOT_TIME, Reg.KPR_LIVE_AIR, Reg.SYN_ALIGN,
    Reg.TIM_ALIGN_REFUSE_CNT, Reg.TIM_EPOCH_CTRL] ∨ arr 80 Reg.BIA_CLEAR_CNT a ∨ arr 16 Reg.HKA_QUAD a ∨
    arr 9 Reg.RXP_OBS_ROUTE a ∨ arr 64 Reg.TXP_ATTEN a ∨ eventRegs 0x0003 a ∨ eventRegs 0x0104 a ∨ a = Reg.LN_BLOCK p.idx ∨
    arr 9 (Reg.LN_LANE_RX p.idx) a ∨ arr 9 (Reg.LN_LANE_STUFF_CNT p.idx) a ∨ arr 9 (Reg.LN_LANE_TX p.idx) a ∨
    a = Reg.LN_LISTEN_CNT p.idx ∨ a = Reg.LN_SLEEP_STAT p.idx ∨ a = Reg.LN_TRAIN_FAIL_CNT p.idx ∨ a = Reg.LN_TRAIN_STAT p.idx ∨
    eventRegs (laneEvent p.idx 0) a)) ∧
  (∀ (p : Port) (l : Fin 9) (w : BitVec 8) (h : BitVec 16), s.portState p.idx ≠ 3 → ∃ t,
    exec (.eyeRefresh p l w h) s = .next t ∧ t.fld (Reg.LN_LANE_RX p.idx l) 23 16 = w.toNat ∧
    t.fld (Reg.LN_LANE_RX p.idx l) 15 0 = h.toNat ∧ Frame s t [] (fun a => a = Reg.LN_LANE_RX p.idx l))

/-- MARKER_SEND in ALIGN or UP with the egress direction awake moves to the next block and sends on every lane in use the coded
words of the block, the SKIP words that level the lanes, and a MARKER, with the stuff bits counted; the MARKERs of a switch
block wait for the switch (R358 to R361, R364, R365, R385). MARKER_RECEIVE in ALIGN or UP counts the errors of the lane's words;
a valid MARKER counts marks in consecutive blocks, in ALIGN before the alignment gives a lane that has not failed its role, ends
the sleep of the direction, and as the last one of its block aligns the lanes, of which one that is more than 16 words early has
overflowed its deskew buffer; an invalid one restarts the count (R361 to R363, R366, R377). BCH_READY with a valid copy leads
from ALIGN to UP once the receive condition holds, and a set without one is counted (R377, R381, R383). TETHER_LOSS of a
direction that is awake, BCH_RETRAIN and RETRAIN_WRITE take an UP port down to TETHER: counted, with its event, credits cleared
and queues 2 to 4 shed (R387, R410); the tether loss of one that sleeps is NAP. Each with its frame. -/
def Obligations.MarkersReadyAndPortDown : Prop := ∀ s : State, s.Canon →
  (∀ (p : Port) (gaps : List Nat), s.portState p.idx = 4 ∨ s.portState p.idx = 5 → s.txAwake p.idx = true →
    s.switchDue p.idx = false → (s.wr (Reg.LN_BLOCK p.idx) (s.rd (Reg.LN_BLOCK p.idx) + 1)).switchDue p.idx = false → ∃ t,
    exec (.markerSend p gaps) s = .next t ∧ t.rd (Reg.LN_BLOCK p.idx) = s.rd (Reg.LN_BLOCK p.idx) + 1 ∧
    (s.portState p.idx = 5 → (t.port p.idx).sets = (weave 4096 gaps (s.port p.idx).sets).2) ∧ (∀ l ∈ s.txLanes p.idx,
    ∀ o m : LineOut,
    o = (s.codeLane p.idx l (weave 4096 gaps (s.port p.idx).sets).1).words (List.replicate (1 + ((s.txLanes p.idx).foldl (fun m i => max m (s.codeLane p.idx i (weave 4096 gaps (s.port p.idx).sets).1).bits.length) 0 - (s.codeLane p.idx l (weave 4096 gaps (s.port p.idx).sets).1).bits.length) / 66) skipWord) →
    m = ({ coder := o.coder } : LineOut).word (controlWord ((s.wr (Reg.LN_BLOCK p.idx) (s.rd (Reg.LN_BLOCK p.idx) + 1)).markerBytes p.idx l)) true →
    Counted s t (Reg.LN_LANE_STUFF_CNT p.idx l) (o.stuffed + m.stuffed) ∧
    Output.line p.idx l (flipBits ((s.port p.idx).lanes[l]).flips o.bits.reverse) ∈ t.out ∧
    Output.line p.idx l (flipBits (flipsAfter o.bits.length ((s.port p.idx).lanes[l]).flips) m.bits.reverse) ∈ t.out ∧
    Output.marker p.idx l (1 + ((s.txLanes p.idx).foldl (fun m i => max m (s.codeLane p.idx i (weave 4096 gaps (s.port p.idx).sets).1).bits.length) 0 - (s.codeLane p.idx l (weave 4096 gaps (s.port p.idx).sets).1).bits.length) / 66) ((s.wr (Reg.LN_BLOCK p.idx) (s.rd (Reg.LN_BLOCK p.idx) + 1)).markerBytes p.idx l) ∈ t.out) ∧
    (∀ u : Fin 2, u ≠ p.idx → t.port u = s.port u) ∧ Frame s t [.rcd, .pkt, .freeIdx, .out] (fun a => a = Reg.LN_BLOCK p.idx ∨
    a = Reg.LN_DEGRADE_CNT p.idx ∨ arr 9 (Reg.LN_LANE_STUFF_CNT p.idx) a ∨ arr 9 (Reg.LN_LANE_TX p.idx) a ∨
    a = Reg.LN_SLEEP_STAT p.idx ∨ a = Reg.LN_TEST_CFG p.idx ∨ a = Reg.LN_TEST_STAT p.idx ∨ a = Reg.LN_TRAIN_STAT p.idx ∨
    eventRegs (laneEvent p.idx 0) a)) ∧
  (∀ (p : Port) (gaps : List Nat), s.portState p.idx = 4 ∨ s.portState p.idx = 5 → s.txAwake p.idx = true →
    s.switchDue p.idx = false → (s.wr (Reg.LN_BLOCK p.idx) (s.rd (Reg.LN_BLOCK p.idx) + 1)).switchDue p.idx = true → ∃ t,
    exec (.markerSend p gaps) s = .next t ∧ t.rd (Reg.LN_BLOCK p.idx) = s.rd (Reg.LN_BLOCK p.idx) + 1 ∧ (∀ l ∈ s.txLanes p.idx,
    ((t.port p.idx).lanes[l]).skips = 1 + ((s.txLanes p.idx).foldl (fun m i => max m (s.codeLane p.idx i (weave 4096 gaps (s.port p.idx).sets).1).bits.length) 0 - (s.codeLane p.idx l (weave 4096 gaps (s.port p.idx).sets).1).bits.length) / 66) ∧
    t.switchDue p.idx = true ∧ (∀ u : Fin 2, u ≠ p.idx → t.port u = s.port u) ∧ Frame s t [.rcd, .pkt, .freeIdx,
    .out] (fun a => a = Reg.LN_BLOCK p.idx ∨ a = Reg.LN_DEGRADE_CNT p.idx ∨ arr 9 (Reg.LN_LANE_STUFF_CNT p.idx) a ∨
    arr 9 (Reg.LN_LANE_TX p.idx) a ∨ a = Reg.LN_SLEEP_STAT p.idx ∨ a = Reg.LN_TEST_CFG p.idx ∨ a = Reg.LN_TEST_STAT p.idx ∨
    a = Reg.LN_TRAIN_STAT p.idx ∨ eventRegs (laneEvent p.idx 0) a)) ∧
  (∀ (p : Port) (gaps : List Nat), s.portState p.idx = 4 ∨ s.portState p.idx = 5 → s.txAwake p.idx = true →
    s.switchDue p.idx = true → ∃ t, exec (.markerSend p gaps) s = .next t ∧
    t.rd (Reg.LN_BLOCK p.idx) = s.rd (Reg.LN_BLOCK p.idx) + 1 ∧ (t.port p.idx).txRemap = none ∧ (∀ u : Fin 2, u ≠ p.idx →
    t.port u = s.port u) ∧ Frame s t [.rcd, .pkt, .freeIdx, .out] (fun a => a = Reg.LN_BLOCK p.idx ∨
    a = Reg.LN_DEGRADE_CNT p.idx ∨ arr 9 (Reg.LN_LANE_STUFF_CNT p.idx) a ∨ arr 9 (Reg.LN_LANE_TX p.idx) a ∨
    a = Reg.LN_SLEEP_STAT p.idx ∨ a = Reg.LN_TEST_CFG p.idx ∨ a = Reg.LN_TEST_STAT p.idx ∨ a = Reg.LN_TRAIN_STAT p.idx ∨
    eventRegs (laneEvent p.idx 0) a)) ∧
  (∀ (p : Port) (gaps : List Nat), (s.portState p.idx ≠ 4 ∧ s.portState p.idx ≠ 5) ∨ s.txAwake p.idx = false →
    exec (.markerSend p gaps) s = .next s) ∧
  (∀ (p : Port) (l : Fin 9) (bits : List Bool) (ws : List LaneWord) (bs : List Byte) (errs : Nat) (c : Coder),
    s.portState p.idx = 4 ∨ s.portState p.idx = 5 →
    readLine ((s.port p.idx).lanes[l]).rx (if s.bit (Reg.LN_LANE_RX p.idx l) 29 = true then bits.map (!·) else bits) = (ws, bs,
    errs, c) → markerOk bs = true → ∃ t, exec (.markerReceive p l bits) s = .next t ∧
    Counted s t (Reg.LN_LANE_ERR_CNT p.idx l) (errs + ws.countP badControl) ∧ (t.port p.idx).rxBlock = fieldAt bs 2 4 ∧
    ((t.port p.idx).lanes[l]).block = fieldAt bs 2 4 ∧ ((t.port p.idx).lanes[l]).missed = 0 ∧
    ((t.port p.idx).lanes[l]).markAt = s.now ∧ ((t.port p.idx).lanes[l]).phys = bitsOf (byteAt bs 1) 3 0 ∧
    (((t.port p.idx).lanes[l]).badWords = ws.countP fun w => badWord w (s.fld (Reg.LN_LANE_RX p.idx l) 27 24)) ∧
    ((t.port p.idx).lanes[l]).rx = c ∧ ((t.port p.idx).lanes[l]).marks = (if ((s.port p.idx).lanes[l]).marks = 0 ∨
    fieldAt bs 2 4 = (((s.port p.idx).lanes[l]).block + 1) % 2 ^ 32 then ((s.port p.idx).lanes[l]).marks + 1 else 1) ∧
    t.fld (Reg.LN_SLEEP_STAT p.idx) 1 0 = 0 ∧ (s.bit (Reg.LN_LANE_RX p.idx l) 30 = false →
    t.bit (Reg.LN_LANE_RX p.idx l) 31 = true) ∧
    t.fld (Reg.LN_LANE_RX p.idx l) 27 24 = (if s.bit (Reg.LN_LANE_RX p.idx l) 30 = false ∧ s.portState p.idx = 4 ∧
    (s.port p.idx).aligned = false then bitsOf (byteAt bs 1) 7 4 else s.fld (Reg.LN_LANE_RX p.idx l) 27 24) ∧
    (((s.judgeWords p.idx l ws errs c).noteMarker p.idx l bs (fieldAt bs 2 4)).blockWhole p.idx (fieldAt bs 2 4) = true →
    (s.port p.idx).whole ≠ some (fieldAt bs 2 4) →
    Counted s t (Reg.LN_ELASTIC_CNT p.idx) ((((s.judgeWords p.idx l ws errs c).noteMarker p.idx l bs (fieldAt bs 2 4)).usedLanes p.idx).countP fun i => decide (33 < s.now - ((((s.judgeWords p.idx l ws errs c).noteMarker p.idx l bs (fieldAt bs 2 4)).port p.idx).lanes[i]).markAt)) ∧
    (t.port p.idx).whole = some (fieldAt bs 2 4) ∧
    (t.port p.idx).overflow = decide (((((s.judgeWords p.idx l ws errs c).noteMarker p.idx l bs (fieldAt bs 2 4)).usedLanes p.idx).countP fun i => decide (33 < s.now - ((((s.judgeWords p.idx l ws errs c).noteMarker p.idx l bs (fieldAt bs 2 4)).port p.idx).lanes[i]).markAt)) ≠ 0) ∧
    (((((s.judgeWords p.idx l ws errs c).noteMarker p.idx l bs (fieldAt bs 2 4)).usedLanes p.idx).countP fun i => decide (33 < s.now - ((((s.judgeWords p.idx l ws errs c).noteMarker p.idx l bs (fieldAt bs 2 4)).port p.idx).lanes[i]).markAt)) ≠ 0 →
    (t.port p.idx).deskewed = 0) ∧
    (((((s.judgeWords p.idx l ws errs c).noteMarker p.idx l bs (fieldAt bs 2 4)).usedLanes p.idx).countP fun i => decide (33 < s.now - ((((s.judgeWords p.idx l ws errs c).noteMarker p.idx l bs (fieldAt bs 2 4)).port p.idx).lanes[i]).markAt)) = 0 →
    (t.port p.idx).deskewed = if (s.port p.idx).whole.map (fun k => (k + 1) % 2 ^ 32) = some (fieldAt bs 2 4) then (s.port p.idx).deskewed + 1 else 1)) ∧
    (((s.judgeWords p.idx l ws errs c).noteMarker p.idx l bs (fieldAt bs 2 4)).blockWhole p.idx (fieldAt bs 2 4) = false →
    t.rd (Reg.LN_ELASTIC_CNT p.idx) = s.rd (Reg.LN_ELASTIC_CNT p.idx) ∧ (t.port p.idx).deskewed = (s.port p.idx).deskewed) ∧
    ((t.port p.idx).aligned = true → (s.port p.idx).aligned = true ∨ 4 ≤ (t.port p.idx).deskewed) ∧ (s.portState p.idx = 5 →
    t.portState p.idx = 5 ∨ t.portState p.idx = 8) ∧ (s.portState p.idx = 4 → t.portState p.idx = 4 ∨ t.portState p.idx = 5 ∨
    t.portState p.idx = 8) ∧ Frame s t [.mode, .paths, .bias, .kpr, .rcd, .tim, .pkt, .freeIdx,
    .out] (fun a => a ∈ [Reg.KPR_BOOT_STAT, Reg.KPR_BOOT_TIME, Reg.KPR_LIVE_AIR, Reg.PKT_ALARM_DROP_CNT, Reg.SYN_ALIGN,
    Reg.TIM_ALIGN_REFUSE_CNT, Reg.TIM_EPOCH_CTRL] ∨ arr 80 Reg.BIA_CLEAR_CNT a ∨ arr 16 Reg.HKA_QUAD a ∨ arr 4 Reg.PKT_OWN a ∨
    arr 9 Reg.RXP_OBS_ROUTE a ∨ arr 64 Reg.TXP_ATTEN a ∨ eventRegs 0x0003 a ∨ eventRegs 0x0104 a ∨
    a = Reg.LN_ELASTIC_CNT p.idx ∨ arr 9 (Reg.LN_LANE_ERR_CNT p.idx) a ∨ arr 9 (Reg.LN_LANE_RX p.idx) a ∨
    a = Reg.LN_SLEEP_STAT p.idx ∨ a = Reg.LN_TEST_CFG p.idx ∨ a = Reg.LN_TEST_STAT p.idx ∨ a = Reg.LN_TRAIN_STAT p.idx ∨
    arr 8 (Reg.PKT_CREDIT p.idx) a ∨ eventRegs (laneEvent p.idx 0) a)) ∧
  (∀ (p : Port) (l : Fin 9) (bits : List Bool) (ws : List LaneWord) (bs : List Byte) (errs : Nat) (c : Coder),
    s.portState p.idx = 4 ∨ s.portState p.idx = 5 →
    readLine ((s.port p.idx).lanes[l]).rx (if s.bit (Reg.LN_LANE_RX p.idx l) 29 = true then bits.map (!·) else bits) = (ws, bs,
    errs, c) → markerOk bs = false → ∃ t, exec (.markerReceive p l bits) s = .next t ∧
    Counted s t (Reg.LN_LANE_ERR_CNT p.idx l) (errs + ws.countP badControl) ∧ ((t.port p.idx).lanes[l]).marks = 0 ∧
    ((t.port p.idx).lanes[l]).missed = ((s.port p.idx).lanes[l]).missed + 1 ∧ ((t.port p.idx).lanes[l]).rx = c ∧
    (t.port p.idx).rxBlock = (s.port p.idx).rxBlock ∧ (∀ u : Fin 2, u ≠ p.idx → t.port u = s.port u) ∧
    Frame s t [.pkt] (fun a => a = Reg.LN_LANE_ERR_CNT p.idx l)) ∧
  (∀ (p : Port) (l : Fin 9) (bits : List Bool), s.portState p.idx ≠ 4 → s.portState p.idx ≠ 5 →
    exec (.markerReceive p l bits) s = .next s) ∧
  (∀ (p : Port) (copies : List (Vector Byte 8)) (bs : List Byte), bchRead copies = some bs → byteAt bs 1 = 0x06 →
    s.portState p.idx = 4 → (s.port p.idx).aligned = true → ∃ t, exec (.bchReady p copies) s = .next t ∧
    t.portState p.idx = 5 ∧ (t.port p.idx).idleSince = s.now ∧ (∀ q : Fin 8, t.rd (Reg.PKT_CREDIT p.idx q) = 0 ∧
    ((t.port p.idx).queues[q]).nextSeq = 0 ∧ ((t.port p.idx).queues[q]).expect = 0) ∧ Raised s t (laneEvent p.idx 5) [(1,
    s.fld (Reg.LN_TRAIN_STAT p.idx) 19 16), (1, s.fld (Reg.LN_TRAIN_STAT p.idx) 15 12)] ∧ Frame s t [.mode, .paths, .bias,
    .kpr, .rcd, .tim, .pkt] (fun a => a ∈ [Reg.KPR_BOOT_STAT, Reg.KPR_BOOT_TIME, Reg.KPR_LIVE_AIR, Reg.PKT_ALARM_DROP_CNT,
    Reg.SYN_ALIGN, Reg.TIM_ALIGN_REFUSE_CNT, Reg.TIM_EPOCH_CTRL] ∨ arr 80 Reg.BIA_CLEAR_CNT a ∨ arr 16 Reg.HKA_QUAD a ∨
    arr 4 Reg.PKT_OWN a ∨ arr 9 Reg.RXP_OBS_ROUTE a ∨ arr 64 Reg.TXP_ATTEN a ∨ eventRegs 0x0003 a ∨ eventRegs 0x0104 a ∨
    a = Reg.LN_TRAIN_STAT p.idx ∨ arr 8 (Reg.PKT_CREDIT p.idx) a ∨ eventRegs (laneEvent p.idx 0) a)) ∧
  (∀ (p : Port) (copies : List (Vector Byte 8)) (bs : List Byte), bchRead copies = some bs → byteAt bs 1 = 0x06 →
    s.portState p.idx = 4 → (s.port p.idx).aligned = false → ∃ t, exec (.bchReady p copies) s = .next t ∧
    (t.port p.idx) = { (s.port p.idx) with readyGot := true } ∧ t.portState p.idx = 4 ∧ (∀ u : Fin 2, u ≠ p.idx →
    t.port u = s.port u) ∧ Frame s t [.pkt] noRegs) ∧
  (∀ (p : Port) (copies : List (Vector Byte 8)), bchRead copies = none → ∃ t, exec (.bchReady p copies) s = .next t ∧
    Counted s t (Reg.LN_BCH_ERR_CNT p.idx) 1 ∧ Frame s t [] (fun a => a = Reg.LN_BCH_ERR_CNT p.idx)) ∧
  (∀ (p : Port) (copies : List (Vector Byte 8)) (bs : List Byte), bchRead copies = some bs → byteAt bs 1 ≠ 0x06 ∨
    s.portState p.idx ≠ 4 → exec (.bchReady p copies) s = .next s) ∧
  (∀ (p : Port), s.portState p.idx = 5 → s.fld (Reg.LN_SLEEP_STAT p.idx) 1 0 ≠ 0 → ∃ t, exec (.tetherLoss p) s = .next t ∧
    t.fld (Reg.LN_SLEEP_STAT p.idx) 1 0 = 2 ∧ Frame s t [] (fun a => a = Reg.LN_SLEEP_STAT p.idx)) ∧
  (∀ (p : Port), s.portState p.idx = 5 → s.fld (Reg.LN_SLEEP_STAT p.idx) 1 0 = 0 → ∃ t, exec (.tetherLoss p) s = .next t ∧
    t.portState p.idx = 1 ∧ t.fld (Reg.LN_TRAIN_STAT p.idx) 25 24 = 1 ∧ Counted s t (Reg.LN_DOWN_CNT p.idx) 1 ∧ (∀ q : Fin 8,
    t.rd (Reg.PKT_CREDIT p.idx q) = 0 ∧ ((t.port p.idx).queues[q]).wait = if 2 ≤ q.val ∧
    q.val ≤ 4 then [] else ((s.port p.idx).queues[q]).wait) ∧ Raised s t (laneEvent p.idx 3) [(1, 2)] ∧ (∀ u : Fin 2,
    u ≠ p.idx → t.port u = s.port u) ∧ Frame s t [.rcd, .pkt, .out] (fun a => a = Reg.LN_BLOCK p.idx ∨ a = Reg.LN_CTRL p.idx ∨
    a = Reg.LN_DOWN_CNT p.idx ∨ arr 9 (Reg.LN_LANE_RX p.idx) a ∨ arr 9 (Reg.LN_LANE_STUFF_CNT p.idx) a ∨
    arr 9 (Reg.LN_LANE_TX p.idx) a ∨ a = Reg.LN_SLEEP_STAT p.idx ∨ a = Reg.LN_TEST_CFG p.idx ∨ a = Reg.LN_TRAIN_STAT p.idx ∨
    arr 8 (Reg.PKT_CREDIT p.idx) a ∨ arr 8 (Reg.PKT_SHED_CNT p.idx) a ∨ eventRegs (laneEvent p.idx 0) a)) ∧
  (∀ (p : Port), s.portState p.idx ≠ 5 → exec (.tetherLoss p) s = .next s) ∧
  (∀ (p : Port) (copies : List (Vector Byte 8)) (bs : List Byte), bchRead copies = some bs → byteAt bs 1 = 0x03 →
    s.portState p.idx = 5 → ∃ t, exec (.bchRetrain p copies) s = .next t ∧ t.portState p.idx = 1 ∧
    t.fld (Reg.LN_TRAIN_STAT p.idx) 25 24 = 1 ∧ Counted s t (Reg.LN_DOWN_CNT p.idx) 1 ∧ (∀ q : Fin 8,
    t.rd (Reg.PKT_CREDIT p.idx q) = 0 ∧ ((t.port p.idx).queues[q]).wait = if 2 ≤ q.val ∧
    q.val ≤ 4 then [] else ((s.port p.idx).queues[q]).wait) ∧ Raised s t (laneEvent p.idx 3) [(1, 3)] ∧ t.out = s.out ∧
    (∀ u : Fin 2, u ≠ p.idx → t.port u = s.port u) ∧ Frame s t [.rcd, .pkt] (fun a => a = Reg.LN_BLOCK p.idx ∨
    a = Reg.LN_CTRL p.idx ∨ a = Reg.LN_DOWN_CNT p.idx ∨ arr 9 (Reg.LN_LANE_RX p.idx) a ∨
    arr 9 (Reg.LN_LANE_STUFF_CNT p.idx) a ∨ arr 9 (Reg.LN_LANE_TX p.idx) a ∨ a = Reg.LN_SLEEP_STAT p.idx ∨
    a = Reg.LN_TEST_CFG p.idx ∨ a = Reg.LN_TRAIN_STAT p.idx ∨ arr 8 (Reg.PKT_CREDIT p.idx) a ∨
    arr 8 (Reg.PKT_SHED_CNT p.idx) a ∨ eventRegs (laneEvent p.idx 0) a)) ∧
  (∀ (p : Port) (copies : List (Vector Byte 8)), bchRead copies = none → ∃ t, exec (.bchRetrain p copies) s = .next t ∧
    Counted s t (Reg.LN_BCH_ERR_CNT p.idx) 1 ∧ Frame s t [] (fun a => a = Reg.LN_BCH_ERR_CNT p.idx)) ∧
  (∀ (p : Port) (copies : List (Vector Byte 8)) (bs : List Byte), bchRead copies = some bs → byteAt bs 1 ≠ 0x03 ∨
    s.portState p.idx ≠ 5 → exec (.bchRetrain p copies) s = .next s) ∧
  (∀ (p : Port), s.writable = true → s.portState p.idx = 5 → ∃ t, exec (.retrainWrite p) s = .next t ∧ t.portState p.idx = 1 ∧
    t.fld (Reg.LN_TRAIN_STAT p.idx) 25 24 = 1 ∧ Counted s t (Reg.LN_DOWN_CNT p.idx) 1 ∧ (∀ q : Fin 8,
    t.rd (Reg.PKT_CREDIT p.idx q) = 0 ∧ ((t.port p.idx).queues[q]).wait = if 2 ≤ q.val ∧
    q.val ≤ 4 then [] else ((s.port p.idx).queues[q]).wait) ∧ Raised s t (laneEvent p.idx 3) [(1, 5)] ∧
    Output.bch p.idx (bchBytes 0x03 0) ∈ t.out ∧ (∀ u : Fin 2, u ≠ p.idx → t.port u = s.port u) ∧ Frame s t [.rcd, .pkt,
    .out] (fun a => a = Reg.LN_BLOCK p.idx ∨ a = Reg.LN_CTRL p.idx ∨ a = Reg.LN_DOWN_CNT p.idx ∨
    arr 9 (Reg.LN_LANE_RX p.idx) a ∨ arr 9 (Reg.LN_LANE_STUFF_CNT p.idx) a ∨ arr 9 (Reg.LN_LANE_TX p.idx) a ∨
    a = Reg.LN_SLEEP_STAT p.idx ∨ a = Reg.LN_TEST_CFG p.idx ∨ a = Reg.LN_TRAIN_STAT p.idx ∨ arr 8 (Reg.PKT_CREDIT p.idx) a ∨
    arr 8 (Reg.PKT_SHED_CNT p.idx) a ∨ eventRegs (laneEvent p.idx 0) a)) ∧
  (∀ (p : Port), s.writable = true → s.portState p.idx ≠ 5 → ∃ t, exec (.retrainWrite p) s = .next t ∧ (s.portState p.idx = 7 →
    t.portState p.idx = 1) ∧ (s.portState p.idx ≠ 7 → t.bit (Reg.LN_CTRL p.idx) 31 = true ∧ t.pkt = s.pkt) ∧
    Frame s t [.pkt] (fun a => a = Reg.LN_CTRL p.idx ∨ arr 9 (Reg.LN_LANE_RX p.idx) a ∨ arr 9 (Reg.LN_LANE_TX p.idx) a ∨
    a = Reg.LN_SLEEP_STAT p.idx ∨ a = Reg.LN_TEST_CFG p.idx ∨ a = Reg.LN_TRAIN_STAT p.idx)) ∧
  (∀ (p : Port), s.writable = false → exec (.retrainWrite p) s = .next s)

/-- LANE_FAIL of a lane in use that is bad while the direction is awake marks the lane failed and unhealthy; with fewer than
four healthy lanes left it takes an UP port down and fails an attempt in ALIGN; else it waits while a REMAP is outstanding, and
otherwise sends a REMAP that keeps the width while a ballast or spare is healthy and none has failed, or drops to width 4 (R379,
R384 to R388). BCH_REMAP of a future block is echoed and noted for the egress direction, BCH_REMAP_ACK confirms the one
outstanding, invalid messages are counted (R381, R385). REMAP_TIMEOUT repeats, and after three takes an UP port down (R385,
R387). LANE_SWITCH at the switch block moves the failed lane's role to the ballast or places width 4, counts, and on the egress
side sends the MARKERs of the block with the new roles (R385, R386). Each with its frame. -/
def Obligations.LaneFailureAndTakeover : Prop := ∀ s : State, s.Canon →
  (∀ (p : Port) (l : Fin 9) (los : Bool), s.laneBad p.idx l los = true → s.portState p.idx = 4 ∨ s.portState p.idx = 5 →
    s.fld (Reg.LN_LANE_RX p.idx l) 27 24 ≠ 0xF → s.fld (Reg.LN_SLEEP_STAT p.idx) 1 0 = 0 →
    s.bit (Reg.LN_LANE_RX p.idx l) 30 = false → (s.port p.idx).remap.isSome = true →
    4 ≤ maskCount ((s.setBit (Reg.LN_TRAIN_STAT p.idx) l false).rxHealthy p.idx) → ∃ t, exec (.laneFail p l los) s = .next t ∧
    (t.port p.idx) = { (s.port p.idx) with waiting := insertFail (s.port p.idx).waiting (s.port p.idx).rxBlock l } ∧
    t.bit (Reg.LN_LANE_RX p.idx l) 30 = true ∧ t.bit (Reg.LN_LANE_RX p.idx l) 31 = false ∧
    t.bit (Reg.LN_TRAIN_STAT p.idx) l = false ∧ (∀ u : Fin 2, u ≠ p.idx → t.port u = s.port u) ∧
    Frame s t [.pkt] (fun a => a = Reg.LN_TRAIN_STAT p.idx ∨ a = Reg.LN_LANE_RX p.idx l)) ∧
  (∀ (p : Port) (l : Fin 9) (los : Bool), s.laneBad p.idx l los = true → s.portState p.idx = 4 ∨ s.portState p.idx = 5 →
    s.fld (Reg.LN_LANE_RX p.idx l) 27 24 ≠ 0xF → s.fld (Reg.LN_SLEEP_STAT p.idx) 1 0 = 0 →
    s.bit (Reg.LN_LANE_RX p.idx l) 30 = false → s.portState p.idx = 5 →
    maskCount ((s.setBit (Reg.LN_TRAIN_STAT p.idx) l false).rxHealthy p.idx) < 4 → ∃ t, exec (.laneFail p l los) s = .next t ∧
    t.portState p.idx = 1 ∧ t.fld (Reg.LN_TRAIN_STAT p.idx) 25 24 = 1 ∧ Counted s t (Reg.LN_DOWN_CNT p.idx) 1 ∧ (∀ q : Fin 8,
    t.rd (Reg.PKT_CREDIT p.idx q) = 0 ∧ ((t.port p.idx).queues[q]).wait = if 2 ≤ q.val ∧
    q.val ≤ 4 then [] else ((s.port p.idx).queues[q]).wait) ∧ Raised s t (laneEvent p.idx 3) [(1, 1)] ∧ (∀ u : Fin 2,
    u ≠ p.idx → t.port u = s.port u) ∧ Frame s t [.mode, .paths, .bias, .kpr, .rcd, .tim, .pkt,
    .out] (fun a => a ∈ [Reg.KPR_BOOT_STAT, Reg.KPR_BOOT_TIME, Reg.KPR_LIVE_AIR, Reg.SYN_ALIGN, Reg.TIM_ALIGN_REFUSE_CNT,
    Reg.TIM_EPOCH_CTRL] ∨ arr 80 Reg.BIA_CLEAR_CNT a ∨ arr 16 Reg.HKA_QUAD a ∨ arr 9 Reg.RXP_OBS_ROUTE a ∨
    arr 64 Reg.TXP_ATTEN a ∨ eventRegs 0x0003 a ∨ eventRegs 0x0104 a ∨ a = Reg.LN_BLOCK p.idx ∨ a = Reg.LN_CTRL p.idx ∨
    a = Reg.LN_DOWN_CNT p.idx ∨ arr 9 (Reg.LN_LANE_RX p.idx) a ∨ arr 9 (Reg.LN_LANE_STUFF_CNT p.idx) a ∨
    arr 9 (Reg.LN_LANE_TX p.idx) a ∨ a = Reg.LN_LISTEN_CNT p.idx ∨ a = Reg.LN_SLEEP_STAT p.idx ∨ a = Reg.LN_TEST_CFG p.idx ∨
    a = Reg.LN_TRAIN_FAIL_CNT p.idx ∨ a = Reg.LN_TRAIN_STAT p.idx ∨ arr 8 (Reg.PKT_CREDIT p.idx) a ∨
    arr 8 (Reg.PKT_SHED_CNT p.idx) a ∨ eventRegs (laneEvent p.idx 0) a)) ∧
  (∀ (p : Port) (l : Fin 9) (los : Bool), s.laneBad p.idx l los = true → s.portState p.idx = 4 ∨ s.portState p.idx = 5 →
    s.fld (Reg.LN_LANE_RX p.idx l) 27 24 ≠ 0xF → s.fld (Reg.LN_SLEEP_STAT p.idx) 1 0 = 0 →
    s.bit (Reg.LN_LANE_RX p.idx l) 30 = false → s.portState p.idx = 4 →
    maskCount ((s.setBit (Reg.LN_TRAIN_STAT p.idx) l false).rxHealthy p.idx) < 4 → ∃ t, exec (.laneFail p l los) s = .next t ∧
    t.fld (Reg.LN_TRAIN_STAT p.idx) 23 20 = 4 ∧ Counted s t (Reg.LN_TRAIN_FAIL_CNT p.idx) 1 ∧
    (s.fld (Reg.LN_TRAIN_STAT p.idx) 25 24 < 3 → t.portState p.idx = 6) ∧ (s.fld (Reg.LN_TRAIN_STAT p.idx) 25 24 = 3 →
    t.portState p.idx = 7 ∧ Counted s t (Reg.LN_LISTEN_CNT p.idx) 1 ∧ Raised s t (laneEvent p.idx 4) [(1, 4)]) ∧
    Frame s t [.mode, .paths, .bias, .kpr, .rcd, .tim, .pkt, .out] (fun a => a ∈ [Reg.KPR_BOOT_STAT, Reg.KPR_BOOT_TIME,
    Reg.KPR_LIVE_AIR, Reg.SYN_ALIGN, Reg.TIM_ALIGN_REFUSE_CNT, Reg.TIM_EPOCH_CTRL] ∨ arr 80 Reg.BIA_CLEAR_CNT a ∨
    arr 16 Reg.HKA_QUAD a ∨ arr 9 Reg.RXP_OBS_ROUTE a ∨ arr 64 Reg.TXP_ATTEN a ∨ eventRegs 0x0003 a ∨ eventRegs 0x0104 a ∨
    a = Reg.LN_BLOCK p.idx ∨ a = Reg.LN_CTRL p.idx ∨ a = Reg.LN_DOWN_CNT p.idx ∨ arr 9 (Reg.LN_LANE_RX p.idx) a ∨
    arr 9 (Reg.LN_LANE_STUFF_CNT p.idx) a ∨ arr 9 (Reg.LN_LANE_TX p.idx) a ∨ a = Reg.LN_LISTEN_CNT p.idx ∨
    a = Reg.LN_SLEEP_STAT p.idx ∨ a = Reg.LN_TEST_CFG p.idx ∨ a = Reg.LN_TRAIN_FAIL_CNT p.idx ∨ a = Reg.LN_TRAIN_STAT p.idx ∨
    arr 8 (Reg.PKT_CREDIT p.idx) a ∨ arr 8 (Reg.PKT_SHED_CNT p.idx) a ∨ eventRegs (laneEvent p.idx 0) a)) ∧
  (∀ (p : Port) (l : Fin 9) (los : Bool), s.laneBad p.idx l los = true → s.portState p.idx = 4 ∨ s.portState p.idx = 5 →
    s.fld (Reg.LN_LANE_RX p.idx l) 27 24 ≠ 0xF → s.fld (Reg.LN_SLEEP_STAT p.idx) 1 0 = 0 →
    s.bit (Reg.LN_LANE_RX p.idx l) 30 = false → (s.port p.idx).remap = none →
    4 ≤ maskCount ((s.setBit (Reg.LN_TRAIN_STAT p.idx) l false).rxHealthy p.idx) → ∃ t, exec (.laneFail p l los) s = .next t ∧
    t.bit (Reg.LN_LANE_RX p.idx l) 30 = true ∧ t.bit (Reg.LN_LANE_RX p.idx l) 31 = false ∧
    t.bit (Reg.LN_TRAIN_STAT p.idx) l = false ∧ (t.port p.idx).lost = true ∧
    (((widthOf (if s.rxWidth p.idx = 0 then maskCount ((s.setBit (Reg.LN_TRAIN_STAT p.idx) l false).rxHealthy p.idx) + 1 else s.rxWidth p.idx)) = 8 ∧
    ((s.port p.idx).lost = true ∨ (s.fld (Reg.LN_LANE_RX p.idx l) 27 24 < 8 ∧
    ((List.finRange 9).any fun (j : Fin 9) => bitOf ((s.setBit (Reg.LN_TRAIN_STAT p.idx) l false).rxHealthy p.idx) j && s.fld (Reg.LN_LANE_RX p.idx j) 27 24 == 8) = false))) →
    (t.port p.idx).remap = some { lane := l, phys := ((s.port p.idx).lanes[l]).phys, width := 4, block := ((s.port p.idx).rxBlock + 4) % 65536, sentAt := s.now }) ∧
    (¬ ((widthOf (if s.rxWidth p.idx = 0 then maskCount ((s.setBit (Reg.LN_TRAIN_STAT p.idx) l false).rxHealthy p.idx) + 1 else s.rxWidth p.idx)) = 8 ∧
    ((s.port p.idx).lost = true ∨ (s.fld (Reg.LN_LANE_RX p.idx l) 27 24 < 8 ∧
    ((List.finRange 9).any fun (j : Fin 9) => bitOf ((s.setBit (Reg.LN_TRAIN_STAT p.idx) l false).rxHealthy p.idx) j && s.fld (Reg.LN_LANE_RX p.idx j) 27 24 == 8) = false))) →
    s.fld (Reg.LN_LANE_RX p.idx l) 27 24 < 8 →
    (t.port p.idx).remap = some { lane := l, phys := ((s.port p.idx).lanes[l]).phys, width := (widthOf (if s.rxWidth p.idx = 0 then maskCount ((s.setBit (Reg.LN_TRAIN_STAT p.idx) l false).rxHealthy p.idx) + 1 else s.rxWidth p.idx)), block := ((s.port p.idx).rxBlock + 4) % 65536, sentAt := s.now }) ∧
    (¬ ((widthOf (if s.rxWidth p.idx = 0 then maskCount ((s.setBit (Reg.LN_TRAIN_STAT p.idx) l false).rxHealthy p.idx) + 1 else s.rxWidth p.idx)) = 8 ∧
    ((s.port p.idx).lost = true ∨ (s.fld (Reg.LN_LANE_RX p.idx l) 27 24 < 8 ∧
    ((List.finRange 9).any fun (j : Fin 9) => bitOf ((s.setBit (Reg.LN_TRAIN_STAT p.idx) l false).rxHealthy p.idx) j && s.fld (Reg.LN_LANE_RX p.idx j) 27 24 == 8) = false))) →
    8 ≤ s.fld (Reg.LN_LANE_RX p.idx l) 27 24 → (t.port p.idx).remap = none ∧ t.out = s.out) ∧ (∀ u : Fin 2, u ≠ p.idx →
    t.port u = s.port u) ∧ Frame s t [.pkt, .out] (fun a => a = Reg.LN_TRAIN_STAT p.idx ∨ a = Reg.LN_LANE_RX p.idx l)) ∧
  (∀ (p : Port) (l : Fin 9) (los : Bool), (s.portState p.idx ≠ 4 ∧ s.portState p.idx ≠ 5) ∨
    s.fld (Reg.LN_LANE_RX p.idx l) 27 24 = 0xF ∨ s.fld (Reg.LN_SLEEP_STAT p.idx) 1 0 ≠ 0 ∨
    s.bit (Reg.LN_LANE_RX p.idx l) 30 = true ∨ s.laneBad p.idx l los = false → exec (.laneFail p l los) s = .next s) ∧
  (∀ (p : Port) (copies : List (Vector Byte 8)) (bs : List Byte) (lane width block : Nat), bchRead copies = some bs →
    byteAt bs 1 = 0x01 → lane = bitsOf (byteAt bs 2) 3 0 → width = bitsOf (byteAt bs 2) 7 4 → block = fieldAt bs 3 2 →
    s.portState p.idx = 4 ∨ s.portState p.idx = 5 → 0 < (block + 65536 - (s.rd (Reg.LN_BLOCK p.idx)).toNat % 65536) % 65536 →
    (block + 65536 - (s.rd (Reg.LN_BLOCK p.idx)).toNat % 65536) % 65536 < 32768 → lane < 9 → ∃ t,
    exec (.bchRemap p copies) s = .next t ∧ t.bit (Reg.LN_LANE_TX p.idx lane) 31 = true ∧
    (t.port p.idx).txRemap = some { lane := lane, phys := lane, width := width, block := block, sentAt := s.now, acked := true } ∧
    (s.txAwake p.idx = true → t.out = .bch p.idx (bchBytes 0x02 (remapArgs lane width block)) :: s.out) ∧
    (s.txAwake p.idx = false → t.out = s.out ∧ (t.port p.idx).bchWait = (s.port p.idx).bchWait ++ [(0x02,
    remapArgs lane width block)]) ∧ (∀ u : Fin 2, u ≠ p.idx → t.port u = s.port u) ∧ Frame s t [.pkt,
    .out] (fun a => a = Reg.LN_LANE_TX p.idx lane)) ∧
  (∀ (p : Port) (copies : List (Vector Byte 8)), bchRead copies = none → ∃ t, exec (.bchRemap p copies) s = .next t ∧
    Counted s t (Reg.LN_BCH_ERR_CNT p.idx) 1 ∧ Frame s t [] (fun a => a = Reg.LN_BCH_ERR_CNT p.idx)) ∧
  (∀ (p : Port) (copies : List (Vector Byte 8)) (bs : List Byte) (block : Nat), bchRead copies = some bs →
    block = fieldAt bs 3 2 → (block + 65536 - (s.rd (Reg.LN_BLOCK p.idx)).toNat % 65536) % 65536 = 0 ∨
    32768 ≤ (block + 65536 - (s.rd (Reg.LN_BLOCK p.idx)).toNat % 65536) % 65536 ∨ byteAt bs 1 ≠ 0x01 →
    exec (.bchRemap p copies) s = .next s) ∧
  (∀ (p : Port) (copies : List (Vector Byte 8)) (bs : List Byte) (r : Remap), bchRead copies = some bs → byteAt bs 1 = 0x02 →
    (s.port p.idx).remap = some r → r.phys = bitsOf (byteAt bs 2) 3 0 → r.width = bitsOf (byteAt bs 2) 7 4 →
    r.block = fieldAt bs 3 2 → ∃ t, exec (.bchRemapAck p copies) s = .next t ∧
    (t.port p.idx) = { (s.port p.idx) with remap := some { r with acked := true } } ∧ (∀ u : Fin 2, u ≠ p.idx →
    t.port u = s.port u) ∧ Frame s t [.pkt] noRegs) ∧
  (∀ (p : Port) (copies : List (Vector Byte 8)), bchRead copies = none → ∃ t, exec (.bchRemapAck p copies) s = .next t ∧
    Counted s t (Reg.LN_BCH_ERR_CNT p.idx) 1 ∧ Frame s t [] (fun a => a = Reg.LN_BCH_ERR_CNT p.idx)) ∧
  (∀ (p : Port) (copies : List (Vector Byte 8)) (bs : List Byte), bchRead copies = some bs → byteAt bs 1 ≠ 0x02 ∨
    ((s.port p.idx).remap.all fun r => r.phys != bitsOf (byteAt bs 2) 3 0) = true → exec (.bchRemapAck p copies) s = .next s) ∧
  (∀ (p : Port) (r : Remap) (l : Fin 9), (s.port p.idx).remap = some r → r.acked = false →
    usPassed (s.now - r.sentAt) 50 = true → r.tries < 3 → r.lane = l.val → ∃ t, exec (.remapTimeout p) s = .next t ∧
    Counted s t (Reg.LN_REMAP_RETRY_CNT p.idx) 1 ∧
    (t.port p.idx).remap = some { lane := l, phys := ((s.port p.idx).lanes[l]).phys, width := r.width, block := ((s.port p.idx).rxBlock + 4) % 65536, sentAt := s.now, tries := r.tries + 1 } ∧
    (∀ u : Fin 2, u ≠ p.idx → t.port u = s.port u) ∧ Frame s t [.pkt, .out] (fun a => a = Reg.LN_REMAP_RETRY_CNT p.idx)) ∧
  (∀ (p : Port) (r : Remap), (s.port p.idx).remap = some r → r.acked = false → usPassed (s.now - r.sentAt) 50 = true →
    3 ≤ r.tries → s.portState p.idx ≠ 4 → ∃ t, exec (.remapTimeout p) s = .next t ∧ t.portState p.idx = 1 ∧
    t.fld (Reg.LN_TRAIN_STAT p.idx) 25 24 = 1 ∧ Counted s t (Reg.LN_DOWN_CNT p.idx) 1 ∧ (∀ q : Fin 8,
    t.rd (Reg.PKT_CREDIT p.idx q) = 0 ∧ ((t.port p.idx).queues[q]).wait = if 2 ≤ q.val ∧
    q.val ≤ 4 then [] else ((s.port p.idx).queues[q]).wait) ∧ Raised s t (laneEvent p.idx 3) [(1, 4)] ∧ (∀ u : Fin 2,
    u ≠ p.idx → t.port u = s.port u) ∧ Frame s t [.rcd, .pkt, .out] (fun a => a = Reg.LN_BLOCK p.idx ∨ a = Reg.LN_CTRL p.idx ∨
    a = Reg.LN_DOWN_CNT p.idx ∨ arr 9 (Reg.LN_LANE_RX p.idx) a ∨ arr 9 (Reg.LN_LANE_STUFF_CNT p.idx) a ∨
    arr 9 (Reg.LN_LANE_TX p.idx) a ∨ a = Reg.LN_SLEEP_STAT p.idx ∨ a = Reg.LN_TEST_CFG p.idx ∨ a = Reg.LN_TRAIN_STAT p.idx ∨
    arr 8 (Reg.PKT_CREDIT p.idx) a ∨ arr 8 (Reg.PKT_SHED_CNT p.idx) a ∨ eventRegs (laneEvent p.idx 0) a)) ∧
  (∀ (p : Port) (r : Remap), (s.port p.idx).remap = some r → r.acked = false → usPassed (s.now - r.sentAt) 50 = true →
    3 ≤ r.tries → s.portState p.idx = 4 → (s.port p.idx).waiting = [] → ∃ t, exec (.remapTimeout p) s = .next t ∧
    (t.port p.idx) = { (s.port p.idx) with remap := none } ∧ (∀ u : Fin 2, u ≠ p.idx → t.port u = s.port u) ∧
    Frame s t [.pkt] noRegs) ∧
  (∀ (p : Port), ((s.port p.idx).remap.all fun r => r.acked || !usPassed (s.now - r.sentAt) 50) = true →
    exec (.remapTimeout p) s = .next s) ∧
  (∀ (p : Port) (rx : Bool) (r : Remap) (j : Fin 9), rx = true → (s.port p.idx).remap = some r → r.acked = true →
    (s.port p.idx).rxBlock % 65536 = r.block → (s.port p.idx).waiting = [] → r.lane < 9 → r.lane ≠ j.val → r.width ≠ 4 ∨
    s.fld (Reg.LN_TRAIN_STAT p.idx) 19 16 ≠ 8 → s.rxSpare p.idx (s.rxHealthy p.idx) = some j → ∃ t,
    exec (.laneSwitch p rx) s = .next t ∧ (t.port p.idx) = { (s.port p.idx) with remap := none } ∧
    t.fld (Reg.LN_LANE_RX p.idx j) 27 24 = s.fld (Reg.LN_LANE_RX p.idx r.lane) 27 24 ∧
    t.fld (Reg.LN_LANE_RX p.idx r.lane) 27 24 = 0xF ∧ Counted s t (Reg.LN_TAKEOVER_CNT p.idx) 1 ∧
    Raised s t (laneEvent p.idx 1) [(1, r.lane), (1, j)] ∧ (∀ u : Fin 2, u ≠ p.idx → t.port u = s.port u) ∧ Frame s t [.rcd,
    .pkt] (fun a => a = Reg.LN_TAKEOVER_CNT p.idx ∨ eventRegs (laneEvent p.idx 0) a ∨ a = Reg.LN_LANE_RX p.idx j ∨
    a = Reg.LN_LANE_RX p.idx r.lane)) ∧
  (∀ (p : Port) (rx : Bool) (r : Remap), rx = true → (s.port p.idx).remap = some r → r.acked = true →
    (s.port p.idx).rxBlock % 65536 = r.block → (s.port p.idx).waiting = [] → r.width = 4 →
    s.fld (Reg.LN_TRAIN_STAT p.idx) 19 16 = 8 → ∃ t, exec (.laneSwitch p rx) s = .next t ∧
    (t.port p.idx) = { (s.port p.idx) with remap := none } ∧ t.fld (Reg.LN_TRAIN_STAT p.idx) 19 16 = 4 ∧ (∀ l : Fin 9,
    t.fld (Reg.LN_LANE_RX p.idx l) 27 24 = if bitOf (s.rxHealthy p.idx) l then roleIn (s.physMask p.idx (s.rxHealthy p.idx)) 4 ((s.port p.idx).lanes[l]).phys else 0xF) ∧
    Counted s t (Reg.LN_DEGRADE_CNT p.idx) 1 ∧ Raised s t (laneEvent p.idx 2) [(1, 0), (1, r.lane)] ∧ (∀ u : Fin 2, u ≠ p.idx →
    t.port u = s.port u) ∧ Frame s t [.rcd, .pkt] (fun a => a = Reg.LN_DEGRADE_CNT p.idx ∨ arr 9 (Reg.LN_LANE_RX p.idx) a ∨
    a = Reg.LN_TRAIN_STAT p.idx ∨ eventRegs (laneEvent p.idx 0) a)) ∧
  (∀ (p : Port) (rx : Bool) (r : Remap), rx = true → (s.port p.idx).remap = some r → r.acked = true →
    (s.port p.idx).rxBlock % 65536 = r.block → (s.port p.idx).waiting = [] → r.width ≠ 4 ∨
    s.fld (Reg.LN_TRAIN_STAT p.idx) 19 16 ≠ 8 → s.rxSpare p.idx (s.rxHealthy p.idx) = none → ∃ t,
    exec (.laneSwitch p rx) s = .next t ∧ (t.port p.idx) = { (s.port p.idx) with remap := none } ∧ (∀ u : Fin 2, u ≠ p.idx →
    t.port u = s.port u) ∧ Frame s t [.pkt] noRegs) ∧
  (∀ (p : Port) (rx : Bool) (r : Remap), rx = true → (s.port p.idx).remap = some r → r.acked = true →
    (s.port p.idx).rxBlock % 65536 = r.block → (s.port p.idx).waiting ≠ [] → ∃ t, exec (.laneSwitch p rx) s = .next t ∧
    (t.portState p.idx = s.portState p.idx → (t.port p.idx).waiting = (s.port p.idx).waiting.tail) ∧ (∀ u : Fin 2, u ≠ p.idx →
    t.port u = s.port u) ∧ Frame s t [.rcd, .pkt, .freeIdx, .out] (fun a => a = Reg.LN_DEGRADE_CNT p.idx ∨
    arr 9 (Reg.LN_LANE_RX p.idx) a ∨ arr 9 (Reg.LN_LANE_STUFF_CNT p.idx) a ∨ arr 9 (Reg.LN_LANE_TX p.idx) a ∨
    a = Reg.LN_SLEEP_STAT p.idx ∨ a = Reg.LN_TAKEOVER_CNT p.idx ∨ a = Reg.LN_TEST_CFG p.idx ∨ a = Reg.LN_TEST_STAT p.idx ∨
    a = Reg.LN_TRAIN_STAT p.idx ∨ eventRegs (laneEvent p.idx 0) a)) ∧
  (∀ (p : Port) (rx : Bool) (r : Remap), rx = false → (s.port p.idx).txRemap = some r →
    (s.rd (Reg.LN_BLOCK p.idx)).toNat % 65536 = r.block → ∃ t, exec (.laneSwitch p rx) s = .next t ∧
    (t.port p.idx).txRemap = none ∧ (r.width = 4 → s.fld (Reg.LN_TRAIN_STAT p.idx) 15 12 = 8 →
    t.fld (Reg.LN_TRAIN_STAT p.idx) 15 12 = 4 ∧ Counted s t (Reg.LN_DEGRADE_CNT p.idx) 1 ∧ Raised s t (laneEvent p.idx 2) [(1,
    1), (1, r.lane)]) ∧ (r.width ≠ 4 ∨ s.fld (Reg.LN_TRAIN_STAT p.idx) 15 12 ≠ 8 → ∀ j i : Fin 9,
    spareOf (laneMask fun j => s.fld (Reg.LN_LANE_TX p.idx j) 27 24 != 0xF && !s.bit (Reg.LN_LANE_TX p.idx j) 31) (fun j => s.fld (Reg.LN_LANE_TX p.idx j) 27 24) = some j →
    r.lane = i.val → i ≠ j → s.fld (Reg.LN_LANE_TX p.idx i) 27 24 < 8 →
    t.fld (Reg.LN_LANE_TX p.idx j) 27 24 = s.fld (Reg.LN_LANE_TX p.idx i) 27 24 ∧ t.fld (Reg.LN_LANE_TX p.idx i) 27 24 = 0xF) ∧
    (∀ l ∈ (s.switchTx p.idx r).txLanes p.idx,
    Output.marker p.idx l ((s.port p.idx).lanes[l]).skips ((s.switchTx p.idx r).markerBytes p.idx l) ∈ t.out) ∧ (∀ u : Fin 2,
    u ≠ p.idx → t.port u = s.port u) ∧ Frame s t [.rcd, .pkt, .freeIdx, .out] (fun a => a = Reg.LN_DEGRADE_CNT p.idx ∨
    arr 9 (Reg.LN_LANE_RX p.idx) a ∨ arr 9 (Reg.LN_LANE_STUFF_CNT p.idx) a ∨ arr 9 (Reg.LN_LANE_TX p.idx) a ∨
    a = Reg.LN_SLEEP_STAT p.idx ∨ a = Reg.LN_TAKEOVER_CNT p.idx ∨ a = Reg.LN_TEST_CFG p.idx ∨ a = Reg.LN_TEST_STAT p.idx ∨
    a = Reg.LN_TRAIN_STAT p.idx ∨ eventRegs (laneEvent p.idx 0) a)) ∧
  (∀ (p : Port) (rx : Bool), (rx = true →
    ((s.port p.idx).remap.all fun r => !r.acked || (s.port p.idx).rxBlock % 65536 != r.block) = true) → (rx = false →
    s.switchDue p.idx = false) → exec (.laneSwitch p rx) s = .next s)

/-- DOZE_ENTRY after doze_idle of IDLE sets puts the egress direction to sleep, counts and sends the SLEEP set, or is deferred
and counted while a wake runs (R390, R392). NAP_ENTRY after a further nap_idle deepens it (R390). LINK_WAKE for a parcel or
message that waits wakes the direction with a new block and sends the messages (R390, R392). SLEEP_RECEIVE after a SLEEP set, or
of a direction that sleeps already, shows the ingress direction asleep, and else changes nothing (R391). Each with its frame. -/
def Obligations.LinkSleep : Prop := ∀ s : State, s.Canon →
  (∀ (p : Port) (waking : Bool) (gaps : List Nat), s.portState p.idx = 5 → s.txAwake p.idx = true →
    s.bit (Reg.LN_SLEEP_CFG p.idx) 31 = true →
    nsPassed (s.now - (s.port p.idx).idleSince) (10 * s.fld (Reg.LN_SLEEP_CFG p.idx) 25 16) = true → ∃ t,
    exec (.dozeEntry p waking gaps) s = .next t ∧ (waking = false → t.fld (Reg.LN_SLEEP_STAT p.idx) 5 4 = 1 ∧
    Counted s t (Reg.LN_DOZE_CNT p.idx) 1 ∧ t.out.head? = some (.sleep p.idx false) ∧ (t.port p.idx).dozeAt = s.now ∧
    (t.port p.idx).sets = [] ∧ t.rd (Reg.LN_DEFER_CNT p.idx) = s.rd (Reg.LN_DEFER_CNT p.idx)) ∧ (waking = true →
    t.rd (Reg.LN_SLEEP_STAT p.idx) = s.rd (Reg.LN_SLEEP_STAT p.idx) ∧ Counted s t (Reg.LN_DEFER_CNT p.idx) 1 ∧ t.out = s.out ∧
    (t.port p.idx) = { (s.port p.idx) with idleSince := s.now }) ∧ (∀ u : Fin 2, u ≠ p.idx → t.port u = s.port u) ∧
    Frame s t [.pkt, .out] (fun a => a = Reg.LN_DEFER_CNT p.idx ∨ a = Reg.LN_DOZE_CNT p.idx ∨
    arr 9 (Reg.LN_LANE_STUFF_CNT p.idx) a ∨ a = Reg.LN_SLEEP_STAT p.idx)) ∧
  (∀ (p : Port) (waking : Bool) (gaps : List Nat), s.portState p.idx ≠ 5 ∨ s.txAwake p.idx = false ∨
    s.bit (Reg.LN_SLEEP_CFG p.idx) 31 = false → exec (.dozeEntry p waking gaps) s = .next s) ∧
  (∀ (p : Port), s.portState p.idx = 5 → s.fld (Reg.LN_SLEEP_STAT p.idx) 5 4 = 1 → s.bit (Reg.LN_SLEEP_CFG p.idx) 30 = true →
    usPassed (s.now - (s.port p.idx).dozeAt) (s.fld (Reg.LN_SLEEP_CFG p.idx) 11 0) = true → ∃ t,
    exec (.napEntry p) s = .next t ∧ t.fld (Reg.LN_SLEEP_STAT p.idx) 5 4 = 2 ∧ Counted s t (Reg.LN_NAP_CNT p.idx) 1 ∧
    Frame s t [] (fun a => a = Reg.LN_NAP_CNT p.idx ∨ a = Reg.LN_SLEEP_STAT p.idx)) ∧
  (∀ (p : Port), s.portState p.idx ≠ 5 ∨ s.fld (Reg.LN_SLEEP_STAT p.idx) 5 4 ≠ 1 ∨ s.bit (Reg.LN_SLEEP_CFG p.idx) 30 = false →
    exec (.napEntry p) s = .next s) ∧
  (∀ (p : Port) (during : Bool), s.portState p.idx = 5 → s.txAwake p.idx = false → s.wakeWanted p.idx = true → ∃ t,
    exec (.linkWake p during) s = .next t ∧ t.txAwake p.idx = true ∧
    t.rd (Reg.LN_BLOCK p.idx) = s.rd (Reg.LN_BLOCK p.idx) + 1 ∧ (t.port p.idx).bchWait = [] ∧
    (t.port p.idx).idleSince = s.now ∧ (∀ x ∈ (s.port p.idx).bchWait, Output.bch p.idx (bchBytes x.1 x.2) ∈ t.out) ∧
    (during = true → Counted s t (Reg.LN_DEFER_CNT p.idx) 1) ∧ (during = false →
    t.rd (Reg.LN_DEFER_CNT p.idx) = s.rd (Reg.LN_DEFER_CNT p.idx)) ∧ (∀ u : Fin 2, u ≠ p.idx → t.port u = s.port u) ∧
    Frame s t [.pkt, .freeIdx, .out] (fun a => a = Reg.LN_BLOCK p.idx ∨ a = Reg.LN_DEFER_CNT p.idx ∨
    arr 9 (Reg.LN_LANE_STUFF_CNT p.idx) a ∨ a = Reg.LN_SLEEP_STAT p.idx ∨ a = Reg.LN_TEST_CFG p.idx ∨
    a = Reg.LN_TEST_STAT p.idx ∨ a = Reg.LN_TRAIN_STAT p.idx)) ∧
  (∀ (p : Port) (during : Bool), s.portState p.idx ≠ 5 ∨ s.txAwake p.idx = true ∨ s.wakeWanted p.idx = false →
    exec (.linkWake p during) s = .next s) ∧
  (∀ (p : Port) (last : Vector (List LaneWord) 9) (nap : Bool), s.portState p.idx = 5 →
    s.fld (Reg.LN_SLEEP_STAT p.idx) 1 0 ≠ 0 ∨ s.sleepSet p.idx last = true → ∃ t, exec (.sleepReceive p last nap) s = .next t ∧
    t.fld (Reg.LN_SLEEP_STAT p.idx) 1 0 = (if nap = true then 2 else max 1 (s.fld (Reg.LN_SLEEP_STAT p.idx) 1 0)) ∧
    t.fld (Reg.LN_SLEEP_STAT p.idx) 5 4 = s.fld (Reg.LN_SLEEP_STAT p.idx) 5 4 ∧
    Frame s t [] (fun a => a = Reg.LN_SLEEP_STAT p.idx)) ∧
  (∀ (p : Port) (last : Vector (List LaneWord) 9) (nap : Bool), s.portState p.idx ≠ 5 ∨
    (s.fld (Reg.LN_SLEEP_STAT p.idx) 1 0 = 0 ∧ s.sleepSet p.idx last = false) → exec (.sleepReceive p last nap) s = .next s)

/-- TEST_START stores its fields, and its go with the port UP in READY announces the test to the partner (R393). BCH_TEST in
READY notes the partner's announcement, a set without a valid copy is counted (R381, R393). PRBS_CHECKER_LOCK and
PRBS_CHECKER_LOCK_LOSS pass the bits of a tested lane through its checker, whose lock is shown and whose errors are counted
(R394). TEST_END after the test time counts the errors of the locked checkers and returns the port to ALIGN (R393, R394).
ERROR_INJECT stores its fields and its inject inverts the named number of bits in READY (R395). Each with its frame. -/
def Obligations.LaneTestCommands : Prop := ∀ s : State, s.Canon →
  (∀ (p : Port) (w : Word), s.writable = true → ∃ t, exec (.testStart p w) s = .next t ∧
    t.fld (Reg.LN_TEST_CFG p.idx) 25 24 = fldOf w 25 24 ∧ t.fld (Reg.LN_TEST_CFG p.idx) 8 0 = fldOf w 8 0 ∧
    (bitOf w.toNat 31 = true → s.mode = .ready → s.portUp p.idx = true → t.bit (Reg.LN_TEST_CFG p.idx) 31 = true ∧
    (t.port p.idx).test = some { pattern := fldOf w 25 24, lanes := fldOf w 8 0, left := 2, own := true } ∧
    (s.txAwake p.idx = true → t.out = .bch p.idx (bchBytes 0x04 (fldOf w 25 24 * 0x1000000 + fldOf w 8 0 * 256)) :: s.out)) ∧
    (bitOf w.toNat 31 = false ∨ s.mode ≠ .ready ∨ s.portUp p.idx = false → t.pkt = s.pkt ∧ t.out = s.out) ∧ (∀ u : Fin 2,
    u ≠ p.idx → t.port u = s.port u) ∧ Frame s t [.pkt, .out] (fun a => a = Reg.LN_TEST_CFG p.idx)) ∧
  (∀ (p : Port) (w : Word), s.writable = false → exec (.testStart p w) s = .next s) ∧
  (∀ (p : Port) (copies : List (Vector Byte 8)) (bs : List Byte), bchRead copies = some bs → byteAt bs 1 = 0x04 →
    s.portUp p.idx = true → s.mode = .ready → ∃ t, exec (.bchTest p copies) s = .next t ∧
    (t.port p.idx) = { (s.port p.idx) with test := some { pattern := byteAt bs 2 % 4, lanes := fieldAt bs 3 2 % 512, left := 2, own := false } } ∧
    (∀ u : Fin 2, u ≠ p.idx → t.port u = s.port u) ∧ Frame s t [.pkt] noRegs) ∧
  (∀ (p : Port) (copies : List (Vector Byte 8)), bchRead copies = none → ∃ t, exec (.bchTest p copies) s = .next t ∧
    Counted s t (Reg.LN_BCH_ERR_CNT p.idx) 1 ∧ Frame s t [] (fun a => a = Reg.LN_BCH_ERR_CNT p.idx)) ∧
  (∀ (p : Port) (copies : List (Vector Byte 8)) (bs : List Byte), bchRead copies = some bs → byteAt bs 1 ≠ 0x04 ∨
    s.portUp p.idx = false ∨ s.mode ≠ .ready → exec (.bchTest p copies) s = .next s) ∧
  (∀ (p : Port) (bits : Vector (List Bool) 9) (x : LaneTest), s.portState p.idx = 8 → (s.port p.idx).test = some x →
    msPassed (s.now - (s.port p.idx).since) (max 1 (s.fld (Reg.LN_TEST_DUR p.idx) 15 0)) = true → ∃ t,
    exec (.testEnd p bits) s = .next t ∧ t.portState p.idx = 4 ∧ t.rd (Reg.LN_TEST_STAT p.idx) = 0 ∧
    (t.port p.idx).test = none ∧ (∀ l : Fin 9,
    Counted s t (Reg.LN_PRBS_ERR_CNT p.idx l) (if bitOf x.lanes l = true then (((s.port p.idx).lanes[l]).checker.take x.pattern (if s.bit (Reg.LN_LANE_RX p.idx l) 29 = true then bits[l].map (!·) else bits[l])).errs else 0)) ∧
    (∀ u : Fin 2, u ≠ p.idx → t.port u = s.port u) ∧ Frame s t [.pkt, .out] (fun a => a = Reg.LN_BLOCK p.idx ∨
    arr 9 (Reg.LN_LANE_RX p.idx) a ∨ arr 9 (Reg.LN_LANE_STUFF_CNT p.idx) a ∨ arr 9 (Reg.LN_LANE_TX p.idx) a ∨
    arr 9 (Reg.LN_PRBS_ERR_CNT p.idx) a ∨ a = Reg.LN_SLEEP_STAT p.idx ∨ a = Reg.LN_TEST_STAT p.idx ∨
    a = Reg.LN_TRAIN_STAT p.idx)) ∧
  (∀ (p : Port) (bits : Vector (List Bool) 9), s.portState p.idx ≠ 8 → exec (.testEnd p bits) s = .next s) ∧
  (∀ (p : Port) (l : Fin 9) (bits : List Bool) (x : LaneTest) (c : Checker), s.portState p.idx = 8 →
    (s.port p.idx).test = some x → bitOf x.lanes l = true →
    ((s.port p.idx).lanes[l]).checker.take x.pattern (if s.bit (Reg.LN_LANE_RX p.idx l) 29 = true then bits.map (!·) else bits) = c →
    ∃ t, exec (.prbsCheckerLock p l bits) s = .next t ∧ t.bit (Reg.LN_TEST_STAT p.idx) l = c.lock ∧
    Counted s t (Reg.LN_PRBS_ERR_CNT p.idx l) c.errs ∧ ((t.port p.idx).lanes[l]).checker = { c with errs := 0 } ∧
    (∀ k : Fin 32, k.val ≠ l.val → t.bit (Reg.LN_TEST_STAT p.idx) k = s.bit (Reg.LN_TEST_STAT p.idx) k) ∧ (∀ u : Fin 2,
    u ≠ p.idx → t.port u = s.port u) ∧ Frame s t [.pkt] (fun a => a = Reg.LN_TEST_STAT p.idx ∨
    a = Reg.LN_PRBS_ERR_CNT p.idx l)) ∧
  (∀ (p : Port) (l : Fin 9) (bits : List Bool), s.portState p.idx ≠ 8 ∨
    ((s.port p.idx).test.all fun x => !bitOf x.lanes l) = true → exec (.prbsCheckerLock p l bits) s = .next s) ∧
  (∀ (p : Port) (l : Fin 9) (bits : List Bool) (x : LaneTest) (c : Checker), s.portState p.idx = 8 →
    (s.port p.idx).test = some x → bitOf x.lanes l = true →
    ((s.port p.idx).lanes[l]).checker.take x.pattern (if s.bit (Reg.LN_LANE_RX p.idx l) 29 = true then bits.map (!·) else bits) = c →
    ∃ t, exec (.prbsCheckerLockLoss p l bits) s = .next t ∧ t.bit (Reg.LN_TEST_STAT p.idx) l = c.lock ∧
    Counted s t (Reg.LN_PRBS_ERR_CNT p.idx l) c.errs ∧ ((t.port p.idx).lanes[l]).checker = { c with errs := 0 } ∧
    (∀ k : Fin 32, k.val ≠ l.val → t.bit (Reg.LN_TEST_STAT p.idx) k = s.bit (Reg.LN_TEST_STAT p.idx) k) ∧ (∀ u : Fin 2,
    u ≠ p.idx → t.port u = s.port u) ∧ Frame s t [.pkt] (fun a => a = Reg.LN_TEST_STAT p.idx ∨
    a = Reg.LN_PRBS_ERR_CNT p.idx l)) ∧
  (∀ (p : Port) (l : Fin 9) (bits : List Bool), s.portState p.idx ≠ 8 ∨
    ((s.port p.idx).test.all fun x => !bitOf x.lanes l) = true → exec (.prbsCheckerLockLoss p l bits) s = .next s) ∧
  (∀ (p : Port) (w : Word), s.writable = true → ∃ t, exec (.errorInject p w) s = .next t ∧
    t.fld (Reg.LN_TEST_INJ p.idx) 30 30 = fldOf w 30 30 ∧ t.fld (Reg.LN_TEST_INJ p.idx) 21 16 = fldOf w 21 16 ∧
    t.fld (Reg.LN_TEST_INJ p.idx) 3 0 = fldOf w 3 0 ∧ t.out = (if bitOf w.toNat 31 = true ∧ s.mode = .ready ∧
    (s.portState p.idx = 8 ∨
    s.portState p.idx = 5) then .inject p.idx (fldOf w 3 0) (if bitOf w.toNat 30 = true then fldOf w 21 16 + 1 else 1) :: s.out else s.out) ∧
    (∀ k : Fin 9, k.val = fldOf w 3 0 → bitOf w.toNat 31 = true → s.mode = .ready → (s.portState p.idx = 8 ∨
    s.portState p.idx = 5) →
    ((t.port p.idx).lanes[k]).flips = ((s.port p.idx).lanes[k]).flips ++ [(32 * (s.now - ((s.port p.idx).lanes[k]).lineAt),
    if bitOf w.toNat 30 = true then fldOf w 21 16 + 1 else 1)]) ∧ (∀ k : Fin 9, k.val ≠ fldOf w 3 0 →
    (t.port p.idx).lanes[k] = (s.port p.idx).lanes[k]) ∧ (∀ u : Fin 2, u ≠ p.idx → t.port u = s.port u) ∧ Frame s t [.pkt,
    .out] (fun a => a = Reg.LN_TEST_INJ p.idx)) ∧
  (∀ (p : Port) (w : Word), s.writable = false → exec (.errorInject p w) s = .next s)

/-- PARCEL_RECEIVE of words on the lanes in use that form the data sets of a parcel on an UP port counts a bad header check and
does nothing more; a parcel of a reserved plane and subtype counts as malformed; one that fails the form check counts as
malformed and gives its credits back; one whose trailer is the inverted CRC counts as stomped, any other trailer fault or an
errored word as a CRC error, each giving its credits back; on a baseband port, where nothing was forwarded, no other effect
follows (R368, R369, R400, R405, R425, R426). Each with its frame. -/
def Obligations.ReceivedParcelChecks : Prop := ∀ s : State, s.Canon →
  (∀ (p : Port) (lanes : Vector (List LaneWord) 9) (sop : Stamp) (upsets : List (Nat × Upset)) (bytes : List Byte) (errored : Bool),
    s.portUp p.idx = true → readSets (s.rxWidth p.idx) (s.setsOf p.idx lanes) = (bytes, errored) →
    beginsParcel (s.setsOf p.idx lanes) = true → bytes.length < 16 ∨ crc8 (bytes.take 15) ≠ byteAt bytes 15 → ∃ t,
    exec (.parcelReceive p lanes sop upsets) s = .next t ∧ Counted s t (Reg.PKT_HDR_ERR_CNT p.idx) 1 ∧
    Frame s t [] (fun a => a = Reg.PKT_HDR_ERR_CNT p.idx)) ∧
  (∀ (p : Port) (lanes : Vector (List LaneWord) 9) (sop : Stamp) (upsets : List (Nat × Upset)) (bytes : List Byte) (errored : Bool),
    s.portUp p.idx = true → readSets (s.rxWidth p.idx) (s.setsOf p.idx lanes) = (bytes, errored) →
    beginsParcel (s.setsOf p.idx lanes) = true → 16 ≤ bytes.length → crc8 (bytes.take 15) = byteAt bytes 15 →
    queueOf (parseHeader bytes).plane (parseHeader bytes).sub = none → ∃ t,
    exec (.parcelReceive p lanes sop upsets) s = .next t ∧ Counted s t (Reg.PKT_MALFORMED_CNT p.idx) 1 ∧
    Frame s t [] (fun a => a = Reg.PKT_MALFORMED_CNT p.idx)) ∧
  (∀ (p : Port) (lanes : Vector (List LaneWord) 9) (sop : Stamp) (upsets : List (Nat × Upset)) (bytes : List Byte) (errored : Bool) (q : Fin 8),
    s.portUp p.idx = true → readSets (s.rxWidth p.idx) (s.setsOf p.idx lanes) = (bytes, errored) →
    beginsParcel (s.setsOf p.idx lanes) = true → 16 ≤ bytes.length → crc8 (bytes.take 15) = byteAt bytes 15 →
    queueOf (parseHeader bytes).plane (parseHeader bytes).sub = some q →
    s.formOk (parseHeader bytes) (headerLen bytes) ((bytes.drop 16 ++ List.replicate (headerLen bytes) 0).take (headerLen bytes)) = false →
    ∃ t, exec (.parcelReceive p lanes sop upsets) s = .next t ∧ Counted s t (Reg.PKT_MALFORMED_CNT p.idx) 1 ∧
    ((t.port p.idx).queues[q]).freed = ((s.port p.idx).queues[q]).freed + creditsFor (headerLen bytes) ∧ (∀ k : Fin 8, k ≠ q →
    (t.port p.idx).queues[k] = (s.port p.idx).queues[k]) ∧ (∀ u : Fin 2, u ≠ p.idx → t.port u = s.port u) ∧
    Frame s t [.pkt] (fun a => a = Reg.PKT_MALFORMED_CNT p.idx)) ∧
  (∀ (p : Port) (lanes : Vector (List LaneWord) 9) (sop : Stamp) (upsets : List (Nat × Upset)) (bytes : List Byte) (errored : Bool) (q : Fin 8),
    s.portUp p.idx = true → readSets (s.rxWidth p.idx) (s.setsOf p.idx lanes) = (bytes, errored) →
    beginsParcel (s.setsOf p.idx lanes) = true → 16 ≤ bytes.length → crc8 (bytes.take 15) = byteAt bytes 15 →
    queueOf (parseHeader bytes).plane (parseHeader bytes).sub = some q →
    s.formOk (parseHeader bytes) (headerLen bytes) ((bytes.drop 16 ++ List.replicate (headerLen bytes) 0).take (headerLen bytes)) = true →
    20 + (headerLen bytes) ≤ bytes.length →
    fieldAt bytes (16 + (headerLen bytes)) 4 ≠ crc32 (bytes.take (16 + (headerLen bytes))) ∨ errored = true →
    fieldAt bytes (16 + (headerLen bytes)) 4 = 0xFFFFFFFF - crc32 (bytes.take (16 + (headerLen bytes))) →
    s.basebandPort p.idx = true → ∃ t, exec (.parcelReceive p lanes sop upsets) s = .next t ∧
    Counted s t (Reg.PKT_STOMP_CNT p.idx) 1 ∧
    ((t.port p.idx).queues[q]).freed = ((s.port p.idx).queues[q]).freed + creditsFor (headerLen bytes) ∧ (∀ k : Fin 8, k ≠ q →
    (t.port p.idx).queues[k] = (s.port p.idx).queues[k]) ∧ (∀ u : Fin 2, u ≠ p.idx → t.port u = s.port u) ∧
    Frame s t [.pkt] (fun a => a = Reg.PKT_STOMP_CNT p.idx)) ∧
  (∀ (p : Port) (lanes : Vector (List LaneWord) 9) (sop : Stamp) (upsets : List (Nat × Upset)) (bytes : List Byte) (errored : Bool) (q : Fin 8),
    s.portUp p.idx = true → readSets (s.rxWidth p.idx) (s.setsOf p.idx lanes) = (bytes, errored) →
    beginsParcel (s.setsOf p.idx lanes) = true → 16 ≤ bytes.length → crc8 (bytes.take 15) = byteAt bytes 15 →
    queueOf (parseHeader bytes).plane (parseHeader bytes).sub = some q →
    s.formOk (parseHeader bytes) (headerLen bytes) ((bytes.drop 16 ++ List.replicate (headerLen bytes) 0).take (headerLen bytes)) = true →
    bytes.length < 20 + (headerLen bytes) ∨
    (fieldAt bytes (16 + (headerLen bytes)) 4 ≠ 0xFFFFFFFF - crc32 (bytes.take (16 + (headerLen bytes))) ∧
    (fieldAt bytes (16 + (headerLen bytes)) 4 ≠ crc32 (bytes.take (16 + (headerLen bytes))) ∨ errored = true)) →
    s.basebandPort p.idx = true → ∃ t, exec (.parcelReceive p lanes sop upsets) s = .next t ∧
    Counted s t (Reg.PKT_CRC_ERR_CNT p.idx) 1 ∧
    ((t.port p.idx).queues[q]).freed = ((s.port p.idx).queues[q]).freed + creditsFor (headerLen bytes) ∧ (∀ k : Fin 8, k ≠ q →
    (t.port p.idx).queues[k] = (s.port p.idx).queues[k]) ∧ (∀ u : Fin 2, u ≠ p.idx → t.port u = s.port u) ∧
    Frame s t [.pkt] (fun a => a = Reg.PKT_CRC_ERR_CNT p.idx)) ∧
  (∀ (p : Port) (lanes : Vector (List LaneWord) 9) (sop : Stamp) (upsets : List (Nat × Upset)), s.portUp p.idx = false ∨
    beginsParcel (s.setsOf p.idx lanes) = false → exec (.parcelReceive p lanes sop upsets) s = .next s)

/-- An intact management request to this chip that is next in sequence joins the requests that wait, with its source and
payload, moves the expected sequence on and is acknowledged (R407, R419, R420, R424). One received before is counted and
acknowledged again; one behind a gap is not taken (R407). Its credits are given back in every case (R405). Each with its frame.
-/
def Obligations.ManagementRequestParcels : Prop := ∀ s : State, s.Canon →
  (∀ (p : Port) (lanes : Vector (List LaneWord) 9) (sop : Stamp) (upsets : List (Nat × Upset)) (bytes : List Byte) (errored : Bool),
    s.portUp p.idx = true → readSets (s.rxWidth p.idx) (s.setsOf p.idx lanes) = (bytes, errored) →
    beginsParcel (s.setsOf p.idx lanes) = true → 16 ≤ bytes.length → crc8 (bytes.take 15) = byteAt bytes 15 →
    s.formOk (parseHeader bytes) (headerLen bytes) ((bytes.drop 16 ++ List.replicate (headerLen bytes) 0).take (headerLen bytes)) = true →
    20 + (headerLen bytes) ≤ bytes.length →
    fieldAt bytes (16 + (headerLen bytes)) 4 = crc32 (bytes.take (16 + (headerLen bytes))) → errored = false →
    (parseHeader bytes).plane = 4 → (parseHeader bytes).sub = 0 → flowDest (parseHeader bytes).flow = s.position →
    ((parseHeader bytes).seq + 2 ^ 32 - ((s.port p.idx).queues[(7 : Fin 8)]).expect) % 2 ^ 32 = 0 → ∃ t,
    exec (.parcelReceive p lanes sop upsets) s = .next t ∧
    t.pkt.requests = s.pkt.requests ++ [(flowSrc (parseHeader bytes).flow, s.now,
    ((bytes.drop 16 ++ List.replicate (headerLen bytes) 0).take (headerLen bytes)))] ∧
    ((t.port p.idx).queues[(7 : Fin 8)]).expect = ((parseHeader bytes).seq + 1) % 2 ^ 32 ∧
    ((t.port p.idx).queues[(7 : Fin 8)]).freed = ((s.port p.idx).queues[(7 : Fin 8)]).freed + creditsFor (headerLen bytes) ∧
    (s.txAwake p.idx = true →
    t.out = .bch p.idx (bchBytes 0x82 (7 * 0x1000000 + (parseHeader bytes).seq % 0x1000000)) :: s.out) ∧
    (s.txAwake p.idx = false → (t.port p.idx).bchWait = (s.port p.idx).bchWait ++ [(0x82,
    7 * 0x1000000 + (parseHeader bytes).seq % 0x1000000)]) ∧ (∀ u : Fin 2, u ≠ p.idx → t.port u = s.port u) ∧ (∀ a,
    t.memGet a = s.memGet a) ∧ Frame s t [.pkt, .mem, .out] noRegs) ∧
  (∀ (p : Port) (lanes : Vector (List LaneWord) 9) (sop : Stamp) (upsets : List (Nat × Upset)) (bytes : List Byte) (errored : Bool),
    s.portUp p.idx = true → readSets (s.rxWidth p.idx) (s.setsOf p.idx lanes) = (bytes, errored) →
    beginsParcel (s.setsOf p.idx lanes) = true → 16 ≤ bytes.length → crc8 (bytes.take 15) = byteAt bytes 15 →
    s.formOk (parseHeader bytes) (headerLen bytes) ((bytes.drop 16 ++ List.replicate (headerLen bytes) 0).take (headerLen bytes)) = true →
    20 + (headerLen bytes) ≤ bytes.length →
    fieldAt bytes (16 + (headerLen bytes)) 4 = crc32 (bytes.take (16 + (headerLen bytes))) → errored = false →
    (parseHeader bytes).plane = 4 → (parseHeader bytes).sub = 0 → flowDest (parseHeader bytes).flow = s.position →
    2 ^ 31 ≤ ((parseHeader bytes).seq + 2 ^ 32 - ((s.port p.idx).queues[(7 : Fin 8)]).expect) % 2 ^ 32 → ∃ t,
    exec (.parcelReceive p lanes sop upsets) s = .next t ∧ t.pkt.requests = s.pkt.requests ∧
    ((t.port p.idx).queues[(7 : Fin 8)]).expect = ((s.port p.idx).queues[(7 : Fin 8)]).expect ∧
    Counted s t (Reg.PKT_DUP_CNT p.idx) 1 ∧ (∀ u : Fin 2, u ≠ p.idx → t.port u = s.port u) ∧ (∀ a, t.memGet a = s.memGet a) ∧
    Frame s t [.pkt, .mem, .out] (fun a => a = Reg.PKT_DUP_CNT p.idx)) ∧
  (∀ (p : Port) (lanes : Vector (List LaneWord) 9) (sop : Stamp) (upsets : List (Nat × Upset)) (bytes : List Byte) (errored : Bool),
    s.portUp p.idx = true → readSets (s.rxWidth p.idx) (s.setsOf p.idx lanes) = (bytes, errored) →
    beginsParcel (s.setsOf p.idx lanes) = true → 16 ≤ bytes.length → crc8 (bytes.take 15) = byteAt bytes 15 →
    s.formOk (parseHeader bytes) (headerLen bytes) ((bytes.drop 16 ++ List.replicate (headerLen bytes) 0).take (headerLen bytes)) = true →
    20 + (headerLen bytes) ≤ bytes.length →
    fieldAt bytes (16 + (headerLen bytes)) 4 = crc32 (bytes.take (16 + (headerLen bytes))) → errored = false →
    (parseHeader bytes).plane = 4 → (parseHeader bytes).sub = 0 → flowDest (parseHeader bytes).flow = s.position →
    0 < ((parseHeader bytes).seq + 2 ^ 32 - ((s.port p.idx).queues[(7 : Fin 8)]).expect) % 2 ^ 32 →
    ((parseHeader bytes).seq + 2 ^ 32 - ((s.port p.idx).queues[(7 : Fin 8)]).expect) % 2 ^ 32 < 2 ^ 31 → ∃ t,
    exec (.parcelReceive p lanes sop upsets) s = .next t ∧ t.pkt.requests = s.pkt.requests ∧
    ((t.port p.idx).queues[(7 : Fin 8)]).expect = ((s.port p.idx).queues[(7 : Fin 8)]).expect ∧
    (((s.port p.idx).queues[(7 : Fin 8)]).nack = none →
    ((t.port p.idx).queues[(7 : Fin 8)]).nack = some (((s.port p.idx).queues[(7 : Fin 8)]).expect, s.now)) ∧ (∀ u : Fin 2,
    u ≠ p.idx → t.port u = s.port u) ∧ (∀ a, t.memGet a = s.memGet a) ∧ Frame s t [.pkt, .mem, .out] noRegs)

/-- PARCEL_RECEIVE of an intact parcel of any plane completes, and whatever the parcel carries, it changes no part of the state
and no register beside those that its queue, its judge, its routing and its consumer own: in particular the mode, the paths, the
clocks, the sensors, the flash and the keeper store stay (R400 to R426, R443 to R446, R570, R571). -/
def Obligations.ParcelReceiveFrame : Prop := ∀ s : State, s.Canon →
  (∀ (p : Port) (lanes : Vector (List LaneWord) 9) (sop : Stamp) (upsets : List (Nat × Upset)) (bytes : List Byte) (errored : Bool),
    s.portUp p.idx = true → readSets (s.rxWidth p.idx) (s.setsOf p.idx lanes) = (bytes, errored) →
    beginsParcel (s.setsOf p.idx lanes) = true → 16 ≤ bytes.length → crc8 (bytes.take 15) = byteAt bytes 15 →
    s.formOk (parseHeader bytes) (headerLen bytes) ((bytes.drop 16 ++ List.replicate (headerLen bytes) 0).take (headerLen bytes)) = true →
    20 + (headerLen bytes) ≤ bytes.length →
    fieldAt bytes (16 + (headerLen bytes)) 4 = crc32 (bytes.take (16 + (headerLen bytes))) → errored = false → ∃ t,
    exec (.parcelReceive p lanes sop upsets) s = .next t ∧ t.now = s.now ∧ (∀ a, t.memGet a = s.memGet a) ∧ Frame s t [.seq,
    .rcd, .pkt, .bmx, .ulr, .mem, .freeIdx, .out] (fun a => a ∈ [Reg.BMX_CACHE_STAT, Reg.KPR_NOT_LIVE_CNT, Reg.MEM_CE_CNT,
    Reg.MEM_ERR_ADDR, Reg.MEM_ERR_STAT, Reg.MEM_POISON_CNT, Reg.MEM_SRAM_CE_CNT, Reg.MEM_SRAM_UE_CNT, Reg.MEM_UE_CNT,
    Reg.SEQ_DROP_ORDER_CNT, Reg.SEQ_LEAN, Reg.TIM_PATH_CHANGE_CNT, Reg.TIM_QUAL, Reg.TIM_QUAL_CHANGE_CNT, Reg.TIM_STAMP_PTR,
    Reg.WSV_REFUSE_CNT, Reg.WSV_STAT] ∨ arr 2 Reg.BMX_INLINE_REFUSE_CNT a ∨ arr 2 Reg.BMX_INLINE_USED a ∨
    arr 4 Reg.BMX_STEER_REFUSE_CNT a ∨ arr 4 Reg.BMX_UL_SAT_CNT a ∨ arr 2 Reg.MEM_CH_STAT a ∨ arr 2 Reg.PKT_CRC_ERR_CNT a ∨
    arr 4 Reg.PKT_C_EARLY_CNT a ∨ arr 4 Reg.PKT_C_LATE_CNT a ∨ arr 4 Reg.PKT_DIR_MISMATCH_CNT a ∨ arr 2 Reg.PKT_DUP_CNT a ∨
    arr 4 Reg.PKT_FOREIGN_CNT a ∨ arr 4 Reg.PKT_FWD_LATE_CNT a ∨ arr 2 Reg.PKT_HDR_ERR_CNT a ∨ arr 2 Reg.PKT_LOST_CNT a ∨
    arr 2 Reg.PKT_MALFORMED_CNT a ∨ arr 4 Reg.PKT_OVERLAP_CNT a ∨ arr 2 Reg.PKT_STOMP_CNT a ∨ arr 4 Reg.PKT_UDL_EARLY_CNT a ∨
    arr 4 Reg.PKT_UDL_LATE_CNT a ∨ arr 4 Reg.PKT_UDL_OVERLAP_CNT a ∨ arr 2 Reg.PKT_WIN_FULL_CNT a ∨
    arr 4 Reg.SYM_BFP_SAT_CNT a ∨ arr 4 Reg.SYM_PRACH_REFUSE_CNT a ∨ arr 4 Reg.SYM_SRS_REFUSE_CNT a ∨
    arr 2 Reg.TIM_PTP_RX_CNT a ∨ arr 2 Reg.TIM_PTP_UNSUP_CNT a ∨ arr2 256 20 Reg.TIM_STAMP_RING a ∨
    arr 4 Reg.ULR_REFUSE_CNT a ∨ eventRegs 0x0101 a ∨ eventRegs 0x0103 a ∨ eventRegs 0x0501 a ∨ eventRegs 0x0502 a ∨
    eventRegs 0x0E01 a))

/-- PARCEL_TRANSMIT on an UP, awake port with nothing over the age limit sends the head of the queue that R403 names: a new
parcel without deadline leaves with the next sequence number, spends its credits and is kept on a reliable queue (R398, R405,
R408); a copy leaves with retx and its old sequence and is counted (R408). Aged parcels never leave (R404). AGE_LIMIT_DROP drops
and counts those of one queue (R404). Each with its frame. -/
def Obligations.TransmittedParcels : Prop := ∀ s : State, s.Canon →
  (∀ (p : Port) (egr : Stamp) (q : Fin 8) (x : Parcel), s.portUp p.idx = true → s.txAwake p.idx = true → (∀ k : Fin 8,
    (((s.port p.idx).queues[k]).wait.all fun y => !s.aged k y) = true) → s.nextQueue p.idx = some q →
    ((s.port p.idx).queues[q]).next = some (x, none) → x.plane ≠ 3 → x.due = none → ∃ t,
    exec (.parcelTransmit p egr) s = .next t ∧
    t.out = .parcel p.idx (parcelBytes { plane := x.plane, sub := x.sub, judged := x.judged, bits := setBitTo x.bits 6 (bitOf x.bits 6), flow := x.flow, seq := ((s.port p.idx).queues[q]).nextSeq, air := x.air } x.payload x.stomp) :: s.out ∧
    t.fld (Reg.PKT_CREDIT p.idx q) 23 0 = s.fld (Reg.PKT_CREDIT p.idx q) 23 0 - creditsFor x.payload.length ∧
    ((t.port p.idx).queues[q]).wait = ((s.port p.idx).queues[q]).wait.drop 1 ∧
    ((t.port p.idx).queues[q]).nextSeq = (((s.port p.idx).queues[q]).nextSeq + 1) % 2 ^ 32 ∧
    ((t.port p.idx).queues[q]).kept = (if reliable q = true then ((s.port p.idx).queues[q]).kept ++ [{ seq := ((s.port p.idx).queues[q]).nextSeq, parcel := x, sentAt := s.now }] else ((s.port p.idx).queues[q]).kept) ∧
    (t.port p.idx).idleSince = s.now ∧ (∀ k : Fin 8, k ≠ q → (t.port p.idx).queues[k] = (s.port p.idx).queues[k]) ∧
    (∀ u : Fin 2, u ≠ p.idx → t.port u = s.port u) ∧ Frame s t [.pkt, .out] (fun a => a = Reg.PKT_CREDIT p.idx q)) ∧
  (∀ (p : Port) (egr : Stamp) (q : Fin 8) (x : Parcel) (n : Nat), s.portUp p.idx = true → s.txAwake p.idx = true →
    (∀ k : Fin 8, (((s.port p.idx).queues[k]).wait.all fun y => !s.aged k y) = true) → s.nextQueue p.idx = some q →
    ((s.port p.idx).queues[q]).next = some (x, some n) → ∃ t, exec (.parcelTransmit p egr) s = .next t ∧
    t.out = .parcel p.idx (parcelBytes { plane := x.plane, sub := x.sub, judged := x.judged, bits := setBitTo x.bits 6 true, flow := x.flow, seq := n, air := x.air } x.payload x.stomp) :: s.out ∧
    t.fld (Reg.PKT_CREDIT p.idx q) 23 0 = s.fld (Reg.PKT_CREDIT p.idx q) 23 0 - creditsFor x.payload.length ∧
    Counted s t (Reg.PKT_RETX_CNT p.idx) 1 ∧ ((t.port p.idx).queues[q]).wait = ((s.port p.idx).queues[q]).wait ∧
    (((t.port p.idx).queues[q]).kept = ((s.port p.idx).queues[q]).kept.map fun k => if k.seq = n then { k with again := false, resends := k.resends + 1, sentAt := s.now } else k) ∧
    (∀ k : Fin 8, k ≠ q → (t.port p.idx).queues[k] = (s.port p.idx).queues[k]) ∧ (∀ u : Fin 2, u ≠ p.idx →
    t.port u = s.port u) ∧ Frame s t [.pkt, .out] (fun a => a = Reg.PKT_CREDIT p.idx q ∨ a = Reg.PKT_RETX_CNT p.idx)) ∧
  (∀ (p : Port) (egr : Stamp), s.portUp p.idx = true → s.txAwake p.idx = true → ∃ t, exec (.parcelTransmit p egr) s = .next t ∧
    (∀ q : Fin 8, ∀ x ∈ ((t.port p.idx).queues[q]).wait, x ∈ ((s.port p.idx).queues[q]).wait ∧ s.aged q x = false) ∧
    (∀ u : Fin 2, u ≠ p.idx → t.port u = s.port u) ∧ Frame s t [.tim, .pkt, .out] (fun a => a ∈ [Reg.TIM_DREQ_CTL,
    Reg.TIM_STAMP_PTR] ∨ arr 2 Reg.TIM_FU_MISS_CNT a ∨ arr2 256 20 Reg.TIM_STAMP_RING a ∨ arr 2 Reg.TIM_TC_CNT a ∨
    arr 4 Reg.ULR_LATE_OUT_CNT a ∨ arr 8 (Reg.PKT_CREDIT p.idx) a ∨ a = Reg.PKT_RETX_CNT p.idx ∨
    arr 8 (Reg.PKT_SHED_CNT p.idx) a ∨ (∃ q : Fin 8,
    (((s.port p.idx).queues[q]).wait.any fun x => x.due.map (·.1) == some a) = true))) ∧
  (∀ (p : Port) (egr : Stamp), s.portUp p.idx = false ∨ s.txAwake p.idx = false → exec (.parcelTransmit p egr) s = .next s) ∧
  (∀ (p : Port) (q : Fin 8), ∃ t, exec (.ageLimitDrop p q) s = .next t ∧
    ((t.port p.idx).queues[q]) = { ((s.port p.idx).queues[q]) with wait := ((s.port p.idx).queues[q]).wait.filter fun x => !s.aged q x } ∧
    Counted s t (Reg.PKT_SHED_CNT p.idx q) (((s.port p.idx).queues[q]).wait.countP fun x => s.aged q x) ∧ (∀ k : Fin 8, k ≠ q →
    (t.port p.idx).queues[k] = (s.port p.idx).queues[k]) ∧ (∀ u : Fin 2, u ≠ p.idx → t.port u = s.port u) ∧
    Frame s t [.pkt] (fun a => a = Reg.PKT_SHED_CNT p.idx q))

/-- CREDIT_GRANT grants the freed credits of a queue with a CREDIT message; BCH_CREDIT adds what a cumulative count grants
(R405, R406). BCH_ACK releases the copies up to its sequence (R407, R408). BCH_NACK and RETX_TIMEOUT mark every unacknowledged
copy of a reliable queue to be sent again, and drop and count those sent often enough (R408, R409). BCH_RESYNC sets the expected
sequence and counts the gap as lost (R409). A set without a valid copy is counted (R381). Each with its frame. -/
def Obligations.CreditsAndAcknowledgements : Prop := ∀ s : State, s.Canon →
  (∀ (p : Port) (q : Fin 8), s.portUp p.idx = true → ((s.port p.idx).queues[q]).freed ≠ 0 → ∃ t,
    exec (.creditGrant p q) s = .next t ∧
    ((t.port p.idx).queues[q]) = { ((s.port p.idx).queues[q]) with given := (((s.port p.idx).queues[q]).given + ((s.port p.idx).queues[q]).freed) % 0x1000000, freed := 0 } ∧
    (s.txAwake p.idx = true →
    t.out = .bch p.idx (bchBytes 0x81 (q * 0x1000000 + (((s.port p.idx).queues[q]).given + ((s.port p.idx).queues[q]).freed) % 0x1000000)) :: s.out) ∧
    (∀ k : Fin 8, k ≠ q → (t.port p.idx).queues[k] = (s.port p.idx).queues[k]) ∧ (∀ u : Fin 2, u ≠ p.idx →
    t.port u = s.port u) ∧ Frame s t [.pkt, .out] noRegs) ∧
  (∀ (p : Port) (q : Fin 8), s.portUp p.idx = false ∨ ((s.port p.idx).queues[q]).freed = 0 →
    exec (.creditGrant p q) s = .next s) ∧
  (∀ (p : Port) (copies : List (Vector Byte 8)) (bs : List Byte) (q : Fin 8) (n : Nat), bchRead copies = some bs →
    byteAt bs 1 = 0x81 → q = bchQueue bs → n = bchNumber bs → s.portUp p.idx = true → ∃ t,
    exec (.bchCredit p copies) s = .next t ∧ ((t.port p.idx).queues[q]) = { ((s.port p.idx).queues[q]) with granted := n } ∧
    t.fld (Reg.PKT_CREDIT p.idx q) 23 0 = (s.fld (Reg.PKT_CREDIT p.idx q) 23 0 + (n + 0x1000000 - ((s.port p.idx).queues[q]).granted) % 0x1000000) % 2 ^ 24 ∧
    (∀ k : Fin 8, k ≠ q → (t.port p.idx).queues[k] = (s.port p.idx).queues[k]) ∧ (∀ u : Fin 2, u ≠ p.idx →
    t.port u = s.port u) ∧ Frame s t [.pkt] (fun a => a = Reg.PKT_CREDIT p.idx q)) ∧
  (∀ (p : Port) (copies : List (Vector Byte 8)), bchRead copies = none → ∃ t, exec (.bchCredit p copies) s = .next t ∧
    Counted s t (Reg.LN_BCH_ERR_CNT p.idx) 1 ∧ Frame s t [] (fun a => a = Reg.LN_BCH_ERR_CNT p.idx)) ∧
  (∀ (p : Port) (copies : List (Vector Byte 8)) (bs : List Byte) (q : Fin 8) (n : Nat), bchRead copies = some bs →
    byteAt bs 1 = 0x82 → q = bchQueue bs → n = bchNumber bs → s.portUp p.idx = true → ∃ t,
    exec (.bchAck p copies) s = .next t ∧
    ((t.port p.idx).queues[q]) = { ((s.port p.idx).queues[q]) with kept := unacked n ((s.port p.idx).queues[q]).kept } ∧
    (∀ k : Fin 8, k ≠ q → (t.port p.idx).queues[k] = (s.port p.idx).queues[k]) ∧ (∀ u : Fin 2, u ≠ p.idx →
    t.port u = s.port u) ∧ Frame s t [.pkt] noRegs) ∧
  (∀ (p : Port) (copies : List (Vector Byte 8)), bchRead copies = none → ∃ t, exec (.bchAck p copies) s = .next t ∧
    Counted s t (Reg.LN_BCH_ERR_CNT p.idx) 1 ∧ Frame s t [] (fun a => a = Reg.LN_BCH_ERR_CNT p.idx)) ∧
  (∀ (p : Port) (copies : List (Vector Byte 8)) (bs : List Byte) (q : Fin 8) (n : Nat), bchRead copies = some bs →
    byteAt bs 1 = 0x83 → q = bchQueue bs → n = bchNumber bs → s.portUp p.idx = true → reliable q = true → ∃ t,
    exec (.bchNack p copies) s = .next t ∧
    (((s.port p.idx).queues[q]).kept.all (fun k => decide (k.resends < resendLimit q)) = true →
    ((t.port p.idx).queues[q]).kept = ((s.port p.idx).queues[q]).kept.map (fun k => { k with again := true }) ∧ t.out = s.out ∧
    t.rd (Reg.PKT_RETX_FAIL_CNT p.idx) = s.rd (Reg.PKT_RETX_FAIL_CNT p.idx)) ∧
    (((t.port p.idx).queues[q]).kept = (((s.port p.idx).queues[q]).kept.filter fun k => decide (k.resends < resendLimit q)).map fun k => { k with again := true }) ∧
    Counted s t (Reg.PKT_RETX_FAIL_CNT p.idx) (((s.port p.idx).queues[q]).kept.countP fun k => decide (resendLimit q ≤ k.resends)) ∧
    ((t.port p.idx).queues[q]).wait = ((s.port p.idx).queues[q]).wait ∧ (∀ k : Fin 8, k ≠ q →
    (t.port p.idx).queues[k] = (s.port p.idx).queues[k]) ∧ (∀ u : Fin 2, u ≠ p.idx → t.port u = s.port u) ∧ Frame s t [.rcd,
    .pkt, .out] (fun a => eventRegs 0x0403 a ∨ a = Reg.PKT_RETX_FAIL_CNT p.idx)) ∧
  (∀ (p : Port) (copies : List (Vector Byte 8)), bchRead copies = none → ∃ t, exec (.bchNack p copies) s = .next t ∧
    Counted s t (Reg.LN_BCH_ERR_CNT p.idx) 1 ∧ Frame s t [] (fun a => a = Reg.LN_BCH_ERR_CNT p.idx)) ∧
  (∀ (p : Port) (copies : List (Vector Byte 8)) (bs : List Byte) (q : Fin 8) (n : Nat), bchRead copies = some bs →
    byteAt bs 1 = 0x84 → q = bchQueue bs → n = bchNumber bs → s.portUp p.idx = true → reliable q = true →
    (n + 0x1000000 - ((s.port p.idx).queues[q]).expect % 0x1000000) % 0x1000000 < 2 ^ 23 → ∃ t,
    exec (.bchResync p copies) s = .next t ∧ ((t.port p.idx).queues[q]).expect % 0x1000000 = n ∧
    ((t.port p.idx).queues[q]).nack = none ∧
    Counted s t (Reg.PKT_LOST_CNT p.idx) ((n + 0x1000000 - ((s.port p.idx).queues[q]).expect % 0x1000000) % 0x1000000) ∧
    (∀ k : Fin 8, k ≠ q → (t.port p.idx).queues[k] = (s.port p.idx).queues[k]) ∧ (∀ u : Fin 2, u ≠ p.idx →
    t.port u = s.port u) ∧ Frame s t [.pkt] (fun a => a = Reg.PKT_LOST_CNT p.idx)) ∧
  (∀ (p : Port) (copies : List (Vector Byte 8)) (bs : List Byte) (q : Fin 8) (n : Nat), bchRead copies = some bs →
    byteAt bs 1 = 0x84 → q = bchQueue bs → n = bchNumber bs → s.portUp p.idx = true → reliable q = true →
    2 ^ 23 ≤ (n + 0x1000000 - ((s.port p.idx).queues[q]).expect % 0x1000000) % 0x1000000 → ∃ t,
    exec (.bchResync p copies) s = .next t ∧ ((t.port p.idx).queues[q]).expect % 0x1000000 = n ∧
    ((t.port p.idx).queues[q]).nack = none ∧ (∀ k : Fin 8, k ≠ q → (t.port p.idx).queues[k] = (s.port p.idx).queues[k]) ∧
    (∀ u : Fin 2, u ≠ p.idx → t.port u = s.port u) ∧ Frame s t [.pkt] noRegs) ∧
  (∀ (p : Port) (copies : List (Vector Byte 8)), bchRead copies = none → ∃ t, exec (.bchResync p copies) s = .next t ∧
    Counted s t (Reg.LN_BCH_ERR_CNT p.idx) 1 ∧ Frame s t [] (fun a => a = Reg.LN_BCH_ERR_CNT p.idx)) ∧
  (∀ (p : Port) (q : Fin 8) (k : Kept), ((s.port p.idx).queues[q]).kept.head? = some k → s.portUp p.idx = true →
    reliable q = true → k.again = false →
    usPassed (s.now - k.sentAt) (if q.val = 1 then 5 else if q.val = 5 then 10 else 100) = true → ∃ t,
    exec (.retxTimeout p q) s = .next t ∧
    (((s.port p.idx).queues[q]).kept.all (fun k => decide (k.resends < resendLimit q)) = true →
    ((t.port p.idx).queues[q]).kept = ((s.port p.idx).queues[q]).kept.map (fun k => { k with again := true }) ∧ t.out = s.out ∧
    t.rd (Reg.PKT_RETX_FAIL_CNT p.idx) = s.rd (Reg.PKT_RETX_FAIL_CNT p.idx)) ∧
    (((t.port p.idx).queues[q]).kept = (((s.port p.idx).queues[q]).kept.filter fun k => decide (k.resends < resendLimit q)).map fun k => { k with again := true }) ∧
    Counted s t (Reg.PKT_RETX_FAIL_CNT p.idx) (((s.port p.idx).queues[q]).kept.countP fun k => decide (resendLimit q ≤ k.resends)) ∧
    ((t.port p.idx).queues[q]).wait = ((s.port p.idx).queues[q]).wait ∧ (∀ k : Fin 8, k ≠ q →
    (t.port p.idx).queues[k] = (s.port p.idx).queues[k]) ∧ (∀ u : Fin 2, u ≠ p.idx → t.port u = s.port u) ∧ Frame s t [.rcd,
    .pkt, .out] (fun a => eventRegs 0x0403 a ∨ a = Reg.PKT_RETX_FAIL_CNT p.idx)) ∧
  (∀ (p : Port) (copies : List (Vector Byte 8)) (bs : List Byte), bchRead copies = some bs → byteAt bs 1 ≠ 0x81 ∨
    s.portUp p.idx = false → exec (.bchCredit p copies) s = .next s) ∧
  (∀ (p : Port) (copies : List (Vector Byte 8)) (bs : List Byte), bchRead copies = some bs → byteAt bs 1 ≠ 0x82 ∨
    s.portUp p.idx = false → exec (.bchAck p copies) s = .next s) ∧
  (∀ (p : Port) (copies : List (Vector Byte 8)) (bs : List Byte), bchRead copies = some bs → byteAt bs 1 ≠ 0x83 ∨
    s.portUp p.idx = false → exec (.bchNack p copies) s = .next s) ∧
  (∀ (p : Port) (copies : List (Vector Byte 8)) (bs : List Byte), bchRead copies = some bs → byteAt bs 1 ≠ 0x84 ∨
    s.portUp p.idx = false → exec (.bchResync p copies) s = .next s) ∧
  (∀ (p : Port) (q : Fin 8),
    (((s.port p.idx).queues[q]).kept.head?.all fun k => k.again || !usPassed (s.now - k.sentAt) (if q.val = 1 then 5 else if q.val = 5 then 10 else 100)) = true ∨
    s.portUp p.idx = false ∨ reliable q = false → exec (.retxTimeout p q) s = .next s)

/-- OWNER_PORT_TIMEOUT moves the end in force of a carrier with an alternate end to its other named end when the owning port has
not been UP for 200 µs and the other is UP (R417, R418). OWNER_MOVE_WRITE sets the bit move, and moves the end when the port
toward the other end is UP (R5, R418). Each move is counted and raises event 0x0401. Each with its frame. -/
def Obligations.CarrierOwnership : Prop := ∀ s : State, s.Canon →
  (∀ (c : Fin 4) (e : Fin 2), s.otherEnd c = some e → s.pkt.firstUp = true → s.portUp (1 - e : Fin 2) = false →
    usPassed (s.now - (s.port (1 - e)).downAt) 200 = true → s.portUp e = true → e.val ≠ s.fld (Reg.PKT_OWN c) 4 4 → ∃ t,
    exec (.ownerPortTimeout c) s = .next t ∧ t.fld (Reg.PKT_OWN c) 5 4 = e.val ∧
    t.fld (Reg.PKT_OWN c) 3 0 = s.fld (Reg.PKT_OWN c) 3 0 ∧ Counted s t (Reg.PKT_OWNER_MOVE_CNT c) 1 ∧ Raised s t 0x0401 [(1,
    c), (1, e)] ∧ Frame s t [.rcd] (fun a => eventRegs 0x0401 a ∨ a = Reg.PKT_OWN c ∨ a = Reg.PKT_OWNER_MOVE_CNT c)) ∧
  (∀ (c : Fin 4), (s.otherEnd c).all (fun e => !s.portUp e) = true ∨ s.pkt.firstUp = false →
    exec (.ownerPortTimeout c) s = .next s) ∧
  (∀ (c : Fin 4) (e : Fin 2), s.writable = true → s.otherEnd c = some e → s.portUp e = true → ∃ t,
    exec (.ownerMoveWrite c) s = .next t ∧ t.fld (Reg.PKT_OWN c) 5 4 = e.val ∧
    t.fld (Reg.PKT_OWN c) 3 0 = s.fld (Reg.PKT_OWN c) 3 0 ∧ Counted s t (Reg.PKT_OWNER_MOVE_CNT c) 1 ∧ Raised s t 0x0401 [(1,
    c), (1, e)] ∧ t.bit (Reg.PKT_OWN c) 31 = true ∧ Frame s t [.rcd] (fun a => eventRegs 0x0401 a ∨ a = Reg.PKT_OWN c ∨
    a = Reg.PKT_OWNER_MOVE_CNT c)) ∧
  (∀ (c : Fin 4), s.writable = true → (s.otherEnd c).all (fun e => !s.portUp e) = true → ∃ t,
    exec (.ownerMoveWrite c) s = .next t ∧ t.bit (Reg.PKT_OWN c) 31 = true ∧
    t.fld (Reg.PKT_OWN c) 5 0 = s.fld (Reg.PKT_OWN c) 5 0 ∧ Frame s t [] (fun a => a = Reg.PKT_OWN c)) ∧
  (∀ (c : Fin 4), s.writable = false → exec (.ownerMoveWrite c) s = .next s)

/-- FFT_COMPLETE carries the ADC codes: it counts the clipping samples that fall where the gain index is frozen, and the
saturations of the receive filters and the FFT as the model's chain gives them, and keeps the FFT output with the path maps of
the window's start, zeros for retired sides and gated quads, or counts the symbol lost where a lock was missing in its window
(R84, R99, R104, R114, R147, R152). UL_BMX_COMPLETE forms the output of every uplink section of the symbol once (R211, R214).
RETURN_SEND_START opens the sending of the symbol's returns at a chip that is not the head, and sends what is complete (R213,
R431). HEAD_CUTOFF merges the returns that have arrived into the outputs, counts what is missing once per carrier and chip, and
shows it in ULR_STAT (R270, R271). Each with its frame. -/
def Obligations.UplinkSymbolToHead : Prop := ∀ s : State, s.Canon →
  (∀ (a : AirSym) (adc : List (List Adc)), s.aligned = true → s.isU a = true → ∃ t, exec (.fftComplete a adc) s = .next t ∧
    (∀ p : Fin 64, t.rd (Reg.DFE_RX_SAT_CNT p) = (s.ulSamples a adc).2.rd (Reg.DFE_RX_SAT_CNT p) ∧
    Counted s t (Reg.RXP_CLIP_CNT p) ((((adc.getD p []).drop adcReach).take (8 * symLen a.sym)).zipIdx.countP fun x => clips x.1 && s.frozenAt p (s.ulTick a + x.2))) ∧
    (∀ c : Fin 4, t.rd (Reg.SYM_FFT_SAT_CNT c) = (s.ulGrid a (s.ulSamples a adc).1).2.rd (Reg.SYM_FFT_SAT_CNT c)) ∧
    (s.windowLost a = false → ∃ f, t.ulr.ffts.head? = some f ∧ f.sym = symIdx a ∧
    f.grid = (s.ulGrid a (s.ulSamples a adc).1).1 ∧ (f.txMap, f.rxMap) = s.mapsAt (s.windowOf a).1 ∧ ∀ c i : Nat,
    s.rxZero i = true → ∀ v ∈ (f.grid.getD c []).getD i [], v = (0, 0)) ∧ (s.windowLost a = true →
    Counted s t Reg.SYN_UL_LOST_CNT 1 ∧ symIdx a ∈ t.ulr.lost) ∧ (∀ a, t.memGet a = s.memGet a) ∧ Frame s t [.rcd, .bmx, .ulr,
    .mem, .freeIdx] (fun a => a ∈ [Reg.MEM_CE_CNT, Reg.MEM_ERR_ADDR, Reg.MEM_ERR_STAT, Reg.MEM_POISON_CNT, Reg.MEM_SRAM_CE_CNT,
    Reg.MEM_SRAM_UE_CNT, Reg.MEM_UE_CNT, Reg.SYN_UL_LOST_CNT, Reg.WSV_DROP_CNT, Reg.WSV_STAT] ∨ arr 64 Reg.DFE_RX_SAT_CNT a ∨
    arr 2 Reg.MEM_CH_STAT a ∨ arr 64 Reg.RXP_CLIP_CNT a ∨ arr 4 Reg.SYM_FFT_SAT_CNT a ∨ eventRegs 0x0501 a ∨
    eventRegs 0x0502 a)) ∧
  (∀ (a : AirSym) (adc : List (List Adc)), s.aligned = false ∨ s.isU a = false → exec (.fftComplete a adc) s = .next s) ∧
  (∀ (a : AirSym) (j : SymJob), s.jobOf a = some j → s.isU a = true → (s.ulr.ffts.any fun f => f.sym == symIdx a) = true →
    (s.ulr.outs.any fun o => o.sym == symIdx a) = false → ∃ t, exec (.ulBmxComplete a) s = .next t ∧ (∀ c : Fin 4,
    ∀ xu ∈ j.ulSecs c, ∃ o ∈ t.ulr.outs, o.sym = symIdx a ∧ o.car = c.val ∧ o.no = xu.1.no ∧ o.contrib = 2 ^ s.position ∧
    o.z = s.placeOwn xu.2 (s.reduceSec c (symIdx a) xu.1 xu.2).1) ∧ t.ulr.ffts = s.ulr.ffts ∧ Frame s t [.pkt,
    .ulr] (fun a => arr 4 Reg.BMX_UL_SAT_CNT a ∨ arr 4 Reg.SYM_BFP_SAT_CNT a)) ∧
  (∀ (a : AirSym), s.jobOf a = none → exec (.ulBmxComplete a) s = .next s) ∧
  (∀ (a : AirSym) (j : SymJob), s.position ≠ 0 → s.jobOf a = some j → ∃ t, exec (.returnSendStart a) s = .next t ∧
    (t.ulr.sending = symIdx a :: s.ulr.sending.filter fun k => k != symIdx a) ∧ (∀ o ∈ t.ulr.outs, o.sym = symIdx a →
    o.sent = false → o.sec.combine = true ∧ s.isTail = false ∧ s.portUp 1 = true) ∧ Frame s t [.pkt,
    .ulr] (fun a => arr 4 Reg.SYM_BFP_SAT_CNT a)) ∧
  (∀ (a : AirSym), s.position = 0 ∨ s.jobOf a = none → exec (.returnSendStart a) s = .next s) ∧
  (∀ (a : AirSym) (j : SymJob), s.position = 0 → s.isU a = true → s.ulr.cut.contains (symIdx a) = false → s.jobOf a = some j →
    ∃ t, exec (.headCutoff a) s = .next t ∧ t.ulr.cut = symIdx a :: s.ulr.cut ∧
    (t.ulr.returns = s.ulr.returns.filter fun r => r.sym != symIdx a) ∧
    (t.ulr.outs = s.ulr.outs.map fun o => if o.sym = symIdx a then (s.mergeOut o).1 else o) ∧
    t.fld Reg.ULR_STAT 11 8 = (t.ulr.outs.filter fun o => o.sym == symIdx a).foldl (fun m o => Nat.lor m (s.missing o)) 0 ∧
    (∀ c : Fin 4,
    Counted s t (Reg.ULR_BS_LATE_CNT c) ((List.range 4).countP fun i => bitOf ((t.ulr.outs.filter fun o => o.sym == symIdx a && o.car == c.val).foldl (fun m o => Nat.lor m (s.missing o)) 0) i)) ∧
    Frame s t [.ulr] (fun a => a = Reg.ULR_STAT ∨ arr 4 Reg.BMX_UL_SAT_CNT a ∨ arr 4 Reg.ULR_BS_LATE_CNT a)) ∧
  (∀ (a : AirSym), s.position ≠ 0 ∨ s.isU a = false ∨ s.ulr.cut.contains (symIdx a) = true ∨ s.jobOf a = none →
    exec (.headCutoff a) s = .next s)

/-- UL_FILTERS_COMPLETE at the head after the cut-off adds an occasion with its estimates for every section whose occasion ends
with the symbol (R256 to R260, R270, R271). UL_OUTPUT_COMPLETE changes the outputs in nothing but that those that went out are
marked: the symbol's pass-through outputs, and those whose occasion is complete; where one output of the symbol waits, the
parcels queued are that output's (R265, R272). BEAMSPACE_SELECT takes in the surveys that ended at least 50 µs before, and every
group's set follows the averages, the default set while it is static (R254, R255). PRACH_DETECT uses up its occasion; an
occasion that lost a symbol gives nothing; else the saturations of its transforms are counted, and at the head the occasion and,
where samples clipped, the clipping (R114, R147, R275, R276). Each with its frame. -/
def Obligations.UplinkReceiverOutput : Prop := ∀ s : State, s.Canon →
  (∀ (a : AirSym), s.position = 0 → s.ulr.cut.contains (symIdx a) = true → ∃ t, exec (.ulFiltersComplete a) s = .next t ∧
    t.ulr.occs.take s.ulr.occs.length = s.ulr.occs ∧ (∀ o ∈ s.ulr.outs, o.sym = symIdx a →
    (o.sec.passthru && !o.sec.combine) = false → o.sec.occLen ≤ a.sym.val + 1 →
    bitOf o.sec.mask (a.sym.val + 1 - o.sec.occLen) = true → (o.sec.occLen = 1 ∨
    (s.ulr.outs.any fun p => p.sym + 1 == symIdx a && p.car == o.car && p.no == o.no) = true) → ∃ q ∈ t.ulr.occs,
    q.car = o.car ∧ q.no = o.no ∧ q.sym + o.sec.occLen = symIdx a + 1 ∧
    ((s.ulr.occs.any fun x => x.car == o.car && x.no == o.no && x.sym + o.sec.occLen == symIdx a + 1) = false →
    q.h = s.estimates o (o.sec.dmrsTab (s.crbOf o.car) (slotIdx a)) (slotIdx a) (a.sym.val + 1 - o.sec.occLen))) ∧
    t.ulr.outs = s.ulr.outs ∧ Frame s t [.ulr, .freeIdx] (fun a => arr 4 Reg.ULR_IRC_FALLBACK_CNT a)) ∧
  (∀ (a : AirSym), s.position ≠ 0 ∨ s.ulr.cut.contains (symIdx a) = false → exec (.ulFiltersComplete a) s = .next s) ∧
  (∀ (a : AirSym) (others : LiveMaps), s.position = 0 → s.ulr.cut.contains (symIdx a) = true → ∃ t,
    exec (.ulOutputComplete a others) s = .next t ∧
    t.ulr.outs.map (fun o => { o with done := false }) = s.ulr.outs.map (fun o => { o with done := false }) ∧
    (∀ o ∈ s.ulr.outs, o.sym ≠ symIdx a → o ∈ t.ulr.outs) ∧ (∀ o ∈ t.ulr.outs, o.sym = symIdx a → o.sec.passthru = true →
    o.sec.combine = false → o.done = true) ∧ (∀ o ∈ t.ulr.outs, ∀ e, o.sym = symIdx a → o.sec.occOf (o.sym % 14) = some e →
    (s.ulr.occs.any fun q => q.car == o.car && q.no == o.no && q.sym == o.sym / 14 * 14 + e) = true → o.done = true) ∧ (∀ o,
    (s.ulr.outs.filter fun o => o.sym == symIdx a && !o.done) = [o] → o.sec.passthru = true → o.sec.combine = false →
    t.pkt = (s.passOut o (s.mapsWith (s.mapsFor (symIdx a)) others)).pkt) ∧ (∀ o e q,
    (s.ulr.outs.filter fun o => o.sym == symIdx a && !o.done) = [o] → (o.sec.passthru && !o.sec.combine) = false →
    o.sec.occOf (o.sym % 14) = some e →
    (s.ulr.occs.find? fun q => q.car == o.car && q.no == o.no && q.sym == o.sym / 14 * 14 + e) = some q →
    t.pkt = (s.equalOut o q (s.mapsWith (s.mapsFor (symIdx a)) others)).pkt) ∧ Frame s t [.pkt, .ulr,
    .freeIdx] (fun a => arr 4 Reg.SYM_BFP_SAT_CNT a ∨ arr 4 Reg.ULR_OUT_SAT_CNT a ∨ arr 4 Reg.ULR_QUAL a)) ∧
  (∀ (a : AirSym) (others : LiveMaps), s.position ≠ 0 ∨ s.ulr.cut.contains (symIdx a) = false →
    exec (.ulOutputComplete a others) s = .next s) ∧
  (∀ (sfn : Fin 1024) (slot : Fin 20), s.aligned = true → tabWf (fun _ => s.defaultSet) s.ulr.sel = true → ∃ t,
    exec (.beamspaceSelect sfn slot) s = .next t ∧
    (t.ulr.surveys = s.ulr.surveys.filter fun e => !decide (e.1 + 49152 ≤ s.ulTick ⟨sfn, slot, 0⟩)) ∧
    (s.bit Reg.ULR_SEL_CFG 31 = true → ∀ (c : Fin 4) (g : Fin 69), s.carEnabled c = true → g.val < prbGroups (s.carPrbs c) →
    t.beamSet c g = s.defaultSet) ∧ ((s.ulr.surveys.all fun e => !decide (e.1 + 49152 ≤ s.ulTick ⟨sfn, slot, 0⟩)) = true →
    s.ulr.started = true → t.ulr.pw = s.ulr.pw ∧ ∀ (c : Fin 4) (g : Fin 69), s.carEnabled c = true →
    g.val < prbGroups (s.carPrbs c) → t.beamSet c g = s.newSet c g) ∧
    Frame s t [.ulr] (fun a => arr 4 Reg.ULR_SEL_CHANGE_CNT a)) ∧
  (∀ (sfn : Fin 1024) (slot : Fin 20), s.aligned = false → exec (.beamspaceSelect sfn slot) s = .next s) ∧
  (∀ (c : Fin 4) (a : AirSym) (id : BitVec 12) (clip : Nat) (live : Nat) (others : LiveMaps) (o : PrachOcc),
    s.ulr.prach.find? (fun (o : PrachOcc) => o.car == c.val && o.sym == symIdx a && o.sec.id == id.toNat) = some o → ∃ t,
    exec (.prachDetect c a id clip live others) s = .next t ∧
    (t.ulr.prach = s.ulr.prach.filter fun o => !(o.car == c.val && o.sym == symIdx a && o.sec.id == id.toNat)) ∧
    ((s.ulr.lost.any fun k => o.covers k) = true → t.pkt = s.pkt ∧ t.regs = s.regs) ∧
    ((s.ulr.lost.any fun k => o.covers k) = false → s.position = 0 → Counted s t (Reg.ULR_PRACH_OCC_CNT o.car) 1 ∧
    (o.clip + clip ≠ 0 → Counted s t (Reg.ULR_PRACH_CLIP_CNT o.car) 1)) ∧ ((s.ulr.lost.any fun k => o.covers k) = false →
    Counted s t (Reg.SYM_FFT_SAT_CNT c) (s.prachBins o).2) ∧ Frame s t [.pkt, .ulr,
    .freeIdx] (fun a => a = Reg.SYM_FFT_SAT_CNT c ∨ a = Reg.ULR_PRACH_OCC_CNT c ∨ a = Reg.ULR_PRACH_DET_CNT c ∨
    a = Reg.ULR_PRACH_TRUNC_CNT c ∨ a = Reg.ULR_PRACH_CLIP_CNT c)) ∧
  (∀ (c : Fin 4) (a : AirSym) (id : BitVec 12) (clip : Nat) (live : Nat) (others : LiveMaps),
    s.ulr.prach.find? (fun (o : PrachOcc) => o.car == c.val && o.sym == symIdx a && o.sec.id == id.toNat) = none →
    exec (.prachDetect c a id clip live others) s = .next s)

/-- SOLVE_ANCHOR fixes the antennas of the next solve and asks for its last, or drops and counts it where the last is refused
(R218, R219, R221). GRAM_BLOCK_FORMED forms the estimates and noise of a group once, and a single chip solves it (R222 to R232).
GRAM_PARCEL_RECEIVE uses up the parcel, and counts its blocks where the chip holds no such solve (R239, R240).
GRAM_FORWARD_TIMEOUT and GRAM_CUTOFF leave no formed group unsent (R240, R242). INVERSE_PARCEL_RECEIVE gives a formed group of a
solve that writes a last its inverse (R243). Each with its frame. -/
def Obligations.SolveAnchorAndGroups : Prop := ∀ s : State, s.Canon →
  (∀ (v : Solve), s.nextSolve = some v → v.at_ ≤ s.now → ∃ t, exec .solveAnchor s = .next t ∧ (v.sec.writeLast = false →
    t.ulr = { s.ulr with solves := updFirst (fun w => w.car == v.car && w.sec.tag == v.sec.tag) (fun w => { w with anchored := true, live := s.liveAntennas }) s.ulr.solves } ∧
    t.bmx = s.bmx ∧ t.regs = s.regs) ∧ (v.sec.writeLast = true → v.sec.last < s.nLast → (s.dirOf v.sec.last).busy = false →
    (t.dirOf v.sec.last).busy = true ∧ (t.solveGrant v.sec.tag v.car).isSome = true ∧
    t.rd Reg.WSV_DROP_CNT = s.rd Reg.WSV_DROP_CNT) ∧ (v.sec.writeLast = true → s.nLast ≤ v.sec.last ∨
    (s.dirOf v.sec.last).busy = true → Counted s t Reg.WSV_DROP_CNT 1 ∧ Counted s t Reg.BMX_WRITE_REFUSE_CNT 1) ∧
    Frame s t [.bmx, .ulr, .freeIdx] (fun a => a ∈ [Reg.BMX_WRITE_REFUSE_CNT, Reg.WSV_DROP_CNT, Reg.WSV_STAT])) ∧
  (s.nextSolve = none → exec .solveAnchor s = .next s) ∧
  (∀ (c : Fin 4) (tag : BitVec 8) (g : BitVec 8) (v : Solve), s.solveOf c tag.toNat = some v → v.anchored = true →
    v.dropped = false → v.ended = false → v.gs.contains g.toNat = true → v.group g.toNat = none → s.hasRes v = true → ∃ t,
    exec (.gramBlockFormed c tag g) s = .next t ∧ (v.sec.writeLast = false → v.sec.exportEst = true → v.exported = false → ∃ w,
    t.solveOf c tag.toNat = some w ∧ w.group g.toNat = some (s.formGroup v g.toNat).1) ∧ (v.sec.writeLast = true → ∃ w x,
    t.solveOf c tag.toNat = some w ∧ w.group g.toNat = some x ∧ x.h16 = (s.formGroup v g.toNat).1.h16 ∧
    x.eh = (s.formGroup v g.toNat).1.eh ∧ x.sig2 = (s.formGroup v g.toNat).1.sig2 ∧ x.own = (s.formGroup v g.toNat).1.own ∧
    (s.chips = 1 → x.inv.isSome = true ∧ x.sent = true)) ∧ Frame s t [.pkt, .ulr, .freeIdx] (fun a => a ∈ [Reg.WSV_ILL_CNT,
    Reg.WSV_MISSING_CNT, Reg.WSV_NOISE_DEF_CNT, Reg.WSV_ROW_CAP_CNT, Reg.WSV_STAT])) ∧
  (∀ (c : Fin 4) (tag : BitVec 8) (g : BitVec 8), s.solveOf c tag.toNat = none → exec (.gramBlockFormed c tag g) s = .next s) ∧
  (∀ (p : Port) (flow : Nat) (air : Nat) (bs : List Byte), s.bridleIn p.idx 4 = some (flow, air, bs) → ∃ t,
    exec (.gramParcelReceive p) s = .next t ∧ t.pkt.bridle = eraseFirst (fun (q, k,
    _) => q == p.idx.val && k == 4) s.pkt.bridle ∧ (∀ b l, cutBlocks (byteAt bs 0) (bs.drop 4) = some (b :: l) →
    s.blockSolve b = none → Counted s t Reg.WSV_MISSING_CNT (l.length + 1) ∧ t.ulr = s.ulr) ∧
    (cutBlocks (byteAt bs 0) (bs.drop 4) = none → t.ulr = s.ulr ∧ t.regs = s.regs) ∧ Frame s t [.pkt,
    .ulr] (fun a => a ∈ [Reg.WSV_GRAM_LATE_CNT, Reg.WSV_MISSING_CNT])) ∧
  (∀ (p : Port), s.bridleIn p.idx 4 = none → exec (.gramParcelReceive p) s = .next s) ∧
  (∀ (c : Fin 4) (tag : BitVec 8) (v : Solve), s.solveOf c tag.toNat = some v → s.chips ≠ 1 → s.position ≠ 0 →
    v.dropped = false → v.anchored = true → v.sec.writeLast = true → usPassed (s.now - v.at_) 190 = true → ∃ t,
    exec (.gramForwardTimeout c tag) s = .next t ∧ (∃ w, t.solveOf c tag.toNat = some w ∧ w.groups.length = v.groups.length ∧
    ∀ x ∈ w.groups, x.sent = true) ∧ Frame s t [.pkt, .ulr] noRegs) ∧
  (∀ (c : Fin 4) (tag : BitVec 8), s.solveOf c tag.toNat = none → exec (.gramForwardTimeout c tag) s = .next s) ∧
  (∀ (c : Fin 4) (tag : BitVec 8) (v : Solve), s.solveOf c tag.toNat = some v → s.chips ≠ 1 → s.position = 0 →
    v.dropped = false → v.anchored = true → v.sec.writeLast = true → usPassed (s.now - v.at_) 220 = true → ∃ t,
    exec (.gramCutoff c tag) s = .next t ∧ (∃ w, t.solveOf c tag.toNat = some w ∧ w.groups.length = v.groups.length ∧
    ∀ x ∈ w.groups, x.sent = true) ∧ Frame s t [.pkt, .ulr, .freeIdx] (fun a => a ∈ [Reg.WSV_ILL_CNT, Reg.WSV_MISSING_CNT,
    Reg.WSV_ROW_CAP_CNT])) ∧
  (∀ (c : Fin 4) (tag : BitVec 8), s.solveOf c tag.toNat = none → exec (.gramCutoff c tag) s = .next s) ∧
  (∀ (p : Port) (flow : Nat) (air : Nat) (bs : List Byte), s.bridleIn p.idx 5 = some (flow, air, bs) → ∃ t,
    exec (.inverseParcelReceive p) s = .next t ∧ t.pkt.bridle = eraseFirst (fun (q, k,
    _) => q == p.idx.val && k == 5) s.pkt.bridle ∧ (∀ b v x, cutBlocks (byteAt bs 0) (bs.drop 4) = some [b] →
    s.blockSolve b = some v → v.group (blockGroup b) = some x → x.inv = none → v.ended = false → v.sec.writeLast = true →
    ∃ w y, t.solveOf (blockCar b) (blockTag b) = some w ∧ w.group (blockGroup b) = some y ∧ y.inv = some (readInverse b)) ∧
    Frame s t [.pkt, .ulr] (fun a => a ∈ [Reg.WSV_MISSING_CNT, Reg.WSV_ROW_CAP_CNT])) ∧
  (∀ (p : Port), s.bridleIn p.idx 5 = none → exec (.inverseParcelReceive p) s = .next s)

/-- SOLVE_LAST_WRITTEN on a single chip writes the last of a ready solve into the granted bank, in the bytes of its columns
alone, and commits: the directory entry holds the new version, and the solve is counted (R188, R235 to R237, R248).
JOINT_READINESS_CHECK marks a solve whose last is fully written, or aborts, counts and raises 0x0F01 (R244, R245).
JOINT_ABORT_RECEIVE before +500 µs aborts the solve it names (R245). JOINT_COMMIT at +500 µs commits a written solve (R244).
ESTIMATE_EXPORT of a formed solve with export marks it exported (R246). Each with its frame, and memory as before but for the
columns of the last written. -/
def Obligations.SolveCommit : Prop := ∀ s : State, s.Canon →
  (∀ (c : Fin 4) (tag : BitVec 8) (upsets : List (Nat × Upset)) (v : Solve) (g : Grant) (b : Nat),
    s.solveOf c tag.toNat = some v → s.solveBank v = some (g, b) → s.chips = 1 → v.ready s.position = true →
    v.finished = false → ∃ t, exec (.solveLastWritten c tag upsets) s = .next t ∧
    t.dirOf g.last = { valid := true, busy := false, mgmt := g.mgmt, bank := b, bw := s.carBw v.car, nCol := v.k, version := ((s.dirOf g.last).version + 1) % 65536 } ∧
    Counted s t Reg.WSV_SOLVE_CNT 1 ∧ (400000 * 3072 < (s.now - v.at_) * 3125 → Counted s t Reg.WSV_LATE_CNT 1) ∧
    ((s.now - v.at_) * 3125 ≤ 400000 * 3072 → t.rd Reg.WSV_LATE_CNT = s.rd Reg.WSV_LATE_CNT) ∧ (∀ a,
    a < s.slotAddr v.sec.last b ∨ s.slotAddr v.sec.last b + prbGroups (s.carPrbs v.car) * v.k * 256 ≤ a →
    t.memGet a = s.memGet a) ∧ Frame s t [.rcd, .bmx, .ulr, .mem, .freeIdx] (fun a => a ∈ [Reg.BMX_CACHE_STAT, Reg.MEM_CE_CNT,
    Reg.MEM_ERR_ADDR, Reg.MEM_ERR_STAT, Reg.MEM_POISON_CNT, Reg.MEM_SRAM_CE_CNT, Reg.MEM_SRAM_UE_CNT, Reg.MEM_UE_CNT,
    Reg.WSV_LATE_CNT, Reg.WSV_SOLVE_CNT, Reg.WSV_STAT] ∨ arr 2 Reg.MEM_CH_STAT a ∨ arr 4 Reg.WSV_QUAL0 a ∨
    arr 4 Reg.WSV_QUAL1 a ∨ arr 4 Reg.WSV_QUAL2 a ∨ eventRegs 0x0501 a ∨ eventRegs 0x0502 a)) ∧
  (∀ (c : Fin 4) (tag : BitVec 8) (upsets : List (Nat × Upset)), s.solveOf c tag.toNat = none →
    exec (.solveLastWritten c tag upsets) s = .next s) ∧
  (∀ (c : Fin 4) (tag : BitVec 8) (upsets : List (Nat × Upset)) (v : Solve) (g : Grant) (b : Nat),
    s.solveOf c tag.toNat = some v → s.chips ≠ 1 → v.ended = false → v.written = false → v.sec.writeLast = true →
    usPassed (s.now - v.at_) 480 = true → s.solveBank v = some (g, b) → v.ready s.position = true → v.dropped = false → ∃ t,
    exec (.jointReadinessCheck c tag upsets) s = .next t ∧ (∃ w, t.solveOf c tag.toNat = some w ∧
    w = { v with written := true }) ∧ (∀ a, a < s.slotAddr v.sec.last b ∨
    s.slotAddr v.sec.last b + prbGroups (s.carPrbs v.car) * v.k * 256 ≤ a → t.memGet a = s.memGet a) ∧ Frame s t [.rcd, .ulr,
    .mem, .freeIdx] (fun a => a ∈ [Reg.MEM_CE_CNT, Reg.MEM_ERR_ADDR, Reg.MEM_ERR_STAT, Reg.MEM_POISON_CNT, Reg.MEM_SRAM_CE_CNT,
    Reg.MEM_SRAM_UE_CNT, Reg.MEM_UE_CNT] ∨ arr 2 Reg.MEM_CH_STAT a ∨ eventRegs 0x0501 a ∨ eventRegs 0x0502 a)) ∧
  (∀ (c : Fin 4) (tag : BitVec 8) (upsets : List (Nat × Upset)) (v : Solve), s.solveOf c tag.toNat = some v → s.chips ≠ 1 →
    v.ended = false → v.written = false → v.sec.writeLast = true → usPassed (s.now - v.at_) 480 = true → s.solveBank v = none ∨
    v.ready s.position = false ∨ v.dropped = true → ∃ t, exec (.jointReadinessCheck c tag upsets) s = .next t ∧
    Counted s t Reg.WSV_JOINT_ABORT_CNT 1 ∧ Raised s t 0x0F01 [(1, v.sec.tag), (1, v.car), (1, s.abortCause v)] ∧
    (s.solveGrant v.sec.tag v.car = none → t.bmx = s.bmx) ∧ Frame s t [.rcd, .pkt, .bmx,
    .ulr] (fun a => a ∈ [Reg.WSV_JOINT_ABORT_CNT, Reg.WSV_STAT] ∨ eventRegs 0x0F01 a)) ∧
  (∀ (c : Fin 4) (tag : BitVec 8) (upsets : List (Nat × Upset)), s.solveOf c tag.toNat = none →
    exec (.jointReadinessCheck c tag upsets) s = .next s) ∧
  (∀ (p : Port) (flow : Nat) (air : Nat) (bs : List Byte), s.bridleIn p.idx 3 = some (flow, air, bs) → ∃ t,
    exec (.jointAbortReceive p) s = .next t ∧ t.pkt.bridle = eraseFirst (fun (q, k,
    _) => q == p.idx.val && k == 3) s.pkt.bridle ∧ (∀ v, s.solveOf (flowCar flow) (byteAt bs 0) = some v → v.ended = false →
    usPassed (s.now - v.at_) 500 = false → Counted s t Reg.WSV_JOINT_ABORT_CNT 1 ∧ Raised s t 0x0F01 [(1, v.sec.tag), (1,
    v.car), (1, 3)]) ∧ (s.solveOf (flowCar flow) (byteAt bs 0) = none → t.ulr = s.ulr ∧ t.regs = s.regs) ∧ Frame s t [.rcd,
    .pkt, .bmx, .ulr] (fun a => a ∈ [Reg.WSV_JOINT_ABORT_CNT, Reg.WSV_STAT] ∨ eventRegs 0x0F01 a)) ∧
  (∀ (p : Port), s.bridleIn p.idx 3 = none → exec (.jointAbortReceive p) s = .next s) ∧
  (∀ (c : Fin 4) (tag : BitVec 8) (v : Solve) (g : Grant) (b : Nat), s.solveOf c tag.toNat = some v → s.solveBank v = some (g,
    b) → s.chips ≠ 1 → v.written = true → v.finished = false → usPassed (s.now - v.at_) 500 = true → ∃ t,
    exec (.jointCommit c tag) s = .next t ∧
    t.dirOf g.last = { valid := true, busy := false, mgmt := g.mgmt, bank := b, bw := s.carBw v.car, nCol := v.k, version := ((s.dirOf g.last).version + 1) % 65536 } ∧
    Counted s t Reg.WSV_SOLVE_CNT 1 ∧ t.mem = s.mem ∧ Frame s t [.bmx, .ulr, .freeIdx] (fun a => a ∈ [Reg.BMX_CACHE_STAT,
    Reg.WSV_SOLVE_CNT, Reg.WSV_STAT] ∨ arr 4 Reg.WSV_QUAL0 a ∨ arr 4 Reg.WSV_QUAL1 a ∨ arr 4 Reg.WSV_QUAL2 a)) ∧
  (∀ (c : Fin 4) (tag : BitVec 8), s.solveOf c tag.toNat = none → exec (.jointCommit c tag) s = .next s) ∧
  (∀ (c : Fin 4) (tag : BitVec 8) (others : LiveMaps) (v : Solve), s.solveOf c tag.toNat = some v → v.sec.exportEst = true →
    v.formed = true → v.exported = false → v.dropped = false → ∃ t, exec (.estimateExport c tag others) s = .next t ∧
    (v.sec.writeLast = true → v.ended = false → ∃ w, t.solveOf c tag.toNat = some w ∧ w = { v with exported := true }) ∧
    (∀ w ∈ t.ulr.solves, w.finished = false) ∧ Frame s t [.pkt, .ulr, .freeIdx] (fun a => a = Reg.WSV_STAT ∨
    arr 4 Reg.SYM_BFP_SAT_CNT a)) ∧
  (∀ (c : Fin 4) (tag : BitVec 8) (others : LiveMaps), s.solveOf c tag.toNat = none →
    exec (.estimateExport c tag others) s = .next s)

/-- KITE_PAYLOAD_FIX fixes the payload of a window in which the chip transmits, and the echoed entry (R470, R472, R481).
KITE_WINDOW_START shows the window number; a beacon begins, the gates of transmitting quads open as they may, and its end counts
it (TX_RX_ANCHOR); or it is skipped, counted and taken from the transmit time when a blanking interval touches it or no payload
was fixed; or it is left out where the duty check failed (R461, R462, R473). LISTEN_INTERVAL_START of a window in which the chip
receives, at the instant at which the listen interval begins, opens it with its end, the detector in SEARCH and the indices of
kite paths at kite_start_idx and free (R474, R475); at another instant it has no effect. Elsewhere none of these has an effect
but that a suspended modem resumes at a window (R466). Each with its frame. -/
def Obligations.KiteTransmitWindow : Prop := ∀ s : State, s.Canon →
  (∀ (a : AirSym), s.kiteOurs a = true → ∃ t, exec (.kitePayloadFix a) s = .next t ∧
    t.kte = { s.kte with payload := some (symIdx a, s.kitePayload a s.kiteTotal), echoed := s.echoEntry.getD s.kte.echoed } ∧
    Frame s t [.kte] noRegs) ∧
  (∀ (a : AirSym), s.kiteOurs a = false → exec (.kitePayloadFix a) s = .next s) ∧
  (∀ (a : AirSym), s.startsWindow a = true → s.resumeKite.kiteSends a = false ∨ s.kte.skip = some (symIdx a) → ∃ t,
    exec (.kiteWindowStart a) s = .next t ∧ t.fld Reg.KTE_STAT 15 0 = s.windowNo a % 65536 ∧ t.kte = s.kte ∧
    Frame s t [] (fun a => a = Reg.KTE_STAT)) ∧
  (∀ (a : AirSym), s.startsWindow a = true → s.resumeKite.kiteSends a = true → s.kte.skip ≠ some (symIdx a) →
    s.resumeKite.kiteBlanked = true ∨ s.kte.payload.map (·.1) ≠ some (symIdx a) → ∃ t, exec (.kiteWindowStart a) s = .next t ∧
    t.fld Reg.KTE_STAT 15 0 = s.windowNo a % 65536 ∧ Counted s t Reg.KTE_TX_SKIP_CNT 1 ∧
    t.seq = { s.seq with duty := s.seq.duty.filter fun x => x != s.windowSpan a } ∧
    Frame s t [.seq] (fun a => a ∈ [Reg.KTE_STAT, Reg.KTE_TX_SKIP_CNT])) ∧
  (∀ (a : AirSym), s.startsWindow a = true → s.resumeKite.kiteSends a = true → s.kte.skip ≠ some (symIdx a) →
    s.resumeKite.kiteBlanked = false → s.kte.payload.map (·.1) = some (symIdx a) → ∃ t, exec (.kiteWindowStart a) s = .next t ∧
    t.fld Reg.KTE_STAT 15 0 = s.windowNo a % 65536 ∧
    t.kte = { s.kte with beacon := some a, cut := false, span := s.windowSpan a } ∧ (∀ p : Fin 64,
    s.seq.quads[quadOf p].st = .transmit → t.paths[p].txGate = s.gateFree p) ∧ Frame s t [.paths,
    .kte] (fun a => a = Reg.KTE_STAT)) ∧
  (∀ (a : AirSym), s.startsWindow a = false → exec (.kiteWindowStart a) s = .next s) ∧
  (∀ (a : AirSym), s.kiteHears a = true → (s.listenSpan a).1 = 0 → ∃ t, exec (.listenIntervalStart a) s = .next t ∧
    t.kte = { s.kte with listen := some (symIdx a), openedAt := s.now, endsAt := s.now + (s.listenSpan a).2.toNat, steps := t.kte.steps, det := .search } ∧
    t.fld Reg.KTE_STAT 25 24 = 0 ∧ (∀ p : Fin 64, s.paths[p].agcMode = 2 → t.bit (Reg.RXP_AGC_STAT p) 16 = false) ∧
    (∀ p : Fin 64, s.paths[p].agcMode = 2 → t.fld (Reg.RXP_AGC_STAT p) 12 8 = s.fld Reg.KTE_RX_CFG 12 8 ∧
    t.paths[p].agcMoved = (s.fld (Reg.RXP_AGC_STAT p) 12 8 != s.fld Reg.KTE_RX_CFG 12 8)) ∧ (∀ p : Fin 64,
    s.paths[p].agcMode = 2 → s.fld (Reg.RXP_AGC_STAT p) 12 8 ≠ s.fld Reg.KTE_RX_CFG 12 8 → (p.val, s.now,
    s.fld (Reg.RXP_AGC_STAT p) 12 8) ∈ t.kte.steps) ∧ (∀ p : Fin 64, s.paths[p].agcMode ≠ 2 → t.paths[p] = s.paths[p] ∧
    t.rd (Reg.RXP_AGC_STAT p) = s.rd (Reg.RXP_AGC_STAT p)) ∧ Frame s t [.paths, .kte] (fun a => a = Reg.KTE_STAT ∨
    arr 64 Reg.RXP_AGC_STAT a)) ∧
  (∀ (a : AirSym), s.kiteHears a = false ∨ (s.listenSpan a).1 ≠ 0 → exec (.listenIntervalStart a) s = .next s)

/-- KITE_PEAK carries the ADC codes of the interval: where the beam has a peak at the lag, in SEARCH it makes a candidate; a
later peak replaces the candidate, or ends a reception, and counts when it exceeds it by the margin, and is masked and counted
otherwise; without a peak nothing changes (R476, R477). KITE_CONFIRM whose peak confirms the candidate counts a detection,
freezes the indices and enters RECEIVE (R477). KITE_CONFIRM_MISSED returns to SEARCH and counts (R477). KITE_DATA_END decodes
the ADC codes of the interval, writes a report with result OK or CRC failure, counted, and returns to SEARCH (R477, R479, R480).
LISTEN_INTERVAL_END, once the interval has run out, counts the samples that saturated in it, closes it and returns the indices
of kite paths to start_idx; a running reception is reported truncated and counted (R147, R474, R475, R477). Before its end it
has no effect. Each with its frame. -/
def Obligations.KiteDetector : Prop := ∀ s : State, s.Canon →
  (∀ (b : Fin 64) (lag : Nat) (adc : Vector (List Adc) 64), s.hearing = true → s.kte.det = .search → ∃ t,
    exec (.kitePeak b lag adc) s = .next t ∧ (∀ q, s.heardPeak b lag adc = some q →
    t.kte = { s.kte with det := .candidate q } ∧ t.fld Reg.KTE_STAT 25 24 = 1) ∧ (s.heardPeak b lag adc = none → t = s) ∧
    Frame s t [.kte] (fun a => a = Reg.KTE_STAT)) ∧
  (∀ (b : Fin 64) (lag : Nat) (adc : Vector (List Adc) 64) (p : KitePeak), s.hearing = true → s.kte.det = .candidate p → ∃ t,
    exec (.kitePeak b lag adc) s = .next t ∧ (∀ q, s.heardPeak b lag adc = some q → s.confirms p q = true → t = s) ∧ (∀ q,
    s.heardPeak b lag adc = some q → s.confirms p q = false → q.lag = p.lag → winsLag p q = true →
    t.kte = { s.kte with det := .candidate q }) ∧ (∀ q, s.heardPeak b lag adc = some q → s.confirms p q = false →
    q.lag = p.lag → winsLag p q = false → t.kte = s.kte) ∧ (∀ q, s.heardPeak b lag adc = some q → s.confirms p q = false →
    q.lag ≠ p.lag → reaches (peakPower q : Rat) (peakPower p : Rat) (s.fld Reg.KTE_RX_CFG 23 16) = true →
    t.kte = { s.kte with det := .candidate q } ∧ Counted s t Reg.KTE_SUPERSEDE_CNT 1 ∧
    t.rd Reg.KTE_MASK_CNT = s.rd Reg.KTE_MASK_CNT) ∧ (∀ q, s.heardPeak b lag adc = some q → s.confirms p q = false →
    q.lag ≠ p.lag → reaches (peakPower q : Rat) (peakPower p : Rat) (s.fld Reg.KTE_RX_CFG 23 16) = false → t.kte = s.kte ∧
    Counted s t Reg.KTE_MASK_CNT 1 ∧ t.rd Reg.KTE_SUPERSEDE_CNT = s.rd Reg.KTE_SUPERSEDE_CNT) ∧ (s.heardPeak b lag adc = none →
    t = s) ∧ Frame s t [.kte] (fun a => a ∈ [Reg.KTE_MASK_CNT, Reg.KTE_STAT, Reg.KTE_SUPERSEDE_CNT])) ∧
  (∀ (b : Fin 64) (lag : Nat) (adc : Vector (List Adc) 64) (p : KitePeak) (r : KitePeak) (snr : Nat) (power : Nat) (best : Nat),
    s.hearing = true → s.kte.det = .receive p r snr power best → ∃ t, exec (.kitePeak b lag adc) s = .next t ∧ (∀ q,
    s.heardPeak b lag adc = some q → (q.lag = r.lag → winsLag r q = false → t = s) ∧ (q.lag ≠ r.lag ∨ winsLag r q = true →
    reaches (2 * peakPower q : Nat) (peakPower p + peakPower r : Nat) (s.fld Reg.KTE_RX_CFG 23 16) = true →
    t.kte = { s.kte with det := .candidate q } ∧ Counted s t Reg.KTE_SUPERSEDE_CNT 1 ∧
    t.fld Reg.KTE_REPORT_PTR 15 0 = (s.fld Reg.KTE_REPORT_PTR 15 0 + 1) % 65536 ∧
    t.fld (Reg.KTE_REPORT_RING (s.fld Reg.KTE_REPORT_PTR 15 0 % 64) 0) 31 28 = 2) ∧ (q.lag ≠ r.lag ∨ winsLag r q = true →
    reaches (2 * peakPower q : Nat) (peakPower p + peakPower r : Nat) (s.fld Reg.KTE_RX_CFG 23 16) = false → t.kte = s.kte ∧
    Counted s t Reg.KTE_MASK_CNT 1)) ∧ (s.heardPeak b lag adc = none → t = s) ∧ Frame s t [.paths,
    .kte] (fun a => a ∈ [Reg.KTE_MASK_CNT, Reg.KTE_REPORT_PTR, Reg.KTE_STAT, Reg.KTE_SUPERSEDE_CNT] ∨
    arr2 64 16 Reg.KTE_REPORT_RING a ∨ arr 64 Reg.RXP_AGC_STAT a)) ∧
  (∀ (b : Fin 64) (lag : Nat) (adc : Vector (List Adc) 64), s.hearing = false → exec (.kitePeak b lag adc) s = .next s) ∧
  (∀ (b : Fin 64) (lag : Nat) (adc : Vector (List Adc) 64) (snr : BitVec 8) (power : BitVec 16) (p : KitePeak),
    s.hearing = true → s.kte.det = .candidate p → ∃ t, exec (.kiteConfirm b lag adc snr power) s = .next t ∧ (∀ q,
    s.heardPeak b lag adc = some q → s.confirms p q = true →
    t.kte = { s.kte with det := .receive p q snr.toNat power.toNat (s.bestBeam p.lag lag adc) } ∧
    Counted s t Reg.KTE_DET_CNT 1 ∧ t.fld Reg.KTE_STAT 25 24 = 2 ∧ (∀ p : Fin 64, s.paths[p].agcMode = 2 →
    t.bit (Reg.RXP_AGC_STAT p) 16 = true)) ∧ (s.heardPeak b lag adc = none → t = s) ∧ Frame s t [.paths, .rcd,
    .kte] (fun a => a ∈ [Reg.KTE_DET_CNT, Reg.KTE_MASK_CNT, Reg.KTE_REPORT_PTR, Reg.KTE_SKEW_ALARM_CNT, Reg.KTE_STAT,
    Reg.KTE_SUPERSEDE_CNT, Reg.KTE_SYNC_CFG] ∨ arr2 16 4 Reg.KTE_PEER a ∨ arr2 64 16 Reg.KTE_REPORT_RING a ∨
    arr 64 Reg.RXP_AGC_STAT a ∨ eventRegs 0x1101 a)) ∧
  (∀ (b : Fin 64) (lag : Nat) (adc : Vector (List Adc) 64) (snr : BitVec 8) (power : BitVec 16), s.hearing = false →
    exec (.kiteConfirm b lag adc snr power) s = .next s) ∧
  (∀ (p : KitePeak), s.kte.det = .candidate p → p.fit.tick + (1026 + s.nextCp p) * 32 * 65536 < s.now * 65536 → ∃ t,
    exec .kiteConfirmMissed s = .next t ∧ t.kte = { s.kte with det := .search } ∧ Counted s t Reg.KTE_FALSE_CNT 1 ∧
    t.fld Reg.KTE_STAT 25 24 = 0 ∧ Frame s t [.kte] (fun a => a ∈ [Reg.KTE_FALSE_CNT, Reg.KTE_STAT])) ∧
  (s.kte.det = .search → exec .kiteConfirmMissed s = .next s) ∧
  (∀ (adc : Vector (List Adc) 64) (p : KitePeak) (q : KitePeak) (snr : Nat) (power : Nat) (best : Nat),
    s.kte.det = .receive p q snr power best → ∃ t, exec (.kiteDataEnd adc) s = .next t ∧ t.kte.det = .search ∧
    t.fld Reg.KTE_STAT 25 24 = 0 ∧ t.fld Reg.KTE_REPORT_PTR 15 0 = (s.fld Reg.KTE_REPORT_PTR 15 0 + 1) % 65536 ∧ (∀ p : Fin 64,
    s.paths[p].agcMode = 2 → t.bit (Reg.RXP_AGC_STAT p) 16 = false) ∧
    (crc16 ((s.kiteDecode p q adc).take 32) = fieldAt (s.kiteDecode p q adc) 32 2 →
    t.fld (Reg.KTE_REPORT_RING (s.fld Reg.KTE_REPORT_PTR 15 0 % 64) 0) 31 28 = 0 ∧
    t.rd Reg.KTE_CRC_FAIL_CNT = s.rd Reg.KTE_CRC_FAIL_CNT) ∧
    (crc16 ((s.kiteDecode p q adc).take 32) ≠ fieldAt (s.kiteDecode p q adc) 32 2 →
    t.fld (Reg.KTE_REPORT_RING (s.fld Reg.KTE_REPORT_PTR 15 0 % 64) 0) 31 28 = 1 ∧ Counted s t Reg.KTE_CRC_FAIL_CNT 1 ∧
    t.kte.peerAt = s.kte.peerAt) ∧ Frame s t [.paths, .rcd, .kte] (fun a => a ∈ [Reg.KTE_CRC_FAIL_CNT, Reg.KTE_REPORT_PTR,
    Reg.KTE_SKEW_ALARM_CNT, Reg.KTE_STAT] ∨ arr2 16 4 Reg.KTE_PEER a ∨ arr2 64 16 Reg.KTE_REPORT_RING a ∨
    arr 64 Reg.RXP_AGC_STAT a ∨ eventRegs 0x1101 a)) ∧
  (∀ (adc : Vector (List Adc) 64), s.kte.det = .search → exec (.kiteDataEnd adc) s = .next s) ∧
  (∀ (adc : Vector (List Adc) 64), s.kte.listen.isSome = true → s.kte.endsAt ≤ s.now → ∃ t,
    exec (.listenIntervalEnd adc) s = .next t ∧ t.kte.listen = none ∧ (∀ p : Fin 64,
    Counted s t (Reg.DFE_RX_SAT_CNT p) (s.kiteSat p adc[p])) ∧ (∀ p : Fin 64, s.paths[p].agcMode = 2 →
    t.fld (Reg.RXP_AGC_STAT p) 12 8 = fldOf s.paths[p].agcCfg 12 8) ∧ t.kte.det = .search ∧ t.fld Reg.KTE_STAT 25 24 = 3 ∧
    (∀ p : Fin 64, s.paths[p].agcMode = 2 → t.bit (Reg.RXP_AGC_STAT p) 16 = false) ∧ (∀ p q snr power best,
    s.kte.det = .receive p q snr power best → Counted s t Reg.KTE_TRUNC_CNT 1 ∧
    t.fld Reg.KTE_REPORT_PTR 15 0 = (s.fld Reg.KTE_REPORT_PTR 15 0 + 1) % 65536 ∧
    t.fld (Reg.KTE_REPORT_RING (s.fld Reg.KTE_REPORT_PTR 15 0 % 64) 0) 31 28 = 3) ∧ Frame s t [.paths,
    .kte] (fun a => a ∈ [Reg.KTE_REPORT_PTR, Reg.KTE_STAT, Reg.KTE_TRUNC_CNT] ∨ arr 64 Reg.DFE_RX_SAT_CNT a ∨
    arr2 64 16 Reg.KTE_REPORT_RING a ∨ arr 64 Reg.RXP_AGC_STAT a)) ∧
  (∀ (adc : Vector (List Adc) 64), s.kte.listen = none ∨ s.now < s.kte.endsAt → exec (.listenIntervalEnd adc) s = .next s)

/-- DRAM_REQUEST with one request at an idle channel serves it, and its rank is awake and its idle time starts again: a write
stores its bytes at its address and changes no other byte, a read changes none (R484, R493, R496). With requests that wait, the
one that goes first under R496 and R497 leaves the queue and is performed. While a retraining step runs nothing is served
(R500). AGE_PROMOTION promotes every request of a class above 0 that has waited longer than the age limit, and counts each once
(R496). The other channel keeps its state. Each with its frame. -/
def Obligations.DramRequests : Prop := ∀ s : State, s.Canon →
  (∀ (c : Fin 2) (arrivals : List MemArrival) (upsets : List (Nat × Upset)) (x : MemArrival), arrivals = [x] →
    s.arrives c x = true → s.mem.chans[c].queue = [] → s.mem.chans[c].blocked ≤ s.now → ∃ t,
    exec (.dramRequest c arrivals upsets) s = .next t ∧ t.mem.chans[c].queue = [] ∧
    t.fld (Reg.MEM_CH_STAT c) (16 + s.rankOf x.addr.toNat) (16 + s.rankOf x.addr.toNat) = 0 ∧
    t.mem.chans[c].lastReq[s.rankOf x.addr.toNat] = s.now ∧
    tabGet (fun _ => (0 : Nat)) t.mem.chans[c].rows (s.bankRow x.addr.toNat).2.1 = (s.bankRow x.addr.toNat).2.2 + 1 ∧ (∀ bs,
    x.data = some bs → (∀ i : Nat, i < bs.length → t.memGet (x.addr.toNat + i) = bs.getD i 0) ∧ ∀ a, a < x.addr.toNat ∨
    x.addr.toNat + bs.length ≤ a → t.memGet a = s.memGet a) ∧ (x.data = none → ∀ a, t.memGet a = s.memGet a) ∧ (∀ d : Fin 2,
    d ≠ c → t.mem.chans[d] = s.mem.chans[d]) ∧ Frame s t [.rcd, .mem, .freeIdx] (fun a => a ∈ [Reg.MEM_CE_CNT,
    Reg.MEM_ERR_ADDR, Reg.MEM_ERR_STAT, Reg.MEM_POISON_CNT, Reg.MEM_SRAM_CE_CNT, Reg.MEM_SRAM_UE_CNT, Reg.MEM_UE_CNT] ∨
    eventRegs 0x0501 a ∨ eventRegs 0x0502 a ∨ a = Reg.MEM_CH_STAT c)) ∧
  (∀ (c : Fin 2) (arrivals : List MemArrival) (upsets : List (Nat × Upset)) (i : Nat) (x : DramReq), arrivals = [] →
    s.nextReq c = some i → s.mem.chans[c].queue[i]? = some x → s.chanOf x.addr = c → s.mem.chans[c].blocked ≤ s.now → ∃ t,
    exec (.dramRequest c arrivals upsets) s = .next t ∧ t.mem.chans[c].queue = s.mem.chans[c].queue.eraseIdx i ∧
    t.mem.chans[c].lastReq[s.rankOf x.addr] = s.now ∧
    tabGet (fun _ => (0 : Nat)) t.mem.chans[c].rows (s.bankRow x.addr).2.1 = (s.bankRow x.addr).2.2 + 1 ∧ (∀ bs,
    x.data = some bs → (∀ i : Nat, i < bs.length → t.memGet (x.addr + i) = bs.getD i 0) ∧ ∀ a, a < x.addr ∨
    x.addr + bs.length ≤ a → t.memGet a = s.memGet a) ∧ (x.data = none → ∀ a, t.memGet a = s.memGet a) ∧ (∀ d : Fin 2, d ≠ c →
    t.mem.chans[d] = s.mem.chans[d]) ∧ Frame s t [.rcd, .mem, .freeIdx] (fun a => a ∈ [Reg.MEM_CE_CNT, Reg.MEM_ERR_ADDR,
    Reg.MEM_ERR_STAT, Reg.MEM_POISON_CNT, Reg.MEM_SRAM_CE_CNT, Reg.MEM_SRAM_UE_CNT, Reg.MEM_UE_CNT] ∨ eventRegs 0x0501 a ∨
    eventRegs 0x0502 a ∨ a = Reg.MEM_CH_STAT c)) ∧
  (∀ (c : Fin 2) (arrivals : List MemArrival) (upsets : List (Nat × Upset)), s.now < s.mem.chans[c].blocked → ∃ t,
    exec (.dramRequest c arrivals upsets) s = .next t ∧ (∀ a, t.memGet a = s.memGet a) ∧
    t.mem.chans[c].queue.take s.mem.chans[c].queue.length = s.mem.chans[c].queue ∧ (∀ d : Fin 2, d ≠ c →
    t.mem.chans[d] = s.mem.chans[d]) ∧ (∀ a, t.memGet a = s.memGet a) ∧ Frame s t [.rcd, .mem,
    .freeIdx] (fun a => a ∈ [Reg.MEM_CE_CNT, Reg.MEM_ERR_ADDR, Reg.MEM_ERR_STAT, Reg.MEM_POISON_CNT, Reg.MEM_SRAM_CE_CNT,
    Reg.MEM_SRAM_UE_CNT, Reg.MEM_UE_CNT] ∨ arr 2 Reg.MEM_CH_STAT a ∨ eventRegs 0x0501 a ∨ eventRegs 0x0502 a)) ∧
  (∀ (c : Fin 2) (arrivals : List MemArrival) (upsets : List (Nat × Upset)), ∃ t,
    exec (.dramRequest c arrivals upsets) s = .next t ∧ (∀ d : Fin 2, d ≠ c → t.mem.chans[d] = s.mem.chans[d]) ∧
    Frame s t [.rcd, .mem, .freeIdx] (fun a => a ∈ [Reg.MEM_CE_CNT, Reg.MEM_ERR_ADDR, Reg.MEM_ERR_STAT, Reg.MEM_POISON_CNT,
    Reg.MEM_SRAM_CE_CNT, Reg.MEM_SRAM_UE_CNT, Reg.MEM_UE_CNT] ∨ arr 2 Reg.MEM_CH_STAT a ∨ eventRegs 0x0501 a ∨
    eventRegs 0x0502 a)) ∧
  (∀ (c : Fin 2), ∃ t, exec (.agePromotion c) s = .next t ∧
    (t.mem.chans[c].queue = s.mem.chans[c].queue.map fun x => if (!x.promoted && x.class_ != 0 && decide (s.fld Reg.MEM_SCHED_CFG 25 16 * 10 * 3072 < (s.now - x.at_) * 3125)) = true then { x with promoted := true } else x) ∧
    Counted s t Reg.MEM_AGE_PROMO_CNT (s.mem.chans[c].queue.countP fun x => (!x.promoted && x.class_ != 0 && decide (s.fld Reg.MEM_SCHED_CFG 25 16 * 10 * 3072 < (s.now - x.at_) * 3125))) ∧
    (∀ d : Fin 2, d ≠ c → t.mem.chans[d] = s.mem.chans[d]) ∧ (∀ a, t.memGet a = s.memGet a) ∧
    Frame s t [.mem] (fun a => a = Reg.MEM_AGE_PROMO_CNT))

/-- REFRESH_RATE_READ stores the rate; REFRESH_DUE is postponed while class-0 requests wait for the bank and the limit is not
reached, and otherwise closes the bank's row, counted when it was forced (R499). RETRAIN_OSC_READ shows the drift and sets what
it asks for; RETRAIN_STEP runs a forced step outside a gather window with its event, or a due step in an OPEN symbol, clears
both, and the channel serves nothing for the model's 1180 ticks (R500). SCRUB_READ moves to the next block, and the last one
completes a pass (R501). RANK_POWER_DOWN of an idle, awake rank powers it down and counts (R502). Each with its frame. -/
def Obligations.RefreshRetrainScrub : Prop := ∀ s : State, s.Canon →
  (∀ (c : Fin 2) (rate : BitVec 8), ∃ t, exec (.refreshRateRead c rate) s = .next t ∧
    t.mem.chans[c] = { s.mem.chans[c] with rate := rate.toNat } ∧ (∀ d : Fin 2, d ≠ c → t.mem.chans[d] = s.mem.chans[d]) ∧
    (∀ a, t.memGet a = s.memGet a) ∧ Frame s t [.mem] noRegs) ∧
  (∀ (c : Fin 2) (rank : Fin 2) (bank : Fin 16), rank.val = 0 ∨ s.twoRanks = true →
    tabWf (fun _ => (0 : Nat)) s.mem.chans[c].rows = true → tabWf (fun _ => (0 : Nat)) s.mem.chans[c].postponed = true → ∃ t,
    exec (.refreshDue c rank bank) s = .next t ∧ t.mem.chans[c].queue = s.mem.chans[c].queue ∧
    ((s.mem.chans[c].queue.any fun x => (x.class_ = 0 || x.promoted) && (s.bankRow x.addr).2.1 = (rank.val * 16 + bank.val)) = true →
    tabGet (fun _ => (0 : Nat)) s.mem.chans[c].postponed (rank.val * 16 + bank.val) < Config.postponeLimit →
    tabGet (fun _ => (0 : Nat)) t.mem.chans[c].postponed (rank.val * 16 + bank.val) = tabGet (fun _ => (0 : Nat)) s.mem.chans[c].postponed (rank.val * 16 + bank.val) + 1 ∧
    t.mem.chans[c].rows = s.mem.chans[c].rows ∧ t.regs = s.regs) ∧
    ((s.mem.chans[c].queue.any fun x => (x.class_ = 0 || x.promoted) && (s.bankRow x.addr).2.1 = (rank.val * 16 + bank.val)) = false ∨
    Config.postponeLimit ≤ tabGet (fun _ => (0 : Nat)) s.mem.chans[c].postponed (rank.val * 16 + bank.val) →
    tabGet (fun _ => (0 : Nat)) t.mem.chans[c].postponed (rank.val * 16 + bank.val) = 0 ∧
    tabGet (fun _ => (0 : Nat)) t.mem.chans[c].rows (rank.val * 16 + bank.val) = 0) ∧
    ((s.mem.chans[c].queue.any fun x => (x.class_ = 0 || x.promoted) && (s.bankRow x.addr).2.1 = (rank.val * 16 + bank.val)) = true →
    Config.postponeLimit ≤ tabGet (fun _ => (0 : Nat)) s.mem.chans[c].postponed (rank.val * 16 + bank.val) →
    Counted s t (Reg.MEM_REF_FORCED_CNT c) 1) ∧
    ((s.mem.chans[c].queue.any fun x => (x.class_ = 0 || x.promoted) && (s.bankRow x.addr).2.1 = (rank.val * 16 + bank.val)) = false →
    t.regs = s.regs) ∧ (∀ d : Fin 2, d ≠ c → t.mem.chans[d] = s.mem.chans[d]) ∧ (∀ a, t.memGet a = s.memGet a) ∧
    Frame s t [.mem] (fun a => a = Reg.MEM_REF_FORCED_CNT c)) ∧
  (∀ (c : Fin 2) (rank : Fin 2) (bank : Fin 16), rank.val = 1 → s.twoRanks = false →
    exec (.refreshDue c rank bank) s = .next s) ∧
  (∀ (c : Fin 2) (drift : Vector (BitVec 8) 2) (d : Int), (d = if s.twoRanks = true ∧
    (drift[0]).toInt.natAbs < (drift[1]).toInt.natAbs then (drift[1]).toInt else (drift[0]).toInt) → ∃ t,
    exec (.retrainOscRead c drift) s = .next t ∧ t.fld (Reg.MEM_CH_STAT c) 7 0 = toBits 8 d ∧
    t.mem.chans[c] = { s.mem.chans[c] with forceDue := decide (s.fld Reg.MEM_RETRAIN_CFG 31 24 ≤ d.natAbs), stepDue := decide (s.fld Reg.MEM_RETRAIN_CFG 23 16 ≤ d.natAbs) } ∧
    (∀ d : Fin 2, d ≠ c → t.mem.chans[d] = s.mem.chans[d]) ∧ (∀ a, t.memGet a = s.memGet a) ∧
    Frame s t [.mem] (fun a => a = Reg.MEM_CH_STAT c)) ∧
  (∀ (c : Fin 2), s.mem.chans[c].forceDue = true → s.gathering = false → ∃ t, exec (.retrainStep c) s = .next t ∧
    t.mem.chans[c] = { s.mem.chans[c] with forceDue := false, stepDue := false, blocked := s.now + 1180 } ∧
    t.fld (Reg.MEM_CH_STAT c) 7 0 = 0 ∧ Counted s t (Reg.MEM_RETRAIN_FORCED_CNT c) 1 ∧ Raised s t 0x0503 [(1, c), (1,
    s.fld (Reg.MEM_CH_STAT c) 7 0)] ∧ (∀ d : Fin 2, d ≠ c → t.mem.chans[d] = s.mem.chans[d]) ∧ (∀ a, t.memGet a = s.memGet a) ∧
    Frame s t [.rcd, .mem] (fun a => eventRegs 0x0503 a ∨ a = Reg.MEM_CH_STAT c ∨ a = Reg.MEM_RETRAIN_FORCED_CNT c)) ∧
  (∀ (c : Fin 2), s.mem.chans[c].forceDue = false → s.mem.chans[c].stepDue = true → s.aligned = true →
    s.symUse (airAt s.airPos).1 = 3 → s.isD (airAt s.airPos).1 = false → s.isU (airAt s.airPos).1 = false →
    s.air.rxClosed = false → ∃ t, exec (.retrainStep c) s = .next t ∧
    t.mem.chans[c] = { s.mem.chans[c] with forceDue := false, stepDue := false, blocked := s.now + 1180 } ∧
    t.fld (Reg.MEM_CH_STAT c) 7 0 = 0 ∧ Counted s t (Reg.MEM_RETRAIN_CNT c) 1 ∧ t.rcd = s.rcd ∧ (∀ d : Fin 2, d ≠ c →
    t.mem.chans[d] = s.mem.chans[d]) ∧ (∀ a, t.memGet a = s.memGet a) ∧ Frame s t [.mem] (fun a => a = Reg.MEM_CH_STAT c ∨
    a = Reg.MEM_RETRAIN_CNT c)) ∧
  (∀ (c : Fin 2), s.mem.chans[c].forceDue = false → s.mem.chans[c].stepDue = false → exec (.retrainStep c) s = .next s) ∧
  (∀ (upsets : List (Nat × Upset)), s.bit Reg.MEM_SCRUB_CFG 31 = true → ∃ t, exec (.scrubRead upsets) s = .next t ∧
    t.mem.scrubbed = (if s.dramSize ≤ (s.mem.scrubbed + 1) * 64 then 0 else s.mem.scrubbed + 1) ∧
    (s.dramSize ≤ (s.mem.scrubbed + 1) * 64 → Counted s t Reg.MEM_SCRUB_PASS_CNT 1) ∧ ((s.mem.scrubbed + 1) * 64 < s.dramSize →
    t.rd Reg.MEM_SCRUB_PASS_CNT = s.rd Reg.MEM_SCRUB_PASS_CNT) ∧ (∀ c : Fin 2, c ≠ s.chanOf (s.mem.scrubbed * 64) →
    t.mem.chans[c] = s.mem.chans[c]) ∧ (s.mem.chans[s.chanOf (s.mem.scrubbed * 64)].queue = [] →
    t.mem.chans[s.chanOf (s.mem.scrubbed * 64)].queue = [] ∧
    t.mem.chans[s.chanOf (s.mem.scrubbed * 64)].lastReq[s.rankOf (s.mem.scrubbed * 64)] = s.now) ∧ (∀ a,
    t.memGet a = s.memGet a) ∧ Frame s t [.rcd, .mem, .freeIdx] (fun a => a ∈ [Reg.MEM_CE_CNT, Reg.MEM_ERR_ADDR,
    Reg.MEM_ERR_STAT, Reg.MEM_POISON_CNT, Reg.MEM_SCRUB_PASS_CNT, Reg.MEM_SRAM_CE_CNT, Reg.MEM_SRAM_UE_CNT, Reg.MEM_UE_CNT] ∨
    arr 2 Reg.MEM_CH_STAT a ∨ eventRegs 0x0501 a ∨ eventRegs 0x0502 a)) ∧
  (∀ (upsets : List (Nat × Upset)), s.bit Reg.MEM_SCRUB_CFG 31 = false → ∃ t, exec (.scrubRead upsets) s = .next t ∧
    t.mem.scrubbed = s.mem.scrubbed ∧ t.mem.chans = s.mem.chans ∧ (∀ a, t.memGet a = s.memGet a) ∧ Frame s t [.mem] noRegs) ∧
  (∀ (c : Fin 2) (rank : Fin 2), (s.mem.chans[c].queue.any fun x => (s.bankRow x.addr).2.1 / 16 = rank.val) = false →
    nsPassed (s.now - s.mem.chans[c].lastReq[rank]) (s.fld Reg.MEM_SCHED_CFG 9 0 * 10) = true → rank.val = 0 ∨
    s.twoRanks = true → s.bit (Reg.MEM_CH_STAT c) (16 + rank.val) = false → ∃ t, exec (.rankPowerDown c rank) s = .next t ∧
    t.bit (Reg.MEM_CH_STAT c) (16 + rank.val) = true ∧ Counted s t (Reg.MEM_PD_CNT c) 1 ∧ (∀ k : Fin 32,
    k.val ≠ 16 + rank.val → t.bit (Reg.MEM_CH_STAT c) k = s.bit (Reg.MEM_CH_STAT c) k) ∧
    Frame s t [] (fun a => a = Reg.MEM_CH_STAT c ∨ a = Reg.MEM_PD_CNT c)) ∧
  (∀ (c : Fin 2) (rank : Fin 2), s.bit (Reg.MEM_CH_STAT c) (16 + rank.val) = true → exec (.rankPowerDown c rank) s = .next s)

/-- DESCRIPTOR_START on an idle fixed spool with an empty ring: its owner writes the descriptor into the ring and advances head;
with bad sizes or addresses it completes at once, otherwise a copy begins in RUN with its direction and a descriptor of a queue
in WAIT (R504, R505, R506, R508, R509, R512). On an idle spool with a descriptor in its ring the one at tail begins or
completes; on a spool that is not idle, or on a host spool with an empty ring, no descriptor is taken (R505, R508).
DESCRIPTOR_COMPLETE moves what is left after the running spools of high priority, counts, advances the tail and leaves the spool
idle, or paused; one whose queue stops it before its end waits (R512, R513, R514, R518, R519). Bytes outside the destination,
the descriptor and its status stay where no DRAM request waits and no upset strikes. Other spools that do not run before it keep
their state. Each with its frame. -/
def Obligations.SpoolDescriptors : Prop := ∀ s : State, s.Canon →
  (∀ (sp : Fin 32) (eng : Vector Byte 32) (cut : Option (Fin 32)) (upsets : List (Nat × Upset)) (d : Desc), s.splState sp = 0 →
    s.mode ≠ .shelf → hostSpool sp = false → (s.ownRing sp).ringFill sp = 0 →
    inSram ((s.ownRing sp).ringSlot sp ((s.ownRing sp).ringIndex sp)) 32 = true →
    d = parseDesc ((s.ownRing sp).ringIndex sp) eng.toList → descSizes d = false ∨ (d.op = 1 ∧
    s.memValid d.table (8 * d.len) = false) ∨ (d.op ≠ 1 ∧ s.descAddrs sp d = false) → ∃ t,
    exec (.descriptorStart sp eng cut upsets) s = .next t ∧ t.splState sp = s.restState sp ∧
    t.fld (Reg.SPL_TAIL sp) 8 0 = (s.fld (Reg.SPL_TAIL sp) 8 0 + 1) % 512 ∧
    t.fld (Reg.SPL_HEAD sp) 8 0 = (s.fld (Reg.SPL_HEAD sp) 8 0 + 1) % 512 ∧ Counted s t (Reg.SPL_DESC_CNT sp) 1 ∧
    t.mem.spools[sp].cur = none ∧ (∀ k : Fin 32, k ≠ sp → t.mem.spools[k] = s.mem.spools[k]) ∧ (upsets = [] → ∀ a,
    a < (s.ownRing sp).ringSlot sp d.index ∨ (s.ownRing sp).ringSlot sp d.index + 32 ≤ a → t.memGet a = s.memGet a) ∧
    Frame s t [.rcd, .mem, .freeIdx] (fun a => a ∈ [Reg.MEM_CE_CNT, Reg.MEM_ERR_ADDR, Reg.MEM_ERR_STAT, Reg.MEM_POISON_CNT,
    Reg.MEM_SRAM_CE_CNT, Reg.MEM_SRAM_UE_CNT, Reg.MEM_UE_CNT] ∨ arr 2 Reg.MEM_CH_STAT a ∨ arr 32 Reg.SPL_PREEMPT_CNT a ∨
    eventRegs 0x0501 a ∨ eventRegs 0x0502 a ∨ eventRegs 0x0602 a ∨ eventRegs 0x0603 a ∨ a = Reg.SPL_CUR_DST sp ∨
    a = Reg.SPL_CUR_ELEM sp ∨ a = Reg.SPL_CUR_SRC sp ∨ a = Reg.SPL_DESC_CNT sp ∨ a = Reg.SPL_DONE sp ∨ a = Reg.SPL_HEAD sp ∨
    a = Reg.SPL_RING_BASE sp ∨ a = Reg.SPL_RING_CFG sp ∨ a = Reg.SPL_STAT sp ∨ a = Reg.SPL_TAIL sp ∨ a = Reg.SPL_UE_CNT sp)) ∧
  (∀ (sp : Fin 32) (eng : Vector Byte 32) (cut : Option (Fin 32)) (upsets : List (Nat × Upset)) (d : Desc), s.splState sp = 0 →
    s.mode ≠ .shelf → hostSpool sp = false → (s.ownRing sp).ringFill sp = 0 →
    inSram ((s.ownRing sp).ringSlot sp ((s.ownRing sp).ringIndex sp)) 32 = true →
    d = parseDesc ((s.ownRing sp).ringIndex sp) eng.toList → descSizes d = true → d.op ≠ 1 → s.descAddrs sp d = true → ∃ t,
    exec (.descriptorStart sp eng cut upsets) s = .next t ∧ t.splState sp = (if d.op = 0 then 1 else 2) ∧
    t.fld (Reg.SPL_TAIL sp) 8 0 = s.fld (Reg.SPL_TAIL sp) 8 0 ∧
    t.fld (Reg.SPL_HEAD sp) 8 0 = (s.fld (Reg.SPL_HEAD sp) 8 0 + 1) % 512 ∧
    t.mem.spools[sp].cur = some { d with down := d.op = 0 && descends d.src d.dst d.len } ∧
    t.mem.spools[sp].paced = decide (2 ≤ d.op) ∧ t.fld (Reg.SPL_STAT sp) 24 24 = (if d.op = 0 ∧
    descends d.src d.dst d.len = true then 1 else 0) ∧ t.fld (Reg.SPL_STAT sp) 7 0 = d.index % 256 ∧ (∀ k : Fin 32, k ≠ sp →
    t.mem.spools[k] = s.mem.spools[k]) ∧ (upsets = [] → ∀ a, a < (s.ownRing sp).ringSlot sp d.index ∨
    (s.ownRing sp).ringSlot sp d.index + 32 ≤ a → t.memGet a = s.memGet a) ∧ Frame s t [.mem] (fun a => a ∈ [Reg.MEM_CE_CNT,
    Reg.MEM_ERR_ADDR, Reg.MEM_ERR_STAT, Reg.MEM_POISON_CNT, Reg.MEM_SRAM_CE_CNT, Reg.MEM_SRAM_UE_CNT, Reg.MEM_UE_CNT] ∨
    arr 2 Reg.MEM_CH_STAT a ∨ arr 32 Reg.SPL_PREEMPT_CNT a ∨ a = Reg.SPL_CUR_DST sp ∨ a = Reg.SPL_CUR_ELEM sp ∨
    a = Reg.SPL_CUR_SRC sp ∨ a = Reg.SPL_DONE sp ∨ a = Reg.SPL_HEAD sp ∨ a = Reg.SPL_RING_BASE sp ∨ a = Reg.SPL_RING_CFG sp ∨
    a = Reg.SPL_STAT sp)) ∧
  (∀ (sp : Fin 32) (eng : Vector Byte 32) (cut : Option (Fin 32)) (upsets : List (Nat × Upset)), s.splState sp = 0 →
    s.mode ≠ .shelf → hostSpool sp = true → s.ringSize sp ≠ 0 → inSram (s.ringSlot sp (s.ringIndex sp)) 32 = true →
    s.ringFill sp ≠ 0 → ∃ t, exec (.descriptorStart sp eng cut upsets) s = .next t ∧ ((t.mem.spools[sp].cur.isSome = true ∧
    t.fld (Reg.SPL_TAIL sp) 8 0 = s.fld (Reg.SPL_TAIL sp) 8 0 ∧ (t.splState sp = 1 ∨ t.splState sp = 2)) ∨
    (t.mem.spools[sp].cur = none ∧ t.fld (Reg.SPL_TAIL sp) 8 0 = (s.fld (Reg.SPL_TAIL sp) 8 0 + 1) % 512 ∧
    Counted s t (Reg.SPL_DESC_CNT sp) 1 ∧ t.splState sp = s.restState sp)) ∧ (∀ k : Fin 32, k ≠ sp →
    t.mem.spools[k] = s.mem.spools[k]) ∧ (upsets = [] → s.QuietMem → ∀ a, a < s.ringSlot sp (s.ringIndex sp) + 24 ∨
    s.ringSlot sp (s.ringIndex sp) + 32 ≤ a → t.memGet a = s.memGet a) ∧ Frame s t [.rcd, .mem,
    .freeIdx] (fun a => a ∈ [Reg.MEM_CE_CNT, Reg.MEM_ERR_ADDR, Reg.MEM_ERR_STAT, Reg.MEM_POISON_CNT, Reg.MEM_SRAM_CE_CNT,
    Reg.MEM_SRAM_UE_CNT, Reg.MEM_UE_CNT] ∨ arr 2 Reg.MEM_CH_STAT a ∨ arr 32 Reg.SPL_PREEMPT_CNT a ∨ eventRegs 0x0501 a ∨
    eventRegs 0x0502 a ∨ eventRegs 0x0602 a ∨ eventRegs 0x0603 a ∨ a = Reg.SPL_CUR_DST sp ∨ a = Reg.SPL_CUR_ELEM sp ∨
    a = Reg.SPL_CUR_SRC sp ∨ a = Reg.SPL_DESC_CNT sp ∨ a = Reg.SPL_DONE sp ∨ a = Reg.SPL_RING_BASE sp ∨
    a = Reg.SPL_RING_CFG sp ∨ a = Reg.SPL_STAT sp ∨ a = Reg.SPL_TAIL sp ∨ a = Reg.SPL_UE_CNT sp)) ∧
  (∀ (sp : Fin 32) (eng : Vector Byte 32) (cut : Option (Fin 32)) (upsets : List (Nat × Upset)), s.splState sp = 0 →
    s.mode ≠ .shelf → hostSpool sp = false → s.ringSize sp ≠ 0 → inSram (s.ringSlot sp (s.ringIndex sp)) 32 = true →
    s.ringFill sp ≠ 0 → ∃ t, exec (.descriptorStart sp eng cut upsets) s = .next t ∧ ((t.mem.spools[sp].cur.isSome = true ∧
    t.fld (Reg.SPL_TAIL sp) 8 0 = s.fld (Reg.SPL_TAIL sp) 8 0 ∧ (t.splState sp = 1 ∨ t.splState sp = 2)) ∨
    (t.mem.spools[sp].cur = none ∧ t.fld (Reg.SPL_TAIL sp) 8 0 = (s.fld (Reg.SPL_TAIL sp) 8 0 + 1) % 512 ∧
    Counted s t (Reg.SPL_DESC_CNT sp) 1 ∧ t.splState sp = s.restState sp)) ∧
    t.fld (Reg.SPL_HEAD sp) 8 0 = (if s.ringFill sp < s.ringSize sp then (s.fld (Reg.SPL_HEAD sp) 8 0 + 1) % 512 else s.fld (Reg.SPL_HEAD sp) 8 0) ∧
    (∀ k : Fin 32, k ≠ sp → t.mem.spools[k] = s.mem.spools[k]) ∧ Frame s t [.rcd, .mem,
    .freeIdx] (fun a => a ∈ [Reg.MEM_CE_CNT, Reg.MEM_ERR_ADDR, Reg.MEM_ERR_STAT, Reg.MEM_POISON_CNT, Reg.MEM_SRAM_CE_CNT,
    Reg.MEM_SRAM_UE_CNT, Reg.MEM_UE_CNT] ∨ arr 2 Reg.MEM_CH_STAT a ∨ arr 32 Reg.SPL_PREEMPT_CNT a ∨ eventRegs 0x0501 a ∨
    eventRegs 0x0502 a ∨ eventRegs 0x0602 a ∨ eventRegs 0x0603 a ∨ a = Reg.SPL_CUR_DST sp ∨ a = Reg.SPL_CUR_ELEM sp ∨
    a = Reg.SPL_CUR_SRC sp ∨ a = Reg.SPL_DESC_CNT sp ∨ a = Reg.SPL_DONE sp ∨ a = Reg.SPL_HEAD sp ∨ a = Reg.SPL_STAT sp ∨
    a = Reg.SPL_TAIL sp ∨ a = Reg.SPL_UE_CNT sp)) ∧
  (∀ (sp : Fin 32) (eng : Vector Byte 32) (cut : Option (Fin 32)) (upsets : List (Nat × Upset)), s.splState sp ≠ 0 ∨
    s.mode = .shelf ∨ (hostSpool sp = true ∧ s.ringFill sp = 0) → ∃ t, exec (.descriptorStart sp eng cut upsets) s = .next t ∧
    t.mem.spools = s.mem.spools ∧ t.mem.chans = s.mem.chans ∧ (∀ a, t.memGet a = s.memGet a) ∧ Frame s t [.mem] noRegs) ∧
  (∀ (sp : Fin 32) (m : SpoolMove) (d : Desc) (r : (Desc × List (List Byte)) × State), s.mem.spools[sp].cur = some d →
    s.runsFree sp = true → r = (s.highFirst sp).advance sp d d.left m → r.2.finished r.1.1 r.1.2 = true → ∃ t,
    exec (.descriptorComplete sp m) s = .next t ∧ t.splState sp = s.restState sp ∧
    t.fld (Reg.SPL_TAIL sp) 8 0 = (s.fld (Reg.SPL_TAIL sp) 8 0 + 1) % 512 ∧ Counted s t (Reg.SPL_DESC_CNT sp) 1 ∧
    t.mem.spools[sp] = { cur := none, paced := false, draining := false, aborting := false, powerAt := none } ∧ (s.First sp →
    d.op < 2 → t.pkt = s.pkt) ∧ (∀ k : Fin 32, k ≠ sp → s.splHigh sp = true ∨ s.splHigh k = false ∨ s.runsFree k = false →
    t.mem.spools[k] = s.mem.spools[k]) ∧ (m.upsets = [] → s.QuietMem → s.First sp → ∀ a, (a < s.ringSlot sp d.index + 24 ∨
    s.ringSlot sp d.index + 32 ≤ a) ∧ (d.op = 0 → a < d.dst ∨ d.dst + d.len ≤ a) ∧ (d.op = 1 → ∀ e ∈ d.elems, a < d.dst + e.2 ∨
    d.dst + e.2 + d.esize ≤ a) ∧ (d.op = 2 → a < d.dst + d.done ∨ d.dst + d.done + d.left ≤ a) → t.memGet a = s.memGet a) ∧
    Frame s t [.rcd, .pkt, .mem, .freeIdx] (fun a => a ∈ [Reg.MEM_CE_CNT, Reg.MEM_ERR_ADDR, Reg.MEM_ERR_STAT,
    Reg.MEM_POISON_CNT, Reg.MEM_SRAM_CE_CNT, Reg.MEM_SRAM_UE_CNT, Reg.MEM_UE_CNT] ∨ arr 2 Reg.MEM_CH_STAT a ∨
    eventRegs 0x0501 a ∨ eventRegs 0x0502 a ∨ eventRegs 0x0602 a ∨ eventRegs 0x0603 a ∨ a = Reg.SPL_CUR_DST sp ∨
    a = Reg.SPL_CUR_ELEM sp ∨ a = Reg.SPL_CUR_SRC sp ∨ a = Reg.SPL_DESC_CNT sp ∨ a = Reg.SPL_DONE sp ∨ a = Reg.SPL_STAT sp ∨
    a = Reg.SPL_TAIL sp ∨ a = Reg.SPL_UE_CNT sp ∨ arr 32 Reg.SPL_CUR_SRC a ∨ arr 32 Reg.SPL_CUR_DST a ∨ arr 32 Reg.SPL_DONE a ∨
    arr 32 Reg.SPL_CUR_ELEM a)) ∧
  (∀ (sp : Fin 32) (m : SpoolMove) (d : Desc) (r : (Desc × List (List Byte)) × State), s.mem.spools[sp].cur = some d →
    s.runsFree sp = true → r = (s.highFirst sp).advance sp d d.left m → r.2.finished r.1.1 r.1.2 = false → ∃ t,
    exec (.descriptorComplete sp m) s = .next t ∧ t.splState sp = 2 ∧
    t.fld (Reg.SPL_TAIL sp) 8 0 = s.fld (Reg.SPL_TAIL sp) 8 0 ∧
    t.mem.spools[sp] = { s.mem.spools[sp] with cur := some r.1.1, paced := true } ∧ (∀ k : Fin 32, k ≠ sp →
    s.splHigh sp = true ∨ s.splHigh k = false ∨ s.runsFree k = false → t.mem.spools[k] = s.mem.spools[k]) ∧ (m.upsets = [] →
    s.QuietMem → s.First sp → ∀ a, (a < s.ringSlot sp d.index + 24 ∨ s.ringSlot sp d.index + 32 ≤ a) ∧ (d.op = 0 → a < d.dst ∨
    d.dst + d.len ≤ a) ∧ (d.op = 1 → ∀ e ∈ d.elems, a < d.dst + e.2 ∨ d.dst + e.2 + d.esize ≤ a) ∧ (d.op = 2 →
    a < d.dst + d.done ∨ d.dst + d.done + d.left ≤ a) → t.memGet a = s.memGet a) ∧ Frame s t [.rcd, .pkt, .mem,
    .freeIdx] (fun a => a ∈ [Reg.MEM_CE_CNT, Reg.MEM_ERR_ADDR, Reg.MEM_ERR_STAT, Reg.MEM_POISON_CNT, Reg.MEM_SRAM_CE_CNT,
    Reg.MEM_SRAM_UE_CNT, Reg.MEM_UE_CNT] ∨ arr 2 Reg.MEM_CH_STAT a ∨ eventRegs 0x0501 a ∨ eventRegs 0x0502 a ∨
    eventRegs 0x0602 a ∨ eventRegs 0x0603 a ∨ a = Reg.SPL_CUR_DST sp ∨ a = Reg.SPL_CUR_ELEM sp ∨ a = Reg.SPL_CUR_SRC sp ∨
    a = Reg.SPL_DONE sp ∨ a = Reg.SPL_STAT sp ∨ arr 32 Reg.SPL_CUR_SRC a ∨ arr 32 Reg.SPL_CUR_DST a ∨ arr 32 Reg.SPL_DONE a ∨
    arr 32 Reg.SPL_CUR_ELEM a)) ∧
  (∀ (sp : Fin 32) (m : SpoolMove), s.mem.spools[sp].cur = none ∨ s.runsFree sp = false →
    exec (.descriptorComplete sp m) s = .next s)

/-- When a running spool completes a descriptor of op 0 that has moved nothing yet, between ranges that do not overlap, from a
source whose bytes have values, with the status bytes outside the destination, no DRAM request waiting, no upset and no spool
that goes first, then every byte of the destination holds what the byte of the source held, whatever the alignment of either end
and however the copy is cut into beats (R506, R509, R519). -/
def Obligations.SpoolCopyMovesTheBytes : Prop := ∀ s : State, s.Canon →
  (∀ (sp : Fin 32) (m : SpoolMove) (d : Desc), s.mem.spools[sp].cur = some d → s.runsFree sp = true → d.op = 0 → d.done = 0 →
    d.src + d.len ≤ d.dst ∨ d.dst + d.len ≤ d.src → d.down = descends d.src d.dst d.len → (∀ i < d.len,
    s.openByte (d.src + i) = false) → m.upsets = [] → s.QuietMem → s.First sp → s.ringSlot sp d.index + 32 ≤ d.dst ∨
    d.dst + d.len ≤ s.ringSlot sp d.index + 24 → ∃ t, exec (.descriptorComplete sp m) s = .next t ∧ (∀ i < d.len,
    t.memGet (d.dst + i) = s.memGet (d.src + i)))

/-- SPOOL_PAUSE stops an idle spool at once and lets a busy one drain; SPOOL_RESUME goes on from where it stands (R514).
SPOOL_ABORT lets a busy spool drain and halts any other, completing its descriptor; SPOOL_RESTART leaves HALTED (R515).
SPOOL_HEAD_WRITE moves the head within the ring; SPOOL_PACE_WRITE stores levels in order (R505, R512). A write to a fixed spool,
a head past the ring and levels out of order are refused and counted (R504, R505, R512). Each with its frame. -/
def Obligations.SpoolHostControl : Prop := ∀ s : State, s.Canon →
  (∀ (sp : Fin 32), s.writable = true → hostSpool sp = true → s.bit (Reg.SPL_CTRL sp) 31 = false → ∃ t,
    exec (.spoolPause sp) s = .next t ∧ t.bit (Reg.SPL_CTRL sp) 31 = true ∧ (s.splState sp = 0 → t.splState sp = 3 ∧
    t.mem = s.mem) ∧ (s.splState sp = 1 ∨ s.splState sp = 2 → t.splState sp = s.splState sp ∧
    t.mem.spools[sp] = { s.mem.spools[sp] with draining := true }) ∧ (3 ≤ s.splState sp → t.splState sp = s.splState sp ∧
    t.mem = s.mem) ∧ (∀ k : Fin 32, k ≠ sp → t.mem.spools[k] = s.mem.spools[k]) ∧ (∀ a, t.memGet a = s.memGet a) ∧
    Frame s t [.mem] (fun a => a = Reg.SPL_CTRL sp ∨ a = Reg.SPL_STAT sp)) ∧
  (∀ (sp : Fin 32), s.writable = false ∨ (hostSpool sp = true ∧ s.bit (Reg.SPL_CTRL sp) 31 = true) →
    exec (.spoolPause sp) s = .next s) ∧
  (∀ (sp : Fin 32), s.writable = true → hostSpool sp = false → ∃ t, exec (.spoolPause sp) s = .next t ∧
    Counted s t (Reg.SPL_REFUSE_CNT sp) 1 ∧ Frame s t [] (fun a => a = Reg.SPL_REFUSE_CNT sp)) ∧
  (∀ (sp : Fin 32), s.writable = true → hostSpool sp = true → s.bit (Reg.SPL_CTRL sp) 31 = true → ∃ t,
    exec (.spoolResume sp) s = .next t ∧ t.bit (Reg.SPL_CTRL sp) 31 = false ∧
    t.mem.spools[sp] = { s.mem.spools[sp] with draining := false } ∧
    t.splState sp = (if s.splState sp = 3 then (if s.mem.spools[sp].cur = none then 0 else if s.mem.spools[sp].paced = true then 2 else 1) else s.splState sp) ∧
    (∀ k : Fin 32, k ≠ sp → t.mem.spools[k] = s.mem.spools[k]) ∧ (∀ a, t.memGet a = s.memGet a) ∧
    Frame s t [.mem] (fun a => arr 32 Reg.SPL_PREEMPT_CNT a ∨ a = Reg.SPL_CTRL sp ∨ a = Reg.SPL_STAT sp)) ∧
  (∀ (sp : Fin 32), s.writable = true → hostSpool sp = false → ∃ t, exec (.spoolResume sp) s = .next t ∧
    Counted s t (Reg.SPL_REFUSE_CNT sp) 1 ∧ Frame s t [] (fun a => a = Reg.SPL_REFUSE_CNT sp)) ∧
  (∀ (sp : Fin 32), s.writable = true → hostSpool sp = true → s.splState sp = 1 ∨ s.splState sp = 2 → ∃ t,
    exec (.spoolAbort sp) s = .next t ∧ t.bit (Reg.SPL_CTRL sp) 30 = true ∧
    t.mem.spools[sp] = { s.mem.spools[sp] with aborting := true } ∧ (∀ k : Fin 32, k ≠ sp →
    t.mem.spools[k] = s.mem.spools[k]) ∧ (∀ a, t.memGet a = s.memGet a) ∧ Frame s t [.mem] (fun a => a = Reg.SPL_CTRL sp)) ∧
  (∀ (sp : Fin 32), s.writable = true → hostSpool sp = true → s.splState sp ≠ 1 → s.splState sp ≠ 2 → s.splState sp ≠ 5 → ∃ t,
    exec (.spoolAbort sp) s = .next t ∧ t.splState sp = 5 ∧ Counted s t (Reg.SPL_ABORT_CNT sp) 1 ∧
    t.bit (Reg.SPL_CTRL sp) 30 = false ∧ (∀ d, s.mem.spools[sp].cur = some d → t.mem.spools[sp].cur = none ∧
    t.fld (Reg.SPL_TAIL sp) 8 0 = (s.fld (Reg.SPL_TAIL sp) 8 0 + 1) % 512 ∧ Counted s t (Reg.SPL_DESC_CNT sp) 1) ∧
    (s.mem.spools[sp].cur = none → t.mem = s.mem) ∧ (∀ k : Fin 32, k ≠ sp → t.mem.spools[k] = s.mem.spools[k]) ∧
    Frame s t [.rcd, .mem, .freeIdx] (fun a => a ∈ [Reg.MEM_CE_CNT, Reg.MEM_ERR_ADDR, Reg.MEM_ERR_STAT, Reg.MEM_POISON_CNT,
    Reg.MEM_SRAM_CE_CNT, Reg.MEM_SRAM_UE_CNT, Reg.MEM_UE_CNT] ∨ arr 2 Reg.MEM_CH_STAT a ∨ eventRegs 0x0501 a ∨
    eventRegs 0x0502 a ∨ eventRegs 0x0602 a ∨ eventRegs 0x0603 a ∨ a = Reg.SPL_ABORT_CNT sp ∨ a = Reg.SPL_CTRL sp ∨
    a = Reg.SPL_CUR_DST sp ∨ a = Reg.SPL_CUR_ELEM sp ∨ a = Reg.SPL_CUR_SRC sp ∨ a = Reg.SPL_DESC_CNT sp ∨ a = Reg.SPL_DONE sp ∨
    a = Reg.SPL_STAT sp ∨ a = Reg.SPL_TAIL sp ∨ a = Reg.SPL_UE_CNT sp)) ∧
  (∀ (sp : Fin 32), s.writable = false ∨ (hostSpool sp = true ∧ s.splState sp = 5) → exec (.spoolAbort sp) s = .next s) ∧
  (∀ (sp : Fin 32), s.writable = true → hostSpool sp = false → ∃ t, exec (.spoolAbort sp) s = .next t ∧
    Counted s t (Reg.SPL_REFUSE_CNT sp) 1 ∧ Frame s t [] (fun a => a = Reg.SPL_REFUSE_CNT sp)) ∧
  (∀ (sp : Fin 32), s.writable = true → hostSpool sp = true → s.splState sp = 5 → ∃ t, exec (.spoolRestart sp) s = .next t ∧
    t.splState sp = s.restState sp ∧ Frame s t [] (fun a => a = Reg.SPL_STAT sp)) ∧
  (∀ (sp : Fin 32), s.writable = false ∨ (hostSpool sp = true ∧ s.splState sp ≠ 5) → exec (.spoolRestart sp) s = .next s) ∧
  (∀ (sp : Fin 32), s.writable = true → hostSpool sp = false → ∃ t, exec (.spoolRestart sp) s = .next t ∧
    Counted s t (Reg.SPL_REFUSE_CNT sp) 1 ∧ Frame s t [] (fun a => a = Reg.SPL_REFUSE_CNT sp)) ∧
  (∀ (sp : Fin 32) (w : Word), s.writable = true → hostSpool sp = true →
    (fldOf w 8 0 + 512 - s.fld (Reg.SPL_TAIL sp) 8 0) % 512 ≤ s.ringSize sp → ∃ t, exec (.spoolHeadWrite sp w) s = .next t ∧
    t.fld (Reg.SPL_HEAD sp) 8 0 = fldOf w 8 0 ∧ Frame s t [] (fun a => a = Reg.SPL_HEAD sp)) ∧
  (∀ (sp : Fin 32) (w : Word), s.writable = true → hostSpool sp = false ∨
    s.ringSize sp < (fldOf w 8 0 + 512 - s.fld (Reg.SPL_TAIL sp) 8 0) % 512 → ∃ t, exec (.spoolHeadWrite sp w) s = .next t ∧
    Counted s t (Reg.SPL_REFUSE_CNT sp) 1 ∧ Frame s t [] (fun a => a = Reg.SPL_REFUSE_CNT sp)) ∧
  (∀ (sp : Fin 32) (w : Word), s.writable = false → exec (.spoolHeadWrite sp w) s = .next s) ∧
  (∀ (sp : Fin 32) (w : Word), s.writable = true → hostSpool sp = true → fldOf w 7 0 < fldOf w 15 8 → ∃ t,
    exec (.spoolPaceWrite sp w) s = .next t ∧ t.fld (Reg.SPL_PACE sp) 31 20 = fldOf w 31 20 ∧
    t.fld (Reg.SPL_PACE sp) 15 0 = fldOf w 15 0 ∧ Frame s t [] (fun a => a = Reg.SPL_PACE sp)) ∧
  (∀ (sp : Fin 32) (w : Word), s.writable = true → hostSpool sp = false ∨ fldOf w 15 8 ≤ fldOf w 7 0 → ∃ t,
    exec (.spoolPaceWrite sp w) s = .next t ∧ Counted s t (Reg.SPL_REFUSE_CNT sp) 1 ∧
    Frame s t [] (fun a => a = Reg.SPL_REFUSE_CNT sp)) ∧
  (∀ (sp : Fin 32) (w : Word), s.writable = false → exec (.spoolPaceWrite sp w) s = .next s)

/-- SPOOL_DRAINED puts a pausing spool into PAUSED with its descriptor, and an aborting one into HALTED with the descriptor
completed (R514, R515). PACING_START at its level starts a waiting spool, and PACING_STOP at its level returns it to WAIT with
what it has moved (R512). SPOOL_POWER_WAIT notes the request of a domain; SPOOL_POWER_TIMEOUT with everything written within 2
µs leaves the spool in PAUSED_POWER, counted, or halted where it was aborting; with beats left then, or written later, it aborts
the descriptor with 0x0601 (R516). SPOOL_POWER_RESUME goes on, and an engine's halted spool returns to IDLE (R517). Bytes
outside the destination and the status stay. Each with its frame. -/
def Obligations.SpoolDrainPacePower : Prop := ∀ s : State, s.Canon →
  (∀ (sp : Fin 32) (m : SpoolMove) (d : Desc), s.mem.spools[sp].cur = some d → s.mem.spools[sp].draining = true ∨
    s.mem.spools[sp].aborting = true → s.mem.spools[sp].powerAt = none → s.splState sp = 1 ∨ s.splState sp = 2 → ∃ t,
    exec (.spoolDrained sp m) s = .next t ∧ (s.mem.spools[sp].aborting = true → t.splState sp = 5 ∧
    t.mem.spools[sp].cur = none ∧ Counted s t (Reg.SPL_ABORT_CNT sp) 1 ∧
    t.fld (Reg.SPL_TAIL sp) 8 0 = (s.fld (Reg.SPL_TAIL sp) 8 0 + 1) % 512 ∧ Counted s t (Reg.SPL_DESC_CNT sp) 1) ∧
    (s.mem.spools[sp].aborting = false → t.splState sp = 3 ∧ t.mem.spools[sp].cur.isSome = true ∧
    t.mem.spools[sp].draining = false ∧ t.fld (Reg.SPL_TAIL sp) 8 0 = s.fld (Reg.SPL_TAIL sp) 8 0 ∧
    t.rd (Reg.SPL_ABORT_CNT sp) = s.rd (Reg.SPL_ABORT_CNT sp)) ∧ (∀ k : Fin 32, k ≠ sp → t.mem.spools[k] = s.mem.spools[k]) ∧
    (m.upsets = [] → s.QuietMem → ∀ a, (a < s.ringSlot sp d.index + 24 ∨ s.ringSlot sp d.index + 32 ≤ a) ∧ (d.op = 0 →
    a < d.dst ∨ d.dst + d.len ≤ a) ∧ (d.op = 1 → ∀ e ∈ d.elems, a < d.dst + e.2 ∨ d.dst + e.2 + d.esize ≤ a) ∧ (d.op = 2 →
    a < d.dst + d.done ∨ d.dst + d.done + d.left ≤ a) → t.memGet a = s.memGet a) ∧ Frame s t [.rcd, .pkt, .mem,
    .freeIdx] (fun a => a ∈ [Reg.MEM_CE_CNT, Reg.MEM_ERR_ADDR, Reg.MEM_ERR_STAT, Reg.MEM_POISON_CNT, Reg.MEM_SRAM_CE_CNT,
    Reg.MEM_SRAM_UE_CNT, Reg.MEM_UE_CNT] ∨ arr 2 Reg.MEM_CH_STAT a ∨ eventRegs 0x0501 a ∨ eventRegs 0x0502 a ∨
    eventRegs 0x0602 a ∨ eventRegs 0x0603 a ∨ a = Reg.SPL_ABORT_CNT sp ∨ a = Reg.SPL_CTRL sp ∨ a = Reg.SPL_CUR_DST sp ∨
    a = Reg.SPL_CUR_ELEM sp ∨ a = Reg.SPL_CUR_SRC sp ∨ a = Reg.SPL_DESC_CNT sp ∨ a = Reg.SPL_DONE sp ∨ a = Reg.SPL_STAT sp ∨
    a = Reg.SPL_TAIL sp ∨ a = Reg.SPL_UE_CNT sp)) ∧
  (∀ (sp : Fin 32) (m : SpoolMove), s.mem.spools[sp].cur = none ∨ (s.mem.spools[sp].draining = false ∧
    s.mem.spools[sp].aborting = false) ∨ s.mem.spools[sp].powerAt.isSome = true ∨ (s.splState sp ≠ 1 ∧ s.splState sp ≠ 2) →
    exec (.spoolDrained sp m) s = .next s) ∧
  (∀ (sp : Fin 32) (fill : Nat) (waited : Nat) (cut : Option (Fin 32)) (d : Desc), s.mem.spools[sp].cur = some d →
    s.splState sp = 2 → s.mem.spools[sp].draining = false → s.mem.spools[sp].aborting = false →
    s.mem.spools[sp].powerAt = none → (if d.op = 2 then s.fld (Reg.SPL_PACE sp) 15 8 ≤ (s.fillOf d.queue (fill, waited)).1 ∨
    (0 < (s.fillOf d.queue (fill, waited)).1 ∧ nsPassed (s.fillOf d.queue (fill,
    waited)).2 (s.fld (Reg.SPL_PACE sp) 31 20 * 250) = true) else (s.fillOf d.queue (fill,
    waited)).1 ≤ s.fld (Reg.SPL_PACE sp) 7 0) → ∃ t, exec (.pacingStart sp fill waited cut) s = .next t ∧ t.splState sp = 1 ∧
    t.mem.spools[sp] = { s.mem.spools[sp] with paced := false } ∧ (∀ k : Fin 32, k ≠ sp → t.mem.spools[k] = s.mem.spools[k]) ∧
    (∀ a, t.memGet a = s.memGet a) ∧ Frame s t [.mem] (fun a => arr 32 Reg.SPL_PREEMPT_CNT a ∨ a = Reg.SPL_STAT sp)) ∧
  (∀ (sp : Fin 32) (fill : Nat) (waited : Nat) (cut : Option (Fin 32)), s.mem.spools[sp].cur = none →
    exec (.pacingStart sp fill waited cut) s = .next s) ∧
  (∀ (sp : Fin 32) (fill : Nat) (waited : Nat) (cut : Option (Fin 32)) (d : Desc), s.mem.spools[sp].cur = some d →
    s.splState sp ≠ 2 ∨ s.mem.spools[sp].draining = true ∨ s.mem.spools[sp].aborting = true ∨
    s.mem.spools[sp].powerAt.isSome = true ∨ ¬ (if d.op = 2 then s.fld (Reg.SPL_PACE sp) 15 8 ≤ (s.fillOf d.queue (fill,
    waited)).1 ∨ (0 < (s.fillOf d.queue (fill, waited)).1 ∧ nsPassed (s.fillOf d.queue (fill,
    waited)).2 (s.fld (Reg.SPL_PACE sp) 31 20 * 250) = true) else (s.fillOf d.queue (fill,
    waited)).1 ≤ s.fld (Reg.SPL_PACE sp) 7 0) → exec (.pacingStart sp fill waited cut) s = .next s) ∧
  (∀ (sp : Fin 32) (m : SpoolMove) (d : Desc) (r : (Desc × List (List Byte)) × State), s.mem.spools[sp].cur = some d →
    s.runsFree sp = true → 2 ≤ d.op → r = (s.highFirst sp).advance sp d m.n m →
    (if d.op = 2 then creditsOf (r.2.queuedParcels d.queue r.1.2) ≤ s.paceLo sp else s.paceHi sp ≤ creditsOf (r.2.queuedParcels d.queue r.1.2)) →
    ∃ t, exec (.pacingStop sp m) s = .next t ∧ t.splState sp = 2 ∧
    t.mem.spools[sp] = { s.mem.spools[sp] with cur := some r.1.1, paced := true } ∧ (∀ k : Fin 32, k ≠ sp →
    s.splHigh sp = true ∨ s.splHigh k = false ∨ s.runsFree k = false → t.mem.spools[k] = s.mem.spools[k]) ∧ (m.upsets = [] →
    s.QuietMem → s.First sp → ∀ a, (a < s.ringSlot sp d.index + 24 ∨ s.ringSlot sp d.index + 32 ≤ a) ∧ (d.op = 0 → a < d.dst ∨
    d.dst + d.len ≤ a) ∧ (d.op = 1 → ∀ e ∈ d.elems, a < d.dst + e.2 ∨ d.dst + e.2 + d.esize ≤ a) ∧ (d.op = 2 →
    a < d.dst + d.done ∨ d.dst + d.done + d.left ≤ a) → t.memGet a = s.memGet a) ∧ Frame s t [.rcd, .pkt, .mem,
    .freeIdx] (fun a => a ∈ [Reg.MEM_CE_CNT, Reg.MEM_ERR_ADDR, Reg.MEM_ERR_STAT, Reg.MEM_POISON_CNT, Reg.MEM_SRAM_CE_CNT,
    Reg.MEM_SRAM_UE_CNT, Reg.MEM_UE_CNT] ∨ arr 2 Reg.MEM_CH_STAT a ∨ eventRegs 0x0501 a ∨ eventRegs 0x0502 a ∨
    a = Reg.SPL_CUR_DST sp ∨ a = Reg.SPL_CUR_ELEM sp ∨ a = Reg.SPL_CUR_SRC sp ∨ a = Reg.SPL_DONE sp ∨ a = Reg.SPL_STAT sp ∨
    arr 32 Reg.SPL_CUR_SRC a ∨ arr 32 Reg.SPL_CUR_DST a ∨ arr 32 Reg.SPL_DONE a ∨ arr 32 Reg.SPL_CUR_ELEM a)) ∧
  (∀ (sp : Fin 32) (m : SpoolMove) (d : Desc) (r : (Desc × List (List Byte)) × State), s.mem.spools[sp].cur = some d →
    r = (s.highFirst sp).advance sp d m.n m → s.runsFree sp = false ∨ d.op < 2 ∨
    ¬ (if d.op = 2 then creditsOf (r.2.queuedParcels d.queue r.1.2) ≤ s.paceLo sp else s.paceHi sp ≤ creditsOf (r.2.queuedParcels d.queue r.1.2)) →
    exec (.pacingStop sp m) s = .next s) ∧
  (∀ (sp : Fin 32) (m : SpoolMove), s.mem.spools[sp].cur = none → exec (.pacingStop sp m) s = .next s) ∧
  (∀ (sp : Fin 32), s.splState sp = 1 ∨ s.splState sp = 2 → s.mem.spools[sp].powerAt = none → ∃ t,
    exec (.spoolPowerWait sp) s = .next t ∧ t.mem.spools[sp] = { s.mem.spools[sp] with powerAt := some s.now } ∧ (∀ k : Fin 32,
    k ≠ sp → t.mem.spools[k] = s.mem.spools[k]) ∧ (∀ a, t.memGet a = s.memGet a) ∧ Frame s t [.mem] noRegs) ∧
  (∀ (sp : Fin 32), (s.splState sp ≠ 1 ∧ s.splState sp ≠ 2) ∨ s.mem.spools[sp].powerAt.isSome = true →
    exec (.spoolPowerWait sp) s = .next s) ∧
  (∀ (sp : Fin 32) (m : SpoolMove) (left : Bool) (d : Desc) (u : Nat), s.mem.spools[sp].cur = some d →
    s.mem.spools[sp].powerAt = some u → left = false ∨ usPassed (s.now - u) 2 = true → ∃ t,
    exec (.spoolPowerTimeout sp m left) s = .next t ∧ t.mem.spools[sp].powerAt = none ∧ (left = true ∨
    2 * 3072000 < (s.now - u) * 3125 → t.splState sp = 5 ∧ t.mem.spools[sp].cur = none ∧
    Counted s t (Reg.SPL_PWR_ABORT_CNT sp) 1 ∧ t.fld (Reg.SPL_TAIL sp) 8 0 = (s.fld (Reg.SPL_TAIL sp) 8 0 + 1) % 512) ∧
    (left = false → (s.now - u) * 3125 ≤ 2 * 3072000 → s.mem.spools[sp].aborting = true → t.splState sp = 5 ∧
    t.mem.spools[sp].cur = none ∧ Counted s t (Reg.SPL_ABORT_CNT sp) 1) ∧ (left = false → (s.now - u) * 3125 ≤ 2 * 3072000 →
    s.mem.spools[sp].aborting = false → t.splState sp = 4 ∧ t.mem.spools[sp].cur.isSome = true ∧
    Counted s t (Reg.SPL_PWR_PAUSE_CNT sp) 1 ∧ t.fld (Reg.SPL_TAIL sp) 8 0 = s.fld (Reg.SPL_TAIL sp) 8 0) ∧ (∀ k : Fin 32,
    k ≠ sp → t.mem.spools[k] = s.mem.spools[k]) ∧ (m.upsets = [] → s.QuietMem → ∀ a, (a < s.ringSlot sp d.index + 24 ∨
    s.ringSlot sp d.index + 32 ≤ a) ∧ (d.op = 0 → a < d.dst ∨ d.dst + d.len ≤ a) ∧ (d.op = 1 → ∀ e ∈ d.elems, a < d.dst + e.2 ∨
    d.dst + e.2 + d.esize ≤ a) ∧ (d.op = 2 → a < d.dst + d.done ∨ d.dst + d.done + d.left ≤ a) → t.memGet a = s.memGet a) ∧
    Frame s t [.rcd, .pkt, .mem, .freeIdx] (fun a => a ∈ [Reg.MEM_CE_CNT, Reg.MEM_ERR_ADDR, Reg.MEM_ERR_STAT,
    Reg.MEM_POISON_CNT, Reg.MEM_SRAM_CE_CNT, Reg.MEM_SRAM_UE_CNT, Reg.MEM_UE_CNT] ∨ arr 2 Reg.MEM_CH_STAT a ∨
    eventRegs 0x0501 a ∨ eventRegs 0x0502 a ∨ eventRegs 0x0601 a ∨ eventRegs 0x0602 a ∨ eventRegs 0x0603 a ∨
    a = Reg.SPL_ABORT_CNT sp ∨ a = Reg.SPL_CTRL sp ∨ a = Reg.SPL_CUR_DST sp ∨ a = Reg.SPL_CUR_ELEM sp ∨
    a = Reg.SPL_CUR_SRC sp ∨ a = Reg.SPL_DESC_CNT sp ∨ a = Reg.SPL_DONE sp ∨ a = Reg.SPL_PWR_ABORT_CNT sp ∨
    a = Reg.SPL_PWR_PAUSE_CNT sp ∨ a = Reg.SPL_STAT sp ∨ a = Reg.SPL_TAIL sp ∨ a = Reg.SPL_UE_CNT sp)) ∧
  (∀ (sp : Fin 32) (m : SpoolMove) (left : Bool), s.mem.spools[sp].cur = none ∨ s.mem.spools[sp].powerAt = none →
    exec (.spoolPowerTimeout sp m left) s = .next s) ∧
  (∀ (sp : Fin 32), s.splState sp = 4 → ∃ t, exec (.spoolPowerResume sp) s = .next t ∧
    t.splState sp = (if s.bit (Reg.SPL_CTRL sp) 31 = true then 3 else if s.mem.spools[sp].cur = none then 0 else if s.mem.spools[sp].paced = true then 2 else 1) ∧
    Frame s t [] (fun a => arr 32 Reg.SPL_PREEMPT_CNT a ∨ a = Reg.SPL_STAT sp)) ∧
  (∀ (sp : Fin 32), s.splState sp = 5 → hostSpool sp = false → ∃ t, exec (.spoolPowerResume sp) s = .next t ∧
    t.splState sp = 0 ∧ Frame s t [] (fun a => arr 32 Reg.SPL_PREEMPT_CNT a ∨ a = Reg.SPL_STAT sp)) ∧
  (∀ (sp : Fin 32), s.splState sp ≠ 4 → s.splState sp ≠ 5 ∨ hostSpool sp = true → exec (.spoolPowerResume sp) s = .next s)

/-- FLASH_ERASE and FLASH_PROGRAM start a request for its range, or have it refused while one runs, where the range meets the
running image, and for a program source outside the host area (R561). FLASH_OP_COMPLETE ends it: an erased range reads 0xFF, a
programmed one the bitwise and, no byte outside the range changes, and the failure bit shows the result (R561; that programming
clears bits only is the model's reading, log entry of the flash). KEY_REVOKE in READY revokes the named slots but the running
image's, for good (R556). UNLOCK_NEW makes a challenge, refused after three failures; UNLOCK_CHECK unlocks on a valid response,
and counts and discards otherwise (R578, R579). Each with its frame. -/
def Obligations.FlashKeysAndUnlock : Prop := ∀ s : State, s.Canon →
  (s.writable = true → s.kpr.flashOp = none →
    s.touchesImage (flashSpan false (s.rd Reg.KPR_FLASH_OFS).toNat (s.rd Reg.KPR_FLASH_LEN).toNat).1 (flashSpan false (s.rd Reg.KPR_FLASH_OFS).toNat (s.rd Reg.KPR_FLASH_LEN).toNat).2 = false →
    ∃ t, exec .flashErase s = .next t ∧
    t.kpr = { s.kpr with flashOp := some ((flashSpan false (s.rd Reg.KPR_FLASH_OFS).toNat (s.rd Reg.KPR_FLASH_LEN).toNat).1, none, (flashSpan false (s.rd Reg.KPR_FLASH_OFS).toNat (s.rd Reg.KPR_FLASH_LEN).toNat).2) } ∧
    t.bit Reg.KPR_FLASH_CTL 30 = true ∧ t.bit Reg.KPR_FLASH_CTL 29 = false ∧ t.bit Reg.KPR_FLASH_CTL 0 = false ∧
    Frame s t [.kpr] (fun a => a = Reg.KPR_FLASH_CTL)) ∧
  (s.writable = true → s.kpr.flashOp.isSome = true ∨
    s.touchesImage (flashSpan false (s.rd Reg.KPR_FLASH_OFS).toNat (s.rd Reg.KPR_FLASH_LEN).toNat).1 (flashSpan false (s.rd Reg.KPR_FLASH_OFS).toNat (s.rd Reg.KPR_FLASH_LEN).toNat).2 = true →
    ∃ t, exec .flashErase s = .next t ∧ t.bit Reg.KPR_FLASH_CTL 29 = true ∧
    t.bit Reg.KPR_FLASH_CTL 30 = s.bit Reg.KPR_FLASH_CTL 30 ∧ Frame s t [] (fun a => a = Reg.KPR_FLASH_CTL)) ∧
  (s.writable = true → s.kpr.flashOp = none →
    s.touchesImage (flashSpan true (s.rd Reg.KPR_FLASH_OFS).toNat (s.rd Reg.KPR_FLASH_LEN).toNat).1 (flashSpan true (s.rd Reg.KPR_FLASH_OFS).toNat (s.rd Reg.KPR_FLASH_LEN).toNat).2 = false →
    inHostArea (s.rd Reg.KPR_FLASH_SRC).toNat (s.rd Reg.KPR_FLASH_LEN).toNat = true → ∃ t, exec .flashProgram s = .next t ∧
    (∃ bs,
    t.kpr = { s.kpr with flashOp := some ((flashSpan true (s.rd Reg.KPR_FLASH_OFS).toNat (s.rd Reg.KPR_FLASH_LEN).toNat).1, some bs, (flashSpan true (s.rd Reg.KPR_FLASH_OFS).toNat (s.rd Reg.KPR_FLASH_LEN).toNat).2) } ∧
    bs.length = (s.rd Reg.KPR_FLASH_LEN).toNat ∧ ∀ i < bs.length, unstated ((s.rd Reg.KPR_FLASH_SRC).toNat + i) = false →
    bs[i]? = some (s.memGet ((s.rd Reg.KPR_FLASH_SRC).toNat + i))) ∧ t.bit Reg.KPR_FLASH_CTL 30 = true ∧
    t.bit Reg.KPR_FLASH_CTL 29 = false ∧ (∀ a, t.memGet a = s.memGet a) ∧ Frame s t [.kpr, .rcd, .mem,
    .freeIdx] (fun a => a ∈ [Reg.KPR_FLASH_CTL, Reg.MEM_CE_CNT, Reg.MEM_ERR_ADDR, Reg.MEM_ERR_STAT, Reg.MEM_POISON_CNT,
    Reg.MEM_SRAM_CE_CNT, Reg.MEM_SRAM_UE_CNT, Reg.MEM_UE_CNT] ∨ arr 2 Reg.MEM_CH_STAT a ∨ eventRegs 0x0501 a ∨
    eventRegs 0x0502 a)) ∧
  (s.writable = true → s.kpr.flashOp.isSome = true ∨
    s.touchesImage (flashSpan true (s.rd Reg.KPR_FLASH_OFS).toNat (s.rd Reg.KPR_FLASH_LEN).toNat).1 (flashSpan true (s.rd Reg.KPR_FLASH_OFS).toNat (s.rd Reg.KPR_FLASH_LEN).toNat).2 = true ∨
    inHostArea (s.rd Reg.KPR_FLASH_SRC).toNat (s.rd Reg.KPR_FLASH_LEN).toNat = false → ∃ t, exec .flashProgram s = .next t ∧
    t.bit Reg.KPR_FLASH_CTL 29 = true ∧ t.bit Reg.KPR_FLASH_CTL 30 = s.bit Reg.KPR_FLASH_CTL 30 ∧
    Frame s t [] (fun a => a = Reg.KPR_FLASH_CTL)) ∧
  (s.writable = false → exec .flashErase s = .next s) ∧
  (s.writable = false → exec .flashProgram s = .next s) ∧
  (∀ (ok : Bool) (x : Nat) (data : Option (List Byte)) (n : Nat), s.kpr.flashOp = some (x, data, n) → (∀ bs, data = some bs →
    bs.length = n) → ∃ t, exec (.flashOpComplete ok) s = .next t ∧ t.kpr = { s.kpr with flashOp := none } ∧
    t.bit Reg.KPR_FLASH_CTL 30 = false ∧ t.bit Reg.KPR_FLASH_CTL 29 = !ok ∧ (∀ a, a < x ∨ x + n ≤ a →
    t.flashGet a = s.flashGet a) ∧ (ok = true → data = none → ∀ i < n, t.flashGet (x + i) = 0xFF) ∧ (ok = true → ∀ bs,
    data = some bs → ∀ i < bs.length, t.flashGet (x + i) = s.flashGet (x + i) &&& bs.getD i 0) ∧ Frame s t [.kpr, .flash,
    .freeIdx] (fun a => a = Reg.KPR_FLASH_CTL)) ∧
  (∀ (ok : Bool), s.kpr.flashOp = none → exec (.flashOpComplete ok) s = .next s) ∧
  (∀ (slots : BitVec 4), s.writable = true → s.mode = .ready → ∃ t, exec (.keyRevoke slots) s = .next t ∧ (∀ k : Fin 4,
    bitOf t.fuses.revoked k = (bitOf s.fuses.revoked k || (bitOf slots.toNat k && k.val != s.kpr.keySlot))) ∧
    t.fuses = { s.fuses with revoked := t.fuses.revoked } ∧ Frame s t [.fuses] (fun a => a = Reg.KPR_KEY_REVOKE)) ∧
  (∀ (slots : BitVec 4), s.writable = false ∨ s.mode ≠ .ready → exec (.keyRevoke slots) s = .next s) ∧
  (s.writable = true → s.kpr.unlockFails < 3 → ∃ t, exec .unlockNew s = .next t ∧ t.kpr = { s.kpr with chalValid := true } ∧
    Frame s t [.kpr, .freeIdx] (fun a => arr 8 Reg.KPR_UNLOCK_CHAL a)) ∧
  (s.writable = false ∨ 3 ≤ s.kpr.unlockFails → exec .unlockNew s = .next s) ∧
  (s.writable = true → ∃ t, exec .unlockCheck s = .next t ∧ (s.kpr.chalValid = true → s.responseOk = true →
    t.kpr = { s.kpr with unlocked := true } ∧ Raised s t 0x0007 [(4, s.fuses.dieIdHi.toNat), (4, s.fuses.dieIdLo.toNat)] ∧
    t.rd Reg.KPR_UNLOCK_FAIL_CNT = s.rd Reg.KPR_UNLOCK_FAIL_CNT) ∧ (s.kpr.chalValid = false ∨ s.responseOk = false →
    t.kpr = { s.kpr with chalValid := false, unlockFails := s.kpr.unlockFails + 1 } ∧ t.rcd = s.rcd ∧
    Counted s t Reg.KPR_UNLOCK_FAIL_CNT 1 ∧ (∀ i : Fin 8, t.rd (Reg.KPR_UNLOCK_CHAL i) = 0)) ∧ Frame s t [.kpr,
    .rcd] (fun a => a = Reg.KPR_UNLOCK_FAIL_CNT ∨ arr 8 Reg.KPR_UNLOCK_CHAL a ∨ eventRegs 0x0007 a)) ∧
  (s.writable = false → exec .unlockCheck s = .next s)

/-- SAFE_N_ASSERT, PGOOD_LOW, WATCHDOG_EXPIRE and an INTEGRITY_CHECK that finds another digest over the running image than the
boot's enter SAFE from BOOT, READY, SERVICE and LEAN: only the bit of the cause is set, KPR_SAFE_CNT and the lifetime count
grow, event 0x0004 carries the causes, every powered quad is in FALLING with its gates closed and one in RISING goes down after
it, the SAFE clear applies to every bias channel, the job, set changes and the go-live anchor are given up (R319, R320, R322,
R527, R571, R572). In SAFE, and in a halted BOOT, the cause is added to those recorded (R557, R572). The watchdog and the read-
back count themselves (R560, R572). In SHELF and while RESET_N is low only the pin is followed. SAFE_N_RELEASE changes the pin
alone. Each with its frame. -/
def Obligations.SafeEntryOnPinSupplyWatchdogIntegrity : Prop := ∀ s : State, s.Canon →
  (s.pins.resetN = true → s.mode ≠ .shelf → s.mode ≠ .safe → s.kpr.haltedAt = none → ∃ t, exec .safeNAssert s = .next t ∧
    t.mode = .safe ∧ t.fld Reg.KPR_SAFE_CAUSE 5 0 = 2 ^ 2 ∧ Counted s t Reg.KPR_SAFE_CNT 1 ∧ Counted s t (Reg.KPR_LT 11) 1 ∧
    (∀ q : Fin 16, t.seq.quads[q].st = (match s.seq.quads[q].st with | .gated => .gated | .rising => .rising | _ => .falling) ∧
    (s.seq.quads[q].st = .rising → t.seq.quads[q].deferred = some false)) ∧ (∀ p : Fin 64,
    s.seq.quads[quadOf p].st ∈ [.receive, .standby, .transmit] → t.paths[p].txGate = false ∧ t.paths[p].rxGate = false) ∧
    (∀ c : Fin 80, bitOf t.bias[c].src.toNat 1 = true) ∧ t.seq.job = none ∧ t.seq.waiting = none ∧ t.seq.underway = none ∧
    t.bit Reg.KPR_LIVE_AIR 31 = false ∧ Raised s t 0x0004 [(4, t.safeCauseWord.toNat)] ∧
    t.pins = { s.pins with safeN := false } ∧ Frame s t [.mode, .paths, .dpd, .seq, .bias, .kpr, .rcd, .pins, .tim,
    .freeIdx] (fun a => a ∈ [Reg.KPR_LIVE_AIR, Reg.KPR_SAFE_CAUSE, Reg.KPR_SAFE_CNT, Reg.SEQ_CAL_FAIL_CNT, Reg.SEQ_CAL_STAT,
    Reg.SEQ_LEAN, Reg.SYN_ALIGN, Reg.TIM_ALIGN_REFUSE_CNT, Reg.TIM_EPOCH_CTRL] ∨ arr 80 Reg.BIA_CLEAR_CNT a ∨
    arr 64 Reg.DPD_TRIP_STAT a ∨ arr 16 Reg.HKA_QUAD a ∨ arr 9 Reg.RXP_OBS_ROUTE a ∨ arr 16 Reg.SEQ_DEFER_CNT a ∨
    arr 64 Reg.TXP_ATTEN a ∨ arr 64 Reg.TXP_SAT_CNT a ∨ eventRegs 0x0004 a ∨ eventRegs 0x0104 a ∨ eventRegs 0x0702 a ∨
    a = Reg.KPR_LT 11)) ∧
  (s.pins.resetN = true → s.mode ≠ .shelf → s.mode = .safe ∨ s.kpr.haltedAt.isSome = true → ∃ t,
    exec .safeNAssert s = .next t ∧ t.bit Reg.KPR_SAFE_CAUSE 2 = true ∧ t.pins = { s.pins with safeN := false } ∧
    Frame s t [.pins] (fun a => a = Reg.KPR_SAFE_CAUSE)) ∧
  (s.pins.resetN = false ∨ s.mode = .shelf → ∃ t, exec .safeNAssert s = .next t ∧ t.pins = { s.pins with safeN := false } ∧
    Frame s t [.pins] noRegs) ∧
  (∃ t, exec .safeNRelease s = .next t ∧ t.pins = { s.pins with safeN := true } ∧ Frame s t [.pins] noRegs) ∧
  (∀ (k : Fin 2), s.pins.resetN = true → s.mode ≠ .shelf → s.mode ≠ .safe → s.kpr.haltedAt = none → ∃ t,
    exec (.pgoodLow k) s = .next t ∧ t.mode = .safe ∧ t.fld Reg.KPR_SAFE_CAUSE 5 0 = 2 ^ 1 ∧ Counted s t Reg.KPR_SAFE_CNT 1 ∧
    Counted s t (Reg.KPR_LT 11) 1 ∧ (∀ q : Fin 16,
    t.seq.quads[q].st = (match s.seq.quads[q].st with | .gated => .gated | .rising => .rising | _ => .falling) ∧
    (s.seq.quads[q].st = .rising → t.seq.quads[q].deferred = some false)) ∧ (∀ p : Fin 64,
    s.seq.quads[quadOf p].st ∈ [.receive, .standby, .transmit] → t.paths[p].txGate = false ∧ t.paths[p].rxGate = false) ∧
    (∀ c : Fin 80, bitOf t.bias[c].src.toNat 1 = true) ∧ t.seq.job = none ∧ t.seq.waiting = none ∧ t.seq.underway = none ∧
    t.bit Reg.KPR_LIVE_AIR 31 = false ∧ Raised s t 0x0004 [(4, t.safeCauseWord.toNat)] ∧
    t.pins = { s.pins with pgood0 := s.pins.pgood0 && k.val != 0, pgood1 := s.pins.pgood1 && k.val != 1 } ∧ Frame s t [.mode,
    .paths, .dpd, .seq, .bias, .kpr, .rcd, .pins, .tim, .freeIdx] (fun a => a ∈ [Reg.KPR_LIVE_AIR, Reg.KPR_SAFE_CAUSE,
    Reg.KPR_SAFE_CNT, Reg.SEQ_CAL_FAIL_CNT, Reg.SEQ_CAL_STAT, Reg.SEQ_LEAN, Reg.SYN_ALIGN, Reg.TIM_ALIGN_REFUSE_CNT,
    Reg.TIM_EPOCH_CTRL] ∨ arr 80 Reg.BIA_CLEAR_CNT a ∨ arr 64 Reg.DPD_TRIP_STAT a ∨ arr 16 Reg.HKA_QUAD a ∨
    arr 9 Reg.RXP_OBS_ROUTE a ∨ arr 16 Reg.SEQ_DEFER_CNT a ∨ arr 64 Reg.TXP_ATTEN a ∨ arr 64 Reg.TXP_SAT_CNT a ∨
    eventRegs 0x0004 a ∨ eventRegs 0x0104 a ∨ eventRegs 0x0702 a ∨ a = Reg.KPR_LT 11)) ∧
  (∀ (k : Fin 2), s.pins.resetN = true → s.mode ≠ .shelf → s.mode = .safe ∨ s.kpr.haltedAt.isSome = true → ∃ t,
    exec (.pgoodLow k) s = .next t ∧ t.bit Reg.KPR_SAFE_CAUSE 1 = true ∧
    t.pins = { s.pins with pgood0 := s.pins.pgood0 && k.val != 0, pgood1 := s.pins.pgood1 && k.val != 1 } ∧
    Frame s t [.pins] (fun a => a = Reg.KPR_SAFE_CAUSE)) ∧
  (∀ (k : Fin 2), s.pins.resetN = false ∨ s.mode = .shelf → ∃ t, exec (.pgoodLow k) s = .next t ∧
    t.pins = { s.pins with pgood0 := s.pins.pgood0 && k.val != 0, pgood1 := s.pins.pgood1 && k.val != 1 } ∧
    Frame s t [.pins] noRegs) ∧
  (∀ (bad : List Nat), s.pins.resetN = true → s.mode ≠ .shelf → s.mode ≠ .safe → s.kpr.haltedAt = none → ∃ t,
    exec (.watchdogExpire bad) s = .next t ∧ t.mode = .safe ∧ t.fld Reg.KPR_SAFE_CAUSE 5 0 = 2 ^ 3 ∧
    Counted s t Reg.KPR_SAFE_CNT 1 ∧ Counted s t (Reg.KPR_LT 11) 1 ∧ (∀ q : Fin 16,
    t.seq.quads[q].st = (match s.seq.quads[q].st with | .gated => .gated | .rising => .rising | _ => .falling) ∧
    (s.seq.quads[q].st = .rising → t.seq.quads[q].deferred = some false)) ∧ (∀ p : Fin 64,
    s.seq.quads[quadOf p].st ∈ [.receive, .standby, .transmit] → t.paths[p].txGate = false ∧ t.paths[p].rxGate = false) ∧
    (∀ c : Fin 80, bitOf t.bias[c].src.toNat 1 = true) ∧ t.seq.job = none ∧ t.seq.waiting = none ∧ t.seq.underway = none ∧
    t.bit Reg.KPR_LIVE_AIR 31 = false ∧ Raised s t 0x0004 [(4, t.safeCauseWord.toNat)] ∧ Counted s t Reg.KPR_WDOG_CNT 1 ∧
    Frame s t [.mode, .paths, .dpd, .seq, .bias, .kpr, .rcd, .tim] (fun a => a ∈ [Reg.KPR_LIVE_AIR, Reg.KPR_SAFE_CAUSE,
    Reg.KPR_SAFE_CNT, Reg.KPR_WDOG_CNT, Reg.SEQ_CAL_FAIL_CNT, Reg.SEQ_CAL_STAT, Reg.SEQ_LEAN, Reg.SYN_ALIGN,
    Reg.TIM_ALIGN_REFUSE_CNT, Reg.TIM_EPOCH_CTRL] ∨ arr 80 Reg.BIA_CLEAR_CNT a ∨ arr 64 Reg.DPD_TRIP_STAT a ∨
    arr 16 Reg.HKA_QUAD a ∨ arr 9 Reg.RXP_OBS_ROUTE a ∨ arr 16 Reg.SEQ_DEFER_CNT a ∨ arr 64 Reg.TXP_ATTEN a ∨
    eventRegs 0x0004 a ∨ eventRegs 0x0104 a ∨ eventRegs 0x0702 a ∨ a = Reg.KPR_LT 11)) ∧
  (∀ (bad : List Nat), s.pins.resetN = true → s.mode ≠ .shelf → s.mode = .safe ∨ s.kpr.haltedAt.isSome = true →
    s.rcd.earlyWarned = false → s.rcd.copy = none → s.earlyNow = false → ∃ t, exec (.watchdogExpire bad) s = .next t ∧
    t.bit Reg.KPR_SAFE_CAUSE 3 = true ∧ Counted s t Reg.KPR_WDOG_CNT 1 ∧ t.rcd.copy.map (·.1) = some s.chooseSlot ∧
    t.rcd.copy.isSome = true ∧ t.rcd.snapSeq = s.rcd.snapSeq + 1 ∧ Counted s t Reg.KPR_BB_FREEZE_CNT 1 ∧
    Counted s t (Reg.KPR_LT 14) 1 ∧ t.bit Reg.KPR_BB_CTL 31 = false ∧ (∀ a, keptCell a = false → t.memGet a = s.memGet a) ∧
    Frame s t [.rcd, .pkt, .mem, .store, .freeIdx] (fun a => a ∈ [Reg.KPR_BB_CTL, Reg.KPR_BB_FREEZE_CNT, Reg.KPR_BB_PTR,
    Reg.KPR_FAULT_STAT, Reg.KPR_LOG_PTR, Reg.KPR_SAFE_CAUSE, Reg.KPR_STORE_SPARE_CNT, Reg.KPR_WDOG_CNT, Reg.MEM_CE_CNT,
    Reg.MEM_ERR_ADDR, Reg.MEM_ERR_STAT, Reg.MEM_POISON_CNT, Reg.MEM_SRAM_CE_CNT, Reg.MEM_SRAM_UE_CNT, Reg.MEM_UE_CNT,
    Reg.PKT_ALARM_DROP_CNT] ∨ eventRegs 0x0009 a ∨ eventRegs 0x000A a ∨ eventRegs 0x0501 a ∨ eventRegs 0x0502 a ∨
    a = Reg.KPR_LT 14 ∨ a = Reg.KPR_LT 17)) ∧
  (∀ (bad : List Nat), s.mode = .shelf ∨ s.pins.resetN = false → exec (.watchdogExpire bad) s = .next s) ∧
  (∀ (upsets : List (Nat × Byte)), (s.programmed upsets).imageDigest s.kpr.imageB s.kpr.imageLen ≠ s.kpr.digest →
    s.mode ≠ .boot → s.mode ≠ .shelf → s.mode ≠ .safe → s.kpr.haltedAt = none → ∃ t,
    exec (.integrityCheck upsets) s = .next t ∧ t.mode = .safe ∧ t.fld Reg.KPR_SAFE_CAUSE 5 0 = 2 ^ 5 ∧
    Counted s t Reg.KPR_SAFE_CNT 1 ∧ Counted s t (Reg.KPR_LT 11) 1 ∧ (∀ q : Fin 16,
    t.seq.quads[q].st = (match s.seq.quads[q].st with | .gated => .gated | .rising => .rising | _ => .falling) ∧
    (s.seq.quads[q].st = .rising → t.seq.quads[q].deferred = some false)) ∧ (∀ p : Fin 64,
    s.seq.quads[quadOf p].st ∈ [.receive, .standby, .transmit] → t.paths[p].txGate = false ∧ t.paths[p].rxGate = false) ∧
    (∀ c : Fin 80, bitOf t.bias[c].src.toNat 1 = true) ∧ t.seq.job = none ∧ t.seq.waiting = none ∧ t.seq.underway = none ∧
    t.bit Reg.KPR_LIVE_AIR 31 = false ∧ Counted s t Reg.KPR_INTEGRITY_CNT 1 ∧ Raised s t 0x0005 [] ∧
    t.flash = (s.programmed upsets).flash ∧ Frame s t [.mode, .paths, .dpd, .seq, .bias, .kpr, .rcd, .tim, .flash,
    .freeIdx] (fun a => a ∈ [Reg.KPR_INTEGRITY_CNT, Reg.KPR_LIVE_AIR, Reg.KPR_SAFE_CAUSE, Reg.KPR_SAFE_CNT,
    Reg.SEQ_CAL_FAIL_CNT, Reg.SEQ_CAL_STAT, Reg.SEQ_LEAN, Reg.SYN_ALIGN, Reg.TIM_ALIGN_REFUSE_CNT, Reg.TIM_EPOCH_CTRL] ∨
    arr 80 Reg.BIA_CLEAR_CNT a ∨ arr 64 Reg.DPD_TRIP_STAT a ∨ arr 16 Reg.HKA_QUAD a ∨ arr 9 Reg.RXP_OBS_ROUTE a ∨
    arr 16 Reg.SEQ_DEFER_CNT a ∨ arr 64 Reg.TXP_ATTEN a ∨ arr 64 Reg.TXP_SAT_CNT a ∨ eventRegs 0x0004 a ∨ eventRegs 0x0005 a ∨
    eventRegs 0x0104 a ∨ eventRegs 0x0702 a ∨ a = Reg.KPR_LT 11)) ∧
  (∀ (upsets : List (Nat × Byte)), (s.programmed upsets).imageDigest s.kpr.imageB s.kpr.imageLen ≠ s.kpr.digest →
    s.mode = .safe → ∃ t, exec (.integrityCheck upsets) s = .next t ∧ t.bit Reg.KPR_SAFE_CAUSE 5 = true ∧
    Counted s t Reg.KPR_INTEGRITY_CNT 1 ∧ Raised s t 0x0005 [] ∧ t.flash = (s.programmed upsets).flash ∧ Frame s t [.rcd,
    .flash] (fun a => a ∈ [Reg.KPR_INTEGRITY_CNT, Reg.KPR_SAFE_CAUSE] ∨ eventRegs 0x0005 a)) ∧
  (∀ (upsets : List (Nat × Byte)), (s.programmed upsets).imageDigest s.kpr.imageB s.kpr.imageLen = s.kpr.digest ∨
    s.mode = .shelf ∨ s.mode = .boot → ∃ t, exec (.integrityCheck upsets) s = .next t ∧ t.flash = (s.programmed upsets).flash ∧
    Frame s t [.flash] noRegs)

/-- GO_LIVE in READY with valid time, no SAFE cause and no job requests the full set and shows the go-live anchor (R326, R569,
R571). STAND_DOWN in SERVICE and LEAN requests the change and aborts a quad-out job (R338, R569). RECOVER, and AUTO_RECOVER
after cool_s without TEMP, leave SAFE for READY with the cause bits clear (R573, R574). SHELVE lets every quad fall, performs
the DRAM requests that wait and asks the spools to stop (R503), saves the lifetime counters, freezes the black box and begins
the copy (R575, R588, R592, R596); behind a copy that runs it waits (R591). A command that the mode does not allow, or that a
cause of an earlier row of R568 in the queue overtakes, is refused, counted, and changes nothing else (R567, R568). Before
writes open none has an effect (R609). Each with its frame. -/
def Obligations.ModeCommands : Prop := ∀ s : State, s.Canon →
  (s.writable = true → s.overtaken 0 = false → s.mode = .ready → s.kpr.goLive = false → s.kpr.shelving = false →
    s.quality = 1 → s.safeActive = 0 → s.seq.job = none → ∃ t, exec .goLive s = .next t ∧
    t.kpr = { s.kpr with goLive := true } ∧
    t.seq.waiting = some { kind := .goLive, quads := 0xFFFF, carMask := 0xF, anchor := s.anchorSym.map fun a => s.dlTick a } ∧
    t.bit Reg.SEQ_LEAN 31 = true ∧ t.fld Reg.SEQ_LEAN 9 8 = 0 ∧ t.fld Reg.SEQ_LEAN 3 0 = 0xF ∧
    t.rd Reg.KPR_LIVE_AIR = (match s.anchorSym with | some a => BitVec.ofNat 32 (0x80000000 + a.sfn * 512 + a.slot * 16 + a.sym) | none => s.rd Reg.KPR_LIVE_AIR) ∧
    Frame s t [.seq, .kpr] (fun a => a ∈ [Reg.KPR_LIVE_AIR, Reg.SEQ_LEAN])) ∧
  (s.writable = true → s.overtaken 0 = true ∨ s.mode ≠ .ready ∨ s.kpr.goLive = true ∨ s.kpr.shelving = true ∨ s.quality ≠ 1 ∨
    s.safeActive ≠ 0 ∨ s.seq.job.isSome = true → ∃ t, exec .goLive s = .next t ∧ Counted s t Reg.KPR_MODE_REFUSE_CNT 1 ∧
    Frame s t [] (fun a => a = Reg.KPR_MODE_REFUSE_CNT)) ∧
  (s.writable = true → s.mode.live = true → s.overtaken 0 = false → ∃ t, exec .standDown s = .next t ∧
    t.kpr = { s.kpr with standDown := true } ∧
    t.seq.waiting = some { kind := .standDown, quads := 0, carMask := s.seq.carMask, anchor := s.anchorSym.map fun a => s.dlTick a } ∧
    t.bit Reg.SEQ_LEAN 31 = true ∧ (∀ j, s.seq.job = some j → j.quadOut = true → t.seq.job = none ∧ Raised s t 0x0702 [(1,
    j.kind), (1, 2)]) ∧ ((∀ j, s.seq.job = some j → j.quadOut = false) → t.seq = { s.seq with waiting := t.seq.waiting } ∧
    t.bias = s.bias ∧ t.paths = s.paths ∧ t.dpd = s.dpd) ∧ Frame s t [.paths, .dpd, .seq, .bias, .kpr, .rcd,
    .freeIdx] (fun a => a ∈ [Reg.SEQ_CAL_FAIL_CNT, Reg.SEQ_CAL_STAT, Reg.SEQ_LEAN] ∨ arr 80 Reg.BIA_CLEAR_CNT a ∨
    arr 64 Reg.DPD_TRIP_STAT a ∨ arr 9 Reg.RXP_OBS_ROUTE a ∨ arr 16 Reg.SEQ_DEFER_CNT a ∨ arr 64 Reg.TXP_SAT_CNT a ∨
    eventRegs 0x0702 a)) ∧
  (s.writable = true → s.mode.live = false ∨ s.overtaken 0 = true → ∃ t, exec .standDown s = .next t ∧
    Counted s t Reg.KPR_MODE_REFUSE_CNT 1 ∧ Frame s t [] (fun a => a = Reg.KPR_MODE_REFUSE_CNT)) ∧
  (s.writable = true → s.mode = .safe → s.safeHolds = false → s.overtaken 0 = false → ∃ t, exec .recover s = .next t ∧
    t.mode = .ready ∧ t.fld Reg.KPR_SAFE_CAUSE 5 0 = 0 ∧ Raised s t 0x0003 [(1, modeCode .safe), (1, modeCode .ready)] ∧
    (∀ c : Fin 80, t.bias[c].src = if s.bias[c].src = t.bias[c].src then s.bias[c].src else s.bias[c].src ||| 4) ∧
    (∀ c : Fin 80, isGate c = true ∨ isDriver c = true → bitOf t.bias[c].src.toNat 2 = true) ∧ Frame s t [.mode, .bias,
    .rcd] (fun a => a = Reg.KPR_SAFE_CAUSE ∨ arr 80 Reg.BIA_CLEAR_CNT a ∨ eventRegs 0x0003 a)) ∧
  (s.writable = true → s.mode ≠ .safe ∨ s.safeHolds = true ∨ s.overtaken 0 = true → ∃ t, exec .recover s = .next t ∧
    Counted s t Reg.KPR_MODE_REFUSE_CNT 1 ∧ Frame s t [] (fun a => a = Reg.KPR_MODE_REFUSE_CNT)) ∧
  (∀ (u : Nat), s.kpr.tempClearAt = some u → s.mode = .safe → s.bit Reg.KPR_SAFE_CFG 31 = true →
    s.fld Reg.KPR_SAFE_CAUSE 5 0 = 1 → s.safeHolds = false → s.overtaken 0 = false →
    s.fld Reg.KPR_SAFE_CFG 15 0 * ticksPerS ≤ s.now - u → ∃ t, exec .autoRecover s = .next t ∧ t.mode = .ready ∧
    t.fld Reg.KPR_SAFE_CAUSE 5 0 = 0 ∧ Raised s t 0x0003 [(1, modeCode .safe), (1, modeCode .ready)] ∧ (∀ c : Fin 80,
    t.bias[c].src = if s.bias[c].src = t.bias[c].src then s.bias[c].src else s.bias[c].src ||| 4) ∧ (∀ c : Fin 80,
    isGate c = true ∨ isDriver c = true → bitOf t.bias[c].src.toNat 2 = true) ∧ Frame s t [.mode, .bias,
    .rcd] (fun a => a = Reg.KPR_SAFE_CAUSE ∨ arr 80 Reg.BIA_CLEAR_CNT a ∨ eventRegs 0x0003 a)) ∧
  (s.kpr.tempClearAt = none ∨ s.mode ≠ .safe ∨ s.bit Reg.KPR_SAFE_CFG 31 = false ∨ s.fld Reg.KPR_SAFE_CAUSE 5 0 ≠ 1 ∨
    s.safeHolds = true ∨ s.overtaken 0 = true → exec .autoRecover s = .next s) ∧
  (∀ (u : Nat), s.kpr.tempClearAt = some u → s.now - u < s.fld Reg.KPR_SAFE_CFG 15 0 * ticksPerS →
    exec .autoRecover s = .next s) ∧
  (∀ (bad : List Nat), s.writable = true → s.kpr.shelving = false → s.rcd.earlyWarned = false → s.rcd.copy = none →
    s.earlyNow = false → ∃ t, exec (.shelve bad) s = .next t ∧
    t.kpr = { s.kpr with shelving := true, goLive := false, standDown := false } ∧ Counted s t (Reg.KPR_LT 12) 1 ∧
    (∀ q : Fin 16, t.seq.quads[q].st = (match s.seq.quads[q].st with | .gated => .gated | .rising => .rising | _ => .falling) ∧
    (s.seq.quads[q].st = .rising → t.seq.quads[q].deferred = some false)) ∧ (∀ p : Fin 64,
    s.seq.quads[quadOf p].st ∈ [.receive, .standby, .transmit] → t.paths[p].txGate = false ∧ t.paths[p].rxGate = false) ∧
    t.seq.waiting = none ∧ t.seq.underway = none ∧ t.bit Reg.KPR_LIVE_AIR 31 = false ∧ (∀ c : Fin 2,
    t.mem.chans[c].queue = []) ∧ (∀ k : Fin 32, s.splState k = 1 ∨ s.splState k = 2 → t.mem.spools[k].powerAt.isSome = true) ∧
    t.rcd.lowerAfter = true ∧ t.rcd.ltGen = (s.rcd.ltGen + 1) % 2 ^ 32 ∧ t.rcd.ltNextB = !s.rcd.ltNextB ∧
    t.rcd.copy.isSome = true ∧ (s.QuietMem → t.rcd.copy.map (·.1) = some s.chooseSlot) ∧ t.rcd.snapSeq = s.rcd.snapSeq + 1 ∧
    Counted s t Reg.KPR_BB_FREEZE_CNT 1 ∧ Counted s t (Reg.KPR_LT 14) 1 ∧ t.bit Reg.KPR_BB_CTL 31 = false ∧ (s.QuietMem → ∀ a,
    keptCell a = false → t.memGet a = s.memGet a) ∧ Frame s t [.paths, .dpd, .seq, .bias, .kpr, .rcd, .pkt, .mem, .store,
    .freeIdx] (fun a => a ∈ [Reg.KPR_BB_CTL, Reg.KPR_BB_FREEZE_CNT, Reg.KPR_BB_PTR, Reg.KPR_FAULT_STAT, Reg.KPR_LIVE_AIR,
    Reg.KPR_LOG_PTR, Reg.KPR_STORE_SPARE_CNT, Reg.MEM_CE_CNT, Reg.MEM_ERR_ADDR, Reg.MEM_ERR_STAT, Reg.MEM_POISON_CNT,
    Reg.MEM_SRAM_CE_CNT, Reg.MEM_SRAM_UE_CNT, Reg.MEM_UE_CNT, Reg.PKT_ALARM_DROP_CNT, Reg.SEQ_LEAN] ∨
    arr 80 Reg.BIA_CLEAR_CNT a ∨ arr 64 Reg.DPD_TRIP_STAT a ∨ arr 2 Reg.MEM_CH_STAT a ∨ arr 16 Reg.SEQ_DEFER_CNT a ∨
    eventRegs 0x0009 a ∨ eventRegs 0x000A a ∨ eventRegs 0x0501 a ∨ eventRegs 0x0502 a ∨ a = Reg.KPR_LT 12 ∨ a = Reg.KPR_LT 14 ∨
    a = Reg.KPR_LT 17)) ∧
  (∀ (bad : List Nat), s.writable = true → s.kpr.shelving = false → s.rcd.earlyWarned = false → s.rcd.copy.isSome = true ∨
    s.earlyNow = true → ∃ t, exec (.shelve bad) s = .next t ∧
    t.kpr = { s.kpr with shelving := true, goLive := false, standDown := false } ∧ Counted s t (Reg.KPR_LT 12) 1 ∧
    (∀ q : Fin 16, t.seq.quads[q].st = (match s.seq.quads[q].st with | .gated => .gated | .rising => .rising | _ => .falling) ∧
    (s.seq.quads[q].st = .rising → t.seq.quads[q].deferred = some false)) ∧ (∀ p : Fin 64,
    s.seq.quads[quadOf p].st ∈ [.receive, .standby, .transmit] → t.paths[p].txGate = false ∧ t.paths[p].rxGate = false) ∧
    t.seq.waiting = none ∧ t.seq.underway = none ∧ (∀ c : Fin 2, t.mem.chans[c].queue = []) ∧ (∀ k : Fin 32, s.splState k = 1 ∨
    s.splState k = 2 → t.mem.spools[k].powerAt.isSome = true) ∧ t.rcd.waiting = some 0xFFFE ∧ t.rcd.copy = s.rcd.copy ∧
    (s.QuietMem → t.rcd = { s.rcd with waiting := some 0xFFFE }) ∧ (s.QuietMem → ∀ a, keptCell a = false →
    t.memGet a = s.memGet a) ∧ Frame s t [.paths, .dpd, .seq, .bias, .kpr, .rcd, .mem,
    .freeIdx] (fun a => a ∈ [Reg.KPR_LIVE_AIR, Reg.MEM_CE_CNT, Reg.MEM_ERR_ADDR, Reg.MEM_ERR_STAT, Reg.MEM_POISON_CNT,
    Reg.MEM_UE_CNT, Reg.SEQ_LEAN] ∨ arr 80 Reg.BIA_CLEAR_CNT a ∨ arr 64 Reg.DPD_TRIP_STAT a ∨ arr 2 Reg.MEM_CH_STAT a ∨
    arr 16 Reg.SEQ_DEFER_CNT a ∨ eventRegs 0x0501 a ∨ a = Reg.KPR_LT 12)) ∧
  (∀ (bad : List Nat), s.writable = true → s.kpr.shelving = true → ∃ t, exec (.shelve bad) s = .next t ∧
    Counted s t Reg.KPR_MODE_REFUSE_CNT 1 ∧ Frame s t [] (fun a => a = Reg.KPR_MODE_REFUSE_CNT)) ∧
  (s.writable = false → exec .goLive s = .next s) ∧
  (s.writable = false → exec .standDown s = .next s) ∧
  (s.writable = false → exec .recover s = .next s) ∧
  (∀ (bad : List Nat), s.writable = false → exec (.shelve bad) s = .next s)

/-- RESET_ASSERT outside SHELF, and REBOOT, put every register at its reset value but those that R586 and R610 keep, clear SRAM
and DRAM but the log and the ring, put the quads, ports, clocks, converters and engines in their reset states and count a boot
(R7, R489, R548, R559, R586, R596, R610); in SHELF RESET_N is ignored. A boot shows which of GPLL and TPLL locked, and the clear
codes of the strap CLRSEL; without lock of both it halts with cause CLOCK, and one whose images cannot be read halts with cause
IMAGE and the code of each image tried (R546, R547, R556, R557, R566); RESET_RELEASE latches the straps. Whatever the flash
holds, a boot ends halted, or with its image applied, in BOOT, READY or SAFE (R564, R567). LINK_WAIT_EXPIRE ends the link wait
and, with the ports settled, BOOT (R564, R565). XSPI_RELEASE comes 100 ms after a halt (R557). -/
def Obligations.ResetRebootAndBoot : Prop := ∀ s : State, s.Canon →
  (∀ (clrsel : Bool), s.mode ≠ .shelf → ∃ t, exec (.resetAssert clrsel) s = .next t ∧ (∀ p : Part, p ∈ [.air, .paths, .clk,
    .dpd, .seq, .bias, .hka, .tim, .dfe, .pkt, .bmx, .ulr, .kte, .tns] → p.same State.reset t) ∧ (∀ p : Part, p ∈ [.now,
    .fuses, .prod, .store, .flash, .freeIdx, .out, .pending] → p.same s t) ∧
    t.mem = { cells := s.mem.cells.filter fun x => keptCell x.1 } ∧ t.mode = .boot ∧
    t.pins = { s.pins with resetN := false, xspiHiZ := false, clrsel := clrsel } ∧
    t.kpr = { shelving := s.kpr.shelving, wakeHeld := s.kpr.wakeHeld, pwrFell := s.kpr.pwrFell, pwrRose := s.kpr.pwrRose } ∧
    Counted s t (Reg.KPR_LT 10) 1 ∧ (∀ a, ¬ (a ∈ [Reg.KPR_LT 10] ∨ eventRegs 0x0003 a) →
    t.rd a = if keptReg a then s.rd a else resetWord a) ∧ (s.mode ≠ .boot → s.mode ≠ .ready → Raised s t 0x0003 [(1,
    modeCode s.mode), (1, 1)])) ∧
  (∀ (clrsel : Bool), s.mode = .shelf → ∃ t, exec (.resetAssert clrsel) s = .next t ∧
    t.pins = { s.pins with resetN := false } ∧ Frame s t [.pins] noRegs) ∧
  (∀ (r : BootRun), s.writable = true ∨ s.kpr.haltedAt.isSome = true → s.overtaken 2 = false → r.early = false → ∃ t,
    exec (.reboot r) s = .next t ∧ t.mode = .boot ∧ t.kpr.haltedAt = some s.now ∧ t.kpr.imageLoaded = false ∧
    t.kpr.writesOpen = false ∧ t.bit Reg.KPR_BOOT_STAT 31 = true ∧ t.fld Reg.KPR_BOOT_STAT 29 28 = 3 ∧
    t.rd Reg.KPR_BOOT_NEXT = 0 ∧ t.fld Reg.KPR_BOOT_STAT 6 5 = s.pins.bootsel % 4 ∧
    t.fld Reg.KPR_BOOT_STAT 4 3 = s.pins.pos % 4 ∧ t.bit Reg.KPR_BOOT_STAT 2 = s.pins.clrsel ∧
    t.fld Reg.PKT_CASCADE 9 8 = s.pins.pos % 4 ∧ (∀ k : Fin 4, k.val < 2 → t.bit Reg.SYN_LOCK_STAT k = r.locked k ∧
    t.clk.plls[k].locked = r.locked k) ∧ (s.pins.clrsel = true → ∀ c : Fin 80, t.fld (Reg.BIA_CLEAR c) 15 0 = 0xFFFF) ∧
    (∀ p : Part, p ∈ [.air, .paths, .dpd, .seq, .bias, .hka, .dfe, .pkt, .bmx, .ulr, .kte] → p.same State.reset t) ∧
    (∀ p : Part, p ∈ [.now, .fuses, .prod, .store, .freeIdx, .out, .pending] → p.same s t) ∧
    t.flash = (s.programmed r.flash).flash ∧ t.mem = { cells := s.mem.cells.filter fun x => keptCell x.1 } ∧
    t.pins = { s.pins with xspiHiZ := false } ∧ t.kpr.unlockFails = s.kpr.unlockFails ∧ Counted s t (Reg.KPR_LT 10) 1 ∧ (∀ a,
    ¬ (a ∈ [Reg.KPR_BOOT_NEXT, Reg.KPR_BOOT_STAT, Reg.KPR_LT 10, Reg.PKT_CASCADE, Reg.SYN_LOCK_STAT] ∨ eventRegs 0x0003 a ∨
    arr 80 Reg.BIA_CLEAR a) → t.rd a = if keptReg a then s.rd a else resetWord a)) ∧
  (∀ (r : BootRun), s.writable = true ∨ s.kpr.haltedAt.isSome = true → s.overtaken 2 = false → r.early = true →
    r.readA = false → r.readB = false → ∃ t, exec (.reboot r) s = .next t ∧ t.mode = .boot ∧ t.kpr.haltedAt = some s.now ∧
    t.kpr.imageLoaded = false ∧ t.kpr.writesOpen = false ∧ t.bit Reg.KPR_BOOT_STAT 31 = true ∧
    t.fld Reg.KPR_BOOT_STAT 29 28 = 1 ∧ t.rd Reg.KPR_BOOT_NEXT = 0 ∧ t.fld Reg.KPR_BOOT_STAT 6 5 = s.pins.bootsel % 4 ∧
    t.fld Reg.KPR_BOOT_STAT 4 3 = s.pins.pos % 4 ∧ t.bit Reg.KPR_BOOT_STAT 2 = s.pins.clrsel ∧
    t.fld Reg.PKT_CASCADE 9 8 = s.pins.pos % 4 ∧ (∀ k : Fin 4, k.val < 2 → t.bit Reg.SYN_LOCK_STAT k = r.locked k ∧
    t.clk.plls[k].locked = r.locked k) ∧ (s.pins.clrsel = true → ∀ c : Fin 80, t.fld (Reg.BIA_CLEAR c) 15 0 = 0xFFFF) ∧
    t.bit Reg.SYN_LOCK_STAT 0 = true ∧ t.bit Reg.SYN_LOCK_STAT 1 = true ∧
    (∀ b ∈ bootOrder s.pins.bootsel (s.fld Reg.KPR_BOOT_NEXT 1 0),
    (if b = true then t.fld Reg.KPR_BOOT_STAT 14 12 else t.fld Reg.KPR_BOOT_STAT 10 8) = 1) ∧ (∀ p : Part, p ∈ [.air, .paths,
    .dpd, .seq, .bias, .hka, .dfe, .pkt, .bmx, .ulr, .kte] → p.same State.reset t) ∧ (∀ p : Part, p ∈ [.now, .fuses, .prod,
    .store, .out, .pending] → p.same s t) ∧ t.flash = (s.programmed r.flash).flash ∧
    t.pins = { s.pins with xspiHiZ := false } ∧ Counted s t (Reg.KPR_LT 10) 1 ∧ (∀ a, ¬ (a ∈ [Reg.KPR_BOOT_NEXT,
    Reg.KPR_BOOT_STAT, Reg.KPR_LT 10, Reg.PKT_CASCADE, Reg.SYN_LOCK_STAT] ∨ eventRegs 0x0003 a ∨ arr 80 Reg.BIA_CLEAR a) →
    t.rd a = if keptReg a then s.rd a else resetWord a)) ∧
  (∀ (r : BootRun), s.writable = true ∨ s.kpr.haltedAt.isSome = true → s.overtaken 2 = false → ∃ t,
    exec (.reboot r) s = .next t ∧ (∀ p : Part, p ∈ [.now, .prod, .store, .pending] → p.same s t) ∧
    t.flash = (s.programmed r.flash).flash ∧ t.kpr.octal = r.octal ∧ t.fuses.revoked = s.fuses.revoked ∧ (t.mode = .boot ∨
    t.mode = .ready ∨ t.mode = .safe) ∧ (t.kpr.haltedAt.isSome = true → t.mode = .boot ∧ t.kpr.imageLoaded = false) ∧
    (t.kpr.haltedAt = none → t.kpr.imageLoaded = true ∧ t.kpr.writesOpen = true) ∧ t.pins = { s.pins with xspiHiZ := false }) ∧
  (∀ (r : BootRun), s.writable = false → s.kpr.haltedAt = none → exec (.reboot r) s = .next s) ∧
  (∀ (r : BootRun), s.writable = true ∨ s.kpr.haltedAt.isSome = true → s.overtaken 2 = true → ∃ t,
    exec (.reboot r) s = .next t ∧ Counted s t Reg.KPR_MODE_REFUSE_CNT 1 ∧ Frame s t [] (fun a => a = Reg.KPR_MODE_REFUSE_CNT)) ∧
  (∀ (r : BootRun), s.pins.resetN = false → s.mode ≠ .shelf → r.early = false → ∃ t, exec (.resetRelease r) s = .next t ∧
    t.mode = .boot ∧ t.kpr.haltedAt = some s.now ∧ t.kpr.imageLoaded = false ∧ t.bit Reg.KPR_BOOT_STAT 31 = true ∧
    t.fld Reg.KPR_BOOT_STAT 29 28 = 3 ∧ t.rd Reg.KPR_BOOT_NEXT = 0 ∧ t.fld Reg.KPR_BOOT_STAT 6 5 = r.bootsel.val % 4 ∧
    t.fld Reg.KPR_BOOT_STAT 4 3 = r.pos.val % 4 ∧ t.bit Reg.KPR_BOOT_STAT 2 = r.clrsel ∧
    t.fld Reg.PKT_CASCADE 9 8 = r.pos.val % 4 ∧ (∀ k : Fin 4, k.val < 2 → t.bit Reg.SYN_LOCK_STAT k = r.locked k ∧
    t.clk.plls[k].locked = r.locked k) ∧ (r.clrsel = true → ∀ c : Fin 80, t.fld (Reg.BIA_CLEAR c) 15 0 = 0xFFFF) ∧
    t.pins = { s.pins with resetN := true, bootsel := r.bootsel, pos := r.pos, clrsel := r.clrsel } ∧ t.tns = 0 ∧
    t.flash = (s.programmed r.flash).flash ∧ Frame s t [.mode, .clk, .kpr, .rcd, .pins, .tim, .tns,
    .flash] (fun a => a ∈ [Reg.KPR_BOOT_NEXT, Reg.KPR_BOOT_STAT, Reg.PKT_CASCADE, Reg.SYN_LOCK_STAT] ∨ arr 80 Reg.BIA_CLEAR a ∨
    eventRegs 0x0002 a)) ∧
  (∀ (r : BootRun), s.pins.resetN = false → s.mode ≠ .shelf → r.early = true → r.readA = false → r.readB = false → ∃ t,
    exec (.resetRelease r) s = .next t ∧ t.mode = .boot ∧ t.kpr.haltedAt = some s.now ∧ t.kpr.imageLoaded = false ∧
    t.bit Reg.KPR_BOOT_STAT 31 = true ∧ t.fld Reg.KPR_BOOT_STAT 29 28 = 1 ∧ t.rd Reg.KPR_BOOT_NEXT = 0 ∧
    t.fld Reg.KPR_BOOT_STAT 6 5 = r.bootsel.val % 4 ∧ t.fld Reg.KPR_BOOT_STAT 4 3 = r.pos.val % 4 ∧
    t.bit Reg.KPR_BOOT_STAT 2 = r.clrsel ∧ t.fld Reg.PKT_CASCADE 9 8 = r.pos.val % 4 ∧ (∀ k : Fin 4, k.val < 2 →
    t.bit Reg.SYN_LOCK_STAT k = r.locked k ∧ t.clk.plls[k].locked = r.locked k) ∧ (r.clrsel = true → ∀ c : Fin 80,
    t.fld (Reg.BIA_CLEAR c) 15 0 = 0xFFFF) ∧ t.bit Reg.SYN_LOCK_STAT 0 = true ∧ t.bit Reg.SYN_LOCK_STAT 1 = true ∧
    (∀ b ∈ bootOrder r.bootsel (s.fld Reg.KPR_BOOT_NEXT 1 0),
    (if b = true then t.fld Reg.KPR_BOOT_STAT 14 12 else t.fld Reg.KPR_BOOT_STAT 10 8) = 1) ∧
    t.pins = { s.pins with resetN := true, bootsel := r.bootsel, pos := r.pos, clrsel := r.clrsel } ∧ t.tns = 0 ∧
    t.flash = (s.programmed r.flash).flash ∧ Frame s t [.mode, .clk, .kpr, .rcd, .pins, .tim, .tns, .flash,
    .freeIdx] (fun a => a ∈ [Reg.KPR_BOOT_NEXT, Reg.KPR_BOOT_STAT, Reg.PKT_CASCADE, Reg.SYN_LOCK_STAT] ∨
    arr 80 Reg.BIA_CLEAR a ∨ eventRegs 0x0002 a)) ∧
  (∀ (r : BootRun), s.pins.resetN = false → s.mode ≠ .shelf → s.kpr.haltedAt = none → ∃ t, exec (.resetRelease r) s = .next t ∧
    (∀ p : Part, p ∈ [.now, .prod, .store, .pending] → p.same s t) ∧ t.flash = (s.programmed r.flash).flash ∧
    t.kpr.octal = r.octal ∧ t.fuses.revoked = s.fuses.revoked ∧ (t.mode = .boot ∨ t.mode = .ready ∨ t.mode = .safe) ∧
    (t.kpr.haltedAt.isSome = true → t.mode = .boot ∧ t.kpr.imageLoaded = false) ∧ (t.kpr.haltedAt = none →
    t.kpr.imageLoaded = true ∧ t.kpr.writesOpen = true) ∧
    t.pins = { s.pins with resetN := true, bootsel := r.bootsel, pos := r.pos, clrsel := r.clrsel }) ∧
  (∀ (r : BootRun), s.pins.resetN = false → s.mode = .shelf → s.pins.vaon = false ∨ s.pins.pwrReq = false ∨
    s.pins.pgood0 = false ∨ s.pins.pgood1 = false → ∃ t, exec (.resetRelease r) s = .next t ∧
    t.pins = { s.pins with resetN := true } ∧ Frame s t [.pins] noRegs) ∧
  (∀ (r : BootRun), s.pins.resetN = true → exec (.resetRelease r) s = .next s) ∧
  (∀ (u : Nat), s.kpr.portsAt = some u → s.mode = .boot → msPassed (s.now - u) (100 * s.fld Reg.KPR_BOOT_CFG 7 0) = true → ∃ t,
    exec .linkWaitExpire s = .next t ∧ t.kpr.linkWaitOver = true ∧ (s.kpr.bootPorts = true → s.kpr.bootDone.isSome = true →
    t.mode = .ready ∧ t.kpr.bootPorts = false ∧ Raised s t 0x0003 [(1, 1), (1, 2)]) ∧ (s.kpr.bootPorts = false →
    t.mode = .boot) ∧ Frame s t [.mode, .bias, .kpr, .rcd] (fun a => a ∈ [Reg.KPR_BOOT_STAT, Reg.KPR_BOOT_TIME] ∨
    arr 80 Reg.BIA_CLEAR_CNT a ∨ eventRegs 0x0003 a)) ∧
  (s.kpr.portsAt = none ∨ s.mode ≠ .boot → exec .linkWaitExpire s = .next s) ∧
  (∀ (u : Nat), s.kpr.haltedAt = some u → msPassed (s.now - u) 100 = true → ∃ t, exec .xspiRelease s = .next t ∧
    t.pins = { s.pins with xspiHiZ := true } ∧ Frame s t [.pins] noRegs) ∧
  (s.kpr.haltedAt = none → exec .xspiRelease s = .next s)

/-- SUPPLY_LOSS of a rail that counts (of VDD_BIAS, whatever follows, the outputs lose their supply, R522), VAON_BROWNOUT and
VAON_POWER_ON put the part in SHELF: PWR_REQ low, every register at its reset value, KPR_AON kept on supply loss alone, and the
pins, fuses, flash and production record kept (R567, R575, R586, R610, R632, R634). EARLY_WARNING lets every quad fall, performs
the DRAM requests that wait and asks the spools to stop (R503, R516), puts both ports OFF, abandons and counts a copy that runs,
and freezes and saves at once (R591, R592, R633). SNAPSHOT_COMPLETE writes the slot that the copy holds, which is then valid,
and enters SHELF after the last one (R590, R592). WAKE_RISE and HELD_WAKE_RAISE raise PWR_REQ, or boot where RESET_N and the
power-good inputs are high already; while shelving the wake is held (R575). WAKE_FAIL lowers PWR_REQ (R575). PGOOD_HIGH in SHELF
boots under the same condition (R567). Each with its frame. -/
def Obligations.PowerShelfAndWake : Prop := ∀ s : State, s.Canon →
  (∀ (rail : Rail) (rows : Nat), s.mode ≠ .shelf → s.pins.pwrReq = true → s.rcd.earlyWarned = false ∨
    railIgnored rail = false → ∃ t, exec (.supplyLoss rail rows) s = .next t ∧ t.mode = .shelf ∧ (∀ p : Part, p ∈ [.air,
    .paths, .clk, .dpd, .seq, .bias, .hka, .tim, .dfe, .pkt, .bmx, .ulr, .kte, .mem, .tns] → p.same State.reset t) ∧
    (∀ p : Part, p ∈ [.now, .fuses, .prod, .flash, .out, .pending] → p.same s t) ∧ (∀ a,
    t.rd a = if a = Reg.KPR_AON then s.rd a else resetWord a) ∧
    t.pins = { s.pins with pwrReq := false, xspiHiZ := false, vddBias := rail != .vddBias && s.pins.vddBias } ∧
    t.kpr = { wakeHeld := s.kpr.wakeHeld, pwrFell := s.now, pwrRose := s.kpr.pwrRose } ∧ (s.rcd.copy = none →
    t.store = s.store ∧ t.freeIdx = s.freeIdx ∧
    t.rcd = { snapSeq := s.rcd.snapSeq, ltGen := s.rcd.ltGen, ltNextB := s.rcd.ltNextB, spares := s.rcd.spares })) ∧
  (∀ (rail : Rail) (rows : Nat), s.mode = .shelf ∨ s.pins.pwrReq = false ∨ (s.rcd.earlyWarned = true ∧
    railIgnored rail = true) → ∃ t, exec (.supplyLoss rail rows) s = .next t ∧
    t.pins = { s.pins with vddBias := rail != .vddBias && s.pins.vddBias } ∧ Frame s t [.pins] noRegs) ∧
  (∀ (rows : Nat), ∃ t, exec (.vaonBrownout rows) s = .next t ∧ t.mode = .shelf ∧ (∀ p : Part, p ∈ [.air, .paths, .clk, .dpd,
    .seq, .bias, .hka, .tim, .dfe, .pkt, .bmx, .ulr, .kte, .mem, .tns] → p.same State.reset t) ∧ (∀ p : Part, p ∈ [.now,
    .fuses, .prod, .flash, .out, .pending] → p.same s t) ∧ (∀ a, t.rd a = resetWord a) ∧
    t.pins = { s.pins with pwrReq := false, xspiHiZ := false, vaon := false } ∧ t.kpr = {} ∧ (s.rcd.copy = none →
    t.store = s.store ∧ t.freeIdx = s.freeIdx ∧
    t.rcd = { snapSeq := s.rcd.snapSeq, ltGen := s.rcd.ltGen, ltNextB := s.rcd.ltNextB, spares := s.rcd.spares })) ∧
  (∃ t, exec .vaonPowerOn s = .next t ∧ t.mode = .shelf ∧ (∀ p : Part, p ∈ [.air, .paths, .clk, .dpd, .seq, .bias, .hka, .tim,
    .dfe, .pkt, .bmx, .ulr, .kte, .mem, .tns] → p.same State.reset t) ∧ (∀ p : Part, p ∈ [.now, .fuses, .prod, .flash, .out,
    .pending] → p.same s t) ∧ (∀ p : Part, p ∈ [.store, .freeIdx] → p.same s t) ∧ (∀ a, t.rd a = resetWord a) ∧
    t.pins = { s.pins with pwrReq := false, xspiHiZ := false, vaon := true } ∧ t.kpr = {} ∧
    t.rcd = { snapSeq := s.rcd.snapSeq, ltGen := s.rcd.ltGen, ltNextB := s.rcd.ltNextB, spares := s.rcd.spares }) ∧
  (∀ (rows : Nat) (bad : List Nat), s.mode ≠ .shelf → s.pins.pwrReq = true → s.rcd.earlyWarned = false → s.rcd.copy = none →
    ∃ t, exec (.earlyWarning rows bad) s = .next t ∧
    t.kpr = { s.kpr with shelving := true, goLive := false, standDown := false } ∧ Counted s t (Reg.KPR_LT 13) 1 ∧
    (∀ q : Fin 16, t.seq.quads[q].st = (match s.seq.quads[q].st with | .gated => .gated | .rising => .rising | _ => .falling) ∧
    (s.seq.quads[q].st = .rising → t.seq.quads[q].deferred = some false)) ∧ (∀ p : Fin 64,
    s.seq.quads[quadOf p].st ∈ [.receive, .standby, .transmit] → t.paths[p].txGate = false ∧ t.paths[p].rxGate = false) ∧
    t.seq.waiting = none ∧ t.seq.underway = none ∧ t.portState 0 = 0 ∧ t.portState 1 = 0 ∧ t.rcd.earlyWarned = true ∧
    t.rcd.waiting = none ∧ t.bit Reg.KPR_LIVE_AIR 31 = false ∧ (∀ c : Fin 2, t.mem.chans[c].queue = []) ∧ (∀ k : Fin 32,
    s.splState k = 1 ∨ s.splState k = 2 → t.mem.spools[k].powerAt.isSome = true) ∧ t.rcd.lowerAfter = true ∧
    t.rcd.ltGen = (s.rcd.ltGen + 1) % 2 ^ 32 ∧ t.rcd.ltNextB = !s.rcd.ltNextB ∧ t.rcd.copy.isSome = true ∧ (s.QuietMem →
    t.rcd.copy.map (·.1) = some s.chooseSlot) ∧ t.rcd.snapSeq = s.rcd.snapSeq + 1 ∧ Counted s t Reg.KPR_BB_FREEZE_CNT 1 ∧
    Counted s t (Reg.KPR_LT 14) 1 ∧ t.bit Reg.KPR_BB_CTL 31 = false ∧ (s.QuietMem → ∀ a, keptCell a = false →
    t.memGet a = s.memGet a) ∧ Frame s t [.paths, .dpd, .seq, .bias, .kpr, .rcd, .pkt, .mem, .store,
    .freeIdx] (fun a => a ∈ [Reg.KPR_BB_CTL, Reg.KPR_BB_FREEZE_CNT, Reg.KPR_BB_PTR, Reg.KPR_FAULT_STAT, Reg.KPR_LIVE_AIR,
    Reg.KPR_LOG_PTR, Reg.KPR_STORE_SPARE_CNT, Reg.MEM_CE_CNT, Reg.MEM_ERR_ADDR, Reg.MEM_ERR_STAT, Reg.MEM_POISON_CNT,
    Reg.MEM_SRAM_CE_CNT, Reg.MEM_SRAM_UE_CNT, Reg.MEM_UE_CNT, Reg.PKT_ALARM_DROP_CNT, Reg.SEQ_LEAN] ∨
    arr 80 Reg.BIA_CLEAR_CNT a ∨ arr 64 Reg.DPD_TRIP_STAT a ∨ arr 2 Reg.LN_TRAIN_STAT a ∨ arr 2 Reg.MEM_CH_STAT a ∨
    arr2 2 8 Reg.PKT_CREDIT a ∨ arr2 2 8 Reg.PKT_SHED_CNT a ∨ arr 16 Reg.SEQ_DEFER_CNT a ∨ eventRegs 0x0009 a ∨
    eventRegs 0x000A a ∨ eventRegs 0x0501 a ∨ eventRegs 0x0502 a ∨ a = Reg.KPR_LT 13 ∨ a = Reg.KPR_LT 14 ∨ a = Reg.KPR_LT 17)) ∧
  (∀ (rows : Nat) (bad : List Nat), s.mode ≠ .shelf → s.pins.pwrReq = true → s.rcd.earlyWarned = false →
    s.rcd.copy.isSome = true → ∃ t, exec (.earlyWarning rows bad) s = .next t ∧
    t.kpr = { s.kpr with shelving := true, goLive := false, standDown := false } ∧ (∀ q : Fin 16,
    t.seq.quads[q].st = (match s.seq.quads[q].st with | .gated => .gated | .rising => .rising | _ => .falling) ∧
    (s.seq.quads[q].st = .rising → t.seq.quads[q].deferred = some false)) ∧ t.seq.waiting = none ∧ t.seq.underway = none ∧
    t.portState 0 = 0 ∧ t.portState 1 = 0 ∧ t.rcd.earlyWarned = true ∧ t.rcd.waiting = none ∧ t.rcd.copy.isSome = true ∧
    Counted s t Reg.KPR_BB_ABANDON_CNT 1 ∧ Counted s t Reg.KPR_BB_FREEZE_CNT 1 ∧ (∀ c : Fin 2, t.mem.chans[c].queue = []) ∧
    (∀ k : Fin 32, s.splState k = 1 ∨ s.splState k = 2 → t.mem.spools[k].powerAt.isSome = true) ∧ (s.QuietMem → ∀ a,
    keptCell a = false → t.memGet a = s.memGet a) ∧ t.rcd.lowerAfter = true ∧ t.rcd.ltGen = (s.rcd.ltGen + 1) % 2 ^ 32 ∧
    t.rcd.ltNextB = !s.rcd.ltNextB ∧ Frame s t [.paths, .dpd, .seq, .bias, .kpr, .rcd, .pkt, .mem, .store,
    .freeIdx] (fun a => a ∈ [Reg.KPR_BB_ABANDON_CNT, Reg.KPR_BB_CTL, Reg.KPR_BB_FREEZE_CNT, Reg.KPR_BB_PTR, Reg.KPR_FAULT_STAT,
    Reg.KPR_LIVE_AIR, Reg.KPR_LOG_PTR, Reg.KPR_STORE_SPARE_CNT, Reg.MEM_CE_CNT, Reg.MEM_ERR_ADDR, Reg.MEM_ERR_STAT,
    Reg.MEM_POISON_CNT, Reg.MEM_SRAM_CE_CNT, Reg.MEM_SRAM_UE_CNT, Reg.MEM_UE_CNT, Reg.PKT_ALARM_DROP_CNT, Reg.SEQ_LEAN] ∨
    arr 80 Reg.BIA_CLEAR_CNT a ∨ arr 64 Reg.DPD_TRIP_STAT a ∨ arr 2 Reg.LN_TRAIN_STAT a ∨ arr 2 Reg.MEM_CH_STAT a ∨
    arr2 2 8 Reg.PKT_CREDIT a ∨ arr2 2 8 Reg.PKT_SHED_CNT a ∨ arr 16 Reg.SEQ_DEFER_CNT a ∨ eventRegs 0x0009 a ∨
    eventRegs 0x000A a ∨ eventRegs 0x000C a ∨ eventRegs 0x0501 a ∨ eventRegs 0x0502 a ∨ a = Reg.KPR_LT 13 ∨ a = Reg.KPR_LT 14 ∨
    a = Reg.KPR_LT 17)) ∧
  (∀ (rows : Nat) (bad : List Nat), s.mode = .shelf ∨ s.pins.pwrReq = false ∨ s.rcd.earlyWarned = true →
    exec (.earlyWarning rows bad) s = .next s) ∧
  (∀ (bad : List Nat) (k : Nat) (f : Freeze), s.rcd.copy = some (k, f) → s.rcd.lowerAfter = false → s.rcd.waiting = none → ∃ t,
    exec (.snapshotComplete bad) s = .next t ∧ t.rcd.copy = none ∧ (bad = [] → s.rcd.spares = [] → t.slotValid k = true ∧
    t.slotSeq k = s.rcd.snapSeq % 2 ^ 32 ∧ t.slotEntries k = (f.ring ++ List.replicate 16384 0).take 16384) ∧ (bad = [] →
    s.rcd.spares = [] → ∀ a, a < slotRow k * 64 ∨ slotRow k * 64 + 16448 ≤ a →
    tabGet (fun _ => (0 : Byte)) t.store a = tabGet (fun _ => (0 : Byte)) s.store a) ∧ Frame s t [.rcd, .store,
    .freeIdx] (fun a => a = Reg.KPR_STORE_SPARE_CNT ∨ eventRegs 0x000A a ∨ a = Reg.KPR_LT 17)) ∧
  (∀ (bad : List Nat), s.rcd.copy.isSome = true → s.rcd.lowerAfter = true → ∃ t, exec (.snapshotComplete bad) s = .next t ∧
    t.mode = .shelf ∧ (∀ p : Part, p ∈ [.air, .paths, .clk, .dpd, .seq, .bias, .hka, .tim, .dfe, .pkt, .bmx, .ulr, .kte, .mem,
    .tns] → p.same State.reset t) ∧ (∀ p : Part, p ∈ [.now, .fuses, .prod, .flash, .out, .pending] → p.same s t) ∧ (∀ a,
    t.rd a = if a = Reg.KPR_AON then s.rd a else resetWord a) ∧ t.pins = { s.pins with pwrReq := false, xspiHiZ := false } ∧
    t.kpr.pwrFell = s.now ∧ t.kpr.wakeHeld = s.kpr.wakeHeld) ∧
  (∀ (bad : List Nat) (w : Nat), s.rcd.copy.isSome = true → s.rcd.lowerAfter = false → s.rcd.waiting = some w → ∃ t,
    exec (.snapshotComplete bad) s = .next t ∧ t.rcd.copy.isSome = true ∧ t.rcd.waiting = none ∧
    t.rcd.lowerAfter = decide (w = 0xFFFE) ∧ t.rcd.snapSeq = s.rcd.snapSeq + 1 ∧ Counted s t Reg.KPR_BB_FREEZE_CNT 1 ∧ (∀ a,
    keptCell a = false → t.memGet a = s.memGet a) ∧ Frame s t [.rcd, .pkt, .mem, .store,
    .freeIdx] (fun a => a ∈ [Reg.KPR_BB_CTL, Reg.KPR_BB_FREEZE_CNT, Reg.KPR_BB_PTR, Reg.KPR_FAULT_STAT, Reg.KPR_LOG_PTR,
    Reg.KPR_STORE_SPARE_CNT, Reg.MEM_CE_CNT, Reg.MEM_ERR_ADDR, Reg.MEM_ERR_STAT, Reg.MEM_POISON_CNT, Reg.MEM_SRAM_CE_CNT,
    Reg.MEM_SRAM_UE_CNT, Reg.MEM_UE_CNT, Reg.PKT_ALARM_DROP_CNT] ∨ eventRegs 0x0009 a ∨ eventRegs 0x000A a ∨
    eventRegs 0x0501 a ∨ eventRegs 0x0502 a ∨ a = Reg.KPR_LT 14 ∨ a = Reg.KPR_LT 17)) ∧
  (∀ (bad : List Nat), s.rcd.copy = none → exec (.snapshotComplete bad) s = .next s) ∧
  (∀ (r : BootRun), s.kpr.shelving = true → ∃ t, exec (.wakeRise r) s = .next t ∧ t.pins = { s.pins with wake := true } ∧
    t.kpr = { s.kpr with wakeHeld := true } ∧ t.bit Reg.KPR_AON 1 = true ∧ Frame s t [.kpr, .pins] (fun a => a = Reg.KPR_AON)) ∧
  (∀ (r : BootRun), s.kpr.shelving = false → s.mode = .shelf → s.pins.vaon = true → s.pins.pwrReq = false →
    s.pins.resetN = false ∨ s.pins.pgood0 = false ∨ s.pins.pgood1 = false → ∃ t, exec (.wakeRise r) s = .next t ∧
    t.pins = { s.pins with wake := true, pwrReq := true } ∧ t.kpr = { s.kpr with wakeHeld := false, pwrRose := s.now } ∧
    Frame s t [.kpr, .pins] noRegs) ∧
  (∀ (r : BootRun), s.kpr.shelving = false → s.mode ≠ .shelf ∨ s.pins.vaon = false ∨ s.pins.pwrReq = true → ∃ t,
    exec (.wakeRise r) s = .next t ∧ t.pins = { s.pins with wake := true } ∧ Frame s t [.pins] noRegs) ∧
  (∀ (r : BootRun), s.kpr.shelving = false → s.mode = .shelf → s.pins.vaon = true → s.pins.pwrReq = false → r.early = false →
    s.pins.resetN = true → s.pins.pgood0 = true → s.pins.pgood1 = true → ∃ t, exec (.wakeRise r) s = .next t ∧ (∀ p : Part,
    p ∈ [.now, .prod, .store, .pending, .out, .fuses] → p.same s t) ∧ t.flash = (s.programmed r.flash).flash ∧ t.mode = .boot ∧
    t.kpr.haltedAt = some s.now ∧ t.bit Reg.KPR_BOOT_STAT 31 = true ∧ t.fld Reg.KPR_BOOT_STAT 29 28 = 3 ∧
    t.fld Reg.KPR_BOOT_STAT 6 5 = r.bootsel.val % 4 ∧ t.fld Reg.KPR_BOOT_STAT 4 3 = r.pos.val % 4 ∧
    t.bit Reg.KPR_BOOT_STAT 2 = r.clrsel ∧ t.fld Reg.PKT_CASCADE 9 8 = r.pos.val % 4 ∧ (∀ k : Fin 4, k.val < 2 →
    t.bit Reg.SYN_LOCK_STAT k = r.locked k ∧ t.clk.plls[k].locked = r.locked k) ∧ (r.clrsel = true → ∀ c : Fin 80,
    t.fld (Reg.BIA_CLEAR c) 15 0 = 0xFFFF) ∧
    t.pins = { s.pins with wake := true, pwrReq := true, vddBias := true, bootsel := r.bootsel, pos := r.pos, clrsel := r.clrsel } ∧
    Frame s t [.mode, .clk, .kpr, .rcd, .pins, .tim, .tns, .flash] (fun a => a ∈ [Reg.KPR_BOOT_NEXT, Reg.KPR_BOOT_STAT,
    Reg.PKT_CASCADE, Reg.SYN_LOCK_STAT] ∨ arr 80 Reg.BIA_CLEAR a ∨ arr 18 Reg.KPR_LT a ∨ eventRegs 0x0002 a ∨
    eventRegs 0x0003 a)) ∧
  (∀ (r : BootRun), s.mode = .shelf → s.pins.vaon = true → s.kpr.wakeHeld = true → s.pins.pwrReq = false →
    msPassed (s.now - s.kpr.pwrFell) 10 = true → s.pins.resetN = false ∨ s.pins.pgood0 = false ∨ s.pins.pgood1 = false → ∃ t,
    exec (.heldWakeRaise r) s = .next t ∧ t.pins = { s.pins with pwrReq := true } ∧
    t.kpr = { s.kpr with wakeHeld := false, pwrRose := s.now } ∧ Frame s t [.kpr, .pins] noRegs) ∧
  (∀ (r : BootRun), s.mode = .shelf → s.pins.vaon = true → s.kpr.wakeHeld = true → s.pins.pwrReq = false →
    msPassed (s.now - s.kpr.pwrFell) 10 = true → r.early = false → s.pins.resetN = true → s.pins.pgood0 = true →
    s.pins.pgood1 = true → ∃ t, exec (.heldWakeRaise r) s = .next t ∧ (∀ p : Part, p ∈ [.now, .prod, .store, .pending, .out,
    .fuses] → p.same s t) ∧ t.flash = (s.programmed r.flash).flash ∧ t.mode = .boot ∧ t.kpr.haltedAt = some s.now ∧
    t.bit Reg.KPR_BOOT_STAT 31 = true ∧ t.fld Reg.KPR_BOOT_STAT 29 28 = 3 ∧ t.fld Reg.KPR_BOOT_STAT 6 5 = r.bootsel.val % 4 ∧
    t.fld Reg.KPR_BOOT_STAT 4 3 = r.pos.val % 4 ∧ t.bit Reg.KPR_BOOT_STAT 2 = r.clrsel ∧
    t.fld Reg.PKT_CASCADE 9 8 = r.pos.val % 4 ∧ (∀ k : Fin 4, k.val < 2 → t.bit Reg.SYN_LOCK_STAT k = r.locked k ∧
    t.clk.plls[k].locked = r.locked k) ∧ (r.clrsel = true → ∀ c : Fin 80, t.fld (Reg.BIA_CLEAR c) 15 0 = 0xFFFF) ∧
    t.pins = { s.pins with pwrReq := true, vddBias := true, bootsel := r.bootsel, pos := r.pos, clrsel := r.clrsel } ∧
    t.kpr.wakeHeld = false ∧ Frame s t [.mode, .clk, .kpr, .rcd, .pins, .tim, .tns, .flash] (fun a => a ∈ [Reg.KPR_BOOT_NEXT,
    Reg.KPR_BOOT_STAT, Reg.PKT_CASCADE, Reg.SYN_LOCK_STAT] ∨ arr 80 Reg.BIA_CLEAR a ∨ arr 18 Reg.KPR_LT a ∨
    eventRegs 0x0002 a ∨ eventRegs 0x0003 a)) ∧
  (∀ (r : BootRun), s.mode ≠ .shelf ∨ s.pins.vaon = false ∨ s.kpr.wakeHeld = false ∨ s.pins.pwrReq = true →
    exec (.heldWakeRaise r) s = .next s) ∧
  (s.mode = .shelf → s.pins.pwrReq = true → s.pins.pgood0 = false ∨ s.pins.pgood1 = false →
    msPassed (s.now - s.kpr.pwrRose) 100 = true → ∃ t, exec .wakeFail s = .next t ∧ t.bit Reg.KPR_AON 0 = true ∧
    t.pins = { s.pins with pwrReq := false } ∧ t.kpr = { s.kpr with pwrFell := s.now } ∧ Frame s t [.kpr,
    .pins] (fun a => a = Reg.KPR_AON)) ∧
  (s.mode ≠ .shelf ∨ s.pins.pwrReq = false ∨ (s.pins.pgood0 = true ∧ s.pins.pgood1 = true) → exec .wakeFail s = .next s) ∧
  (∀ (r : BootRun), s.mode ≠ .shelf ∨ s.pins.vaon = false ∨ s.pins.pwrReq = false ∨ s.pins.resetN = false → ∃ t,
    exec (.pgoodHigh r) s = .next t ∧ t.pins = { s.pins with pgood0 := true, pgood1 := true, vddBias := true } ∧
    Frame s t [.pins] noRegs) ∧
  (∀ (r : BootRun), s.mode = .shelf → s.pins.vaon = true → s.pins.pwrReq = true → s.pins.resetN = true → r.early = false → ∃ t,
    exec (.pgoodHigh r) s = .next t ∧ (∀ p : Part, p ∈ [.now, .prod, .store, .pending, .out, .fuses] → p.same s t) ∧
    t.flash = (s.programmed r.flash).flash ∧ t.mode = .boot ∧ t.kpr.haltedAt = some s.now ∧ t.bit Reg.KPR_BOOT_STAT 31 = true ∧
    t.fld Reg.KPR_BOOT_STAT 29 28 = 3 ∧ t.fld Reg.KPR_BOOT_STAT 6 5 = r.bootsel.val % 4 ∧
    t.fld Reg.KPR_BOOT_STAT 4 3 = r.pos.val % 4 ∧ t.bit Reg.KPR_BOOT_STAT 2 = r.clrsel ∧
    t.fld Reg.PKT_CASCADE 9 8 = r.pos.val % 4 ∧ (∀ k : Fin 4, k.val < 2 → t.bit Reg.SYN_LOCK_STAT k = r.locked k ∧
    t.clk.plls[k].locked = r.locked k) ∧ (r.clrsel = true → ∀ c : Fin 80, t.fld (Reg.BIA_CLEAR c) 15 0 = 0xFFFF) ∧
    t.pins = { s.pins with pgood0 := true, pgood1 := true, vddBias := true, bootsel := r.bootsel, pos := r.pos, clrsel := r.clrsel } ∧
    Frame s t [.mode, .clk, .kpr, .rcd, .pins, .tim, .tns, .flash] (fun a => a ∈ [Reg.KPR_BOOT_NEXT, Reg.KPR_BOOT_STAT,
    Reg.PKT_CASCADE, Reg.SYN_LOCK_STAT] ∨ arr 80 Reg.BIA_CLEAR a ∨ arr 18 Reg.KPR_LT a ∨ eventRegs 0x0002 a ∨
    eventRegs 0x0003 a))

/-- A LEASE_REQ of a management source or of the service port is granted when the lease is free or its own, and starts the 2 s;
it takes the lease over from a holder of lower priority, counted, with alarm event 0x0402 naming both masters; otherwise it is
answered with LEASE_HELD and the holder (R419, R421). Of two requests in one core cycle the one whose master has the priority,
or at equal priority the lower number, goes first: the other is judged in the state that it leaves (R421). LEASE_REL by the
holder frees the lease (R421; that it changes nothing for another master is the model's reading). LEASE_LAPSE frees it 2 s after
the last accepted write or request, counted, with the same event (R421). Replies go to the source; the service port keeps its
status (R419, R577). In SHELF the service port does nothing (R610). Each with its frame. -/
def Obligations.LeaseRequestsReleasesAndLapse : Prop := ∀ s : State, s.Canon →
  (∀ (src : Fin 8) (q : MReq), oldestReq src s.pkt.requests = some q → q.op = 5 → (s.ahead src).holder = none ∨
    (s.ahead src).holder = some ((s.ahead src).masterOf src) → ∃ t, exec (.mLeaseReq src) s = .next t ∧
    t.holder = some ((s.ahead src).masterOf src) ∧ t.pkt.leaseAt = (s.ahead src).now ∧ Replied (s.ahead src) t src q 0 0 [] ∧
    t.pkt.requests = dropReq src (s.ahead src).pkt.requests ∧ Frame (s.ahead src) t [.pkt] (fun a => a = Reg.PKT_LEASE_STAT)) ∧
  (∀ (src : Fin 8) (q : MReq) (h : Nat), oldestReq src s.pkt.requests = some q → q.op = 5 → (s.ahead src).holder = some h →
    h ≠ (s.ahead src).masterOf src → (s.ahead src).leasePri h < (s.ahead src).leasePri ((s.ahead src).masterOf src) → ∃ t,
    exec (.mLeaseReq src) s = .next t ∧ t.holder = some ((s.ahead src).masterOf src) ∧ t.pkt.leaseAt = (s.ahead src).now ∧
    Counted (s.ahead src) t Reg.PKT_LEASE_MOVE_CNT 1 ∧ Raised (s.ahead src) t 0x0402 [(1, h), (1,
    (s.ahead src).masterOf src)] ∧ ((s.ahead src).mgmtGrant = none → t.bmx = (s.ahead src).bmx ∧
    t.rd Reg.BMX_LAST_OPEN = (s.ahead src).rd Reg.BMX_LAST_OPEN) ∧ Replied (s.ahead src) t src q 0 0 [] ∧
    t.pkt.requests = dropReq src (s.ahead src).pkt.requests ∧ Frame (s.ahead src) t [.rcd, .pkt,
    .bmx] (fun a => a ∈ [Reg.BMX_LAST_OPEN, Reg.PKT_LEASE_MOVE_CNT, Reg.PKT_LEASE_STAT] ∨ eventRegs 0x0402 a)) ∧
  (∀ (src : Fin 8) (q : MReq) (h : Nat), oldestReq src s.pkt.requests = some q → q.op = 5 → (s.ahead src).holder = some h →
    h ≠ (s.ahead src).masterOf src → (s.ahead src).leasePri ((s.ahead src).masterOf src) ≤ (s.ahead src).leasePri h → ∃ t,
    exec (.mLeaseReq src) s = .next t ∧ t.holder = some h ∧ t.pkt.leaseAt = (s.ahead src).pkt.leaseAt ∧
    Replied (s.ahead src) t src q 5 h [] ∧ t.pkt.requests = dropReq src (s.ahead src).pkt.requests ∧
    Frame (s.ahead src) t [.pkt] noRegs) ∧
  (∀ (src : Fin 8), oldestReq src s.pkt.requests = none → exec (.mLeaseReq src) s = .next s) ∧
  (∀ (src : Fin 8) (q : MReq), oldestReq src s.pkt.requests = some q → q.op = 6 →
    (s.ahead src).holder = some ((s.ahead src).masterOf src) → ∃ t, exec (.mLeaseRel src) s = .next t ∧ t.holder = none ∧
    ((s.ahead src).mgmtGrant = none → t.bmx = (s.ahead src).bmx ∧
    t.rd Reg.BMX_LAST_OPEN = (s.ahead src).rd Reg.BMX_LAST_OPEN) ∧ Replied (s.ahead src) t src q 0 0 [] ∧
    t.pkt.requests = dropReq src (s.ahead src).pkt.requests ∧ Frame (s.ahead src) t [.pkt,
    .bmx] (fun a => a ∈ [Reg.BMX_LAST_OPEN, Reg.PKT_LEASE_STAT])) ∧
  (∀ (src : Fin 8) (q : MReq), oldestReq src s.pkt.requests = some q → q.op = 6 → (s.ahead src).holder = none → ∃ t,
    exec (.mLeaseRel src) s = .next t ∧ t.holder = none ∧ Replied (s.ahead src) t src q 0 0 [] ∧
    t.pkt.requests = dropReq src (s.ahead src).pkt.requests ∧ Frame (s.ahead src) t [.pkt] noRegs) ∧
  (∀ (src : Fin 8) (q : MReq) (h : Nat), oldestReq src s.pkt.requests = some q → q.op = 6 → (s.ahead src).holder = some h →
    h ≠ (s.ahead src).masterOf src → ∃ t, exec (.mLeaseRel src) s = .next t ∧ t.holder = some h ∧
    Replied (s.ahead src) t src q 5 h [] ∧ t.pkt.requests = dropReq src (s.ahead src).pkt.requests ∧
    Frame (s.ahead src) t [.pkt] noRegs) ∧
  (∀ (src : Fin 8) (c : Fin 8) (a : Nat) (xs : List Byte) (ys : List Byte), s.pkt.requests = [(src.val, a, xs), (c.val, a,
    ys)] → c ≠ src → (parseReq xs).op = 5 → (parseReq ys).op = 5 → s.outranks (s.masterOf c) (s.masterOf src) = true →
    s.holder = none → ∃ t, exec (.mLeaseReq src) s = .next t ∧ t.holder = some (s.masterOf c) ∧ t.pkt.requests = [] ∧
    Frame s t [.pkt] (fun a => a = Reg.PKT_LEASE_STAT)) ∧
  (∀ (src : Fin 8), oldestReq src s.pkt.requests = none → exec (.mLeaseRel src) s = .next s) ∧
  (s.mode ≠ .shelf → (s.rivalsFirst 2 s.now 8).holder = none ∨ (s.rivalsFirst 2 s.now 8).holder = some (2) → ∃ t,
    exec .svcLeaseReq s = .next t ∧ t.holder = some (2) ∧ t.pkt.leaseAt = (s.rivalsFirst 2 s.now 8).now ∧
    t.kpr = { (s.rivalsFirst 2 s.now 8).kpr with svcStatus := 0 } ∧ Frame (s.rivalsFirst 2 s.now 8) t [.kpr,
    .pkt] (fun a => a = Reg.PKT_LEASE_STAT)) ∧
  (∀  (h : Nat), s.mode ≠ .shelf → (s.rivalsFirst 2 s.now 8).holder = some h → h ≠ 2 →
    (s.rivalsFirst 2 s.now 8).leasePri h < (s.rivalsFirst 2 s.now 8).leasePri (2) → ∃ t, exec .svcLeaseReq s = .next t ∧
    t.holder = some (2) ∧ t.pkt.leaseAt = (s.rivalsFirst 2 s.now 8).now ∧
    Counted (s.rivalsFirst 2 s.now 8) t Reg.PKT_LEASE_MOVE_CNT 1 ∧ Raised (s.rivalsFirst 2 s.now 8) t 0x0402 [(1, h), (1, 2)] ∧
    ((s.rivalsFirst 2 s.now 8).mgmtGrant = none → t.bmx = (s.rivalsFirst 2 s.now 8).bmx ∧
    t.rd Reg.BMX_LAST_OPEN = (s.rivalsFirst 2 s.now 8).rd Reg.BMX_LAST_OPEN) ∧
    t.kpr = { (s.rivalsFirst 2 s.now 8).kpr with svcStatus := 0 } ∧ Frame (s.rivalsFirst 2 s.now 8) t [.kpr, .rcd, .pkt,
    .bmx] (fun a => a ∈ [Reg.BMX_LAST_OPEN, Reg.PKT_LEASE_MOVE_CNT, Reg.PKT_LEASE_STAT] ∨ eventRegs 0x0402 a)) ∧
  (∀  (h : Nat), s.mode ≠ .shelf → (s.rivalsFirst 2 s.now 8).holder = some h → h ≠ 2 →
    (s.rivalsFirst 2 s.now 8).leasePri (2) ≤ (s.rivalsFirst 2 s.now 8).leasePri h → ∃ t, exec .svcLeaseReq s = .next t ∧
    t.holder = some h ∧ t.pkt.leaseAt = (s.rivalsFirst 2 s.now 8).pkt.leaseAt ∧
    t.kpr = { (s.rivalsFirst 2 s.now 8).kpr with svcStatus := 5 } ∧ Frame (s.rivalsFirst 2 s.now 8) t [.kpr] noRegs) ∧
  (s.mode ≠ .shelf → (s.rivalsFirst 2 s.now 8).holder = some (2) → ∃ t, exec .svcLeaseRel s = .next t ∧ t.holder = none ∧
    ((s.rivalsFirst 2 s.now 8).mgmtGrant = none → t.bmx = (s.rivalsFirst 2 s.now 8).bmx ∧
    t.rd Reg.BMX_LAST_OPEN = (s.rivalsFirst 2 s.now 8).rd Reg.BMX_LAST_OPEN) ∧
    t.kpr = { (s.rivalsFirst 2 s.now 8).kpr with svcStatus := 0 } ∧ Frame (s.rivalsFirst 2 s.now 8) t [.kpr, .pkt,
    .bmx] (fun a => a ∈ [Reg.BMX_LAST_OPEN, Reg.PKT_LEASE_STAT])) ∧
  (s.mode ≠ .shelf → (s.rivalsFirst 2 s.now 8).holder = none → ∃ t, exec .svcLeaseRel s = .next t ∧ t.holder = none ∧
    t.kpr = { (s.rivalsFirst 2 s.now 8).kpr with svcStatus := 0 } ∧ Frame (s.rivalsFirst 2 s.now 8) t [.kpr] noRegs) ∧
  (∀  (h : Nat), s.mode ≠ .shelf → (s.rivalsFirst 2 s.now 8).holder = some h → h ≠ 2 → ∃ t, exec .svcLeaseRel s = .next t ∧
    t.holder = some h ∧ t.kpr = { (s.rivalsFirst 2 s.now 8).kpr with svcStatus := 5 } ∧
    Frame (s.rivalsFirst 2 s.now 8) t [.kpr] noRegs) ∧
  (s.mode = .shelf → exec .svcLeaseReq s = .next s) ∧
  (s.mode = .shelf → exec .svcLeaseRel s = .next s) ∧
  (∀ (h : Nat), s.holder = some h → 2 * ticksPerS ≤ s.now - s.pkt.leaseAt → ∃ t, exec .leaseLapse s = .next t ∧
    t.holder = none ∧ t.pkt = s.pkt ∧ Counted s t Reg.PKT_LEASE_MOVE_CNT 1 ∧ Raised s t 0x0402 [(1, h), (1, 3)] ∧
    (s.mgmtGrant = none → t.bmx = s.bmx ∧ t.rd Reg.BMX_LAST_OPEN = s.rd Reg.BMX_LAST_OPEN) ∧ Frame s t [.rcd,
    .bmx] (fun a => a ∈ [Reg.BMX_LAST_OPEN, Reg.PKT_LEASE_MOVE_CNT, Reg.PKT_LEASE_STAT] ∨ eventRegs 0x0402 a)) ∧
  (s.holder = none → exec .leaseLapse s = .next s)

/-- The oldest request of a source is answered on the port toward it (R419, R420). M_READ of mapped words returns them in
ascending order, a plain register as it stands without its wo fields, and touches only rc fields it reads and TIM_NS_FRAC (R606
to R608); a bad count, an unmapped or unaligned address and an operation that R419 does not list are answered with their codes
(R419, R604, R605). M_WRITE without the lease is refused and counted, with bad length, count or address it is answered so, and
before writes open it is BUSY (R421, R604, R605, R609; that the lease is judged first is the model's choice, log entry of the
order of checks); a word of a register without an action of its own changes its rw bits and its w1s and w1c bits written as 1
alone (R607). Several words are written in ascending order, each as a write of its own, and the reply counts those performed and
is BUSY when a management capture was refused (R420, R606); a reboot command is performed, from a halted BOOT too, and nothing
of the request is left (the model's reading). M_MEM_READ returns the bytes, corrected, or as read where a unit is uncorrectable;
M_MEM_WRITE stores them and no other where no DRAM request waits (R484 to R487). Each with its frame. -/
def Obligations.ManagementPlaneRequests : Prop := ∀ s : State, s.Canon →
  (∀ (src : Fin 8) (q : MReq), oldestReq src s.pkt.requests = some q → q.op = 1 → 1 ≤ q.count → q.count ≤ 256 →
    regsOk q.addr q.count = true → ∃ t, exec (.mRead src) s = .next t ∧
    Replied s t src q 0 q.count ((s.taken src).readWords q.addr q.count).1 ∧
    t.pkt = { s.pkt with ports := t.pkt.ports, requests := dropReq src s.pkt.requests } ∧ (∀ i : Nat, i < q.count →
    s.view (q.addr + 4 * i) = none → instOf (Reg.KPR_STORE 0) 4 65536 (q.addr + 4 * i) = none →
    q.addr + 4 * i ≠ Reg.TIM_NS_FRAC →
    (((s.taken src).readWords q.addr q.count).1.drop (4 * i)).take 4 = bytesOf 4 (s.rd (q.addr + 4 * i) &&& ~~~ (match specOf (q.addr + 4 * i) with | some (r, _) => BitVec.ofNat 32 r.wo | none => 0)).toNat) ∧
    Frame s t [.pkt, .freeIdx] (fun a => (q.addr ≤ a ∧ a < q.addr + 4 * q.count) ∨ a = Reg.TIM_NS_FRAC)) ∧
  (∀ (src : Fin 8) (q : MReq), oldestReq src s.pkt.requests = some q → q.op = 0 ∨ 6 < q.op → ∃ t,
    exec (.mRead src) s = .next t ∧ Replied s t src q 6 0 [] ∧
    t.pkt = { s.pkt with ports := t.pkt.ports, requests := dropReq src s.pkt.requests } ∧ Frame s t [.pkt] noRegs) ∧
  (∀ (src : Fin 8) (q : MReq), oldestReq src s.pkt.requests = some q → q.op = 1 → q.count = 0 ∨ 256 < q.count → ∃ t,
    exec (.mRead src) s = .next t ∧ Replied s t src q 3 0 [] ∧
    t.pkt = { s.pkt with ports := t.pkt.ports, requests := dropReq src s.pkt.requests } ∧ Frame s t [.pkt] noRegs) ∧
  (∀ (src : Fin 8) (q : MReq), oldestReq src s.pkt.requests = some q → q.op = 1 → 1 ≤ q.count → q.count ≤ 256 →
    regsOk q.addr q.count = false → ∃ t, exec (.mRead src) s = .next t ∧ Replied s t src q 2 0 [] ∧
    t.pkt = { s.pkt with ports := t.pkt.ports, requests := dropReq src s.pkt.requests } ∧ Frame s t [.pkt] noRegs) ∧
  (∀ (src : Fin 8), oldestReq src s.pkt.requests = none → exec (.mRead src) s = .next s) ∧
  (∀ (src : Fin 8) (e : WriteEnv), oldestReq src s.pkt.requests = none → exec (.mWrite src e) s = .next s) ∧
  (∀ (src : Fin 8) (q : MReq) (upsets : List (Nat × Upset)), upsets = [] → oldestReq src s.pkt.requests = some q → q.op = 3 →
    1 ≤ q.count → q.count ≤ 8176 → s.memValid q.addr q.count = true → (∀ c : Fin 2, s.mem.chans[c].queue = []) → (∀ k : Nat,
    k ∈ markKeys q.addr q.count → s.mark k = .ok) → (∀ i : Nat, i < q.count → s.openByte (q.addr + i) = false) → ∃ t,
    exec (.mMemRead src upsets) s = .next t ∧ Replied s t src q 0 q.count (s.memGets q.addr q.count) ∧
    t.pkt = { s.pkt with ports := t.pkt.ports, requests := dropReq src s.pkt.requests } ∧ t.mem.cells = s.mem.cells ∧
    t.mem.marks = s.mem.marks ∧ Frame s t [.pkt, .mem] (fun a => arr 2 Reg.MEM_CH_STAT a)) ∧
  (∀ (src : Fin 8) (q : MReq) (upsets : List (Nat × Upset)), oldestReq src s.pkt.requests = some q → q.op = 3 → 1 ≤ q.count →
    q.count ≤ 8176 → (s.upset upsets).memValid q.addr q.count = true → (∀ k : Nat, k ∈ markKeys q.addr q.count →
    ((s.upset upsets).mark k).moved = false) → (∀ i : Nat, i < q.count → (s.upset upsets).openByte (q.addr + i) = false) → ∃ t,
    exec (.mMemRead src upsets) s = .next t ∧ ((s.upset upsets).QuietMem →
    Replied (s.upset upsets) t src q 0 q.count ((s.upset upsets).memGets q.addr q.count)) ∧
    t.pkt = { (s.upset upsets).pkt with ports := t.pkt.ports, requests := dropReq src (s.upset upsets).pkt.requests } ∧
    Frame (s.upset upsets) t [.rcd, .pkt, .mem] (fun a => a ∈ [Reg.MEM_CE_CNT, Reg.MEM_ERR_ADDR, Reg.MEM_ERR_STAT,
    Reg.MEM_POISON_CNT, Reg.MEM_SRAM_CE_CNT, Reg.MEM_SRAM_UE_CNT, Reg.MEM_UE_CNT] ∨ arr 2 Reg.MEM_CH_STAT a ∨
    eventRegs 0x0501 a ∨ eventRegs 0x0502 a)) ∧
  (∀ (src : Fin 8) (q : MReq) (upsets : List (Nat × Upset)), oldestReq src s.pkt.requests = some q → q.op = 3 → q.count = 0 ∨
    8176 < q.count ∨ (s.upset upsets).memValid q.addr q.count = false → ∃ t, exec (.mMemRead src upsets) s = .next t ∧
    Replied (s.upset upsets) t src q (if q.count = 0 ∨ 8176 < q.count then 3 else 2) 0 [] ∧
    t.pkt = { (s.upset upsets).pkt with ports := t.pkt.ports, requests := dropReq src (s.upset upsets).pkt.requests } ∧
    Frame (s.upset upsets) t [.pkt] noRegs) ∧
  (∀ (src : Fin 8) (upsets : List (Nat × Upset)), oldestReq src s.pkt.requests = none → ∃ t,
    exec (.mMemRead src upsets) s = .next t ∧ t = s.upset upsets) ∧
  (∀ (src : Fin 8) (e : WriteEnv) (q : MReq), oldestReq src s.pkt.requests = some q → q.op = 2 → q.count = 1 →
    q.data.length = 4 → regsOk q.addr 1 = true → (s.ahead src).holder = some ((s.ahead src).masterOf src) →
    (s.ahead src).writable = true → instOf (Reg.RXP_OBS_ROUTE 0) 0x10000 9 q.addr = none →
    ((s.ahead src).taken src).touchLease.hook q.addr (BitVec.ofNat 32 (natOf (q.data.take 4))) e = none → ∃ t,
    exec (.mWrite src e) s = .next t ∧ (∀ i : Fin 32, ∀ x, specOf q.addr = some x →
    t.bit q.addr i = (if bitOf x.1.rw i then bitOf (BitVec.ofNat 32 (natOf (q.data.take 4))).toNat i else if bitOf x.1.w1s i && bitOf (BitVec.ofNat 32 (natOf (q.data.take 4))).toNat i then true else if bitOf x.1.w1c i && bitOf (BitVec.ofNat 32 (natOf (q.data.take 4))).toNat i then false else (s.ahead src).bit q.addr i)) ∧
    Replied (s.ahead src) t src q 0 1 [] ∧
    t.pkt = { (s.ahead src).pkt with ports := t.pkt.ports, requests := dropReq src (s.ahead src).pkt.requests, leaseAt := (s.ahead src).now } ∧
    Frame (s.ahead src) t [.pkt] (fun a => a = q.addr)) ∧
  (∀ (src : Fin 8) (e : WriteEnv) (q : MReq), oldestReq src s.pkt.requests = some q → q.op = 2 → 1 ≤ q.count → q.count ≤ 256 →
    q.data.length = 4 * q.count → regsOk q.addr q.count = true → (s.ahead src).holder = some ((s.ahead src).masterOf src) →
    (s.ahead src).writable = true → (∀ x ∈ (wholeWords q.data).zipIdx, q.addr + 4 * x.2 = Reg.KPR_MODE_CMD →
    fldOf x.1 2 0 ≠ 5) → ∃ t, exec (.mWrite src e) s = .next t ∧
    t = ((((s.ahead src).taken src).touchLease).wroteEach q.addr (wholeWords q.data) e).1.reply src q (if ((((s.ahead src).taken src).touchLease).wroteEach q.addr (wholeWords q.data) e).2 = q.count then 0 else 4) ((((s.ahead src).taken src).touchLease).wroteEach q.addr (wholeWords q.data) e).2 []) ∧
  (∀ (src : Fin 8) (e : WriteEnv) (q : MReq), oldestReq src s.pkt.requests = some q → q.op = 2 → q.count = 1 →
    q.data.length = 4 → q.addr = Reg.KPR_MODE_CMD → fldOf (BitVec.ofNat 32 (natOf (q.data.take 4))) 2 0 = 5 →
    (s.ahead src).holder = some ((s.ahead src).masterOf src) → ((s.ahead src).writable = true ∨
    (s.ahead src).kpr.haltedAt.isSome = true) → ∃ t, exec (.mWrite src e) s = .next t ∧
    t = (if (((s.ahead src).taken src).touchLease).overtaken 2 = true then (((s.ahead src).taken src).touchLease).refuseMode.reply src q 0 1 [] else (((s.ahead src).taken src).touchLease).reboot e.boot)) ∧
  (∀ (src : Fin 8) (e : WriteEnv) (q : MReq), oldestReq src s.pkt.requests = some q → q.op = 2 →
    (s.ahead src).holder ≠ some ((s.ahead src).masterOf src) → ∃ t, exec (.mWrite src e) s = .next t ∧
    Counted (s.ahead src) t Reg.PKT_NO_LEASE_CNT 1 ∧ Replied (s.ahead src) t src q 1 0 [] ∧
    t.pkt = { (s.ahead src).pkt with ports := t.pkt.ports, requests := dropReq src (s.ahead src).pkt.requests } ∧
    Frame (s.ahead src) t [.pkt] (fun a => a = Reg.PKT_NO_LEASE_CNT)) ∧
  (∀ (src : Fin 8) (e : WriteEnv) (q : MReq), oldestReq src s.pkt.requests = some q → q.op = 2 → 1 ≤ q.count → q.count ≤ 256 →
    q.data.length = 4 * q.count → regsOk q.addr q.count = true → (s.ahead src).holder = some ((s.ahead src).masterOf src) →
    (s.ahead src).writable = false → ((s.ahead src).kpr.haltedAt = none ∨ isReboot q.addr (wholeWords q.data) = false) → ∃ t,
    exec (.mWrite src e) s = .next t ∧ Replied (s.ahead src) t src q 4 0 [] ∧
    t.pkt = { (s.ahead src).pkt with ports := t.pkt.ports, requests := dropReq src (s.ahead src).pkt.requests } ∧
    Frame (s.ahead src) t [.pkt] noRegs) ∧
  (∀ (src : Fin 8) (e : WriteEnv) (q : MReq), oldestReq src s.pkt.requests = some q → q.op = 2 →
    (s.ahead src).holder = some ((s.ahead src).masterOf src) → q.count = 0 ∨ 256 < q.count ∨ q.data.length ≠ 4 * q.count → ∃ t,
    exec (.mWrite src e) s = .next t ∧ Replied (s.ahead src) t src q 3 0 [] ∧
    t.pkt = { (s.ahead src).pkt with ports := t.pkt.ports, requests := dropReq src (s.ahead src).pkt.requests } ∧
    Frame (s.ahead src) t [.pkt] noRegs) ∧
  (∀ (src : Fin 8) (e : WriteEnv) (q : MReq), oldestReq src s.pkt.requests = some q → q.op = 2 →
    (s.ahead src).holder = some ((s.ahead src).masterOf src) → 1 ≤ q.count → q.count ≤ 256 → q.data.length = 4 * q.count →
    regsOk q.addr q.count = false → ∃ t, exec (.mWrite src e) s = .next t ∧ Replied (s.ahead src) t src q 2 0 [] ∧
    t.pkt = { (s.ahead src).pkt with ports := t.pkt.ports, requests := dropReq src (s.ahead src).pkt.requests } ∧
    Frame (s.ahead src) t [.pkt] noRegs) ∧
  (∀ (src : Fin 8) (q : MReq) (upsets : List (Nat × Upset)), oldestReq src s.pkt.requests = some q → q.op = 4 → 1 ≤ q.count →
    q.count ≤ 8176 → q.data.length = q.count → ((s.upset upsets).ahead src).hostWritable q.addr q.count = true →
    ((s.upset upsets).ahead src).holder = some (((s.upset upsets).ahead src).masterOf src) →
    ((s.upset upsets).ahead src).writable = true → ∃ t, exec (.mMemWrite src upsets) s = .next t ∧
    (((s.upset upsets).ahead src).QuietMem → (∀ i : Nat, i < q.count → t.memGet (q.addr + i) = q.data.getD i 0) ∧ ∀ a,
    a < q.addr ∨ q.addr + q.count ≤ a → t.memGet a = ((s.upset upsets).ahead src).memGet a) ∧
    Replied ((s.upset upsets).ahead src) t src q 0 q.count [] ∧
    t.pkt = { ((s.upset upsets).ahead src).pkt with ports := t.pkt.ports, requests := dropReq src ((s.upset upsets).ahead src).pkt.requests, leaseAt := ((s.upset upsets).ahead src).now } ∧
    Frame ((s.upset upsets).ahead src) t [.rcd, .pkt, .mem] (fun a => a ∈ [Reg.MEM_CE_CNT, Reg.MEM_ERR_ADDR, Reg.MEM_ERR_STAT,
    Reg.MEM_POISON_CNT, Reg.MEM_SRAM_CE_CNT, Reg.MEM_SRAM_UE_CNT, Reg.MEM_UE_CNT] ∨ arr 2 Reg.MEM_CH_STAT a ∨
    eventRegs 0x0501 a ∨ eventRegs 0x0502 a)) ∧
  (∀ (src : Fin 8) (q : MReq) (upsets : List (Nat × Upset)), oldestReq src s.pkt.requests = some q → q.op = 4 →
    ((s.upset upsets).ahead src).holder ≠ some (((s.upset upsets).ahead src).masterOf src) → ∃ t,
    exec (.mMemWrite src upsets) s = .next t ∧ Counted ((s.upset upsets).ahead src) t Reg.PKT_NO_LEASE_CNT 1 ∧
    Replied ((s.upset upsets).ahead src) t src q 1 0 [] ∧
    t.pkt = { ((s.upset upsets).ahead src).pkt with ports := t.pkt.ports, requests := dropReq src ((s.upset upsets).ahead src).pkt.requests } ∧
    Frame ((s.upset upsets).ahead src) t [.pkt] (fun a => a = Reg.PKT_NO_LEASE_CNT)) ∧
  (∀ (src : Fin 8) (q : MReq) (upsets : List (Nat × Upset)), oldestReq src s.pkt.requests = some q → q.op = 4 →
    ((s.upset upsets).ahead src).holder = some (((s.upset upsets).ahead src).masterOf src) → 1 ≤ q.count → q.count ≤ 8176 →
    q.data.length = q.count → ((s.upset upsets).ahead src).hostWritable q.addr q.count = true →
    ((s.upset upsets).ahead src).writable = false → ∃ t, exec (.mMemWrite src upsets) s = .next t ∧
    Replied ((s.upset upsets).ahead src) t src q 4 0 [] ∧
    t.pkt = { ((s.upset upsets).ahead src).pkt with ports := t.pkt.ports, requests := dropReq src ((s.upset upsets).ahead src).pkt.requests } ∧
    Frame ((s.upset upsets).ahead src) t [.pkt] noRegs) ∧
  (∀ (src : Fin 8) (q : MReq) (upsets : List (Nat × Upset)), oldestReq src s.pkt.requests = some q → q.op = 4 →
    ((s.upset upsets).ahead src).holder = some (((s.upset upsets).ahead src).masterOf src) → q.count = 0 ∨ 8176 < q.count ∨
    q.data.length ≠ q.count ∨ ((s.upset upsets).ahead src).hostWritable q.addr q.count = false → ∃ t,
    exec (.mMemWrite src upsets) s = .next t ∧ Replied ((s.upset upsets).ahead src) t src q (if q.count = 0 ∨ 8176 < q.count ∨
    q.data.length ≠ q.count then 3 else 2) 0 [] ∧
    t.pkt = { ((s.upset upsets).ahead src).pkt with ports := t.pkt.ports, requests := dropReq src ((s.upset upsets).ahead src).pkt.requests } ∧
    Frame ((s.upset upsets).ahead src) t [.pkt] noRegs) ∧
  (∀ (src : Fin 8) (upsets : List (Nat × Upset)), oldestReq src s.pkt.requests = none → ∃ t,
    exec (.mMemWrite src upsets) s = .next t ∧ t = s.upset upsets)

/-- SVC_READ of mapped words puts them on the port in ascending order, a plain register as it stands without its wo fields, with
status OK (R577, R606 to R608). SVC_WRITE with the lease of master 2 changes, of a register without an action of its own, the rw
bits and the w1s and w1c bits written as 1 alone; it writes its whole words in ascending order, each as a write of its own
(R577, R606), and performs a reboot command from a halted BOOT too; without the lease it is counted and refused, and before
writes open it is BUSY (R421, R577, R607 to R609). A locked port ends every READ beyond the KPR block, and every WRITE beyond
the unlock registers, with BAD_ADDR, as it does an unmapped or unaligned address (R578, R605). SVC_STATUS answers the status of
the previous operation (R577). In SHELF nothing happens (R610). Each with its frame. -/
def Obligations.ServicePortFrames : Prop := ∀ s : State, s.Canon →
  (∀ (ad : Word) (n : Nat), s.mode ≠ .shelf → (s.locked = false ∨ ad.toNat + 4 * n ≤ 0x1000000) → regsOk ad.toNat n = true →
    ∃ t, exec (.svcRead ad n) s = .next t ∧ t.out = .svc (s.readWords ad.toNat n).1 :: s.out ∧
    t.kpr = { s.kpr with svcStatus := 0 } ∧ (∀ i : Nat, i < n → s.view (ad.toNat + 4 * i) = none →
    instOf (Reg.KPR_STORE 0) 4 65536 (ad.toNat + 4 * i) = none → ad.toNat + 4 * i ≠ Reg.TIM_NS_FRAC →
    ((s.readWords ad.toNat n).1.drop (4 * i)).take 4 = bytesOf 4 (s.rd (ad.toNat + 4 * i) &&& ~~~ (match specOf (ad.toNat + 4 * i) with | some (r, _) => BitVec.ofNat 32 r.wo | none => 0)).toNat) ∧
    Frame s t [.kpr, .freeIdx, .out] (fun a => (ad.toNat ≤ a ∧ a < ad.toNat + 4 * n) ∨ a = Reg.TIM_NS_FRAC)) ∧
  (∀ (ad : Word) (n : Nat), s.mode ≠ .shelf → (s.locked = true ∧ 0x1000000 < ad.toNat + 4 * n) ∨ regsOk ad.toNat n = false →
    ∃ t, exec (.svcRead ad n) s = .next t ∧ t.kpr = { s.kpr with svcStatus := 2 } ∧ Frame s t [.kpr] noRegs) ∧
  (∀ (ad : Word) (bytes : List Byte) (e : WriteEnv), s.mode ≠ .shelf → bytes.length = 4 →
    (s.rivalsFirst 2 s.now 8).holder = some (2) → (s.rivalsFirst 2 s.now 8).writable = true → regsOk ad.toNat 1 = true →
    (s.locked = false ∨ unlockWords ad.toNat 1 = true) → instOf (Reg.RXP_OBS_ROUTE 0) 0x10000 9 ad.toNat = none →
    (s.rivalsFirst 2 s.now 8).touchLease.hook ad.toNat (BitVec.ofNat 32 (natOf bytes)) e = none → ∃ t,
    exec (.svcWrite ad bytes e) s = .next t ∧ (∀ i : Fin 32, ∀ x, specOf ad.toNat = some x →
    t.bit ad.toNat i = (if bitOf x.1.rw i then bitOf (BitVec.ofNat 32 (natOf bytes)).toNat i else if bitOf x.1.w1s i && bitOf (BitVec.ofNat 32 (natOf bytes)).toNat i then true else if bitOf x.1.w1c i && bitOf (BitVec.ofNat 32 (natOf bytes)).toNat i then false else (s.rivalsFirst 2 s.now 8).bit ad.toNat i)) ∧
    t.kpr = { (s.rivalsFirst 2 s.now 8).kpr with svcStatus := 0 } ∧
    t.pkt = { (s.rivalsFirst 2 s.now 8).pkt with leaseAt := (s.rivalsFirst 2 s.now 8).now } ∧
    Frame (s.rivalsFirst 2 s.now 8) t [.kpr, .pkt] (fun a => a = ad.toNat)) ∧
  (∀ (ad : Word) (bytes : List Byte) (e : WriteEnv), s.mode ≠ .shelf → (s.rivalsFirst 2 s.now 8).holder = some (2) →
    (s.rivalsFirst 2 s.now 8).writable = true → regsOk ad.toNat (wholeWords bytes).length = true → (s.locked = false ∨
    unlockWords ad.toNat (wholeWords bytes).length = true) → (∀ x ∈ (wholeWords bytes).zipIdx,
    ad.toNat + 4 * x.2 = Reg.KPR_MODE_CMD → fldOf x.1 2 0 ≠ 5) → ∃ t, exec (.svcWrite ad bytes e) s = .next t ∧
    t = (((s.rivalsFirst 2 s.now 8).touchLease).wroteEach ad.toNat (wholeWords bytes) e).1.svcEnd (if (((s.rivalsFirst 2 s.now 8).touchLease).wroteEach ad.toNat (wholeWords bytes) e).2 = (wholeWords bytes).length then 0 else 4)) ∧
  (∀ (ad : Word) (bytes : List Byte) (e : WriteEnv), s.mode ≠ .shelf → bytes.length = 4 → ad.toNat = Reg.KPR_MODE_CMD →
    fldOf (BitVec.ofNat 32 (natOf bytes)) 2 0 = 5 → s.locked = false → (s.rivalsFirst 2 s.now 8).holder = some (2) →
    ((s.rivalsFirst 2 s.now 8).writable = true ∨ (s.rivalsFirst 2 s.now 8).kpr.haltedAt.isSome = true) → ∃ t,
    exec (.svcWrite ad bytes e) s = .next t ∧
    t = (if (s.rivalsFirst 2 s.now 8).touchLease.overtaken 2 = true then (s.rivalsFirst 2 s.now 8).touchLease.refuseMode.svcEnd 0 else (s.rivalsFirst 2 s.now 8).touchLease.reboot e.boot)) ∧
  (∀ (ad : Word) (bytes : List Byte) (e : WriteEnv), s.mode ≠ .shelf → (s.rivalsFirst 2 s.now 8).holder ≠ some 2 →
    (s.locked = false ∨ unlockWords ad.toNat (wholeWords bytes).length = true) → ∃ t, exec (.svcWrite ad bytes e) s = .next t ∧
    Counted (s.rivalsFirst 2 s.now 8) t Reg.PKT_NO_LEASE_CNT 1 ∧
    t.kpr = { (s.rivalsFirst 2 s.now 8).kpr with svcStatus := 1 } ∧
    Frame (s.rivalsFirst 2 s.now 8) t [.kpr] (fun a => a = Reg.PKT_NO_LEASE_CNT)) ∧
  (∀ (ad : Word) (bytes : List Byte) (e : WriteEnv), s.mode ≠ .shelf → (s.rivalsFirst 2 s.now 8).holder = some (2) →
    (s.rivalsFirst 2 s.now 8).writable = false → ((s.rivalsFirst 2 s.now 8).kpr.haltedAt = none ∨
    isReboot ad.toNat (wholeWords bytes) = false) → regsOk ad.toNat (wholeWords bytes).length = true → (s.locked = false ∨
    unlockWords ad.toNat (wholeWords bytes).length = true) → ∃ t, exec (.svcWrite ad bytes e) s = .next t ∧
    t.kpr = { (s.rivalsFirst 2 s.now 8).kpr with svcStatus := 4 } ∧ Frame (s.rivalsFirst 2 s.now 8) t [.kpr] noRegs) ∧
  (∀ (ad : Word) (bytes : List Byte) (e : WriteEnv), s.mode ≠ .shelf → (s.rivalsFirst 2 s.now 8).holder = some (2) →
    (s.locked = false ∨ unlockWords ad.toNat (wholeWords bytes).length = true) →
    regsOk ad.toNat (wholeWords bytes).length = false → ∃ t, exec (.svcWrite ad bytes e) s = .next t ∧
    t.kpr = { (s.rivalsFirst 2 s.now 8).kpr with svcStatus := 2 } ∧ Frame (s.rivalsFirst 2 s.now 8) t [.kpr] noRegs) ∧
  (∀ (ad : Word) (bytes : List Byte) (e : WriteEnv), s.mode ≠ .shelf → s.locked = true →
    unlockWords ad.toNat (wholeWords bytes).length = false → ∃ t, exec (.svcWrite ad bytes e) s = .next t ∧
    t.kpr = { s.kpr with svcStatus := 2 } ∧ Frame s t [.kpr] noRegs) ∧
  (s.mode ≠ .shelf → ∃ t, exec .svcStatus s = .next t ∧ t.out = .svc [BitVec.ofNat 8 s.kpr.svcStatus] :: s.out ∧
    Frame s t [.out] noRegs) ∧
  (∀ (ad : Word) (n : Nat), s.mode = .shelf → exec (.svcRead ad n) s = .next s) ∧
  (∀ (ad : Word) (bytes : List Byte) (e : WriteEnv), s.mode = .shelf → exec (.svcWrite ad bytes e) s = .next s) ∧
  (s.mode = .shelf → exec .svcStatus s = .next s)

/-- EVENT_RECORD writes the oldest waiting event to the black-box ring, and one that R581 logs to the trouble log, with sequence
numbers that count on, and no other byte of memory (R581, R584, R585, R587); it sends its alarm or counts it as dropped (R423),
latches the first event at fault_sev (R598), reports lost events (R583), and freezes after a CRITICAL event (R588).
BB_FREEZE_WRITE freezes now, or behind a copy that runs, or with an early warning of the same cycle (R588, R590, R591).
BB_FREE_WRITE marks held slots free with a valid header, and counts one being written (R594). LIFETIME_SECOND counts time and
temperature band, LIFETIME_SAVE saves to the other copy (R596). FAULT_CLEAR_WRITE clears latched, but an event of the same cycle
that reaches fault_sev latches (R598). Each with its frame. -/
def Obligations.RecordsAndLifetime : Prop := ∀ s : State, s.Canon →
  (∀ (bad : List Nat) (e : Event) (l : List Event), s.rcd.queue = e :: l → s.mode ≠ .shelf → severity e.code ≠ 3 →
    s.rcd.due = none → s.rcd.lost = 0 → ∃ t, exec (.eventRecord bad) s = .next t ∧
    t.rcd = { s.rcd with queue := l, bbCount := s.rcd.bbCount + 1, ptrWas := some (s.now, s.ptrView Reg.KPR_LOG_PTR, s.ptrView Reg.KPR_BB_PTR), reached := if s.fld Reg.KPR_FAULT_STAT 17 16 ≤ severity e.code then some (s.now, s.reachedNow.getD e.code) else s.rcd.reached } ∧
    (∀ i : Fin 16,
    t.memGet ((0xF1754000 + 16 * ((s.fld Reg.KPR_BB_PTR 15 0) % 1024)) + i) = (entryBytes e (s.fld Reg.KPR_BB_PTR 15 0)).getD i 0) ∧
    (e.logged = true → (∀ i : Fin 16,
    t.memGet ((0xF1744000 + 16 * ((s.fld Reg.KPR_LOG_PTR 15 0) % 4096)) + i) = (entryBytes e (s.fld Reg.KPR_LOG_PTR 15 0)).getD i 0)) ∧
    (∀ a, (a < (0xF1754000 + 16 * ((s.fld Reg.KPR_BB_PTR 15 0) % 1024)) ∨
    (0xF1754000 + 16 * ((s.fld Reg.KPR_BB_PTR 15 0) % 1024)) + 16 ≤ a) → (e.logged = true →
    a < (0xF1744000 + 16 * ((s.fld Reg.KPR_LOG_PTR 15 0) % 4096)) ∨
    (0xF1744000 + 16 * ((s.fld Reg.KPR_LOG_PTR 15 0) % 4096)) + 16 ≤ a) → t.memGet a = s.memGet a) ∧
    t.fld Reg.KPR_BB_PTR 15 0 = ((s.fld Reg.KPR_BB_PTR 15 0) + 1) % 65536 ∧
    t.fld Reg.KPR_LOG_PTR 15 0 = (if e.logged = true then ((s.fld Reg.KPR_LOG_PTR 15 0) + 1) % 65536 else (s.fld Reg.KPR_LOG_PTR 15 0)) ∧
    (if s.bit Reg.KPR_FAULT_STAT 30 = false ∧
    s.fld Reg.KPR_FAULT_STAT 17 16 ≤ severity e.code then t.bit Reg.KPR_FAULT_STAT 30 = true ∧
    t.fld Reg.KPR_FAULT_STAT 15 0 = e.code % 65536 else t.bit Reg.KPR_FAULT_STAT 30 = s.bit Reg.KPR_FAULT_STAT 30 ∧
    t.fld Reg.KPR_FAULT_STAT 15 0 = s.fld Reg.KPR_FAULT_STAT 15 0) ∧ (((e.logged || e.alarm) && e.code != 0x0001) = false →
    t.pkt = s.pkt ∧ t.rd Reg.PKT_ALARM_DROP_CNT = s.rd Reg.PKT_ALARM_DROP_CNT) ∧
    (((e.logged || e.alarm) && e.code != 0x0001) = true →
    (s.pkt.alarmAt.any fun x => x.1 == e.code && decide (s.now - x.2 < 983040)) = true → t.pkt = s.pkt ∧
    Counted s t Reg.PKT_ALARM_DROP_CNT 1) ∧ (((e.logged || e.alarm) && e.code != 0x0001) = true →
    (s.pkt.alarmAt.any fun x => x.1 == e.code && decide (s.now - x.2 < 983040)) = false → t.pkt = (s.sendAlarm e).pkt ∧
    t.rd Reg.PKT_ALARM_DROP_CNT = s.rd Reg.PKT_ALARM_DROP_CNT) ∧ (((e.logged || e.alarm) && e.code != 0x0001) = true →
    (s.pkt.alarmAt.any fun x => x.1 == e.code && decide (s.now - x.2 < 983040)) = false → e.toOld = none →
    s.portUp (s.routeTo 5) = true → s.routeTo 5 ≠ s.routeTo 6 →
    (t.pkt.ports[s.routeTo 5]).queues[7].wait = (s.pkt.ports[s.routeTo 5]).queues[7].wait ++ [{ plane := 4, sub := 2, flow := mkFlow 5 s.position 0 0, air := s.airStamp, payload := s.alarmPayload e, at_ := s.now }]) ∧
    Frame s t [.rcd, .pkt, .mem] (fun a => a ∈ [Reg.KPR_BB_PTR, Reg.KPR_FAULT_STAT, Reg.KPR_LOG_PTR, Reg.MEM_CE_CNT,
    Reg.MEM_ERR_ADDR, Reg.MEM_ERR_STAT, Reg.MEM_POISON_CNT, Reg.MEM_SRAM_CE_CNT, Reg.MEM_SRAM_UE_CNT, Reg.MEM_UE_CNT,
    Reg.PKT_ALARM_DROP_CNT] ∨ eventRegs 0x0501 a ∨ eventRegs 0x0502 a)) ∧
  (∀ (bad : List Nat) (e : Event) (l : List Event), s.rcd.queue = e :: l → s.mode ≠ .shelf → severity e.code ≠ 3 →
    s.rcd.due = none → s.rcd.lost ≠ 0 → l.length < 63 → ∃ t, exec (.eventRecord bad) s = .next t ∧ (∃ x ∈ t.rcd.queue,
    x.code = 0x000B ∧ x.args = packArgs [(4, s.rcd.lost)]) ∧ t.rcd.lost = 0 ∧ t.rcd.bbCount = s.rcd.bbCount + 1 ∧
    t.fld Reg.KPR_BB_PTR 15 0 = ((s.fld Reg.KPR_BB_PTR 15 0) + 1) % 65536 ∧
    t.fld Reg.KPR_LOG_PTR 15 0 = (if e.logged = true then ((s.fld Reg.KPR_LOG_PTR 15 0) + 1) % 65536 else (s.fld Reg.KPR_LOG_PTR 15 0)) ∧
    (∀ a, keptCell a = false → t.memGet a = s.memGet a) ∧ Frame s t [.rcd, .pkt, .mem] (fun a => a ∈ [Reg.KPR_BB_PTR,
    Reg.KPR_FAULT_STAT, Reg.KPR_LOG_PTR, Reg.MEM_CE_CNT, Reg.MEM_ERR_ADDR, Reg.MEM_ERR_STAT, Reg.MEM_POISON_CNT,
    Reg.MEM_SRAM_CE_CNT, Reg.MEM_SRAM_UE_CNT, Reg.MEM_UE_CNT, Reg.PKT_ALARM_DROP_CNT] ∨ eventRegs 0x000B a ∨
    eventRegs 0x0501 a ∨ eventRegs 0x0502 a)) ∧
  (∀ (bad : List Nat) (e : Event), s.rcd.queue = [e] → s.mode ≠ .shelf → severity e.code = 3 → s.rcd.due = none →
    s.rcd.lost = 0 → s.rcd.earlyWarned = false → s.rcd.copy = none → s.earlyNow = false → ∃ t,
    exec (.eventRecord bad) s = .next t ∧ t.rcd.due = none ∧ t.rcd.copy.map (·.1) = some s.chooseSlot ∧
    t.rcd.copy.isSome = true ∧ t.rcd.snapSeq = s.rcd.snapSeq + 1 ∧ Counted s t Reg.KPR_BB_FREEZE_CNT 1 ∧
    Counted s t (Reg.KPR_LT 14) 1 ∧ t.bit Reg.KPR_BB_CTL 31 = false ∧ (∀ a, keptCell a = false → t.memGet a = s.memGet a) ∧
    Frame s t [.rcd, .pkt, .mem, .store, .freeIdx] (fun a => a ∈ [Reg.KPR_BB_CTL, Reg.KPR_BB_FREEZE_CNT, Reg.KPR_BB_PTR,
    Reg.KPR_FAULT_STAT, Reg.KPR_LOG_PTR, Reg.KPR_STORE_SPARE_CNT, Reg.MEM_CE_CNT, Reg.MEM_ERR_ADDR, Reg.MEM_ERR_STAT,
    Reg.MEM_POISON_CNT, Reg.MEM_SRAM_CE_CNT, Reg.MEM_SRAM_UE_CNT, Reg.MEM_UE_CNT, Reg.PKT_ALARM_DROP_CNT] ∨
    eventRegs 0x0009 a ∨ eventRegs 0x000A a ∨ eventRegs 0x0501 a ∨ eventRegs 0x0502 a ∨ a = Reg.KPR_LT 14 ∨ a = Reg.KPR_LT 17)) ∧
  (∀ (bad : List Nat), s.rcd.queue = [] ∨ s.mode = .shelf → exec (.eventRecord bad) s = .next s) ∧
  (∀ (bad : List Nat), s.writable = true → s.rcd.earlyWarned = false → s.rcd.copy = none → s.earlyNow = false → ∃ t,
    exec (.bbFreezeWrite bad) s = .next t ∧ t.rcd.copy.map (·.1) = some s.chooseSlot ∧ t.rcd.copy.isSome = true ∧
    t.rcd.snapSeq = s.rcd.snapSeq + 1 ∧ Counted s t Reg.KPR_BB_FREEZE_CNT 1 ∧ Counted s t (Reg.KPR_LT 14) 1 ∧
    t.bit Reg.KPR_BB_CTL 31 = false ∧ (∀ a, keptCell a = false → t.memGet a = s.memGet a) ∧ (s.rcd.spares = [] → bad = [] →
    ∀ i : Fin 64, t.storeGet (slotRow s.chooseSlot) i = 0) ∧ Frame s t [.rcd, .pkt, .mem, .store,
    .freeIdx] (fun a => a ∈ [Reg.KPR_BB_CTL, Reg.KPR_BB_FREEZE_CNT, Reg.KPR_BB_PTR, Reg.KPR_FAULT_STAT, Reg.KPR_LOG_PTR,
    Reg.KPR_STORE_SPARE_CNT, Reg.MEM_CE_CNT, Reg.MEM_ERR_ADDR, Reg.MEM_ERR_STAT, Reg.MEM_POISON_CNT, Reg.MEM_SRAM_CE_CNT,
    Reg.MEM_SRAM_UE_CNT, Reg.MEM_UE_CNT, Reg.PKT_ALARM_DROP_CNT] ∨ eventRegs 0x0009 a ∨ eventRegs 0x000A a ∨
    eventRegs 0x0501 a ∨ eventRegs 0x0502 a ∨ a = Reg.KPR_LT 14 ∨ a = Reg.KPR_LT 17)) ∧
  (∀ (bad : List Nat), s.writable = true → s.rcd.earlyWarned = false → s.rcd.copy.isSome = true ∨ s.earlyNow = true → ∃ t,
    exec (.bbFreezeWrite bad) s = .next t ∧ t.rcd = { s.rcd with waiting := some (s.rcd.waiting.getD 0) } ∧
    Frame s t [.rcd] (fun a => a = Reg.KPR_BB_CTL)) ∧
  (∀ (bad : List Nat), s.writable = true → s.rcd.earlyWarned = true → ∃ t, exec (.bbFreezeWrite bad) s = .next t ∧
    t.bit Reg.KPR_BB_CTL 31 = false ∧ Frame s t [] (fun a => a = Reg.KPR_BB_CTL)) ∧
  (∀ (mask : BitVec 8) (bad : List Nat), s.writable = true → bad = [] → s.rcd.spares = [] → ∃ t,
    exec (.bbFreeWrite mask bad) s = .next t ∧ (∀ k : Fin 8, bitOf mask.toNat k = true → s.slotBusy k = false →
    t.slotHeld k = false ∧ t.slotValid k = s.slotValid k ∧ t.slotEntries k = s.slotEntries k) ∧ (∀ k : Fin 8,
    bitOf mask.toNat k = false ∨ s.slotBusy k = true → t.storeRow (slotRow k) = s.storeRow (slotRow k)) ∧ (∀ a, (∀ k : Fin 8,
    bitOf mask.toNat k = true → a / 64 ≠ slotRow k) →
    tabGet (fun _ => (0 : Byte)) t.store a = tabGet (fun _ => (0 : Byte)) s.store a) ∧
    Counted s t Reg.KPR_MODE_REFUSE_CNT ((List.range 8).countP fun k => bitOf mask.toNat k && s.slotBusy k) ∧
    Frame s t [.store] (fun a => a = Reg.KPR_MODE_REFUSE_CNT ∨ a = Reg.KPR_LT 17)) ∧
  (∀ (mask : BitVec 8) (bad : List Nat), s.writable = true → ∃ t, exec (.bbFreeWrite mask bad) s = .next t ∧
    t.rcd.copy = s.rcd.copy ∧ Frame s t [.rcd, .store, .freeIdx] (fun a => a ∈ [Reg.KPR_MODE_REFUSE_CNT,
    Reg.KPR_STORE_SPARE_CNT] ∨ eventRegs 0x000A a ∨ a = Reg.KPR_LT 17)) ∧
  (∀ (bad : List Nat), s.writable = false → exec (.bbFreezeWrite bad) s = .next s) ∧
  (∀ (mask : BitVec 8) (bad : List Nat), s.writable = false → exec (.bbFreeWrite mask bad) s = .next s) ∧
  (s.mode ≠ .shelf → ∃ t, exec .lifetimeSecond s = .next t ∧ Counted s t (Reg.KPR_LT 0) 1 ∧
    (t.rd (Reg.KPR_LT 1)).toNat = (if s.mode.live = true then satAdd (s.rd (Reg.KPR_LT 1)).toNat 1 else (s.rd (Reg.KPR_LT 1)).toNat) ∧
    (∀ k : Fin 8,
    (t.rd (Reg.KPR_LT (2 + k))).toNat = (if s.hottestDie.map tjBand = some k.val then satAdd (s.rd (Reg.KPR_LT (2 + k))).toNat 1 else (s.rd (Reg.KPR_LT (2 + k))).toNat)) ∧
    Frame s t [] (fun a => arr 10 Reg.KPR_LT a)) ∧
  (s.mode = .shelf → exec .lifetimeSecond s = .next s) ∧
  (∀ (bad : List Nat), s.mode ≠ .shelf → s.mode ≠ .boot → bad = [] → s.rcd.spares = [] → ∃ t,
    exec (.lifetimeSave bad) s = .next t ∧
    t.rcd = { s.rcd with ltGen := (s.rcd.ltGen + 1) % 2 ^ 32, ltNextB := !s.rcd.ltNextB } ∧
    t.ltCopy s.rcd.ltNextB = some (t.rcd.ltGen, s.ltBody t.rcd.ltGen ++ bytesOf 4 (crc32 (s.ltBody t.rcd.ltGen))) ∧ (∀ a,
    a < (ltRow s.rcd.ltNextB * 64) ∨ (ltRow s.rcd.ltNextB * 64) + 2048 ≤ a →
    tabGet (fun _ => (0 : Byte)) t.store a = tabGet (fun _ => (0 : Byte)) s.store a) ∧ Frame s t [.rcd,
    .store] (fun a => a = Reg.KPR_LT 17)) ∧
  (∀ (bad : List Nat), s.mode ≠ .shelf → s.mode ≠ .boot → ∃ t, exec (.lifetimeSave bad) s = .next t ∧
    t.rcd.ltGen = (s.rcd.ltGen + 1) % 2 ^ 32 ∧ t.rcd.ltNextB = !s.rcd.ltNextB ∧ Frame s t [.rcd, .store,
    .freeIdx] (fun a => a = Reg.KPR_STORE_SPARE_CNT ∨ eventRegs 0x000A a ∨ a = Reg.KPR_LT 17)) ∧
  (∀ (bad : List Nat), s.mode = .shelf ∨ s.mode = .boot → exec (.lifetimeSave bad) s = .next s) ∧
  (∀ (c : Nat), s.writable = true → s.reachedNow = some c → ∃ t, exec .faultClearWrite s = .next t ∧
    t.bit Reg.KPR_FAULT_STAT 30 = true ∧ t.fld Reg.KPR_FAULT_STAT 15 0 = c % 65536 ∧
    t.fld Reg.KPR_FAULT_STAT 29 16 = s.fld Reg.KPR_FAULT_STAT 29 16 ∧ Frame s t [] (fun a => a = Reg.KPR_FAULT_STAT)) ∧
  (s.writable = true → s.reachedNow = none → ∃ t, exec .faultClearWrite s = .next t ∧ t.bit Reg.KPR_FAULT_STAT 30 = false ∧
    t.fld Reg.KPR_FAULT_STAT 29 0 = s.fld Reg.KPR_FAULT_STAT 29 0 ∧ Frame s t [] (fun a => a = Reg.KPR_FAULT_STAT)) ∧
  (s.writable = false → exec .faultClearWrite s = .next s)

/-- REGISTER_WRITE of a mapped word whose register has no action of its own changes its rw bits, its w1s bits written as 1 to 1
and its w1c bits written as 1 to 0, and no other bit and no other register (R604, R607); an unmapped word, and any word before
writes open, changes nothing (R604, R605, R609). A write of a register with an action does what the row of that action does, for
every such register and the fields named here; a fixed spool counts a write of its ring base as refused; a word of the unlock
response, of BLK_EVT_EN and of BIA_STAGE holds what is written, the latter two for what comes after this cycle (R525, R613);
TIM_ADJ_CTL takes its bit. CNT_CLR_WRITE puts every counter of its block at 0, whatever the instance, and no other register (R9,
R612); sat then reads 0 where no lifetime counter stands at its end (that those still show in it is the model's reading).
STAT_SUM_READ clears the rc fields and no other bit (R608, R614). Each with its frame. -/
def Obligations.RegisterAccess : Prop := ∀ s : State, s.Canon →
  (∀ (a0 w : Word) (e : WriteEnv), s.writable = true → mapped a0.toNat = true →
    instOf (Reg.RXP_OBS_ROUTE 0) 0x10000 9 a0.toNat = none → s.hook a0.toNat w e = none → ∃ t,
    exec (.registerWrite a0 w e) s = .next t ∧ (∀ i : Fin 32, ∀ x, specOf a0.toNat = some x →
    t.bit a0.toNat i = (if bitOf x.1.rw i then bitOf (w).toNat i else if bitOf x.1.w1s i && bitOf (w).toNat i then true else if bitOf x.1.w1c i && bitOf (w).toNat i then false else s.bit a0.toNat i)) ∧
    Frame s t [] (fun a => a = a0.toNat)) ∧
  (∀ (a0 w : Word) (e : WriteEnv), s.writable = false ∨ mapped a0.toNat = false → exec (.registerWrite a0 w e) s = .next s) ∧
  (∀ (b : Fin 20), s.writable = true → ∃ t, exec (.cntClrWrite b) s = .next t ∧ (∀ a,
    t.rd a = if counterOf b a = true then 0 else s.rd a) ∧ (∀ i : Fin 18, t.rd (Reg.KPR_LT i) = s.rd (Reg.KPR_LT i)) ∧
    ((b ≠ 0 ∨ ∀ i : Fin 18, s.rd (Reg.KPR_LT i) ≠ 0xFFFFFFFF) → t.saturated b = false) ∧
    Frame s t [] (fun a => counterOf b a = true)) ∧
  (∀ (b : Fin 20), s.writable = false → exec (.cntClrWrite b) s = .next s) ∧
  (∀ (b : Fin 20), s.mode ≠ .shelf → ∃ t, exec (.statSumRead b) s = .next t ∧ (∀ i : Fin 32,
    t.bit (Reg.BLK_STAT_SUM b) i = (if bitOf 0x83FF0000 i = true then false else s.bit (Reg.BLK_STAT_SUM b) i)) ∧
    Frame s t [] (fun a => a = Reg.BLK_STAT_SUM b)) ∧
  (∀ (b : Fin 20), s.mode = .shelf → exec (.statSumRead b) s = .next s) ∧
  (∀ (w : Word) (e : WriteEnv), s.writable = true → fldOf w 2 0 = 1 → ∃ t,
    exec (.registerWrite (BitVec.ofNat 32 (Reg.KPR_MODE_CMD)) w e) s = .next t ∧ exec .goLive s = .next t) ∧
  (∀ (w : Word) (e : WriteEnv), s.writable = true → fldOf w 2 0 = 2 → ∃ t,
    exec (.registerWrite (BitVec.ofNat 32 (Reg.KPR_MODE_CMD)) w e) s = .next t ∧ exec .standDown s = .next t) ∧
  (∀ (w : Word) (e : WriteEnv), s.writable = true → fldOf w 2 0 = 3 → ∃ t,
    exec (.registerWrite (BitVec.ofNat 32 (Reg.KPR_MODE_CMD)) w e) s = .next t ∧ exec .recover s = .next t) ∧
  (∀ (w : Word) (e : WriteEnv), s.writable = true → fldOf w 2 0 = 4 → ∃ t,
    exec (.registerWrite (BitVec.ofNat 32 (Reg.KPR_MODE_CMD)) w e) s = .next t ∧ exec (.shelve e.bad) s = .next t) ∧
  (∀ (w : Word) (e : WriteEnv), s.writable = true → fldOf w 2 0 = 5 → ∃ t,
    exec (.registerWrite (BitVec.ofNat 32 (Reg.KPR_MODE_CMD)) w e) s = .next t ∧ exec (.reboot e.boot) s = .next t) ∧
  (∀ (w : Word) (e : WriteEnv), ∃ t, exec (.registerWrite (BitVec.ofNat 32 (Reg.KPR_KEY_REVOKE)) w e) s = .next t ∧
    exec (.keyRevoke (BitVec.ofNat 4 w.toNat)) s = .next t) ∧
  (∀ (w : Word) (e : WriteEnv), bitOf w.toNat 31 = true → bitOf w.toNat 0 = false → ∃ t,
    exec (.registerWrite (BitVec.ofNat 32 (Reg.KPR_FLASH_CTL)) w e) s = .next t ∧ exec .flashErase s = .next t) ∧
  (∀ (w : Word) (e : WriteEnv), bitOf w.toNat 31 = true → bitOf w.toNat 0 = true → ∃ t,
    exec (.registerWrite (BitVec.ofNat 32 (Reg.KPR_FLASH_CTL)) w e) s = .next t ∧ exec .flashProgram s = .next t) ∧
  (∀ (w : Word) (e : WriteEnv), fldOf w 1 0 = 1 → ∃ t,
    exec (.registerWrite (BitVec.ofNat 32 (Reg.KPR_UNLOCK_CTL)) w e) s = .next t ∧ exec .unlockNew s = .next t) ∧
  (∀ (w : Word) (e : WriteEnv), fldOf w 1 0 = 2 → ∃ t,
    exec (.registerWrite (BitVec.ofNat 32 (Reg.KPR_UNLOCK_CTL)) w e) s = .next t ∧ exec .unlockCheck s = .next t) ∧
  (∀ (w : Word) (e : WriteEnv), bitOf w.toNat 31 = true → fldOf w 7 0 = 0 → ∃ t,
    exec (.registerWrite (BitVec.ofNat 32 (Reg.KPR_BB_CTL)) w e) s = .next t ∧ exec (.bbFreezeWrite e.bad) s = .next t) ∧
  (∀ (w : Word) (e : WriteEnv), bitOf w.toNat 31 = false → ∃ t,
    exec (.registerWrite (BitVec.ofNat 32 (Reg.KPR_BB_CTL)) w e) s = .next t ∧
    exec (.bbFreeWrite (BitVec.ofNat 8 w.toNat) e.bad) s = .next t) ∧
  (∀ (w : Word) (e : WriteEnv), bitOf w.toNat 30 = true → ∃ t,
    exec (.registerWrite (BitVec.ofNat 32 (Reg.KPR_FAULT_STAT)) w e) s = .next t ∧ exec .faultClearWrite s = .next t) ∧
  (∀ (b : Fin 20) (w : Word) (e : WriteEnv), bitOf w.toNat 0 = true → ∃ t,
    exec (.registerWrite (BitVec.ofNat 32 (b.val * 0x1000000 + 0xF00004)) w e) s = .next t ∧ exec (.cntClrWrite b) s = .next t) ∧
  (∀ (w : Word) (e : WriteEnv), ∃ t, exec (.registerWrite (BitVec.ofNat 32 (Reg.TIM_INCR_CTL)) w e) s = .next t ∧
    exec (.timIncrWrite w) s = .next t) ∧
  (∀ (w : Word) (e : WriteEnv), bitOf w.toNat 31 = true → ∃ t,
    exec (.registerWrite (BitVec.ofNat 32 (Reg.TIM_QUAL)) w e) s = .next t ∧ exec .timeValidWrite s = .next t) ∧
  (∀ (w : Word) (e : WriteEnv), bitOf w.toNat 31 = true → ∃ t,
    exec (.registerWrite (BitVec.ofNat 32 (Reg.TIM_EPOCH_CTRL)) w e) s = .next t ∧ exec .epochArm s = .next t) ∧
  (∀ (w : Word) (e : WriteEnv), ∃ t, exec (.registerWrite (BitVec.ofNat 32 (Reg.TIM_DREQ_CTL)) w e) s = .next t ∧
    exec (.delayReqSend w) s = .next t) ∧
  (∀ (p : Port) (w : Word) (e : WriteEnv), bitOf w.toNat 31 = true → ∃ t,
    exec (.registerWrite (BitVec.ofNat 32 (Reg.LN_CTRL p.idx)) w e) s = .next t ∧ exec (.retrainWrite p) s = .next t) ∧
  (∀ (p : Port) (w : Word) (e : WriteEnv), ∃ t,
    exec (.registerWrite (BitVec.ofNat 32 (Reg.LN_TEST_CFG p.idx)) w e) s = .next t ∧ exec (.testStart p w) s = .next t) ∧
  (∀ (p : Port) (w : Word) (e : WriteEnv), ∃ t,
    exec (.registerWrite (BitVec.ofNat 32 (Reg.LN_TEST_INJ p.idx)) w e) s = .next t ∧ exec (.errorInject p w) s = .next t) ∧
  (∀ (c : Fin 4) (w : Word) (e : WriteEnv), bitOf w.toNat 31 = true → ∃ t,
    exec (.registerWrite (BitVec.ofNat 32 (Reg.PKT_OWN c)) w e) s = .next t ∧ exec (.ownerMoveWrite c) s = .next t) ∧
  (∀ (sp : Fin 32) (w : Word) (e : WriteEnv), ∃ t, exec (.registerWrite (BitVec.ofNat 32 (Reg.SPL_HEAD sp)) w e) s = .next t ∧
    exec (.spoolHeadWrite sp w) s = .next t) ∧
  (∀ (sp : Fin 32) (w : Word) (e : WriteEnv), ∃ t, exec (.registerWrite (BitVec.ofNat 32 (Reg.SPL_PACE sp)) w e) s = .next t ∧
    exec (.spoolPaceWrite sp w) s = .next t) ∧
  (∀ (w : Word) (e : WriteEnv), ∃ t, exec (.registerWrite (BitVec.ofNat 32 (Reg.SEQ_LEAN)) w e) s = .next t ∧
    exec (.setChangeRequest w) s = .next t) ∧
  (∀ (w : Word) (e : WriteEnv), ∃ t, exec (.registerWrite (BitVec.ofNat 32 (Reg.SEQ_CAL_REQ)) w e) s = .next t ∧
    exec (.calJobRequest w) s = .next t) ∧
  (∀ (w : Word) (e : WriteEnv), ∃ t, exec (.registerWrite (BitVec.ofNat 32 (Reg.SEQ_PA_REF)) w e) s = .next t ∧
    exec (.paRefWrite w) s = .next t) ∧
  (∀ (w : Word) (e : WriteEnv), ∃ t, exec (.registerWrite (BitVec.ofNat 32 (Reg.SYN_RETUNE)) w e) s = .next t ∧
    exec (.retuneWrite w) s = .next t) ∧
  (∀ (w : Word) (e : WriteEnv), bitOf w.toNat 0 = true → ∃ t,
    exec (.registerWrite (BitVec.ofNat 32 (Reg.SYN_ALIGN)) w e) s = .next t ∧ exec .synAlignArm s = .next t) ∧
  (∀ (hi : Bool) (w : Word) (e : WriteEnv), ∃ t,
    exec (.registerWrite (BitVec.ofNat 32 (if hi = true then Reg.TXP_RETIRE_CMD_HI else Reg.TXP_RETIRE_CMD_LO)) w e) s = .next t ∧
    exec (.txRetireCmd hi w) s = .next t) ∧
  (∀ (hi : Bool) (w : Word) (e : WriteEnv), ∃ t,
    exec (.registerWrite (BitVec.ofNat 32 (if hi = true then Reg.RXP_RETIRE_CMD_HI else Reg.RXP_RETIRE_CMD_LO)) w e) s = .next t ∧
    exec (.rxRetireCmd hi w) s = .next t) ∧
  (∀ (hi : Bool) (w : Word) (e : WriteEnv), ∃ t,
    exec (.registerWrite (BitVec.ofNat 32 (if hi = true then Reg.TXP_REINSTATE_HI else Reg.TXP_REINSTATE_LO)) w e) s = .next t ∧
    exec (.txReinstate hi w) s = .next t) ∧
  (∀ (hi : Bool) (w : Word) (e : WriteEnv), ∃ t,
    exec (.registerWrite (BitVec.ofNat 32 (if hi = true then Reg.RXP_REINSTATE_HI else Reg.RXP_REINSTATE_LO)) w e) s = .next t ∧
    exec (.rxReinstate hi w) s = .next t) ∧
  (∀ (p : Fin 64) (w : Word) (e : WriteEnv), ∃ t, exec (.registerWrite (BitVec.ofNat 32 (Reg.TXP_ATTEN p)) w e) s = .next t ∧
    exec (.attenWrite p w) s = .next t) ∧
  (∀ (k : Fin 9) (w : Word) (e : WriteEnv), ∃ t,
    exec (.registerWrite (BitVec.ofNat 32 (Reg.RXP_OBS_ROUTE k)) w e) s = .next t ∧ exec (.obsRouteWrite k w) s = .next t) ∧
  (∀ (c : Fin 4) (w : Word) (e : WriteEnv), ∃ t, exec (.registerWrite (BitVec.ofNat 32 (Reg.DFE_CAR_OFS c)) w e) s = .next t ∧
    exec (.offsetWrite c w) s = .next t) ∧
  (∀ (w : Word) (e : WriteEnv), ∃ t, exec (.registerWrite (BitVec.ofNat 32 (Reg.DPD_GUARD_TEST)) w e) s = .next t ∧
    exec (.guardTest w) s = .next t) ∧
  (∀ (p : Fin 64) (w : Word) (e : WriteEnv), fldOf w 24 24 = 0 → fldOf w 15 8 = 0 → ∃ t,
    exec (.registerWrite (BitVec.ofNat 32 (Reg.DPD_CTRL p)) w e) s = .next t ∧
    exec (.dpdFreeze p (bitOf w.toNat 31)) s = .next t) ∧
  (∀ (w : Word) (e : WriteEnv), ∃ t, exec (.registerWrite (BitVec.ofNat 32 (Reg.BMX_LAST_OPEN)) w e) s = .next t ∧
    exec (.lastOpen w) s = .next t) ∧
  (∀ (w : Word) (e : WriteEnv), fldOf w 1 0 = 1 → ∃ t,
    exec (.registerWrite (BitVec.ofNat 32 (Reg.BMX_LAST_COMMIT)) w e) s = .next t ∧ exec .lastCommit s = .next t) ∧
  (∀ (w : Word) (e : WriteEnv), bitOf w.toNat 1 = true → ∃ t,
    exec (.registerWrite (BitVec.ofNat 32 (Reg.BMX_LAST_COMMIT)) w e) s = .next t ∧ exec .lastAbort s = .next t) ∧
  (∀ (w : Word) (e : WriteEnv), ∃ t, exec (.registerWrite (BitVec.ofNat 32 (Reg.BIA_STROBE)) w e) s = .next t ∧
    exec (.biaStrobeWrite w) s = .next t) ∧
  (∀ (c : Fin 80) (w : Word) (e : WriteEnv), ∃ t, exec (.registerWrite (BitVec.ofNat 32 (Reg.BIA_CH_CFG c)) w e) s = .next t ∧
    exec (.biaPowerWrite c (bitOf w.toNat 31)) s = .next t) ∧
  (∀ (c : Fin 80) (w : Word) (e : WriteEnv), ∃ t, exec (.registerWrite (BitVec.ofNat 32 (Reg.BIA_QUEUE c)) w e) s = .next t ∧
    exec (.biaQueueWrite c w) s = .next t) ∧
  (∀ (w : Word) (e : WriteEnv), ∃ t, exec (.registerWrite (BitVec.ofNat 32 (Reg.HKA_ONESHOT)) w e) s = .next t ∧
    exec (.hkaOneshot w) s = .next t) ∧
  (∀ (w : Word) (e : WriteEnv), ∃ t, exec (.registerWrite (BitVec.ofNat 32 (Reg.HKA_CAL_CTL)) w e) s = .next t ∧
    exec (.hkaCalStart w) s = .next t) ∧
  (∀ (b : Fin 20) (w : Word) (e : WriteEnv), s.writable = true → ∃ t,
    exec (.registerWrite (BitVec.ofNat 32 (Reg.BLK_EVT_EN b)) w e) s = .next t ∧ t.rd (Reg.BLK_EVT_EN b) = w ∧ (∀ c : Fin 20,
    t.eventEnable c = s.eventEnable c) ∧ Frame s t [.rcd] (fun a => a = Reg.BLK_EVT_EN b)) ∧
  (∀ (c : Fin 80) (w : Word) (e : WriteEnv), s.writable = true → ∃ t,
    exec (.registerWrite (BitVec.ofNat 32 (Reg.BIA_STAGE c)) w e) s = .next t ∧ t.rd (Reg.BIA_STAGE c) = w ∧
    t.stageWord c = s.stageWord c ∧ (∀ d : Fin 80, d ≠ c → t.bias[d] = s.bias[d]) ∧
    t.bias[c] = { s.bias[c] with stage := some (s.now, s.stageWord c) } ∧ Frame s t [.bias] (fun a => a = Reg.BIA_STAGE c)) ∧
  (∀ (w : Word) (e : WriteEnv), s.writable = true → ∃ t,
    exec (.registerWrite (BitVec.ofNat 32 Reg.TIM_ADJ_CTL) w e) s = .next t ∧
    t.bit Reg.TIM_ADJ_CTL 0 = (bitOf w.toNat 0 || s.bit Reg.TIM_ADJ_CTL 0) ∧ Frame s t [] (fun a => a = Reg.TIM_ADJ_CTL)) ∧
  (∀ (sp : Fin 32) (w : Word) (e : WriteEnv), s.writable = true → hostSpool sp = false → ∃ t,
    exec (.registerWrite (BitVec.ofNat 32 (Reg.SPL_RING_BASE sp)) w e) s = .next t ∧ Counted s t (Reg.SPL_REFUSE_CNT sp) 1 ∧
    Frame s t [] (fun a => a = Reg.SPL_REFUSE_CNT sp)) ∧
  (∀ (i : Fin 16) (w : Word) (e : WriteEnv), s.writable = true → ∃ t,
    exec (.registerWrite (BitVec.ofNat 32 (Reg.KPR_UNLOCK_RESP i)) w e) s = .next t ∧ t.rd (Reg.KPR_UNLOCK_RESP i) = w ∧
    Frame s t [] (fun a => a = Reg.KPR_UNLOCK_RESP i))

/-- TIM_NS_READ puts the fraction of the nanosecond counter as it stands at that tick into TIM_NS_FRAC, and changes no other
register and no other part of the state (R438). -/
def Obligations.TimNsReadLatchesFraction : Prop := ∀ s : State, s.Canon →
  (∃ t, exec .timNsRead s = .next t ∧ (t.rd Reg.TIM_NS_FRAC).toNat = s.tns % 2 ^ 32 ∧
    Frame s t [] (fun a => a = Reg.TIM_NS_FRAC))

/-- Raising an event, whether it finds room among the waiting events or is lost, counts it in n_evt of BLK_STAT_SUM of its
block, saturating at 255, sets alert for MINOR and above, keeps the worst severity and shows its number, and touches no other
register but the count of lost events. STAT_SUM_READ puts alert, worst and n_evt back at 0, so that the next event counts as the
first (R614). -/
def Obligations.StatSumCountsEveryEvent : Prop := ∀ s : State, s.Canon →
  (∀ (c : Nat) (l : List (Nat × Nat)),
    (s.raise c l).fld (Reg.BLK_STAT_SUM (c / 256)) 23 16 = min 255 (s.fld (Reg.BLK_STAT_SUM (c / 256)) 23 16 + 1) ∧
    (s.raise c l).fld (Reg.BLK_STAT_SUM (c / 256)) 25 24 = max (s.fld (Reg.BLK_STAT_SUM (c / 256)) 25 24) (severity c) ∧
    (s.raise c l).bit (Reg.BLK_STAT_SUM (c / 256)) 31 = (s.bit (Reg.BLK_STAT_SUM (c / 256)) 31 || decide (1 ≤ severity c)) ∧
    (s.raise c l).fld (Reg.BLK_STAT_SUM (c / 256)) 7 0 = c % 256 ∧
    ∀ a,
    a ≠ Reg.BLK_STAT_SUM (c / 256) → a ≠ Reg.KPR_EVT_OVF_CNT → (s.raise c l).rd a = s.rd a) ∧
  (∀ (b : Fin 20), s.mode ≠ .shelf → ∃ t, exec (.statSumRead b) s = .next t ∧ t.fld (Reg.BLK_STAT_SUM b) 23 16 = 0 ∧
    t.fld (Reg.BLK_STAT_SUM b) 25 24 = 0 ∧ t.bit (Reg.BLK_STAT_SUM b) 31 = false ∧
    t.fld (Reg.BLK_STAT_SUM b) 7 0 = s.fld (Reg.BLK_STAT_SUM b) 7 0 ∧ Frame s t [] (fun a => a = Reg.BLK_STAT_SUM b))

/-- For every command c and state s, step of s with c at the front of its queue is exec of c on s with the rest of the queue,
whatever exec answers. -/
def Obligations.StepPerformsTheOldestCommand : Prop :=
  ∀ (c : Instr) (s : State), step { s with pending := c :: s.pending } = exec c s

/-- That an idle step is a tick is the model's choice (DESIGN CHOICE, assumption log: the spec gives a timing clock and no
command for a tick). With no command waiting one step advances the tick count by one; an increment that waits comes in force and
the tick numbering starts again; the nanosecond counter grows by the increment in force, less one fraction LSB on the ticks that
third names, and by a step that waits, modulo 2^32 ns; the step request clears; TIM_GEN counts such a change (R433 to R437), and
the model keeps what the counter read at those changes of the last millisecond. A management strobe of the cycle before loads
its channel's code (R524); a port in TETHER, FRAME or EQUALISE whose frame period has run out begins the next (R372, R373), and
one in TEST sends its pattern (R393); nothing else changes. -/
def Obligations.IdleStepIsOneTick : Prop :=
  ∀ s : State, s.Canon → s.pending = [] → ∃ t, step s = .next t ∧ t.now = s.now + 1 ∧
    (s.tim.incr = none → t.tim = { s.tim with tickNo := (s.tim.tickNo + 1) % 3, history := t.tim.history, views := t.tim.views } ∧ t.rd Reg.TIM_INCR_CTL = s.rd Reg.TIM_INCR_CTL) ∧
    (∀ n f h, s.tim.incr = some (n, f, h) → t.tim = { s.tim with incr := none, frac := f, tickNo := 1, history := t.tim.history, views := t.tim.views } ∧
      t.fld Reg.TIM_INCR_CTL 3 0 = n % 16 ∧ t.fld Reg.TIM_INCR_CTL 9 8 = h % 4) ∧
    t.tim.history = (if s.tim.incr.isSome = true ∨ s.bit Reg.TIM_ADJ_CTL 0 = true then
        s.count :: s.tim.history.filter fun c => s.now - c.tick < 983040 else s.tim.history) ∧
    ((t.tns : Int) = ((s.tns : Int) + (t.fld Reg.TIM_INCR_CTL 3 0 * 2 ^ 32 + t.tim.frac -
        (if t.fld Reg.TIM_INCR_CTL 9 8 = 0 then 0 else if t.fld Reg.TIM_INCR_CTL 9 8 = 1 then (if t.tim.tickNo = 0 then 1 else 0)
          else (if t.tim.tickNo = 1 then 0 else 1)) : Nat) +
        (if s.bit Reg.TIM_ADJ_CTL 0 = true then (s.sfld Reg.TIM_ADJ_NS 31 0 * 65536 + s.fld Reg.TIM_ADJ_FRAC 15 0) * 65536 else 0)) % 2 ^ 64) ∧
    t.bit Reg.TIM_ADJ_CTL 0 = false ∧
    t.fld Reg.TIM_GEN 3 0 = (s.fld Reg.TIM_GEN 3 0 + (if s.tim.incr.isSome = true ∨ s.bit Reg.TIM_ADJ_CTL 0 = true then 1 else 0)) % 16 ∧
    (∀ c : Fin 80, s.bias[c].strobe = none → t.bias[c] = s.bias[c]) ∧
    (∀ (c : Fin 80) (off : Bool), s.bias[c].strobe = some off → t.bias[c].strobe = none ∧
      t.bias[c].target = s.biasCode c (if off = true then fldOf ({ s with now := s.now + 1 }.stageWord c) 31 16
        else fldOf ({ s with now := s.now + 1 }.stageWord c) 15 0)) ∧
    ((∀ u : Fin 2, s.portState u ∉ [1, 2, 3, 8]) → t.out = s.out ∧ t.freeIdx = s.freeIdx ∧ t.pkt = s.pkt) ∧
    (∀ u : Fin 2, s.portState u ∈ [1, 2, 3] → (s.port u).frameAt ≤ s.now + 1 →
      (t.port u).frameSeq = ((s.port u).frameSeq + 1) % 256 ∧ (t.port u).frameAt = s.now + 513) ∧
    (∀ u : Fin 2, s.portState u ∈ [1, 2, 3] → s.now + 1 < (s.port u).frameAt → t.port u = s.port u) ∧
    (∀ u : Fin 2, s.portState u = 8 → ∀ x, (s.port u).test = some x → ∀ l : Fin 9, bitOf x.lanes l = true →
      ∃ bits, Output.line u l bits ∈ t.out ∧ ((t.port u).lanes[l]).lineAt = s.now + 1) ∧
    Frame s t [.now, .tns, .tim, .bias, .pkt, .out, .freeIdx] (fun a => a ∈ [Reg.TIM_INCR_CTL, Reg.TIM_ADJ_CTL, Reg.TIM_GEN])

/-- State.reset has every register at the value that its register map gives as reset and its tables in canonical form; the mode
is BOOT, every quad is GATED with its outputs at the levels of R316, both ports are OFF, no image is loaded, writes are not
open, no command waits, and memory lists nothing (R7, R316, R548, R586, R609). The values of fields that no register shows are
the model's choice (assumption log: State.reset). -/
def Obligations.ResetState : Prop :=
  State.reset.Canon ∧ State.reset.Side ∧ (∀ a, State.reset.rd a = resetWord a) ∧ State.reset.mode = .boot ∧ State.reset.pending = [] ∧
    (∀ q : Fin 16, State.reset.seq.quads[q].st = .gated ∧ State.reset.seq.quads[q].paen = false ∧ State.reset.seq.quads[q].trsw = false ∧
      State.reset.seq.quads[q].lnap = true) ∧
    State.reset.portState 0 = 0 ∧ State.reset.portState 1 = 0 ∧ State.reset.kpr.imageLoaded = false ∧ State.reset.writable = false ∧
    (∀ a, State.reset.memGet a = 0) ∧ State.reset.rd Reg.KPR_MODE = 1 ∧ State.reset.rd Reg.TIM_INCR_FRAC = 0x046AAAAB ∧
    State.reset.fld Reg.TIM_INCR_CTL 3 0 = 1 ∧ State.reset.fld Reg.TIM_INCR_CTL 9 8 = 1

/-- From every state whose registers, memory bytes, memory marks, keeper store and flash are in canonical form (rising keys, no
entry that reads as an unlisted key), a step that answers a next state leaves them so, whatever the command; and the same holds
of the lists that the engines keep by key. Equal contents are therefore equal data after every step. ResetState says that it
holds at reset. -/
def Obligations.EveryStepKeepsTheCanonicalForm : Prop :=
  ∀ s t : State, step s = .next t → (s.Canon → t.Canon) ∧ (s.Side → t.Side)

/-- For every command and every state, in every mode and with every operand, exec answers a next state in which the waiting
commands are those that waited before: no command faults, and none is refused. -/
def Obligations.EveryCommandCompletes : Prop :=
  ∀ (c : Instr) (s : State), ∃ t, exec c s = .next t ∧ t.pending = s.pending
end

