-- ==== Sys2Proof/Laws/Fields.lean ====
section
/-! SUPPORT. The laws of fields of a word: a field that is put is read back, and the other bits stay. -/

namespace Sys2Proof.Machine

/-- A field is narrower than its width. -/
theorem fldOf_lt (w : Word) (hi lo : Nat) : fldOf w hi lo < 2 ^ (hi + 1 - lo) :=
  Nat.mod_lt _ (Nat.two_pow_pos _)

/-- A word as what lies above a field, the field, and what lies below it. -/
theorem word_split (w hi lo : Nat) (h : lo ≤ hi) :
    w = w / 2 ^ (hi + 1) * 2 ^ (hi + 1) + w / 2 ^ lo % 2 ^ (hi + 1 - lo) * 2 ^ lo + w % 2 ^ lo := by
  have e : 2 ^ (hi + 1) = 2 ^ lo * 2 ^ (hi + 1 - lo) := by rw [← pow_add]; congr 1; omega
  have h1 := Nat.div_add_mod w (2 ^ lo)
  have h2 := Nat.div_add_mod (w / 2 ^ lo) (2 ^ (hi + 1 - lo))
  rw [Nat.div_div_eq_div_mul, ← e] at h2
  calc w = 2 ^ lo * (w / 2 ^ lo) + w % 2 ^ lo := h1.symm
    _ = 2 ^ lo * (2 ^ (hi + 1 - lo) * (w / 2 ^ (hi + 1)) + w / 2 ^ lo % 2 ^ (hi + 1 - lo)) + w % 2 ^ lo := by rw [h2]
    _ = _ := by rw [e]; ring

/-- The word with a field put, as a number. -/
theorem putFld_toNat (w : Word) (hi lo v : Nat) (h : lo ≤ hi) (h32 : hi < 32) :
    (putFld w hi lo v).toNat =
      w.toNat / 2 ^ (hi + 1) * 2 ^ (hi + 1) + v % 2 ^ (hi + 1 - lo) * 2 ^ lo + w.toNat % 2 ^ lo := by
  have hs := word_split w.toNat hi lo h
  have hw := w.isLt
  have e : 2 ^ (hi + 1) = 2 ^ (hi + 1 - lo) * 2 ^ lo := by rw [← pow_add]; congr 1; omega
  have hv : v % 2 ^ (hi + 1 - lo) < 2 ^ (hi + 1 - lo) := Nat.mod_lt _ (Nat.two_pow_pos _)
  have hc : w.toNat % 2 ^ lo < 2 ^ lo := Nat.mod_lt _ (Nat.two_pow_pos _)
  have hlt : v % 2 ^ (hi + 1 - lo) * 2 ^ lo + w.toNat % 2 ^ lo < 2 ^ (hi + 1) := by
    rw [e]; nlinarith [Nat.two_pow_pos lo]
  have e32 : 2 ^ 32 = 2 ^ (31 - hi) * 2 ^ (hi + 1) := by rw [← pow_add]; congr 1; omega
  have ha : w.toNat / 2 ^ (hi + 1) < 2 ^ (31 - hi) := by
    rw [Nat.div_lt_iff_lt_mul (Nat.two_pow_pos _), ← e32]; exact hw
  have hsum : w.toNat / 2 ^ (hi + 1) * 2 ^ (hi + 1) + v % 2 ^ (hi + 1 - lo) * 2 ^ lo + w.toNat % 2 ^ lo < 2 ^ 32 := by
    rw [e32]; nlinarith [Nat.two_pow_pos (hi + 1)]
  unfold putFld fldOf
  rw [BitVec.toNat_ofNat]
  rw [Nat.mod_eq_of_lt] <;> omega

/-- A field that was put is read back, as much of it as the field holds. -/
theorem fldOf_putFld_same (w : Word) (hi lo v : Nat) (h : lo ≤ hi) (h32 : hi < 32) :
    fldOf (putFld w hi lo v) hi lo = v % 2 ^ (hi + 1 - lo) := by
  have e : 2 ^ (hi + 1) = 2 ^ (hi + 1 - lo) * 2 ^ lo := by rw [← pow_add]; congr 1; omega
  have hc : w.toNat % 2 ^ lo < 2 ^ lo := Nat.mod_lt _ (Nat.two_pow_pos _)
  rw [fldOf, putFld_toNat w hi lo v h h32]
  have : (w.toNat / 2 ^ (hi + 1) * 2 ^ (hi + 1) + v % 2 ^ (hi + 1 - lo) * 2 ^ lo + w.toNat % 2 ^ lo) / 2 ^ lo =
      v % 2 ^ (hi + 1 - lo) + 2 ^ (hi + 1 - lo) * (w.toNat / 2 ^ (hi + 1)) := by
    rw [show w.toNat / 2 ^ (hi + 1) * 2 ^ (hi + 1) + v % 2 ^ (hi + 1 - lo) * 2 ^ lo + w.toNat % 2 ^ lo =
      w.toNat % 2 ^ lo + 2 ^ lo * (v % 2 ^ (hi + 1 - lo) + 2 ^ (hi + 1 - lo) * (w.toNat / 2 ^ (hi + 1))) by rw [e]; ring]
    rw [Nat.add_mul_div_left _ _ (Nat.two_pow_pos _), Nat.div_eq_of_lt hc, Nat.zero_add]
  rw [this, Nat.add_mul_mod_self_left, Nat.mod_mod]

/-- Fields above the one that was put stay. -/
theorem fldOf_putFld_above (w : Word) (hi lo v : Nat) {hi' lo' : Nat} (h : lo ≤ hi) (h32 : hi < 32) (hd : hi < lo') :
    fldOf (putFld w hi lo v) hi' lo' = fldOf w hi' lo' := by
  have e : 2 ^ (hi + 1) = 2 ^ (hi + 1 - lo) * 2 ^ lo := by rw [← pow_add]; congr 1; omega
  have hv : v % 2 ^ (hi + 1 - lo) < 2 ^ (hi + 1 - lo) := Nat.mod_lt _ (Nat.two_pow_pos _)
  have hc : w.toNat % 2 ^ lo < 2 ^ lo := Nat.mod_lt _ (Nat.two_pow_pos _)
  have hlt : v % 2 ^ (hi + 1 - lo) * 2 ^ lo + w.toNat % 2 ^ lo < 2 ^ (hi + 1) := by
    rw [e]; nlinarith [Nat.two_pow_pos lo]
  have el : 2 ^ lo' = 2 ^ (hi + 1) * 2 ^ (lo' - (hi + 1)) := by rw [← pow_add]; congr 1; omega
  rw [fldOf, fldOf, putFld_toNat w hi lo v h h32, el, ← Nat.div_div_eq_div_mul, ← Nat.div_div_eq_div_mul]
  congr 2
  rw [Nat.add_assoc, Nat.add_comm, Nat.add_mul_div_right _ _ (Nat.two_pow_pos _), Nat.div_eq_of_lt hlt, Nat.zero_add]

/-- Fields below the one that was put stay. -/
theorem fldOf_putFld_below (w : Word) (hi lo v : Nat) {hi' lo' : Nat} (h : lo ≤ hi) (h32 : hi < 32) (hl : lo' ≤ hi') (hd : hi' < lo) :
    fldOf (putFld w hi lo v) hi' lo' = fldOf w hi' lo' := by
  have e1 : 2 ^ lo = 2 ^ lo' * (2 ^ (hi' + 1 - lo') * 2 ^ (lo - (hi' + 1))) := by
    rw [← pow_add, ← pow_add]; congr 1; omega
  have e2 : 2 ^ (hi + 1) = 2 ^ lo * 2 ^ (hi + 1 - lo) := by rw [← pow_add]; congr 1; omega
  have hs := word_split w.toNat hi lo h
  have key : ∀ x y : Nat, (x * 2 ^ (hi + 1) + y * 2 ^ lo + w.toNat % 2 ^ lo) / 2 ^ lo' % 2 ^ (hi' + 1 - lo') =
      w.toNat % 2 ^ lo / 2 ^ lo' % 2 ^ (hi' + 1 - lo') := by
    intro x y
    rw [show x * 2 ^ (hi + 1) + y * 2 ^ lo + w.toNat % 2 ^ lo = w.toNat % 2 ^ lo + 2 ^ lo' *
      (2 ^ (hi' + 1 - lo') * (2 ^ (lo - (hi' + 1)) * (x * 2 ^ (hi + 1 - lo) + y))) by rw [e2, e1]; ring]
    rw [Nat.add_mul_div_left _ _ (Nat.two_pow_pos _), Nat.add_mul_mod_self_left]
  rw [fldOf, fldOf, putFld_toNat w hi lo v h h32, key]
  conv_rhs => rw [hs]
  rw [key]

/-- A field of a word built from a number below 2³². -/
theorem fldOf_ofNat (n hi lo : Nat) (h : n < 2 ^ 32) : fldOf (BitVec.ofNat 32 n) hi lo = n / 2 ^ lo % 2 ^ (hi + 1 - lo) := by
  rw [fldOf, BitVec.toNat_ofNat, Nat.mod_eq_of_lt h]

/-- A saturating count never wraps. -/
theorem satAdd_lt (a b : Nat) : satAdd a b < 2 ^ 32 := by
  unfold satAdd; split <;> omega

end Sys2Proof.Machine
end

