-- ==== Sys2Proof/Laws/State.lean ====
section
/-! SUPPORT. One lemma for each field of the state and each named update of it: the update leaves the field alone. -/

namespace Sys2Proof.Machine

/-! ### Registers and events -/

/-! #### `State.wr` changes `regs` alone -/

@[simp] theorem State.wr_now (s : State) (a : Nat) (w : Word) : (s.wr a w).now = s.now := rfl
@[simp] theorem State.wr_mode (s : State) (a : Nat) (w : Word) : (s.wr a w).mode = s.mode := rfl
@[simp] theorem State.wr_air (s : State) (a : Nat) (w : Word) : (s.wr a w).air = s.air := rfl
@[simp] theorem State.wr_paths (s : State) (a : Nat) (w : Word) : (s.wr a w).paths = s.paths := rfl
@[simp] theorem State.wr_clk (s : State) (a : Nat) (w : Word) : (s.wr a w).clk = s.clk := rfl
@[simp] theorem State.wr_dpd (s : State) (a : Nat) (w : Word) : (s.wr a w).dpd = s.dpd := rfl
@[simp] theorem State.wr_seq (s : State) (a : Nat) (w : Word) : (s.wr a w).seq = s.seq := rfl
@[simp] theorem State.wr_bias (s : State) (a : Nat) (w : Word) : (s.wr a w).bias = s.bias := rfl
@[simp] theorem State.wr_hka (s : State) (a : Nat) (w : Word) : (s.wr a w).hka = s.hka := rfl
@[simp] theorem State.wr_kpr (s : State) (a : Nat) (w : Word) : (s.wr a w).kpr = s.kpr := rfl
@[simp] theorem State.wr_rcd (s : State) (a : Nat) (w : Word) : (s.wr a w).rcd = s.rcd := rfl
@[simp] theorem State.wr_pins (s : State) (a : Nat) (w : Word) : (s.wr a w).pins = s.pins := rfl
@[simp] theorem State.wr_fuses (s : State) (a : Nat) (w : Word) : (s.wr a w).fuses = s.fuses := rfl
@[simp] theorem State.wr_tim (s : State) (a : Nat) (w : Word) : (s.wr a w).tim = s.tim := rfl
@[simp] theorem State.wr_dfe (s : State) (a : Nat) (w : Word) : (s.wr a w).dfe = s.dfe := rfl
@[simp] theorem State.wr_pkt (s : State) (a : Nat) (w : Word) : (s.wr a w).pkt = s.pkt := rfl
@[simp] theorem State.wr_bmx (s : State) (a : Nat) (w : Word) : (s.wr a w).bmx = s.bmx := rfl
@[simp] theorem State.wr_ulr (s : State) (a : Nat) (w : Word) : (s.wr a w).ulr = s.ulr := rfl
@[simp] theorem State.wr_kte (s : State) (a : Nat) (w : Word) : (s.wr a w).kte = s.kte := rfl
@[simp] theorem State.wr_mem (s : State) (a : Nat) (w : Word) : (s.wr a w).mem = s.mem := rfl
@[simp] theorem State.wr_tns (s : State) (a : Nat) (w : Word) : (s.wr a w).tns = s.tns := rfl
@[simp] theorem State.wr_prod (s : State) (a : Nat) (w : Word) : (s.wr a w).prod = s.prod := rfl
@[simp] theorem State.wr_store (s : State) (a : Nat) (w : Word) : (s.wr a w).store = s.store := rfl
@[simp] theorem State.wr_flash (s : State) (a : Nat) (w : Word) : (s.wr a w).flash = s.flash := rfl
@[simp] theorem State.wr_freeIdx (s : State) (a : Nat) (w : Word) : (s.wr a w).freeIdx = s.freeIdx := rfl
@[simp] theorem State.wr_out (s : State) (a : Nat) (w : Word) : (s.wr a w).out = s.out := rfl
@[simp] theorem State.wr_pending (s : State) (a : Nat) (w : Word) : (s.wr a w).pending = s.pending := rfl

/-! #### `State.setFld` changes `regs` alone -/

@[simp] theorem State.setFld_now (s : State) (a hi lo v : Nat) : (s.setFld a hi lo v).now = s.now := rfl
@[simp] theorem State.setFld_mode (s : State) (a hi lo v : Nat) : (s.setFld a hi lo v).mode = s.mode := rfl
@[simp] theorem State.setFld_air (s : State) (a hi lo v : Nat) : (s.setFld a hi lo v).air = s.air := rfl
@[simp] theorem State.setFld_paths (s : State) (a hi lo v : Nat) : (s.setFld a hi lo v).paths = s.paths := rfl
@[simp] theorem State.setFld_clk (s : State) (a hi lo v : Nat) : (s.setFld a hi lo v).clk = s.clk := rfl
@[simp] theorem State.setFld_dpd (s : State) (a hi lo v : Nat) : (s.setFld a hi lo v).dpd = s.dpd := rfl
@[simp] theorem State.setFld_seq (s : State) (a hi lo v : Nat) : (s.setFld a hi lo v).seq = s.seq := rfl
@[simp] theorem State.setFld_bias (s : State) (a hi lo v : Nat) : (s.setFld a hi lo v).bias = s.bias := rfl
@[simp] theorem State.setFld_hka (s : State) (a hi lo v : Nat) : (s.setFld a hi lo v).hka = s.hka := rfl
@[simp] theorem State.setFld_kpr (s : State) (a hi lo v : Nat) : (s.setFld a hi lo v).kpr = s.kpr := rfl
@[simp] theorem State.setFld_rcd (s : State) (a hi lo v : Nat) : (s.setFld a hi lo v).rcd = s.rcd := rfl
@[simp] theorem State.setFld_pins (s : State) (a hi lo v : Nat) : (s.setFld a hi lo v).pins = s.pins := rfl
@[simp] theorem State.setFld_fuses (s : State) (a hi lo v : Nat) : (s.setFld a hi lo v).fuses = s.fuses := rfl
@[simp] theorem State.setFld_tim (s : State) (a hi lo v : Nat) : (s.setFld a hi lo v).tim = s.tim := rfl
@[simp] theorem State.setFld_dfe (s : State) (a hi lo v : Nat) : (s.setFld a hi lo v).dfe = s.dfe := rfl
@[simp] theorem State.setFld_pkt (s : State) (a hi lo v : Nat) : (s.setFld a hi lo v).pkt = s.pkt := rfl
@[simp] theorem State.setFld_bmx (s : State) (a hi lo v : Nat) : (s.setFld a hi lo v).bmx = s.bmx := rfl
@[simp] theorem State.setFld_ulr (s : State) (a hi lo v : Nat) : (s.setFld a hi lo v).ulr = s.ulr := rfl
@[simp] theorem State.setFld_kte (s : State) (a hi lo v : Nat) : (s.setFld a hi lo v).kte = s.kte := rfl
@[simp] theorem State.setFld_mem (s : State) (a hi lo v : Nat) : (s.setFld a hi lo v).mem = s.mem := rfl
@[simp] theorem State.setFld_tns (s : State) (a hi lo v : Nat) : (s.setFld a hi lo v).tns = s.tns := rfl
@[simp] theorem State.setFld_prod (s : State) (a hi lo v : Nat) : (s.setFld a hi lo v).prod = s.prod := rfl
@[simp] theorem State.setFld_store (s : State) (a hi lo v : Nat) : (s.setFld a hi lo v).store = s.store := rfl
@[simp] theorem State.setFld_flash (s : State) (a hi lo v : Nat) : (s.setFld a hi lo v).flash = s.flash := rfl
@[simp] theorem State.setFld_freeIdx (s : State) (a hi lo v : Nat) : (s.setFld a hi lo v).freeIdx = s.freeIdx := rfl
@[simp] theorem State.setFld_out (s : State) (a hi lo v : Nat) : (s.setFld a hi lo v).out = s.out := rfl
@[simp] theorem State.setFld_pending (s : State) (a hi lo v : Nat) : (s.setFld a hi lo v).pending = s.pending := rfl

/-! #### `State.setBit` changes `regs` alone -/

@[simp] theorem State.setBit_now (s : State) (a i : Nat) (b : Bool) : (s.setBit a i b).now = s.now := rfl
@[simp] theorem State.setBit_mode (s : State) (a i : Nat) (b : Bool) : (s.setBit a i b).mode = s.mode := rfl
@[simp] theorem State.setBit_air (s : State) (a i : Nat) (b : Bool) : (s.setBit a i b).air = s.air := rfl
@[simp] theorem State.setBit_paths (s : State) (a i : Nat) (b : Bool) : (s.setBit a i b).paths = s.paths := rfl
@[simp] theorem State.setBit_clk (s : State) (a i : Nat) (b : Bool) : (s.setBit a i b).clk = s.clk := rfl
@[simp] theorem State.setBit_dpd (s : State) (a i : Nat) (b : Bool) : (s.setBit a i b).dpd = s.dpd := rfl
@[simp] theorem State.setBit_seq (s : State) (a i : Nat) (b : Bool) : (s.setBit a i b).seq = s.seq := rfl
@[simp] theorem State.setBit_bias (s : State) (a i : Nat) (b : Bool) : (s.setBit a i b).bias = s.bias := rfl
@[simp] theorem State.setBit_hka (s : State) (a i : Nat) (b : Bool) : (s.setBit a i b).hka = s.hka := rfl
@[simp] theorem State.setBit_kpr (s : State) (a i : Nat) (b : Bool) : (s.setBit a i b).kpr = s.kpr := rfl
@[simp] theorem State.setBit_rcd (s : State) (a i : Nat) (b : Bool) : (s.setBit a i b).rcd = s.rcd := rfl
@[simp] theorem State.setBit_pins (s : State) (a i : Nat) (b : Bool) : (s.setBit a i b).pins = s.pins := rfl
@[simp] theorem State.setBit_fuses (s : State) (a i : Nat) (b : Bool) : (s.setBit a i b).fuses = s.fuses := rfl
@[simp] theorem State.setBit_tim (s : State) (a i : Nat) (b : Bool) : (s.setBit a i b).tim = s.tim := rfl
@[simp] theorem State.setBit_dfe (s : State) (a i : Nat) (b : Bool) : (s.setBit a i b).dfe = s.dfe := rfl
@[simp] theorem State.setBit_pkt (s : State) (a i : Nat) (b : Bool) : (s.setBit a i b).pkt = s.pkt := rfl
@[simp] theorem State.setBit_bmx (s : State) (a i : Nat) (b : Bool) : (s.setBit a i b).bmx = s.bmx := rfl
@[simp] theorem State.setBit_ulr (s : State) (a i : Nat) (b : Bool) : (s.setBit a i b).ulr = s.ulr := rfl
@[simp] theorem State.setBit_kte (s : State) (a i : Nat) (b : Bool) : (s.setBit a i b).kte = s.kte := rfl
@[simp] theorem State.setBit_mem (s : State) (a i : Nat) (b : Bool) : (s.setBit a i b).mem = s.mem := rfl
@[simp] theorem State.setBit_tns (s : State) (a i : Nat) (b : Bool) : (s.setBit a i b).tns = s.tns := rfl
@[simp] theorem State.setBit_prod (s : State) (a i : Nat) (b : Bool) : (s.setBit a i b).prod = s.prod := rfl
@[simp] theorem State.setBit_store (s : State) (a i : Nat) (b : Bool) : (s.setBit a i b).store = s.store := rfl
@[simp] theorem State.setBit_flash (s : State) (a i : Nat) (b : Bool) : (s.setBit a i b).flash = s.flash := rfl
@[simp] theorem State.setBit_freeIdx (s : State) (a i : Nat) (b : Bool) : (s.setBit a i b).freeIdx = s.freeIdx := rfl
@[simp] theorem State.setBit_out (s : State) (a i : Nat) (b : Bool) : (s.setBit a i b).out = s.out := rfl
@[simp] theorem State.setBit_pending (s : State) (a i : Nat) (b : Bool) : (s.setBit a i b).pending = s.pending := rfl

/-! #### `State.bumpBy` changes `regs` alone -/

@[simp] theorem State.bumpBy_now (s : State) (a n : Nat) : (s.bumpBy a n).now = s.now := rfl
@[simp] theorem State.bumpBy_mode (s : State) (a n : Nat) : (s.bumpBy a n).mode = s.mode := rfl
@[simp] theorem State.bumpBy_air (s : State) (a n : Nat) : (s.bumpBy a n).air = s.air := rfl
@[simp] theorem State.bumpBy_paths (s : State) (a n : Nat) : (s.bumpBy a n).paths = s.paths := rfl
@[simp] theorem State.bumpBy_clk (s : State) (a n : Nat) : (s.bumpBy a n).clk = s.clk := rfl
@[simp] theorem State.bumpBy_dpd (s : State) (a n : Nat) : (s.bumpBy a n).dpd = s.dpd := rfl
@[simp] theorem State.bumpBy_seq (s : State) (a n : Nat) : (s.bumpBy a n).seq = s.seq := rfl
@[simp] theorem State.bumpBy_bias (s : State) (a n : Nat) : (s.bumpBy a n).bias = s.bias := rfl
@[simp] theorem State.bumpBy_hka (s : State) (a n : Nat) : (s.bumpBy a n).hka = s.hka := rfl
@[simp] theorem State.bumpBy_kpr (s : State) (a n : Nat) : (s.bumpBy a n).kpr = s.kpr := rfl
@[simp] theorem State.bumpBy_rcd (s : State) (a n : Nat) : (s.bumpBy a n).rcd = s.rcd := rfl
@[simp] theorem State.bumpBy_pins (s : State) (a n : Nat) : (s.bumpBy a n).pins = s.pins := rfl
@[simp] theorem State.bumpBy_fuses (s : State) (a n : Nat) : (s.bumpBy a n).fuses = s.fuses := rfl
@[simp] theorem State.bumpBy_tim (s : State) (a n : Nat) : (s.bumpBy a n).tim = s.tim := rfl
@[simp] theorem State.bumpBy_dfe (s : State) (a n : Nat) : (s.bumpBy a n).dfe = s.dfe := rfl
@[simp] theorem State.bumpBy_pkt (s : State) (a n : Nat) : (s.bumpBy a n).pkt = s.pkt := rfl
@[simp] theorem State.bumpBy_bmx (s : State) (a n : Nat) : (s.bumpBy a n).bmx = s.bmx := rfl
@[simp] theorem State.bumpBy_ulr (s : State) (a n : Nat) : (s.bumpBy a n).ulr = s.ulr := rfl
@[simp] theorem State.bumpBy_kte (s : State) (a n : Nat) : (s.bumpBy a n).kte = s.kte := rfl
@[simp] theorem State.bumpBy_mem (s : State) (a n : Nat) : (s.bumpBy a n).mem = s.mem := rfl
@[simp] theorem State.bumpBy_tns (s : State) (a n : Nat) : (s.bumpBy a n).tns = s.tns := rfl
@[simp] theorem State.bumpBy_prod (s : State) (a n : Nat) : (s.bumpBy a n).prod = s.prod := rfl
@[simp] theorem State.bumpBy_store (s : State) (a n : Nat) : (s.bumpBy a n).store = s.store := rfl
@[simp] theorem State.bumpBy_flash (s : State) (a n : Nat) : (s.bumpBy a n).flash = s.flash := rfl
@[simp] theorem State.bumpBy_freeIdx (s : State) (a n : Nat) : (s.bumpBy a n).freeIdx = s.freeIdx := rfl
@[simp] theorem State.bumpBy_out (s : State) (a n : Nat) : (s.bumpBy a n).out = s.out := rfl
@[simp] theorem State.bumpBy_pending (s : State) (a n : Nat) : (s.bumpBy a n).pending = s.pending := rfl

/-! #### `State.bump` changes `regs` alone -/

@[simp] theorem State.bump_now (s : State) (a : Nat) : (s.bump a).now = s.now := rfl
@[simp] theorem State.bump_mode (s : State) (a : Nat) : (s.bump a).mode = s.mode := rfl
@[simp] theorem State.bump_air (s : State) (a : Nat) : (s.bump a).air = s.air := rfl
@[simp] theorem State.bump_paths (s : State) (a : Nat) : (s.bump a).paths = s.paths := rfl
@[simp] theorem State.bump_clk (s : State) (a : Nat) : (s.bump a).clk = s.clk := rfl
@[simp] theorem State.bump_dpd (s : State) (a : Nat) : (s.bump a).dpd = s.dpd := rfl
@[simp] theorem State.bump_seq (s : State) (a : Nat) : (s.bump a).seq = s.seq := rfl
@[simp] theorem State.bump_bias (s : State) (a : Nat) : (s.bump a).bias = s.bias := rfl
@[simp] theorem State.bump_hka (s : State) (a : Nat) : (s.bump a).hka = s.hka := rfl
@[simp] theorem State.bump_kpr (s : State) (a : Nat) : (s.bump a).kpr = s.kpr := rfl
@[simp] theorem State.bump_rcd (s : State) (a : Nat) : (s.bump a).rcd = s.rcd := rfl
@[simp] theorem State.bump_pins (s : State) (a : Nat) : (s.bump a).pins = s.pins := rfl
@[simp] theorem State.bump_fuses (s : State) (a : Nat) : (s.bump a).fuses = s.fuses := rfl
@[simp] theorem State.bump_tim (s : State) (a : Nat) : (s.bump a).tim = s.tim := rfl
@[simp] theorem State.bump_dfe (s : State) (a : Nat) : (s.bump a).dfe = s.dfe := rfl
@[simp] theorem State.bump_pkt (s : State) (a : Nat) : (s.bump a).pkt = s.pkt := rfl
@[simp] theorem State.bump_bmx (s : State) (a : Nat) : (s.bump a).bmx = s.bmx := rfl
@[simp] theorem State.bump_ulr (s : State) (a : Nat) : (s.bump a).ulr = s.ulr := rfl
@[simp] theorem State.bump_kte (s : State) (a : Nat) : (s.bump a).kte = s.kte := rfl
@[simp] theorem State.bump_mem (s : State) (a : Nat) : (s.bump a).mem = s.mem := rfl
@[simp] theorem State.bump_tns (s : State) (a : Nat) : (s.bump a).tns = s.tns := rfl
@[simp] theorem State.bump_prod (s : State) (a : Nat) : (s.bump a).prod = s.prod := rfl
@[simp] theorem State.bump_store (s : State) (a : Nat) : (s.bump a).store = s.store := rfl
@[simp] theorem State.bump_flash (s : State) (a : Nat) : (s.bump a).flash = s.flash := rfl
@[simp] theorem State.bump_freeIdx (s : State) (a : Nat) : (s.bump a).freeIdx = s.freeIdx := rfl
@[simp] theorem State.bump_out (s : State) (a : Nat) : (s.bump a).out = s.out := rfl
@[simp] theorem State.bump_pending (s : State) (a : Nat) : (s.bump a).pending = s.pending := rfl

/-- Noting an event changes registers alone. -/
theorem State.noteEvent_form (s : State) (c : Nat) : ∃ r, s.noteEvent c = { s with regs := r } := by
  unfold State.noteEvent
  extract_lets a sev s1 s2 s3
  have h1 : ∃ r, s1 = { s with regs := r } := by
    unfold s1; split <;> exact ⟨_, rfl⟩
  obtain ⟨r1, h1⟩ := h1
  have h2 : ∃ r, s2 = { s with regs := r } := by
    unfold s2; rw [h1]; split <;> exact ⟨_, rfl⟩
  obtain ⟨r2, h2⟩ := h2
  have h3 : ∃ r, s3 = { s with regs := r } := by
    unfold s3; rw [h2]; split <;> exact ⟨_, rfl⟩
  obtain ⟨r3, h3⟩ := h3
  exact ⟨_, by rw [h3]; rfl⟩

/-! #### `State.noteEvent` changes `regs` alone -/

@[simp] theorem State.noteEvent_now (s : State) (c : Nat) : (s.noteEvent c).now = s.now := by obtain ⟨r, e⟩ := s.noteEvent_form c; rw [e]
@[simp] theorem State.noteEvent_mode (s : State) (c : Nat) : (s.noteEvent c).mode = s.mode := by obtain ⟨r, e⟩ := s.noteEvent_form c; rw [e]
@[simp] theorem State.noteEvent_air (s : State) (c : Nat) : (s.noteEvent c).air = s.air := by obtain ⟨r, e⟩ := s.noteEvent_form c; rw [e]
@[simp] theorem State.noteEvent_paths (s : State) (c : Nat) : (s.noteEvent c).paths = s.paths := by obtain ⟨r, e⟩ := s.noteEvent_form c; rw [e]
@[simp] theorem State.noteEvent_clk (s : State) (c : Nat) : (s.noteEvent c).clk = s.clk := by obtain ⟨r, e⟩ := s.noteEvent_form c; rw [e]
@[simp] theorem State.noteEvent_dpd (s : State) (c : Nat) : (s.noteEvent c).dpd = s.dpd := by obtain ⟨r, e⟩ := s.noteEvent_form c; rw [e]
@[simp] theorem State.noteEvent_seq (s : State) (c : Nat) : (s.noteEvent c).seq = s.seq := by obtain ⟨r, e⟩ := s.noteEvent_form c; rw [e]
@[simp] theorem State.noteEvent_bias (s : State) (c : Nat) : (s.noteEvent c).bias = s.bias := by obtain ⟨r, e⟩ := s.noteEvent_form c; rw [e]
@[simp] theorem State.noteEvent_hka (s : State) (c : Nat) : (s.noteEvent c).hka = s.hka := by obtain ⟨r, e⟩ := s.noteEvent_form c; rw [e]
@[simp] theorem State.noteEvent_kpr (s : State) (c : Nat) : (s.noteEvent c).kpr = s.kpr := by obtain ⟨r, e⟩ := s.noteEvent_form c; rw [e]
@[simp] theorem State.noteEvent_rcd (s : State) (c : Nat) : (s.noteEvent c).rcd = s.rcd := by obtain ⟨r, e⟩ := s.noteEvent_form c; rw [e]
@[simp] theorem State.noteEvent_pins (s : State) (c : Nat) : (s.noteEvent c).pins = s.pins := by obtain ⟨r, e⟩ := s.noteEvent_form c; rw [e]
@[simp] theorem State.noteEvent_fuses (s : State) (c : Nat) : (s.noteEvent c).fuses = s.fuses := by obtain ⟨r, e⟩ := s.noteEvent_form c; rw [e]
@[simp] theorem State.noteEvent_tim (s : State) (c : Nat) : (s.noteEvent c).tim = s.tim := by obtain ⟨r, e⟩ := s.noteEvent_form c; rw [e]
@[simp] theorem State.noteEvent_dfe (s : State) (c : Nat) : (s.noteEvent c).dfe = s.dfe := by obtain ⟨r, e⟩ := s.noteEvent_form c; rw [e]
@[simp] theorem State.noteEvent_pkt (s : State) (c : Nat) : (s.noteEvent c).pkt = s.pkt := by obtain ⟨r, e⟩ := s.noteEvent_form c; rw [e]
@[simp] theorem State.noteEvent_bmx (s : State) (c : Nat) : (s.noteEvent c).bmx = s.bmx := by obtain ⟨r, e⟩ := s.noteEvent_form c; rw [e]
@[simp] theorem State.noteEvent_ulr (s : State) (c : Nat) : (s.noteEvent c).ulr = s.ulr := by obtain ⟨r, e⟩ := s.noteEvent_form c; rw [e]
@[simp] theorem State.noteEvent_kte (s : State) (c : Nat) : (s.noteEvent c).kte = s.kte := by obtain ⟨r, e⟩ := s.noteEvent_form c; rw [e]
@[simp] theorem State.noteEvent_mem (s : State) (c : Nat) : (s.noteEvent c).mem = s.mem := by obtain ⟨r, e⟩ := s.noteEvent_form c; rw [e]
@[simp] theorem State.noteEvent_tns (s : State) (c : Nat) : (s.noteEvent c).tns = s.tns := by obtain ⟨r, e⟩ := s.noteEvent_form c; rw [e]
@[simp] theorem State.noteEvent_prod (s : State) (c : Nat) : (s.noteEvent c).prod = s.prod := by obtain ⟨r, e⟩ := s.noteEvent_form c; rw [e]
@[simp] theorem State.noteEvent_store (s : State) (c : Nat) : (s.noteEvent c).store = s.store := by obtain ⟨r, e⟩ := s.noteEvent_form c; rw [e]
@[simp] theorem State.noteEvent_flash (s : State) (c : Nat) : (s.noteEvent c).flash = s.flash := by obtain ⟨r, e⟩ := s.noteEvent_form c; rw [e]
@[simp] theorem State.noteEvent_freeIdx (s : State) (c : Nat) : (s.noteEvent c).freeIdx = s.freeIdx := by obtain ⟨r, e⟩ := s.noteEvent_form c; rw [e]
@[simp] theorem State.noteEvent_out (s : State) (c : Nat) : (s.noteEvent c).out = s.out := by obtain ⟨r, e⟩ := s.noteEvent_form c; rw [e]
@[simp] theorem State.noteEvent_pending (s : State) (c : Nat) : (s.noteEvent c).pending = s.pending := by obtain ⟨r, e⟩ := s.noteEvent_form c; rw [e]

/-! #### `State.joinQueue` changes `regs` and `rcd` alone -/

@[simp] theorem State.joinQueue_now (s : State) (e : Event) : (s.joinQueue e).now = s.now := by unfold State.joinQueue; split <;> rfl
@[simp] theorem State.joinQueue_mode (s : State) (e : Event) : (s.joinQueue e).mode = s.mode := by unfold State.joinQueue; split <;> rfl
@[simp] theorem State.joinQueue_air (s : State) (e : Event) : (s.joinQueue e).air = s.air := by unfold State.joinQueue; split <;> rfl
@[simp] theorem State.joinQueue_paths (s : State) (e : Event) : (s.joinQueue e).paths = s.paths := by unfold State.joinQueue; split <;> rfl
@[simp] theorem State.joinQueue_clk (s : State) (e : Event) : (s.joinQueue e).clk = s.clk := by unfold State.joinQueue; split <;> rfl
@[simp] theorem State.joinQueue_dpd (s : State) (e : Event) : (s.joinQueue e).dpd = s.dpd := by unfold State.joinQueue; split <;> rfl
@[simp] theorem State.joinQueue_seq (s : State) (e : Event) : (s.joinQueue e).seq = s.seq := by unfold State.joinQueue; split <;> rfl
@[simp] theorem State.joinQueue_bias (s : State) (e : Event) : (s.joinQueue e).bias = s.bias := by unfold State.joinQueue; split <;> rfl
@[simp] theorem State.joinQueue_hka (s : State) (e : Event) : (s.joinQueue e).hka = s.hka := by unfold State.joinQueue; split <;> rfl
@[simp] theorem State.joinQueue_kpr (s : State) (e : Event) : (s.joinQueue e).kpr = s.kpr := by unfold State.joinQueue; split <;> rfl
@[simp] theorem State.joinQueue_pins (s : State) (e : Event) : (s.joinQueue e).pins = s.pins := by unfold State.joinQueue; split <;> rfl
@[simp] theorem State.joinQueue_fuses (s : State) (e : Event) : (s.joinQueue e).fuses = s.fuses := by unfold State.joinQueue; split <;> rfl
@[simp] theorem State.joinQueue_tim (s : State) (e : Event) : (s.joinQueue e).tim = s.tim := by unfold State.joinQueue; split <;> rfl
@[simp] theorem State.joinQueue_dfe (s : State) (e : Event) : (s.joinQueue e).dfe = s.dfe := by unfold State.joinQueue; split <;> rfl
@[simp] theorem State.joinQueue_pkt (s : State) (e : Event) : (s.joinQueue e).pkt = s.pkt := by unfold State.joinQueue; split <;> rfl
@[simp] theorem State.joinQueue_bmx (s : State) (e : Event) : (s.joinQueue e).bmx = s.bmx := by unfold State.joinQueue; split <;> rfl
@[simp] theorem State.joinQueue_ulr (s : State) (e : Event) : (s.joinQueue e).ulr = s.ulr := by unfold State.joinQueue; split <;> rfl
@[simp] theorem State.joinQueue_kte (s : State) (e : Event) : (s.joinQueue e).kte = s.kte := by unfold State.joinQueue; split <;> rfl
@[simp] theorem State.joinQueue_mem (s : State) (e : Event) : (s.joinQueue e).mem = s.mem := by unfold State.joinQueue; split <;> rfl
@[simp] theorem State.joinQueue_tns (s : State) (e : Event) : (s.joinQueue e).tns = s.tns := by unfold State.joinQueue; split <;> rfl
@[simp] theorem State.joinQueue_prod (s : State) (e : Event) : (s.joinQueue e).prod = s.prod := by unfold State.joinQueue; split <;> rfl
@[simp] theorem State.joinQueue_store (s : State) (e : Event) : (s.joinQueue e).store = s.store := by unfold State.joinQueue; split <;> rfl
@[simp] theorem State.joinQueue_flash (s : State) (e : Event) : (s.joinQueue e).flash = s.flash := by unfold State.joinQueue; split <;> rfl
@[simp] theorem State.joinQueue_freeIdx (s : State) (e : Event) : (s.joinQueue e).freeIdx = s.freeIdx := by unfold State.joinQueue; split <;> rfl
@[simp] theorem State.joinQueue_out (s : State) (e : Event) : (s.joinQueue e).out = s.out := by unfold State.joinQueue; split <;> rfl
@[simp] theorem State.joinQueue_pending (s : State) (e : Event) : (s.joinQueue e).pending = s.pending := by unfold State.joinQueue; split <;> rfl

/-! #### `State.raiseEvent` changes `regs` and `rcd` alone -/

@[simp] theorem State.raiseEvent_now (s : State) (e : Event) : (s.raiseEvent e).now = s.now := by rw [State.raiseEvent, State.joinQueue_now, State.noteEvent_now]
@[simp] theorem State.raiseEvent_mode (s : State) (e : Event) : (s.raiseEvent e).mode = s.mode := by rw [State.raiseEvent, State.joinQueue_mode, State.noteEvent_mode]
@[simp] theorem State.raiseEvent_air (s : State) (e : Event) : (s.raiseEvent e).air = s.air := by rw [State.raiseEvent, State.joinQueue_air, State.noteEvent_air]
@[simp] theorem State.raiseEvent_paths (s : State) (e : Event) : (s.raiseEvent e).paths = s.paths := by rw [State.raiseEvent, State.joinQueue_paths, State.noteEvent_paths]
@[simp] theorem State.raiseEvent_clk (s : State) (e : Event) : (s.raiseEvent e).clk = s.clk := by rw [State.raiseEvent, State.joinQueue_clk, State.noteEvent_clk]
@[simp] theorem State.raiseEvent_dpd (s : State) (e : Event) : (s.raiseEvent e).dpd = s.dpd := by rw [State.raiseEvent, State.joinQueue_dpd, State.noteEvent_dpd]
@[simp] theorem State.raiseEvent_seq (s : State) (e : Event) : (s.raiseEvent e).seq = s.seq := by rw [State.raiseEvent, State.joinQueue_seq, State.noteEvent_seq]
@[simp] theorem State.raiseEvent_bias (s : State) (e : Event) : (s.raiseEvent e).bias = s.bias := by rw [State.raiseEvent, State.joinQueue_bias, State.noteEvent_bias]
@[simp] theorem State.raiseEvent_hka (s : State) (e : Event) : (s.raiseEvent e).hka = s.hka := by rw [State.raiseEvent, State.joinQueue_hka, State.noteEvent_hka]
@[simp] theorem State.raiseEvent_kpr (s : State) (e : Event) : (s.raiseEvent e).kpr = s.kpr := by rw [State.raiseEvent, State.joinQueue_kpr, State.noteEvent_kpr]
@[simp] theorem State.raiseEvent_pins (s : State) (e : Event) : (s.raiseEvent e).pins = s.pins := by rw [State.raiseEvent, State.joinQueue_pins, State.noteEvent_pins]
@[simp] theorem State.raiseEvent_fuses (s : State) (e : Event) : (s.raiseEvent e).fuses = s.fuses := by rw [State.raiseEvent, State.joinQueue_fuses, State.noteEvent_fuses]
@[simp] theorem State.raiseEvent_tim (s : State) (e : Event) : (s.raiseEvent e).tim = s.tim := by rw [State.raiseEvent, State.joinQueue_tim, State.noteEvent_tim]
@[simp] theorem State.raiseEvent_dfe (s : State) (e : Event) : (s.raiseEvent e).dfe = s.dfe := by rw [State.raiseEvent, State.joinQueue_dfe, State.noteEvent_dfe]
@[simp] theorem State.raiseEvent_pkt (s : State) (e : Event) : (s.raiseEvent e).pkt = s.pkt := by rw [State.raiseEvent, State.joinQueue_pkt, State.noteEvent_pkt]
@[simp] theorem State.raiseEvent_bmx (s : State) (e : Event) : (s.raiseEvent e).bmx = s.bmx := by rw [State.raiseEvent, State.joinQueue_bmx, State.noteEvent_bmx]
@[simp] theorem State.raiseEvent_ulr (s : State) (e : Event) : (s.raiseEvent e).ulr = s.ulr := by rw [State.raiseEvent, State.joinQueue_ulr, State.noteEvent_ulr]
@[simp] theorem State.raiseEvent_kte (s : State) (e : Event) : (s.raiseEvent e).kte = s.kte := by rw [State.raiseEvent, State.joinQueue_kte, State.noteEvent_kte]
@[simp] theorem State.raiseEvent_mem (s : State) (e : Event) : (s.raiseEvent e).mem = s.mem := by rw [State.raiseEvent, State.joinQueue_mem, State.noteEvent_mem]
@[simp] theorem State.raiseEvent_tns (s : State) (e : Event) : (s.raiseEvent e).tns = s.tns := by rw [State.raiseEvent, State.joinQueue_tns, State.noteEvent_tns]
@[simp] theorem State.raiseEvent_prod (s : State) (e : Event) : (s.raiseEvent e).prod = s.prod := by rw [State.raiseEvent, State.joinQueue_prod, State.noteEvent_prod]
@[simp] theorem State.raiseEvent_store (s : State) (e : Event) : (s.raiseEvent e).store = s.store := by rw [State.raiseEvent, State.joinQueue_store, State.noteEvent_store]
@[simp] theorem State.raiseEvent_flash (s : State) (e : Event) : (s.raiseEvent e).flash = s.flash := by rw [State.raiseEvent, State.joinQueue_flash, State.noteEvent_flash]
@[simp] theorem State.raiseEvent_freeIdx (s : State) (e : Event) : (s.raiseEvent e).freeIdx = s.freeIdx := by rw [State.raiseEvent, State.joinQueue_freeIdx, State.noteEvent_freeIdx]
@[simp] theorem State.raiseEvent_out (s : State) (e : Event) : (s.raiseEvent e).out = s.out := by rw [State.raiseEvent, State.joinQueue_out, State.noteEvent_out]
@[simp] theorem State.raiseEvent_pending (s : State) (e : Event) : (s.raiseEvent e).pending = s.pending := by rw [State.raiseEvent, State.joinQueue_pending, State.noteEvent_pending]

/-! #### `State.raise` changes `regs` and `rcd` alone -/

@[simp] theorem State.raise_now (s : State) (c : Nat) (l : List (Nat × Nat)) : (s.raise c l).now = s.now := by rw [State.raise]; exact s.raiseEvent_now _
@[simp] theorem State.raise_mode (s : State) (c : Nat) (l : List (Nat × Nat)) : (s.raise c l).mode = s.mode := by rw [State.raise]; exact s.raiseEvent_mode _
@[simp] theorem State.raise_air (s : State) (c : Nat) (l : List (Nat × Nat)) : (s.raise c l).air = s.air := by rw [State.raise]; exact s.raiseEvent_air _
@[simp] theorem State.raise_paths (s : State) (c : Nat) (l : List (Nat × Nat)) : (s.raise c l).paths = s.paths := by rw [State.raise]; exact s.raiseEvent_paths _
@[simp] theorem State.raise_clk (s : State) (c : Nat) (l : List (Nat × Nat)) : (s.raise c l).clk = s.clk := by rw [State.raise]; exact s.raiseEvent_clk _
@[simp] theorem State.raise_dpd (s : State) (c : Nat) (l : List (Nat × Nat)) : (s.raise c l).dpd = s.dpd := by rw [State.raise]; exact s.raiseEvent_dpd _
@[simp] theorem State.raise_seq (s : State) (c : Nat) (l : List (Nat × Nat)) : (s.raise c l).seq = s.seq := by rw [State.raise]; exact s.raiseEvent_seq _
@[simp] theorem State.raise_bias (s : State) (c : Nat) (l : List (Nat × Nat)) : (s.raise c l).bias = s.bias := by rw [State.raise]; exact s.raiseEvent_bias _
@[simp] theorem State.raise_hka (s : State) (c : Nat) (l : List (Nat × Nat)) : (s.raise c l).hka = s.hka := by rw [State.raise]; exact s.raiseEvent_hka _
@[simp] theorem State.raise_kpr (s : State) (c : Nat) (l : List (Nat × Nat)) : (s.raise c l).kpr = s.kpr := by rw [State.raise]; exact s.raiseEvent_kpr _
@[simp] theorem State.raise_pins (s : State) (c : Nat) (l : List (Nat × Nat)) : (s.raise c l).pins = s.pins := by rw [State.raise]; exact s.raiseEvent_pins _
@[simp] theorem State.raise_fuses (s : State) (c : Nat) (l : List (Nat × Nat)) : (s.raise c l).fuses = s.fuses := by rw [State.raise]; exact s.raiseEvent_fuses _
@[simp] theorem State.raise_tim (s : State) (c : Nat) (l : List (Nat × Nat)) : (s.raise c l).tim = s.tim := by rw [State.raise]; exact s.raiseEvent_tim _
@[simp] theorem State.raise_dfe (s : State) (c : Nat) (l : List (Nat × Nat)) : (s.raise c l).dfe = s.dfe := by rw [State.raise]; exact s.raiseEvent_dfe _
@[simp] theorem State.raise_pkt (s : State) (c : Nat) (l : List (Nat × Nat)) : (s.raise c l).pkt = s.pkt := by rw [State.raise]; exact s.raiseEvent_pkt _
@[simp] theorem State.raise_bmx (s : State) (c : Nat) (l : List (Nat × Nat)) : (s.raise c l).bmx = s.bmx := by rw [State.raise]; exact s.raiseEvent_bmx _
@[simp] theorem State.raise_ulr (s : State) (c : Nat) (l : List (Nat × Nat)) : (s.raise c l).ulr = s.ulr := by rw [State.raise]; exact s.raiseEvent_ulr _
@[simp] theorem State.raise_kte (s : State) (c : Nat) (l : List (Nat × Nat)) : (s.raise c l).kte = s.kte := by rw [State.raise]; exact s.raiseEvent_kte _
@[simp] theorem State.raise_mem (s : State) (c : Nat) (l : List (Nat × Nat)) : (s.raise c l).mem = s.mem := by rw [State.raise]; exact s.raiseEvent_mem _
@[simp] theorem State.raise_tns (s : State) (c : Nat) (l : List (Nat × Nat)) : (s.raise c l).tns = s.tns := by rw [State.raise]; exact s.raiseEvent_tns _
@[simp] theorem State.raise_prod (s : State) (c : Nat) (l : List (Nat × Nat)) : (s.raise c l).prod = s.prod := by rw [State.raise]; exact s.raiseEvent_prod _
@[simp] theorem State.raise_store (s : State) (c : Nat) (l : List (Nat × Nat)) : (s.raise c l).store = s.store := by rw [State.raise]; exact s.raiseEvent_store _
@[simp] theorem State.raise_flash (s : State) (c : Nat) (l : List (Nat × Nat)) : (s.raise c l).flash = s.flash := by rw [State.raise]; exact s.raiseEvent_flash _
@[simp] theorem State.raise_freeIdx (s : State) (c : Nat) (l : List (Nat × Nat)) : (s.raise c l).freeIdx = s.freeIdx := by rw [State.raise]; exact s.raiseEvent_freeIdx _
@[simp] theorem State.raise_out (s : State) (c : Nat) (l : List (Nat × Nat)) : (s.raise c l).out = s.out := by rw [State.raise]; exact s.raiseEvent_out _
@[simp] theorem State.raise_pending (s : State) (c : Nat) (l : List (Nat × Nat)) : (s.raise c l).pending = s.pending := by rw [State.raise]; exact s.raiseEvent_pending _

/-! #### `State.raiseEffect` changes `regs` and `rcd` alone -/

@[simp] theorem State.raiseEffect_now (s : State) (c : Nat) (l : List (Nat × Nat)) : (s.raiseEffect c l).now = s.now := by rw [State.raiseEffect]; exact s.raiseEvent_now _
@[simp] theorem State.raiseEffect_mode (s : State) (c : Nat) (l : List (Nat × Nat)) : (s.raiseEffect c l).mode = s.mode := by rw [State.raiseEffect]; exact s.raiseEvent_mode _
@[simp] theorem State.raiseEffect_air (s : State) (c : Nat) (l : List (Nat × Nat)) : (s.raiseEffect c l).air = s.air := by rw [State.raiseEffect]; exact s.raiseEvent_air _
@[simp] theorem State.raiseEffect_paths (s : State) (c : Nat) (l : List (Nat × Nat)) : (s.raiseEffect c l).paths = s.paths := by rw [State.raiseEffect]; exact s.raiseEvent_paths _
@[simp] theorem State.raiseEffect_clk (s : State) (c : Nat) (l : List (Nat × Nat)) : (s.raiseEffect c l).clk = s.clk := by rw [State.raiseEffect]; exact s.raiseEvent_clk _
@[simp] theorem State.raiseEffect_dpd (s : State) (c : Nat) (l : List (Nat × Nat)) : (s.raiseEffect c l).dpd = s.dpd := by rw [State.raiseEffect]; exact s.raiseEvent_dpd _
@[simp] theorem State.raiseEffect_seq (s : State) (c : Nat) (l : List (Nat × Nat)) : (s.raiseEffect c l).seq = s.seq := by rw [State.raiseEffect]; exact s.raiseEvent_seq _
@[simp] theorem State.raiseEffect_bias (s : State) (c : Nat) (l : List (Nat × Nat)) : (s.raiseEffect c l).bias = s.bias := by rw [State.raiseEffect]; exact s.raiseEvent_bias _
@[simp] theorem State.raiseEffect_hka (s : State) (c : Nat) (l : List (Nat × Nat)) : (s.raiseEffect c l).hka = s.hka := by rw [State.raiseEffect]; exact s.raiseEvent_hka _
@[simp] theorem State.raiseEffect_kpr (s : State) (c : Nat) (l : List (Nat × Nat)) : (s.raiseEffect c l).kpr = s.kpr := by rw [State.raiseEffect]; exact s.raiseEvent_kpr _
@[simp] theorem State.raiseEffect_pins (s : State) (c : Nat) (l : List (Nat × Nat)) : (s.raiseEffect c l).pins = s.pins := by rw [State.raiseEffect]; exact s.raiseEvent_pins _
@[simp] theorem State.raiseEffect_fuses (s : State) (c : Nat) (l : List (Nat × Nat)) : (s.raiseEffect c l).fuses = s.fuses := by rw [State.raiseEffect]; exact s.raiseEvent_fuses _
@[simp] theorem State.raiseEffect_tim (s : State) (c : Nat) (l : List (Nat × Nat)) : (s.raiseEffect c l).tim = s.tim := by rw [State.raiseEffect]; exact s.raiseEvent_tim _
@[simp] theorem State.raiseEffect_dfe (s : State) (c : Nat) (l : List (Nat × Nat)) : (s.raiseEffect c l).dfe = s.dfe := by rw [State.raiseEffect]; exact s.raiseEvent_dfe _
@[simp] theorem State.raiseEffect_pkt (s : State) (c : Nat) (l : List (Nat × Nat)) : (s.raiseEffect c l).pkt = s.pkt := by rw [State.raiseEffect]; exact s.raiseEvent_pkt _
@[simp] theorem State.raiseEffect_bmx (s : State) (c : Nat) (l : List (Nat × Nat)) : (s.raiseEffect c l).bmx = s.bmx := by rw [State.raiseEffect]; exact s.raiseEvent_bmx _
@[simp] theorem State.raiseEffect_ulr (s : State) (c : Nat) (l : List (Nat × Nat)) : (s.raiseEffect c l).ulr = s.ulr := by rw [State.raiseEffect]; exact s.raiseEvent_ulr _
@[simp] theorem State.raiseEffect_kte (s : State) (c : Nat) (l : List (Nat × Nat)) : (s.raiseEffect c l).kte = s.kte := by rw [State.raiseEffect]; exact s.raiseEvent_kte _
@[simp] theorem State.raiseEffect_mem (s : State) (c : Nat) (l : List (Nat × Nat)) : (s.raiseEffect c l).mem = s.mem := by rw [State.raiseEffect]; exact s.raiseEvent_mem _
@[simp] theorem State.raiseEffect_tns (s : State) (c : Nat) (l : List (Nat × Nat)) : (s.raiseEffect c l).tns = s.tns := by rw [State.raiseEffect]; exact s.raiseEvent_tns _
@[simp] theorem State.raiseEffect_prod (s : State) (c : Nat) (l : List (Nat × Nat)) : (s.raiseEffect c l).prod = s.prod := by rw [State.raiseEffect]; exact s.raiseEvent_prod _
@[simp] theorem State.raiseEffect_store (s : State) (c : Nat) (l : List (Nat × Nat)) : (s.raiseEffect c l).store = s.store := by rw [State.raiseEffect]; exact s.raiseEvent_store _
@[simp] theorem State.raiseEffect_flash (s : State) (c : Nat) (l : List (Nat × Nat)) : (s.raiseEffect c l).flash = s.flash := by rw [State.raiseEffect]; exact s.raiseEvent_flash _
@[simp] theorem State.raiseEffect_freeIdx (s : State) (c : Nat) (l : List (Nat × Nat)) : (s.raiseEffect c l).freeIdx = s.freeIdx := by rw [State.raiseEffect]; exact s.raiseEvent_freeIdx _
@[simp] theorem State.raiseEffect_out (s : State) (c : Nat) (l : List (Nat × Nat)) : (s.raiseEffect c l).out = s.out := by rw [State.raiseEffect]; exact s.raiseEvent_out _
@[simp] theorem State.raiseEffect_pending (s : State) (c : Nat) (l : List (Nat × Nat)) : (s.raiseEffect c l).pending = s.pending := by rw [State.raiseEffect]; exact s.raiseEvent_pending _

/-! #### `State.setPath` changes `paths` alone -/

@[simp] theorem State.setPath_regs (s : State) (p : Fin 64) (f : PathSt → PathSt) : (s.setPath p f).regs = s.regs := rfl
@[simp] theorem State.setPath_now (s : State) (p : Fin 64) (f : PathSt → PathSt) : (s.setPath p f).now = s.now := rfl
@[simp] theorem State.setPath_mode (s : State) (p : Fin 64) (f : PathSt → PathSt) : (s.setPath p f).mode = s.mode := rfl
@[simp] theorem State.setPath_air (s : State) (p : Fin 64) (f : PathSt → PathSt) : (s.setPath p f).air = s.air := rfl
@[simp] theorem State.setPath_clk (s : State) (p : Fin 64) (f : PathSt → PathSt) : (s.setPath p f).clk = s.clk := rfl
@[simp] theorem State.setPath_dpd (s : State) (p : Fin 64) (f : PathSt → PathSt) : (s.setPath p f).dpd = s.dpd := rfl
@[simp] theorem State.setPath_seq (s : State) (p : Fin 64) (f : PathSt → PathSt) : (s.setPath p f).seq = s.seq := rfl
@[simp] theorem State.setPath_bias (s : State) (p : Fin 64) (f : PathSt → PathSt) : (s.setPath p f).bias = s.bias := rfl
@[simp] theorem State.setPath_hka (s : State) (p : Fin 64) (f : PathSt → PathSt) : (s.setPath p f).hka = s.hka := rfl
@[simp] theorem State.setPath_kpr (s : State) (p : Fin 64) (f : PathSt → PathSt) : (s.setPath p f).kpr = s.kpr := rfl
@[simp] theorem State.setPath_rcd (s : State) (p : Fin 64) (f : PathSt → PathSt) : (s.setPath p f).rcd = s.rcd := rfl
@[simp] theorem State.setPath_pins (s : State) (p : Fin 64) (f : PathSt → PathSt) : (s.setPath p f).pins = s.pins := rfl
@[simp] theorem State.setPath_fuses (s : State) (p : Fin 64) (f : PathSt → PathSt) : (s.setPath p f).fuses = s.fuses := rfl
@[simp] theorem State.setPath_tim (s : State) (p : Fin 64) (f : PathSt → PathSt) : (s.setPath p f).tim = s.tim := rfl
@[simp] theorem State.setPath_dfe (s : State) (p : Fin 64) (f : PathSt → PathSt) : (s.setPath p f).dfe = s.dfe := rfl
@[simp] theorem State.setPath_pkt (s : State) (p : Fin 64) (f : PathSt → PathSt) : (s.setPath p f).pkt = s.pkt := rfl
@[simp] theorem State.setPath_bmx (s : State) (p : Fin 64) (f : PathSt → PathSt) : (s.setPath p f).bmx = s.bmx := rfl
@[simp] theorem State.setPath_ulr (s : State) (p : Fin 64) (f : PathSt → PathSt) : (s.setPath p f).ulr = s.ulr := rfl
@[simp] theorem State.setPath_kte (s : State) (p : Fin 64) (f : PathSt → PathSt) : (s.setPath p f).kte = s.kte := rfl
@[simp] theorem State.setPath_mem (s : State) (p : Fin 64) (f : PathSt → PathSt) : (s.setPath p f).mem = s.mem := rfl
@[simp] theorem State.setPath_tns (s : State) (p : Fin 64) (f : PathSt → PathSt) : (s.setPath p f).tns = s.tns := rfl
@[simp] theorem State.setPath_prod (s : State) (p : Fin 64) (f : PathSt → PathSt) : (s.setPath p f).prod = s.prod := rfl
@[simp] theorem State.setPath_store (s : State) (p : Fin 64) (f : PathSt → PathSt) : (s.setPath p f).store = s.store := rfl
@[simp] theorem State.setPath_flash (s : State) (p : Fin 64) (f : PathSt → PathSt) : (s.setPath p f).flash = s.flash := rfl
@[simp] theorem State.setPath_freeIdx (s : State) (p : Fin 64) (f : PathSt → PathSt) : (s.setPath p f).freeIdx = s.freeIdx := rfl
@[simp] theorem State.setPath_out (s : State) (p : Fin 64) (f : PathSt → PathSt) : (s.setPath p f).out = s.out := rfl
@[simp] theorem State.setPath_pending (s : State) (p : Fin 64) (f : PathSt → PathSt) : (s.setPath p f).pending = s.pending := rfl
@[simp] theorem State.setPath_rd (s : State) (p : Fin 64) (f : PathSt → PathSt) (x : Nat) : (s.setPath p f).rd x = s.rd x := rfl

/-! #### `State.setQuad` changes `seq` alone -/

@[simp] theorem State.setQuad_regs (s : State) (q : Fin 16) (f : Quad → Quad) : (s.setQuad q f).regs = s.regs := rfl
@[simp] theorem State.setQuad_now (s : State) (q : Fin 16) (f : Quad → Quad) : (s.setQuad q f).now = s.now := rfl
@[simp] theorem State.setQuad_mode (s : State) (q : Fin 16) (f : Quad → Quad) : (s.setQuad q f).mode = s.mode := rfl
@[simp] theorem State.setQuad_air (s : State) (q : Fin 16) (f : Quad → Quad) : (s.setQuad q f).air = s.air := rfl
@[simp] theorem State.setQuad_paths (s : State) (q : Fin 16) (f : Quad → Quad) : (s.setQuad q f).paths = s.paths := rfl
@[simp] theorem State.setQuad_clk (s : State) (q : Fin 16) (f : Quad → Quad) : (s.setQuad q f).clk = s.clk := rfl
@[simp] theorem State.setQuad_dpd (s : State) (q : Fin 16) (f : Quad → Quad) : (s.setQuad q f).dpd = s.dpd := rfl
@[simp] theorem State.setQuad_bias (s : State) (q : Fin 16) (f : Quad → Quad) : (s.setQuad q f).bias = s.bias := rfl
@[simp] theorem State.setQuad_hka (s : State) (q : Fin 16) (f : Quad → Quad) : (s.setQuad q f).hka = s.hka := rfl
@[simp] theorem State.setQuad_kpr (s : State) (q : Fin 16) (f : Quad → Quad) : (s.setQuad q f).kpr = s.kpr := rfl
@[simp] theorem State.setQuad_rcd (s : State) (q : Fin 16) (f : Quad → Quad) : (s.setQuad q f).rcd = s.rcd := rfl
@[simp] theorem State.setQuad_pins (s : State) (q : Fin 16) (f : Quad → Quad) : (s.setQuad q f).pins = s.pins := rfl
@[simp] theorem State.setQuad_fuses (s : State) (q : Fin 16) (f : Quad → Quad) : (s.setQuad q f).fuses = s.fuses := rfl
@[simp] theorem State.setQuad_tim (s : State) (q : Fin 16) (f : Quad → Quad) : (s.setQuad q f).tim = s.tim := rfl
@[simp] theorem State.setQuad_dfe (s : State) (q : Fin 16) (f : Quad → Quad) : (s.setQuad q f).dfe = s.dfe := rfl
@[simp] theorem State.setQuad_pkt (s : State) (q : Fin 16) (f : Quad → Quad) : (s.setQuad q f).pkt = s.pkt := rfl
@[simp] theorem State.setQuad_bmx (s : State) (q : Fin 16) (f : Quad → Quad) : (s.setQuad q f).bmx = s.bmx := rfl
@[simp] theorem State.setQuad_ulr (s : State) (q : Fin 16) (f : Quad → Quad) : (s.setQuad q f).ulr = s.ulr := rfl
@[simp] theorem State.setQuad_kte (s : State) (q : Fin 16) (f : Quad → Quad) : (s.setQuad q f).kte = s.kte := rfl
@[simp] theorem State.setQuad_mem (s : State) (q : Fin 16) (f : Quad → Quad) : (s.setQuad q f).mem = s.mem := rfl
@[simp] theorem State.setQuad_tns (s : State) (q : Fin 16) (f : Quad → Quad) : (s.setQuad q f).tns = s.tns := rfl
@[simp] theorem State.setQuad_prod (s : State) (q : Fin 16) (f : Quad → Quad) : (s.setQuad q f).prod = s.prod := rfl
@[simp] theorem State.setQuad_store (s : State) (q : Fin 16) (f : Quad → Quad) : (s.setQuad q f).store = s.store := rfl
@[simp] theorem State.setQuad_flash (s : State) (q : Fin 16) (f : Quad → Quad) : (s.setQuad q f).flash = s.flash := rfl
@[simp] theorem State.setQuad_freeIdx (s : State) (q : Fin 16) (f : Quad → Quad) : (s.setQuad q f).freeIdx = s.freeIdx := rfl
@[simp] theorem State.setQuad_out (s : State) (q : Fin 16) (f : Quad → Quad) : (s.setQuad q f).out = s.out := rfl
@[simp] theorem State.setQuad_pending (s : State) (q : Fin 16) (f : Quad → Quad) : (s.setQuad q f).pending = s.pending := rfl
@[simp] theorem State.setQuad_rd (s : State) (q : Fin 16) (f : Quad → Quad) (x : Nat) : (s.setQuad q f).rd x = s.rd x := rfl

/-! #### `State.setBias` changes `bias` alone -/

@[simp] theorem State.setBias_regs (s : State) (c : Fin 80) (f : BiasCh → BiasCh) : (s.setBias c f).regs = s.regs := rfl
@[simp] theorem State.setBias_now (s : State) (c : Fin 80) (f : BiasCh → BiasCh) : (s.setBias c f).now = s.now := rfl
@[simp] theorem State.setBias_mode (s : State) (c : Fin 80) (f : BiasCh → BiasCh) : (s.setBias c f).mode = s.mode := rfl
@[simp] theorem State.setBias_air (s : State) (c : Fin 80) (f : BiasCh → BiasCh) : (s.setBias c f).air = s.air := rfl
@[simp] theorem State.setBias_paths (s : State) (c : Fin 80) (f : BiasCh → BiasCh) : (s.setBias c f).paths = s.paths := rfl
@[simp] theorem State.setBias_clk (s : State) (c : Fin 80) (f : BiasCh → BiasCh) : (s.setBias c f).clk = s.clk := rfl
@[simp] theorem State.setBias_dpd (s : State) (c : Fin 80) (f : BiasCh → BiasCh) : (s.setBias c f).dpd = s.dpd := rfl
@[simp] theorem State.setBias_seq (s : State) (c : Fin 80) (f : BiasCh → BiasCh) : (s.setBias c f).seq = s.seq := rfl
@[simp] theorem State.setBias_hka (s : State) (c : Fin 80) (f : BiasCh → BiasCh) : (s.setBias c f).hka = s.hka := rfl
@[simp] theorem State.setBias_kpr (s : State) (c : Fin 80) (f : BiasCh → BiasCh) : (s.setBias c f).kpr = s.kpr := rfl
@[simp] theorem State.setBias_rcd (s : State) (c : Fin 80) (f : BiasCh → BiasCh) : (s.setBias c f).rcd = s.rcd := rfl
@[simp] theorem State.setBias_pins (s : State) (c : Fin 80) (f : BiasCh → BiasCh) : (s.setBias c f).pins = s.pins := rfl
@[simp] theorem State.setBias_fuses (s : State) (c : Fin 80) (f : BiasCh → BiasCh) : (s.setBias c f).fuses = s.fuses := rfl
@[simp] theorem State.setBias_tim (s : State) (c : Fin 80) (f : BiasCh → BiasCh) : (s.setBias c f).tim = s.tim := rfl
@[simp] theorem State.setBias_dfe (s : State) (c : Fin 80) (f : BiasCh → BiasCh) : (s.setBias c f).dfe = s.dfe := rfl
@[simp] theorem State.setBias_pkt (s : State) (c : Fin 80) (f : BiasCh → BiasCh) : (s.setBias c f).pkt = s.pkt := rfl
@[simp] theorem State.setBias_bmx (s : State) (c : Fin 80) (f : BiasCh → BiasCh) : (s.setBias c f).bmx = s.bmx := rfl
@[simp] theorem State.setBias_ulr (s : State) (c : Fin 80) (f : BiasCh → BiasCh) : (s.setBias c f).ulr = s.ulr := rfl
@[simp] theorem State.setBias_kte (s : State) (c : Fin 80) (f : BiasCh → BiasCh) : (s.setBias c f).kte = s.kte := rfl
@[simp] theorem State.setBias_mem (s : State) (c : Fin 80) (f : BiasCh → BiasCh) : (s.setBias c f).mem = s.mem := rfl
@[simp] theorem State.setBias_tns (s : State) (c : Fin 80) (f : BiasCh → BiasCh) : (s.setBias c f).tns = s.tns := rfl
@[simp] theorem State.setBias_prod (s : State) (c : Fin 80) (f : BiasCh → BiasCh) : (s.setBias c f).prod = s.prod := rfl
@[simp] theorem State.setBias_store (s : State) (c : Fin 80) (f : BiasCh → BiasCh) : (s.setBias c f).store = s.store := rfl
@[simp] theorem State.setBias_flash (s : State) (c : Fin 80) (f : BiasCh → BiasCh) : (s.setBias c f).flash = s.flash := rfl
@[simp] theorem State.setBias_freeIdx (s : State) (c : Fin 80) (f : BiasCh → BiasCh) : (s.setBias c f).freeIdx = s.freeIdx := rfl
@[simp] theorem State.setBias_out (s : State) (c : Fin 80) (f : BiasCh → BiasCh) : (s.setBias c f).out = s.out := rfl
@[simp] theorem State.setBias_pending (s : State) (c : Fin 80) (f : BiasCh → BiasCh) : (s.setBias c f).pending = s.pending := rfl
@[simp] theorem State.setBias_rd (s : State) (c : Fin 80) (f : BiasCh → BiasCh) (x : Nat) : (s.setBias c f).rd x = s.rd x := rfl

/-! #### `State.setDpd` changes `dpd` alone -/

@[simp] theorem State.setDpd_regs (s : State) (p : Fin 64) (f : DpdPath → DpdPath) : (s.setDpd p f).regs = s.regs := rfl
@[simp] theorem State.setDpd_now (s : State) (p : Fin 64) (f : DpdPath → DpdPath) : (s.setDpd p f).now = s.now := rfl
@[simp] theorem State.setDpd_mode (s : State) (p : Fin 64) (f : DpdPath → DpdPath) : (s.setDpd p f).mode = s.mode := rfl
@[simp] theorem State.setDpd_air (s : State) (p : Fin 64) (f : DpdPath → DpdPath) : (s.setDpd p f).air = s.air := rfl
@[simp] theorem State.setDpd_paths (s : State) (p : Fin 64) (f : DpdPath → DpdPath) : (s.setDpd p f).paths = s.paths := rfl
@[simp] theorem State.setDpd_clk (s : State) (p : Fin 64) (f : DpdPath → DpdPath) : (s.setDpd p f).clk = s.clk := rfl
@[simp] theorem State.setDpd_seq (s : State) (p : Fin 64) (f : DpdPath → DpdPath) : (s.setDpd p f).seq = s.seq := rfl
@[simp] theorem State.setDpd_bias (s : State) (p : Fin 64) (f : DpdPath → DpdPath) : (s.setDpd p f).bias = s.bias := rfl
@[simp] theorem State.setDpd_hka (s : State) (p : Fin 64) (f : DpdPath → DpdPath) : (s.setDpd p f).hka = s.hka := rfl
@[simp] theorem State.setDpd_kpr (s : State) (p : Fin 64) (f : DpdPath → DpdPath) : (s.setDpd p f).kpr = s.kpr := rfl
@[simp] theorem State.setDpd_rcd (s : State) (p : Fin 64) (f : DpdPath → DpdPath) : (s.setDpd p f).rcd = s.rcd := rfl
@[simp] theorem State.setDpd_pins (s : State) (p : Fin 64) (f : DpdPath → DpdPath) : (s.setDpd p f).pins = s.pins := rfl
@[simp] theorem State.setDpd_fuses (s : State) (p : Fin 64) (f : DpdPath → DpdPath) : (s.setDpd p f).fuses = s.fuses := rfl
@[simp] theorem State.setDpd_tim (s : State) (p : Fin 64) (f : DpdPath → DpdPath) : (s.setDpd p f).tim = s.tim := rfl
@[simp] theorem State.setDpd_dfe (s : State) (p : Fin 64) (f : DpdPath → DpdPath) : (s.setDpd p f).dfe = s.dfe := rfl
@[simp] theorem State.setDpd_pkt (s : State) (p : Fin 64) (f : DpdPath → DpdPath) : (s.setDpd p f).pkt = s.pkt := rfl
@[simp] theorem State.setDpd_bmx (s : State) (p : Fin 64) (f : DpdPath → DpdPath) : (s.setDpd p f).bmx = s.bmx := rfl
@[simp] theorem State.setDpd_ulr (s : State) (p : Fin 64) (f : DpdPath → DpdPath) : (s.setDpd p f).ulr = s.ulr := rfl
@[simp] theorem State.setDpd_kte (s : State) (p : Fin 64) (f : DpdPath → DpdPath) : (s.setDpd p f).kte = s.kte := rfl
@[simp] theorem State.setDpd_mem (s : State) (p : Fin 64) (f : DpdPath → DpdPath) : (s.setDpd p f).mem = s.mem := rfl
@[simp] theorem State.setDpd_tns (s : State) (p : Fin 64) (f : DpdPath → DpdPath) : (s.setDpd p f).tns = s.tns := rfl
@[simp] theorem State.setDpd_prod (s : State) (p : Fin 64) (f : DpdPath → DpdPath) : (s.setDpd p f).prod = s.prod := rfl
@[simp] theorem State.setDpd_store (s : State) (p : Fin 64) (f : DpdPath → DpdPath) : (s.setDpd p f).store = s.store := rfl
@[simp] theorem State.setDpd_flash (s : State) (p : Fin 64) (f : DpdPath → DpdPath) : (s.setDpd p f).flash = s.flash := rfl
@[simp] theorem State.setDpd_freeIdx (s : State) (p : Fin 64) (f : DpdPath → DpdPath) : (s.setDpd p f).freeIdx = s.freeIdx := rfl
@[simp] theorem State.setDpd_out (s : State) (p : Fin 64) (f : DpdPath → DpdPath) : (s.setDpd p f).out = s.out := rfl
@[simp] theorem State.setDpd_pending (s : State) (p : Fin 64) (f : DpdPath → DpdPath) : (s.setDpd p f).pending = s.pending := rfl
@[simp] theorem State.setDpd_rd (s : State) (p : Fin 64) (f : DpdPath → DpdPath) (x : Nat) : (s.setDpd p f).rd x = s.rd x := rfl

/-! #### `State.setSensor` changes `hka` alone -/

@[simp] theorem State.setSensor_regs (s : State) (k : Fin 28) (f : Sensor → Sensor) : (s.setSensor k f).regs = s.regs := rfl
@[simp] theorem State.setSensor_now (s : State) (k : Fin 28) (f : Sensor → Sensor) : (s.setSensor k f).now = s.now := rfl
@[simp] theorem State.setSensor_mode (s : State) (k : Fin 28) (f : Sensor → Sensor) : (s.setSensor k f).mode = s.mode := rfl
@[simp] theorem State.setSensor_air (s : State) (k : Fin 28) (f : Sensor → Sensor) : (s.setSensor k f).air = s.air := rfl
@[simp] theorem State.setSensor_paths (s : State) (k : Fin 28) (f : Sensor → Sensor) : (s.setSensor k f).paths = s.paths := rfl
@[simp] theorem State.setSensor_clk (s : State) (k : Fin 28) (f : Sensor → Sensor) : (s.setSensor k f).clk = s.clk := rfl
@[simp] theorem State.setSensor_dpd (s : State) (k : Fin 28) (f : Sensor → Sensor) : (s.setSensor k f).dpd = s.dpd := rfl
@[simp] theorem State.setSensor_seq (s : State) (k : Fin 28) (f : Sensor → Sensor) : (s.setSensor k f).seq = s.seq := rfl
@[simp] theorem State.setSensor_bias (s : State) (k : Fin 28) (f : Sensor → Sensor) : (s.setSensor k f).bias = s.bias := rfl
@[simp] theorem State.setSensor_kpr (s : State) (k : Fin 28) (f : Sensor → Sensor) : (s.setSensor k f).kpr = s.kpr := rfl
@[simp] theorem State.setSensor_rcd (s : State) (k : Fin 28) (f : Sensor → Sensor) : (s.setSensor k f).rcd = s.rcd := rfl
@[simp] theorem State.setSensor_pins (s : State) (k : Fin 28) (f : Sensor → Sensor) : (s.setSensor k f).pins = s.pins := rfl
@[simp] theorem State.setSensor_fuses (s : State) (k : Fin 28) (f : Sensor → Sensor) : (s.setSensor k f).fuses = s.fuses := rfl
@[simp] theorem State.setSensor_tim (s : State) (k : Fin 28) (f : Sensor → Sensor) : (s.setSensor k f).tim = s.tim := rfl
@[simp] theorem State.setSensor_dfe (s : State) (k : Fin 28) (f : Sensor → Sensor) : (s.setSensor k f).dfe = s.dfe := rfl
@[simp] theorem State.setSensor_pkt (s : State) (k : Fin 28) (f : Sensor → Sensor) : (s.setSensor k f).pkt = s.pkt := rfl
@[simp] theorem State.setSensor_bmx (s : State) (k : Fin 28) (f : Sensor → Sensor) : (s.setSensor k f).bmx = s.bmx := rfl
@[simp] theorem State.setSensor_ulr (s : State) (k : Fin 28) (f : Sensor → Sensor) : (s.setSensor k f).ulr = s.ulr := rfl
@[simp] theorem State.setSensor_kte (s : State) (k : Fin 28) (f : Sensor → Sensor) : (s.setSensor k f).kte = s.kte := rfl
@[simp] theorem State.setSensor_mem (s : State) (k : Fin 28) (f : Sensor → Sensor) : (s.setSensor k f).mem = s.mem := rfl
@[simp] theorem State.setSensor_tns (s : State) (k : Fin 28) (f : Sensor → Sensor) : (s.setSensor k f).tns = s.tns := rfl
@[simp] theorem State.setSensor_prod (s : State) (k : Fin 28) (f : Sensor → Sensor) : (s.setSensor k f).prod = s.prod := rfl
@[simp] theorem State.setSensor_store (s : State) (k : Fin 28) (f : Sensor → Sensor) : (s.setSensor k f).store = s.store := rfl
@[simp] theorem State.setSensor_flash (s : State) (k : Fin 28) (f : Sensor → Sensor) : (s.setSensor k f).flash = s.flash := rfl
@[simp] theorem State.setSensor_freeIdx (s : State) (k : Fin 28) (f : Sensor → Sensor) : (s.setSensor k f).freeIdx = s.freeIdx := rfl
@[simp] theorem State.setSensor_out (s : State) (k : Fin 28) (f : Sensor → Sensor) : (s.setSensor k f).out = s.out := rfl
@[simp] theorem State.setSensor_pending (s : State) (k : Fin 28) (f : Sensor → Sensor) : (s.setSensor k f).pending = s.pending := rfl
@[simp] theorem State.setSensor_rd (s : State) (k : Fin 28) (f : Sensor → Sensor) (x : Nat) : (s.setSensor k f).rd x = s.rd x := rfl

/-! #### `State.setPll` changes `clk` alone -/

@[simp] theorem State.setPll_regs (s : State) (k : Fin 4) (f : PllSt → PllSt) : (s.setPll k f).regs = s.regs := rfl
@[simp] theorem State.setPll_now (s : State) (k : Fin 4) (f : PllSt → PllSt) : (s.setPll k f).now = s.now := rfl
@[simp] theorem State.setPll_mode (s : State) (k : Fin 4) (f : PllSt → PllSt) : (s.setPll k f).mode = s.mode := rfl
@[simp] theorem State.setPll_air (s : State) (k : Fin 4) (f : PllSt → PllSt) : (s.setPll k f).air = s.air := rfl
@[simp] theorem State.setPll_paths (s : State) (k : Fin 4) (f : PllSt → PllSt) : (s.setPll k f).paths = s.paths := rfl
@[simp] theorem State.setPll_dpd (s : State) (k : Fin 4) (f : PllSt → PllSt) : (s.setPll k f).dpd = s.dpd := rfl
@[simp] theorem State.setPll_seq (s : State) (k : Fin 4) (f : PllSt → PllSt) : (s.setPll k f).seq = s.seq := rfl
@[simp] theorem State.setPll_bias (s : State) (k : Fin 4) (f : PllSt → PllSt) : (s.setPll k f).bias = s.bias := rfl
@[simp] theorem State.setPll_hka (s : State) (k : Fin 4) (f : PllSt → PllSt) : (s.setPll k f).hka = s.hka := rfl
@[simp] theorem State.setPll_kpr (s : State) (k : Fin 4) (f : PllSt → PllSt) : (s.setPll k f).kpr = s.kpr := rfl
@[simp] theorem State.setPll_rcd (s : State) (k : Fin 4) (f : PllSt → PllSt) : (s.setPll k f).rcd = s.rcd := rfl
@[simp] theorem State.setPll_pins (s : State) (k : Fin 4) (f : PllSt → PllSt) : (s.setPll k f).pins = s.pins := rfl
@[simp] theorem State.setPll_fuses (s : State) (k : Fin 4) (f : PllSt → PllSt) : (s.setPll k f).fuses = s.fuses := rfl
@[simp] theorem State.setPll_tim (s : State) (k : Fin 4) (f : PllSt → PllSt) : (s.setPll k f).tim = s.tim := rfl
@[simp] theorem State.setPll_dfe (s : State) (k : Fin 4) (f : PllSt → PllSt) : (s.setPll k f).dfe = s.dfe := rfl
@[simp] theorem State.setPll_pkt (s : State) (k : Fin 4) (f : PllSt → PllSt) : (s.setPll k f).pkt = s.pkt := rfl
@[simp] theorem State.setPll_bmx (s : State) (k : Fin 4) (f : PllSt → PllSt) : (s.setPll k f).bmx = s.bmx := rfl
@[simp] theorem State.setPll_ulr (s : State) (k : Fin 4) (f : PllSt → PllSt) : (s.setPll k f).ulr = s.ulr := rfl
@[simp] theorem State.setPll_kte (s : State) (k : Fin 4) (f : PllSt → PllSt) : (s.setPll k f).kte = s.kte := rfl
@[simp] theorem State.setPll_mem (s : State) (k : Fin 4) (f : PllSt → PllSt) : (s.setPll k f).mem = s.mem := rfl
@[simp] theorem State.setPll_tns (s : State) (k : Fin 4) (f : PllSt → PllSt) : (s.setPll k f).tns = s.tns := rfl
@[simp] theorem State.setPll_prod (s : State) (k : Fin 4) (f : PllSt → PllSt) : (s.setPll k f).prod = s.prod := rfl
@[simp] theorem State.setPll_store (s : State) (k : Fin 4) (f : PllSt → PllSt) : (s.setPll k f).store = s.store := rfl
@[simp] theorem State.setPll_flash (s : State) (k : Fin 4) (f : PllSt → PllSt) : (s.setPll k f).flash = s.flash := rfl
@[simp] theorem State.setPll_freeIdx (s : State) (k : Fin 4) (f : PllSt → PllSt) : (s.setPll k f).freeIdx = s.freeIdx := rfl
@[simp] theorem State.setPll_out (s : State) (k : Fin 4) (f : PllSt → PllSt) : (s.setPll k f).out = s.out := rfl
@[simp] theorem State.setPll_pending (s : State) (k : Fin 4) (f : PllSt → PllSt) : (s.setPll k f).pending = s.pending := rfl
@[simp] theorem State.setPll_rd (s : State) (k : Fin 4) (f : PllSt → PllSt) (x : Nat) : (s.setPll k f).rd x = s.rd x := rfl

/-! ### Single parts -/

/-! #### `State.setVisit` changes `dpd` alone -/

@[simp] theorem State.setVisit_regs (s : State) (l : Fin 8) (v : Option Visit) : (s.setVisit l v).regs = s.regs := rfl
@[simp] theorem State.setVisit_now (s : State) (l : Fin 8) (v : Option Visit) : (s.setVisit l v).now = s.now := rfl
@[simp] theorem State.setVisit_mode (s : State) (l : Fin 8) (v : Option Visit) : (s.setVisit l v).mode = s.mode := rfl
@[simp] theorem State.setVisit_air (s : State) (l : Fin 8) (v : Option Visit) : (s.setVisit l v).air = s.air := rfl
@[simp] theorem State.setVisit_paths (s : State) (l : Fin 8) (v : Option Visit) : (s.setVisit l v).paths = s.paths := rfl
@[simp] theorem State.setVisit_clk (s : State) (l : Fin 8) (v : Option Visit) : (s.setVisit l v).clk = s.clk := rfl
@[simp] theorem State.setVisit_seq (s : State) (l : Fin 8) (v : Option Visit) : (s.setVisit l v).seq = s.seq := rfl
@[simp] theorem State.setVisit_bias (s : State) (l : Fin 8) (v : Option Visit) : (s.setVisit l v).bias = s.bias := rfl
@[simp] theorem State.setVisit_hka (s : State) (l : Fin 8) (v : Option Visit) : (s.setVisit l v).hka = s.hka := rfl
@[simp] theorem State.setVisit_kpr (s : State) (l : Fin 8) (v : Option Visit) : (s.setVisit l v).kpr = s.kpr := rfl
@[simp] theorem State.setVisit_rcd (s : State) (l : Fin 8) (v : Option Visit) : (s.setVisit l v).rcd = s.rcd := rfl
@[simp] theorem State.setVisit_pins (s : State) (l : Fin 8) (v : Option Visit) : (s.setVisit l v).pins = s.pins := rfl
@[simp] theorem State.setVisit_fuses (s : State) (l : Fin 8) (v : Option Visit) : (s.setVisit l v).fuses = s.fuses := rfl
@[simp] theorem State.setVisit_tim (s : State) (l : Fin 8) (v : Option Visit) : (s.setVisit l v).tim = s.tim := rfl
@[simp] theorem State.setVisit_dfe (s : State) (l : Fin 8) (v : Option Visit) : (s.setVisit l v).dfe = s.dfe := rfl
@[simp] theorem State.setVisit_pkt (s : State) (l : Fin 8) (v : Option Visit) : (s.setVisit l v).pkt = s.pkt := rfl
@[simp] theorem State.setVisit_bmx (s : State) (l : Fin 8) (v : Option Visit) : (s.setVisit l v).bmx = s.bmx := rfl
@[simp] theorem State.setVisit_ulr (s : State) (l : Fin 8) (v : Option Visit) : (s.setVisit l v).ulr = s.ulr := rfl
@[simp] theorem State.setVisit_kte (s : State) (l : Fin 8) (v : Option Visit) : (s.setVisit l v).kte = s.kte := rfl
@[simp] theorem State.setVisit_mem (s : State) (l : Fin 8) (v : Option Visit) : (s.setVisit l v).mem = s.mem := rfl
@[simp] theorem State.setVisit_tns (s : State) (l : Fin 8) (v : Option Visit) : (s.setVisit l v).tns = s.tns := rfl
@[simp] theorem State.setVisit_prod (s : State) (l : Fin 8) (v : Option Visit) : (s.setVisit l v).prod = s.prod := rfl
@[simp] theorem State.setVisit_store (s : State) (l : Fin 8) (v : Option Visit) : (s.setVisit l v).store = s.store := rfl
@[simp] theorem State.setVisit_flash (s : State) (l : Fin 8) (v : Option Visit) : (s.setVisit l v).flash = s.flash := rfl
@[simp] theorem State.setVisit_freeIdx (s : State) (l : Fin 8) (v : Option Visit) : (s.setVisit l v).freeIdx = s.freeIdx := rfl
@[simp] theorem State.setVisit_out (s : State) (l : Fin 8) (v : Option Visit) : (s.setVisit l v).out = s.out := rfl
@[simp] theorem State.setVisit_pending (s : State) (l : Fin 8) (v : Option Visit) : (s.setVisit l v).pending = s.pending := rfl
@[simp] theorem State.setVisit_rd (s : State) (l : Fin 8) (v : Option Visit) (x : Nat) : (s.setVisit l v).rd x = s.rd x := rfl

/-! #### `State.setPort` changes `pkt` alone -/

@[simp] theorem State.setPort_regs (s : State) (u : Fin 2) (f : PortSt → PortSt) : (s.setPort u f).regs = s.regs := rfl
@[simp] theorem State.setPort_now (s : State) (u : Fin 2) (f : PortSt → PortSt) : (s.setPort u f).now = s.now := rfl
@[simp] theorem State.setPort_mode (s : State) (u : Fin 2) (f : PortSt → PortSt) : (s.setPort u f).mode = s.mode := rfl
@[simp] theorem State.setPort_air (s : State) (u : Fin 2) (f : PortSt → PortSt) : (s.setPort u f).air = s.air := rfl
@[simp] theorem State.setPort_paths (s : State) (u : Fin 2) (f : PortSt → PortSt) : (s.setPort u f).paths = s.paths := rfl
@[simp] theorem State.setPort_clk (s : State) (u : Fin 2) (f : PortSt → PortSt) : (s.setPort u f).clk = s.clk := rfl
@[simp] theorem State.setPort_dpd (s : State) (u : Fin 2) (f : PortSt → PortSt) : (s.setPort u f).dpd = s.dpd := rfl
@[simp] theorem State.setPort_seq (s : State) (u : Fin 2) (f : PortSt → PortSt) : (s.setPort u f).seq = s.seq := rfl
@[simp] theorem State.setPort_bias (s : State) (u : Fin 2) (f : PortSt → PortSt) : (s.setPort u f).bias = s.bias := rfl
@[simp] theorem State.setPort_hka (s : State) (u : Fin 2) (f : PortSt → PortSt) : (s.setPort u f).hka = s.hka := rfl
@[simp] theorem State.setPort_kpr (s : State) (u : Fin 2) (f : PortSt → PortSt) : (s.setPort u f).kpr = s.kpr := rfl
@[simp] theorem State.setPort_rcd (s : State) (u : Fin 2) (f : PortSt → PortSt) : (s.setPort u f).rcd = s.rcd := rfl
@[simp] theorem State.setPort_pins (s : State) (u : Fin 2) (f : PortSt → PortSt) : (s.setPort u f).pins = s.pins := rfl
@[simp] theorem State.setPort_fuses (s : State) (u : Fin 2) (f : PortSt → PortSt) : (s.setPort u f).fuses = s.fuses := rfl
@[simp] theorem State.setPort_tim (s : State) (u : Fin 2) (f : PortSt → PortSt) : (s.setPort u f).tim = s.tim := rfl
@[simp] theorem State.setPort_dfe (s : State) (u : Fin 2) (f : PortSt → PortSt) : (s.setPort u f).dfe = s.dfe := rfl
@[simp] theorem State.setPort_bmx (s : State) (u : Fin 2) (f : PortSt → PortSt) : (s.setPort u f).bmx = s.bmx := rfl
@[simp] theorem State.setPort_ulr (s : State) (u : Fin 2) (f : PortSt → PortSt) : (s.setPort u f).ulr = s.ulr := rfl
@[simp] theorem State.setPort_kte (s : State) (u : Fin 2) (f : PortSt → PortSt) : (s.setPort u f).kte = s.kte := rfl
@[simp] theorem State.setPort_mem (s : State) (u : Fin 2) (f : PortSt → PortSt) : (s.setPort u f).mem = s.mem := rfl
@[simp] theorem State.setPort_tns (s : State) (u : Fin 2) (f : PortSt → PortSt) : (s.setPort u f).tns = s.tns := rfl
@[simp] theorem State.setPort_prod (s : State) (u : Fin 2) (f : PortSt → PortSt) : (s.setPort u f).prod = s.prod := rfl
@[simp] theorem State.setPort_store (s : State) (u : Fin 2) (f : PortSt → PortSt) : (s.setPort u f).store = s.store := rfl
@[simp] theorem State.setPort_flash (s : State) (u : Fin 2) (f : PortSt → PortSt) : (s.setPort u f).flash = s.flash := rfl
@[simp] theorem State.setPort_freeIdx (s : State) (u : Fin 2) (f : PortSt → PortSt) : (s.setPort u f).freeIdx = s.freeIdx := rfl
@[simp] theorem State.setPort_out (s : State) (u : Fin 2) (f : PortSt → PortSt) : (s.setPort u f).out = s.out := rfl
@[simp] theorem State.setPort_pending (s : State) (u : Fin 2) (f : PortSt → PortSt) : (s.setPort u f).pending = s.pending := rfl
@[simp] theorem State.setPort_rd (s : State) (u : Fin 2) (f : PortSt → PortSt) (x : Nat) : (s.setPort u f).rd x = s.rd x := rfl

/-! #### `State.setQueue` changes `pkt` alone -/

@[simp] theorem State.setQueue_regs (s : State) (u : Fin 2) (q : Fin 8) (f : QueueSt → QueueSt) : (s.setQueue u q f).regs = s.regs := rfl
@[simp] theorem State.setQueue_now (s : State) (u : Fin 2) (q : Fin 8) (f : QueueSt → QueueSt) : (s.setQueue u q f).now = s.now := rfl
@[simp] theorem State.setQueue_mode (s : State) (u : Fin 2) (q : Fin 8) (f : QueueSt → QueueSt) : (s.setQueue u q f).mode = s.mode := rfl
@[simp] theorem State.setQueue_air (s : State) (u : Fin 2) (q : Fin 8) (f : QueueSt → QueueSt) : (s.setQueue u q f).air = s.air := rfl
@[simp] theorem State.setQueue_paths (s : State) (u : Fin 2) (q : Fin 8) (f : QueueSt → QueueSt) : (s.setQueue u q f).paths = s.paths := rfl
@[simp] theorem State.setQueue_clk (s : State) (u : Fin 2) (q : Fin 8) (f : QueueSt → QueueSt) : (s.setQueue u q f).clk = s.clk := rfl
@[simp] theorem State.setQueue_dpd (s : State) (u : Fin 2) (q : Fin 8) (f : QueueSt → QueueSt) : (s.setQueue u q f).dpd = s.dpd := rfl
@[simp] theorem State.setQueue_seq (s : State) (u : Fin 2) (q : Fin 8) (f : QueueSt → QueueSt) : (s.setQueue u q f).seq = s.seq := rfl
@[simp] theorem State.setQueue_bias (s : State) (u : Fin 2) (q : Fin 8) (f : QueueSt → QueueSt) : (s.setQueue u q f).bias = s.bias := rfl
@[simp] theorem State.setQueue_hka (s : State) (u : Fin 2) (q : Fin 8) (f : QueueSt → QueueSt) : (s.setQueue u q f).hka = s.hka := rfl
@[simp] theorem State.setQueue_kpr (s : State) (u : Fin 2) (q : Fin 8) (f : QueueSt → QueueSt) : (s.setQueue u q f).kpr = s.kpr := rfl
@[simp] theorem State.setQueue_rcd (s : State) (u : Fin 2) (q : Fin 8) (f : QueueSt → QueueSt) : (s.setQueue u q f).rcd = s.rcd := rfl
@[simp] theorem State.setQueue_pins (s : State) (u : Fin 2) (q : Fin 8) (f : QueueSt → QueueSt) : (s.setQueue u q f).pins = s.pins := rfl
@[simp] theorem State.setQueue_fuses (s : State) (u : Fin 2) (q : Fin 8) (f : QueueSt → QueueSt) : (s.setQueue u q f).fuses = s.fuses := rfl
@[simp] theorem State.setQueue_tim (s : State) (u : Fin 2) (q : Fin 8) (f : QueueSt → QueueSt) : (s.setQueue u q f).tim = s.tim := rfl
@[simp] theorem State.setQueue_dfe (s : State) (u : Fin 2) (q : Fin 8) (f : QueueSt → QueueSt) : (s.setQueue u q f).dfe = s.dfe := rfl
@[simp] theorem State.setQueue_bmx (s : State) (u : Fin 2) (q : Fin 8) (f : QueueSt → QueueSt) : (s.setQueue u q f).bmx = s.bmx := rfl
@[simp] theorem State.setQueue_ulr (s : State) (u : Fin 2) (q : Fin 8) (f : QueueSt → QueueSt) : (s.setQueue u q f).ulr = s.ulr := rfl
@[simp] theorem State.setQueue_kte (s : State) (u : Fin 2) (q : Fin 8) (f : QueueSt → QueueSt) : (s.setQueue u q f).kte = s.kte := rfl
@[simp] theorem State.setQueue_mem (s : State) (u : Fin 2) (q : Fin 8) (f : QueueSt → QueueSt) : (s.setQueue u q f).mem = s.mem := rfl
@[simp] theorem State.setQueue_tns (s : State) (u : Fin 2) (q : Fin 8) (f : QueueSt → QueueSt) : (s.setQueue u q f).tns = s.tns := rfl
@[simp] theorem State.setQueue_prod (s : State) (u : Fin 2) (q : Fin 8) (f : QueueSt → QueueSt) : (s.setQueue u q f).prod = s.prod := rfl
@[simp] theorem State.setQueue_store (s : State) (u : Fin 2) (q : Fin 8) (f : QueueSt → QueueSt) : (s.setQueue u q f).store = s.store := rfl
@[simp] theorem State.setQueue_flash (s : State) (u : Fin 2) (q : Fin 8) (f : QueueSt → QueueSt) : (s.setQueue u q f).flash = s.flash := rfl
@[simp] theorem State.setQueue_freeIdx (s : State) (u : Fin 2) (q : Fin 8) (f : QueueSt → QueueSt) : (s.setQueue u q f).freeIdx = s.freeIdx := rfl
@[simp] theorem State.setQueue_out (s : State) (u : Fin 2) (q : Fin 8) (f : QueueSt → QueueSt) : (s.setQueue u q f).out = s.out := rfl
@[simp] theorem State.setQueue_pending (s : State) (u : Fin 2) (q : Fin 8) (f : QueueSt → QueueSt) : (s.setQueue u q f).pending = s.pending := rfl
@[simp] theorem State.setQueue_rd (s : State) (u : Fin 2) (q : Fin 8) (f : QueueSt → QueueSt) (x : Nat) : (s.setQueue u q f).rd x = s.rd x := rfl

/-! #### `State.setLane` changes `pkt` alone -/

@[simp] theorem State.setLane_regs (s : State) (u : Fin 2) (l : Fin 9) (f : LaneSt → LaneSt) : (s.setLane u l f).regs = s.regs := rfl
@[simp] theorem State.setLane_now (s : State) (u : Fin 2) (l : Fin 9) (f : LaneSt → LaneSt) : (s.setLane u l f).now = s.now := rfl
@[simp] theorem State.setLane_mode (s : State) (u : Fin 2) (l : Fin 9) (f : LaneSt → LaneSt) : (s.setLane u l f).mode = s.mode := rfl
@[simp] theorem State.setLane_air (s : State) (u : Fin 2) (l : Fin 9) (f : LaneSt → LaneSt) : (s.setLane u l f).air = s.air := rfl
@[simp] theorem State.setLane_paths (s : State) (u : Fin 2) (l : Fin 9) (f : LaneSt → LaneSt) : (s.setLane u l f).paths = s.paths := rfl
@[simp] theorem State.setLane_clk (s : State) (u : Fin 2) (l : Fin 9) (f : LaneSt → LaneSt) : (s.setLane u l f).clk = s.clk := rfl
@[simp] theorem State.setLane_dpd (s : State) (u : Fin 2) (l : Fin 9) (f : LaneSt → LaneSt) : (s.setLane u l f).dpd = s.dpd := rfl
@[simp] theorem State.setLane_seq (s : State) (u : Fin 2) (l : Fin 9) (f : LaneSt → LaneSt) : (s.setLane u l f).seq = s.seq := rfl
@[simp] theorem State.setLane_bias (s : State) (u : Fin 2) (l : Fin 9) (f : LaneSt → LaneSt) : (s.setLane u l f).bias = s.bias := rfl
@[simp] theorem State.setLane_hka (s : State) (u : Fin 2) (l : Fin 9) (f : LaneSt → LaneSt) : (s.setLane u l f).hka = s.hka := rfl
@[simp] theorem State.setLane_kpr (s : State) (u : Fin 2) (l : Fin 9) (f : LaneSt → LaneSt) : (s.setLane u l f).kpr = s.kpr := rfl
@[simp] theorem State.setLane_rcd (s : State) (u : Fin 2) (l : Fin 9) (f : LaneSt → LaneSt) : (s.setLane u l f).rcd = s.rcd := rfl
@[simp] theorem State.setLane_pins (s : State) (u : Fin 2) (l : Fin 9) (f : LaneSt → LaneSt) : (s.setLane u l f).pins = s.pins := rfl
@[simp] theorem State.setLane_fuses (s : State) (u : Fin 2) (l : Fin 9) (f : LaneSt → LaneSt) : (s.setLane u l f).fuses = s.fuses := rfl
@[simp] theorem State.setLane_tim (s : State) (u : Fin 2) (l : Fin 9) (f : LaneSt → LaneSt) : (s.setLane u l f).tim = s.tim := rfl
@[simp] theorem State.setLane_dfe (s : State) (u : Fin 2) (l : Fin 9) (f : LaneSt → LaneSt) : (s.setLane u l f).dfe = s.dfe := rfl
@[simp] theorem State.setLane_bmx (s : State) (u : Fin 2) (l : Fin 9) (f : LaneSt → LaneSt) : (s.setLane u l f).bmx = s.bmx := rfl
@[simp] theorem State.setLane_ulr (s : State) (u : Fin 2) (l : Fin 9) (f : LaneSt → LaneSt) : (s.setLane u l f).ulr = s.ulr := rfl
@[simp] theorem State.setLane_kte (s : State) (u : Fin 2) (l : Fin 9) (f : LaneSt → LaneSt) : (s.setLane u l f).kte = s.kte := rfl
@[simp] theorem State.setLane_mem (s : State) (u : Fin 2) (l : Fin 9) (f : LaneSt → LaneSt) : (s.setLane u l f).mem = s.mem := rfl
@[simp] theorem State.setLane_tns (s : State) (u : Fin 2) (l : Fin 9) (f : LaneSt → LaneSt) : (s.setLane u l f).tns = s.tns := rfl
@[simp] theorem State.setLane_prod (s : State) (u : Fin 2) (l : Fin 9) (f : LaneSt → LaneSt) : (s.setLane u l f).prod = s.prod := rfl
@[simp] theorem State.setLane_store (s : State) (u : Fin 2) (l : Fin 9) (f : LaneSt → LaneSt) : (s.setLane u l f).store = s.store := rfl
@[simp] theorem State.setLane_flash (s : State) (u : Fin 2) (l : Fin 9) (f : LaneSt → LaneSt) : (s.setLane u l f).flash = s.flash := rfl
@[simp] theorem State.setLane_freeIdx (s : State) (u : Fin 2) (l : Fin 9) (f : LaneSt → LaneSt) : (s.setLane u l f).freeIdx = s.freeIdx := rfl
@[simp] theorem State.setLane_out (s : State) (u : Fin 2) (l : Fin 9) (f : LaneSt → LaneSt) : (s.setLane u l f).out = s.out := rfl
@[simp] theorem State.setLane_pending (s : State) (u : Fin 2) (l : Fin 9) (f : LaneSt → LaneSt) : (s.setLane u l f).pending = s.pending := rfl
@[simp] theorem State.setLane_rd (s : State) (u : Fin 2) (l : Fin 9) (f : LaneSt → LaneSt) (x : Nat) : (s.setLane u l f).rd x = s.rd x := rfl

/-! #### `State.emit` changes `out` alone -/

@[simp] theorem State.emit_regs (s : State) (o : Output) : (s.emit o).regs = s.regs := rfl
@[simp] theorem State.emit_now (s : State) (o : Output) : (s.emit o).now = s.now := rfl
@[simp] theorem State.emit_mode (s : State) (o : Output) : (s.emit o).mode = s.mode := rfl
@[simp] theorem State.emit_air (s : State) (o : Output) : (s.emit o).air = s.air := rfl
@[simp] theorem State.emit_paths (s : State) (o : Output) : (s.emit o).paths = s.paths := rfl
@[simp] theorem State.emit_clk (s : State) (o : Output) : (s.emit o).clk = s.clk := rfl
@[simp] theorem State.emit_dpd (s : State) (o : Output) : (s.emit o).dpd = s.dpd := rfl
@[simp] theorem State.emit_seq (s : State) (o : Output) : (s.emit o).seq = s.seq := rfl
@[simp] theorem State.emit_bias (s : State) (o : Output) : (s.emit o).bias = s.bias := rfl
@[simp] theorem State.emit_hka (s : State) (o : Output) : (s.emit o).hka = s.hka := rfl
@[simp] theorem State.emit_kpr (s : State) (o : Output) : (s.emit o).kpr = s.kpr := rfl
@[simp] theorem State.emit_rcd (s : State) (o : Output) : (s.emit o).rcd = s.rcd := rfl
@[simp] theorem State.emit_pins (s : State) (o : Output) : (s.emit o).pins = s.pins := rfl
@[simp] theorem State.emit_fuses (s : State) (o : Output) : (s.emit o).fuses = s.fuses := rfl
@[simp] theorem State.emit_tim (s : State) (o : Output) : (s.emit o).tim = s.tim := rfl
@[simp] theorem State.emit_dfe (s : State) (o : Output) : (s.emit o).dfe = s.dfe := rfl
@[simp] theorem State.emit_pkt (s : State) (o : Output) : (s.emit o).pkt = s.pkt := rfl
@[simp] theorem State.emit_bmx (s : State) (o : Output) : (s.emit o).bmx = s.bmx := rfl
@[simp] theorem State.emit_ulr (s : State) (o : Output) : (s.emit o).ulr = s.ulr := rfl
@[simp] theorem State.emit_kte (s : State) (o : Output) : (s.emit o).kte = s.kte := rfl
@[simp] theorem State.emit_mem (s : State) (o : Output) : (s.emit o).mem = s.mem := rfl
@[simp] theorem State.emit_tns (s : State) (o : Output) : (s.emit o).tns = s.tns := rfl
@[simp] theorem State.emit_prod (s : State) (o : Output) : (s.emit o).prod = s.prod := rfl
@[simp] theorem State.emit_store (s : State) (o : Output) : (s.emit o).store = s.store := rfl
@[simp] theorem State.emit_flash (s : State) (o : Output) : (s.emit o).flash = s.flash := rfl
@[simp] theorem State.emit_freeIdx (s : State) (o : Output) : (s.emit o).freeIdx = s.freeIdx := rfl
@[simp] theorem State.emit_pending (s : State) (o : Output) : (s.emit o).pending = s.pending := rfl
@[simp] theorem State.emit_rd (s : State) (o : Output) (x : Nat) : (s.emit o).rd x = s.rd x := rfl

/-! #### `State.setChan` changes `mem` alone -/

@[simp] theorem State.setChan_regs (s : State) (c : Fin 2) (f : DramCh → DramCh) : (s.setChan c f).regs = s.regs := rfl
@[simp] theorem State.setChan_now (s : State) (c : Fin 2) (f : DramCh → DramCh) : (s.setChan c f).now = s.now := rfl
@[simp] theorem State.setChan_mode (s : State) (c : Fin 2) (f : DramCh → DramCh) : (s.setChan c f).mode = s.mode := rfl
@[simp] theorem State.setChan_air (s : State) (c : Fin 2) (f : DramCh → DramCh) : (s.setChan c f).air = s.air := rfl
@[simp] theorem State.setChan_paths (s : State) (c : Fin 2) (f : DramCh → DramCh) : (s.setChan c f).paths = s.paths := rfl
@[simp] theorem State.setChan_clk (s : State) (c : Fin 2) (f : DramCh → DramCh) : (s.setChan c f).clk = s.clk := rfl
@[simp] theorem State.setChan_dpd (s : State) (c : Fin 2) (f : DramCh → DramCh) : (s.setChan c f).dpd = s.dpd := rfl
@[simp] theorem State.setChan_seq (s : State) (c : Fin 2) (f : DramCh → DramCh) : (s.setChan c f).seq = s.seq := rfl
@[simp] theorem State.setChan_bias (s : State) (c : Fin 2) (f : DramCh → DramCh) : (s.setChan c f).bias = s.bias := rfl
@[simp] theorem State.setChan_hka (s : State) (c : Fin 2) (f : DramCh → DramCh) : (s.setChan c f).hka = s.hka := rfl
@[simp] theorem State.setChan_kpr (s : State) (c : Fin 2) (f : DramCh → DramCh) : (s.setChan c f).kpr = s.kpr := rfl
@[simp] theorem State.setChan_rcd (s : State) (c : Fin 2) (f : DramCh → DramCh) : (s.setChan c f).rcd = s.rcd := rfl
@[simp] theorem State.setChan_pins (s : State) (c : Fin 2) (f : DramCh → DramCh) : (s.setChan c f).pins = s.pins := rfl
@[simp] theorem State.setChan_fuses (s : State) (c : Fin 2) (f : DramCh → DramCh) : (s.setChan c f).fuses = s.fuses := rfl
@[simp] theorem State.setChan_tim (s : State) (c : Fin 2) (f : DramCh → DramCh) : (s.setChan c f).tim = s.tim := rfl
@[simp] theorem State.setChan_dfe (s : State) (c : Fin 2) (f : DramCh → DramCh) : (s.setChan c f).dfe = s.dfe := rfl
@[simp] theorem State.setChan_pkt (s : State) (c : Fin 2) (f : DramCh → DramCh) : (s.setChan c f).pkt = s.pkt := rfl
@[simp] theorem State.setChan_bmx (s : State) (c : Fin 2) (f : DramCh → DramCh) : (s.setChan c f).bmx = s.bmx := rfl
@[simp] theorem State.setChan_ulr (s : State) (c : Fin 2) (f : DramCh → DramCh) : (s.setChan c f).ulr = s.ulr := rfl
@[simp] theorem State.setChan_kte (s : State) (c : Fin 2) (f : DramCh → DramCh) : (s.setChan c f).kte = s.kte := rfl
@[simp] theorem State.setChan_tns (s : State) (c : Fin 2) (f : DramCh → DramCh) : (s.setChan c f).tns = s.tns := rfl
@[simp] theorem State.setChan_prod (s : State) (c : Fin 2) (f : DramCh → DramCh) : (s.setChan c f).prod = s.prod := rfl
@[simp] theorem State.setChan_store (s : State) (c : Fin 2) (f : DramCh → DramCh) : (s.setChan c f).store = s.store := rfl
@[simp] theorem State.setChan_flash (s : State) (c : Fin 2) (f : DramCh → DramCh) : (s.setChan c f).flash = s.flash := rfl
@[simp] theorem State.setChan_freeIdx (s : State) (c : Fin 2) (f : DramCh → DramCh) : (s.setChan c f).freeIdx = s.freeIdx := rfl
@[simp] theorem State.setChan_out (s : State) (c : Fin 2) (f : DramCh → DramCh) : (s.setChan c f).out = s.out := rfl
@[simp] theorem State.setChan_pending (s : State) (c : Fin 2) (f : DramCh → DramCh) : (s.setChan c f).pending = s.pending := rfl
@[simp] theorem State.setChan_rd (s : State) (c : Fin 2) (f : DramCh → DramCh) (x : Nat) : (s.setChan c f).rd x = s.rd x := rfl

/-! #### `State.setSpool` changes `mem` alone -/

@[simp] theorem State.setSpool_regs (s : State) (k : Fin 32) (f : Spool → Spool) : (s.setSpool k f).regs = s.regs := rfl
@[simp] theorem State.setSpool_now (s : State) (k : Fin 32) (f : Spool → Spool) : (s.setSpool k f).now = s.now := rfl
@[simp] theorem State.setSpool_mode (s : State) (k : Fin 32) (f : Spool → Spool) : (s.setSpool k f).mode = s.mode := rfl
@[simp] theorem State.setSpool_air (s : State) (k : Fin 32) (f : Spool → Spool) : (s.setSpool k f).air = s.air := rfl
@[simp] theorem State.setSpool_paths (s : State) (k : Fin 32) (f : Spool → Spool) : (s.setSpool k f).paths = s.paths := rfl
@[simp] theorem State.setSpool_clk (s : State) (k : Fin 32) (f : Spool → Spool) : (s.setSpool k f).clk = s.clk := rfl
@[simp] theorem State.setSpool_dpd (s : State) (k : Fin 32) (f : Spool → Spool) : (s.setSpool k f).dpd = s.dpd := rfl
@[simp] theorem State.setSpool_seq (s : State) (k : Fin 32) (f : Spool → Spool) : (s.setSpool k f).seq = s.seq := rfl
@[simp] theorem State.setSpool_bias (s : State) (k : Fin 32) (f : Spool → Spool) : (s.setSpool k f).bias = s.bias := rfl
@[simp] theorem State.setSpool_hka (s : State) (k : Fin 32) (f : Spool → Spool) : (s.setSpool k f).hka = s.hka := rfl
@[simp] theorem State.setSpool_kpr (s : State) (k : Fin 32) (f : Spool → Spool) : (s.setSpool k f).kpr = s.kpr := rfl
@[simp] theorem State.setSpool_rcd (s : State) (k : Fin 32) (f : Spool → Spool) : (s.setSpool k f).rcd = s.rcd := rfl
@[simp] theorem State.setSpool_pins (s : State) (k : Fin 32) (f : Spool → Spool) : (s.setSpool k f).pins = s.pins := rfl
@[simp] theorem State.setSpool_fuses (s : State) (k : Fin 32) (f : Spool → Spool) : (s.setSpool k f).fuses = s.fuses := rfl
@[simp] theorem State.setSpool_tim (s : State) (k : Fin 32) (f : Spool → Spool) : (s.setSpool k f).tim = s.tim := rfl
@[simp] theorem State.setSpool_dfe (s : State) (k : Fin 32) (f : Spool → Spool) : (s.setSpool k f).dfe = s.dfe := rfl
@[simp] theorem State.setSpool_pkt (s : State) (k : Fin 32) (f : Spool → Spool) : (s.setSpool k f).pkt = s.pkt := rfl
@[simp] theorem State.setSpool_bmx (s : State) (k : Fin 32) (f : Spool → Spool) : (s.setSpool k f).bmx = s.bmx := rfl
@[simp] theorem State.setSpool_ulr (s : State) (k : Fin 32) (f : Spool → Spool) : (s.setSpool k f).ulr = s.ulr := rfl
@[simp] theorem State.setSpool_kte (s : State) (k : Fin 32) (f : Spool → Spool) : (s.setSpool k f).kte = s.kte := rfl
@[simp] theorem State.setSpool_tns (s : State) (k : Fin 32) (f : Spool → Spool) : (s.setSpool k f).tns = s.tns := rfl
@[simp] theorem State.setSpool_prod (s : State) (k : Fin 32) (f : Spool → Spool) : (s.setSpool k f).prod = s.prod := rfl
@[simp] theorem State.setSpool_store (s : State) (k : Fin 32) (f : Spool → Spool) : (s.setSpool k f).store = s.store := rfl
@[simp] theorem State.setSpool_flash (s : State) (k : Fin 32) (f : Spool → Spool) : (s.setSpool k f).flash = s.flash := rfl
@[simp] theorem State.setSpool_freeIdx (s : State) (k : Fin 32) (f : Spool → Spool) : (s.setSpool k f).freeIdx = s.freeIdx := rfl
@[simp] theorem State.setSpool_out (s : State) (k : Fin 32) (f : Spool → Spool) : (s.setSpool k f).out = s.out := rfl
@[simp] theorem State.setSpool_pending (s : State) (k : Fin 32) (f : Spool → Spool) : (s.setSpool k f).pending = s.pending := rfl
@[simp] theorem State.setSpool_rd (s : State) (k : Fin 32) (f : Spool → Spool) (x : Nat) : (s.setSpool k f).rd x = s.rd x := rfl

/-! #### `State.memPut` changes `mem` alone -/

@[simp] theorem State.memPut_regs (s : State) (a : Nat) (b : Byte) : (s.memPut a b).regs = s.regs := rfl
@[simp] theorem State.memPut_now (s : State) (a : Nat) (b : Byte) : (s.memPut a b).now = s.now := rfl
@[simp] theorem State.memPut_mode (s : State) (a : Nat) (b : Byte) : (s.memPut a b).mode = s.mode := rfl
@[simp] theorem State.memPut_air (s : State) (a : Nat) (b : Byte) : (s.memPut a b).air = s.air := rfl
@[simp] theorem State.memPut_paths (s : State) (a : Nat) (b : Byte) : (s.memPut a b).paths = s.paths := rfl
@[simp] theorem State.memPut_clk (s : State) (a : Nat) (b : Byte) : (s.memPut a b).clk = s.clk := rfl
@[simp] theorem State.memPut_dpd (s : State) (a : Nat) (b : Byte) : (s.memPut a b).dpd = s.dpd := rfl
@[simp] theorem State.memPut_seq (s : State) (a : Nat) (b : Byte) : (s.memPut a b).seq = s.seq := rfl
@[simp] theorem State.memPut_bias (s : State) (a : Nat) (b : Byte) : (s.memPut a b).bias = s.bias := rfl
@[simp] theorem State.memPut_hka (s : State) (a : Nat) (b : Byte) : (s.memPut a b).hka = s.hka := rfl
@[simp] theorem State.memPut_kpr (s : State) (a : Nat) (b : Byte) : (s.memPut a b).kpr = s.kpr := rfl
@[simp] theorem State.memPut_rcd (s : State) (a : Nat) (b : Byte) : (s.memPut a b).rcd = s.rcd := rfl
@[simp] theorem State.memPut_pins (s : State) (a : Nat) (b : Byte) : (s.memPut a b).pins = s.pins := rfl
@[simp] theorem State.memPut_fuses (s : State) (a : Nat) (b : Byte) : (s.memPut a b).fuses = s.fuses := rfl
@[simp] theorem State.memPut_tim (s : State) (a : Nat) (b : Byte) : (s.memPut a b).tim = s.tim := rfl
@[simp] theorem State.memPut_dfe (s : State) (a : Nat) (b : Byte) : (s.memPut a b).dfe = s.dfe := rfl
@[simp] theorem State.memPut_pkt (s : State) (a : Nat) (b : Byte) : (s.memPut a b).pkt = s.pkt := rfl
@[simp] theorem State.memPut_bmx (s : State) (a : Nat) (b : Byte) : (s.memPut a b).bmx = s.bmx := rfl
@[simp] theorem State.memPut_ulr (s : State) (a : Nat) (b : Byte) : (s.memPut a b).ulr = s.ulr := rfl
@[simp] theorem State.memPut_kte (s : State) (a : Nat) (b : Byte) : (s.memPut a b).kte = s.kte := rfl
@[simp] theorem State.memPut_tns (s : State) (a : Nat) (b : Byte) : (s.memPut a b).tns = s.tns := rfl
@[simp] theorem State.memPut_prod (s : State) (a : Nat) (b : Byte) : (s.memPut a b).prod = s.prod := rfl
@[simp] theorem State.memPut_store (s : State) (a : Nat) (b : Byte) : (s.memPut a b).store = s.store := rfl
@[simp] theorem State.memPut_flash (s : State) (a : Nat) (b : Byte) : (s.memPut a b).flash = s.flash := rfl
@[simp] theorem State.memPut_freeIdx (s : State) (a : Nat) (b : Byte) : (s.memPut a b).freeIdx = s.freeIdx := rfl
@[simp] theorem State.memPut_out (s : State) (a : Nat) (b : Byte) : (s.memPut a b).out = s.out := rfl
@[simp] theorem State.memPut_pending (s : State) (a : Nat) (b : Byte) : (s.memPut a b).pending = s.pending := rfl
@[simp] theorem State.memPut_rd (s : State) (a : Nat) (b : Byte) (x : Nat) : (s.memPut a b).rd x = s.rd x := rfl

/-! #### `State.setMark` changes `mem` alone -/

@[simp] theorem State.setMark_regs (s : State) (k : Nat) (m : Mark) : (s.setMark k m).regs = s.regs := rfl
@[simp] theorem State.setMark_now (s : State) (k : Nat) (m : Mark) : (s.setMark k m).now = s.now := rfl
@[simp] theorem State.setMark_mode (s : State) (k : Nat) (m : Mark) : (s.setMark k m).mode = s.mode := rfl
@[simp] theorem State.setMark_air (s : State) (k : Nat) (m : Mark) : (s.setMark k m).air = s.air := rfl
@[simp] theorem State.setMark_paths (s : State) (k : Nat) (m : Mark) : (s.setMark k m).paths = s.paths := rfl
@[simp] theorem State.setMark_clk (s : State) (k : Nat) (m : Mark) : (s.setMark k m).clk = s.clk := rfl
@[simp] theorem State.setMark_dpd (s : State) (k : Nat) (m : Mark) : (s.setMark k m).dpd = s.dpd := rfl
@[simp] theorem State.setMark_seq (s : State) (k : Nat) (m : Mark) : (s.setMark k m).seq = s.seq := rfl
@[simp] theorem State.setMark_bias (s : State) (k : Nat) (m : Mark) : (s.setMark k m).bias = s.bias := rfl
@[simp] theorem State.setMark_hka (s : State) (k : Nat) (m : Mark) : (s.setMark k m).hka = s.hka := rfl
@[simp] theorem State.setMark_kpr (s : State) (k : Nat) (m : Mark) : (s.setMark k m).kpr = s.kpr := rfl
@[simp] theorem State.setMark_rcd (s : State) (k : Nat) (m : Mark) : (s.setMark k m).rcd = s.rcd := rfl
@[simp] theorem State.setMark_pins (s : State) (k : Nat) (m : Mark) : (s.setMark k m).pins = s.pins := rfl
@[simp] theorem State.setMark_fuses (s : State) (k : Nat) (m : Mark) : (s.setMark k m).fuses = s.fuses := rfl
@[simp] theorem State.setMark_tim (s : State) (k : Nat) (m : Mark) : (s.setMark k m).tim = s.tim := rfl
@[simp] theorem State.setMark_dfe (s : State) (k : Nat) (m : Mark) : (s.setMark k m).dfe = s.dfe := rfl
@[simp] theorem State.setMark_pkt (s : State) (k : Nat) (m : Mark) : (s.setMark k m).pkt = s.pkt := rfl
@[simp] theorem State.setMark_bmx (s : State) (k : Nat) (m : Mark) : (s.setMark k m).bmx = s.bmx := rfl
@[simp] theorem State.setMark_ulr (s : State) (k : Nat) (m : Mark) : (s.setMark k m).ulr = s.ulr := rfl
@[simp] theorem State.setMark_kte (s : State) (k : Nat) (m : Mark) : (s.setMark k m).kte = s.kte := rfl
@[simp] theorem State.setMark_tns (s : State) (k : Nat) (m : Mark) : (s.setMark k m).tns = s.tns := rfl
@[simp] theorem State.setMark_prod (s : State) (k : Nat) (m : Mark) : (s.setMark k m).prod = s.prod := rfl
@[simp] theorem State.setMark_store (s : State) (k : Nat) (m : Mark) : (s.setMark k m).store = s.store := rfl
@[simp] theorem State.setMark_flash (s : State) (k : Nat) (m : Mark) : (s.setMark k m).flash = s.flash := rfl
@[simp] theorem State.setMark_freeIdx (s : State) (k : Nat) (m : Mark) : (s.setMark k m).freeIdx = s.freeIdx := rfl
@[simp] theorem State.setMark_out (s : State) (k : Nat) (m : Mark) : (s.setMark k m).out = s.out := rfl
@[simp] theorem State.setMark_pending (s : State) (k : Nat) (m : Mark) : (s.setMark k m).pending = s.pending := rfl
@[simp] theorem State.setMark_rd (s : State) (k : Nat) (m : Mark) (x : Nat) : (s.setMark k m).rd x = s.rd x := rfl

/-! #### `State.flashPut` changes `flash` alone -/

@[simp] theorem State.flashPut_regs (s : State) (a : Nat) (b : Byte) : (s.flashPut a b).regs = s.regs := rfl
@[simp] theorem State.flashPut_now (s : State) (a : Nat) (b : Byte) : (s.flashPut a b).now = s.now := rfl
@[simp] theorem State.flashPut_mode (s : State) (a : Nat) (b : Byte) : (s.flashPut a b).mode = s.mode := rfl
@[simp] theorem State.flashPut_air (s : State) (a : Nat) (b : Byte) : (s.flashPut a b).air = s.air := rfl
@[simp] theorem State.flashPut_paths (s : State) (a : Nat) (b : Byte) : (s.flashPut a b).paths = s.paths := rfl
@[simp] theorem State.flashPut_clk (s : State) (a : Nat) (b : Byte) : (s.flashPut a b).clk = s.clk := rfl
@[simp] theorem State.flashPut_dpd (s : State) (a : Nat) (b : Byte) : (s.flashPut a b).dpd = s.dpd := rfl
@[simp] theorem State.flashPut_seq (s : State) (a : Nat) (b : Byte) : (s.flashPut a b).seq = s.seq := rfl
@[simp] theorem State.flashPut_bias (s : State) (a : Nat) (b : Byte) : (s.flashPut a b).bias = s.bias := rfl
@[simp] theorem State.flashPut_hka (s : State) (a : Nat) (b : Byte) : (s.flashPut a b).hka = s.hka := rfl
@[simp] theorem State.flashPut_kpr (s : State) (a : Nat) (b : Byte) : (s.flashPut a b).kpr = s.kpr := rfl
@[simp] theorem State.flashPut_rcd (s : State) (a : Nat) (b : Byte) : (s.flashPut a b).rcd = s.rcd := rfl
@[simp] theorem State.flashPut_pins (s : State) (a : Nat) (b : Byte) : (s.flashPut a b).pins = s.pins := rfl
@[simp] theorem State.flashPut_fuses (s : State) (a : Nat) (b : Byte) : (s.flashPut a b).fuses = s.fuses := rfl
@[simp] theorem State.flashPut_tim (s : State) (a : Nat) (b : Byte) : (s.flashPut a b).tim = s.tim := rfl
@[simp] theorem State.flashPut_dfe (s : State) (a : Nat) (b : Byte) : (s.flashPut a b).dfe = s.dfe := rfl
@[simp] theorem State.flashPut_pkt (s : State) (a : Nat) (b : Byte) : (s.flashPut a b).pkt = s.pkt := rfl
@[simp] theorem State.flashPut_bmx (s : State) (a : Nat) (b : Byte) : (s.flashPut a b).bmx = s.bmx := rfl
@[simp] theorem State.flashPut_ulr (s : State) (a : Nat) (b : Byte) : (s.flashPut a b).ulr = s.ulr := rfl
@[simp] theorem State.flashPut_kte (s : State) (a : Nat) (b : Byte) : (s.flashPut a b).kte = s.kte := rfl
@[simp] theorem State.flashPut_mem (s : State) (a : Nat) (b : Byte) : (s.flashPut a b).mem = s.mem := rfl
@[simp] theorem State.flashPut_tns (s : State) (a : Nat) (b : Byte) : (s.flashPut a b).tns = s.tns := rfl
@[simp] theorem State.flashPut_prod (s : State) (a : Nat) (b : Byte) : (s.flashPut a b).prod = s.prod := rfl
@[simp] theorem State.flashPut_store (s : State) (a : Nat) (b : Byte) : (s.flashPut a b).store = s.store := rfl
@[simp] theorem State.flashPut_freeIdx (s : State) (a : Nat) (b : Byte) : (s.flashPut a b).freeIdx = s.freeIdx := rfl
@[simp] theorem State.flashPut_out (s : State) (a : Nat) (b : Byte) : (s.flashPut a b).out = s.out := rfl
@[simp] theorem State.flashPut_pending (s : State) (a : Nat) (b : Byte) : (s.flashPut a b).pending = s.pending := rfl
@[simp] theorem State.flashPut_rd (s : State) (a : Nat) (b : Byte) (x : Nat) : (s.flashPut a b).rd x = s.rd x := rfl

/-! #### `State.setBmx` changes `bmx` alone -/

@[simp] theorem State.setBmx_regs (s : State) (f : Bmx → Bmx) : (s.setBmx f).regs = s.regs := rfl
@[simp] theorem State.setBmx_now (s : State) (f : Bmx → Bmx) : (s.setBmx f).now = s.now := rfl
@[simp] theorem State.setBmx_mode (s : State) (f : Bmx → Bmx) : (s.setBmx f).mode = s.mode := rfl
@[simp] theorem State.setBmx_air (s : State) (f : Bmx → Bmx) : (s.setBmx f).air = s.air := rfl
@[simp] theorem State.setBmx_paths (s : State) (f : Bmx → Bmx) : (s.setBmx f).paths = s.paths := rfl
@[simp] theorem State.setBmx_clk (s : State) (f : Bmx → Bmx) : (s.setBmx f).clk = s.clk := rfl
@[simp] theorem State.setBmx_dpd (s : State) (f : Bmx → Bmx) : (s.setBmx f).dpd = s.dpd := rfl
@[simp] theorem State.setBmx_seq (s : State) (f : Bmx → Bmx) : (s.setBmx f).seq = s.seq := rfl
@[simp] theorem State.setBmx_bias (s : State) (f : Bmx → Bmx) : (s.setBmx f).bias = s.bias := rfl
@[simp] theorem State.setBmx_hka (s : State) (f : Bmx → Bmx) : (s.setBmx f).hka = s.hka := rfl
@[simp] theorem State.setBmx_kpr (s : State) (f : Bmx → Bmx) : (s.setBmx f).kpr = s.kpr := rfl
@[simp] theorem State.setBmx_rcd (s : State) (f : Bmx → Bmx) : (s.setBmx f).rcd = s.rcd := rfl
@[simp] theorem State.setBmx_pins (s : State) (f : Bmx → Bmx) : (s.setBmx f).pins = s.pins := rfl
@[simp] theorem State.setBmx_fuses (s : State) (f : Bmx → Bmx) : (s.setBmx f).fuses = s.fuses := rfl
@[simp] theorem State.setBmx_tim (s : State) (f : Bmx → Bmx) : (s.setBmx f).tim = s.tim := rfl
@[simp] theorem State.setBmx_dfe (s : State) (f : Bmx → Bmx) : (s.setBmx f).dfe = s.dfe := rfl
@[simp] theorem State.setBmx_pkt (s : State) (f : Bmx → Bmx) : (s.setBmx f).pkt = s.pkt := rfl
@[simp] theorem State.setBmx_ulr (s : State) (f : Bmx → Bmx) : (s.setBmx f).ulr = s.ulr := rfl
@[simp] theorem State.setBmx_kte (s : State) (f : Bmx → Bmx) : (s.setBmx f).kte = s.kte := rfl
@[simp] theorem State.setBmx_mem (s : State) (f : Bmx → Bmx) : (s.setBmx f).mem = s.mem := rfl
@[simp] theorem State.setBmx_tns (s : State) (f : Bmx → Bmx) : (s.setBmx f).tns = s.tns := rfl
@[simp] theorem State.setBmx_prod (s : State) (f : Bmx → Bmx) : (s.setBmx f).prod = s.prod := rfl
@[simp] theorem State.setBmx_store (s : State) (f : Bmx → Bmx) : (s.setBmx f).store = s.store := rfl
@[simp] theorem State.setBmx_flash (s : State) (f : Bmx → Bmx) : (s.setBmx f).flash = s.flash := rfl
@[simp] theorem State.setBmx_freeIdx (s : State) (f : Bmx → Bmx) : (s.setBmx f).freeIdx = s.freeIdx := rfl
@[simp] theorem State.setBmx_out (s : State) (f : Bmx → Bmx) : (s.setBmx f).out = s.out := rfl
@[simp] theorem State.setBmx_pending (s : State) (f : Bmx → Bmx) : (s.setBmx f).pending = s.pending := rfl
@[simp] theorem State.setBmx_rd (s : State) (f : Bmx → Bmx) (x : Nat) : (s.setBmx f).rd x = s.rd x := rfl

/-! #### `State.setUlr` changes `ulr` alone -/

@[simp] theorem State.setUlr_regs (s : State) (f : Ulr → Ulr) : (s.setUlr f).regs = s.regs := rfl
@[simp] theorem State.setUlr_now (s : State) (f : Ulr → Ulr) : (s.setUlr f).now = s.now := rfl
@[simp] theorem State.setUlr_mode (s : State) (f : Ulr → Ulr) : (s.setUlr f).mode = s.mode := rfl
@[simp] theorem State.setUlr_air (s : State) (f : Ulr → Ulr) : (s.setUlr f).air = s.air := rfl
@[simp] theorem State.setUlr_paths (s : State) (f : Ulr → Ulr) : (s.setUlr f).paths = s.paths := rfl
@[simp] theorem State.setUlr_clk (s : State) (f : Ulr → Ulr) : (s.setUlr f).clk = s.clk := rfl
@[simp] theorem State.setUlr_dpd (s : State) (f : Ulr → Ulr) : (s.setUlr f).dpd = s.dpd := rfl
@[simp] theorem State.setUlr_seq (s : State) (f : Ulr → Ulr) : (s.setUlr f).seq = s.seq := rfl
@[simp] theorem State.setUlr_bias (s : State) (f : Ulr → Ulr) : (s.setUlr f).bias = s.bias := rfl
@[simp] theorem State.setUlr_hka (s : State) (f : Ulr → Ulr) : (s.setUlr f).hka = s.hka := rfl
@[simp] theorem State.setUlr_kpr (s : State) (f : Ulr → Ulr) : (s.setUlr f).kpr = s.kpr := rfl
@[simp] theorem State.setUlr_rcd (s : State) (f : Ulr → Ulr) : (s.setUlr f).rcd = s.rcd := rfl
@[simp] theorem State.setUlr_pins (s : State) (f : Ulr → Ulr) : (s.setUlr f).pins = s.pins := rfl
@[simp] theorem State.setUlr_fuses (s : State) (f : Ulr → Ulr) : (s.setUlr f).fuses = s.fuses := rfl
@[simp] theorem State.setUlr_tim (s : State) (f : Ulr → Ulr) : (s.setUlr f).tim = s.tim := rfl
@[simp] theorem State.setUlr_dfe (s : State) (f : Ulr → Ulr) : (s.setUlr f).dfe = s.dfe := rfl
@[simp] theorem State.setUlr_pkt (s : State) (f : Ulr → Ulr) : (s.setUlr f).pkt = s.pkt := rfl
@[simp] theorem State.setUlr_bmx (s : State) (f : Ulr → Ulr) : (s.setUlr f).bmx = s.bmx := rfl
@[simp] theorem State.setUlr_kte (s : State) (f : Ulr → Ulr) : (s.setUlr f).kte = s.kte := rfl
@[simp] theorem State.setUlr_mem (s : State) (f : Ulr → Ulr) : (s.setUlr f).mem = s.mem := rfl
@[simp] theorem State.setUlr_tns (s : State) (f : Ulr → Ulr) : (s.setUlr f).tns = s.tns := rfl
@[simp] theorem State.setUlr_prod (s : State) (f : Ulr → Ulr) : (s.setUlr f).prod = s.prod := rfl
@[simp] theorem State.setUlr_store (s : State) (f : Ulr → Ulr) : (s.setUlr f).store = s.store := rfl
@[simp] theorem State.setUlr_flash (s : State) (f : Ulr → Ulr) : (s.setUlr f).flash = s.flash := rfl
@[simp] theorem State.setUlr_freeIdx (s : State) (f : Ulr → Ulr) : (s.setUlr f).freeIdx = s.freeIdx := rfl
@[simp] theorem State.setUlr_out (s : State) (f : Ulr → Ulr) : (s.setUlr f).out = s.out := rfl
@[simp] theorem State.setUlr_pending (s : State) (f : Ulr → Ulr) : (s.setUlr f).pending = s.pending := rfl
@[simp] theorem State.setUlr_rd (s : State) (f : Ulr → Ulr) (x : Nat) : (s.setUlr f).rd x = s.rd x := rfl

/-! #### `State.setKite` changes `kte` alone -/

@[simp] theorem State.setKite_regs (s : State) (f : Kite → Kite) : (s.setKite f).regs = s.regs := rfl
@[simp] theorem State.setKite_now (s : State) (f : Kite → Kite) : (s.setKite f).now = s.now := rfl
@[simp] theorem State.setKite_mode (s : State) (f : Kite → Kite) : (s.setKite f).mode = s.mode := rfl
@[simp] theorem State.setKite_air (s : State) (f : Kite → Kite) : (s.setKite f).air = s.air := rfl
@[simp] theorem State.setKite_paths (s : State) (f : Kite → Kite) : (s.setKite f).paths = s.paths := rfl
@[simp] theorem State.setKite_clk (s : State) (f : Kite → Kite) : (s.setKite f).clk = s.clk := rfl
@[simp] theorem State.setKite_dpd (s : State) (f : Kite → Kite) : (s.setKite f).dpd = s.dpd := rfl
@[simp] theorem State.setKite_seq (s : State) (f : Kite → Kite) : (s.setKite f).seq = s.seq := rfl
@[simp] theorem State.setKite_bias (s : State) (f : Kite → Kite) : (s.setKite f).bias = s.bias := rfl
@[simp] theorem State.setKite_hka (s : State) (f : Kite → Kite) : (s.setKite f).hka = s.hka := rfl
@[simp] theorem State.setKite_kpr (s : State) (f : Kite → Kite) : (s.setKite f).kpr = s.kpr := rfl
@[simp] theorem State.setKite_rcd (s : State) (f : Kite → Kite) : (s.setKite f).rcd = s.rcd := rfl
@[simp] theorem State.setKite_pins (s : State) (f : Kite → Kite) : (s.setKite f).pins = s.pins := rfl
@[simp] theorem State.setKite_fuses (s : State) (f : Kite → Kite) : (s.setKite f).fuses = s.fuses := rfl
@[simp] theorem State.setKite_tim (s : State) (f : Kite → Kite) : (s.setKite f).tim = s.tim := rfl
@[simp] theorem State.setKite_dfe (s : State) (f : Kite → Kite) : (s.setKite f).dfe = s.dfe := rfl
@[simp] theorem State.setKite_pkt (s : State) (f : Kite → Kite) : (s.setKite f).pkt = s.pkt := rfl
@[simp] theorem State.setKite_bmx (s : State) (f : Kite → Kite) : (s.setKite f).bmx = s.bmx := rfl
@[simp] theorem State.setKite_ulr (s : State) (f : Kite → Kite) : (s.setKite f).ulr = s.ulr := rfl
@[simp] theorem State.setKite_mem (s : State) (f : Kite → Kite) : (s.setKite f).mem = s.mem := rfl
@[simp] theorem State.setKite_tns (s : State) (f : Kite → Kite) : (s.setKite f).tns = s.tns := rfl
@[simp] theorem State.setKite_prod (s : State) (f : Kite → Kite) : (s.setKite f).prod = s.prod := rfl
@[simp] theorem State.setKite_store (s : State) (f : Kite → Kite) : (s.setKite f).store = s.store := rfl
@[simp] theorem State.setKite_flash (s : State) (f : Kite → Kite) : (s.setKite f).flash = s.flash := rfl
@[simp] theorem State.setKite_freeIdx (s : State) (f : Kite → Kite) : (s.setKite f).freeIdx = s.freeIdx := rfl
@[simp] theorem State.setKite_out (s : State) (f : Kite → Kite) : (s.setKite f).out = s.out := rfl
@[simp] theorem State.setKite_pending (s : State) (f : Kite → Kite) : (s.setKite f).pending = s.pending := rfl
@[simp] theorem State.setKite_rd (s : State) (f : Kite → Kite) (x : Nat) : (s.setKite f).rd x = s.rd x := rfl

end Sys2Proof.Machine
end

