-- ==== Sys2Proof/Laws/Table.lean ====
section
/-! SUPPORT. The laws of sparse tables: what a read answers after a write, and that every write keeps the canonical form. -/

namespace Sys2Proof.Machine

variable {α : Type}

theorem tabGet_erase_other (d : Nat → α) (t : List (Nat × α)) {k a : Nat} (h : a ≠ k) :
    tabGet d (tabErase t k) a = tabGet d t a := by
  induction t with
  | nil => rfl
  | cons x t ih =>
    obtain ⟨j, v⟩ := x
    simp only [tabErase]
    split
    · next hj => subst hj; simp [tabGet, Ne.symm h]
    · simp [tabGet, ih]

theorem tabGet_insert_same (d : Nat → α) (t : List (Nat × α)) (k : Nat) (v : α) :
    tabGet d (tabInsert t k v) k = v := by
  induction t with
  | nil => simp [tabInsert, tabGet]
  | cons x t ih =>
    obtain ⟨j, w⟩ := x
    simp only [tabInsert]
    split
    · simp [tabGet]
    · split
      · simp [tabGet]
      · next h => simp [tabGet, h, ih]

theorem tabGet_insert_other (d : Nat → α) (t : List (Nat × α)) {k a : Nat} (v : α) (h : a ≠ k) :
    tabGet d (tabInsert t k v) a = tabGet d t a := by
  induction t with
  | nil => simp [tabInsert, tabGet, Ne.symm h]
  | cons x t ih =>
    obtain ⟨j, w⟩ := x
    simp only [tabInsert]
    split
    · simp [tabGet, Ne.symm h]
    · split
      · next hj => subst hj; simp [tabGet, Ne.symm h]
      · simp [tabGet, ih]

variable [DecidableEq α]

/-- A write leaves every other key alone, whatever the table. -/
theorem tabGet_put_other (d : Nat → α) (t : List (Nat × α)) {k a : Nat} (v : α) (h : a ≠ k) :
    tabGet d (tabPut d t k v) a = tabGet d t a := by
  unfold tabPut
  split
  · exact tabGet_erase_other d t h
  · exact tabGet_insert_other d t v h

/-- A tighter bound below the keys follows from a looser one. -/
theorem tabWfFrom_some_none (d : Nat → α) {l : Nat} {t : List (Nat × α)} (h : tabWfFrom d (some l) t = true) :
    tabWfFrom d none t = true := by
  cases t with
  | nil => rfl
  | cons x t => simp only [tabWfFrom, Bool.and_eq_true] at h ⊢; exact ⟨⟨trivial, h.1.2⟩, h.2⟩

theorem tabWfFrom_mono (d : Nat → α) {l m : Nat} {t : List (Nat × α)} (hm : m ≤ l) (h : tabWfFrom d (some l) t = true) :
    tabWfFrom d (some m) t = true := by
  cases t with
  | nil => rfl
  | cons x t =>
    simp only [tabWfFrom, Bool.and_eq_true, decide_eq_true_eq] at h ⊢
    exact ⟨⟨by omega, h.1.2⟩, h.2⟩

/-- A key at or below the bound is unlisted. -/
theorem tabGet_below (d : Nat → α) {l k : Nat} {t : List (Nat × α)} (hk : k ≤ l) (h : tabWfFrom d (some l) t = true) :
    tabGet d t k = d k := by
  induction t generalizing l with
  | nil => rfl
  | cons x t ih =>
    simp only [tabWfFrom, Bool.and_eq_true, decide_eq_true_eq] at h
    have : x.1 ≠ k := by omega
    simp only [tabGet, this, if_false]
    exact ih (l := x.1) (by omega) h.2

theorem tabGet_erase_same (d : Nat → α) {lo : Option Nat} {t : List (Nat × α)} (k : Nat) (h : tabWfFrom d lo t = true) :
    tabGet d (tabErase t k) k = d k := by
  induction t generalizing lo with
  | nil => rfl
  | cons x t ih =>
    obtain ⟨j, v⟩ := x
    simp only [tabWfFrom, Bool.and_eq_true] at h
    simp only [tabErase]
    split
    · next hj => subst hj; exact tabGet_below d (Nat.le_refl _) h.2
    · next hj => simp [tabGet, hj, ih h.2]

/-- A read after a write to the same key gives the value written. -/
theorem tabGet_put_same (d : Nat → α) {t : List (Nat × α)} (k : Nat) (v : α) (h : tabWf d t = true) :
    tabGet d (tabPut d t k v) k = v := by
  unfold tabPut
  split
  · next hv => rw [tabGet_erase_same d k h, hv]
  · exact tabGet_insert_same d t k v

theorem tabWfFrom_erase (d : Nat → α) (lo : Option Nat) (t : List (Nat × α)) (k : Nat) (h : tabWfFrom d lo t = true) :
    tabWfFrom d lo (tabErase t k) = true := by
  induction t generalizing lo with
  | nil => rfl
  | cons x t ih =>
    obtain ⟨j, v⟩ := x
    simp only [tabErase]
    split
    · simp only [tabWfFrom, Bool.and_eq_true] at h
      cases lo with
      | none => exact tabWfFrom_some_none d h.2
      | some l =>
        simp only [decide_eq_true_eq] at h
        exact tabWfFrom_mono d (Nat.le_of_lt h.1.1) h.2
    · simp only [tabWfFrom, Bool.and_eq_true] at h ⊢
      exact ⟨h.1, ih _ h.2⟩

/-- The bound `lo`, when there is one, lies below `k`. -/
def aboveBound (lo : Option Nat) (k : Nat) : Prop := ∀ l, lo = some l → l < k

theorem tabWfFrom_cons (d : Nat → α) (lo : Option Nat) (k : Nat) (v : α) (t : List (Nat × α)) :
    tabWfFrom d lo ((k, v) :: t) = true ↔ aboveBound lo k ∧ v ≠ d k ∧ tabWfFrom d (some k) t = true := by
  cases lo <;> simp [tabWfFrom, aboveBound, and_assoc]

theorem tabWfFrom_insert (d : Nat → α) (lo : Option Nat) (t : List (Nat × α)) (k : Nat) (v : α) (hv : v ≠ d k)
    (hl : aboveBound lo k) (h : tabWfFrom d lo t = true) : tabWfFrom d lo (tabInsert t k v) = true := by
  induction t generalizing lo with
  | nil => exact (tabWfFrom_cons ..).2 ⟨hl, hv, rfl⟩
  | cons x t ih =>
    obtain ⟨j, w⟩ := x
    obtain ⟨hj, hw, ht⟩ := (tabWfFrom_cons ..).1 h
    simp only [tabInsert]
    split
    · next hk => exact (tabWfFrom_cons ..).2 ⟨hl, hv, (tabWfFrom_cons ..).2 ⟨by intro l e; cases e; exact hk, hw, ht⟩⟩
    · split
      · next e => subst e; exact (tabWfFrom_cons ..).2 ⟨hl, hv, ht⟩
      · exact (tabWfFrom_cons ..).2 ⟨hj, hw, ih (some j) (by intro l e; cases e; omega) ht⟩

/-- Every write keeps the canonical form. -/
theorem tabWf_put (d : Nat → α) {t : List (Nat × α)} (k : Nat) (v : α) (h : tabWf d t = true) :
    tabWf d (tabPut d t k v) = true := by
  unfold tabPut
  split
  · exact tabWfFrom_erase d none t k h
  · next hv => exact tabWfFrom_insert d none t k v hv (by intro l e; cases e) h

/-- Keeping only some entries keeps the canonical form. -/
theorem tabWfFrom_filter (d : Nat → α) (p : Nat × α → Bool) (lo : Option Nat) (t : List (Nat × α)) (h : tabWfFrom d lo t = true) :
    tabWfFrom d lo (t.filter p) = true := by
  induction t generalizing lo with
  | nil => rfl
  | cons x t ih =>
    obtain ⟨j, v⟩ := x
    simp only [tabWfFrom, Bool.and_eq_true] at h
    rw [List.filter_cons]
    split
    · simp only [tabWfFrom, Bool.and_eq_true]
      exact ⟨h.1, ih _ h.2⟩
    · have ht := ih _ h.2
      cases lo with
      | none => exact tabWfFrom_some_none d ht
      | some l =>
        simp only [decide_eq_true_eq] at h
        exact tabWfFrom_mono d (Nat.le_of_lt h.1.1) ht

theorem tabWf_filter (d : Nat → α) (p : Nat × α → Bool) {t : List (Nat × α)} (h : tabWf d t = true) :
    tabWf d (t.filter p) = true := tabWfFrom_filter d p none t h

end Sys2Proof.Machine
end

