-- ==== Sys2Proof/Laws/Registers.lean ====
section
/-! SUPPORT. What the shared operations over registers, events and memory do: reads after writes, and the canonical form. -/

namespace Sys2Proof.Machine

/-! ### Reads after writes -/

/-- A register that was not written reads as before. -/
theorem State.rd_wr_other (s : State) {a x : Nat} (w : Word) (h : x ≠ a) : (s.wr a w).rd x = s.rd x :=
  tabGet_put_other resetWord s.regs w h

/-- A register that was written reads what was written. -/
theorem State.rd_wr_same (s : State) (a : Nat) (w : Word) (h : s.Canon) : (s.wr a w).rd a = w :=
  tabGet_put_same resetWord a w h.1

theorem State.rd_setFld_other (s : State) {a x : Nat} (hi lo v : Nat) (h : x ≠ a) : (s.setFld a hi lo v).rd x = s.rd x :=
  s.rd_wr_other _ h

theorem State.rd_setBit_other (s : State) {a x : Nat} (i : Nat) (b : Bool) (h : x ≠ a) : (s.setBit a i b).rd x = s.rd x :=
  s.rd_wr_other _ h

theorem State.rd_bumpBy_other (s : State) {a x : Nat} (n : Nat) (h : x ≠ a) : (s.bumpBy a n).rd x = s.rd x :=
  s.rd_wr_other _ h

theorem State.rd_bump_other (s : State) {a x : Nat} (h : x ≠ a) : (s.bump a).rd x = s.rd x :=
  s.rd_wr_other _ h

theorem State.rd_setFld_same (s : State) (a hi lo v : Nat) (h : s.Canon) : (s.setFld a hi lo v).rd a = putFld (s.rd a) hi lo v :=
  s.rd_wr_same a _ h

theorem State.rd_setBit_same (s : State) (a i : Nat) (b : Bool) (h : s.Canon) :
    (s.setBit a i b).rd a = putFld (s.rd a) i i (if b then 1 else 0) :=
  s.rd_wr_same a _ h

/-- A bit that was set or cleared reads so (R7). -/
theorem State.bit_setBit_same (s : State) (a i : Nat) (b : Bool) (hi : i < 32) (h : s.Canon) : (s.setBit a i b).bit a i = b := by
  unfold State.bit State.fld
  rw [s.rd_setBit_same a i b h, fldOf_putFld_same _ _ _ _ (Nat.le_refl i) hi]
  cases b <;> simp

/-- A counter after `n` counts (R9). -/
theorem State.rd_bumpBy_same (s : State) (a n : Nat) (h : s.Canon) :
    ((s.bumpBy a n).rd a).toNat = satAdd (s.rd a).toNat n := by
  rw [State.bumpBy, s.rd_wr_same a _ h, BitVec.toNat_ofNat, Nat.mod_eq_of_lt (satAdd_lt _ _)]

/-- A counter after one count (R9). -/
theorem State.rd_bump_same (s : State) (a : Nat) (h : s.Canon) : ((s.bump a).rd a).toNat = satAdd (s.rd a).toNat 1 :=
  s.rd_bumpBy_same a 1 h

/-! ### Events -/

/-- Raising an event changes BLK_STAT_SUM of its block and nothing else that is a register (R614). -/
theorem State.rd_noteEvent_other (s : State) (c : Nat) {x : Nat} (h : x ≠ Reg.BLK_STAT_SUM (c / 256)) :
    (s.noteEvent c).rd x = s.rd x := by
  unfold State.noteEvent
  extract_lets a sev s1 s2 s3
  have h1 : s1.rd x = s.rd x := by unfold s1; split; exacts [s.rd_setBit_other _ _ h, rfl]
  have h2 : s2.rd x = s.rd x := by unfold s2; split; exacts [(s1.rd_setFld_other _ _ _ h).trans h1, h1]
  have h3 : s3.rd x = s.rd x := by unfold s3; split; exacts [(s2.rd_setFld_other _ _ _ h).trans h2, h2]
  exact (State.rd_setFld_other _ _ _ _ h).trans h3

theorem State.rd_joinQueue_other (s : State) (e : Event) {x : Nat} (h : x ≠ Reg.KPR_EVT_OVF_CNT) :
    (s.joinQueue e).rd x = s.rd x := by
  unfold State.joinQueue
  split
  · rfl
  · exact s.rd_bump_other h

/-- Every other register reads as before an event (R583, R614). -/
theorem State.rd_raiseEvent_other (s : State) (e : Event) {x : Nat} (h : ¬ eventRegs e.code x) :
    (s.raiseEvent e).rd x = s.rd x :=
  (State.rd_joinQueue_other _ _ (not_or.1 h).2).trans (s.rd_noteEvent_other e.code (not_or.1 h).1)

theorem State.rd_raise_other (s : State) (c : Nat) (l : List (Nat × Nat)) {x : Nat} (h : ¬ eventRegs c x) :
    (s.raise c l).rd x = s.rd x :=
  s.rd_raiseEvent_other { code := c, ns := s.ns, args := packArgs l } h

/-- Every other register reads as before the effect of an event (R581). -/
theorem State.rd_raiseEffect_other (s : State) (c : Nat) (l : List (Nat × Nat)) {x : Nat} (h : ¬ eventRegs c x) :
    (s.raiseEffect c l).rd x = s.rd x :=
  s.rd_raiseEvent_other { code := c, ns := s.ns, args := packArgs l, cyc := s.effectCycle } h

/-- While fewer than 64 events wait, an event takes its place among them (R581, R583). -/
theorem State.raise_queue (s : State) (c : Nat) (l : List (Nat × Nat)) (h : s.rcd.queue.length < 64) :
    (s.raise c l).rcd.queue =
      insertEvent { code := c, ns := s.ns, args := packArgs l, cyc := max 0 s.now, enabled := s.eventEnabled c } s.rcd.queue := by
  rw [State.raise, State.raiseEvent, State.joinQueue, State.noteEvent_rcd, if_pos h]

/-- The event that is inserted waits, and so does every one that waited. -/
theorem mem_insertEvent (e x : Event) (l : List Event) : x ∈ insertEvent e l ↔ x = e ∨ x ∈ l := by
  induction l with
  | nil => simp [insertEvent]
  | cons y t ih =>
    unfold insertEvent
    split
    · simp
    · simp only [List.mem_cons, ih]
      tauto

theorem length_insertEvent (e : Event) (l : List Event) : (insertEvent e l).length = l.length + 1 := by
  induction l with
  | nil => rfl
  | cons y t ih =>
    unfold insertEvent
    split
    · rfl
    · simp [ih]

/-! ### The canonical form -/

theorem State.wr_canon (s : State) (a : Nat) (w : Word) (h : s.Canon) : (s.wr a w).Canon :=
  ⟨tabWf_put resetWord a w h.1, h.2⟩

theorem State.setFld_canon (s : State) (a hi lo v : Nat) (h : s.Canon) : (s.setFld a hi lo v).Canon := s.wr_canon _ _ h

theorem State.setBit_canon (s : State) (a i : Nat) (b : Bool) (h : s.Canon) : (s.setBit a i b).Canon := s.wr_canon _ _ h

theorem State.bumpBy_canon (s : State) (a n : Nat) (h : s.Canon) : (s.bumpBy a n).Canon := s.wr_canon _ _ h

theorem State.bump_canon (s : State) (a : Nat) (h : s.Canon) : (s.bump a).Canon := s.wr_canon _ _ h

theorem State.noteEvent_canon (s : State) (c : Nat) (h : s.Canon) : (s.noteEvent c).Canon := by
  unfold State.noteEvent
  extract_lets a sev s1 s2 s3
  have h1 : s1.Canon := by unfold s1; split; exacts [s.setBit_canon _ _ _ h, h]
  have h2 : s2.Canon := by unfold s2; split; exacts [s1.setFld_canon _ _ _ _ h1, h1]
  have h3 : s3.Canon := by unfold s3; split; exacts [s2.setFld_canon _ _ _ _ h2, h2]
  exact s3.setFld_canon _ _ _ _ h3

theorem State.joinQueue_canon (s : State) (e : Event) (h : s.Canon) : (s.joinQueue e).Canon := by
  unfold State.joinQueue
  split
  · exact h
  · exact s.bump_canon _ h

theorem State.raiseEvent_canon (s : State) (e : Event) (h : s.Canon) : (s.raiseEvent e).Canon :=
  State.joinQueue_canon _ _ (s.noteEvent_canon e.code h)

theorem State.raise_canon (s : State) (c : Nat) (l : List (Nat × Nat)) (h : s.Canon) : (s.raise c l).Canon :=
  s.raiseEvent_canon _ h

theorem State.raiseEffect_canon (s : State) (c : Nat) (l : List (Nat × Nat)) (h : s.Canon) : (s.raiseEffect c l).Canon :=
  s.raiseEvent_canon _ h

/-- A change that keeps the six tables keeps the canonical form. -/
theorem State.Canon.of_tables {s t : State} (h : s.Canon) (hr : t.regs = s.regs) (hc : t.mem.cells = s.mem.cells)
    (hm : t.mem.marks = s.mem.marks) (hs : t.store = s.store) (hf : t.flash = s.flash) (hw : t.mem.wrote = s.mem.wrote) : t.Canon := by
  unfold State.Canon
  rw [hr, hc, hm, hs, hf, hw]
  exact h

/-- A fold keeps the canonical form when each of its steps does. -/
theorem foldl_canon {β : Type} (f : State → β → State) (hf : ∀ s x, s.Canon → (f s x).Canon) (l : List β) (s : State)
    (h : s.Canon) : (l.foldl f s).Canon := by
  induction l generalizing s with
  | nil => exact h
  | cons x l ih => exact ih _ (hf s x h)

theorem State.forPaths_canon (s : State) (f : State → Fin 64 → State) (hf : ∀ s x, s.Canon → (f s x).Canon) (h : s.Canon) :
    (s.forPaths f).Canon := foldl_canon f hf _ s h

theorem State.forQuads_canon (s : State) (f : State → Fin 16 → State) (hf : ∀ s x, s.Canon → (f s x).Canon) (h : s.Canon) :
    (s.forQuads f).Canon := foldl_canon f hf _ s h

theorem State.forBias_canon (s : State) (f : State → Fin 80 → State) (hf : ∀ s x, s.Canon → (f s x).Canon) (h : s.Canon) :
    (s.forBias f).Canon := foldl_canon f hf _ s h

/-- The machine after reset has its tables in the canonical form. -/
theorem reset_canon_regs : tabWf resetWord State.reset.regs = true := rfl

/-! ### Memory -/

/-- A byte that was written reads what was written. -/
theorem State.memGet_memPut_same (s : State) (a : Nat) (b : Byte) (h : s.Canon) : (s.memPut a b).memGet a = b :=
  tabGet_put_same _ a b h.2.1

/-- Every other byte reads as before. -/
theorem State.memGet_memPut_other (s : State) {a x : Nat} (b : Byte) (h : x ≠ a) : (s.memPut a b).memGet x = s.memGet x :=
  tabGet_put_other _ s.mem.cells b h

theorem State.memPut_canon (s : State) (a : Nat) (b : Byte) (h : s.Canon) : (s.memPut a b).Canon := by
  refine ⟨h.1, tabWf_put _ a b h.2.1, h.2.2.1, h.2.2.2.1, h.2.2.2.2.1, ?_⟩
  unfold State.memPut
  dsimp only
  split
  · exact tabWf_put _ a true h.2.2.2.2.2
  · exact h.2.2.2.2.2

theorem State.setMark_canon (s : State) (k : Nat) (m : Mark) (h : s.Canon) : (s.setMark k m).Canon :=
  ⟨h.1, h.2.1, tabWf_put _ k m h.2.2.1, h.2.2.2⟩

theorem State.flashPut_canon (s : State) (a : Nat) (b : Byte) (h : s.Canon) : (s.flashPut a b).Canon :=
  ⟨h.1, h.2.1, h.2.2.1, h.2.2.2.1, tabWf_put _ a b h.2.2.2.2.1, h.2.2.2.2.2⟩

theorem State.memPuts_canon (s : State) (a : Nat) (bs : List Byte) (h : s.Canon) : (s.memPuts a bs).Canon := by
  induction bs generalizing s a with
  | nil => exact h
  | cons b t ih => exact ih _ _ (s.memPut_canon a b h)

/-- Bytes outside those written read as before. -/
theorem State.memGet_memPuts_other (s : State) (a : Nat) (bs : List Byte) (x : Nat) (h : x < a ∨ a + bs.length ≤ x) :
    (s.memPuts a bs).memGet x = s.memGet x := by
  induction bs generalizing s a with
  | nil => rfl
  | cons b t ih =>
    simp only [List.length_cons] at h
    exact (ih _ _ (by omega)).trans (s.memGet_memPut_other b (by omega))

/-- The bytes written read what was written. -/
theorem State.memGet_memPuts_same (s : State) (a : Nat) (bs : List Byte) (i : Nat) (hi : i < bs.length) (h : s.Canon) :
    (s.memPuts a bs).memGet (a + i) = bs[i] := by
  induction bs generalizing s a i with
  | nil => simp at hi
  | cons b t ih =>
    cases i with
    | zero =>
      exact (State.memGet_memPuts_other _ (a + 1) t a (by omega)).trans (s.memGet_memPut_same a b h)
    | succ i =>
      have := ih (s.memPut a b) (a + 1) i (by simpa using hi) (s.memPut_canon a b h)
      rw [show a + 1 + i = a + (i + 1) by omega] at this
      exact this

end Sys2Proof.Machine
end

