-- ==== Sys2Proof/Laws/Memory.lean ====
section
/-! SUPPORT. Memory, the marks of its units, the keeper store and the flash: reads after writes, and that every operation keeps the
canonical form. -/

namespace Sys2Proof.Machine

/-! ### Reads after writes -/

/-- A register write leaves memory alone. -/
theorem State.memGet_wr (s : State) (a x : Nat) (w : Word) : (s.wr a w).memGet x = s.memGet x := rfl

theorem State.mark_setMark_same (s : State) (k : Nat) (m : Mark) (h : s.Canon) : (s.setMark k m).mark k = m :=
  tabGet_put_same _ k m h.2.2.1

theorem State.mark_setMark_other (s : State) {k x : Nat} (m : Mark) (h : x ≠ k) : (s.setMark k m).mark x = s.mark x :=
  tabGet_put_other _ _ m h

theorem State.memGet_setMark (s : State) (k x : Nat) (m : Mark) : (s.setMark k m).memGet x = s.memGet x := rfl

theorem State.flashGet_flashPut_same (s : State) (a : Nat) (b : Byte) (h : s.Canon) : (s.flashPut a b).flashGet a = b :=
  tabGet_put_same _ a b h.2.2.2.2.1

theorem State.flashGet_flashPut_other (s : State) {a x : Nat} (b : Byte) (h : x ≠ a) : (s.flashPut a b).flashGet x = s.flashGet x :=
  tabGet_put_other _ _ b h

/-! ### The canonical form -/

theorem State.Canon.mem {s : State} (h : s.Canon) : Memory.wf s.mem := ⟨h.2.1, h.2.2.1, h.2.2.2.2.2⟩

theorem State.reset_mem_wf : Memory.wf State.reset.mem := ⟨rfl, rfl, rfl⟩

theorem State.flipBit_canon (s : State) (k n : Nat) (h : s.Canon) : (s.flipBit k n).Canon := by
  unfold State.flipBit
  split
  · exact s.memPut_canon _ _ h
  · exact h

theorem State.strike_canon (s : State) (k : Nat) (u : Upset) (h : s.Canon) : (s.strike k u).Canon := by
  unfold State.strike
  split
  · split
    · exact h
    · split
      · exact s.setMark_canon _ _ h
      · split
        · exact s.setMark_canon _ _ h
        · exact State.setMark_canon _ _ _ (State.flipBit_canon _ _ _ (s.flipBit_canon _ _ h))
      · exact s.flipBit_canon _ _ h
  · split
    · exact h
    · exact s.setMark_canon _ _ h

theorem State.upset_canon (s : State) (us : List (Nat × Upset)) (h : s.Canon) : (s.upset us).Canon :=
  foldl_canon _ (fun s x hs => s.strike_canon _ x.2 hs) us s h

theorem State.checkUnit_canon (s : State) (k c p : Nat) (h : s.Canon) : (s.checkUnit k c p).2.Canon := by
  unfold State.checkUnit
  dsimp only
  split
  · exact h
  · exact State.bump_canon _ _ (s.setMark_canon _ _ h)
  · split <;> exact State.raise_canon _ _ _ (State.wr_canon _ _ _ (State.wr_canon _ _ _ (s.bump_canon _ h)))

theorem State.checkUnits_canon (s : State) (ks : List Nat) (c p : Nat) (h : s.Canon) : (s.checkUnits ks c p).2.Canon := by
  unfold State.checkUnits
  generalize hb : false = b
  clear hb
  induction ks generalizing s b with
  | nil => exact h
  | cons k t ih => exact ih _ (s.checkUnit_canon k c p h) _

/-- A read of bytes only takes free values. -/
theorem State.memTake_canon (s : State) (a n : Nat) (h : s.Canon) : (s.memTake a n).2.Canon := by
  induction n generalizing s a with
  | zero => exact h
  | succ n ih =>
    unfold State.memTake
    split
    · exact ih _ _ h
    · exact ih _ _ h

theorem State.readUnits_canon (s : State) (a n c p : Nat) (h : s.Canon) : (s.readUnits a n c p).2.Canon :=
  State.memTake_canon _ a n (s.checkUnits_canon _ c p h)

theorem State.writeUnit_canon (s : State) (whole poison : Bool) (k c p : Nat) (h : s.Canon) :
    (s.writeUnit whole poison k c p).Canon := by
  have hc := s.checkUnit_canon k c p h
  unfold State.writeUnit
  dsimp only
  split
  · exact s.setMark_canon _ _ h
  · split
    · exact hc
    · split
      · exact State.bump_canon _ _ (State.setMark_canon _ _ _ (State.memPuts_canon _ _ _ hc))
      · split
        · exact State.setMark_canon _ _ _ hc
        · exact hc

theorem State.writeUnits_canon (s : State) (a : Nat) (bs : List Byte) (poison : Bool) (c p : Nat) (h : s.Canon) :
    (s.writeUnits a bs poison c p).Canon := by
  unfold State.writeUnits
  exact State.memPuts_canon _ _ _ (foldl_canon _ (fun s k hs => s.writeUnit_canon _ _ _ _ _ hs) _ _ h)

/-- What a channel does beside its queue and the check of its blocks leaves the tables alone. -/
theorem State.setChan_canon (s : State) (c : Fin 2) (f : DramCh → DramCh) (h : s.Canon) : (s.setChan c f).Canon := h

theorem State.wakeRank_canon (s : State) (a : Nat) (h : s.Canon) : (s.wakeRank a).Canon :=
  State.setChan_canon _ _ _ (s.setFld_canon _ _ _ _ h)

theorem State.join_canon (s : State) (x : DramReq) (h : s.Canon) : (s.join x).Canon :=
  State.setChan_canon _ _ _ (s.wakeRank_canon _ h)

theorem State.perform_canon (s : State) (c : Fin 2) (x : DramReq) (h : s.Canon) : (s.perform c x).2.Canon := by
  unfold State.perform
  dsimp only
  apply State.setChan_canon
  apply State.wakeRank_canon
  split
  · exact s.writeUnits_canon _ _ _ _ _ h
  · exact s.readUnits_canon _ _ _ _ h

/-- One served request keeps the canonical form (R496). -/
theorem State.serve_canon (s : State) (c : Fin 2) (h : s.Canon) {r : List Byte × Bool} {last : Bool} {t : State}
    (e : s.serve c = some (r, last, t)) : t.Canon := by
  unfold State.serve at e
  dsimp only at e
  split at e
  · cases e
  · split at e
    · cases e
    · cases e
      exact State.perform_canon _ _ _ (s.setChan_canon _ _ h)

theorem State.serveLast_canon (s : State) (c : Fin 2) (n : Nat) (h : s.Canon) : (s.serveLast c n).2.Canon := by
  induction n generalizing s with
  | zero => exact h
  | succ n ih =>
    unfold State.serveLast
    split
    · exact h
    · next e =>
      split
      · exact s.serve_canon c h e
      · exact ih _ (s.serve_canon c h e)

theorem State.serveAll_canon (s : State) (c : Fin 2) (n : Nat) (h : s.Canon) : (s.serveAll c n).Canon := by
  induction n generalizing s with
  | zero => exact h
  | succ n ih =>
    unfold State.serveAll
    split
    · exact h
    · next e => exact ih _ (s.serve_canon c h e)

theorem State.accessBlock_canon (s : State) (x : DramReq) (h : s.Canon) : (s.accessBlock x).2.Canon :=
  State.serveLast_canon _ _ _ (s.join_canon x h)

/-- A read of memory keeps the canonical form. -/
theorem State.memRead_canon (s : State) (a n c p : Nat) (h : s.Canon) : (s.memRead a n c p).2.Canon := by
  unfold State.memRead
  split
  · exact s.readUnits_canon _ _ _ _ h
  · generalize blockParts a n = l
    generalize hr : (([], false) : List Byte × Bool) = r
    clear hr
    induction l generalizing s r with
    | nil => exact h
    | cons x l ih => exact ih _ (s.accessBlock_canon _ h) _

/-- A write of memory keeps the canonical form. -/
theorem State.memWrite_canon (s : State) (a : Nat) (bs : List Byte) (poison : Bool) (c p : Nat) (h : s.Canon) :
    (s.memWrite a bs poison c p).Canon := by
  unfold State.memWrite
  split
  · exact s.writeUnits_canon _ _ _ _ _ h
  · exact foldl_canon _ (fun s _ hs => s.accessBlock_canon _ hs) _ _ h

theorem State.storePuts_canon (s : State) (a : Nat) (bs : List Byte) (h : s.Canon) : (s.storePuts a bs).Canon := by
  induction bs generalizing s a with
  | nil => exact h
  | cons b t ih => exact ih _ _ ⟨h.1, h.2.1, h.2.2.1, tabWf_put _ a b h.2.2.2.1, h.2.2.2.2.1, h.2.2.2.2.2⟩

/-- A reset keeps the canonical form: registers and memory only lose entries (R548, R586). -/
theorem State.chipReset_canon (s : State) (h : s.Canon) : s.chipReset.Canon :=
  ⟨tabWf_filter _ _ h.1, tabWf_filter _ _ h.2.1, rfl, h.2.2.2.1, h.2.2.2.2.1, rfl⟩

/-- So does the entry to SHELF (R575, R610). -/
theorem State.toShelf_canon (s : State) (h : s.Canon) : s.toShelf.Canon :=
  ⟨tabWf_filter _ _ h.1, rfl, rfl, h.2.2.2.1, h.2.2.2.2.1, rfl⟩

end Sys2Proof.Machine
end

