-- ==== Sys2Proof/Laws/Reals.lean ====
section
/-! SUPPORT. Roots and powers of ten: the root's power stays below its operand, a power of ten of a negative number of tenths is at most 1,
and what that gives for equal peaks of the kite detector. -/

namespace Sys2Proof.Machine

theorem rootBits_pow_le (k m b acc : Nat) (h : acc ^ k ≤ m) : (rootBits k m b acc) ^ k ≤ m := by
  induction b generalizing acc with
  | zero => exact h
  | succ b ih =>
    unfold rootBits
    split
    · exact ih _ ‹_›
    · exact ih _ h

theorem rootFloor_pow_le (k m : Nat) (hk : k ≠ 0) : (rootFloor k m) ^ k ≤ m :=
  rootBits_pow_le k m _ 0 (by simp [zero_pow hk])

theorem rootFloor_le (k m r : Nat) (hk : k ≠ 0) (h : m ≤ r ^ k) : rootFloor k m ≤ r :=
  (Nat.pow_le_pow_iff_left hk).1 ((rootFloor_pow_le k m hk).trans h)

theorem tenth_le_one (k : Int) (hl : -2000 ≤ k) (hk : k < 0) : tenth k ≤ 1 := by
  have hq : k / 2000 = -1 := by omega
  have hr : (k % 2000).toNat ≤ 2000 := by omega
  have hroot : rootFloor 2000 (10 ^ (k % 2000).toNat * 2 ^ (160 * 2000)) ≤ 10 * 2 ^ 160 := by
    apply rootFloor_le _ _ _ (by norm_num)
    rw [Nat.mul_pow, ← pow_mul]
    exact Nat.mul_le_mul_right _ (Nat.pow_le_pow_right (by norm_num) hr)
  have hroot' : ((rootFloor 2000 (10 ^ (k % 2000).toNat * 2 ^ (160 * 2000)) : Nat) : Rat) ≤ 10 * 2 ^ 160 := by
    exact_mod_cast hroot
  simp only [tenth, hq]
  rw [if_neg (by norm_num)]
  have h10 : ((10 ^ (-(-1 : Int)).toNat : Nat) : Rat) = 10 := by norm_num
  rw [h10, div_div, div_le_one (by positivity)]
  calc _ ≤ (10 * 2 ^ 160 : Rat) := hroot'
    _ = _ := by push_cast; ring

/-- Equal peaks reach each other within any margin that is negative. -/
theorem reaches_self (x : Nat) (q : Int) (hl : -40 ≤ q) (hq : q < 0) : reaches x x q = true := by
  have h := tenth_le_one (50 * q) (by omega) (by omega)
  have hx : (0 : Rat) ≤ x := Nat.cast_nonneg x
  simpa [reaches] using mul_le_mul_of_nonneg_right h hx

end Sys2Proof.Machine
end

