-- ==== Sys2Proof/Machine/Package.lean ====
section
/-! DEFINITION. What the pins and supplies chapter states of the part itself: the ball grid (R616 to R625), the levels of the brown-out
detectors (R632), the power domains (R576, R633) and the outputs in SHELF (R639). -/

namespace Sys2Proof.Machine

/-! ### Balls (R616 to R625) -/

/-- The rail that a power or ground ball connects to. -/
inductive BallRail where
  | vss | vddCore | vddSram | vdda09 | vdda12 | vddLl | vdd2h | vddq | vdd18 | vddBias | vaon
  deriving DecidableEq, Repr

/-- What a ball carries. `neg` marks _N of a pair; `up` and `rx` name the port and the direction of a link signal. -/
inductive Ball where
  | tx (path : Nat) (neg : Bool)
  | rx (path : Nat) (neg : Bool)
  | fb (path : Nat)
  | refl (quad : Nat)
  | trsw (quad : Nat)
  | paen (quad : Nat)
  | lnap (quad : Nat)
  | calRf
  | lane (up rx : Bool) (lane : Nat) (neg : Bool)
  | tether (up rx : Bool) (neg : Bool)
  | ddr (ch : Nat) (signal : String)
  | control (signal : String)
  | bias (ch : Nat)
  | hkin (ch : Nat)
  | diode (sensor : Nat) (neg : Bool)
  | therm (k : Nat)
  | thermBias
  | vrefCal
  | rail (r : BallRail)
  deriving DecidableEq, Repr

/-- The names of the rows, by index (R616). -/
def rowNames : List String :=
  ["A", "B", "C", "D", "E", "F", "G", "H", "J", "K", "L", "M", "N", "P", "T", "U", "V", "W", "Y"]
  ++ ["AA", "AB", "AC", "AD", "AE", "AF", "AG", "AH", "AJ", "AK", "AL", "AM", "AN", "AP", "AT", "AU", "AV", "AW", "AY"]
  ++ ["BA", "BB", "BC", "BD", "BE", "BF", "BG", "BH", "BJ", "BK"]

/-- The quad ball of a path (R618). -/
def quadBall (n : Nat) : Ball :=
  match n % 4 with
  | 0 => .refl (n / 4)
  | 1 => .trsw (n / 4)
  | 2 => .paen (n / 4)
  | _ => .lnap (n / 4)

/-- A ball of a radio edge (R617): `line` counts the lines from the edge inward, and `k` the balls along it, two of each path, from path
`p` on. -/
def edgeBall (line p k : Nat) : Ball :=
  let n := p + k / 2
  let second := k % 2 = 1
  match line with
  | 0 => .tx n second
  | 2 => .rx n second
  | 4 => if second then quadBall n else .fb n
  | 5 => .rail (if second then .vdda12 else .vdda09)
  | _ => .rail .vss

/-- Element `k` of a link row (R620): `j` is the column's place in its group of three. -/
def linkBall (up rx : Bool) (k j : Nat) : Ball :=
  if j = 2 then .rail .vss else if k = 9 then .tether up rx (j = 1) else .lane up rx k (j = 1)

/-- The signals of a DRAM channel (R621). -/
def ddrSignals : List String :=
  ["CK_T", "CK_C", "CS0", "CS1", "CA0", "CA1", "CA2", "CA3", "CA4", "CA5", "CA6", "RESET_N", "ZQ"]
  ++ ["WCK0_T", "WCK0_C", "RDQS0_T", "RDQS0_C", "DMI0", "DQ0", "DQ1", "DQ2", "DQ3", "DQ4", "DQ5", "DQ6", "DQ7"]
  ++ ["WCK1_T", "WCK1_C", "RDQS1_T", "RDQS1_C", "DMI1", "DQ8", "DQ9", "DQ10", "DQ11", "DQ12", "DQ13", "DQ14", "DQ15"]

/-- Element `i` of a DRAM block. -/
def ddrBall (ch i : Nat) : Ball :=
  match ddrSignals[i]? with
  | some s => .ddr ch s
  | none => .rail .vss

/-- The control, clock and boot signals (R622); VSS and VAON stand under their own names. -/
def controlSignals : List String :=
  ["REFCLK_P", "REFCLK_N", "VSS", "ALIGN_IN", "RESET_N", "WAKE", "PWR_REQ", "PGOOD0", "PGOOD1", "SAFE_N", "FAULT_N", "BIAS_CLR_N"]
  ++ ["CLRSEL", "BOOTSEL0", "BOOTSEL1", "POS0", "POS1", "XSPI_SCK", "XSPI_CS_N", "XSPI_DQS"]
  ++ ["XSPI_IO0", "XSPI_IO1", "XSPI_IO2", "XSPI_IO3", "XSPI_IO4", "XSPI_IO5", "XSPI_IO6", "XSPI_IO7", "XSPI_RST_N"]
  ++ ["SVC_SCK", "SVC_CS_N", "SVC_SI", "SVC_SO", "JTAG_TCK", "JTAG_TMS", "JTAG_TDI", "JTAG_TDO", "JTAG_TRST_N", "VREF12"]

/-- Element `k` of the control list. -/
def controlBall (k : Nat) : Ball :=
  if k = 2 then .rail .vss
  else if k = 39 ∨ k = 40 then .rail .vaon
  else match controlSignals[k]? with
    | some s => .control s
    | none => .rail .vss

/-- Element `k` of the bias and housekeeping list (R623). -/
def biasBall (k : Nat) : Ball :=
  if k < 80 then .bias k
  else if k < 128 then .hkin (k - 80)
  else if k < 160 then .diode ((k - 128) / 2) ((k - 128) % 2 = 1)
  else if k < 164 then .therm (k - 160)
  else if k = 164 then .thermBias
  else if k = 165 then .vrefCal
  else .rail .vss

/-- Column `c` lies in one of two ranges. -/
def inCols (c a b a' b' : Nat) : Bool := (a ≤ c && c ≤ b) || (a' ≤ c && c ≤ b')

/-- The rail of a ball that no list names, by the first region that contains it (R624), the radio edges apart. -/
def railBall (r c : Nat) : BallRail :=
  let sides := inCols c 7 9 40 42
  let odd := (r + c) % 2 = 1
  if inCols r 6 10 37 41 && 7 ≤ c && c ≤ 42 then (if sides then .vddLl else .vss)
  else if inCols r 0 8 41 47 && inCols c 1 8 41 48 then (if odd then .vdda12 else .vss)
  else if 11 ≤ r && r ≤ 15 && sides then
    (if c = 7 ∨ c = 42 then .vddq else if c = 8 ∨ c = 41 then .vdd2h else .vss)
  else if 16 ≤ r && r ≤ 36 && sides then
    (if c = 7 ∨ c = 42 then .vdd18 else if c = 8 ∨ c = 41 then .vddBias else .vss)
  else if 16 ≤ r && r ≤ 30 && 10 ≤ c && c ≤ 39 && odd then
    (if inCols c 10 13 36 39 then .vddSram else .vddCore)
  else .vss

/-- What the ball in the row of index `r` (0 to 47) and column `c` (1 to 48) carries (R616 to R624). -/
def ballAt (r c : Nat) : Ball :=
  if r ≤ 5 && 9 ≤ c && c ≤ 40 then edgeBall r 0 (c - 9)
  else if 43 ≤ c && 9 ≤ r && r ≤ 40 then edgeBall (48 - c) 16 (r - 9)
  else if 42 ≤ r && 9 ≤ c && c ≤ 40 then edgeBall (47 - r) 32 (40 - c)
  else if c ≤ 6 && 9 ≤ r && r ≤ 40 then edgeBall (c - 1) 48 (40 - r)
  else if r = 3 ∧ c = 4 then .calRf
  else if 2 ≤ r && r ≤ 4 && 3 ≤ c && c ≤ 5 then .rail .vss
  else if 10 ≤ c && c ≤ 39 && (r = 7 || r = 9 || r = 38 || r = 40) then
    linkBall (r < 20) (r = 9 || r = 38) ((c - 10) / 3) ((c - 10) % 3)
  else if inCols r 6 10 37 41 && 10 ≤ c && c ≤ 39 then .rail .vss
  else if 11 ≤ r && r ≤ 15 && 10 ≤ c && c ≤ 39 then
    if c ≤ 17 then ddrBall 0 (8 * (r - 11) + (c - 10))
    else if 32 ≤ c then ddrBall 1 (8 * (r - 11) + (39 - c))
    else controlBall (14 * (r - 11) + (c - 18))
  else if 31 ≤ r && r ≤ 36 && 10 ≤ c && c ≤ 39 then biasBall (30 * (r - 31) + (c - 10))
  else .rail (railBall r c)

/-! ### Supplies (R632, R633) -/

/-- The brown-out level of a rail, falling, and its release level, rising, in mV (R632); VAON's are 1600 and 1650. -/
def brownOut : Rail → Nat × Nat
  | .vddCore => (680, 710)
  | .vddSram => (720, 760)
  | .vdda09 => (820, 860)
  | .vdda12 => (1100, 1150)
  | .vddLl => (780, 810)
  | .vdd2h => (960, 1000)
  | .vddq => (440, 470)
  | .vdd18 => (1550, 1700)
  | .vddBias => (3000, 3100)

/-- The falling level of the early-warning comparator on VDD_18, in mV (R632, R633). -/
def earlyWarningLevel : Nat := 1680

/-! ### Power domains (R576) -/

/-- The power domains. -/
inductive Domain where
  | aon | keep | lnu | lnd | mem | dsp | obs | hk | quad (q : Fin 16)
  deriving DecidableEq, Repr

/-- The domain is powered (R576). A port's follows the image's en bit; a quad's its state; after the early-warning trip PD_DSP, PD_OBS and
PD_MEM are off (R633). -/
def State.powered (s : State) (d : Domain) : Bool :=
  match d with
  | .aon => s.pins.vaon
  | .keep | .hk => s.mode != .shelf
  | .lnu => s.mode != .shelf && s.bit (Reg.LN_CTRL 0) 0
  | .lnd => s.mode != .shelf && s.bit (Reg.LN_CTRL 1) 0
  | .mem | .dsp | .obs => s.mode != .shelf && !s.rcd.earlyWarned
  | .quad q => s.mode != .shelf && (s.seq.quads[q]).st != .gated

end Sys2Proof.Machine
end

