-- ==== Sys2Proof/Tests/Witness.lean ====
section
/-! SUPPORT. For every statement a theorem with a state and operands for each of its clauses, which meet the hypotheses of that clause. -/

open Sys2Proof Sys2Proof.Machine

namespace Sys2Proof.Tests

/-- READY with writes open. -/
def wOpen : State := { State.reset with mode := .ready, kpr := { State.reset.kpr with writesOpen := true } }
/-- SERVICE with writes open and the timeline placed. -/
def wLive : State := { wOpen with mode := .service, now := 100000000, air := { State.reset.air with origin := some (0, 0) } }
/-- SERVICE with every quad transmitting. -/
def wTx : State := { wLive with seq := { State.reset.seq with quads := Vector.replicate 16 { st := .transmit } } }
/-- SERVICE with every quad receiving. -/
def wRx : State := { wLive with seq := { State.reset.seq with quads := Vector.replicate 16 { st := .receive } } }
/-- SERVICE with every quad transmitting and a burst of quad 3 whose turnaround has begun. -/
def wBurst : State := { wTx with seq := { wTx.seq with burst := some { quad := 3, turn := true } } }
/-- The start-up pass, every quad in STANDBY and every burst of step 9 over. -/
def wStart : State :=
  { wOpen with seq := { wOpen.seq with
    quads := Vector.replicate 16 { st := .standby }, nextBurst := 64, job := some { kind := 0, quads := 0, quadOut := false, startup := true } } }
/-- SERVICE with every symbol a D symbol. -/
def wD : State := { wTx with air := { wTx.air with pats := [{ nSlot := 1, kiteK := 0, calK := 0, syms := List.replicate 14 0 }] } }
/-- SERVICE with every symbol a U symbol. -/
def wU : State := { wRx with air := { wRx.air with pats := [{ nSlot := 1, kiteK := 0, calK := 0, syms := List.replicate 14 4 }] } }
/-- The first symbol of the cycle. -/
def a0 : AirSym := ⟨0, 0, 0⟩
/-- A job of that symbol with one kind-0 section. -/
def j0 : SymJob := { a := a0, cars := Vector.replicate 4 { ordered := true, secs := [{ no := 0, sec := .dl { id := 1, first := 0, n := 4, l0 := 0, nLayer := 2, kind := 0, wide := false, cluster := 3, fb := 0, value := 0, cols := [] }, prbs := 0xF }] } }
/-- A D symbol whose commit point has passed. -/
def wJob : State := { wD with bmx := { wD.bmx with jobs := [j0] } }
/-- A training frame body with a valid check sum: lane 4, phase FRAME, preset. -/
def wFrame : Vector Byte 16 := #v[17, 66, 2, 3, 0, 0, 0, 0, 255, 1, 0, 0, 0, 0, 68, 20]
/-- A MARKER payload with a valid check sum: role 2 on lane 3, block 5. -/
def wMark : Vector Byte 8 := #v[75, 35, 0, 0, 0, 5, 128, 65]
/-- An SRS section of one symbol on PRBs 0 to 3. -/
def wSrs : SrsSec := { id := 1, start := 0, nSym := 1, comb := 2, ofs := 0, first := 0, n := 4 }
/-- A solve of one port whose anchor has passed. -/
def wSolve : Solve :=
  { car := 0, sec := { id := 1, tag := 5, writeLast := true, exportEst := true, last := 3, ports := [{ srs := 1, ncs := 0, nId := 0 }] },
    srs := [wSrs], slot := 0, anchor := 0, at_ := 90000000 }
/-- A group of it. -/
def wGroup : SolveGroup := { g := 0, h16 := [], eh := 0, sig2 := 4, own := { gm := [(1, 0)], eg := 0, nLive := 64, ns := 1, contrib := 1 } }
/-- SERVICE with a symbol's FFT output and a solve. -/
def wSol (v : Solve) : State := { wU with ulr := { wU.ulr with solves := [v], ffts := [{ sym := 0, grid := [], txMap := 0, rxMap := 0 }] } }
/-- An uplink section in pass-through. -/
def wUl : UlSec :=
  { id := 1, first := 0, n := 1, start := 0, nSym := 1, combine := false, passthru := true, dmrs2 := false, dmrsDouble := false, cdm := 1,
    estFirst := false, l0 := 0, nLayer := 1, mask := 1, kind := 0, nCol := 1, fb := 0, value := 0, users := [], cols := [] }
/-- An output of it. -/
def wOut : UlOut := { sym := 0, car := 0, no := 0, sec := wUl, prbs := 1, contrib := 1, z := List.replicate 32 (List.replicate 12 (1, 2)) }
/-- A U symbol whose commit point has passed, with that section. -/
def jU : SymJob := { a := a0, cars := Vector.replicate 4 { ordered := true, secs := [{ no := 0, sec := .ul wUl, prbs := 1 }] } }
/-- The head with that symbol and an output. -/
def wHead : State :=
  { wU with bmx := { wU.bmx with jobs := [jU] }, ulr := { wU.ulr with outs := [wOut], ffts := [{ sym := 0, grid := [], txMap := 0, rxMap := 0 }] } }
/-- SERVICE with a kite window at the start of each slot in which the chip transmits. -/
def wKite : State :=
  (({ wLive with air := { wLive.air with pats := [{ nSlot := 1, kiteK := 0, calK := 0, syms := List.replicate 6 9 ++ List.replicate 8 0 }] } }.wr
    Reg.KTE_CFG 0x80010000).setFld Reg.TIM_QUAL 17 16 2)
/-- The same, in which it receives. -/
def wHear : State := { wKite.wr Reg.KTE_CFG 0x40010000 with kte := { wKite.kte with listen := some 0 } }
/-- The same at the instant at which the listen interval of its first window begins, no listen interval being open. -/
def wListen : State :=
  let s : State := { wHear with now := 0, kte := { wHear.kte with listen := none } }
  s.setFld Reg.KTE_RX_CFG 4 0 0
/-- Two detector peaks. -/
def wPeak : KitePeak := { c := (1000, 0), lag := 100, beam := 3, fit := { tick := 6553600000000 } }
/-- A copy of 8 bytes of host memory. -/
def wDesc : Desc := { index := 0, op := 0, event := true, queue := 0, esize := 0, src := 0xF1600000, dst := 0xF1600100, len := 8, table := 0 }
/-- Spool 20 in a state of SPL_STAT with a descriptor. -/
def wSpl (c : Nat) (x : Spool) : State :=
  let s : State := { wLive with mem := { wLive.mem with spools := wLive.mem.spools.set 20 x } }
  ((s.setFld (Reg.SPL_STAT 20) 31 28 c).wr (Reg.SPL_RING_BASE 20) 0xF1610000).wr (Reg.SPL_RING_CFG 20) 3
/-- SERVICE in an active CAL symbol. -/
def wCal : State := { wRx with air := { wRx.air with pats := [{ nSlot := 1, kiteK := 0, calK := 0, syms := List.replicate 14 10 }] } }
/-- The same response at every tone. -/
def wTones (x y : Int) : Tones := Vector.replicate 9 (x, y)
/-- An array calibration that measures the same response everywhere. -/
def wArray : ArrayCal :=
  { tx := Vector.replicate 64 (wTones 1000 0), rx := Vector.replicate 64 (wTones 0 1000), txRes := Vector.replicate 64 (Vector.replicate 9 5),
    rxRes := Vector.replicate 64 (Vector.replicate 9 9), steps := Vector.replicate 64 none }
/-- The results of a path. -/
def wPathCal : PathCal :=
  { cells := none, bw := some (3, 4), ofs := none, taps := some (#v[1,2,3,4], #v[5,6,7,8]), txRej := some (Vector.replicate 8 (1, 10000)),
    loLeak := some (1, 100000), rxRej := some (Vector.replicate 8 (1, 1000000)), steps := some (Vector.replicate 32 (1000, 10)) }
/-- A training frame's half-bits. -/
def wHalf (bs : Vector Byte 16) (inv : Bool) : Vector Bool 272 := Vector.ofFn fun i => (frameHalves bs.toList).getD i.val false != inv
/-- One copy of a back-channel set. -/
def wBch (m args : Nat) : List (Vector Byte 8) := [Vector.ofFn fun i => (bchBytes m args).getD i.val 0]
/-- The line bits of a lone MARKER. -/
def wMarkBits (bs : Vector Byte 8) : List Bool := (({} : LineOut).word (controlWord bs.toList) true).bits.reverse
/-- A parcel's bytes as words of the lanes 0 to 7, at width 8. -/
def wSets (bs : List Byte) : Vector (List LaneWord) 9 :=
  Vector.ofFn fun l => if l.val = 8 then [] else (packSets 8 bs.length true bs).map fun x => x.word l.val
/-- SERVICE with the UP port up at width 8, the receive lane `l` in the role `l`. -/
def wUp : State :=
  (List.range 9).foldl (fun s l => s.setFld (Reg.LN_LANE_RX 0 l) 31 24 (0x80 + l)) (wLive.setFld (Reg.LN_TRAIN_STAT 0) 31 0 0x510881FF)
/-- A word of a SLEEP set of type NAP on every lane. -/
def wSleep : Vector (List LaneWord) 9 :=
  Vector.ofFn fun l => if l.val = 8 then [] else [(OutSet.control [0x55, 2, 0, 0, 0, 0, 0, 0]).word l.val]

/-! Each check by the kernel is awaited in turn: with all of them waiting at once Lean would start a thread for each. -/

section
set_option Elab.async false

/-- Witnesses for `Obligations.ClockLossAndRelock`. -/
theorem wit_clockLossAndRelock :
    (∃ s : State, s.Canon ∧ s.clk.refLost = false) ∧
    (∃ s : State, s.Canon ∧ s.clk.refLost = true) ∧
    (∃ s : State, s.Canon ∧ s.clk.refLost = true) ∧
    (∃ s : State, s.Canon ∧ s.clk.refLost = false) ∧
    (∃ s : State, ∃ (p : Pll), s.Canon ∧ s.clk.plls[p.idx].locked = true) ∧
    (∃ s : State, ∃ (p : Pll), s.Canon ∧ s.clk.plls[p.idx].locked = false) ∧
    (∃ s : State, ∃ (p : Pll) (n : Nat), s.Canon ∧ s.clk.plls[p.idx].attempt = some n ∧ s.now - s.clk.plls[p.idx].attemptAt ≤ attemptTicks p.idx) ∧
    (∃ s : State, ∃ (p : Pll), s.Canon ∧ (s.clk.plls[p.idx].attempt = none ∨ attemptTicks p.idx < s.now - s.clk.plls[p.idx].attemptAt)) ∧
    (∃ s : State, ∃ (p : Pll) (n : Nat), s.Canon ∧ s.clk.plls[p.idx].attempt = some n ∧ attemptTicks p.idx ≤ s.now - s.clk.plls[p.idx].attemptAt) ∧
    (∃ s : State, ∃ (p : Pll), s.Canon ∧ (s.clk.plls[p.idx].attempt = none ∨ s.now - s.clk.plls[p.idx].attemptAt < attemptTicks p.idx)) ∧
    (∃ s : State, ∃ (p : Pll) (a : Nat), s.Canon ∧ s.clk.plls[p.idx].exhausted = some a ∧ msPassed (s.now - a) 100 = true ∧ s.mode ≠ .boot) ∧
    (∃ s : State, ∃ (p : Pll), s.Canon ∧ (s.mode = .boot ∨ (s.clk.plls[p.idx].exhausted.all fun a => !msPassed (s.now - a) 100) = true)) :=
  ⟨by refine ⟨State.reset, ?_⟩; decide +kernel,
    by refine ⟨{ State.reset with clk := { State.reset.clk with refLost := true } }, ?_⟩; decide +kernel,
    by refine ⟨{ State.reset with clk := { State.reset.clk with refLost := true } }, ?_⟩; decide +kernel,
    by refine ⟨State.reset, ?_⟩; decide +kernel,
    by refine ⟨{ State.reset with clk := { State.reset.clk with plls := State.reset.clk.plls.set 3 { locked := true } } }, .lpll, ?_⟩; decide +kernel,
    by refine ⟨State.reset, .gpll, ?_⟩; decide +kernel,
    by refine ⟨{ State.reset with clk := { State.reset.clk with plls := State.reset.clk.plls.set 3 { attempt := some 2 } } }, .lpll, 2, ?_⟩; decide +kernel,
    by refine ⟨State.reset, .lpll, ?_⟩; decide +kernel,
    by refine ⟨{ State.reset with now := 200000, clk := { State.reset.clk with plls := State.reset.clk.plls.set 3 { attempt := some 3 } } }, .lpll, 3, ?_⟩; decide +kernel,
    by refine ⟨State.reset, .lpll, ?_⟩; decide +kernel,
    by refine ⟨{ State.reset with now := 98304000, mode := .ready, clk := { State.reset.clk with plls := State.reset.clk.plls.set 3 { exhausted := some 0 } } }, .lpll, 0, ?_⟩; decide +kernel,
    by refine ⟨State.reset, .lpll, ?_⟩; decide +kernel⟩

/-- Witnesses for `Obligations.ClockTreeTrackingAndRecentring`. -/
theorem wit_clockTreeTrackingAndRecentring :
    (∃ s : State, s.Canon) ∧
    (∃ s : State, ∃ (len : Nat), s.Canon ∧ s.windowHere = some len ∧ nsPassed len 16000 = true) ∧
    (∃ s : State, s.Canon ∧ (s.windowHere.all fun len => !nsPassed len 16000) = true) ∧
    (∃ s : State, s.Canon ∧ s.clk.recentring = true) ∧
    (∃ s : State, s.Canon ∧ s.clk.recentring = false) ∧
    (∃ s : State, ∃ (a : Nat), s.Canon ∧ s.clk.recentreReq = some a ∧ 20 * 983040 < s.now - a ∧ s.clk.recentreLate = false) ∧
    (∃ s : State, s.Canon ∧ (s.clk.recentreLate = true ∨ s.clk.recentreReq = none)) ∧
    (∃ s : State, s.Canon) :=
  ⟨by refine ⟨{ State.reset with clk := { State.reset.clk with leafRef := State.reset.clk.leafRef.set 5 (some 100) } }, ?_⟩; decide +kernel,
    by refine ⟨{ State.reset with now := 38730, air := { State.reset.air with origin := some (0, 0), pats := [{ nSlot := 1, kiteK := 0, calK := 0, syms := 0 :: List.replicate 13 11 }] }, clk := { State.reset.clk with recentreReq := some 0, trimDue := true } }, 449644, ?_⟩; decide +kernel,
    by refine ⟨State.reset, ?_⟩; decide +kernel,
    by refine ⟨{ State.reset with clk := { State.reset.clk with recentring := true } }, ?_⟩; decide +kernel,
    by refine ⟨State.reset, ?_⟩; decide +kernel,
    by refine ⟨{ State.reset with now := 19660801, clk := { State.reset.clk with recentreReq := some 0 } }, 0, ?_⟩; decide +kernel,
    by refine ⟨State.reset, ?_⟩; decide +kernel,
    by refine ⟨State.reset, ?_⟩; decide +kernel⟩

/-- Witnesses for `Obligations.LoRetuneAndCarrierOffsets`. -/
theorem wit_loRetuneAndCarrierOffsets :
    (∃ s : State, s.Canon ∧ s.writable = true) ∧
    (∃ s : State, s.Canon ∧ s.writable = false) ∧
    (∃ s : State, s.Canon ∧ s.writable = true) ∧
    (∃ s : State, s.Canon ∧ s.writable = false) ∧
    (∃ s : State, s.Canon) ∧
    (∃ s : State, ∃ (a : Nat), s.Canon ∧ s.clk.settling = some a ∧ usPassed (s.now - a) 80 = true) ∧
    (∃ s : State, s.Canon ∧ s.clk.settling = none) :=
  ⟨by refine ⟨wOpen, ?_⟩; decide +kernel,
    by refine ⟨State.reset, ?_⟩; decide +kernel,
    by refine ⟨wOpen, ?_⟩; decide +kernel,
    by refine ⟨State.reset, ?_⟩; decide +kernel,
    by refine ⟨{ State.reset with clk := { State.reset.clk with retune := some { code := 120000, notBefore := 0 } } }, ?_⟩; decide +kernel,
    by refine ⟨{ State.reset with now := 80000, clk := { State.reset.clk with settling := some 0 } }, 0, ?_⟩; decide +kernel,
    by refine ⟨State.reset, ?_⟩; decide +kernel⟩

/-- Witnesses for `Obligations.TimeCounterCommands`. -/
theorem wit_timeCounterCommands :
    (∃ s : State, s.Canon ∧ s.writable = true) ∧
    (∃ s : State, s.Canon ∧ s.writable = false) ∧
    (∃ s : State, s.Canon ∧ s.writable = true) ∧
    (∃ s : State, s.Canon ∧ s.writable = false) ∧
    (∃ s : State, s.Canon) ∧
    (∃ s : State, s.Canon ∧ s.writable = true) ∧
    (∃ s : State, s.Canon ∧ s.writable = false) ∧
    (∃ s : State, s.Canon) :=
  ⟨by refine ⟨wOpen, ?_⟩; decide +kernel,
    by refine ⟨State.reset, ?_⟩; decide +kernel,
    by refine ⟨wOpen, ?_⟩; decide +kernel,
    by refine ⟨State.reset, ?_⟩; decide +kernel,
    by refine ⟨{ State.reset with tns := 12345678901234 }, ?_⟩; decide +kernel,
    by refine ⟨wLive, ?_⟩; decide +kernel,
    by refine ⟨State.reset, ?_⟩; decide +kernel,
    by refine ⟨State.reset, ?_⟩; decide +kernel⟩

/-- Witnesses for `Obligations.DelayRequestAndEpoch`. -/
theorem wit_delayRequestAndEpoch :
    (∃ s : State, s.Canon ∧ s.writable = true) ∧
    (∃ s : State, s.Canon ∧ s.writable = false) ∧
    (∃ s : State, s.Canon ∧ s.writable = true) ∧
    (∃ s : State, s.Canon ∧ s.writable = false) ∧
    (∃ s : State, s.Canon ∧ s.bit Reg.TIM_EPOCH_CTRL 31 = true ∧ (s.ns + 2 ^ 32 - s.tim.epochNs) % 2 ^ 32 < 2 ^ 31) ∧
    (∃ s : State, s.Canon ∧ (s.bit Reg.TIM_EPOCH_CTRL 31 = false ∨ 2 ^ 31 ≤ (s.ns + 2 ^ 32 - s.tim.epochNs) % 2 ^ 32)) ∧
    (∃ s : State, s.Canon ∧ s.writable = true) ∧
    (∃ s : State, s.Canon ∧ s.writable = false) ∧
    (∃ s : State, s.Canon ∧ s.mode = .ready ∧ s.tim.fired = true ∧ s.tim.firedAt < s.now) ∧
    (∃ s : State, ∃ (low : Nat), s.Canon ∧ s.mode = .ready ∧ s.tim.fired = false ∧ s.bit Reg.SYN_ALIGN 0 = true ∧ 2 ≤ low ∧ s.tim.armAt + 8 < s.now) ∧
    (∃ s : State, ∃ (low : Nat), s.Canon ∧ (s.mode ≠ .ready ∨ (s.tim.fired = true ∧ s.now ≤ s.tim.firedAt) ∨ (s.tim.fired = false ∧ (s.bit Reg.SYN_ALIGN 0 = false ∨ low < 2 ∨ s.now ≤ s.tim.armAt + 8)))) :=
  ⟨by refine ⟨wOpen, ?_⟩; decide +kernel,
    by refine ⟨State.reset, ?_⟩; decide +kernel,
    by refine ⟨wOpen, ?_⟩; decide +kernel,
    by refine ⟨State.reset, ?_⟩; decide +kernel,
    by refine ⟨State.reset.wr Reg.TIM_EPOCH_CTRL 0x80000000, ?_⟩; decide +kernel,
    by refine ⟨State.reset, ?_⟩; decide +kernel,
    by refine ⟨wOpen, ?_⟩; decide +kernel,
    by refine ⟨State.reset, ?_⟩; decide +kernel,
    by refine ⟨{ wOpen with tim := { State.reset.tim with fired := true, epochSfn := 17 }, now := 9 }, ?_⟩; decide +kernel,
    by refine ⟨{ wOpen.wr Reg.SYN_ALIGN 1 with now := 9 }, 2, ?_⟩; decide +kernel,
    by refine ⟨State.reset, 2, ?_⟩; decide +kernel⟩

/-- Witnesses for `Obligations.RxToTxTurnaroundTable`. -/
theorem wit_rxToTxTurnaroundTable :
    (∃ s : State, s.Canon) ∧
    (∃ s : State, ∃ (b : Fin 16) (x : Burst), s.Canon ∧ s.seq.burst = some x ∧ x.quad.val = 16 * s.position + b.val ∧ ((x.span = none ∨ x.span.map Prod.fst = some s.now)) ∧ s.seq.quads[b].st = .receive) ∧
    (∃ s : State, s.Canon) ∧
    (∃ s : State, s.Canon) ∧
    (∃ s : State, s.Canon) ∧
    (∃ s : State, s.Canon) ∧
    (∃ s : State, s.Canon) ∧
    (∃ s : State, s.Canon) ∧
    (∃ s : State, s.Canon) :=
  ⟨by refine ⟨wRx, ?_⟩; decide +kernel,
    by refine ⟨{ wRx with seq := { wRx.seq with burst := some { quad := 3 } } }, 3, { quad := 3 }, ?_⟩; decide +kernel,
    by refine ⟨wRx, ?_⟩; decide +kernel,
    by refine ⟨{ wTx with kte := { wTx.kte with turn := some 0 } }, ?_⟩; decide +kernel,
    by refine ⟨wTx, ?_⟩; decide +kernel,
    by refine ⟨((wTx.setBit (Reg.BIA_GROUP 0) 8 true).setFld (Reg.BIA_STAGE 3) 15 0 700).setFld (Reg.BIA_LIMIT 3) 31 16 60000, ?_⟩; decide +kernel,
    by refine ⟨wBurst, ?_⟩; decide +kernel,
    by refine ⟨wTx, ?_⟩; decide +kernel,
    by refine ⟨wTx, ?_⟩; decide +kernel⟩

/-- Witnesses for `Obligations.TxToRxTurnaroundTable`. -/
theorem wit_txToRxTurnaroundTable :
    (∃ s : State, ∃ (tn : Turn), s.Canon ∧ s.anchorHere tn = true) ∧
    (∃ s : State, ∃ (tn : Turn), s.Canon ∧ s.anchorHere tn = false) ∧
    (∃ s : State, s.Canon) ∧
    (∃ s : State, s.Canon) ∧
    (∃ s : State, s.Canon) ∧
    (∃ s : State, s.Canon) ∧
    (∃ s : State, s.Canon) ∧
    (∃ s : State, s.Canon) ∧
    (∃ s : State, s.Canon) ∧
    (∃ s : State, s.Canon) ∧
    (∃ s : State, ∃ (p : Fin 64) (a : AirSym), s.Canon ∧ (s.kte.listen = none ∨ s.paths[p].agcMode ≠ 2) ∧ s.paths[p].agcArmed = true ∧ s.paths[p].agcWin < agcWindows a) ∧
    (∃ s : State, ∃ (p : Fin 64), s.Canon ∧ s.kte.listen ≠ none ∧ s.paths[p].agcMode = 2 ∧ s.bit (Reg.RXP_AGC_STAT p) 16 = false) ∧
    (∃ s : State, ∃ (p : Fin 64), s.Canon ∧ s.kte.listen = none ∧ s.paths[p].agcArmed = false) ∧
    (∃ s : State, s.Canon) :=
  ⟨by refine ⟨wTx, .pattern, ?_⟩; decide +kernel,
    by refine ⟨{ wTx with seq := { wTx.seq with burst := some { quad := 3, span := some (0, 9000), turn := true } } }, .burst 3, ?_⟩; decide +kernel,
    by refine ⟨{ wBurst with seq := { wBurst.seq with burstPa := some 4000 } }, ?_⟩; decide +kernel,
    by refine ⟨(wTx.setBit (Reg.BIA_GROUP 0) 8 true).setFld (Reg.BIA_STAGE 3) 31 16 700, ?_⟩; decide +kernel,
    by refine ⟨wTx, ?_⟩; decide +kernel,
    by refine ⟨wTx, ?_⟩; decide +kernel,
    by refine ⟨wTx, ?_⟩; decide +kernel,
    by refine ⟨wTx, ?_⟩; decide +kernel,
    by refine ⟨wTx, ?_⟩; decide +kernel,
    by refine ⟨wTx, ?_⟩; decide +kernel,
    by refine ⟨{ wTx with paths := wTx.paths.set 5 { agcArmed := true } }, 5, ⟨0, 0, 0⟩, ?_⟩; decide +kernel,
    by refine ⟨{ wTx with paths := wTx.paths.set 5 { agcCfg := 0x00020000#32 }, kte := { State.reset.kte with listen := some 0 } }, 5, ?_⟩; decide +kernel,
    by refine ⟨State.reset, 5, ?_⟩; decide +kernel,
    by refine ⟨{ wTx with paths := wTx.paths.set 5 { agcArmed := true } }, ?_⟩; decide +kernel⟩

/-- Witnesses for `Obligations.SymbolCommitPoint`. -/
theorem wit_symbolCommitPoint :
    (∃ s : State, ∃ (a : AirSym), s.Canon ∧ s.aligned = true ∧ s.isD a = true ∧ s.liveFor (s.dlTick a) = true) ∧
    (∃ s : State, ∃ (a : AirSym), s.Canon ∧ s.aligned = true ∧ s.isU a = true ∧ s.liveFor (s.ulTick a) = true) ∧
    (∃ s : State, ∃ (a : AirSym), s.Canon ∧ s.aligned = true ∧ (s.isD a || s.isU a) = true ∧ s.liveFor (s.airStart a) = false) ∧
    (∃ s : State, s.Canon ∧ s.aligned = false) :=
  ⟨by refine ⟨wD, a0, ?_⟩; decide +kernel,
    by refine ⟨wU, a0, ?_⟩; decide +kernel,
    by refine ⟨{ wD with mode := .safe }, a0, ?_⟩; decide +kernel,
    by refine ⟨State.reset, ?_⟩; decide +kernel⟩

/-- Witnesses for `Obligations.SymbolWeightsToAirStart`. -/
theorem wit_symbolWeightsToAirStart :
    (∃ s : State, ∃ (a : AirSym), s.Canon ∧ (s.jobOf a).isSome = true) ∧
    (∃ s : State, ∃ (a : AirSym), s.Canon ∧ (s.jobOf a).isSome = true ∧ s.isD a = true) ∧
    (∃ s : State, ∃ (a : AirSym), s.Canon ∧ s.jobOf a = none) ∧
    (∃ s : State, ∃ (a : AirSym), s.Canon ∧ (s.jobOf a).isSome = true) ∧
    (∃ s : State, s.Canon) ∧
    (∃ s : State, ∃ (a : AirSym) (j : SymJob), s.Canon ∧ s.jobOf a = some j ∧ s.isD a = true) ∧
    (∃ s : State, ∃ (a : AirSym), s.Canon ∧ s.jobOf a = none ∧ s.isD a = true) ∧
    (∃ s : State, ∃ (a : AirSym), s.Canon ∧ s.isD a = false) :=
  ⟨by refine ⟨wJob, a0, ?_⟩; decide +kernel,
    by refine ⟨wJob, a0, ?_⟩; decide +kernel,
    by refine ⟨wD, a0, ?_⟩; decide +kernel,
    by refine ⟨wJob, a0, ?_⟩; decide +kernel,
    by refine ⟨{ wJob with seq := { wJob.seq with scales := [(0, 1, 30000), (0, 0, 20000), (9, 0, 1)] } }, ?_⟩; decide +kernel,
    by refine ⟨wJob, a0, j0, ?_⟩; decide +kernel,
    by refine ⟨wD, a0, ?_⟩; decide +kernel,
    by refine ⟨wU, a0, ?_⟩; decide +kernel⟩

/-- Witnesses for `Obligations.AttenuationSlicesAndCrossbar`. -/
theorem wit_attenuationSlicesAndCrossbar :
    (∃ s : State, s.Canon ∧ s.writable = true) ∧
    (∃ s : State, s.Canon ∧ s.writable = false) ∧
    (∃ s : State, s.Canon) ∧
    (∃ s : State, ∃ (p : Fin 64) (k : Nat), s.Canon ∧ s.paths[p].sliceDue = some k ∧ k < 8 ∧ s.ballastUsable p = true) ∧
    (∃ s : State, ∃ (p : Fin 64) (k : Nat), s.Canon ∧ s.paths[p].sliceDue = some k ∧ s.ballastUsable p = false ∧ s.rxRetired p = false) ∧
    (∃ s : State, ∃ (p : Fin 64), s.Canon ∧ s.paths[p].sliceDue = none) ∧
    (∃ s : State, s.Canon ∧ s.writable = true) ∧
    (∃ s : State, s.Canon ∧ s.writable = false) ∧
    (∃ s : State, ∃ (k : Fin 9), s.Canon ∧ s.fld (Reg.RXP_OBS_ROUTE k) 1 0 = 3) ∧
    (∃ s : State, ∃ (k : Fin 9), s.Canon ∧ s.fld (Reg.RXP_OBS_ROUTE k) 1 0 ≠ 3) :=
  ⟨by refine ⟨wOpen, ?_⟩; decide +kernel,
    by refine ⟨State.reset, ?_⟩; decide +kernel,
    by refine ⟨State.reset, ?_⟩; decide +kernel,
    by refine ⟨{ State.reset with paths := State.reset.paths.set 3 { sliceDue := some 6 } }, 3, 6, ?_⟩; decide +kernel,
    by refine ⟨{ State.reset with paths := State.reset.paths.set 3 { sliceDue := some 6 } }.setBit (Reg.RXP_SLICE 3) 30 true, 3, 6, ?_⟩; decide +kernel,
    by refine ⟨State.reset, 3, ?_⟩; decide +kernel,
    by refine ⟨wOpen, ?_⟩; decide +kernel,
    by refine ⟨State.reset, ?_⟩; decide +kernel,
    by refine ⟨State.reset.setFld (Reg.RXP_OBS_ROUTE 4) 1 0 3, 4, ?_⟩; decide +kernel,
    by refine ⟨State.reset, 4, ?_⟩; decide +kernel⟩

/-- Witnesses for `Obligations.RetirementAndReinstatement`. -/
theorem wit_retirementAndReinstatement :
    (∃ s : State, s.Canon ∧ s.writable = true) ∧
    (∃ s : State, s.Canon ∧ s.writable = false) ∧
    (∃ s : State, s.Canon ∧ s.writable = true) ∧
    (∃ s : State, s.Canon ∧ s.writable = false) ∧
    (∃ s : State, s.Canon ∧ s.writable = true) ∧
    (∃ s : State, s.Canon ∧ s.writable = false) ∧
    (∃ s : State, s.Canon ∧ s.writable = true) ∧
    (∃ s : State, s.Canon ∧ s.writable = false) :=
  ⟨by refine ⟨wOpen, ?_⟩; decide +kernel,
    by refine ⟨State.reset, ?_⟩; decide +kernel,
    by refine ⟨wOpen, ?_⟩; decide +kernel,
    by refine ⟨State.reset, ?_⟩; decide +kernel,
    by refine ⟨{ wOpen with paths := wOpen.paths.set 32 { txCal := some true } }.wr (Reg.TXP_RETIRE 32) 0x80000005, ?_⟩; decide +kernel,
    by refine ⟨State.reset, ?_⟩; decide +kernel,
    by refine ⟨{ wOpen with paths := wOpen.paths.set 32 { rxCal := some true } }.wr (Reg.RXP_RETIRE 32) 0x80000005, ?_⟩; decide +kernel,
    by refine ⟨State.reset, ?_⟩; decide +kernel⟩

/-- Witnesses for `Obligations.BiasChannelCommands`. -/
theorem wit_biasChannelCommands :
    (∃ s : State, s.Canon ∧ s.writable = true) ∧
    (∃ s : State, s.Canon ∧ s.writable = false) ∧
    (∃ s : State, s.Canon ∧ s.kpr.imageLoaded = true) ∧
    (∃ s : State, s.Canon ∧ s.kpr.imageLoaded = false) ∧
    (∃ s : State, ∃ (w : Word), s.Canon ∧ s.writable = true ∧ fldOf w 7 0 ≠ 0) ∧
    (∃ s : State, ∃ (w : Word), s.Canon ∧ (s.writable = false ∨ fldOf w 7 0 = 0)) ∧
    (∃ s : State, s.Canon ∧ s.pins.biasClrN = true ∧ s.mode ≠ .shelf) ∧
    (∃ s : State, s.Canon ∧ s.pins.biasClrN = true ∧ s.mode = .shelf) ∧
    (∃ s : State, s.Canon ∧ s.pins.biasClrN = false) ∧
    (∃ s : State, s.Canon) ∧
    (∃ s : State, ∃ (c : Fin 80) (en : Bool), s.Canon ∧ s.writable = true ∧ s.bit (Reg.BIA_CH_CFG c) 31 ≠ en) ∧
    (∃ s : State, ∃ (c : Fin 80) (en : Bool), s.Canon ∧ (s.writable = false ∨ s.bit (Reg.BIA_CH_CFG c) 31 = en)) ∧
    (∃ s : State, s.Canon) :=
  ⟨by refine ⟨wOpen.setBit (Reg.BIA_CH_CFG 70) 24 true, ?_⟩; decide +kernel,
    by refine ⟨State.reset, ?_⟩; decide +kernel,
    by refine ⟨{ wTx with kpr := { wTx.kpr with imageLoaded := true }, bias := wTx.bias.set 5 { queue := [100, 7] } }.setFld (Reg.BIA_LIMIT 5) 31 16 60000, ?_⟩; decide +kernel,
    by refine ⟨State.reset, ?_⟩; decide +kernel,
    by refine ⟨(wOpen.setFld (Reg.BIA_STAGE 9) 31 16 500).setFld (Reg.BIA_LIMIT 9) 31 16 60000, 0x10001, ?_⟩; decide +kernel,
    by refine ⟨State.reset, 0, ?_⟩; decide +kernel,
    by refine ⟨wTx, ?_⟩; decide +kernel,
    by refine ⟨{ wTx with mode := .shelf }, ?_⟩; decide +kernel,
    by refine ⟨{ wTx with pins := { wTx.pins with biasClrN := false } }, ?_⟩; decide +kernel,
    by refine ⟨State.reset, ?_⟩; decide +kernel,
    by refine ⟨wOpen, 3, (!wOpen.bit (Reg.BIA_CH_CFG 3) 31), ?_⟩; decide +kernel,
    by refine ⟨State.reset, 3, true, ?_⟩; decide +kernel,
    by refine ⟨{ wOpen with bias := wOpen.bias.set 4 { pwr := .falling, deferred := some true } }, ?_⟩; decide +kernel⟩

/-- Witnesses for `Obligations.HousekeepingAdc`. -/
theorem wit_housekeepingAdc :
    (∃ s : State, s.Canon ∧ s.kpr.imageLoaded = true ∧ (s.fld Reg.HKA_SEQ_CFG 31 30 = 1 ∨ (s.fld Reg.HKA_SEQ_CFG 31 30 = 2 ∧ (s.hka.trigAt.all fun t => usPassed (s.now - t) s.hkaPeriod) = true)) ∧ s.passRuns = false ∧ s.hka.conv = none) ∧
    (∃ s : State, s.Canon ∧ s.kpr.imageLoaded = true ∧ (s.fld Reg.HKA_SEQ_CFG 31 30 = 2 ∧ (s.hka.trigAt.all fun t => usPassed (s.now - t) s.hkaPeriod) = true) ∧ s.passRuns = true) ∧
    (∃ s : State, ∃ (e : Nat) (l : List Nat), s.Canon ∧ s.kpr.imageLoaded = true ∧ s.fld Reg.HKA_SEQ_CFG 31 30 = 3 ∧ s.hka.edges = e :: l ∧ s.fld Reg.HKA_SEQ_TIME 15 0 * 98304 ≤ (s.now - e) * 1000 ∧ s.passRuns = false ∧ s.hka.conv = none) ∧
    (∃ s : State, s.Canon ∧ (s.kpr.imageLoaded = false ∨ s.fld Reg.HKA_SEQ_CFG 31 30 = 0 ∨ (s.fld Reg.HKA_SEQ_CFG 31 30 = 3 ∧ s.hka.edges = []))) ∧
    (∃ s : State, ∃ (c : Conv), s.Canon ∧ s.hka.conv = some c ∧ c ≠ .cal ∧ s.hka.convAt ≤ s.now ∧ nsPassed (s.now - s.hka.convAt) 500 = true ∧ s.hka.cnt + 1 < s.hkaAvg c) ∧
    (∃ s : State, s.Canon ∧ s.hka.conv = some .seq ∧ s.hka.convAt ≤ s.now ∧ nsPassed (s.now - s.hka.convAt) 500 = true ∧ s.hkaAvg .seq ≤ s.hka.cnt + 1) ∧
    (∃ s : State, ∃ (n : Nat), s.Canon ∧ s.hka.conv = some (.oneshot n) ∧ s.hka.convAt ≤ s.now ∧ nsPassed (s.now - s.hka.convAt) 500 = true ∧ 2 ^ n ≤ s.hka.cnt + 1) ∧
    (∃ s : State, s.Canon ∧ s.hka.conv = none) ∧
    (∃ s : State, s.Canon ∧ s.writable = true) ∧
    (∃ s : State, s.Canon ∧ s.writable = false) ∧
    (∃ s : State, ∃ (w : Word), s.Canon ∧ s.writable = true ∧ bitOf w.toNat 31 = true) ∧
    (∃ s : State, ∃ (w : Word), s.Canon ∧ (s.writable = false ∨ bitOf w.toNat 31 = false)) ∧
    (∃ s : State, s.Canon ∧ s.bit Reg.HKA_CAL_CTL 30 = true) ∧
    (∃ s : State, s.Canon ∧ s.bit Reg.HKA_CAL_CTL 30 = false) :=
  ⟨by refine ⟨{ wTx with kpr := { wTx.kpr with imageLoaded := true } }.setFld Reg.HKA_SEQ_CFG 31 30 1, ?_⟩; decide +kernel,
    by refine ⟨({ wTx with kpr := { wTx.kpr with imageLoaded := true } }.setFld Reg.HKA_SEQ_CFG 31 30 2).setBit Reg.HKA_SEQ_STAT 31 true, ?_⟩; decide +kernel,
    by refine ⟨{ wTx with kpr := { wTx.kpr with imageLoaded := true }, hka := { wTx.hka with edges := [5, 9] } }.setFld Reg.HKA_SEQ_CFG 31 30 3, 5, [9], ?_⟩; decide +kernel,
    by refine ⟨State.reset, ?_⟩; decide +kernel,
    by refine ⟨{ wTx with hka := { wTx.hka with conv := some (.oneshot 3) } }, .oneshot 3, ?_⟩; decide +kernel,
    by refine ⟨{ wTx with hka := { wTx.hka with conv := some .seq } }, ?_⟩; decide +kernel,
    by refine ⟨{ wTx with hka := { wTx.hka with conv := some (.oneshot 0) } }, 0, ?_⟩; decide +kernel,
    by refine ⟨State.reset, ?_⟩; decide +kernel,
    by refine ⟨wOpen, ?_⟩; decide +kernel,
    by refine ⟨State.reset, ?_⟩; decide +kernel,
    by refine ⟨wOpen.wr Reg.HKA_CAL_REF 1000000, 0x80000000, ?_⟩; decide +kernel,
    by refine ⟨State.reset, 0, ?_⟩; decide +kernel,
    by refine ⟨(wOpen.wr Reg.HKA_CAL_REF 1000000).wr Reg.HKA_CAL_CTL 0xC0000000, ?_⟩; decide +kernel,
    by refine ⟨State.reset, ?_⟩; decide +kernel⟩

/-- Witnesses for `Obligations.ThermalScanJudgesThresholds`. -/
theorem wit_thermalScanJudgesThresholds :
    (∃ s : State, s.Canon ∧ s.kpr.imageLoaded = true) ∧
    (∃ s : State, s.Canon ∧ s.kpr.imageLoaded = false) :=
  ⟨by refine ⟨{ wTx with kpr := { wTx.kpr with imageLoaded := true } }, ?_⟩; decide +kernel,
    by refine ⟨State.reset, ?_⟩; decide +kernel⟩

/-- Witnesses for `Obligations.QuadPowerTransitions`. -/
theorem wit_quadPowerTransitions :
    (∃ s : State, ∃ (q : Fin 16), s.Canon ∧ s.seq.quads[q].st = .rising) ∧
    (∃ s : State, ∃ (q : Fin 16), s.Canon ∧ s.seq.quads[q].st ≠ .rising) ∧
    (∃ s : State, ∃ (q : Fin 16), s.Canon ∧ s.seq.quads[q].st = .falling) ∧
    (∃ s : State, ∃ (q : Fin 16), s.Canon ∧ s.seq.quads[q].st ≠ .falling) ∧
    (∃ s : State, s.Canon ∧ s.writable = true) ∧
    (∃ s : State, s.Canon ∧ s.writable = false) ∧
    (∃ s : State, ∃ (c : SetChange), s.Canon ∧ s.seq.waiting = some c ∧ c.near s.now 16 = true ∧ s.seq.underway = none) ∧
    (∃ s : State, s.Canon ∧ s.seq.waiting = none) ∧
    (∃ s : State, ∃ (c : SetChange), s.Canon ∧ s.seq.underway = some c ∧ c.near s.now 0 = true ∧ c.kind ≠ .standDown) ∧
    (∃ s : State, ∃ (c : SetChange), s.Canon ∧ s.seq.underway = some c ∧ c.near s.now 0 = true ∧ c.kind = .standDown) ∧
    (∃ s : State, s.Canon ∧ s.seq.underway = none) :=
  ⟨by refine ⟨{ wTx with seq := { wTx.seq with quads := wTx.seq.quads.set 4 { st := .rising } } }, 4, ?_⟩; decide +kernel,
    by refine ⟨State.reset, 4, ?_⟩; decide +kernel,
    by refine ⟨{ wTx with seq := { wTx.seq with quads := wTx.seq.quads.set 4 { st := .falling, deferred := some true } } }, 4, ?_⟩; decide +kernel,
    by refine ⟨State.reset, 4, ?_⟩; decide +kernel,
    by refine ⟨wD, ?_⟩; decide +kernel,
    by refine ⟨State.reset, ?_⟩; decide +kernel,
    by refine ⟨{ wRx with seq := { wRx.seq with waiting := some { kind := .lean, quads := 0xF, carMask := 1, anchor := none } } }, { kind := .lean, quads := 0xF, carMask := 1, anchor := none }, ?_⟩; decide +kernel,
    by refine ⟨State.reset, ?_⟩; decide +kernel,
    by refine ⟨{ wRx with seq := { wRx.seq with underway := some { kind := .lean, quads := 0xF, carMask := 1, anchor := none } } }, { kind := .lean, quads := 0xF, carMask := 1, anchor := none }, ?_⟩; decide +kernel,
    by refine ⟨{ wRx with seq := { wRx.seq with underway := some { kind := .standDown, quads := 0, carMask := 0, anchor := none } } }, { kind := .standDown, quads := 0, carMask := 0, anchor := none }, ?_⟩; decide +kernel,
    by refine ⟨State.reset, ?_⟩; decide +kernel⟩

/-- Witnesses for `Obligations.CalibrationJobs`. -/
theorem wit_calibrationJobs :
    (∃ s : State, ∃ (w : Word), s.Canon ∧ s.writable = true ∧ bitOf w.toNat 30 = false ∧ bitOf w.toNat 31 = true) ∧
    (∃ s : State, s.Canon ∧ s.writable = false) ∧
    (∃ s : State, ∃ (j : CalJob), s.Canon ∧ s.seq.job = some j ∧ s.writable = true ∧ j.startup = false) ∧
    (∃ s : State, s.Canon ∧ ((s.seq.job.all fun j => j.startup) = true ∨ s.writable = false)) ∧
    (∃ s : State, s.Canon ∧ s.calUse = some 2 ∧ s.mode ≠ .shelf) ∧
    (∃ s : State, s.Canon ∧ (s.calUse ≠ some 2 ∨ s.mode = .shelf)) ∧
    (∃ s : State, ∃ (p : Fin 64) (r : PathCal) (bg : Bool) (x : PathCal), s.Canon ∧ s.pathTaken p r = some (bg, x)) ∧
    (∃ s : State, ∃ (p : Fin 64) (r : PathCal), s.Canon ∧ s.pathTaken p r = none) ∧
    (∃ s : State, ∃ (bg : Bool), s.Canon ∧ s.arrayTaken = some bg) ∧
    (∃ s : State, s.Canon ∧ s.arrayTaken = none) ∧
    (∃ s : State, s.Canon ∧ s.atStep 9 = true ∧ s.burstsDone = true) ∧
    (∃ s : State, s.Canon ∧ s.atStep 1 = true) ∧
    (∃ s : State, s.Canon ∧ (s.atStep 9 = false ∨ s.burstsDone = false)) ∧
    (∃ s : State, s.Canon ∧ s.atStep 1 = false) ∧
    (∃ s : State, s.Canon ∧ s.seq.job = none ∧ s.bgRuns = true) ∧
    (∃ s : State, s.Canon ∧ s.seq.job = none ∧ s.bgRuns = false) ∧
    (∃ s : State, ∃ (j : CalJob), s.Canon ∧ s.seq.job = some j ∧ j.startup = true ∧ s.allStandby = true ∧ s.fld Reg.SEQ_CAL_STAT 15 8 < s.lastStep) ∧
    (∃ s : State, ∃ (j : CalJob), s.Canon ∧ s.seq.job = some j ∧ j.startup = true ∧ s.allStandby = false) ∧
    (∃ s : State, ∃ (j : CalJob) (k : Nat) (i : Nat), s.Canon ∧ s.seq.job = some j ∧ j.kind = 4 ∧ ((List.range 9).find? fun k => s.fld (Reg.RXP_OBS_ROUTE k) 1 0 = 2 && s.fld (Reg.RXP_OBS_ROUTE k) 22 16 = 64) = some k ∧ ((List.range 9).find? fun i => k < i && s.fld (Reg.RXP_OBS_ROUTE i) 1 0 = 2) = some i) ∧
    (∃ s : State, s.Canon ∧ (s.seq.job.all fun j => j.kind != 4) = true) ∧
    (∃ s : State, ∃ (q : Fin 64) (j : CalJob) (k : Fin 16), s.Canon ∧ s.seq.job = some j ∧ (j.kind = 3 ∨ s.atStep 9 = true) ∧ (s.mode.live = false ∨ s.groupHere.isSome = true) ∧ s.burstNext q = true ∧ (s.seq.burst.all fun x => !x.turn) = true ∧ q.val % 16 = k.val ∧ q.val / 16 = s.position ∧ s.seq.quads[k].st.isDown = false) ∧
    (∃ s : State, ∃ (q : Fin 64) (j : CalJob), s.Canon ∧ s.seq.job = some j ∧ (j.kind = 3 ∨ s.atStep 9 = true) ∧ (s.mode.live = false ∨ s.groupHere.isSome = true) ∧ s.burstNext q = true ∧ (s.seq.burst.all fun x => !x.turn) = true ∧ q.val / 16 ≠ s.position) ∧
    (∃ s : State, ∃ (q : Fin 64), s.Canon ∧ ((s.seq.job.all fun j => j.kind != 3 && !s.atStep 9) = true ∨ s.burstNext q = false ∨ (s.mode.live = true ∧ s.groupHere = none))) ∧
    (∃ s : State, ∃ (j : CalJob), s.Canon ∧ s.seq.job = some j ∧ s.jobEnds j = true) ∧
    (∃ s : State, ∃ (j : CalJob), s.Canon ∧ s.seq.job = some j ∧ j.kind = 4 ∧ j.startup = false) ∧
    (∃ s : State, s.Canon ∧ (s.seq.job.all fun j => !s.jobEnds j) = true) ∧
    (∃ s : State, s.Canon ∧ s.writable = true) ∧
    (∃ s : State, s.Canon ∧ s.writable = false) :=
  ⟨by refine ⟨wOpen.setFld Reg.SEQ_CAL_SEL 15 0 3, 0x80000001, ?_⟩; decide +kernel,
    by refine ⟨State.reset, ?_⟩; decide +kernel,
    by refine ⟨{ wOpen with seq := { wOpen.seq with job := some { kind := 1, quads := 3, quadOut := false } } }, { kind := 1, quads := 3, quadOut := false }, ?_⟩; decide +kernel,
    by refine ⟨State.reset, ?_⟩; decide +kernel,
    by refine ⟨wCal, ?_⟩; decide +kernel,
    by refine ⟨State.reset, ?_⟩; decide +kernel,
    by refine ⟨{ wOpen with seq := { wOpen.seq with job := some { kind := 1, quads := 3, quadOut := false } } }.setFld Reg.SEQ_CAL_LIM 9 0 500, 5, wPathCal, false, wPathCal, ?_⟩; decide +kernel,
    by refine ⟨State.reset, 5, wPathCal, ?_⟩; decide +kernel,
    by refine ⟨{ wOpen with seq := { wOpen.seq with job := some { kind := 2, quads := 3, quadOut := false } } }, false, ?_⟩; decide +kernel,
    by refine ⟨State.reset, ?_⟩; decide +kernel,
    by refine ⟨wStart.setFld Reg.SEQ_CAL_STAT 15 8 9, ?_⟩; decide +kernel,
    by refine ⟨wStart.setFld Reg.SEQ_CAL_STAT 15 8 1, ?_⟩; decide +kernel,
    by refine ⟨State.reset, ?_⟩; decide +kernel,
    by refine ⟨State.reset, ?_⟩; decide +kernel,
    by refine ⟨{ wCal with seq := { wCal.seq with bgBegun := true, window := some { use := 2, stepAt := 100000000, endsAt := 100000009 } } }, ?_⟩; decide +kernel,
    by refine ⟨wTx, ?_⟩; decide +kernel,
    by refine ⟨wStart.setFld Reg.SEQ_CAL_STAT 15 8 7, { kind := 0, quads := 0, quadOut := false, startup := true }, ?_⟩; decide +kernel,
    by refine ⟨{ wStart with seq := { wStart.seq with quads := wStart.seq.quads.set 3 { st := .rising } } }, { kind := 0, quads := 0, quadOut := false, startup := true }, ?_⟩; decide +kernel,
    by refine ⟨(({ wOpen with seq := { wOpen.seq with job := some { kind := 4, quads := 0, quadOut := false } } }.setFld (Reg.RXP_OBS_ROUTE 2) 1 0 2).setFld (Reg.RXP_OBS_ROUTE 2) 22 16 64).setFld (Reg.RXP_OBS_ROUTE 5) 1 0 2, { kind := 4, quads := 0, quadOut := false }, 2, 5, ?_⟩; decide +kernel,
    by refine ⟨State.reset, ?_⟩; decide +kernel,
    by refine ⟨{ wOpen with seq := { wRx.seq with job := some { kind := 3, quads := 3, quadOut := false }, nextBurst := 2 } }, 2, { kind := 3, quads := 3, quadOut := false }, 2, ?_⟩; decide +kernel,
    by refine ⟨{ wOpen with seq := { wRx.seq with job := some { kind := 3, quads := 3, quadOut := false }, nextBurst := 16 } }.setFld Reg.PKT_CASCADE 17 16 1, 20, { kind := 3, quads := 3, quadOut := false }, ?_⟩; decide +kernel,
    by refine ⟨State.reset, 2, ?_⟩; decide +kernel,
    by refine ⟨{ wRx with seq := { wRx.seq with job := some { kind := 1, quads := 3, quadOut := false } } }, { kind := 1, quads := 3, quadOut := false }, ?_⟩; decide +kernel,
    by refine ⟨{ wOpen with seq := { wOpen.seq with job := some { kind := 4, quads := 0, quadOut := false } } }, { kind := 4, quads := 0, quadOut := false }, ?_⟩; decide +kernel,
    by refine ⟨State.reset, ?_⟩; decide +kernel,
    by refine ⟨{ wOpen with seq := { wOpen.seq with coupler := some (5, 100, -2000) } }, ?_⟩; decide +kernel,
    by refine ⟨State.reset, ?_⟩; decide +kernel⟩

/-- Witnesses for `Obligations.VisitsOfTheObservationReceivers`. -/
theorem wit_visitsOfTheObservationReceivers :
    (∃ s : State, ∃ (l : Fin 8) (p : Fin 64) (b : Nat), s.Canon ∧ s.physOf l < 9 ∧ s.obsFree (s.physOf l) = true ∧ s.dpd.visits[l] = none ∧ s.nextPair = some (p, b)) ∧
    (∃ s : State, ∃ (l : Fin 8), s.Canon ∧ (9 ≤ s.physOf l ∨ s.obsFree (s.physOf l) = false ∨ (s.dpd.visits[l]).isSome = true ∨ s.nextPair = none)) ∧
    (∃ s : State, ∃ (l : Fin 8) (v : Visit), s.Canon ∧ s.dpd.visits[l] = some v ∧ msPassed (s.now - v.routed) (s.fld Reg.DPD_SCHED_CFG 15 8) = true) ∧
    (∃ s : State, ∃ (l : Fin 8), s.Canon ∧ (s.dpd.visits[l].all fun v => !msPassed (s.now - v.routed) (s.fld Reg.DPD_SCHED_CFG 15 8)) = true) ∧
    (∃ s : State, ∃ (l : Fin 8) (v : Visit), s.Canon ∧ s.dpd.visits[l] = some v ∧ msPassed (s.now - v.lastCap) (s.fld Reg.DPD_SCHED_CFG 7 0) = true) ∧
    (∃ s : State, ∃ (l : Fin 8), s.Canon ∧ (s.dpd.visits[l].all fun v => !msPassed (s.now - v.lastCap) (s.fld Reg.DPD_SCHED_CFG 7 0)) = true) ∧
    (∃ s : State, ∃ (b : Fin 8) (u : Nat), s.Canon ∧ s.dpd.lastUse[b] = some u ∧ ticksPerS < s.now - u) ∧
    (∃ s : State, ∃ (b : Fin 8), s.Canon ∧ (s.dpd.lastUse[b].all fun u => decide (s.now - u ≤ ticksPerS)) = true) :=
  ⟨by refine ⟨(wTx.setBit Reg.DPD_ACTIVE 3 true).setFld Reg.RXP_OBS_MAP 31 0 0x76543210, 1, 0, 3, ?_⟩; decide +kernel,
    by refine ⟨State.reset, 1, ?_⟩; decide +kernel,
    by refine ⟨{ wTx with dpd := { wTx.dpd with visits := wTx.dpd.visits.set 1 (some { path := 5, bank := 2, routed := 7, settle := 7, lastCap := 7 }) } }, 1, { path := 5, bank := 2, routed := 7, settle := 7, lastCap := 7 }, ?_⟩; decide +kernel,
    by refine ⟨State.reset, 1, ?_⟩; decide +kernel,
    by refine ⟨{ wTx with dpd := { wTx.dpd with visits := wTx.dpd.visits.set 1 (some { path := 5, bank := 2, routed := 7, settle := 7, lastCap := 7 }) } }.setFld Reg.DPD_SCHED_CFG 7 0 1, 1, { path := 5, bank := 2, routed := 7, settle := 7, lastCap := 7 }, ?_⟩; decide +kernel,
    by refine ⟨State.reset, 1, ?_⟩; decide +kernel,
    by refine ⟨{ wTx with now := 10000000000, dpd := { wTx.dpd with lastUse := wTx.dpd.lastUse.set 3 (some 7) } }.setBit Reg.DPD_ACTIVE 3 true, 3, 7, ?_⟩; decide +kernel,
    by refine ⟨State.reset, 3, ?_⟩; decide +kernel⟩

/-- Witnesses for `Obligations.CapturesUpdatesAndBankControl`. -/
theorem wit_capturesUpdatesAndBankControl :
    (∃ s : State, ∃ (l : Fin 8) (v : Visit), s.Canon ∧ s.dpd.visits[l] = some v ∧ s.air.onAir.isSome = true ∧ s.dpd.paths[v.path].bank = v.bank ∧ v.settle ≤ s.air.onAirAt ∧ nsPassed (s.air.onAirAt - v.settle) 200 = true ∧ v.capturing = false ∧ v.symUsed = false) ∧
    (∃ s : State, ∃ (l : Fin 8), s.Canon ∧ (s.dpd.visits[l] = none ∨ s.air.onAir = none)) ∧
    (∃ s : State, ∃ (l : Fin 8) (o : List Adc) (v : Visit), s.Canon ∧ s.dpd.visits[l] = some v ∧ v.capturing = true ∧ v.drop = false ∧ 16 < o.countP clips) ∧
    (∃ s : State, ∃ (l : Fin 8) (o : List Adc) (v : Visit), s.Canon ∧ s.dpd.visits[l] = some v ∧ v.capturing = true ∧ v.drop = false ∧ o.countP clips ≤ 16) ∧
    (∃ s : State, ∃ (l : Fin 8) (v : Visit), s.Canon ∧ s.dpd.visits[l] = some v ∧ v.capturing = true ∧ v.drop = true) ∧
    (∃ s : State, ∃ (l : Fin 8), s.Canon ∧ (s.dpd.visits[l].all fun v => !v.capturing) = true) ∧
    (∃ s : State, ∃ (p : Fin 64) (b : Fin 8) (u : Learning), s.Canon ∧ s.dpd.paths[p].updates.find? (fun u => u.bank = b.val) = some u ∧ s.adapts p = true ∧ s.bankState p b ≠ 0 ∧ s.bankState p b ≠ 3) ∧
    (∃ s : State, ∃ (p : Fin 64) (b : Fin 8), s.Canon ∧ (s.adapts p = false ∨ s.bankState p b = 0 ∨ s.bankState p b = 3)) ∧
    (∃ s : State, ∃ (p : Fin 64) (b : Fin 8), s.Canon ∧ s.dpd.paths[p].updates.find? (fun u => u.bank = b.val) = none) ∧
    (∃ s : State, s.Canon ∧ s.writable = true) ∧
    (∃ s : State, s.Canon ∧ s.writable = false) ∧
    (∃ s : State, s.Canon ∧ s.writable = true) ∧
    (∃ s : State, s.Canon ∧ s.writable = false) ∧
    (∃ s : State, s.Canon ∧ s.writable = true ∧ s.mode = .ready) ∧
    (∃ s : State, ∃ (mask : BitVec 8), s.Canon ∧ s.writable = true ∧ s.mode ≠ .ready ∧ mask ≠ 0) ∧
    (∃ s : State, s.Canon ∧ s.writable = false) :=
  ⟨by refine ⟨let s : State := { wTx with air := { wTx.air with onAir := some a0, onAirAt := 99900000 }, dpd := { wTx.dpd with visits := wTx.dpd.visits.set 1 (some { path := 5, bank := 0, routed := 99000000, settle := 99000000, lastCap := 99500000 }) } }; s, 1, { path := 5, bank := 0, routed := 99000000, settle := 99000000, lastCap := 99500000 }, ?_⟩; decide +kernel,
    by refine ⟨State.reset, 1, ?_⟩; decide +kernel,
    by refine ⟨{ wTx with dpd := { wTx.dpd with visits := wTx.dpd.visits.set 1 (some { path := 5, bank := 2, routed := 99000000, settle := 99000000, lastCap := 99500000, capturing := true }) } }, 1, List.replicate 17 (8191, 0), { path := 5, bank := 2, routed := 99000000, settle := 99000000, lastCap := 99500000, capturing := true }, ?_⟩; decide +kernel,
    by refine ⟨{ wTx with dpd := { wTx.dpd with visits := wTx.dpd.visits.set 1 (some { path := 5, bank := 2, routed := 99000000, settle := 99000000, lastCap := 99500000, capturing := true }) } }, 1, List.replicate 8 (100, 7), { path := 5, bank := 2, routed := 99000000, settle := 99000000, lastCap := 99500000, capturing := true }, ?_⟩; decide +kernel,
    by refine ⟨{ wTx with dpd := { wTx.dpd with visits := wTx.dpd.visits.set 1 (some { path := 5, bank := 2, routed := 99000000, settle := 99000000, lastCap := 99500000, capturing := true, drop := true }) } }, 1, { path := 5, bank := 2, routed := 99000000, settle := 99000000, lastCap := 99500000, capturing := true, drop := true }, ?_⟩; decide +kernel,
    by refine ⟨State.reset, 1, ?_⟩; decide +kernel,
    by refine ⟨let s : State := { wTx with dpd := { wTx.dpd with paths := wTx.dpd.paths.set 5 { wTx.dpd.paths[5] with updates := [⟨2, ⟨1, 0⟩, [], []⟩] } } }; s.setBankState 5 2 1, 5, 2, ⟨2, ⟨1, 0⟩, [], []⟩, ?_⟩; decide +kernel,
    by refine ⟨wOpen, 5, 2, ?_⟩; decide +kernel,
    by refine ⟨State.reset, 5, 2, ?_⟩; decide +kernel,
    by refine ⟨wOpen, ?_⟩; decide +kernel,
    by refine ⟨State.reset, ?_⟩; decide +kernel,
    by refine ⟨wOpen.setBankState 5 2 3, ?_⟩; decide +kernel,
    by refine ⟨State.reset, ?_⟩; decide +kernel,
    by refine ⟨wOpen.setBankState 5 2 3, ?_⟩; decide +kernel,
    by refine ⟨wLive, 5#8, ?_⟩; decide +kernel,
    by refine ⟨State.reset, ?_⟩; decide +kernel⟩

/-- Witnesses for `Obligations.GuardTrips`. -/
theorem wit_guardTrips :
    (∃ s : State, ∃ (p : Fin 64) (env : Vector Int 3) (lv : Int), s.Canon ∧ s.mode ≠ .shelf ∧ s.guardIsOn p = true ∧ s.fwdLevel p true = some lv ∧ lv < s.filtered env ∧ s.dpd.paths[p].above ≠ some lv) ∧
    (∃ s : State, ∃ (p : Fin 64) (env : Vector Int 3) (lv : Int), s.Canon ∧ s.mode ≠ .shelf ∧ s.guardIsOn p = true ∧ s.fwdLevel p true = some lv ∧ lv < s.filtered env ∧ s.dpd.paths[p].above ≠ some lv ∧ s.dpd.paths[p].recorded = false ∧ 8 < distinctPaths ((s.now, p.val) :: s.tripWindow) ∧ s.kpr.haltedAt = none) ∧
    (∃ s : State, ∃ (p : Fin 64) (env : Vector Int 3) (lv : Int), s.Canon ∧ s.mode ≠ .shelf ∧ s.guardIsOn p = true ∧ s.fwdLevel p true = some lv ∧ (s.filtered env ≤ lv ∨ s.dpd.paths[p].above = some lv)) ∧
    (∃ s : State, ∃ (p : Fin 64), s.Canon ∧ (s.mode = .shelf ∨ s.guardIsOn p = false ∨ s.fwdLevel p true = none)) ∧
    (∃ s : State, ∃ (q : Fin 16) (env : Vector Int 3) (lv : Int), s.Canon ∧ s.mode ≠ .shelf ∧ s.reflLevel q = some lv ∧ ((∃ p ∈ pathsOf q, s.guardIsOn p = true)) ∧ lv < s.filtered env ∧ s.dpd.reflAbove[q] ≠ some lv) ∧
    (∃ s : State, ∃ (q : Fin 16) (env : Vector Int 3) (lv : Int), s.Canon ∧ s.mode ≠ .shelf ∧ s.reflLevel q = some lv ∧ ((∃ p ∈ pathsOf q, s.guardIsOn p = true)) ∧ (s.filtered env ≤ lv ∨ s.dpd.reflAbove[q] = some lv)) ∧
    (∃ s : State, ∃ (q : Fin 16), s.Canon ∧ (s.mode = .shelf ∨ s.reflLevel q = none ∨ (∀ p ∈ pathsOf q, s.guardIsOn p = false))) ∧
    (∃ s : State, ∃ (p : Fin 64) (env : Vector Int 3) (lv : Int), s.Canon ∧ s.mode ≠ .shelf ∧ s.guardIsOn p = false ∧ s.fwdLevel p false = some lv ∧ lv < s.filtered env ∧ s.dpd.paths[p].above ≠ some lv) ∧
    (∃ s : State, ∃ (p : Fin 64) (env : Vector Int 3) (lv : Int), s.Canon ∧ s.mode ≠ .shelf ∧ s.guardIsOn p = false ∧ s.fwdLevel p false = some lv ∧ (s.filtered env ≤ lv ∨ s.dpd.paths[p].above = some lv)) ∧
    (∃ s : State, ∃ (p : Fin 64), s.Canon ∧ (s.mode = .shelf ∨ s.guardIsOn p = true ∨ s.fwdLevel p false = none)) ∧
    (∃ s : State, s.Canon) ∧
    (∃ s : State, ∃ (w : Word), s.Canon ∧ s.writable = true ∧ bitOf w.toNat 31 = true ∧ s.mode = .ready) ∧
    (∃ s : State, ∃ (w : Word), s.Canon ∧ s.writable = true ∧ bitOf w.toNat 31 = true ∧ s.mode ≠ .ready) ∧
    (∃ s : State, ∃ (w : Word), s.Canon ∧ (s.writable = false ∨ bitOf w.toNat 31 = false)) :=
  ⟨by refine ⟨let s : State := { wTx with paths := wTx.paths.set 5 { wTx.paths[5] with txGate := true } }; s.setFld (Reg.DPD_GUARD_THR 5) 31 24 9, 5, Vector.replicate 3 5000, (-3775), ?_⟩; decide +kernel,
    by refine ⟨let s : State := { wTx with dpd := { wTx.dpd with paths := wTx.dpd.paths.set 5 { wTx.dpd.paths[5] with trips := [99999999, 99999998] }, window := (List.range 9).map fun i => (99999990, 20 + i) }, seq := { wTx.seq with couplerTx := some 5 }, paths := wTx.paths.set 5 { wTx.paths[5] with txGate := true } }; s.setFld (Reg.DPD_GUARD_THR 5) 31 24 9, 5, Vector.replicate 3 5000, (-3775), ?_⟩; decide +kernel,
    by refine ⟨let s : State := { wTx with paths := wTx.paths.set 5 { wTx.paths[5] with txGate := true } }; s.setFld (Reg.DPD_GUARD_THR 5) 31 24 9, 5, Vector.replicate 3 (-3775), (-3775), ?_⟩; decide +kernel,
    by refine ⟨State.reset, 5, ?_⟩; decide +kernel,
    by refine ⟨let s : State := { wTx with paths := wTx.paths.set 5 { wTx.paths[5] with txGate := true } }; s.setFld (Reg.DPD_REFL_THR 1) 7 0 9, 1, Vector.replicate 3 5000, (-3775), ?_⟩; decide +kernel,
    by refine ⟨let s : State := { wTx with paths := wTx.paths.set 5 { wTx.paths[5] with txGate := true } }; s.setFld (Reg.DPD_REFL_THR 1) 7 0 9, 1, Vector.replicate 3 (-3775), (-3775), ?_⟩; decide +kernel,
    by refine ⟨wTx.setFld (Reg.DPD_REFL_THR 1) 7 0 0xFF, 1, ?_⟩; decide +kernel,
    by refine ⟨wRx.setFld (Reg.DPD_GUARD_THR 5) 23 16 9, 5, Vector.replicate 3 5000, (-3775), ?_⟩; decide +kernel,
    by refine ⟨wRx.setFld (Reg.DPD_GUARD_THR 5) 23 16 9, 5, Vector.replicate 3 (-3775), (-3775), ?_⟩; decide +kernel,
    by refine ⟨{ wTx with mode := .shelf }, 5, ?_⟩; decide +kernel,
    by refine ⟨{ wTx with now := 10000000000, dpd := { wTx.dpd with window := [(9999999999, 4), (9999999000, 5), (77, 6)] } }, ?_⟩; decide +kernel,
    by refine ⟨wOpen, 0x80000005, ?_⟩; decide +kernel,
    by refine ⟨wLive, 0x80000005, ?_⟩; decide +kernel,
    by refine ⟨State.reset, 0, ?_⟩; decide +kernel⟩

/-- Witnesses for `Obligations.ManagementWritesOfLasts`. -/
theorem wit_managementWritesOfLasts :
    (∃ s : State, ∃ (w : Word), s.Canon ∧ s.writable = true ∧ bitOf w.toNat 31 = false) ∧
    (∃ s : State, ∃ (w : Word), s.Canon ∧ s.writable = true ∧ bitOf w.toNat 31 = true ∧ (s.mgmtGrant.isSome = true ∨ s.nLast ≤ fldOf w 10 0 ∨ (s.dirOf (fldOf w 10 0)).busy = true)) ∧
    (∃ s : State, ∃ (w : Word), s.Canon ∧ s.writable = true ∧ bitOf w.toNat 31 = true ∧ s.mgmtGrant = none ∧ fldOf w 10 0 < s.nLast ∧ (s.dirOf (fldOf w 10 0)).busy = false) ∧
    (∃ s : State, s.Canon ∧ s.writable = false) ∧
    (∃ s : State, ∃ (g : Grant), s.Canon ∧ s.bmx.grants.find? (fun g => g.bank.isNone && !s.fetching g.last (1 - (s.dirOf g.last).bank)) = some g) ∧
    (∃ s : State, s.Canon ∧ s.bmx.grants.find? (fun g => g.bank.isNone && !s.fetching g.last (1 - (s.dirOf g.last).bank)) = none) ∧
    (∃ s : State, ∃ (g : Grant) (b : Nat), s.Canon ∧ s.writable = true ∧ s.mgmtGrant = some g ∧ g.bank = some b) ∧
    (∃ s : State, s.Canon ∧ (s.writable = false ∨ s.mgmtGrant = none)) ∧
    (∃ s : State, ∃ (g : Grant), s.Canon ∧ s.writable = true ∧ s.mgmtGrant = some g ∧ tabWf (fun _ => ({} : DirEntry)) s.bmx.dir = true) ∧
    (∃ s : State, s.Canon ∧ (s.writable = false ∨ s.mgmtGrant = none)) ∧
    (∃ s : State, ∃ (k : ColKey) (c : Column) (rest : List (ColKey × Column)) (l : List (ColKey × Column)), s.Canon ∧ s.bmx.waits = (k, c) :: rest ∧ s.makeRoom = some l) ∧
    (∃ s : State, s.Canon ∧ (s.bmx.waits = [] ∨ s.makeRoom = none)) ∧
    (∃ s : State, s.Canon) :=
  ⟨by refine ⟨wOpen, 0x01020003, ?_⟩; decide +kernel,
    by refine ⟨wOpen.setFld Reg.BMX_LAST_CNT 11 0 2, 0x81020003, ?_⟩; decide +kernel,
    by refine ⟨(wOpen.setFld Reg.BMX_LAST_CNT 11 0 40).setDir 3 fun _ => { valid := true, bank := 1 }, 0x81020003, ?_⟩; decide +kernel,
    by refine ⟨State.reset, ?_⟩; decide +kernel,
    by refine ⟨{ wOpen with bmx := { wOpen.bmx with grants := [{ last := 3, mgmt := true }] } }, { last := 3, mgmt := true }, ?_⟩; decide +kernel,
    by refine ⟨State.reset, ?_⟩; decide +kernel,
    by refine ⟨{ wOpen with bmx := { wOpen.bmx with grants := [{ last := 3, mgmt := true, bank := some 1, nCol := 4 }] } }, { last := 3, mgmt := true, bank := some 1, nCol := 4 }, 1, ?_⟩; decide +kernel,
    by refine ⟨State.reset, ?_⟩; decide +kernel,
    by refine ⟨let s : State := { wOpen with bmx := { wOpen.bmx with grants := [{ last := 3, mgmt := true, bank := some 1, nCol := 4 }] } }; s.setDir 3 fun e => { e with busy := true }, { last := 3, mgmt := true, bank := some 1, nCol := 4 }, ?_⟩; decide +kernel,
    by refine ⟨State.reset, ?_⟩; decide +kernel,
    by refine ⟨{ wOpen with bmx := { wOpen.bmx with waits := [(⟨3, 4, 5, 6⟩, [7])] } }, ⟨3, 4, 5, 6⟩, [7], [], [], ?_⟩; decide +kernel,
    by refine ⟨State.reset, ?_⟩; decide +kernel,
    by refine ⟨wOpen.wr (Reg.BMX_INLINE_USED 1) 99, ?_⟩; decide +kernel⟩

/-- Witnesses for `Obligations.LinkTraining`. -/
theorem wit_linkTraining :
    (∃ s : State, ∃ (p : Port), s.Canon ∧ s.portState p.idx = 1) ∧
    (∃ s : State, ∃ (p : Port), s.Canon ∧ s.portState p.idx ≠ 1) ∧
    (∃ s : State, ∃ (p : Port) (half : Vector Bool 272) (inv : Bool) (bs : List Byte), s.Canon ∧ s.portState p.idx = 7 ∧ frameRead half.toList = (inv, some bs) ∧ crc16 (bs.take 14) = fieldAt bs 14 2) ∧
    (∃ s : State, ∃ (p : Port) (half : Vector Bool 272), s.Canon ∧ (s.portState p.idx = 2 ∨ s.portState p.idx = 3) ∧ ((frameRead half.toList).2.all fun bs => crc16 (bs.take 14) != fieldAt bs 14 2) = true) ∧
    (∃ s : State, ∃ (p : Port) (half : Vector Bool 272) (inv : Bool) (bs : List Byte), s.Canon ∧ s.portState p.idx = 2 ∧ frameRead half.toList = (inv, some bs) ∧ crc16 (bs.take 14) = fieldAt bs 14 2) ∧
    (∃ s : State, ∃ (p : Port) (half : Vector Bool 272) (inv : Bool) (bs : List Byte), s.Canon ∧ s.portState p.idx = 3 ∧ frameRead half.toList = (inv, some bs) ∧ crc16 (bs.take 14) = fieldAt bs 14 2) ∧
    (∃ s : State, ∃ (p : Port) (half : Vector Bool 272), s.Canon ∧ s.portState p.idx ≠ 2 ∧ s.portState p.idx ≠ 3 ∧ (s.portState p.idx ≠ 7 ∨ ((frameRead half.toList).2.all fun bs => crc16 (bs.take 14) != fieldAt bs 14 2) = true)) ∧
    (∃ s : State, ∃ (p : Port), s.Canon ∧ usPassed (s.now - (s.port p.idx).since) 2000 = true ∧ s.portState p.idx = 2 ∧ 4 ≤ maskCount (s.lockedMask p.idx)) ∧
    (∃ s : State, ∃ (p : Port), s.Canon ∧ usPassed (s.now - (s.port p.idx).since) 2000 = true ∧ (s.portState p.idx = 1 ∨ s.portState p.idx = 4 ∨ (s.portState p.idx = 2 ∧ maskCount (s.lockedMask p.idx) < 4))) ∧
    (∃ s : State, ∃ (p : Port), s.Canon ∧ usPassed (s.now - (s.port p.idx).since) 2000 = true ∧ s.portState p.idx = 3) ∧
    (∃ s : State, ∃ (p : Port), s.Canon ∧ usPassed (s.now - (s.port p.idx).since) 2000 = false) ∧
    (∃ s : State, ∃ (p : Port), s.Canon ∧ s.portState p.idx = 6 ∧ msPassed (s.now - (s.port p.idx).since) 10 = true) ∧
    (∃ s : State, ∃ (p : Port), s.Canon ∧ s.portState p.idx ≠ 6) ∧
    (∃ s : State, ∃ (p : Port), s.Canon ∧ s.portState p.idx = 7 ∧ msPassed (s.now - (s.port p.idx).beaconAt) 1 = true) ∧
    (∃ s : State, ∃ (p : Port), s.Canon ∧ s.portState p.idx ≠ 7) ∧
    (∃ s : State, ∃ (p : Port), s.Canon ∧ s.portState p.idx = 3) ∧
    (∃ s : State, ∃ (p : Port), s.Canon ∧ s.portState p.idx ≠ 3) :=
  ⟨by refine ⟨(wLive.setFld (Reg.LN_TRAIN_STAT 0) 31 28 1), .up, ?_⟩; decide +kernel,
    by refine ⟨State.reset, .up, ?_⟩; decide +kernel,
    by refine ⟨(wLive.setFld (Reg.LN_TRAIN_STAT 0) 31 28 7), .up, wHalf wFrame true, true, wFrame.toList, ?_⟩; decide +kernel,
    by refine ⟨(wLive.setFld (Reg.LN_TRAIN_STAT 0) 31 28 2), .up, wHalf (wFrame.set 15 0) true, ?_⟩; decide +kernel,
    by refine ⟨(wLive.setFld (Reg.LN_TRAIN_STAT 0) 31 28 2), .up, wHalf wFrame true, true, wFrame.toList, ?_⟩; decide +kernel,
    by refine ⟨(wLive.setFld (Reg.LN_TRAIN_STAT 0) 31 28 3), .up, wHalf wFrame true, true, wFrame.toList, ?_⟩; decide +kernel,
    by refine ⟨State.reset, .up, wHalf wFrame true, ?_⟩; decide +kernel,
    by refine ⟨(List.range 4).foldl (fun s l => s.setBit (Reg.LN_LANE_RX 0 l) 31 true) (wLive.setFld (Reg.LN_TRAIN_STAT 0) 31 28 2), .up, ?_⟩; decide +kernel,
    by refine ⟨(wLive.setFld (Reg.LN_TRAIN_STAT 0) 31 28 4), .up, ?_⟩; decide +kernel,
    by refine ⟨(List.range 9).foldl (fun s l => s.setFld (Reg.LN_LANE_RX 0 l) 31 0 0x80FFFFFF) ({ (wLive.setFld (Reg.LN_TRAIN_STAT 0) 31 28 3) with pkt := { wLive.pkt with ports := wLive.pkt.ports.set 0 { wLive.pkt.ports[0] with txMask := 0xFF } } }), .up, ?_⟩; decide +kernel,
    by refine ⟨State.reset, .up, ?_⟩; decide +kernel,
    by refine ⟨(wLive.setFld (Reg.LN_TRAIN_STAT 0) 31 28 6), .up, ?_⟩; decide +kernel,
    by refine ⟨State.reset, .up, ?_⟩; decide +kernel,
    by refine ⟨(wLive.setFld (Reg.LN_TRAIN_STAT 0) 31 28 7), .up, ?_⟩; decide +kernel,
    by refine ⟨State.reset, .up, ?_⟩; decide +kernel,
    by refine ⟨(wLive.setFld (Reg.LN_TRAIN_STAT 0) 31 28 3), .up, ?_⟩; decide +kernel,
    by refine ⟨(wLive.setFld (Reg.LN_TRAIN_STAT 0) 31 28 5), .up, ?_⟩; decide +kernel⟩

/-- Witnesses for `Obligations.MarkersReadyAndPortDown`. -/
theorem wit_markersReadyAndPortDown :
    (∃ s : State, ∃ (p : Port), s.Canon ∧ (s.portState p.idx = 4 ∨ s.portState p.idx = 5) ∧ s.txAwake p.idx = true ∧ s.switchDue p.idx = false ∧ (s.wr (Reg.LN_BLOCK p.idx) (s.rd (Reg.LN_BLOCK p.idx) + 1)).switchDue p.idx = false) ∧
    (∃ s : State, ∃ (p : Port), s.Canon ∧ (s.portState p.idx = 4 ∨ s.portState p.idx = 5) ∧ s.txAwake p.idx = true ∧ s.switchDue p.idx = false ∧ (s.wr (Reg.LN_BLOCK p.idx) (s.rd (Reg.LN_BLOCK p.idx) + 1)).switchDue p.idx = true) ∧
    (∃ s : State, ∃ (p : Port), s.Canon ∧ (s.portState p.idx = 4 ∨ s.portState p.idx = 5) ∧ s.txAwake p.idx = true ∧ s.switchDue p.idx = true) ∧
    (∃ s : State, ∃ (p : Port), s.Canon ∧ ((s.portState p.idx ≠ 4 ∧ s.portState p.idx ≠ 5) ∨ s.txAwake p.idx = false)) ∧
    (∃ s : State, ∃ (p : Port) (l : Fin 9) (bits : List Bool) (ws : List LaneWord) (bs : List Byte) (errs : Nat) (c : Coder), s.Canon ∧ (s.portState p.idx = 4 ∨ s.portState p.idx = 5) ∧ (readLine ((s.port p.idx).lanes[l]).rx (if s.bit (Reg.LN_LANE_RX p.idx l) 29 = true then bits.map (!·) else bits) = (ws, bs, errs, c)) ∧ markerOk bs = true) ∧
    (∃ s : State, ∃ (p : Port) (l : Fin 9) (bits : List Bool) (ws : List LaneWord) (bs : List Byte) (errs : Nat) (c : Coder), s.Canon ∧ (s.portState p.idx = 4 ∨ s.portState p.idx = 5) ∧ (readLine ((s.port p.idx).lanes[l]).rx (if s.bit (Reg.LN_LANE_RX p.idx l) 29 = true then bits.map (!·) else bits) = (ws, bs, errs, c)) ∧ markerOk bs = false) ∧
    (∃ s : State, ∃ (p : Port), s.Canon ∧ s.portState p.idx ≠ 4 ∧ s.portState p.idx ≠ 5) ∧
    (∃ s : State, ∃ (p : Port) (copies : List (Vector Byte 8)) (bs : List Byte), s.Canon ∧ bchRead copies = some bs ∧ byteAt bs 1 = 0x06 ∧ s.portState p.idx = 4 ∧ (s.port p.idx).aligned = true) ∧
    (∃ s : State, ∃ (p : Port) (copies : List (Vector Byte 8)) (bs : List Byte), s.Canon ∧ bchRead copies = some bs ∧ byteAt bs 1 = 0x06 ∧ s.portState p.idx = 4 ∧ (s.port p.idx).aligned = false) ∧
    (∃ s : State, ∃ (copies : List (Vector Byte 8)), s.Canon ∧ bchRead copies = none) ∧
    (∃ s : State, ∃ (p : Port) (copies : List (Vector Byte 8)) (bs : List Byte), s.Canon ∧ bchRead copies = some bs ∧ (byteAt bs 1 ≠ 0x06 ∨ s.portState p.idx ≠ 4)) ∧
    (∃ s : State, ∃ (p : Port), s.Canon ∧ s.portState p.idx = 5 ∧ s.fld (Reg.LN_SLEEP_STAT p.idx) 1 0 ≠ 0) ∧
    (∃ s : State, ∃ (p : Port), s.Canon ∧ s.portState p.idx = 5 ∧ s.fld (Reg.LN_SLEEP_STAT p.idx) 1 0 = 0) ∧
    (∃ s : State, ∃ (p : Port), s.Canon ∧ s.portState p.idx ≠ 5) ∧
    (∃ s : State, ∃ (p : Port) (copies : List (Vector Byte 8)) (bs : List Byte), s.Canon ∧ bchRead copies = some bs ∧ byteAt bs 1 = 0x03 ∧ s.portState p.idx = 5) ∧
    (∃ s : State, ∃ (copies : List (Vector Byte 8)), s.Canon ∧ bchRead copies = none) ∧
    (∃ s : State, ∃ (p : Port) (copies : List (Vector Byte 8)) (bs : List Byte), s.Canon ∧ bchRead copies = some bs ∧ (byteAt bs 1 ≠ 0x03 ∨ s.portState p.idx ≠ 5)) ∧
    (∃ s : State, ∃ (p : Port), s.Canon ∧ s.writable = true ∧ s.portState p.idx = 5) ∧
    (∃ s : State, ∃ (p : Port), s.Canon ∧ s.writable = true ∧ s.portState p.idx ≠ 5) ∧
    (∃ s : State, s.Canon ∧ s.writable = false) :=
  ⟨by refine ⟨(List.range 9).foldl (fun s l => s.setFld (Reg.LN_LANE_TX 0 l) 27 24 (if l = 4 then 0 else 15)) (wLive.setFld (Reg.LN_TRAIN_STAT 0) 31 28 5), .up, ?_⟩; decide +kernel,
    by refine ⟨(List.range 9).foldl (fun s l => s.setFld (Reg.LN_LANE_TX 0 l) 27 24 (if l = 4 then 0 else 15)) ({ (wLive.setFld (Reg.LN_TRAIN_STAT 0) 31 28 5) with pkt := { wLive.pkt with ports := wLive.pkt.ports.set 0 { wLive.pkt.ports[0] with txRemap := some { lane := 2, phys := 2, width := 8, block := 1, sentAt := 3, acked := true } } } }), .up, ?_⟩; decide +kernel,
    by refine ⟨(List.range 9).foldl (fun s l => s.setFld (Reg.LN_LANE_TX 0 l) 27 24 (if l = 4 then 0 else 15)) ({ (wLive.setFld (Reg.LN_TRAIN_STAT 0) 31 28 5) with pkt := { wLive.pkt with ports := wLive.pkt.ports.set 0 { wLive.pkt.ports[0] with txRemap := some { lane := 2, phys := 2, width := 8, block := 0, sentAt := 3, acked := true } } } }), .up, ?_⟩; decide +kernel,
    by refine ⟨State.reset, .up, ?_⟩; decide +kernel,
    by refine ⟨(wLive.setFld (Reg.LN_TRAIN_STAT 0) 31 28 5), .up, 3, wMarkBits wMark, [], wMark.toList, 0, (readLine {} (wMarkBits wMark)).2.2.2, ?_⟩; decide +kernel,
    by refine ⟨(wLive.setFld (Reg.LN_TRAIN_STAT 0) 31 28 5), .up, 3, wMarkBits (wMark.set 0 1), [], (wMark.set 0 1).toList, 0, (readLine {} (wMarkBits (wMark.set 0 1))).2.2.2, ?_⟩; decide +kernel,
    by refine ⟨State.reset, .up, ?_⟩; decide +kernel,
    by refine ⟨{ (wLive.setFld (Reg.LN_TRAIN_STAT 0) 31 28 4) with pkt := { wLive.pkt with ports := wLive.pkt.ports.set 0 { wLive.pkt.ports[0] with aligned := true } } }, .up, wBch 6 0, bchBytes 6 0, ?_⟩; decide +kernel,
    by refine ⟨(wLive.setFld (Reg.LN_TRAIN_STAT 0) 31 28 4), .up, wBch 6 0, bchBytes 6 0, ?_⟩; decide +kernel,
    by refine ⟨(wLive.setFld (Reg.LN_TRAIN_STAT 0) 31 28 4), [], ?_⟩; decide +kernel,
    by refine ⟨State.reset, .up, wBch 6 0, bchBytes 6 0, ?_⟩; decide +kernel,
    by refine ⟨(wLive.setFld (Reg.LN_TRAIN_STAT 0) 31 28 5).setFld (Reg.LN_SLEEP_STAT 0) 1 0 1, .up, ?_⟩; decide +kernel,
    by refine ⟨(wLive.setFld (Reg.LN_TRAIN_STAT 0) 31 28 5), .up, ?_⟩; decide +kernel,
    by refine ⟨State.reset, .up, ?_⟩; decide +kernel,
    by refine ⟨(wLive.setFld (Reg.LN_TRAIN_STAT 0) 31 28 5), .up, wBch 3 0, bchBytes 3 0, ?_⟩; decide +kernel,
    by refine ⟨(wLive.setFld (Reg.LN_TRAIN_STAT 0) 31 28 5), [], ?_⟩; decide +kernel,
    by refine ⟨State.reset, .up, wBch 3 0, bchBytes 3 0, ?_⟩; decide +kernel,
    by refine ⟨(wLive.setFld (Reg.LN_TRAIN_STAT 0) 31 28 5), .up, ?_⟩; decide +kernel,
    by refine ⟨(wLive.setFld (Reg.LN_TRAIN_STAT 0) 31 28 3), .up, ?_⟩; decide +kernel,
    by refine ⟨State.reset, ?_⟩; decide +kernel⟩

/-- Witnesses for `Obligations.LaneFailureAndTakeover`. -/
theorem wit_laneFailureAndTakeover :
    (∃ s : State, ∃ (p : Port) (l : Fin 9) (los : Bool), s.Canon ∧ s.laneBad p.idx l los = true ∧ (s.portState p.idx = 4 ∨ s.portState p.idx = 5) ∧ s.fld (Reg.LN_LANE_RX p.idx l) 27 24 ≠ 0xF ∧ s.fld (Reg.LN_SLEEP_STAT p.idx) 1 0 = 0 ∧ s.bit (Reg.LN_LANE_RX p.idx l) 30 = false ∧ (s.port p.idx).remap.isSome = true ∧ 4 ≤ maskCount ((s.setBit (Reg.LN_TRAIN_STAT p.idx) l false).rxHealthy p.idx)) ∧
    (∃ s : State, ∃ (p : Port) (l : Fin 9) (los : Bool), s.Canon ∧ s.laneBad p.idx l los = true ∧ (s.portState p.idx = 4 ∨ s.portState p.idx = 5) ∧ s.fld (Reg.LN_LANE_RX p.idx l) 27 24 ≠ 0xF ∧ s.fld (Reg.LN_SLEEP_STAT p.idx) 1 0 = 0 ∧ s.bit (Reg.LN_LANE_RX p.idx l) 30 = false ∧ s.portState p.idx = 5 ∧ maskCount ((s.setBit (Reg.LN_TRAIN_STAT p.idx) l false).rxHealthy p.idx) < 4) ∧
    (∃ s : State, ∃ (p : Port) (l : Fin 9) (los : Bool), s.Canon ∧ s.laneBad p.idx l los = true ∧ (s.portState p.idx = 4 ∨ s.portState p.idx = 5) ∧ s.fld (Reg.LN_LANE_RX p.idx l) 27 24 ≠ 0xF ∧ s.fld (Reg.LN_SLEEP_STAT p.idx) 1 0 = 0 ∧ s.bit (Reg.LN_LANE_RX p.idx l) 30 = false ∧ s.portState p.idx = 4 ∧ maskCount ((s.setBit (Reg.LN_TRAIN_STAT p.idx) l false).rxHealthy p.idx) < 4) ∧
    (∃ s : State, ∃ (p : Port) (l : Fin 9) (los : Bool), s.Canon ∧ s.laneBad p.idx l los = true ∧ (s.portState p.idx = 4 ∨ s.portState p.idx = 5) ∧ s.fld (Reg.LN_LANE_RX p.idx l) 27 24 ≠ 0xF ∧ s.fld (Reg.LN_SLEEP_STAT p.idx) 1 0 = 0 ∧ s.bit (Reg.LN_LANE_RX p.idx l) 30 = false ∧ (s.port p.idx).remap = none ∧ 4 ≤ maskCount ((s.setBit (Reg.LN_TRAIN_STAT p.idx) l false).rxHealthy p.idx)) ∧
    (∃ s : State, ∃ (p : Port) (l : Fin 9) (los : Bool), s.Canon ∧ ((s.portState p.idx ≠ 4 ∧ s.portState p.idx ≠ 5) ∨ s.fld (Reg.LN_LANE_RX p.idx l) 27 24 = 0xF ∨ s.fld (Reg.LN_SLEEP_STAT p.idx) 1 0 ≠ 0 ∨ s.bit (Reg.LN_LANE_RX p.idx l) 30 = true ∨ s.laneBad p.idx l los = false)) ∧
    (∃ s : State, ∃ (p : Port) (copies : List (Vector Byte 8)) (bs : List Byte) (lane : Nat) (width : Nat) (block : Nat), s.Canon ∧ bchRead copies = some bs ∧ byteAt bs 1 = 0x01 ∧ lane = bitsOf (byteAt bs 2) 3 0 ∧ width = bitsOf (byteAt bs 2) 7 4 ∧ block = fieldAt bs 3 2 ∧ (s.portState p.idx = 4 ∨ s.portState p.idx = 5) ∧ 0 < (block + 65536 - (s.rd (Reg.LN_BLOCK p.idx)).toNat % 65536) % 65536 ∧ (block + 65536 - (s.rd (Reg.LN_BLOCK p.idx)).toNat % 65536) % 65536 < 32768 ∧ lane < 9) ∧
    (∃ s : State, ∃ (copies : List (Vector Byte 8)), s.Canon ∧ bchRead copies = none) ∧
    (∃ s : State, ∃ (p : Port) (copies : List (Vector Byte 8)) (bs : List Byte) (block : Nat), s.Canon ∧ bchRead copies = some bs ∧ block = fieldAt bs 3 2 ∧ ((block + 65536 - (s.rd (Reg.LN_BLOCK p.idx)).toNat % 65536) % 65536 = 0 ∨ 32768 ≤ (block + 65536 - (s.rd (Reg.LN_BLOCK p.idx)).toNat % 65536) % 65536 ∨ byteAt bs 1 ≠ 0x01)) ∧
    (∃ s : State, ∃ (p : Port) (copies : List (Vector Byte 8)) (bs : List Byte) (r : Remap), s.Canon ∧ bchRead copies = some bs ∧ byteAt bs 1 = 0x02 ∧ (s.port p.idx).remap = some r ∧ r.phys = bitsOf (byteAt bs 2) 3 0 ∧ r.width = bitsOf (byteAt bs 2) 7 4 ∧ r.block = fieldAt bs 3 2) ∧
    (∃ s : State, ∃ (copies : List (Vector Byte 8)), s.Canon ∧ bchRead copies = none) ∧
    (∃ s : State, ∃ (p : Port) (copies : List (Vector Byte 8)) (bs : List Byte), s.Canon ∧ bchRead copies = some bs ∧ (byteAt bs 1 ≠ 0x02 ∨ ((s.port p.idx).remap.all fun r => r.phys != bitsOf (byteAt bs 2) 3 0) = true)) ∧
    (∃ s : State, ∃ (p : Port) (r : Remap) (l : Fin 9), s.Canon ∧ (s.port p.idx).remap = some r ∧ r.acked = false ∧ usPassed (s.now - r.sentAt) 50 = true ∧ r.tries < 3 ∧ r.lane = l.val) ∧
    (∃ s : State, ∃ (p : Port) (r : Remap), s.Canon ∧ (s.port p.idx).remap = some r ∧ r.acked = false ∧ usPassed (s.now - r.sentAt) 50 = true ∧ 3 ≤ r.tries ∧ s.portState p.idx ≠ 4) ∧
    (∃ s : State, ∃ (p : Port) (r : Remap), s.Canon ∧ (s.port p.idx).remap = some r ∧ r.acked = false ∧ usPassed (s.now - r.sentAt) 50 = true ∧ 3 ≤ r.tries ∧ s.portState p.idx = 4 ∧ (s.port p.idx).waiting = []) ∧
    (∃ s : State, ∃ (p : Port), s.Canon ∧ ((s.port p.idx).remap.all fun r => r.acked || !usPassed (s.now - r.sentAt) 50) = true) ∧
    (∃ s : State, ∃ (p : Port) (rx : Bool) (r : Remap) (j : Fin 9), s.Canon ∧ rx = true ∧ (s.port p.idx).remap = some r ∧ r.acked = true ∧ (s.port p.idx).rxBlock % 65536 = r.block ∧ (s.port p.idx).waiting = [] ∧ r.lane < 9 ∧ r.lane ≠ j.val ∧ (r.width ≠ 4 ∨ s.fld (Reg.LN_TRAIN_STAT p.idx) 19 16 ≠ 8) ∧ s.rxSpare p.idx (s.rxHealthy p.idx) = some j) ∧
    (∃ s : State, ∃ (p : Port) (rx : Bool) (r : Remap), s.Canon ∧ rx = true ∧ (s.port p.idx).remap = some r ∧ r.acked = true ∧ (s.port p.idx).rxBlock % 65536 = r.block ∧ (s.port p.idx).waiting = [] ∧ r.width = 4 ∧ s.fld (Reg.LN_TRAIN_STAT p.idx) 19 16 = 8) ∧
    (∃ s : State, ∃ (p : Port) (rx : Bool) (r : Remap), s.Canon ∧ rx = true ∧ (s.port p.idx).remap = some r ∧ r.acked = true ∧ (s.port p.idx).rxBlock % 65536 = r.block ∧ (s.port p.idx).waiting = [] ∧ (r.width ≠ 4 ∨ s.fld (Reg.LN_TRAIN_STAT p.idx) 19 16 ≠ 8) ∧ s.rxSpare p.idx (s.rxHealthy p.idx) = none) ∧
    (∃ s : State, ∃ (p : Port) (rx : Bool) (r : Remap), s.Canon ∧ rx = true ∧ (s.port p.idx).remap = some r ∧ r.acked = true ∧ (s.port p.idx).rxBlock % 65536 = r.block ∧ (s.port p.idx).waiting ≠ []) ∧
    (∃ s : State, ∃ (p : Port) (rx : Bool) (r : Remap), s.Canon ∧ rx = false ∧ (s.port p.idx).txRemap = some r ∧ (s.rd (Reg.LN_BLOCK p.idx)).toNat % 65536 = r.block) ∧
    (∃ s : State, ∃ (p : Port) (rx : Bool), s.Canon ∧ ((rx = true → ((s.port p.idx).remap.all fun r => !r.acked || (s.port p.idx).rxBlock % 65536 != r.block) = true)) ∧ ((rx = false → s.switchDue p.idx = false))) :=
  ⟨by refine ⟨let s : State := (List.range 9).foldl (fun s l => s.setFld (Reg.LN_LANE_RX 0 l) 31 24 (0x80 + l)) ((wLive.setFld (Reg.LN_TRAIN_STAT 0) 31 0 0x510881FF)); { s with pkt := { s.pkt with ports := s.pkt.ports.set 0 { s.pkt.ports[0] with remap := some { lane := 2, phys := 2, width := 8, block := 77, sentAt := 3, tries := 1, acked := false } } } }, .up, 3, true, ?_⟩; decide +kernel,
    by refine ⟨(wLive.setFld (Reg.LN_TRAIN_STAT 0) 31 28 5).setFld (Reg.LN_LANE_RX 0 3) 27 24 3, .up, 3, true, ?_⟩; decide +kernel,
    by refine ⟨(wLive.setFld (Reg.LN_TRAIN_STAT 0) 31 28 4).setFld (Reg.LN_LANE_RX 0 3) 27 24 3, .up, 3, true, ?_⟩; decide +kernel,
    by refine ⟨(List.range 9).foldl (fun s l => s.setFld (Reg.LN_LANE_RX 0 l) 31 24 (0x80 + l)) ((wLive.setFld (Reg.LN_TRAIN_STAT 0) 31 0 0x510881FF)), .up, 3, true, ?_⟩; decide +kernel,
    by refine ⟨State.reset, .up, 3, true, ?_⟩; decide +kernel,
    by refine ⟨(wLive.setFld (Reg.LN_TRAIN_STAT 0) 31 28 5), .up, wBch 1 (remapArgs 3 8 90), bchBytes 1 (remapArgs 3 8 90), 3, 8, 90, ?_⟩; decide +kernel,
    by refine ⟨(wLive.setFld (Reg.LN_TRAIN_STAT 0) 31 28 5), [], ?_⟩; decide +kernel,
    by refine ⟨(wLive.setFld (Reg.LN_TRAIN_STAT 0) 31 28 5), .up, wBch 1 (remapArgs 3 8 0), bchBytes 1 (remapArgs 3 8 0), 0, ?_⟩; decide +kernel,
    by refine ⟨{ (wLive.setFld (Reg.LN_TRAIN_STAT 0) 31 28 5) with pkt := { wLive.pkt with ports := wLive.pkt.ports.set 0 { wLive.pkt.ports[0] with remap := some { lane := 2, phys := 2, width := 8, block := 77, sentAt := 3, tries := 1, acked := false } } } }, .up, wBch 2 (remapArgs 2 8 77), bchBytes 2 (remapArgs 2 8 77), { lane := 2, phys := 2, width := 8, block := 77, sentAt := 3, tries := 1, acked := false }, ?_⟩; decide +kernel,
    by refine ⟨(wLive.setFld (Reg.LN_TRAIN_STAT 0) 31 28 5), [], ?_⟩; decide +kernel,
    by refine ⟨State.reset, .up, wBch 2 0, bchBytes 2 0, ?_⟩; decide +kernel,
    by refine ⟨{ (wLive.setFld (Reg.LN_TRAIN_STAT 0) 31 28 5) with pkt := { wLive.pkt with ports := wLive.pkt.ports.set 0 { wLive.pkt.ports[0] with remap := some { lane := 2, phys := 2, width := 8, block := 77, sentAt := 3, tries := 1, acked := false } } } }, .up, { lane := 2, phys := 2, width := 8, block := 77, sentAt := 3, tries := 1, acked := false }, 2, ?_⟩; decide +kernel,
    by refine ⟨{ (wLive.setFld (Reg.LN_TRAIN_STAT 0) 31 28 5) with pkt := { wLive.pkt with ports := wLive.pkt.ports.set 0 { wLive.pkt.ports[0] with remap := some { lane := 2, phys := 2, width := 8, block := 77, sentAt := 3, tries := 3, acked := false } } } }, .up, { lane := 2, phys := 2, width := 8, block := 77, sentAt := 3, tries := 3, acked := false }, ?_⟩; decide +kernel,
    by refine ⟨{ (wLive.setFld (Reg.LN_TRAIN_STAT 0) 31 28 4) with pkt := { wLive.pkt with ports := wLive.pkt.ports.set 0 { wLive.pkt.ports[0] with remap := some { lane := 2, phys := 2, width := 8, block := 77, sentAt := 3, tries := 3, acked := false } } } }, .up, { lane := 2, phys := 2, width := 8, block := 77, sentAt := 3, tries := 3, acked := false }, ?_⟩; decide +kernel,
    by refine ⟨State.reset, .up, ?_⟩; decide +kernel,
    by refine ⟨let s : State := (List.range 9).foldl (fun s l => s.setFld (Reg.LN_LANE_RX 0 l) 31 24 (0x80 + l)) ((wLive.setFld (Reg.LN_TRAIN_STAT 0) 31 0 0x510881FF)); { s with pkt := { s.pkt with ports := s.pkt.ports.set 0 { s.pkt.ports[0] with rxBlock := 77, remap := some { lane := 2, phys := 2, width := 8, block := 77, sentAt := 3, tries := 1, acked := true } } } }, .up, true, { lane := 2, phys := 2, width := 8, block := 77, sentAt := 3, tries := 1, acked := true }, 8, ?_⟩; decide +kernel,
    by refine ⟨let s : State := (List.range 9).foldl (fun s l => s.setFld (Reg.LN_LANE_RX 0 l) 31 24 (0x80 + l)) ((wLive.setFld (Reg.LN_TRAIN_STAT 0) 31 0 0x510881FF)); { s with pkt := { s.pkt with ports := s.pkt.ports.set 0 { s.pkt.ports[0] with rxBlock := 77, remap := some { lane := 2, phys := 2, width := 4, block := 77, sentAt := 3, tries := 1, acked := true } } } }, .up, true, { lane := 2, phys := 2, width := 4, block := 77, sentAt := 3, tries := 1, acked := true }, ?_⟩; decide +kernel,
    by refine ⟨let s : State := (List.range 9).foldl (fun s l => s.setFld (Reg.LN_LANE_RX 0 l) 31 24 (0x80 + l)) ((wLive.setFld (Reg.LN_TRAIN_STAT 0) 31 0 0x510881FF)); { s with pkt := { s.pkt with ports := s.pkt.ports.set 0 { s.pkt.ports[0] with rxBlock := 77, remap := some { lane := 2, phys := 2, width := 8, block := 77, sentAt := 3, tries := 1, acked := true } } } }.setFld (Reg.LN_LANE_RX 0 8) 27 24 0xF, .up, true, { lane := 2, phys := 2, width := 8, block := 77, sentAt := 3, tries := 1, acked := true }, ?_⟩; decide +kernel,
    by refine ⟨let s : State := (List.range 9).foldl (fun s l => s.setFld (Reg.LN_LANE_RX 0 l) 31 24 (0x80 + l)) ((wLive.setFld (Reg.LN_TRAIN_STAT 0) 31 0 0x510881FF)); { s with pkt := { s.pkt with ports := s.pkt.ports.set 0 { s.pkt.ports[0] with rxBlock := 77, waiting := [(76, 4), (76, 5)], remap := some { lane := 2, phys := 2, width := 8, block := 77, sentAt := 3, tries := 1, acked := true } } } }, .up, true, { lane := 2, phys := 2, width := 8, block := 77, sentAt := 3, tries := 1, acked := true }, ?_⟩; decide +kernel,
    by refine ⟨{ (wLive.setFld (Reg.LN_TRAIN_STAT 0) 31 28 5) with pkt := { wLive.pkt with ports := wLive.pkt.ports.set 0 { wLive.pkt.ports[0] with txRemap := some { lane := 2, phys := 2, width := 8, block := 0, sentAt := 3, tries := 1, acked := true } } } }, .up, false, { lane := 2, phys := 2, width := 8, block := 0, sentAt := 3, tries := 1, acked := true }, ?_⟩; decide +kernel,
    by refine ⟨State.reset, .up, true, ?_⟩; decide +kernel⟩

/-- Witnesses for `Obligations.LinkSleep`. -/
theorem wit_linkSleep :
    (∃ s : State, ∃ (p : Port), s.Canon ∧ s.portState p.idx = 5 ∧ s.txAwake p.idx = true ∧ s.bit (Reg.LN_SLEEP_CFG p.idx) 31 = true ∧ nsPassed (s.now - (s.port p.idx).idleSince) (10 * s.fld (Reg.LN_SLEEP_CFG p.idx) 25 16) = true) ∧
    (∃ s : State, ∃ (p : Port), s.Canon ∧ (s.portState p.idx ≠ 5 ∨ s.txAwake p.idx = false ∨ s.bit (Reg.LN_SLEEP_CFG p.idx) 31 = false)) ∧
    (∃ s : State, ∃ (p : Port), s.Canon ∧ s.portState p.idx = 5 ∧ s.fld (Reg.LN_SLEEP_STAT p.idx) 5 4 = 1 ∧ s.bit (Reg.LN_SLEEP_CFG p.idx) 30 = true ∧ usPassed (s.now - (s.port p.idx).dozeAt) (s.fld (Reg.LN_SLEEP_CFG p.idx) 11 0) = true) ∧
    (∃ s : State, ∃ (p : Port), s.Canon ∧ (s.portState p.idx ≠ 5 ∨ s.fld (Reg.LN_SLEEP_STAT p.idx) 5 4 ≠ 1 ∨ s.bit (Reg.LN_SLEEP_CFG p.idx) 30 = false)) ∧
    (∃ s : State, ∃ (p : Port), s.Canon ∧ s.portState p.idx = 5 ∧ s.txAwake p.idx = false ∧ s.wakeWanted p.idx = true) ∧
    (∃ s : State, ∃ (p : Port), s.Canon ∧ (s.portState p.idx ≠ 5 ∨ s.txAwake p.idx = true ∨ s.wakeWanted p.idx = false)) ∧
    (∃ s : State, ∃ (p : Port) (last : Vector (List LaneWord) 9), s.Canon ∧ s.portState p.idx = 5 ∧ (s.fld (Reg.LN_SLEEP_STAT p.idx) 1 0 ≠ 0 ∨ s.sleepSet p.idx last = true)) ∧
    (∃ s : State, ∃ (p : Port) (last : Vector (List LaneWord) 9), s.Canon ∧ (s.portState p.idx ≠ 5 ∨ (s.fld (Reg.LN_SLEEP_STAT p.idx) 1 0 = 0 ∧ s.sleepSet p.idx last = false))) :=
  ⟨by refine ⟨(wLive.setFld (Reg.LN_TRAIN_STAT 0) 31 28 5).setBit (Reg.LN_SLEEP_CFG 0) 31 true, .up, ?_⟩; decide +kernel,
    by refine ⟨State.reset, .up, ?_⟩; decide +kernel,
    by refine ⟨((wLive.setFld (Reg.LN_TRAIN_STAT 0) 31 28 5).setBit (Reg.LN_SLEEP_CFG 0) 30 true).setFld (Reg.LN_SLEEP_STAT 0) 5 4 1, .up, ?_⟩; decide +kernel,
    by refine ⟨State.reset, .up, ?_⟩; decide +kernel,
    by refine ⟨({ (wLive.setFld (Reg.LN_TRAIN_STAT 0) 31 28 5) with pkt := { wLive.pkt with ports := wLive.pkt.ports.set 0 { wLive.pkt.ports[0] with bchWait := [(6, 0), (4, 9)] } } }).setFld (Reg.LN_SLEEP_STAT 0) 5 4 2, .up, ?_⟩; decide +kernel,
    by refine ⟨State.reset, .up, ?_⟩; decide +kernel,
    by refine ⟨(List.range 9).foldl (fun s l => s.setFld (Reg.LN_LANE_RX 0 l) 31 24 (0x80 + l)) ((wLive.setFld (Reg.LN_TRAIN_STAT 0) 31 0 0x510881FF)), .up, wSleep, ?_⟩; decide +kernel,
    by refine ⟨State.reset, .up, wSleep, ?_⟩; decide +kernel⟩

/-- Witnesses for `Obligations.LaneTestCommands`. -/
theorem wit_laneTestCommands :
    (∃ s : State, s.Canon ∧ s.writable = true) ∧
    (∃ s : State, s.Canon ∧ s.writable = false) ∧
    (∃ s : State, ∃ (p : Port) (copies : List (Vector Byte 8)) (bs : List Byte), s.Canon ∧ bchRead copies = some bs ∧ byteAt bs 1 = 0x04 ∧ s.portUp p.idx = true ∧ s.mode = .ready) ∧
    (∃ s : State, ∃ (copies : List (Vector Byte 8)), s.Canon ∧ bchRead copies = none) ∧
    (∃ s : State, ∃ (p : Port) (copies : List (Vector Byte 8)) (bs : List Byte), s.Canon ∧ bchRead copies = some bs ∧ (byteAt bs 1 ≠ 0x04 ∨ s.portUp p.idx = false ∨ s.mode ≠ .ready)) ∧
    (∃ s : State, ∃ (p : Port) (x : LaneTest), s.Canon ∧ s.portState p.idx = 8 ∧ (s.port p.idx).test = some x ∧ msPassed (s.now - (s.port p.idx).since) (max 1 (s.fld (Reg.LN_TEST_DUR p.idx) 15 0)) = true) ∧
    (∃ s : State, ∃ (p : Port), s.Canon ∧ s.portState p.idx ≠ 8) ∧
    (∃ s : State, ∃ (p : Port) (l : Fin 9) (bits : List Bool) (x : LaneTest) (c : Checker), s.Canon ∧ s.portState p.idx = 8 ∧ (s.port p.idx).test = some x ∧ bitOf x.lanes l = true ∧ (((s.port p.idx).lanes[l]).checker.take x.pattern (if s.bit (Reg.LN_LANE_RX p.idx l) 29 = true then bits.map (!·) else bits) = c)) ∧
    (∃ s : State, ∃ (p : Port) (l : Fin 9), s.Canon ∧ (s.portState p.idx ≠ 8 ∨ ((s.port p.idx).test.all fun x => !bitOf x.lanes l) = true)) ∧
    (∃ s : State, ∃ (p : Port) (l : Fin 9) (bits : List Bool) (x : LaneTest) (c : Checker), s.Canon ∧ s.portState p.idx = 8 ∧ (s.port p.idx).test = some x ∧ bitOf x.lanes l = true ∧ (((s.port p.idx).lanes[l]).checker.take x.pattern (if s.bit (Reg.LN_LANE_RX p.idx l) 29 = true then bits.map (!·) else bits) = c)) ∧
    (∃ s : State, ∃ (p : Port) (l : Fin 9), s.Canon ∧ (s.portState p.idx ≠ 8 ∨ ((s.port p.idx).test.all fun x => !bitOf x.lanes l) = true)) ∧
    (∃ s : State, s.Canon ∧ s.writable = true) ∧
    (∃ s : State, s.Canon ∧ s.writable = false) :=
  ⟨by refine ⟨wOpen.setFld (Reg.LN_TRAIN_STAT 0) 31 28 5, ?_⟩; decide +kernel,
    by refine ⟨State.reset, ?_⟩; decide +kernel,
    by refine ⟨wOpen.setFld (Reg.LN_TRAIN_STAT 0) 31 28 5, .up, wBch 4 0x02000500, bchBytes 4 0x02000500, ?_⟩; decide +kernel,
    by refine ⟨(wLive.setFld (Reg.LN_TRAIN_STAT 0) 31 28 5), [], ?_⟩; decide +kernel,
    by refine ⟨State.reset, .up, wBch 4 5, bchBytes 4 5, ?_⟩; decide +kernel,
    by refine ⟨({ ((wLive.setFld (Reg.LN_TEST_DUR 0) 15 0 1).setFld (Reg.LN_TRAIN_STAT 0) 31 28 8) with pkt := { wLive.pkt with ports := wLive.pkt.ports.set 0 { wLive.pkt.ports[0] with test := some { pattern := 1, lanes := 0x1FF, left := 0, own := true } } } }).setBit (Reg.LN_TEST_STAT 0) 4 true, .up, { pattern := 1, lanes := 0x1FF, left := 0, own := true }, ?_⟩; decide +kernel,
    by refine ⟨State.reset, .up, ?_⟩; decide +kernel,
    by refine ⟨{ (wLive.setFld (Reg.LN_TRAIN_STAT 0) 31 28 8) with pkt := { wLive.pkt with ports := wLive.pkt.ports.set 0 { wLive.pkt.ports[0] with test := some { pattern := 1, lanes := 0x1FF, left := 0, own := true } } } }, .up, 3, [true, false, true], { pattern := 1, lanes := 0x1FF, left := 0, own := true }, Checker.take 1 {} [true, false, true], ?_⟩; decide +kernel,
    by refine ⟨State.reset, .up, 3, ?_⟩; decide +kernel,
    by refine ⟨{ (wLive.setFld (Reg.LN_TRAIN_STAT 0) 31 28 8) with pkt := { wLive.pkt with ports := wLive.pkt.ports.set 0 { wLive.pkt.ports[0] with test := some { pattern := 1, lanes := 0x1FF, left := 0, own := true } } } }, .up, 3, [true, false, true], { pattern := 1, lanes := 0x1FF, left := 0, own := true }, Checker.take 1 {} [true, false, true], ?_⟩; decide +kernel,
    by refine ⟨State.reset, .up, 3, ?_⟩; decide +kernel,
    by refine ⟨wOpen.setFld (Reg.LN_TRAIN_STAT 0) 31 28 5, ?_⟩; decide +kernel,
    by refine ⟨State.reset, ?_⟩; decide +kernel⟩

/-- Witnesses for `Obligations.ReceivedParcelChecks`. -/
theorem wit_receivedParcelChecks :
    (∃ s : State, ∃ (p : Port) (lanes : Vector (List LaneWord) 9) (bytes : List Byte) (errored : Bool), s.Canon ∧ s.portUp p.idx = true ∧ readSets (s.rxWidth p.idx) (s.setsOf p.idx lanes) = (bytes, errored) ∧ beginsParcel (s.setsOf p.idx lanes) = true ∧ (bytes.length < 16 ∨ crc8 (bytes.take 15) ≠ byteAt bytes 15)) ∧
    (∃ s : State, ∃ (p : Port) (lanes : Vector (List LaneWord) 9) (bytes : List Byte) (errored : Bool), s.Canon ∧ s.portUp p.idx = true ∧ readSets (s.rxWidth p.idx) (s.setsOf p.idx lanes) = (bytes, errored) ∧ beginsParcel (s.setsOf p.idx lanes) = true ∧ 16 ≤ bytes.length ∧ crc8 (bytes.take 15) = byteAt bytes 15 ∧ queueOf (parseHeader bytes).plane (parseHeader bytes).sub = none) ∧
    (∃ s : State, ∃ (p : Port) (lanes : Vector (List LaneWord) 9) (bytes : List Byte) (errored : Bool) (q : Fin 8), s.Canon ∧ s.portUp p.idx = true ∧ readSets (s.rxWidth p.idx) (s.setsOf p.idx lanes) = (bytes, errored) ∧ beginsParcel (s.setsOf p.idx lanes) = true ∧ 16 ≤ bytes.length ∧ crc8 (bytes.take 15) = byteAt bytes 15 ∧ queueOf (parseHeader bytes).plane (parseHeader bytes).sub = some q ∧ s.formOk (parseHeader bytes) (headerLen bytes) ((bytes.drop 16 ++ List.replicate (headerLen bytes) 0).take (headerLen bytes)) = false) ∧
    (∃ s : State, ∃ (p : Port) (lanes : Vector (List LaneWord) 9) (bytes : List Byte) (errored : Bool) (q : Fin 8), s.Canon ∧ s.portUp p.idx = true ∧ readSets (s.rxWidth p.idx) (s.setsOf p.idx lanes) = (bytes, errored) ∧ beginsParcel (s.setsOf p.idx lanes) = true ∧ 16 ≤ bytes.length ∧ crc8 (bytes.take 15) = byteAt bytes 15 ∧ queueOf (parseHeader bytes).plane (parseHeader bytes).sub = some q ∧ s.formOk (parseHeader bytes) (headerLen bytes) ((bytes.drop 16 ++ List.replicate (headerLen bytes) 0).take (headerLen bytes)) = true ∧ 20 + (headerLen bytes) ≤ bytes.length ∧ (fieldAt bytes (16 + (headerLen bytes)) 4 ≠ crc32 (bytes.take (16 + (headerLen bytes))) ∨ errored = true) ∧ fieldAt bytes (16 + (headerLen bytes)) 4 = 0xFFFFFFFF - crc32 (bytes.take (16 + (headerLen bytes))) ∧ s.basebandPort p.idx = true) ∧
    (∃ s : State, ∃ (p : Port) (lanes : Vector (List LaneWord) 9) (bytes : List Byte) (errored : Bool) (q : Fin 8), s.Canon ∧ s.portUp p.idx = true ∧ readSets (s.rxWidth p.idx) (s.setsOf p.idx lanes) = (bytes, errored) ∧ beginsParcel (s.setsOf p.idx lanes) = true ∧ 16 ≤ bytes.length ∧ crc8 (bytes.take 15) = byteAt bytes 15 ∧ queueOf (parseHeader bytes).plane (parseHeader bytes).sub = some q ∧ s.formOk (parseHeader bytes) (headerLen bytes) ((bytes.drop 16 ++ List.replicate (headerLen bytes) 0).take (headerLen bytes)) = true ∧ (bytes.length < 20 + (headerLen bytes) ∨ (fieldAt bytes (16 + (headerLen bytes)) 4 ≠ 0xFFFFFFFF - crc32 (bytes.take (16 + (headerLen bytes))) ∧ (fieldAt bytes (16 + (headerLen bytes)) 4 ≠ crc32 (bytes.take (16 + (headerLen bytes))) ∨ errored = true))) ∧ s.basebandPort p.idx = true) ∧
    (∃ s : State, ∃ (p : Port) (lanes : Vector (List LaneWord) 9), s.Canon ∧ (s.portUp p.idx = false ∨ beginsParcel (s.setsOf p.idx lanes) = false)) :=
  ⟨by refine ⟨wUp, .up, wSets ([1,2,3]), (readSets 8 (wUp.setsOf 0 (wSets ([1,2,3])))).1, false, ?_⟩; decide +kernel,
    by refine ⟨wUp, .up, wSets (parcelBytes { plane := 7, sub := 0, judged := false, bits := 0, flow := mkFlow 0 5 0 0, seq := 0, air := 0 } (List.replicate 16 0) false), (readSets 8 (wUp.setsOf 0 (wSets (parcelBytes { plane := 7, sub := 0, judged := false, bits := 0, flow := mkFlow 0 5 0 0, seq := 0, air := 0 } (List.replicate 16 0) false)))).1, false, ?_⟩; decide +kernel,
    by refine ⟨wUp, .up, wSets (parcelBytes { plane := 4, sub := 0, judged := false, bits := 0, flow := mkFlow 0 5 0 0, seq := 0, air := 0 } (List.replicate 15 0) false), (readSets 8 (wUp.setsOf 0 (wSets (parcelBytes { plane := 4, sub := 0, judged := false, bits := 0, flow := mkFlow 0 5 0 0, seq := 0, air := 0 } (List.replicate 15 0) false)))).1, false, 7, ?_⟩; decide +kernel,
    by refine ⟨wUp, .up, wSets (parcelBytes { plane := 4, sub := 0, judged := false, bits := 0, flow := mkFlow 0 5 0 0, seq := 0, air := 0 } (List.replicate 16 0) true), (readSets 8 (wUp.setsOf 0 (wSets (parcelBytes { plane := 4, sub := 0, judged := false, bits := 0, flow := mkFlow 0 5 0 0, seq := 0, air := 0 } (List.replicate 16 0) true)))).1, false, 7, ?_⟩; decide +kernel,
    by refine ⟨{ wUp with pkt := { wUp.pkt with ports := wUp.pkt.ports.set 0 { wUp.pkt.ports[0] with overflow := true } } }, .up, wSets (parcelBytes { plane := 4, sub := 0, judged := false, bits := 0, flow := mkFlow 0 5 0 0, seq := 0, air := 0 } (List.replicate 16 0) false), (readSets 8 (wUp.setsOf 0 (wSets (parcelBytes { plane := 4, sub := 0, judged := false, bits := 0, flow := mkFlow 0 5 0 0, seq := 0, air := 0 } (List.replicate 16 0) false)))).1, true, 7, ?_⟩; decide +kernel,
    by refine ⟨State.reset, .up, wSleep, ?_⟩; decide +kernel⟩

/-- Witnesses for `Obligations.ManagementRequestParcels`. -/
theorem wit_managementRequestParcels :
    (∃ s : State, ∃ (p : Port) (lanes : Vector (List LaneWord) 9) (bytes : List Byte) (errored : Bool), s.Canon ∧ s.portUp p.idx = true ∧ readSets (s.rxWidth p.idx) (s.setsOf p.idx lanes) = (bytes, errored) ∧ beginsParcel (s.setsOf p.idx lanes) = true ∧ 16 ≤ bytes.length ∧ crc8 (bytes.take 15) = byteAt bytes 15 ∧ s.formOk (parseHeader bytes) (headerLen bytes) ((bytes.drop 16 ++ List.replicate (headerLen bytes) 0).take (headerLen bytes)) = true ∧ 20 + (headerLen bytes) ≤ bytes.length ∧ fieldAt bytes (16 + (headerLen bytes)) 4 = crc32 (bytes.take (16 + (headerLen bytes))) ∧ errored = false ∧ (parseHeader bytes).plane = 4 ∧ (parseHeader bytes).sub = 0 ∧ flowDest (parseHeader bytes).flow = s.position ∧ ((parseHeader bytes).seq + 2 ^ 32 - ((s.port p.idx).queues[(7 : Fin 8)]).expect) % 2 ^ 32 = 0) ∧
    (∃ s : State, ∃ (p : Port) (lanes : Vector (List LaneWord) 9) (bytes : List Byte) (errored : Bool), s.Canon ∧ s.portUp p.idx = true ∧ readSets (s.rxWidth p.idx) (s.setsOf p.idx lanes) = (bytes, errored) ∧ beginsParcel (s.setsOf p.idx lanes) = true ∧ 16 ≤ bytes.length ∧ crc8 (bytes.take 15) = byteAt bytes 15 ∧ s.formOk (parseHeader bytes) (headerLen bytes) ((bytes.drop 16 ++ List.replicate (headerLen bytes) 0).take (headerLen bytes)) = true ∧ 20 + (headerLen bytes) ≤ bytes.length ∧ fieldAt bytes (16 + (headerLen bytes)) 4 = crc32 (bytes.take (16 + (headerLen bytes))) ∧ errored = false ∧ (parseHeader bytes).plane = 4 ∧ (parseHeader bytes).sub = 0 ∧ flowDest (parseHeader bytes).flow = s.position ∧ 2 ^ 31 ≤ ((parseHeader bytes).seq + 2 ^ 32 - ((s.port p.idx).queues[(7 : Fin 8)]).expect) % 2 ^ 32) ∧
    (∃ s : State, ∃ (p : Port) (lanes : Vector (List LaneWord) 9) (bytes : List Byte) (errored : Bool), s.Canon ∧ s.portUp p.idx = true ∧ readSets (s.rxWidth p.idx) (s.setsOf p.idx lanes) = (bytes, errored) ∧ beginsParcel (s.setsOf p.idx lanes) = true ∧ 16 ≤ bytes.length ∧ crc8 (bytes.take 15) = byteAt bytes 15 ∧ s.formOk (parseHeader bytes) (headerLen bytes) ((bytes.drop 16 ++ List.replicate (headerLen bytes) 0).take (headerLen bytes)) = true ∧ 20 + (headerLen bytes) ≤ bytes.length ∧ fieldAt bytes (16 + (headerLen bytes)) 4 = crc32 (bytes.take (16 + (headerLen bytes))) ∧ errored = false ∧ (parseHeader bytes).plane = 4 ∧ (parseHeader bytes).sub = 0 ∧ flowDest (parseHeader bytes).flow = s.position ∧ 0 < ((parseHeader bytes).seq + 2 ^ 32 - ((s.port p.idx).queues[(7 : Fin 8)]).expect) % 2 ^ 32 ∧ ((parseHeader bytes).seq + 2 ^ 32 - ((s.port p.idx).queues[(7 : Fin 8)]).expect) % 2 ^ 32 < 2 ^ 31) :=
  ⟨by refine ⟨wUp, .up, wSets (parcelBytes { plane := 4, sub := 0, judged := false, bits := 0, flow := mkFlow 0 5 0 0, seq := 0, air := 0 } (bytesOf 1 1 ++ List.replicate 15 0) false), (readSets 8 (wUp.setsOf 0 (wSets (parcelBytes { plane := 4, sub := 0, judged := false, bits := 0, flow := mkFlow 0 5 0 0, seq := 0, air := 0 } (bytesOf 1 1 ++ List.replicate 15 0) false)))).1, false, ?_⟩; decide +kernel,
    by refine ⟨wUp, .up, wSets (parcelBytes { plane := 4, sub := 0, judged := false, bits := 0, flow := mkFlow 0 5 0 0, seq := 0xFFFFFFFF, air := 0 } (bytesOf 1 1 ++ List.replicate 15 0) false), (readSets 8 (wUp.setsOf 0 (wSets (parcelBytes { plane := 4, sub := 0, judged := false, bits := 0, flow := mkFlow 0 5 0 0, seq := 0xFFFFFFFF, air := 0 } (bytesOf 1 1 ++ List.replicate 15 0) false)))).1, false, ?_⟩; decide +kernel,
    by refine ⟨wUp, .up, wSets (parcelBytes { plane := 4, sub := 0, judged := false, bits := 0, flow := mkFlow 0 5 0 0, seq := 3, air := 0 } (bytesOf 1 1 ++ List.replicate 15 0) false), (readSets 8 (wUp.setsOf 0 (wSets (parcelBytes { plane := 4, sub := 0, judged := false, bits := 0, flow := mkFlow 0 5 0 0, seq := 3, air := 0 } (bytesOf 1 1 ++ List.replicate 15 0) false)))).1, false, ?_⟩; decide +kernel⟩

/-- Witnesses for `Obligations.ParcelReceiveFrame`. -/
theorem wit_parcelReceiveFrame :
    (∃ s : State, ∃ (p : Port) (lanes : Vector (List LaneWord) 9) (bytes : List Byte) (errored : Bool), s.Canon ∧ s.portUp p.idx = true ∧ readSets (s.rxWidth p.idx) (s.setsOf p.idx lanes) = (bytes, errored) ∧ beginsParcel (s.setsOf p.idx lanes) = true ∧ 16 ≤ bytes.length ∧ crc8 (bytes.take 15) = byteAt bytes 15 ∧ s.formOk (parseHeader bytes) (headerLen bytes) ((bytes.drop 16 ++ List.replicate (headerLen bytes) 0).take (headerLen bytes)) = true ∧ 20 + (headerLen bytes) ≤ bytes.length ∧ fieldAt bytes (16 + (headerLen bytes)) 4 = crc32 (bytes.take (16 + (headerLen bytes))) ∧ errored = false) :=
  by refine ⟨wUp, .up, wSets (parcelBytes { plane := 4, sub := 0, judged := false, bits := 0, flow := mkFlow 0 5 0 0, seq := 0, air := 0 } (bytesOf 1 1 ++ List.replicate 15 0) false), (readSets 8 (wUp.setsOf 0 (wSets (parcelBytes { plane := 4, sub := 0, judged := false, bits := 0, flow := mkFlow 0 5 0 0, seq := 0, air := 0 } (bytesOf 1 1 ++ List.replicate 15 0) false)))).1, false, ?_⟩; decide +kernel

/-- Witnesses for `Obligations.TransmittedParcels`. -/
theorem wit_transmittedParcels :
    (∃ s : State, ∃ (p : Port) (q : Fin 8) (x : Parcel), s.Canon ∧ s.portUp p.idx = true ∧ s.txAwake p.idx = true ∧ ((∀ k : Fin 8, (((s.port p.idx).queues[k]).wait.all fun y => !s.aged k y) = true)) ∧ s.nextQueue p.idx = some q ∧ ((s.port p.idx).queues[q]).next = some (x, none) ∧ x.plane ≠ 3 ∧ x.due = none) ∧
    (∃ s : State, ∃ (p : Port) (q : Fin 8) (x : Parcel) (n : Nat), s.Canon ∧ s.portUp p.idx = true ∧ s.txAwake p.idx = true ∧ ((∀ k : Fin 8, (((s.port p.idx).queues[k]).wait.all fun y => !s.aged k y) = true)) ∧ s.nextQueue p.idx = some q ∧ ((s.port p.idx).queues[q]).next = some (x, some n)) ∧
    (∃ s : State, ∃ (p : Port), s.Canon ∧ s.portUp p.idx = true ∧ s.txAwake p.idx = true) ∧
    (∃ s : State, ∃ (p : Port), s.Canon ∧ (s.portUp p.idx = false ∨ s.txAwake p.idx = false)) ∧
    (∃ s : State, s.Canon) :=
  ⟨by refine ⟨{ (wLive.setFld (Reg.LN_TRAIN_STAT 0) 31 28 5).setFld (Reg.PKT_CREDIT 0 7) 23 0 100 with pkt := { wLive.pkt with ports := wLive.pkt.ports.set 0 { wLive.pkt.ports[0] with queues := wLive.pkt.ports[0].queues.set 7 { wait := [{ plane := 4, sub := 2, flow := 0xA000, air := 0, payload := List.replicate 16 7, at_ := 99999990 }] } } } }, .up, 7, { plane := 4, sub := 2, flow := 0xA000, air := 0, payload := List.replicate 16 7, at_ := 99999990 }, ?_⟩; decide +kernel,
    by refine ⟨{ (wLive.setFld (Reg.LN_TRAIN_STAT 0) 31 28 5).setFld (Reg.PKT_CREDIT 0 7) 23 0 100 with pkt := { wLive.pkt with ports := wLive.pkt.ports.set 0 { wLive.pkt.ports[0] with queues := wLive.pkt.ports[0].queues.set 7 { kept := [{ seq := 9, parcel := { plane := 4, sub := 2, flow := 0xA000, air := 0, payload := List.replicate 16 7, at_ := 99999990 }, sentAt := 5, again := true }] } } } }, .up, 7, { plane := 4, sub := 2, flow := 0xA000, air := 0, payload := List.replicate 16 7, at_ := 99999990 }, 9, ?_⟩; decide +kernel,
    by refine ⟨{ (wLive.setFld (Reg.LN_TRAIN_STAT 0) 31 28 5).setFld (Reg.PKT_CREDIT 0 7) 23 0 100 with pkt := { wLive.pkt with ports := wLive.pkt.ports.set 0 { wLive.pkt.ports[0] with queues := wLive.pkt.ports[0].queues.set 7 { wait := [{ plane := 4, sub := 2, flow := 0xA000, air := 0, payload := List.replicate 16 7, at_ := 99999990 }] } } } }, .up, ?_⟩; decide +kernel,
    by refine ⟨State.reset, .up, ?_⟩; decide +kernel,
    by refine ⟨{ ((wLive.setFld (Reg.LN_TRAIN_STAT 0) 31 28 5).setFld (Reg.PKT_CREDIT 0 7) 23 0 100).setFld (Reg.PKT_Q_CFG 7) 7 0 3 with pkt := { wLive.pkt with ports := wLive.pkt.ports.set 0 { wLive.pkt.ports[0] with queues := wLive.pkt.ports[0].queues.set 7 { wait := [{ plane := 4, sub := 2, flow := 0xA000, air := 0, payload := List.replicate 16 7, at_ := 99999990 }, { plane := 4, sub := 2, flow := 0xA000, air := 0, payload := List.replicate 16 7, at_ := 5 }] } } } }, ?_⟩; decide +kernel⟩

/-- Witnesses for `Obligations.CreditsAndAcknowledgements`. -/
theorem wit_creditsAndAcknowledgements :
    (∃ s : State, ∃ (p : Port) (q : Fin 8), s.Canon ∧ s.portUp p.idx = true ∧ ((s.port p.idx).queues[q]).freed ≠ 0) ∧
    (∃ s : State, ∃ (p : Port) (q : Fin 8), s.Canon ∧ (s.portUp p.idx = false ∨ ((s.port p.idx).queues[q]).freed = 0)) ∧
    (∃ s : State, ∃ (p : Port) (copies : List (Vector Byte 8)) (bs : List Byte) (q : Fin 8) (n : Nat), s.Canon ∧ bchRead copies = some bs ∧ byteAt bs 1 = 0x81 ∧ q = bchQueue bs ∧ n = bchNumber bs ∧ s.portUp p.idx = true) ∧
    (∃ s : State, ∃ (copies : List (Vector Byte 8)), s.Canon ∧ bchRead copies = none) ∧
    (∃ s : State, ∃ (p : Port) (copies : List (Vector Byte 8)) (bs : List Byte) (q : Fin 8) (n : Nat), s.Canon ∧ bchRead copies = some bs ∧ byteAt bs 1 = 0x82 ∧ q = bchQueue bs ∧ n = bchNumber bs ∧ s.portUp p.idx = true) ∧
    (∃ s : State, ∃ (copies : List (Vector Byte 8)), s.Canon ∧ bchRead copies = none) ∧
    (∃ s : State, ∃ (p : Port) (copies : List (Vector Byte 8)) (bs : List Byte) (q : Fin 8) (n : Nat), s.Canon ∧ bchRead copies = some bs ∧ byteAt bs 1 = 0x83 ∧ q = bchQueue bs ∧ n = bchNumber bs ∧ s.portUp p.idx = true ∧ reliable q = true) ∧
    (∃ s : State, ∃ (copies : List (Vector Byte 8)), s.Canon ∧ bchRead copies = none) ∧
    (∃ s : State, ∃ (p : Port) (copies : List (Vector Byte 8)) (bs : List Byte) (q : Fin 8) (n : Nat), s.Canon ∧ bchRead copies = some bs ∧ byteAt bs 1 = 0x84 ∧ q = bchQueue bs ∧ n = bchNumber bs ∧ s.portUp p.idx = true ∧ reliable q = true ∧ (n + 0x1000000 - ((s.port p.idx).queues[q]).expect % 0x1000000) % 0x1000000 < 2 ^ 23) ∧
    (∃ s : State, ∃ (p : Port) (copies : List (Vector Byte 8)) (bs : List Byte) (q : Fin 8) (n : Nat), s.Canon ∧ bchRead copies = some bs ∧ byteAt bs 1 = 0x84 ∧ q = bchQueue bs ∧ n = bchNumber bs ∧ s.portUp p.idx = true ∧ reliable q = true ∧ 2 ^ 23 ≤ (n + 0x1000000 - ((s.port p.idx).queues[q]).expect % 0x1000000) % 0x1000000) ∧
    (∃ s : State, ∃ (copies : List (Vector Byte 8)), s.Canon ∧ bchRead copies = none) ∧
    (∃ s : State, ∃ (p : Port) (q : Fin 8) (k : Kept), s.Canon ∧ ((s.port p.idx).queues[q]).kept.head? = some k ∧ s.portUp p.idx = true ∧ reliable q = true ∧ k.again = false ∧ (usPassed (s.now - k.sentAt) (if q.val = 1 then 5 else if q.val = 5 then 10 else 100) = true)) ∧
    (∃ s : State, ∃ (p : Port) (copies : List (Vector Byte 8)) (bs : List Byte), s.Canon ∧ bchRead copies = some bs ∧ (byteAt bs 1 ≠ 0x81 ∨ s.portUp p.idx = false)) ∧
    (∃ s : State, ∃ (p : Port) (copies : List (Vector Byte 8)) (bs : List Byte), s.Canon ∧ bchRead copies = some bs ∧ (byteAt bs 1 ≠ 0x82 ∨ s.portUp p.idx = false)) ∧
    (∃ s : State, ∃ (p : Port) (copies : List (Vector Byte 8)) (bs : List Byte), s.Canon ∧ bchRead copies = some bs ∧ (byteAt bs 1 ≠ 0x83 ∨ s.portUp p.idx = false)) ∧
    (∃ s : State, ∃ (p : Port) (copies : List (Vector Byte 8)) (bs : List Byte), s.Canon ∧ bchRead copies = some bs ∧ (byteAt bs 1 ≠ 0x84 ∨ s.portUp p.idx = false)) ∧
    (∃ s : State, ∃ (p : Port) (q : Fin 8), s.Canon ∧ ((((s.port p.idx).queues[q]).kept.head?.all fun k => k.again || !usPassed (s.now - k.sentAt) (if q.val = 1 then 5 else if q.val = 5 then 10 else 100)) = true ∨ s.portUp p.idx = false ∨ reliable q = false)) :=
  ⟨by refine ⟨{ (wLive.setFld (Reg.LN_TRAIN_STAT 0) 31 28 5).setFld (Reg.PKT_CREDIT 0 7) 23 0 100 with pkt := { wLive.pkt with ports := wLive.pkt.ports.set 0 { wLive.pkt.ports[0] with queues := wLive.pkt.ports[0].queues.set 7 { freed := 5 } } } }, .up, 7, ?_⟩; decide +kernel,
    by refine ⟨State.reset, .up, 7, ?_⟩; decide +kernel,
    by refine ⟨{ (wLive.setFld (Reg.LN_TRAIN_STAT 0) 31 28 5).setFld (Reg.PKT_CREDIT 0 7) 23 0 100 with pkt := { wLive.pkt with ports := wLive.pkt.ports.set 0 { wLive.pkt.ports[0] with queues := wLive.pkt.ports[0].queues.set 7 { granted := 5 } } } }, .up, wBch 0x81 0x07000009, bchBytes 0x81 0x07000009, 7, 9, ?_⟩; decide +kernel,
    by refine ⟨(wLive.setFld (Reg.LN_TRAIN_STAT 0) 31 28 5).setFld (Reg.PKT_CREDIT 0 7) 23 0 100, [], ?_⟩; decide +kernel,
    by refine ⟨{ (wLive.setFld (Reg.LN_TRAIN_STAT 0) 31 28 5).setFld (Reg.PKT_CREDIT 0 7) 23 0 100 with pkt := { wLive.pkt with ports := wLive.pkt.ports.set 0 { wLive.pkt.ports[0] with queues := wLive.pkt.ports[0].queues.set 7 { kept := [{ seq := 9, parcel := { plane := 4, sub := 2, flow := 0xA000, air := 0, payload := List.replicate 16 7, at_ := 99999990 }, sentAt := 5, resends := 0 }] } } } }, .up, wBch 0x82 0x07000009, bchBytes 0x82 0x07000009, 7, 9, ?_⟩; decide +kernel,
    by refine ⟨(wLive.setFld (Reg.LN_TRAIN_STAT 0) 31 28 5).setFld (Reg.PKT_CREDIT 0 7) 23 0 100, [], ?_⟩; decide +kernel,
    by refine ⟨{ (wLive.setFld (Reg.LN_TRAIN_STAT 0) 31 28 5).setFld (Reg.PKT_CREDIT 0 7) 23 0 100 with pkt := { wLive.pkt with ports := wLive.pkt.ports.set 0 { wLive.pkt.ports[0] with queues := wLive.pkt.ports[0].queues.set 7 { kept := [{ seq := 9, parcel := { plane := 4, sub := 2, flow := 0xA000, air := 0, payload := List.replicate 16 7, at_ := 99999990 }, sentAt := 5, resends := 8 }, { seq := 10, parcel := { plane := 4, sub := 2, flow := 0xA000, air := 0, payload := List.replicate 16 7, at_ := 99999990 }, sentAt := 5, resends := 1 }] } } } }, .up, wBch 0x83 0x07000009, bchBytes 0x83 0x07000009, 7, 9, ?_⟩; decide +kernel,
    by refine ⟨(wLive.setFld (Reg.LN_TRAIN_STAT 0) 31 28 5).setFld (Reg.PKT_CREDIT 0 7) 23 0 100, [], ?_⟩; decide +kernel,
    by refine ⟨{ (wLive.setFld (Reg.LN_TRAIN_STAT 0) 31 28 5).setFld (Reg.PKT_CREDIT 0 7) 23 0 100 with pkt := { wLive.pkt with ports := wLive.pkt.ports.set 0 { wLive.pkt.ports[0] with queues := wLive.pkt.ports[0].queues.set 7 { expect := 5 } } } }, .up, wBch 0x84 0x07000009, bchBytes 0x84 0x07000009, 7, 9, ?_⟩; decide +kernel,
    by refine ⟨{ (wLive.setFld (Reg.LN_TRAIN_STAT 0) 31 28 5).setFld (Reg.PKT_CREDIT 0 7) 23 0 100 with pkt := { wLive.pkt with ports := wLive.pkt.ports.set 0 { wLive.pkt.ports[0] with queues := wLive.pkt.ports[0].queues.set 7 { expect := 15 } } } }, .up, wBch 0x84 0x07000009, bchBytes 0x84 0x07000009, 7, 9, ?_⟩; decide +kernel,
    by refine ⟨(wLive.setFld (Reg.LN_TRAIN_STAT 0) 31 28 5).setFld (Reg.PKT_CREDIT 0 7) 23 0 100, [], ?_⟩; decide +kernel,
    by refine ⟨{ (wLive.setFld (Reg.LN_TRAIN_STAT 0) 31 28 5).setFld (Reg.PKT_CREDIT 0 7) 23 0 100 with pkt := { wLive.pkt with ports := wLive.pkt.ports.set 0 { wLive.pkt.ports[0] with queues := wLive.pkt.ports[0].queues.set 7 { kept := [{ seq := 9, parcel := { plane := 4, sub := 2, flow := 0xA000, air := 0, payload := List.replicate 16 7, at_ := 99999990 }, sentAt := 5, resends := 8 }, { seq := 10, parcel := { plane := 4, sub := 2, flow := 0xA000, air := 0, payload := List.replicate 16 7, at_ := 99999990 }, sentAt := 5, resends := 1 }] } } } }, .up, 7, { seq := 9, parcel := { plane := 4, sub := 2, flow := 0xA000, air := 0, payload := List.replicate 16 7, at_ := 99999990 }, sentAt := 5, resends := 8 }, ?_⟩; decide +kernel,
    by refine ⟨State.reset, .up, wBch 0x81 0, bchBytes 0x81 0, ?_⟩; decide +kernel,
    by refine ⟨State.reset, .up, wBch 0x82 0, bchBytes 0x82 0, ?_⟩; decide +kernel,
    by refine ⟨State.reset, .up, wBch 0x83 0, bchBytes 0x83 0, ?_⟩; decide +kernel,
    by refine ⟨State.reset, .up, wBch 0x84 0, bchBytes 0x84 0, ?_⟩; decide +kernel,
    by refine ⟨State.reset, .up, 7, ?_⟩; decide +kernel⟩

/-- Witnesses for `Obligations.CarrierOwnership`. -/
theorem wit_carrierOwnership :
    (∃ s : State, ∃ (c : Fin 4) (e : Fin 2), s.Canon ∧ s.otherEnd c = some e ∧ s.pkt.firstUp = true ∧ s.portUp (1 - e : Fin 2) = false ∧ usPassed (s.now - (s.port (1 - e)).downAt) 200 = true ∧ s.portUp e = true ∧ e.val ≠ s.fld (Reg.PKT_OWN c) 4 4) ∧
    (∃ s : State, ∃ (c : Fin 4), s.Canon ∧ ((s.otherEnd c).all (fun e => !s.portUp e) = true ∨ s.pkt.firstUp = false)) ∧
    (∃ s : State, ∃ (c : Fin 4) (e : Fin 2), s.Canon ∧ s.writable = true ∧ s.otherEnd c = some e ∧ s.portUp e = true) ∧
    (∃ s : State, ∃ (c : Fin 4), s.Canon ∧ s.writable = true ∧ (s.otherEnd c).all (fun e => !s.portUp e) = true) ∧
    (∃ s : State, s.Canon ∧ s.writable = false) :=
  ⟨by refine ⟨({ wLive with pkt := { wLive.pkt with firstUp := true } }.setFld (Reg.LN_TRAIN_STAT 1) 31 28 5).setFld (Reg.PKT_OWN 2) 5 0 4, 2, 1, ?_⟩; decide +kernel,
    by refine ⟨State.reset, 2, ?_⟩; decide +kernel,
    by refine ⟨({ wLive with pkt := { wLive.pkt with firstUp := true } }.setFld (Reg.LN_TRAIN_STAT 1) 31 28 5).setFld (Reg.PKT_OWN 2) 5 0 4, 2, 1, ?_⟩; decide +kernel,
    by refine ⟨wOpen, 2, ?_⟩; decide +kernel,
    by refine ⟨State.reset, ?_⟩; decide +kernel⟩

/-- Witnesses for `Obligations.UplinkSymbolToHead`. -/
theorem wit_uplinkSymbolToHead :
    (∃ s : State, ∃ (a : AirSym), s.Canon ∧ s.aligned = true ∧ s.isU a = true) ∧
    (∃ s : State, ∃ (a : AirSym), s.Canon ∧ (s.aligned = false ∨ s.isU a = false)) ∧
    (∃ s : State, ∃ (a : AirSym) (j : SymJob), s.Canon ∧ s.jobOf a = some j ∧ s.isU a = true ∧ (s.ulr.ffts.any fun f => f.sym == symIdx a) = true ∧ (s.ulr.outs.any fun o => o.sym == symIdx a) = false) ∧
    (∃ s : State, ∃ (a : AirSym), s.Canon ∧ s.jobOf a = none) ∧
    (∃ s : State, ∃ (a : AirSym) (j : SymJob), s.Canon ∧ s.position ≠ 0 ∧ s.jobOf a = some j) ∧
    (∃ s : State, ∃ (a : AirSym), s.Canon ∧ (s.position = 0 ∨ s.jobOf a = none)) ∧
    (∃ s : State, ∃ (a : AirSym) (j : SymJob), s.Canon ∧ s.position = 0 ∧ s.isU a = true ∧ s.ulr.cut.contains (symIdx a) = false ∧ s.jobOf a = some j) ∧
    (∃ s : State, ∃ (a : AirSym), s.Canon ∧ (s.position ≠ 0 ∨ s.isU a = false ∨ s.ulr.cut.contains (symIdx a) = true ∨ s.jobOf a = none)) :=
  ⟨by refine ⟨wU, a0, ?_⟩; decide +kernel,
    by refine ⟨State.reset, a0, ?_⟩; decide +kernel,
    by refine ⟨{ wHead with ulr := { wHead.ulr with outs := [] } }, a0, jU, ?_⟩; decide +kernel,
    by refine ⟨State.reset, a0, ?_⟩; decide +kernel,
    by refine ⟨wHead.setFld Reg.PKT_CASCADE 17 8 0x101, a0, jU, ?_⟩; decide +kernel,
    by refine ⟨State.reset, a0, ?_⟩; decide +kernel,
    by refine ⟨wHead.setFld Reg.PKT_CASCADE 17 8 0x200, a0, jU, ?_⟩; decide +kernel,
    by refine ⟨State.reset, a0, ?_⟩; decide +kernel⟩

/-- Witnesses for `Obligations.UplinkReceiverOutput`. -/
theorem wit_uplinkReceiverOutput :
    (∃ s : State, ∃ (a : AirSym), s.Canon ∧ s.position = 0 ∧ s.ulr.cut.contains (symIdx a) = true) ∧
    (∃ s : State, ∃ (a : AirSym), s.Canon ∧ (s.position ≠ 0 ∨ s.ulr.cut.contains (symIdx a) = false)) ∧
    (∃ s : State, ∃ (a : AirSym), s.Canon ∧ s.position = 0 ∧ s.ulr.cut.contains (symIdx a) = true) ∧
    (∃ s : State, ∃ (a : AirSym), s.Canon ∧ (s.position ≠ 0 ∨ s.ulr.cut.contains (symIdx a) = false)) ∧
    (∃ s : State, s.Canon ∧ s.aligned = true ∧ tabWf (fun _ => s.defaultSet) s.ulr.sel = true) ∧
    (∃ s : State, s.Canon ∧ s.aligned = false) ∧
    (∃ s : State, ∃ (c : Fin 4) (a : AirSym) (id : BitVec 12) (o : PrachOcc), s.Canon ∧ s.ulr.prach.find? (fun (o : PrachOcc) => o.car == c.val && o.sym == symIdx a && o.sec.id == id.toNat) = some o) ∧
    (∃ s : State, ∃ (c : Fin 4) (a : AirSym) (id : BitVec 12), s.Canon ∧ s.ulr.prach.find? (fun (o : PrachOcc) => o.car == c.val && o.sym == symIdx a && o.sec.id == id.toNat) = none) :=
  ⟨by refine ⟨{ wHead with ulr := { wHead.ulr with cut := [0] } }, a0, ?_⟩; decide +kernel,
    by refine ⟨State.reset, a0, ?_⟩; decide +kernel,
    by refine ⟨{ wHead with ulr := { wHead.ulr with cut := [0] } }, a0, ?_⟩; decide +kernel,
    by refine ⟨State.reset, a0, ?_⟩; decide +kernel,
    by refine ⟨wU, ?_⟩; decide +kernel,
    by refine ⟨State.reset, ?_⟩; decide +kernel,
    by refine ⟨{ wU with ulr := { wU.ulr with lost := [0], prach := [{ car := 0, sym := 0, sec := { id := 7, format := 0, start := 0, first := 0, root := 1, zcz := 1 } }] } }, 0, a0, 7, { car := 0, sym := 0, sec := { id := 7, format := 0, start := 0, first := 0, root := 1, zcz := 1 } }, ?_⟩; decide +kernel,
    by refine ⟨State.reset, 0, a0, 7, ?_⟩; decide +kernel⟩

/-- Witnesses for `Obligations.SolveAnchorAndGroups`. -/
theorem wit_solveAnchorAndGroups :
    (∃ s : State, ∃ (v : Solve), s.Canon ∧ s.nextSolve = some v ∧ v.at_ ≤ s.now) ∧
    (∃ s : State, s.Canon ∧ s.nextSolve = none) ∧
    (∃ s : State, ∃ (c : Fin 4) (tag : BitVec 8) (g : BitVec 8) (v : Solve), s.Canon ∧ s.solveOf c tag.toNat = some v ∧ v.anchored = true ∧ v.dropped = false ∧ v.ended = false ∧ v.gs.contains g.toNat = true ∧ v.group g.toNat = none ∧ s.hasRes v = true) ∧
    (∃ s : State, ∃ (c : Fin 4) (tag : BitVec 8), s.Canon ∧ s.solveOf c tag.toNat = none) ∧
    (∃ s : State, ∃ (p : Port) (flow : Nat) (air : Nat) (bs : List Byte), s.Canon ∧ s.bridleIn p.idx 4 = some (flow, air, bs)) ∧
    (∃ s : State, ∃ (p : Port), s.Canon ∧ s.bridleIn p.idx 4 = none) ∧
    (∃ s : State, ∃ (c : Fin 4) (tag : BitVec 8) (v : Solve), s.Canon ∧ s.solveOf c tag.toNat = some v ∧ s.chips ≠ 1 ∧ s.position ≠ 0 ∧ v.dropped = false ∧ v.anchored = true ∧ v.sec.writeLast = true ∧ usPassed (s.now - v.at_) 190 = true) ∧
    (∃ s : State, ∃ (c : Fin 4) (tag : BitVec 8), s.Canon ∧ s.solveOf c tag.toNat = none) ∧
    (∃ s : State, ∃ (c : Fin 4) (tag : BitVec 8) (v : Solve), s.Canon ∧ s.solveOf c tag.toNat = some v ∧ s.chips ≠ 1 ∧ s.position = 0 ∧ v.dropped = false ∧ v.anchored = true ∧ v.sec.writeLast = true ∧ usPassed (s.now - v.at_) 220 = true) ∧
    (∃ s : State, ∃ (c : Fin 4) (tag : BitVec 8), s.Canon ∧ s.solveOf c tag.toNat = none) ∧
    (∃ s : State, ∃ (p : Port) (flow : Nat) (air : Nat) (bs : List Byte), s.Canon ∧ s.bridleIn p.idx 5 = some (flow, air, bs)) ∧
    (∃ s : State, ∃ (p : Port), s.Canon ∧ s.bridleIn p.idx 5 = none) :=
  ⟨by refine ⟨wSol wSolve, wSolve, ?_⟩; decide +kernel,
    by refine ⟨State.reset, ?_⟩; decide +kernel,
    by refine ⟨wSol { wSolve with anchored := true, live := 3 }, 0, 5, 0, { wSolve with anchored := true, live := 3 }, ?_⟩; decide +kernel,
    by refine ⟨State.reset, 0, 5, ?_⟩; decide +kernel,
    by refine ⟨{ wU with pkt := { wU.pkt with bridle := [(0, 4, 9, 8, [1, 0, 0, 0, 0, 1, 0x10, 0, 0, 0x40, 0x80, 0, 0xF1, 0, 5, 0, 0, 0, 0, 1, 0, 0, 0, 0])] } }, .up, 9, 8, [1, 0, 0, 0, 0, 1, 0x10, 0, 0, 0x40, 0x80, 0, 0xF1, 0, 5, 0, 0, 0, 0, 1, 0, 0, 0, 0], ?_⟩; decide +kernel,
    by refine ⟨State.reset, .up, ?_⟩; decide +kernel,
    by refine ⟨(wSol { wSolve with anchored := true, groups := [wGroup] }).setFld Reg.PKT_CASCADE 17 8 0x101, 0, 5, { wSolve with anchored := true, groups := [wGroup] }, ?_⟩; decide +kernel,
    by refine ⟨State.reset, 0, 5, ?_⟩; decide +kernel,
    by refine ⟨(wSol { wSolve with anchored := true, groups := [wGroup] }).setFld Reg.PKT_CASCADE 17 8 0x100, 0, 5, { wSolve with anchored := true, groups := [wGroup] }, ?_⟩; decide +kernel,
    by refine ⟨State.reset, 0, 5, ?_⟩; decide +kernel,
    by refine ⟨let s : State := wSol { wSolve with anchored := true, groups := [wGroup] }; { s with pkt := { s.pkt with bridle := [(0, 5, 9, 8, [1, 0, 0, 0] ++ inverseBlock 0 5 1 0 { am := [(1, 0)], ea := 0, nLive := 64, sm := 16384, es := 0, contrib := 1, prev := false, cause := 0 })] } }, .up, 9, 8, [1, 0, 0, 0] ++ inverseBlock 0 5 1 0 { am := [(1, 0)], ea := 0, nLive := 64, sm := 16384, es := 0, contrib := 1, prev := false, cause := 0 }, ?_⟩; decide +kernel,
    by refine ⟨State.reset, .up, ?_⟩; decide +kernel⟩

/-- Witnesses for `Obligations.SolveCommit`. -/
theorem wit_solveCommit :
    (∃ s : State, ∃ (c : Fin 4) (tag : BitVec 8) (v : Solve) (g : Grant) (b : Nat), s.Canon ∧ s.solveOf c tag.toNat = some v ∧ s.solveBank v = some (g, b) ∧ s.chips = 1 ∧ v.ready s.position = true ∧ v.finished = false) ∧
    (∃ s : State, ∃ (c : Fin 4) (tag : BitVec 8), s.Canon ∧ s.solveOf c tag.toNat = none) ∧
    (∃ s : State, ∃ (c : Fin 4) (tag : BitVec 8) (v : Solve) (g : Grant) (b : Nat), s.Canon ∧ s.solveOf c tag.toNat = some v ∧ s.chips ≠ 1 ∧ v.ended = false ∧ v.written = false ∧ v.sec.writeLast = true ∧ usPassed (s.now - v.at_) 480 = true ∧ s.solveBank v = some (g, b) ∧ v.ready s.position = true ∧ v.dropped = false) ∧
    (∃ s : State, ∃ (c : Fin 4) (tag : BitVec 8) (v : Solve), s.Canon ∧ s.solveOf c tag.toNat = some v ∧ s.chips ≠ 1 ∧ v.ended = false ∧ v.written = false ∧ v.sec.writeLast = true ∧ usPassed (s.now - v.at_) 480 = true ∧ (s.solveBank v = none ∨ v.ready s.position = false ∨ v.dropped = true)) ∧
    (∃ s : State, ∃ (c : Fin 4) (tag : BitVec 8), s.Canon ∧ s.solveOf c tag.toNat = none) ∧
    (∃ s : State, ∃ (p : Port) (flow : Nat) (air : Nat) (bs : List Byte), s.Canon ∧ s.bridleIn p.idx 3 = some (flow, air, bs)) ∧
    (∃ s : State, ∃ (p : Port), s.Canon ∧ s.bridleIn p.idx 3 = none) ∧
    (∃ s : State, ∃ (c : Fin 4) (tag : BitVec 8) (v : Solve) (g : Grant) (b : Nat), s.Canon ∧ s.solveOf c tag.toNat = some v ∧ s.solveBank v = some (g, b) ∧ s.chips ≠ 1 ∧ v.written = true ∧ v.finished = false ∧ usPassed (s.now - v.at_) 500 = true) ∧
    (∃ s : State, ∃ (c : Fin 4) (tag : BitVec 8), s.Canon ∧ s.solveOf c tag.toNat = none) ∧
    (∃ s : State, ∃ (c : Fin 4) (tag : BitVec 8) (v : Solve), s.Canon ∧ s.solveOf c tag.toNat = some v ∧ v.sec.exportEst = true ∧ v.formed = true ∧ v.exported = false ∧ v.dropped = false) ∧
    (∃ s : State, ∃ (c : Fin 4) (tag : BitVec 8), s.Canon ∧ s.solveOf c tag.toNat = none) :=
  ⟨by refine ⟨let s : State := wSol { wSolve with anchored := true, exported := true, groups := [{ wGroup with rows := some [[(3, 4)]], sent := true }], sec := { wSolve.sec with ports := wSolve.sec.ports } }; ({ s with bmx := { s.bmx with grants := [{ last := 3, mgmt := false, tag := 5, nCol := 1, bank := some 1 }] } }.setFld Reg.PKT_CASCADE 17 8 0x000).setFld (Reg.DFE_CAR_CFG 0) 18 16 0, 0, 5, { wSolve with anchored := true, exported := true, groups := [{ wGroup with rows := some [[(3, 4)]], sent := true }], sec := { wSolve.sec with ports := wSolve.sec.ports } }, { last := 3, mgmt := false, tag := 5, nCol := 1, bank := some 1 }, 1, ?_⟩; decide +kernel,
    by refine ⟨State.reset, 0, 5, ?_⟩; decide +kernel,
    by refine ⟨let s : State := wSol { wSolve with anchored := true, exported := true, groups := [{ wGroup with rows := some [[(3, 4)]], sent := true }], sec := { wSolve.sec with ports := wSolve.sec.ports } }; ({ s with bmx := { s.bmx with grants := [{ last := 3, mgmt := false, tag := 5, nCol := 1, bank := some 1 }] } }.setFld Reg.PKT_CASCADE 17 8 0x100).setFld (Reg.DFE_CAR_CFG 0) 18 16 0, 0, 5, { wSolve with anchored := true, exported := true, groups := [{ wGroup with rows := some [[(3, 4)]], sent := true }], sec := { wSolve.sec with ports := wSolve.sec.ports } }, { last := 3, mgmt := false, tag := 5, nCol := 1, bank := some 1 }, 1, ?_⟩; decide +kernel,
    by refine ⟨let s : State := wSol { wSolve with anchored := true }; ({ s with bmx := { s.bmx with grants := [{ last := 3, mgmt := false, tag := 5, nCol := 1, bank := some 1 }] } }.setFld Reg.PKT_CASCADE 17 8 0x100).setFld (Reg.DFE_CAR_CFG 0) 18 16 0, 0, 5, { wSolve with anchored := true }, ?_⟩; decide +kernel,
    by refine ⟨State.reset, 0, 5, ?_⟩; decide +kernel,
    by refine ⟨let s : State := wSol { wSolve with at_ := 99999999 }; { s with pkt := { s.pkt with bridle := [(0, 3, 0, 8, [5, 0, 0, 0])] } }, .up, 0, 8, [5, 0, 0, 0], ?_⟩; decide +kernel,
    by refine ⟨State.reset, .up, ?_⟩; decide +kernel,
    by refine ⟨let s : State := wSol { wSolve with anchored := true, exported := true, written := true, groups := [{ wGroup with rows := some [[(3, 4)]], sent := true }], sec := { wSolve.sec with ports := wSolve.sec.ports } }; ({ s with bmx := { s.bmx with grants := [{ last := 3, mgmt := false, tag := 5, nCol := 1, bank := some 1 }] } }.setFld Reg.PKT_CASCADE 17 8 0x100).setFld (Reg.DFE_CAR_CFG 0) 18 16 0, 0, 5, { wSolve with anchored := true, exported := true, written := true, groups := [{ wGroup with rows := some [[(3, 4)]], sent := true }], sec := { wSolve.sec with ports := wSolve.sec.ports } }, { last := 3, mgmt := false, tag := 5, nCol := 1, bank := some 1 }, 1, ?_⟩; decide +kernel,
    by refine ⟨State.reset, 0, 5, ?_⟩; decide +kernel,
    by refine ⟨wSol { wSolve with anchored := true, groups := [wGroup] }, 0, 5, { wSolve with anchored := true, groups := [wGroup] }, ?_⟩; decide +kernel,
    by refine ⟨State.reset, 0, 5, ?_⟩; decide +kernel⟩

/-- Witnesses for `Obligations.KiteTransmitWindow`. -/
theorem wit_kiteTransmitWindow :
    (∃ s : State, ∃ (a : AirSym), s.Canon ∧ s.kiteOurs a = true) ∧
    (∃ s : State, ∃ (a : AirSym), s.Canon ∧ s.kiteOurs a = false) ∧
    (∃ s : State, ∃ (a : AirSym), s.Canon ∧ s.startsWindow a = true ∧ (s.resumeKite.kiteSends a = false ∨ s.kte.skip = some (symIdx a))) ∧
    (∃ s : State, ∃ (a : AirSym), s.Canon ∧ s.startsWindow a = true ∧ s.resumeKite.kiteSends a = true ∧ s.kte.skip ≠ some (symIdx a) ∧ (s.resumeKite.kiteBlanked = true ∨ s.kte.payload.map (·.1) ≠ some (symIdx a))) ∧
    (∃ s : State, ∃ (a : AirSym), s.Canon ∧ s.startsWindow a = true ∧ s.resumeKite.kiteSends a = true ∧ s.kte.skip ≠ some (symIdx a) ∧ s.resumeKite.kiteBlanked = false ∧ s.kte.payload.map (·.1) = some (symIdx a)) ∧
    (∃ s : State, ∃ (a : AirSym), s.Canon ∧ s.startsWindow a = false) ∧
    (∃ s : State, ∃ (a : AirSym), s.Canon ∧ s.kiteHears a = true ∧ (s.listenSpan a).1 = 0) ∧
    (∃ s : State, ∃ (a : AirSym), s.Canon ∧ (s.kiteHears a = false ∨ (s.listenSpan a).1 ≠ 0)) :=
  ⟨by refine ⟨wKite, a0, ?_⟩; decide +kernel,
    by refine ⟨State.reset, a0, ?_⟩; decide +kernel,
    by refine ⟨wHear, a0, ?_⟩; decide +kernel,
    by refine ⟨wKite, a0, ?_⟩; decide +kernel,
    by refine ⟨{ wKite with kte := { wKite.kte with payload := some (0, []) }, seq := { wKite.seq with quads := Vector.replicate 16 { st := .transmit } } }, a0, ?_⟩; decide +kernel,
    by refine ⟨State.reset, a0, ?_⟩; decide +kernel,
    by refine ⟨wListen, a0, ?_⟩; decide +kernel,
    by refine ⟨State.reset, a0, ?_⟩; decide +kernel⟩

/-- Witnesses for `Obligations.KiteDetector`. -/
theorem wit_kiteDetector :
    (∃ s : State, s.Canon ∧ s.hearing = true ∧ s.kte.det = .search) ∧
    (∃ s : State, ∃ (p : KitePeak), s.Canon ∧ s.hearing = true ∧ s.kte.det = .candidate p) ∧
    (∃ s : State, ∃ (p : KitePeak) (r : KitePeak) (snr : Nat) (power : Nat) (best : Nat), s.Canon ∧ s.hearing = true ∧ s.kte.det = .receive p r snr power best) ∧
    (∃ s : State, s.Canon ∧ s.hearing = false) ∧
    (∃ s : State, ∃ (p : KitePeak), s.Canon ∧ s.hearing = true ∧ s.kte.det = .candidate p) ∧
    (∃ s : State, s.Canon ∧ s.hearing = false) ∧
    (∃ s : State, ∃ (p : KitePeak), s.Canon ∧ s.kte.det = .candidate p ∧ p.fit.tick + (1026 + s.nextCp p) * 32 * 65536 < s.now * 65536) ∧
    (∃ s : State, s.Canon ∧ s.kte.det = .search) ∧
    (∃ s : State, ∃ (p : KitePeak) (q : KitePeak) (snr : Nat) (power : Nat) (best : Nat), s.Canon ∧ s.kte.det = .receive p q snr power best) ∧
    (∃ s : State, s.Canon ∧ s.kte.det = .search) ∧
    (∃ s : State, s.Canon ∧ s.kte.listen.isSome = true ∧ s.kte.endsAt ≤ s.now) ∧
    (∃ s : State, s.Canon ∧ (s.kte.listen = none ∨ s.now < s.kte.endsAt)) :=
  ⟨by refine ⟨wHear, ?_⟩; decide +kernel,
    by refine ⟨{ wHear with kte := { wHear.kte with det := .candidate wPeak } }, wPeak, ?_⟩; decide +kernel,
    by refine ⟨{ wHear with kte := { wHear.kte with det := (.receive wPeak { wPeak with lag := 100 + 1024 + wHear.nextCp wPeak } 40 500 3) } }, wPeak, { wPeak with lag := 100 + 1024 + wHear.nextCp wPeak }, 40, 500, 3, ?_⟩; decide +kernel,
    by refine ⟨State.reset, ?_⟩; decide +kernel,
    by refine ⟨{ wHear with kte := { wHear.kte with det := .candidate wPeak } }, wPeak, ?_⟩; decide +kernel,
    by refine ⟨State.reset, ?_⟩; decide +kernel,
    by refine ⟨{ wHear with kte := { wHear.kte with det := .candidate { wPeak with fit := { tick := 5 } } } }, { wPeak with fit := { tick := 5 } }, ?_⟩; decide +kernel,
    by refine ⟨State.reset, ?_⟩; decide +kernel,
    by refine ⟨{ wHear with kte := { wHear.kte with det := (.receive wPeak { wPeak with lag := 100 + 1024 + wHear.nextCp wPeak } 40 500 3) } }, wPeak, { wPeak with lag := 100 + 1024 + wHear.nextCp wPeak }, 40, 500, 3, ?_⟩; decide +kernel,
    by refine ⟨State.reset, ?_⟩; decide +kernel,
    by refine ⟨{ wHear with kte := { wHear.kte with det := (.receive wPeak { wPeak with lag := 100 + 1024 + wHear.nextCp wPeak } 40 500 3) } }, ?_⟩; decide +kernel,
    by refine ⟨State.reset, ?_⟩; decide +kernel⟩

/-- Witnesses for `Obligations.DramRequests`. -/
theorem wit_dramRequests :
    (∃ s : State, ∃ (c : Fin 2) (arrivals : List MemArrival) (x : MemArrival), s.Canon ∧ arrivals = [x] ∧ s.arrives c x = true ∧ s.mem.chans[c].queue = [] ∧ s.mem.chans[c].blocked ≤ s.now) ∧
    (∃ s : State, ∃ (c : Fin 2) (arrivals : List MemArrival) (i : Nat) (x : DramReq), s.Canon ∧ arrivals = [] ∧ s.nextReq c = some i ∧ s.mem.chans[c].queue[i]? = some x ∧ s.chanOf x.addr = c ∧ s.mem.chans[c].blocked ≤ s.now) ∧
    (∃ s : State, ∃ (c : Fin 2), s.Canon ∧ s.now < s.mem.chans[c].blocked) ∧
    (∃ s : State, s.Canon) ∧
    (∃ s : State, s.Canon) :=
  ⟨by refine ⟨wLive.setBit (Reg.MEM_CH_STAT (wLive.chanOf 0x100)) 16 true, wLive.chanOf 0x100, [{ cls := 1, addr := 0x100, n := 4, data := some [1, 2, 3, 4], spool := 63 }], { cls := 1, addr := 0x100, n := 4, data := some [1, 2, 3, 4], spool := 63 }, ?_⟩; decide +kernel,
    by refine ⟨{ wLive with mem := { wLive.mem with chans := wLive.mem.chans.set (wLive.chanOf 0x100) { queue := [{ class_ := 1, addr := 0x100, n := 4, data := some [1, 2, 3, 4], at_ := 5, spool := 63 }] } } }, wLive.chanOf 0x100, [], 0, { class_ := 1, addr := 0x100, n := 4, data := some [1, 2, 3, 4], at_ := 5, spool := 63 }, ?_⟩; decide +kernel,
    by refine ⟨{ wLive with mem := { wLive.mem with chans := wLive.mem.chans.set 0 { blocked := 200000000 } } }, 0, ?_⟩; decide +kernel,
    by refine ⟨wLive, ?_⟩; decide +kernel,
    by refine ⟨{ wLive with mem := { wLive.mem with chans := wLive.mem.chans.set 1 { queue := [{ class_ := 1, addr := 0x100, n := 4, data := some [1, 2, 3, 4], at_ := 5, spool := 63 }] } } }, ?_⟩; decide +kernel⟩

/-- Witnesses for `Obligations.RefreshRetrainScrub`. -/
theorem wit_refreshRetrainScrub :
    (∃ s : State, s.Canon) ∧
    (∃ s : State, ∃ (c : Fin 2) (rank : Fin 2), s.Canon ∧ (rank.val = 0 ∨ s.twoRanks = true) ∧ tabWf (fun _ => (0 : Nat)) s.mem.chans[c].rows = true ∧ tabWf (fun _ => (0 : Nat)) s.mem.chans[c].postponed = true) ∧
    (∃ s : State, ∃ (rank : Fin 2), s.Canon ∧ rank.val = 1 ∧ s.twoRanks = false) ∧
    (∃ s : State, ∃ (drift : Vector (BitVec 8) 2) (d : Int), s.Canon ∧ (d = if s.twoRanks = true ∧ (drift[0]).toInt.natAbs < (drift[1]).toInt.natAbs then (drift[1]).toInt else (drift[0]).toInt)) ∧
    (∃ s : State, ∃ (c : Fin 2), s.Canon ∧ s.mem.chans[c].forceDue = true ∧ s.gathering = false) ∧
    (∃ s : State, ∃ (c : Fin 2), s.Canon ∧ s.mem.chans[c].forceDue = false ∧ s.mem.chans[c].stepDue = true ∧ s.aligned = true ∧ s.symUse (airAt s.airPos).1 = 3 ∧ s.isD (airAt s.airPos).1 = false ∧ s.isU (airAt s.airPos).1 = false ∧ s.air.rxClosed = false) ∧
    (∃ s : State, ∃ (c : Fin 2), s.Canon ∧ s.mem.chans[c].forceDue = false ∧ s.mem.chans[c].stepDue = false) ∧
    (∃ s : State, s.Canon ∧ s.bit Reg.MEM_SCRUB_CFG 31 = true) ∧
    (∃ s : State, s.Canon ∧ s.bit Reg.MEM_SCRUB_CFG 31 = false) ∧
    (∃ s : State, ∃ (c : Fin 2) (rank : Fin 2), s.Canon ∧ (s.mem.chans[c].queue.any fun x => (s.bankRow x.addr).2.1 / 16 = rank.val) = false ∧ nsPassed (s.now - s.mem.chans[c].lastReq[rank]) (s.fld Reg.MEM_SCHED_CFG 9 0 * 10) = true ∧ (rank.val = 0 ∨ s.twoRanks = true) ∧ s.bit (Reg.MEM_CH_STAT c) (16 + rank.val) = false) ∧
    (∃ s : State, ∃ (c : Fin 2) (rank : Fin 2), s.Canon ∧ s.bit (Reg.MEM_CH_STAT c) (16 + rank.val) = true) :=
  ⟨by refine ⟨State.reset, ?_⟩; decide +kernel,
    by refine ⟨{ wLive with mem := { wLive.mem with chans := wLive.mem.chans.set 1 { rows := [(3, 9)] } } }, 1, 0, ?_⟩; decide +kernel,
    by refine ⟨{ wLive with regs := (wLive.setBit Reg.MEM_CFG 8 false).regs }, 1, ?_⟩; decide +kernel,
    by refine ⟨wLive.setBit Reg.MEM_CFG 8 true, #v[3, 250], (-6), ?_⟩; decide +kernel,
    by refine ⟨{ wOpen with mem := { wOpen.mem with chans := wOpen.mem.chans.set 1 { forceDue := true } } }, 1, ?_⟩; decide +kernel,
    by refine ⟨{ wLive with air := { wLive.air with pats := [{ nSlot := 1, kiteK := 0, calK := 0, syms := List.replicate 14 11 }], rxClosed := false }, mem := { wLive.mem with chans := wLive.mem.chans.set 1 { stepDue := true } } }, 1, ?_⟩; decide +kernel,
    by refine ⟨State.reset, 1, ?_⟩; decide +kernel,
    by refine ⟨wLive.setBit Reg.MEM_SCRUB_CFG 31 true, ?_⟩; decide +kernel,
    by refine ⟨wLive.setBit Reg.MEM_SCRUB_CFG 31 false, ?_⟩; decide +kernel,
    by refine ⟨wLive, 1, 0, ?_⟩; decide +kernel,
    by refine ⟨wLive.setBit (Reg.MEM_CH_STAT 1) 16 true, 1, 0, ?_⟩; decide +kernel⟩

/-- Witnesses for `Obligations.SpoolDescriptors`. -/
theorem wit_spoolDescriptors :
    (∃ s : State, ∃ (sp : Fin 32) (eng : Vector Byte 32) (d : Desc), s.Canon ∧ s.splState sp = 0 ∧ s.mode ≠ .shelf ∧ hostSpool sp = false ∧ (s.ownRing sp).ringFill sp = 0 ∧ inSram ((s.ownRing sp).ringSlot sp ((s.ownRing sp).ringIndex sp)) 32 = true ∧ d = parseDesc ((s.ownRing sp).ringIndex sp) eng.toList ∧ (descSizes d = false ∨ (d.op = 1 ∧ s.memValid d.table (8 * d.len) = false) ∨ (d.op ≠ 1 ∧ s.descAddrs sp d = false))) ∧
    (∃ s : State, ∃ (sp : Fin 32) (eng : Vector Byte 32) (d : Desc), s.Canon ∧ s.splState sp = 0 ∧ s.mode ≠ .shelf ∧ hostSpool sp = false ∧ (s.ownRing sp).ringFill sp = 0 ∧ inSram ((s.ownRing sp).ringSlot sp ((s.ownRing sp).ringIndex sp)) 32 = true ∧ d = parseDesc ((s.ownRing sp).ringIndex sp) eng.toList ∧ descSizes d = true ∧ d.op ≠ 1 ∧ s.descAddrs sp d = true) ∧
    (∃ s : State, ∃ (sp : Fin 32), s.Canon ∧ s.splState sp = 0 ∧ s.mode ≠ .shelf ∧ hostSpool sp = true ∧ s.ringSize sp ≠ 0 ∧ inSram (s.ringSlot sp (s.ringIndex sp)) 32 = true ∧ s.ringFill sp ≠ 0) ∧
    (∃ s : State, ∃ (sp : Fin 32), s.Canon ∧ s.splState sp = 0 ∧ s.mode ≠ .shelf ∧ hostSpool sp = false ∧ s.ringSize sp ≠ 0 ∧ inSram (s.ringSlot sp (s.ringIndex sp)) 32 = true ∧ s.ringFill sp ≠ 0) ∧
    (∃ s : State, ∃ (sp : Fin 32), s.Canon ∧ (s.splState sp ≠ 0 ∨ s.mode = .shelf ∨ (hostSpool sp = true ∧ s.ringFill sp = 0))) ∧
    (∃ s : State, ∃ (sp : Fin 32) (m : SpoolMove) (d : Desc) (r : (Desc × List (List Byte)) × State), s.Canon ∧ s.mem.spools[sp].cur = some d ∧ s.runsFree sp = true ∧ r = (s.highFirst sp).advance sp d d.left m ∧ r.2.finished r.1.1 r.1.2 = true) ∧
    (∃ s : State, ∃ (sp : Fin 32) (m : SpoolMove) (d : Desc) (r : (Desc × List (List Byte)) × State), s.Canon ∧ s.mem.spools[sp].cur = some d ∧ s.runsFree sp = true ∧ r = (s.highFirst sp).advance sp d d.left m ∧ r.2.finished r.1.1 r.1.2 = false) ∧
    (∃ s : State, ∃ (sp : Fin 32), s.Canon ∧ (s.mem.spools[sp].cur = none ∨ s.runsFree sp = false)) :=
  ⟨by refine ⟨((wLive.wr (Reg.SPL_RING_BASE 5) 0xF1500000).wr (Reg.SPL_RING_CFG 5) 3), 5, Vector.replicate 32 0xFF, parseDesc (((wLive.wr (Reg.SPL_RING_BASE 5) 0xF1500000).wr (Reg.SPL_RING_CFG 5) 3).ringIndex 5) (Vector.replicate 32 (0xFF : Byte)).toList, ?_⟩; decide +kernel,
    by refine ⟨((wLive.wr (Reg.SPL_RING_BASE 5) 0xF1500000).wr (Reg.SPL_RING_CFG 5) 3), 5, (#v[0, 0, 0, 0, 0xF1, 0x60, 0, 0, 0xF1, 0x60, 1, 0, 0, 0, 0, 8, 0, 0, 0, 0, 0, 0, 0, 0, 0, 0, 0, 0, 0, 0, 0, 0] : Vector Byte 32), parseDesc (((wLive.wr (Reg.SPL_RING_BASE 5) 0xF1500000).wr (Reg.SPL_RING_CFG 5) 3).ringIndex 5) (#v[0, 0, 0, 0, 0xF1, 0x60, 0, 0, 0xF1, 0x60, 1, 0, 0, 0, 0, 8, 0, 0, 0, 0, 0, 0, 0, 0, 0, 0, 0, 0, 0, 0, 0, 0] : Vector Byte 32).toList, ?_⟩; decide +kernel,
    by refine ⟨(wSpl 0 {}).wr (Reg.SPL_HEAD 20) 1, 20, ?_⟩; decide +kernel,
    by refine ⟨((wLive.wr (Reg.SPL_RING_BASE 5) 0xF1500000).wr (Reg.SPL_RING_CFG 5) 3).wr (Reg.SPL_HEAD 5) 1, 5, ?_⟩; decide +kernel,
    by refine ⟨wSpl 0 {}, 20, ?_⟩; decide +kernel,
    by refine ⟨wSpl 1 { cur := some wDesc }, 20, ⟨8, [], []⟩, wDesc, ((wSpl 1 { cur := some wDesc }).highFirst 20).advance 20 wDesc 8 ⟨8, [], []⟩, ?_⟩; decide +kernel,
    by refine ⟨wSpl 1 { cur := some { wDesc with op := 2 } }, 20, ⟨8, [], []⟩, { wDesc with op := 2 }, ((wSpl 1 { cur := some { wDesc with op := 2 } }).highFirst 20).advance 20 { wDesc with op := 2 } 8 ⟨8, [], []⟩, ?_⟩; decide +kernel,
    by refine ⟨State.reset, 20, ?_⟩; decide +kernel⟩

/-- Witnesses for `Obligations.SpoolCopyMovesTheBytes`. -/
theorem wit_spoolCopyMovesTheBytes :
    (∃ s : State, ∃ (sp : Fin 32) (m : SpoolMove) (d : Desc), s.Canon ∧ s.mem.spools[sp].cur = some d ∧ s.runsFree sp = true ∧ d.op = 0 ∧ d.done = 0 ∧ (d.src + d.len ≤ d.dst ∨ d.dst + d.len ≤ d.src) ∧ d.down = descends d.src d.dst d.len ∧ ((∀ i < d.len, s.openByte (d.src + i) = false)) ∧ m.upsets = [] ∧ s.QuietMem ∧ s.First sp ∧ (s.ringSlot sp d.index + 32 ≤ d.dst ∨ d.dst + d.len ≤ s.ringSlot sp d.index + 24)) :=
  by refine ⟨(wSpl 1 { cur := some wDesc }).memPuts 0xF1600000 [9, 8, 7, 6, 5, 4, 3, 2], 20, ⟨8, [], []⟩, wDesc, ?_⟩; decide +kernel

/-- Witnesses for `Obligations.SpoolHostControl`. -/
theorem wit_spoolHostControl :
    (∃ s : State, ∃ (sp : Fin 32), s.Canon ∧ s.writable = true ∧ hostSpool sp = true ∧ s.bit (Reg.SPL_CTRL sp) 31 = false) ∧
    (∃ s : State, ∃ (sp : Fin 32), s.Canon ∧ (s.writable = false ∨ (hostSpool sp = true ∧ s.bit (Reg.SPL_CTRL sp) 31 = true))) ∧
    (∃ s : State, ∃ (sp : Fin 32), s.Canon ∧ s.writable = true ∧ hostSpool sp = false) ∧
    (∃ s : State, ∃ (sp : Fin 32), s.Canon ∧ s.writable = true ∧ hostSpool sp = true ∧ s.bit (Reg.SPL_CTRL sp) 31 = true) ∧
    (∃ s : State, ∃ (sp : Fin 32), s.Canon ∧ s.writable = true ∧ hostSpool sp = false) ∧
    (∃ s : State, ∃ (sp : Fin 32), s.Canon ∧ s.writable = true ∧ hostSpool sp = true ∧ (s.splState sp = 1 ∨ s.splState sp = 2)) ∧
    (∃ s : State, ∃ (sp : Fin 32), s.Canon ∧ s.writable = true ∧ hostSpool sp = true ∧ s.splState sp ≠ 1 ∧ s.splState sp ≠ 2 ∧ s.splState sp ≠ 5) ∧
    (∃ s : State, ∃ (sp : Fin 32), s.Canon ∧ (s.writable = false ∨ (hostSpool sp = true ∧ s.splState sp = 5))) ∧
    (∃ s : State, ∃ (sp : Fin 32), s.Canon ∧ s.writable = true ∧ hostSpool sp = false) ∧
    (∃ s : State, ∃ (sp : Fin 32), s.Canon ∧ s.writable = true ∧ hostSpool sp = true ∧ s.splState sp = 5) ∧
    (∃ s : State, ∃ (sp : Fin 32), s.Canon ∧ (s.writable = false ∨ (hostSpool sp = true ∧ s.splState sp ≠ 5))) ∧
    (∃ s : State, ∃ (sp : Fin 32), s.Canon ∧ s.writable = true ∧ hostSpool sp = false) ∧
    (∃ s : State, ∃ (sp : Fin 32) (w : Word), s.Canon ∧ s.writable = true ∧ hostSpool sp = true ∧ (fldOf w 8 0 + 512 - s.fld (Reg.SPL_TAIL sp) 8 0) % 512 ≤ s.ringSize sp) ∧
    (∃ s : State, ∃ (sp : Fin 32) (w : Word), s.Canon ∧ s.writable = true ∧ (hostSpool sp = false ∨ s.ringSize sp < (fldOf w 8 0 + 512 - s.fld (Reg.SPL_TAIL sp) 8 0) % 512)) ∧
    (∃ s : State, s.Canon ∧ s.writable = false) ∧
    (∃ s : State, ∃ (sp : Fin 32) (w : Word), s.Canon ∧ s.writable = true ∧ hostSpool sp = true ∧ fldOf w 7 0 < fldOf w 15 8) ∧
    (∃ s : State, ∃ (sp : Fin 32) (w : Word), s.Canon ∧ s.writable = true ∧ (hostSpool sp = false ∨ fldOf w 15 8 ≤ fldOf w 7 0)) ∧
    (∃ s : State, s.Canon ∧ s.writable = false) :=
  ⟨by refine ⟨(wSpl 1 { cur := some wDesc }), 20, ?_⟩; decide +kernel,
    by refine ⟨State.reset, 20, ?_⟩; decide +kernel,
    by refine ⟨wOpen, 5, ?_⟩; decide +kernel,
    by refine ⟨(wSpl 3 { cur := some wDesc }).setBit (Reg.SPL_CTRL 20) 31 true, 20, ?_⟩; decide +kernel,
    by refine ⟨wOpen, 5, ?_⟩; decide +kernel,
    by refine ⟨(wSpl 1 { cur := some wDesc }), 20, ?_⟩; decide +kernel,
    by refine ⟨(wSpl 3 { cur := some wDesc }), 20, ?_⟩; decide +kernel,
    by refine ⟨State.reset, 20, ?_⟩; decide +kernel,
    by refine ⟨wOpen, 5, ?_⟩; decide +kernel,
    by refine ⟨wSpl 5 {}, 20, ?_⟩; decide +kernel,
    by refine ⟨State.reset, 20, ?_⟩; decide +kernel,
    by refine ⟨wOpen, 5, ?_⟩; decide +kernel,
    by refine ⟨wSpl 0 {}, 20, 3, ?_⟩; decide +kernel,
    by refine ⟨wSpl 0 {}, 20, 30, ?_⟩; decide +kernel,
    by refine ⟨State.reset, ?_⟩; decide +kernel,
    by refine ⟨wSpl 0 {}, 20, 0x12300904, ?_⟩; decide +kernel,
    by refine ⟨wSpl 0 {}, 20, 0x12300404, ?_⟩; decide +kernel,
    by refine ⟨State.reset, ?_⟩; decide +kernel⟩

/-- Witnesses for `Obligations.SpoolDrainPacePower`. -/
theorem wit_spoolDrainPacePower :
    (∃ s : State, ∃ (sp : Fin 32) (d : Desc), s.Canon ∧ s.mem.spools[sp].cur = some d ∧ (s.mem.spools[sp].draining = true ∨ s.mem.spools[sp].aborting = true) ∧ s.mem.spools[sp].powerAt = none ∧ (s.splState sp = 1 ∨ s.splState sp = 2)) ∧
    (∃ s : State, ∃ (sp : Fin 32), s.Canon ∧ (s.mem.spools[sp].cur = none ∨ (s.mem.spools[sp].draining = false ∧ s.mem.spools[sp].aborting = false) ∨ s.mem.spools[sp].powerAt.isSome = true ∨ (s.splState sp ≠ 1 ∧ s.splState sp ≠ 2))) ∧
    (∃ s : State, ∃ (sp : Fin 32) (fill : Nat) (waited : Nat) (d : Desc), s.Canon ∧ s.mem.spools[sp].cur = some d ∧ s.splState sp = 2 ∧ s.mem.spools[sp].draining = false ∧ s.mem.spools[sp].aborting = false ∧ s.mem.spools[sp].powerAt = none ∧ ((if d.op = 2 then s.fld (Reg.SPL_PACE sp) 15 8 ≤ (s.fillOf d.queue (fill, waited)).1 ∨ (0 < (s.fillOf d.queue (fill, waited)).1 ∧ nsPassed (s.fillOf d.queue (fill, waited)).2 (s.fld (Reg.SPL_PACE sp) 31 20 * 250) = true) else (s.fillOf d.queue (fill, waited)).1 ≤ s.fld (Reg.SPL_PACE sp) 7 0))) ∧
    (∃ s : State, ∃ (sp : Fin 32), s.Canon ∧ s.mem.spools[sp].cur = none) ∧
    (∃ s : State, ∃ (sp : Fin 32) (fill : Nat) (waited : Nat) (d : Desc), s.Canon ∧ s.mem.spools[sp].cur = some d ∧ (s.splState sp ≠ 2 ∨ s.mem.spools[sp].draining = true ∨ s.mem.spools[sp].aborting = true ∨ s.mem.spools[sp].powerAt.isSome = true ∨ ¬ (if d.op = 2 then s.fld (Reg.SPL_PACE sp) 15 8 ≤ (s.fillOf d.queue (fill, waited)).1 ∨ (0 < (s.fillOf d.queue (fill, waited)).1 ∧ nsPassed (s.fillOf d.queue (fill, waited)).2 (s.fld (Reg.SPL_PACE sp) 31 20 * 250) = true) else (s.fillOf d.queue (fill, waited)).1 ≤ s.fld (Reg.SPL_PACE sp) 7 0))) ∧
    (∃ s : State, ∃ (sp : Fin 32) (m : SpoolMove) (d : Desc) (r : (Desc × List (List Byte)) × State), s.Canon ∧ s.mem.spools[sp].cur = some d ∧ s.runsFree sp = true ∧ 2 ≤ d.op ∧ r = (s.highFirst sp).advance sp d m.n m ∧ ((if d.op = 2 then creditsOf (r.2.queuedParcels d.queue r.1.2) ≤ s.paceLo sp else s.paceHi sp ≤ creditsOf (r.2.queuedParcels d.queue r.1.2)))) ∧
    (∃ s : State, ∃ (sp : Fin 32) (m : SpoolMove) (d : Desc) (r : (Desc × List (List Byte)) × State), s.Canon ∧ s.mem.spools[sp].cur = some d ∧ r = (s.highFirst sp).advance sp d m.n m ∧ (s.runsFree sp = false ∨ d.op < 2 ∨ ¬ (if d.op = 2 then creditsOf (r.2.queuedParcels d.queue r.1.2) ≤ s.paceLo sp else s.paceHi sp ≤ creditsOf (r.2.queuedParcels d.queue r.1.2)))) ∧
    (∃ s : State, ∃ (sp : Fin 32), s.Canon ∧ s.mem.spools[sp].cur = none) ∧
    (∃ s : State, ∃ (sp : Fin 32), s.Canon ∧ (s.splState sp = 1 ∨ s.splState sp = 2) ∧ s.mem.spools[sp].powerAt = none) ∧
    (∃ s : State, ∃ (sp : Fin 32), s.Canon ∧ ((s.splState sp ≠ 1 ∧ s.splState sp ≠ 2) ∨ s.mem.spools[sp].powerAt.isSome = true)) ∧
    (∃ s : State, ∃ (sp : Fin 32) (left : Bool) (d : Desc) (u : Nat), s.Canon ∧ s.mem.spools[sp].cur = some d ∧ s.mem.spools[sp].powerAt = some u ∧ (left = false ∨ usPassed (s.now - u) 2 = true)) ∧
    (∃ s : State, ∃ (sp : Fin 32), s.Canon ∧ (s.mem.spools[sp].cur = none ∨ s.mem.spools[sp].powerAt = none)) ∧
    (∃ s : State, ∃ (sp : Fin 32), s.Canon ∧ s.splState sp = 4) ∧
    (∃ s : State, ∃ (sp : Fin 32), s.Canon ∧ s.splState sp = 5 ∧ hostSpool sp = false) ∧
    (∃ s : State, ∃ (sp : Fin 32), s.Canon ∧ s.splState sp ≠ 4 ∧ (s.splState sp ≠ 5 ∨ hostSpool sp = true)) :=
  ⟨by refine ⟨(wSpl 1 { cur := some wDesc, draining := true }), 20, wDesc, ?_⟩; decide +kernel,
    by refine ⟨State.reset, 20, ?_⟩; decide +kernel,
    by refine ⟨(wSpl 2 { cur := some { wDesc with op := 2 }, paced := true }), 20, 200, 0, { wDesc with op := 2 }, ?_⟩; decide +kernel,
    by refine ⟨State.reset, 20, ?_⟩; decide +kernel,
    by refine ⟨(wSpl 1 { cur := some wDesc }), 20, 0, 0, wDesc, ?_⟩; decide +kernel,
    by refine ⟨(wSpl 1 { cur := some { wDesc with op := 2 } }), 20, ⟨0, [], []⟩, { wDesc with op := 2 }, ((wSpl 1 { cur := some { wDesc with op := 2 } }).highFirst 20).advance 20 { wDesc with op := 2 } 0 ⟨0, [], []⟩, ?_⟩; decide +kernel,
    by refine ⟨(wSpl 1 { cur := some wDesc }), 20, ⟨4, [], []⟩, wDesc, ((wSpl 1 { cur := some wDesc }).highFirst 20).advance 20 wDesc 4 ⟨4, [], []⟩, ?_⟩; decide +kernel,
    by refine ⟨State.reset, 20, ?_⟩; decide +kernel,
    by refine ⟨(wSpl 1 { cur := some wDesc }), 20, ?_⟩; decide +kernel,
    by refine ⟨State.reset, 20, ?_⟩; decide +kernel,
    by refine ⟨(wSpl 1 { cur := some wDesc, powerAt := some 5 }), 20, true, wDesc, 5, ?_⟩; decide +kernel,
    by refine ⟨State.reset, 20, ?_⟩; decide +kernel,
    by refine ⟨(wSpl 4 { cur := some wDesc }), 20, ?_⟩; decide +kernel,
    by refine ⟨wLive.setFld (Reg.SPL_STAT 5) 31 28 5, 5, ?_⟩; decide +kernel,
    by refine ⟨State.reset, 20, ?_⟩; decide +kernel⟩

/-- Witnesses for `Obligations.FlashKeysAndUnlock`. -/
theorem wit_flashKeysAndUnlock :
    (∃ s : State, s.Canon ∧ s.writable = true ∧ s.kpr.flashOp = none ∧ s.touchesImage (flashSpan false (s.rd Reg.KPR_FLASH_OFS).toNat (s.rd Reg.KPR_FLASH_LEN).toNat).1 (flashSpan false (s.rd Reg.KPR_FLASH_OFS).toNat (s.rd Reg.KPR_FLASH_LEN).toNat).2 = false) ∧
    (∃ s : State, s.Canon ∧ s.writable = true ∧ (s.kpr.flashOp.isSome = true ∨ s.touchesImage (flashSpan false (s.rd Reg.KPR_FLASH_OFS).toNat (s.rd Reg.KPR_FLASH_LEN).toNat).1 (flashSpan false (s.rd Reg.KPR_FLASH_OFS).toNat (s.rd Reg.KPR_FLASH_LEN).toNat).2 = true)) ∧
    (∃ s : State, s.Canon ∧ s.writable = true ∧ s.kpr.flashOp = none ∧ s.touchesImage (flashSpan true (s.rd Reg.KPR_FLASH_OFS).toNat (s.rd Reg.KPR_FLASH_LEN).toNat).1 (flashSpan true (s.rd Reg.KPR_FLASH_OFS).toNat (s.rd Reg.KPR_FLASH_LEN).toNat).2 = false ∧ inHostArea (s.rd Reg.KPR_FLASH_SRC).toNat (s.rd Reg.KPR_FLASH_LEN).toNat = true) ∧
    (∃ s : State, s.Canon ∧ s.writable = true ∧ (s.kpr.flashOp.isSome = true ∨ s.touchesImage (flashSpan true (s.rd Reg.KPR_FLASH_OFS).toNat (s.rd Reg.KPR_FLASH_LEN).toNat).1 (flashSpan true (s.rd Reg.KPR_FLASH_OFS).toNat (s.rd Reg.KPR_FLASH_LEN).toNat).2 = true ∨ inHostArea (s.rd Reg.KPR_FLASH_SRC).toNat (s.rd Reg.KPR_FLASH_LEN).toNat = false)) ∧
    (∃ s : State, s.Canon ∧ s.writable = false) ∧
    (∃ s : State, s.Canon ∧ s.writable = false) ∧
    (∃ s : State, ∃ (x : Nat) (data : Option (List Byte)) (n : Nat), s.Canon ∧ s.kpr.flashOp = some (x, data, n) ∧ ((∀ bs, data = some bs → bs.length = n))) ∧
    (∃ s : State, s.Canon ∧ s.kpr.flashOp = none) ∧
    (∃ s : State, s.Canon ∧ s.writable = true ∧ s.mode = .ready) ∧
    (∃ s : State, s.Canon ∧ (s.writable = false ∨ s.mode ≠ .ready)) ∧
    (∃ s : State, s.Canon ∧ s.writable = true ∧ s.kpr.unlockFails < 3) ∧
    (∃ s : State, s.Canon ∧ (s.writable = false ∨ 3 ≤ s.kpr.unlockFails)) ∧
    (∃ s : State, s.Canon ∧ s.writable = true) ∧
    (∃ s : State, s.Canon ∧ s.writable = false) :=
  ⟨by refine ⟨wOpen.wr Reg.KPR_FLASH_LEN 5, ?_⟩; decide +kernel,
    by refine ⟨{ wOpen with kpr := { wOpen.kpr with flashOp := some (1, none, 3) } }, ?_⟩; decide +kernel,
    by refine ⟨((wOpen.wr Reg.KPR_FLASH_LEN 5).wr Reg.KPR_FLASH_SRC 0xF1600010).memPuts 0xF1600012 [1, 2], ?_⟩; decide +kernel,
    by refine ⟨wOpen.wr Reg.KPR_FLASH_LEN 5, ?_⟩; decide +kernel,
    by refine ⟨State.reset, ?_⟩; decide +kernel,
    by refine ⟨State.reset, ?_⟩; decide +kernel,
    by refine ⟨{ wOpen with kpr := { wOpen.kpr with flashOp := some (7, some [3, 5], 2) }, flash := [(7, 0x11), (40, 3)] }, 7, some [3, 5], 2, ?_⟩; decide +kernel,
    by refine ⟨State.reset, ?_⟩; decide +kernel,
    by refine ⟨wOpen, ?_⟩; decide +kernel,
    by refine ⟨State.reset, ?_⟩; decide +kernel,
    by refine ⟨wOpen, ?_⟩; decide +kernel,
    by refine ⟨State.reset, ?_⟩; decide +kernel,
    by refine ⟨{ wOpen with kpr := { wOpen.kpr with chalValid := true } }, ?_⟩; decide +kernel,
    by refine ⟨State.reset, ?_⟩; decide +kernel⟩

/-- Witnesses for `Obligations.SafeEntryOnPinSupplyWatchdogIntegrity`. -/
theorem wit_safeEntryOnPinSupplyWatchdogIntegrity :
    (∃ s : State, s.Canon ∧ s.pins.resetN = true ∧ s.mode ≠ .shelf ∧ s.mode ≠ .safe ∧ s.kpr.haltedAt = none) ∧
    (∃ s : State, s.Canon ∧ s.pins.resetN = true ∧ s.mode ≠ .shelf ∧ (s.mode = .safe ∨ s.kpr.haltedAt.isSome = true)) ∧
    (∃ s : State, s.Canon ∧ (s.pins.resetN = false ∨ s.mode = .shelf)) ∧
    (∃ s : State, s.Canon) ∧
    (∃ s : State, s.Canon ∧ s.pins.resetN = true ∧ s.mode ≠ .shelf ∧ s.mode ≠ .safe ∧ s.kpr.haltedAt = none) ∧
    (∃ s : State, s.Canon ∧ s.pins.resetN = true ∧ s.mode ≠ .shelf ∧ (s.mode = .safe ∨ s.kpr.haltedAt.isSome = true)) ∧
    (∃ s : State, s.Canon ∧ (s.pins.resetN = false ∨ s.mode = .shelf)) ∧
    (∃ s : State, s.Canon ∧ s.pins.resetN = true ∧ s.mode ≠ .shelf ∧ s.mode ≠ .safe ∧ s.kpr.haltedAt = none) ∧
    (∃ s : State, s.Canon ∧ s.pins.resetN = true ∧ s.mode ≠ .shelf ∧ (s.mode = .safe ∨ s.kpr.haltedAt.isSome = true) ∧ s.rcd.earlyWarned = false ∧ s.rcd.copy = none ∧ s.earlyNow = false) ∧
    (∃ s : State, s.Canon ∧ (s.mode = .shelf ∨ s.pins.resetN = false)) ∧
    (∃ s : State, ∃ (upsets : List (Nat × Byte)), s.Canon ∧ (s.programmed upsets).imageDigest s.kpr.imageB s.kpr.imageLen ≠ s.kpr.digest ∧ s.mode ≠ .boot ∧ s.mode ≠ .shelf ∧ s.mode ≠ .safe ∧ s.kpr.haltedAt = none) ∧
    (∃ s : State, ∃ (upsets : List (Nat × Byte)), s.Canon ∧ (s.programmed upsets).imageDigest s.kpr.imageB s.kpr.imageLen ≠ s.kpr.digest ∧ s.mode = .safe) ∧
    (∃ s : State, ∃ (upsets : List (Nat × Byte)), s.Canon ∧ ((s.programmed upsets).imageDigest s.kpr.imageB s.kpr.imageLen = s.kpr.digest ∨ s.mode = .shelf ∨ s.mode = .boot)) :=
  ⟨by refine ⟨{ wTx with pins := { wTx.pins with resetN := true } }, ?_⟩; decide +kernel,
    by refine ⟨{ wRx with mode := .safe, pins := { wRx.pins with resetN := true } }, ?_⟩; decide +kernel,
    by refine ⟨State.reset, ?_⟩; decide +kernel,
    by refine ⟨{ wRx with mode := .safe, pins := { wRx.pins with resetN := true } }, ?_⟩; decide +kernel,
    by refine ⟨{ wTx with pins := { wTx.pins with resetN := true } }, ?_⟩; decide +kernel,
    by refine ⟨{ wRx with mode := .safe, pins := { wRx.pins with resetN := true } }, ?_⟩; decide +kernel,
    by refine ⟨State.reset, ?_⟩; decide +kernel,
    by refine ⟨{ wTx with pins := { wTx.pins with resetN := true } }, ?_⟩; decide +kernel,
    by refine ⟨{ wRx with mode := .safe, pins := { wRx.pins with resetN := true } }, ?_⟩; decide +kernel,
    by refine ⟨State.reset, ?_⟩; decide +kernel,
    by refine ⟨{ wTx with pins := { wTx.pins with resetN := true } }, [(0x10000, 3)], ?_⟩; decide +kernel,
    by refine ⟨{ wRx with mode := .safe, pins := { wRx.pins with resetN := true } }, [], ?_⟩; decide +kernel,
    by refine ⟨State.reset, [(5, 3)], ?_⟩; decide +kernel⟩

/-- Witnesses for `Obligations.ModeCommands`. -/
theorem wit_modeCommands :
    (∃ s : State, s.Canon ∧ s.writable = true ∧ s.overtaken 0 = false ∧ s.mode = .ready ∧ s.kpr.goLive = false ∧ s.kpr.shelving = false ∧ s.quality = 1 ∧ s.safeActive = 0 ∧ s.seq.job = none) ∧
    (∃ s : State, s.Canon ∧ s.writable = true ∧ (s.overtaken 0 = true ∨ s.mode ≠ .ready ∨ s.kpr.goLive = true ∨ s.kpr.shelving = true ∨ s.quality ≠ 1 ∨ s.safeActive ≠ 0 ∨ s.seq.job.isSome = true)) ∧
    (∃ s : State, s.Canon ∧ s.writable = true ∧ s.mode.live = true ∧ s.overtaken 0 = false) ∧
    (∃ s : State, s.Canon ∧ s.writable = true ∧ (s.mode.live = false ∨ s.overtaken 0 = true)) ∧
    (∃ s : State, s.Canon ∧ s.writable = true ∧ s.mode = .safe ∧ s.safeHolds = false ∧ s.overtaken 0 = false) ∧
    (∃ s : State, s.Canon ∧ s.writable = true ∧ (s.mode ≠ .safe ∨ s.safeHolds = true ∨ s.overtaken 0 = true)) ∧
    (∃ s : State, ∃ (u : Nat), s.Canon ∧ s.kpr.tempClearAt = some u ∧ s.mode = .safe ∧ s.bit Reg.KPR_SAFE_CFG 31 = true ∧ s.fld Reg.KPR_SAFE_CAUSE 5 0 = 1 ∧ s.safeHolds = false ∧ s.overtaken 0 = false ∧ s.fld Reg.KPR_SAFE_CFG 15 0 * ticksPerS ≤ s.now - u) ∧
    (∃ s : State, s.Canon ∧ (s.kpr.tempClearAt = none ∨ s.mode ≠ .safe ∨ s.bit Reg.KPR_SAFE_CFG 31 = false ∨ s.fld Reg.KPR_SAFE_CAUSE 5 0 ≠ 1 ∨ s.safeHolds = true ∨ s.overtaken 0 = true)) ∧
    (∃ s : State, ∃ (u : Nat), s.Canon ∧ s.kpr.tempClearAt = some u ∧ s.now - u < s.fld Reg.KPR_SAFE_CFG 15 0 * ticksPerS) ∧
    (∃ s : State, s.Canon ∧ s.writable = true ∧ s.kpr.shelving = false ∧ s.rcd.earlyWarned = false ∧ s.rcd.copy = none ∧ s.earlyNow = false) ∧
    (∃ s : State, s.Canon ∧ s.writable = true ∧ s.kpr.shelving = false ∧ s.rcd.earlyWarned = false ∧ (s.rcd.copy.isSome = true ∨ s.earlyNow = true)) ∧
    (∃ s : State, s.Canon ∧ s.writable = true ∧ s.kpr.shelving = true) ∧
    (∃ s : State, s.Canon ∧ s.writable = false) ∧
    (∃ s : State, s.Canon ∧ s.writable = false) ∧
    (∃ s : State, s.Canon ∧ s.writable = false) ∧
    (∃ s : State, s.Canon ∧ s.writable = false) :=
  ⟨by refine ⟨{ wLive with mode := .ready }.setFld Reg.TIM_QUAL 17 16 1, ?_⟩; decide +kernel,
    by refine ⟨wLive, ?_⟩; decide +kernel,
    by refine ⟨{ wTx with seq := { wTx.seq with job := some { kind := 3, quads := 1, quadOut := true } } }, ?_⟩; decide +kernel,
    by refine ⟨wOpen, ?_⟩; decide +kernel,
    by refine ⟨{ wRx with mode := .safe, pins := { wRx.pins with resetN := true } }, ?_⟩; decide +kernel,
    by refine ⟨wLive, ?_⟩; decide +kernel,
    by refine ⟨{ ({ ({ wRx with mode := .safe, pins := { wRx.pins with resetN := true } }) with now := 1000000000000, kpr := { ({ wRx with mode := .safe, pins := { wRx.pins with resetN := true } }).kpr with tempClearAt := some 5 } }.wr Reg.KPR_SAFE_CFG 0x80000002).wr Reg.KPR_SAFE_CAUSE 1 with mode := .safe }, 5, ?_⟩; decide +kernel,
    by refine ⟨State.reset, ?_⟩; decide +kernel,
    by refine ⟨{ { ({ ({ wRx with mode := .safe, pins := { wRx.pins with resetN := true } }) with now := 1000000000000, kpr := { ({ wRx with mode := .safe, pins := { wRx.pins with resetN := true } }).kpr with tempClearAt := some 5 } }.wr Reg.KPR_SAFE_CFG 0x80000002).wr Reg.KPR_SAFE_CAUSE 1 with mode := .safe } with now := 7 }, 5, ?_⟩; decide +kernel,
    by refine ⟨wTx, ?_⟩; decide +kernel,
    by refine ⟨{ wTx with rcd := { wTx.rcd with copy := some (2, { trigger := 0, mode := 0, image := 0, cause := 0, nEntry := 0, firstSeq := 0, ns := 0, air := 0, quality := 0, version := 0, ltOn := 0, ring := [] }) } }, ?_⟩; decide +kernel,
    by refine ⟨{ wOpen with kpr := { wOpen.kpr with shelving := true } }, ?_⟩; decide +kernel,
    by refine ⟨State.reset, ?_⟩; decide +kernel,
    by refine ⟨State.reset, ?_⟩; decide +kernel,
    by refine ⟨State.reset, ?_⟩; decide +kernel,
    by refine ⟨State.reset, ?_⟩; decide +kernel⟩

/-- Witnesses for `Obligations.ResetRebootAndBoot`. -/
theorem wit_resetRebootAndBoot :
    (∃ s : State, s.Canon ∧ s.mode ≠ .shelf) ∧
    (∃ s : State, s.Canon ∧ s.mode = .shelf) ∧
    (∃ s : State, ∃ (r : BootRun), s.Canon ∧ (s.writable = true ∨ s.kpr.haltedAt.isSome = true) ∧ s.overtaken 2 = false ∧ r.early = false) ∧
    (∃ s : State, ∃ (r : BootRun), s.Canon ∧ (s.writable = true ∨ s.kpr.haltedAt.isSome = true) ∧ s.overtaken 2 = false ∧ r.early = true ∧ r.readA = false ∧ r.readB = false) ∧
    (∃ s : State, s.Canon ∧ (s.writable = true ∨ s.kpr.haltedAt.isSome = true) ∧ s.overtaken 2 = false) ∧
    (∃ s : State, s.Canon ∧ s.writable = false ∧ s.kpr.haltedAt = none) ∧
    (∃ s : State, s.Canon ∧ (s.writable = true ∨ s.kpr.haltedAt.isSome = true) ∧ s.overtaken 2 = true) ∧
    (∃ s : State, ∃ (r : BootRun), s.Canon ∧ s.pins.resetN = false ∧ s.mode ≠ .shelf ∧ r.early = false) ∧
    (∃ s : State, ∃ (r : BootRun), s.Canon ∧ s.pins.resetN = false ∧ s.mode ≠ .shelf ∧ r.early = true ∧ r.readA = false ∧ r.readB = false) ∧
    (∃ s : State, s.Canon ∧ s.pins.resetN = false ∧ s.mode ≠ .shelf ∧ s.kpr.haltedAt = none) ∧
    (∃ s : State, s.Canon ∧ s.pins.resetN = false ∧ s.mode = .shelf ∧ (s.pins.vaon = false ∨ s.pins.pwrReq = false ∨ s.pins.pgood0 = false ∨ s.pins.pgood1 = false)) ∧
    (∃ s : State, s.Canon ∧ s.pins.resetN = true) ∧
    (∃ s : State, ∃ (u : Nat), s.Canon ∧ s.kpr.portsAt = some u ∧ s.mode = .boot ∧ msPassed (s.now - u) (100 * s.fld Reg.KPR_BOOT_CFG 7 0) = true) ∧
    (∃ s : State, s.Canon ∧ (s.kpr.portsAt = none ∨ s.mode ≠ .boot)) ∧
    (∃ s : State, ∃ (u : Nat), s.Canon ∧ s.kpr.haltedAt = some u ∧ msPassed (s.now - u) 100 = true) ∧
    (∃ s : State, s.Canon ∧ s.kpr.haltedAt = none) :=
  ⟨by refine ⟨(wTx.wr Reg.KPR_AON 3).wr Reg.BIA_STROBE 7, ?_⟩; decide +kernel,
    by refine ⟨{ wOpen with mode := .shelf }, ?_⟩; decide +kernel,
    by refine ⟨wTx, ⟨1, 2, true, #v[none, some 1, none, none], [(9, 7)], false, true, true, #v[true, true], 5, 600, Vector.replicate 9 (0, 0)⟩, ?_⟩; decide +kernel,
    by refine ⟨wTx, ⟨1, 2, true, #v[some 0, some 2, some 1, some 0], [(9, 7)], false, false, false, #v[true, true], 5, 600, Vector.replicate 9 (0, 0)⟩, ?_⟩; decide +kernel,
    by refine ⟨wTx, ?_⟩; decide +kernel,
    by refine ⟨State.reset, ?_⟩; decide +kernel,
    by refine ⟨{ wTx with pending := [.earlyWarning 0 []] }, ?_⟩; decide +kernel,
    by refine ⟨State.reset, ⟨1, 2, true, #v[none, some 1, none, none], [(9, 7)], false, true, true, #v[true, true], 5, 600, Vector.replicate 9 (0, 0)⟩, ?_⟩; decide +kernel,
    by refine ⟨State.reset, ⟨1, 2, true, #v[some 0, some 2, some 1, some 0], [(9, 7)], false, false, false, #v[true, true], 5, 600, Vector.replicate 9 (0, 0)⟩, ?_⟩; decide +kernel,
    by refine ⟨State.reset, ?_⟩; decide +kernel,
    by refine ⟨{ State.reset with mode := .shelf, pins := { State.reset.pins with pwrReq := false } }, ?_⟩; decide +kernel,
    by refine ⟨{ wTx with pins := { wTx.pins with resetN := true } }, ?_⟩; decide +kernel,
    by refine ⟨{ State.reset with now := 5000000000000, kpr := { State.reset.kpr with portsAt := some 5, bootPorts := true, bootDone := some 7, writesOpen := true } }, 5, ?_⟩; decide +kernel,
    by refine ⟨State.reset, ?_⟩; decide +kernel,
    by refine ⟨{ State.reset with now := 5000000000000, kpr := { State.reset.kpr with haltedAt := some 7 } }, 7, ?_⟩; decide +kernel,
    by refine ⟨State.reset, ?_⟩; decide +kernel⟩

/-- Witnesses for `Obligations.PowerShelfAndWake`. -/
theorem wit_powerShelfAndWake :
    (∃ s : State, ∃ (rail : Rail), s.Canon ∧ s.mode ≠ .shelf ∧ s.pins.pwrReq = true ∧ (s.rcd.earlyWarned = false ∨ railIgnored rail = false)) ∧
    (∃ s : State, ∃ (rail : Rail), s.Canon ∧ (s.mode = .shelf ∨ s.pins.pwrReq = false ∨ (s.rcd.earlyWarned = true ∧ railIgnored rail = true))) ∧
    (∃ s : State, s.Canon) ∧
    (∃ s : State, s.Canon) ∧
    (∃ s : State, s.Canon ∧ s.mode ≠ .shelf ∧ s.pins.pwrReq = true ∧ s.rcd.earlyWarned = false ∧ s.rcd.copy = none) ∧
    (∃ s : State, s.Canon ∧ s.mode ≠ .shelf ∧ s.pins.pwrReq = true ∧ s.rcd.earlyWarned = false ∧ s.rcd.copy.isSome = true) ∧
    (∃ s : State, s.Canon ∧ (s.mode = .shelf ∨ s.pins.pwrReq = false ∨ s.rcd.earlyWarned = true)) ∧
    (∃ s : State, ∃ (k : Nat) (f : Freeze), s.Canon ∧ s.rcd.copy = some (k, f) ∧ s.rcd.lowerAfter = false ∧ s.rcd.waiting = none) ∧
    (∃ s : State, s.Canon ∧ s.rcd.copy.isSome = true ∧ s.rcd.lowerAfter = true) ∧
    (∃ s : State, ∃ (w : Nat), s.Canon ∧ s.rcd.copy.isSome = true ∧ s.rcd.lowerAfter = false ∧ s.rcd.waiting = some w) ∧
    (∃ s : State, s.Canon ∧ s.rcd.copy = none) ∧
    (∃ s : State, s.Canon ∧ s.kpr.shelving = true) ∧
    (∃ s : State, s.Canon ∧ s.kpr.shelving = false ∧ s.mode = .shelf ∧ s.pins.vaon = true ∧ s.pins.pwrReq = false ∧ (s.pins.resetN = false ∨ s.pins.pgood0 = false ∨ s.pins.pgood1 = false)) ∧
    (∃ s : State, s.Canon ∧ s.kpr.shelving = false ∧ (s.mode ≠ .shelf ∨ s.pins.vaon = false ∨ s.pins.pwrReq = true)) ∧
    (∃ s : State, ∃ (r : BootRun), s.Canon ∧ s.kpr.shelving = false ∧ s.mode = .shelf ∧ s.pins.vaon = true ∧ s.pins.pwrReq = false ∧ r.early = false ∧ s.pins.resetN = true ∧ s.pins.pgood0 = true ∧ s.pins.pgood1 = true) ∧
    (∃ s : State, s.Canon ∧ s.mode = .shelf ∧ s.pins.vaon = true ∧ s.kpr.wakeHeld = true ∧ s.pins.pwrReq = false ∧ msPassed (s.now - s.kpr.pwrFell) 10 = true ∧ (s.pins.resetN = false ∨ s.pins.pgood0 = false ∨ s.pins.pgood1 = false)) ∧
    (∃ s : State, ∃ (r : BootRun), s.Canon ∧ s.mode = .shelf ∧ s.pins.vaon = true ∧ s.kpr.wakeHeld = true ∧ s.pins.pwrReq = false ∧ msPassed (s.now - s.kpr.pwrFell) 10 = true ∧ r.early = false ∧ s.pins.resetN = true ∧ s.pins.pgood0 = true ∧ s.pins.pgood1 = true) ∧
    (∃ s : State, s.Canon ∧ (s.mode ≠ .shelf ∨ s.pins.vaon = false ∨ s.kpr.wakeHeld = false ∨ s.pins.pwrReq = true)) ∧
    (∃ s : State, s.Canon ∧ s.mode = .shelf ∧ s.pins.pwrReq = true ∧ (s.pins.pgood0 = false ∨ s.pins.pgood1 = false) ∧ msPassed (s.now - s.kpr.pwrRose) 100 = true) ∧
    (∃ s : State, s.Canon ∧ (s.mode ≠ .shelf ∨ s.pins.pwrReq = false ∨ (s.pins.pgood0 = true ∧ s.pins.pgood1 = true))) ∧
    (∃ s : State, s.Canon ∧ (s.mode ≠ .shelf ∨ s.pins.vaon = false ∨ s.pins.pwrReq = false ∨ s.pins.resetN = false)) ∧
    (∃ s : State, ∃ (r : BootRun), s.Canon ∧ s.mode = .shelf ∧ s.pins.vaon = true ∧ s.pins.pwrReq = true ∧ s.pins.resetN = true ∧ r.early = false) :=
  ⟨by refine ⟨wTx.wr Reg.KPR_AON 3, .vddBias, ?_⟩; decide +kernel,
    by refine ⟨{ State.reset with mode := .shelf, now := 5000000000000, pins := { State.reset.pins with pwrReq := false, wake := false } }, .vddBias, ?_⟩; decide +kernel,
    by refine ⟨wTx.wr Reg.KPR_AON 3, ?_⟩; decide +kernel,
    by refine ⟨wTx.wr Reg.KPR_AON 3, ?_⟩; decide +kernel,
    by refine ⟨wTx, ?_⟩; decide +kernel,
    by refine ⟨{ wTx with pins := { wTx.pins with resetN := true }, rcd := { wTx.rcd with copy := some (2, { trigger := 7, mode := 3, image := 0, cause := 0, nEntry := 1, firstSeq := 0, ns := 0, air := 0, quality := 0, version := 0, ltOn := 0, ring := [1, 2, 3] }) } }, ?_⟩; decide +kernel,
    by refine ⟨{ State.reset with mode := .shelf, now := 5000000000000, pins := { State.reset.pins with pwrReq := false, wake := false } }, ?_⟩; decide +kernel,
    by refine ⟨{ wTx with pins := { wTx.pins with resetN := true }, rcd := { wTx.rcd with copy := some (2, { trigger := 7, mode := 3, image := 0, cause := 0, nEntry := 1, firstSeq := 0, ns := 0, air := 0, quality := 0, version := 0, ltOn := 0, ring := [1, 2, 3] }) } }, 2, { trigger := 7, mode := 3, image := 0, cause := 0, nEntry := 1, firstSeq := 0, ns := 0, air := 0, quality := 0, version := 0, ltOn := 0, ring := [1, 2, 3] }, ?_⟩; decide +kernel,
    by refine ⟨{ wTx with pins := { wTx.pins with resetN := true }, rcd := { wTx.rcd with copy := some (2, { trigger := 7, mode := 3, image := 0, cause := 0, nEntry := 1, firstSeq := 0, ns := 0, air := 0, quality := 0, version := 0, ltOn := 0, ring := [1, 2, 3] }), lowerAfter := true } }, ?_⟩; decide +kernel,
    by refine ⟨{ wTx with pins := { wTx.pins with resetN := true }, rcd := { wTx.rcd with copy := some (2, { trigger := 7, mode := 3, image := 0, cause := 0, nEntry := 1, firstSeq := 0, ns := 0, air := 0, quality := 0, version := 0, ltOn := 0, ring := [1, 2, 3] }), waiting := some 5 } }, 5, ?_⟩; decide +kernel,
    by refine ⟨State.reset, ?_⟩; decide +kernel,
    by refine ⟨{ wTx with kpr := { wTx.kpr with shelving := true } }, ?_⟩; decide +kernel,
    by refine ⟨{ State.reset with mode := .shelf, now := 5000000000000, pins := { State.reset.pins with pwrReq := false, wake := false } }, ?_⟩; decide +kernel,
    by refine ⟨wTx, ?_⟩; decide +kernel,
    by refine ⟨{ State.reset with mode := .shelf, now := 5000000000000, pins := { State.reset.pins with resetN := true, pwrReq := false, wake := false } }, ⟨1, 2, true, #v[none, some 1, none, none], [(9, 7)], false, true, true, #v[true, true], 5, 600, Vector.replicate 9 (0, 0)⟩, ?_⟩; decide +kernel,
    by refine ⟨{ State.reset with mode := .shelf, now := 5000000000000, kpr := { State.reset.kpr with wakeHeld := true }, pins := { State.reset.pins with pwrReq := false, wake := false } }, ?_⟩; decide +kernel,
    by refine ⟨{ State.reset with mode := .shelf, now := 5000000000000, kpr := { State.reset.kpr with wakeHeld := true }, pins := { State.reset.pins with resetN := true, pwrReq := false, wake := false } }, ⟨1, 2, true, #v[none, some 1, none, none], [(9, 7)], false, true, true, #v[true, true], 5, 600, Vector.replicate 9 (0, 0)⟩, ?_⟩; decide +kernel,
    by refine ⟨State.reset, ?_⟩; decide +kernel,
    by refine ⟨{ State.reset with mode := .shelf, now := 5000000000000, pins := { State.reset.pins with pwrReq := true, resetN := true, pgood1 := false, wake := false } }, ?_⟩; decide +kernel,
    by refine ⟨State.reset, ?_⟩; decide +kernel,
    by refine ⟨{ wTx with pins := { wTx.pins with pgood1 := false } }, ?_⟩; decide +kernel,
    by refine ⟨{ State.reset with mode := .shelf, now := 5000000000000, pins := { State.reset.pins with pwrReq := true, resetN := true, pgood1 := false, wake := false } }, ⟨1, 2, true, #v[none, some 1, none, none], [(9, 7)], false, true, true, #v[true, true], 5, 600, Vector.replicate 9 (0, 0)⟩, ?_⟩; decide +kernel⟩

/-- Witnesses for `Obligations.LeaseRequestsReleasesAndLapse`. -/
theorem wit_leaseRequestsReleasesAndLapse :
    (∃ s : State, ∃ (src : Fin 8) (q : MReq), s.Canon ∧ oldestReq src s.pkt.requests = some q ∧ q.op = 5 ∧ ((s.ahead src).holder = none ∨ (s.ahead src).holder = some ((s.ahead src).masterOf src))) ∧
    (∃ s : State, ∃ (src : Fin 8) (q : MReq) (h : Nat), s.Canon ∧ oldestReq src s.pkt.requests = some q ∧ q.op = 5 ∧ (s.ahead src).holder = some h ∧ h ≠ (s.ahead src).masterOf src ∧ (s.ahead src).leasePri h < (s.ahead src).leasePri ((s.ahead src).masterOf src)) ∧
    (∃ s : State, ∃ (src : Fin 8) (q : MReq) (h : Nat), s.Canon ∧ oldestReq src s.pkt.requests = some q ∧ q.op = 5 ∧ (s.ahead src).holder = some h ∧ h ≠ (s.ahead src).masterOf src ∧ (s.ahead src).leasePri ((s.ahead src).masterOf src) ≤ (s.ahead src).leasePri h) ∧
    (∃ s : State, ∃ (src : Fin 8), s.Canon ∧ oldestReq src s.pkt.requests = none) ∧
    (∃ s : State, ∃ (src : Fin 8) (q : MReq), s.Canon ∧ oldestReq src s.pkt.requests = some q ∧ q.op = 6 ∧ (s.ahead src).holder = some ((s.ahead src).masterOf src)) ∧
    (∃ s : State, ∃ (src : Fin 8) (q : MReq), s.Canon ∧ oldestReq src s.pkt.requests = some q ∧ q.op = 6 ∧ (s.ahead src).holder = none) ∧
    (∃ s : State, ∃ (src : Fin 8) (q : MReq) (h : Nat), s.Canon ∧ oldestReq src s.pkt.requests = some q ∧ q.op = 6 ∧ (s.ahead src).holder = some h ∧ h ≠ (s.ahead src).masterOf src) ∧
    (∃ s : State, ∃ (src : Fin 8) (c : Fin 8) (a : Nat) (xs : List Byte) (ys : List Byte), s.Canon ∧ s.pkt.requests = [(src.val, a, xs), (c.val, a, ys)] ∧ c ≠ src ∧ (parseReq xs).op = 5 ∧ (parseReq ys).op = 5 ∧ s.outranks (s.masterOf c) (s.masterOf src) = true ∧ s.holder = none) ∧
    (∃ s : State, ∃ (src : Fin 8), s.Canon ∧ oldestReq src s.pkt.requests = none) ∧
    (∃ s : State, s.Canon ∧ s.mode ≠ .shelf ∧ ((s.rivalsFirst 2 s.now 8).holder = none ∨ (s.rivalsFirst 2 s.now 8).holder = some (2))) ∧
    (∃ s : State, ∃ (h : Nat), s.Canon ∧ s.mode ≠ .shelf ∧ (s.rivalsFirst 2 s.now 8).holder = some h ∧ h ≠ 2 ∧ (s.rivalsFirst 2 s.now 8).leasePri h < (s.rivalsFirst 2 s.now 8).leasePri (2)) ∧
    (∃ s : State, ∃ (h : Nat), s.Canon ∧ s.mode ≠ .shelf ∧ (s.rivalsFirst 2 s.now 8).holder = some h ∧ h ≠ 2 ∧ (s.rivalsFirst 2 s.now 8).leasePri (2) ≤ (s.rivalsFirst 2 s.now 8).leasePri h) ∧
    (∃ s : State, s.Canon ∧ s.mode ≠ .shelf ∧ (s.rivalsFirst 2 s.now 8).holder = some (2)) ∧
    (∃ s : State, s.Canon ∧ s.mode ≠ .shelf ∧ (s.rivalsFirst 2 s.now 8).holder = none) ∧
    (∃ s : State, ∃ (h : Nat), s.Canon ∧ s.mode ≠ .shelf ∧ (s.rivalsFirst 2 s.now 8).holder = some h ∧ h ≠ 2) ∧
    (∃ s : State, s.Canon ∧ s.mode = .shelf) ∧
    (∃ s : State, s.Canon ∧ s.mode = .shelf) ∧
    (∃ s : State, ∃ (h : Nat), s.Canon ∧ s.holder = some h ∧ 2 * ticksPerS ≤ s.now - s.pkt.leaseAt) ∧
    (∃ s : State, s.Canon ∧ s.holder = none) :=
  ⟨by refine ⟨{ wOpen with pkt := { wOpen.pkt with requests := [(2, 3, [7]), (5, 4, (bytesOf 1 5 ++ [0, 0, 9] ++ bytesOf 4 (0) ++ bytesOf 2 0 ++ List.replicate 6 0 ++ []))] } }, 5, (parseReq (bytesOf 1 5 ++ [0, 0, 9] ++ bytesOf 4 (0) ++ bytesOf 2 0 ++ List.replicate 6 0 ++ [])), ?_⟩; decide +kernel,
    by refine ⟨{ ((wOpen.setHolder (some 1)).wr Reg.PKT_LEASE_CFG 0x502) with pkt := { ((wOpen.setHolder (some 1)).wr Reg.PKT_LEASE_CFG 0x502).pkt with requests := [(2, 3, [7]), (5, 4, (bytesOf 1 5 ++ [0, 0, 9] ++ bytesOf 4 (0) ++ bytesOf 2 0 ++ List.replicate 6 0 ++ []))] } }, 5, (parseReq (bytesOf 1 5 ++ [0, 0, 9] ++ bytesOf 4 (0) ++ bytesOf 2 0 ++ List.replicate 6 0 ++ [])), 1, ?_⟩; decide +kernel,
    by refine ⟨{ ((wOpen.setHolder (some 1)).wr Reg.PKT_LEASE_CFG 0x70) with pkt := { ((wOpen.setHolder (some 1)).wr Reg.PKT_LEASE_CFG 0x70).pkt with requests := [(2, 3, [7]), (5, 4, (bytesOf 1 5 ++ [0, 0, 9] ++ bytesOf 4 (0) ++ bytesOf 2 0 ++ List.replicate 6 0 ++ []))] } }, 5, (parseReq (bytesOf 1 5 ++ [0, 0, 9] ++ bytesOf 4 (0) ++ bytesOf 2 0 ++ List.replicate 6 0 ++ [])), 1, ?_⟩; decide +kernel,
    by refine ⟨State.reset, 5, ?_⟩; decide +kernel,
    by refine ⟨{ (wOpen.setHolder (some 0)) with pkt := { (wOpen.setHolder (some 0)).pkt with requests := [(2, 3, [7]), (5, 4, (bytesOf 1 6 ++ [0, 0, 9] ++ bytesOf 4 (0) ++ bytesOf 2 0 ++ List.replicate 6 0 ++ []))] } }, 5, (parseReq (bytesOf 1 6 ++ [0, 0, 9] ++ bytesOf 4 (0) ++ bytesOf 2 0 ++ List.replicate 6 0 ++ [])), ?_⟩; decide +kernel,
    by refine ⟨{ wOpen with pkt := { wOpen.pkt with requests := [(2, 3, [7]), (5, 4, (bytesOf 1 6 ++ [0, 0, 9] ++ bytesOf 4 (0) ++ bytesOf 2 0 ++ List.replicate 6 0 ++ []))] } }, 5, (parseReq (bytesOf 1 6 ++ [0, 0, 9] ++ bytesOf 4 (0) ++ bytesOf 2 0 ++ List.replicate 6 0 ++ [])), ?_⟩; decide +kernel,
    by refine ⟨{ (wOpen.setHolder (some 1)) with pkt := { (wOpen.setHolder (some 1)).pkt with requests := [(2, 3, [7]), (5, 4, (bytesOf 1 6 ++ [0, 0, 9] ++ bytesOf 4 (0) ++ bytesOf 2 0 ++ List.replicate 6 0 ++ []))] } }, 5, (parseReq (bytesOf 1 6 ++ [0, 0, 9] ++ bytesOf 4 (0) ++ bytesOf 2 0 ++ List.replicate 6 0 ++ [])), 1, ?_⟩; decide +kernel,
    by refine ⟨{ wOpen with pkt := { wOpen.pkt with requests := [(6, 4, (bytesOf 1 5 ++ [0, 0, 9] ++ bytesOf 4 (0) ++ bytesOf 2 0 ++ List.replicate 6 0 ++ [])), (5, 4, (bytesOf 1 5 ++ [0, 0, 9] ++ bytesOf 4 (0) ++ bytesOf 2 0 ++ List.replicate 6 0 ++ []))] } }, 6, 5, 4, (bytesOf 1 5 ++ [0, 0, 9] ++ bytesOf 4 (0) ++ bytesOf 2 0 ++ List.replicate 6 0 ++ []), (bytesOf 1 5 ++ [0, 0, 9] ++ bytesOf 4 (0) ++ bytesOf 2 0 ++ List.replicate 6 0 ++ []), ?_⟩; decide +kernel,
    by refine ⟨State.reset, 5, ?_⟩; decide +kernel,
    by refine ⟨wOpen, ?_⟩; decide +kernel,
    by refine ⟨((wOpen.setHolder (some 1)).wr Reg.PKT_LEASE_CFG 0x520), 1, ?_⟩; decide +kernel,
    by refine ⟨((wOpen.setHolder (some 1)).wr Reg.PKT_LEASE_CFG 0x70), 1, ?_⟩; decide +kernel,
    by refine ⟨(wOpen.setHolder (some 2)), ?_⟩; decide +kernel,
    by refine ⟨wOpen, ?_⟩; decide +kernel,
    by refine ⟨(wOpen.setHolder (some 1)), 1, ?_⟩; decide +kernel,
    by refine ⟨{ wOpen with mode := .shelf }, ?_⟩; decide +kernel,
    by refine ⟨{ wOpen with mode := .shelf }, ?_⟩; decide +kernel,
    by refine ⟨{ (wOpen.setHolder (some 1)) with now := 2000000000 }, 1, ?_⟩; decide +kernel,
    by refine ⟨State.reset, ?_⟩; decide +kernel⟩

/-- Witnesses for `Obligations.ManagementPlaneRequests`. -/
theorem wit_managementPlaneRequests :
    (∃ s : State, ∃ (src : Fin 8) (q : MReq), s.Canon ∧ oldestReq src s.pkt.requests = some q ∧ q.op = 1 ∧ 1 ≤ q.count ∧ q.count ≤ 256 ∧ regsOk q.addr q.count = true) ∧
    (∃ s : State, ∃ (src : Fin 8) (q : MReq), s.Canon ∧ oldestReq src s.pkt.requests = some q ∧ (q.op = 0 ∨ 6 < q.op)) ∧
    (∃ s : State, ∃ (src : Fin 8) (q : MReq), s.Canon ∧ oldestReq src s.pkt.requests = some q ∧ q.op = 1 ∧ (q.count = 0 ∨ 256 < q.count)) ∧
    (∃ s : State, ∃ (src : Fin 8) (q : MReq), s.Canon ∧ oldestReq src s.pkt.requests = some q ∧ q.op = 1 ∧ 1 ≤ q.count ∧ q.count ≤ 256 ∧ regsOk q.addr q.count = false) ∧
    (∃ s : State, ∃ (src : Fin 8), s.Canon ∧ oldestReq src s.pkt.requests = none) ∧
    (∃ s : State, ∃ (src : Fin 8), s.Canon ∧ oldestReq src s.pkt.requests = none) ∧
    (∃ s : State, ∃ (src : Fin 8) (q : MReq) (upsets : List (Nat × Upset)), s.Canon ∧ upsets = [] ∧ oldestReq src s.pkt.requests = some q ∧ q.op = 3 ∧ 1 ≤ q.count ∧ q.count ≤ 8176 ∧ s.memValid q.addr q.count = true ∧ ((∀ c : Fin 2, s.mem.chans[c].queue = [])) ∧ ((∀ k : Nat, k ∈ markKeys q.addr q.count → s.mark k = .ok)) ∧ ((∀ i : Nat, i < q.count → s.openByte (q.addr + i) = false))) ∧
    (∃ s : State, ∃ (src : Fin 8) (q : MReq) (upsets : List (Nat × Upset)), s.Canon ∧ oldestReq src s.pkt.requests = some q ∧ q.op = 3 ∧ 1 ≤ q.count ∧ q.count ≤ 8176 ∧ (s.upset upsets).memValid q.addr q.count = true ∧ ((∀ k : Nat, k ∈ markKeys q.addr q.count → ((s.upset upsets).mark k).moved = false)) ∧ ((∀ i : Nat, i < q.count → (s.upset upsets).openByte (q.addr + i) = false))) ∧
    (∃ s : State, ∃ (src : Fin 8) (q : MReq) (upsets : List (Nat × Upset)), s.Canon ∧ oldestReq src s.pkt.requests = some q ∧ q.op = 3 ∧ (q.count = 0 ∨ 8176 < q.count ∨ (s.upset upsets).memValid q.addr q.count = false)) ∧
    (∃ s : State, ∃ (src : Fin 8), s.Canon ∧ oldestReq src s.pkt.requests = none) ∧
    (∃ s : State, ∃ (src : Fin 8) (e : WriteEnv) (q : MReq), s.Canon ∧ oldestReq src s.pkt.requests = some q ∧ q.op = 2 ∧ q.count = 1 ∧ q.data.length = 4 ∧ regsOk q.addr 1 = true ∧ (s.ahead src).holder = some ((s.ahead src).masterOf src) ∧ (s.ahead src).writable = true ∧ instOf (Reg.RXP_OBS_ROUTE 0) 0x10000 9 q.addr = none ∧ ((s.ahead src).taken src).touchLease.hook q.addr (BitVec.ofNat 32 (natOf (q.data.take 4))) e = none) ∧
    (∃ s : State, ∃ (src : Fin 8) (q : MReq), s.Canon ∧ oldestReq src s.pkt.requests = some q ∧ q.op = 2 ∧ 1 ≤ q.count ∧ q.count ≤ 256 ∧ q.data.length = 4 * q.count ∧ regsOk q.addr q.count = true ∧ (s.ahead src).holder = some ((s.ahead src).masterOf src) ∧ (s.ahead src).writable = true ∧ ((∀ x ∈ (wholeWords q.data).zipIdx, q.addr + 4 * x.2 = Reg.KPR_MODE_CMD → fldOf x.1 2 0 ≠ 5))) ∧
    (∃ s : State, ∃ (src : Fin 8) (q : MReq), s.Canon ∧ oldestReq src s.pkt.requests = some q ∧ q.op = 2 ∧ q.count = 1 ∧ q.data.length = 4 ∧ q.addr = Reg.KPR_MODE_CMD ∧ fldOf (BitVec.ofNat 32 (natOf (q.data.take 4))) 2 0 = 5 ∧ (s.ahead src).holder = some ((s.ahead src).masterOf src) ∧ (((s.ahead src).writable = true ∨ (s.ahead src).kpr.haltedAt.isSome = true))) ∧
    (∃ s : State, ∃ (src : Fin 8) (q : MReq), s.Canon ∧ oldestReq src s.pkt.requests = some q ∧ q.op = 2 ∧ (s.ahead src).holder ≠ some ((s.ahead src).masterOf src)) ∧
    (∃ s : State, ∃ (src : Fin 8) (q : MReq), s.Canon ∧ oldestReq src s.pkt.requests = some q ∧ q.op = 2 ∧ 1 ≤ q.count ∧ q.count ≤ 256 ∧ q.data.length = 4 * q.count ∧ regsOk q.addr q.count = true ∧ (s.ahead src).holder = some ((s.ahead src).masterOf src) ∧ (s.ahead src).writable = false ∧ (((s.ahead src).kpr.haltedAt = none ∨ isReboot q.addr (wholeWords q.data) = false))) ∧
    (∃ s : State, ∃ (src : Fin 8) (q : MReq), s.Canon ∧ oldestReq src s.pkt.requests = some q ∧ q.op = 2 ∧ (s.ahead src).holder = some ((s.ahead src).masterOf src) ∧ (q.count = 0 ∨ 256 < q.count ∨ q.data.length ≠ 4 * q.count)) ∧
    (∃ s : State, ∃ (src : Fin 8) (q : MReq), s.Canon ∧ oldestReq src s.pkt.requests = some q ∧ q.op = 2 ∧ (s.ahead src).holder = some ((s.ahead src).masterOf src) ∧ 1 ≤ q.count ∧ q.count ≤ 256 ∧ q.data.length = 4 * q.count ∧ regsOk q.addr q.count = false) ∧
    (∃ s : State, ∃ (src : Fin 8) (q : MReq) (upsets : List (Nat × Upset)), s.Canon ∧ oldestReq src s.pkt.requests = some q ∧ q.op = 4 ∧ 1 ≤ q.count ∧ q.count ≤ 8176 ∧ q.data.length = q.count ∧ ((s.upset upsets).ahead src).hostWritable q.addr q.count = true ∧ ((s.upset upsets).ahead src).holder = some (((s.upset upsets).ahead src).masterOf src) ∧ ((s.upset upsets).ahead src).writable = true) ∧
    (∃ s : State, ∃ (src : Fin 8) (q : MReq) (upsets : List (Nat × Upset)), s.Canon ∧ oldestReq src s.pkt.requests = some q ∧ q.op = 4 ∧ ((s.upset upsets).ahead src).holder ≠ some (((s.upset upsets).ahead src).masterOf src)) ∧
    (∃ s : State, ∃ (src : Fin 8) (q : MReq) (upsets : List (Nat × Upset)), s.Canon ∧ oldestReq src s.pkt.requests = some q ∧ q.op = 4 ∧ ((s.upset upsets).ahead src).holder = some (((s.upset upsets).ahead src).masterOf src) ∧ 1 ≤ q.count ∧ q.count ≤ 8176 ∧ q.data.length = q.count ∧ ((s.upset upsets).ahead src).hostWritable q.addr q.count = true ∧ ((s.upset upsets).ahead src).writable = false) ∧
    (∃ s : State, ∃ (src : Fin 8) (q : MReq) (upsets : List (Nat × Upset)), s.Canon ∧ oldestReq src s.pkt.requests = some q ∧ q.op = 4 ∧ ((s.upset upsets).ahead src).holder = some (((s.upset upsets).ahead src).masterOf src) ∧ (q.count = 0 ∨ 8176 < q.count ∨ q.data.length ≠ q.count ∨ ((s.upset upsets).ahead src).hostWritable q.addr q.count = false)) ∧
    (∃ s : State, ∃ (src : Fin 8), s.Canon ∧ oldestReq src s.pkt.requests = none) :=
  ⟨by refine ⟨{ wOpen with pkt := { wOpen.pkt with requests := [(2, 3, [7]), (5, 4, (bytesOf 1 1 ++ [0, 0, 9] ++ bytesOf 4 ((Reg.TIM_INCR_FRAC)) ++ bytesOf 2 2 ++ List.replicate 6 0 ++ []))] } }, 5, (parseReq (bytesOf 1 1 ++ [0, 0, 9] ++ bytesOf 4 ((Reg.TIM_INCR_FRAC)) ++ bytesOf 2 2 ++ List.replicate 6 0 ++ [])), ?_⟩; decide +kernel,
    by refine ⟨{ wOpen with pkt := { wOpen.pkt with requests := [(2, 3, [7]), (5, 4, (bytesOf 1 0 ++ [0, 0, 9] ++ bytesOf 4 ((Reg.TIM_INCR_FRAC)) ++ bytesOf 2 2 ++ List.replicate 6 0 ++ []))] } }, 5, (parseReq (bytesOf 1 0 ++ [0, 0, 9] ++ bytesOf 4 ((Reg.TIM_INCR_FRAC)) ++ bytesOf 2 2 ++ List.replicate 6 0 ++ [])), ?_⟩; decide +kernel,
    by refine ⟨{ wOpen with pkt := { wOpen.pkt with requests := [(2, 3, [7]), (5, 4, (bytesOf 1 1 ++ [0, 0, 9] ++ bytesOf 4 ((Reg.TIM_INCR_FRAC)) ++ bytesOf 2 300 ++ List.replicate 6 0 ++ []))] } }, 5, (parseReq (bytesOf 1 1 ++ [0, 0, 9] ++ bytesOf 4 ((Reg.TIM_INCR_FRAC)) ++ bytesOf 2 300 ++ List.replicate 6 0 ++ [])), ?_⟩; decide +kernel,
    by refine ⟨{ wOpen with pkt := { wOpen.pkt with requests := [(2, 3, [7]), (5, 4, (bytesOf 1 1 ++ [0, 0, 9] ++ bytesOf 4 (2) ++ bytesOf 2 3 ++ List.replicate 6 0 ++ []))] } }, 5, (parseReq (bytesOf 1 1 ++ [0, 0, 9] ++ bytesOf 4 (2) ++ bytesOf 2 3 ++ List.replicate 6 0 ++ [])), ?_⟩; decide +kernel,
    by refine ⟨State.reset, 5, ?_⟩; decide +kernel,
    by refine ⟨State.reset, 5, ?_⟩; decide +kernel,
    by refine ⟨({ wOpen with pkt := { wOpen.pkt with requests := [(2, 3, [7]), (5, 4, (bytesOf 1 3 ++ [0, 0, 9] ++ bytesOf 4 (0xF1600002) ++ bytesOf 2 5 ++ List.replicate 6 0 ++ []))] } }).memPuts 0xF1600003 [1, 2, 3, 4], 5, (parseReq (bytesOf 1 3 ++ [0, 0, 9] ++ bytesOf 4 (0xF1600002) ++ bytesOf 2 5 ++ List.replicate 6 0 ++ [])), [], ?_⟩; decide +kernel,
    by refine ⟨({ wOpen with pkt := { wOpen.pkt with requests := [(2, 3, [7]), (5, 4, (bytesOf 1 3 ++ [0, 0, 9] ++ bytesOf 4 (0xF1600002) ++ bytesOf 2 5 ++ List.replicate 6 0 ++ []))] } }).memPuts 0xF1600003 [1, 2, 3, 4], 5, (parseReq (bytesOf 1 3 ++ [0, 0, 9] ++ bytesOf 4 (0xF1600002) ++ bytesOf 2 5 ++ List.replicate 6 0 ++ [])), [(0xF1600002, .bit 3), (0xF1600002, .bit 4)], ?_⟩; decide +kernel,
    by refine ⟨{ wOpen with pkt := { wOpen.pkt with requests := [(2, 3, [7]), (5, 4, (bytesOf 1 3 ++ [0, 0, 9] ++ bytesOf 4 (0xF2600002) ++ bytesOf 2 5 ++ List.replicate 6 0 ++ []))] } }, 5, (parseReq (bytesOf 1 3 ++ [0, 0, 9] ++ bytesOf 4 (0xF2600002) ++ bytesOf 2 5 ++ List.replicate 6 0 ++ [])), [(7, .bit 9)], ?_⟩; decide +kernel,
    by refine ⟨State.reset, 5, ?_⟩; decide +kernel,
    by refine ⟨{ (wOpen.setHolder (some 0)) with pkt := { (wOpen.setHolder (some 0)).pkt with requests := [(2, 3, [7]), (5, 4, (bytesOf 1 2 ++ [0, 0, 9] ++ bytesOf 4 ((Reg.TIM_INCR_FRAC)) ++ bytesOf 2 1 ++ List.replicate 6 0 ++ [1, 2, 3, 4]))] } }, 5, ⟨⟨1, 2, true, Vector.replicate 4 none, [], false, true, true, #v[true, true], 5, 600, Vector.replicate 9 (0, 0)⟩, []⟩, (parseReq (bytesOf 1 2 ++ [0, 0, 9] ++ bytesOf 4 ((Reg.TIM_INCR_FRAC)) ++ bytesOf 2 1 ++ List.replicate 6 0 ++ [1, 2, 3, 4])), ?_⟩; decide +kernel,
    by refine ⟨{ (wOpen.setHolder (some 0)) with pkt := { (wOpen.setHolder (some 0)).pkt with requests := [(2, 3, [7]), (5, 4, (bytesOf 1 2 ++ [0, 0, 9] ++ bytesOf 4 ((Reg.TIM_INCR_CTL)) ++ bytesOf 2 2 ++ List.replicate 6 0 ++ [1, 2, 3, 4, 5, 6, 7, 8]))] } }, 5, (parseReq (bytesOf 1 2 ++ [0, 0, 9] ++ bytesOf 4 ((Reg.TIM_INCR_CTL)) ++ bytesOf 2 2 ++ List.replicate 6 0 ++ [1, 2, 3, 4, 5, 6, 7, 8])), ?_⟩; decide +kernel,
    by refine ⟨{ ((State.reset.setHolder (some 0)).halt 3) with pkt := { ((State.reset.setHolder (some 0)).halt 3).pkt with requests := [(2, 3, [7]), (5, 4, (bytesOf 1 2 ++ [0, 0, 9] ++ bytesOf 4 (Reg.KPR_MODE_CMD) ++ bytesOf 2 1 ++ List.replicate 6 0 ++ [0, 0, 0, 5]))] } }, 5, (parseReq (bytesOf 1 2 ++ [0, 0, 9] ++ bytesOf 4 (Reg.KPR_MODE_CMD) ++ bytesOf 2 1 ++ List.replicate 6 0 ++ [0, 0, 0, 5])), ?_⟩; decide +kernel,
    by refine ⟨{ wOpen with pkt := { wOpen.pkt with requests := [(2, 3, [7]), (5, 4, (bytesOf 1 2 ++ [0, 0, 9] ++ bytesOf 4 ((Reg.TIM_INCR_FRAC)) ++ bytesOf 2 1 ++ List.replicate 6 0 ++ [1, 2, 3, 4]))] } }, 5, (parseReq (bytesOf 1 2 ++ [0, 0, 9] ++ bytesOf 4 ((Reg.TIM_INCR_FRAC)) ++ bytesOf 2 1 ++ List.replicate 6 0 ++ [1, 2, 3, 4])), ?_⟩; decide +kernel,
    by refine ⟨{ (State.reset.setHolder (some 0)) with pkt := { (State.reset.setHolder (some 0)).pkt with requests := [(2, 3, [7]), (5, 4, (bytesOf 1 2 ++ [0, 0, 9] ++ bytesOf 4 ((Reg.TIM_INCR_FRAC)) ++ bytesOf 2 1 ++ List.replicate 6 0 ++ [1, 2, 3, 4]))] } }, 5, (parseReq (bytesOf 1 2 ++ [0, 0, 9] ++ bytesOf 4 ((Reg.TIM_INCR_FRAC)) ++ bytesOf 2 1 ++ List.replicate 6 0 ++ [1, 2, 3, 4])), ?_⟩; decide +kernel,
    by refine ⟨{ (wOpen.setHolder (some 0)) with pkt := { (wOpen.setHolder (some 0)).pkt with requests := [(2, 3, [7]), (5, 4, (bytesOf 1 2 ++ [0, 0, 9] ++ bytesOf 4 ((Reg.TIM_INCR_FRAC)) ++ bytesOf 2 1 ++ List.replicate 6 0 ++ [1, 2, 3]))] } }, 5, (parseReq (bytesOf 1 2 ++ [0, 0, 9] ++ bytesOf 4 ((Reg.TIM_INCR_FRAC)) ++ bytesOf 2 1 ++ List.replicate 6 0 ++ [1, 2, 3])), ?_⟩; decide +kernel,
    by refine ⟨{ (wOpen.setHolder (some 0)) with pkt := { (wOpen.setHolder (some 0)).pkt with requests := [(2, 3, [7]), (5, 4, (bytesOf 1 2 ++ [0, 0, 9] ++ bytesOf 4 (2) ++ bytesOf 2 1 ++ List.replicate 6 0 ++ [1, 2, 3, 4]))] } }, 5, (parseReq (bytesOf 1 2 ++ [0, 0, 9] ++ bytesOf 4 (2) ++ bytesOf 2 1 ++ List.replicate 6 0 ++ [1, 2, 3, 4])), ?_⟩; decide +kernel,
    by refine ⟨{ (wOpen.setHolder (some 0)) with pkt := { (wOpen.setHolder (some 0)).pkt with requests := [(2, 3, [7]), (5, 4, (bytesOf 1 4 ++ [0, 0, 9] ++ bytesOf 4 (0xF1600002) ++ bytesOf 2 3 ++ List.replicate 6 0 ++ [8, 9, 10]))] } }, 5, (parseReq (bytesOf 1 4 ++ [0, 0, 9] ++ bytesOf 4 (0xF1600002) ++ bytesOf 2 3 ++ List.replicate 6 0 ++ [8, 9, 10])), [(0xF1600000, .bit 7)], ?_⟩; decide +kernel,
    by refine ⟨{ wOpen with pkt := { wOpen.pkt with requests := [(2, 3, [7]), (5, 4, (bytesOf 1 4 ++ [0, 0, 9] ++ bytesOf 4 (0xF1600002) ++ bytesOf 2 3 ++ List.replicate 6 0 ++ [8, 9, 10]))] } }, 5, (parseReq (bytesOf 1 4 ++ [0, 0, 9] ++ bytesOf 4 (0xF1600002) ++ bytesOf 2 3 ++ List.replicate 6 0 ++ [8, 9, 10])), [], ?_⟩; decide +kernel,
    by refine ⟨{ (State.reset.setHolder (some 0)) with pkt := { (State.reset.setHolder (some 0)).pkt with requests := [(2, 3, [7]), (5, 4, (bytesOf 1 4 ++ [0, 0, 9] ++ bytesOf 4 (0xF1600002) ++ bytesOf 2 3 ++ List.replicate 6 0 ++ [8, 9, 10]))] } }, 5, (parseReq (bytesOf 1 4 ++ [0, 0, 9] ++ bytesOf 4 (0xF1600002) ++ bytesOf 2 3 ++ List.replicate 6 0 ++ [8, 9, 10])), [], ?_⟩; decide +kernel,
    by refine ⟨{ (wOpen.setHolder (some 0)) with pkt := { (wOpen.setHolder (some 0)).pkt with requests := [(2, 3, [7]), (5, 4, (bytesOf 1 4 ++ [0, 0, 9] ++ bytesOf 4 (0xF1500002) ++ bytesOf 2 3 ++ List.replicate 6 0 ++ [8, 9, 10]))] } }, 5, (parseReq (bytesOf 1 4 ++ [0, 0, 9] ++ bytesOf 4 (0xF1500002) ++ bytesOf 2 3 ++ List.replicate 6 0 ++ [8, 9, 10])), [], ?_⟩; decide +kernel,
    by refine ⟨State.reset, 5, ?_⟩; decide +kernel⟩

/-- Witnesses for `Obligations.ServicePortFrames`. -/
theorem wit_servicePortFrames :
    (∃ s : State, ∃ (ad : Word) (n : Nat), s.Canon ∧ s.mode ≠ .shelf ∧ ((s.locked = false ∨ ad.toNat + 4 * n ≤ 0x1000000)) ∧ regsOk ad.toNat n = true) ∧
    (∃ s : State, ∃ (ad : Word) (n : Nat), s.Canon ∧ s.mode ≠ .shelf ∧ ((s.locked = true ∧ 0x1000000 < ad.toNat + 4 * n) ∨ regsOk ad.toNat n = false)) ∧
    (∃ s : State, ∃ (ad : Word) (bytes : List Byte) (e : WriteEnv), s.Canon ∧ s.mode ≠ .shelf ∧ bytes.length = 4 ∧ (s.rivalsFirst 2 s.now 8).holder = some (2) ∧ (s.rivalsFirst 2 s.now 8).writable = true ∧ regsOk ad.toNat 1 = true ∧ ((s.locked = false ∨ unlockWords ad.toNat 1 = true)) ∧ instOf (Reg.RXP_OBS_ROUTE 0) 0x10000 9 ad.toNat = none ∧ (s.rivalsFirst 2 s.now 8).touchLease.hook ad.toNat (BitVec.ofNat 32 (natOf bytes)) e = none) ∧
    (∃ s : State, ∃ (ad : Word) (bytes : List Byte), s.Canon ∧ s.mode ≠ .shelf ∧ (s.rivalsFirst 2 s.now 8).holder = some (2) ∧ (s.rivalsFirst 2 s.now 8).writable = true ∧ regsOk ad.toNat (wholeWords bytes).length = true ∧ ((s.locked = false ∨ unlockWords ad.toNat (wholeWords bytes).length = true)) ∧ ((∀ x ∈ (wholeWords bytes).zipIdx, ad.toNat + 4 * x.2 = Reg.KPR_MODE_CMD → fldOf x.1 2 0 ≠ 5))) ∧
    (∃ s : State, ∃ (ad : Word) (bytes : List Byte), s.Canon ∧ s.mode ≠ .shelf ∧ bytes.length = 4 ∧ ad.toNat = Reg.KPR_MODE_CMD ∧ fldOf (BitVec.ofNat 32 (natOf bytes)) 2 0 = 5 ∧ s.locked = false ∧ (s.rivalsFirst 2 s.now 8).holder = some (2) ∧ (((s.rivalsFirst 2 s.now 8).writable = true ∨ (s.rivalsFirst 2 s.now 8).kpr.haltedAt.isSome = true))) ∧
    (∃ s : State, ∃ (ad : Word) (bytes : List Byte), s.Canon ∧ s.mode ≠ .shelf ∧ (s.rivalsFirst 2 s.now 8).holder ≠ some 2 ∧ ((s.locked = false ∨ unlockWords ad.toNat (wholeWords bytes).length = true))) ∧
    (∃ s : State, ∃ (ad : Word) (bytes : List Byte), s.Canon ∧ s.mode ≠ .shelf ∧ (s.rivalsFirst 2 s.now 8).holder = some (2) ∧ (s.rivalsFirst 2 s.now 8).writable = false ∧ (((s.rivalsFirst 2 s.now 8).kpr.haltedAt = none ∨ isReboot ad.toNat (wholeWords bytes) = false)) ∧ regsOk ad.toNat (wholeWords bytes).length = true ∧ ((s.locked = false ∨ unlockWords ad.toNat (wholeWords bytes).length = true))) ∧
    (∃ s : State, ∃ (ad : Word) (bytes : List Byte), s.Canon ∧ s.mode ≠ .shelf ∧ (s.rivalsFirst 2 s.now 8).holder = some (2) ∧ ((s.locked = false ∨ unlockWords ad.toNat (wholeWords bytes).length = true)) ∧ regsOk ad.toNat (wholeWords bytes).length = false) ∧
    (∃ s : State, ∃ (ad : Word) (bytes : List Byte), s.Canon ∧ s.mode ≠ .shelf ∧ s.locked = true ∧ unlockWords ad.toNat (wholeWords bytes).length = false) ∧
    (∃ s : State, s.Canon ∧ s.mode ≠ .shelf) ∧
    (∃ s : State, s.Canon ∧ s.mode = .shelf) ∧
    (∃ s : State, s.Canon ∧ s.mode = .shelf) ∧
    (∃ s : State, s.Canon ∧ s.mode = .shelf) :=
  ⟨by refine ⟨wOpen, (Reg.TIM_INCR_FRAC), 2, ?_⟩; decide +kernel,
    by refine ⟨wOpen, 3, 2, ?_⟩; decide +kernel,
    by refine ⟨(wOpen.setHolder (some 2)), (Reg.TIM_INCR_FRAC), [1, 2, 3, 4], ⟨⟨1, 2, true, Vector.replicate 4 none, [], false, true, true, #v[true, true], 5, 600, Vector.replicate 9 (0, 0)⟩, []⟩, ?_⟩; decide +kernel,
    by refine ⟨(wOpen.setHolder (some 2)), (Reg.TIM_INCR_CTL), [1, 2, 3, 4, 5, 6, 7, 8, 9], ?_⟩; decide +kernel,
    by refine ⟨((State.reset.setHolder (some 2)).halt 3), (BitVec.ofNat 32 Reg.KPR_MODE_CMD), [0, 0, 0, 5], ?_⟩; decide +kernel,
    by refine ⟨wOpen, (Reg.TIM_INCR_FRAC), [1, 2, 3, 4], ?_⟩; decide +kernel,
    by refine ⟨(State.reset.setHolder (some 2)), (Reg.TIM_INCR_FRAC), [1, 2, 3, 4], ?_⟩; decide +kernel,
    by refine ⟨(wOpen.setHolder (some 2)), 2, [1, 2, 3, 4], ?_⟩; decide +kernel,
    by refine ⟨{ (wOpen.setHolder (some 2)) with fuses := { (wOpen.setHolder (some 2)).fuses with lockFuse := true } }, 2, [1, 2, 3, 4], ?_⟩; decide +kernel,
    by refine ⟨wOpen, ?_⟩; decide +kernel,
    by refine ⟨{ wOpen with mode := .shelf }, ?_⟩; decide +kernel,
    by refine ⟨{ wOpen with mode := .shelf }, ?_⟩; decide +kernel,
    by refine ⟨{ wOpen with mode := .shelf }, ?_⟩; decide +kernel⟩

/-- Witnesses for `Obligations.RecordsAndLifetime`. -/
theorem wit_recordsAndLifetime :
    (∃ s : State, ∃ (e : Event) (l : List Event), s.Canon ∧ s.rcd.queue = e :: l ∧ s.mode ≠ .shelf ∧ severity e.code ≠ 3 ∧ s.rcd.due = none ∧ s.rcd.lost = 0) ∧
    (∃ s : State, ∃ (e : Event) (l : List Event), s.Canon ∧ s.rcd.queue = e :: l ∧ s.mode ≠ .shelf ∧ severity e.code ≠ 3 ∧ s.rcd.due = none ∧ s.rcd.lost ≠ 0 ∧ l.length < 63) ∧
    (∃ s : State, ∃ (e : Event), s.Canon ∧ s.rcd.queue = [e] ∧ s.mode ≠ .shelf ∧ severity e.code = 3 ∧ s.rcd.due = none ∧ s.rcd.lost = 0 ∧ s.rcd.earlyWarned = false ∧ s.rcd.copy = none ∧ s.earlyNow = false) ∧
    (∃ s : State, s.Canon ∧ (s.rcd.queue = [] ∨ s.mode = .shelf)) ∧
    (∃ s : State, s.Canon ∧ s.writable = true ∧ s.rcd.earlyWarned = false ∧ s.rcd.copy = none ∧ s.earlyNow = false) ∧
    (∃ s : State, s.Canon ∧ s.writable = true ∧ s.rcd.earlyWarned = false ∧ (s.rcd.copy.isSome = true ∨ s.earlyNow = true)) ∧
    (∃ s : State, s.Canon ∧ s.writable = true ∧ s.rcd.earlyWarned = true) ∧
    (∃ s : State, ∃ (bad : List Nat), s.Canon ∧ s.writable = true ∧ bad = [] ∧ s.rcd.spares = []) ∧
    (∃ s : State, s.Canon ∧ s.writable = true) ∧
    (∃ s : State, s.Canon ∧ s.writable = false) ∧
    (∃ s : State, s.Canon ∧ s.writable = false) ∧
    (∃ s : State, s.Canon ∧ s.mode ≠ .shelf) ∧
    (∃ s : State, s.Canon ∧ s.mode = .shelf) ∧
    (∃ s : State, ∃ (bad : List Nat), s.Canon ∧ s.mode ≠ .shelf ∧ s.mode ≠ .boot ∧ bad = [] ∧ s.rcd.spares = []) ∧
    (∃ s : State, s.Canon ∧ s.mode ≠ .shelf ∧ s.mode ≠ .boot) ∧
    (∃ s : State, s.Canon ∧ (s.mode = .shelf ∨ s.mode = .boot)) ∧
    (∃ s : State, ∃ (c : Nat), s.Canon ∧ s.writable = true ∧ s.reachedNow = some c) ∧
    (∃ s : State, s.Canon ∧ s.writable = true ∧ s.reachedNow = none) ∧
    (∃ s : State, s.Canon ∧ s.writable = false) :=
  ⟨by refine ⟨({ wLive with rcd := { wLive.rcd with queue := [{ code := 0x0801, ns := 77, args := [1, 2, 3] }] } }.setFld (Reg.LN_TRAIN_STAT 0) 31 28 5).wr Reg.KPR_BB_PTR 65535, { code := 0x0801, ns := 77, args := [1, 2, 3] }, [], ?_⟩; decide +kernel,
    by refine ⟨({ wLive with rcd := { wLive.rcd with queue := [{ code := 0x0801, ns := 77, args := [1, 2, 3] }], lost := 3 } }.setFld (Reg.LN_TRAIN_STAT 0) 31 28 5).wr Reg.KPR_BB_PTR 65535, { code := 0x0801, ns := 77, args := [1, 2, 3] }, [], ?_⟩; decide +kernel,
    by refine ⟨({ wLive with rcd := { wLive.rcd with queue := [{ code := 0x0004, ns := 77, args := [1, 2, 3] }] } }.setFld (Reg.LN_TRAIN_STAT 0) 31 28 5).wr Reg.KPR_BB_PTR 65535, { code := 0x0004, ns := 77, args := [1, 2, 3] }, ?_⟩; decide +kernel,
    by refine ⟨State.reset, ?_⟩; decide +kernel,
    by refine ⟨wTx, ?_⟩; decide +kernel,
    by refine ⟨{ wTx with rcd := { wTx.rcd with copy := some (2, { trigger := 7, mode := 3, image := 0, cause := 0, nEntry := 1, firstSeq := 0, ns := 0, air := 0, quality := 0, version := 0, ltOn := 0, ring := [1, 2, 3] }) } }, ?_⟩; decide +kernel,
    by refine ⟨{ wTx with rcd := { wTx.rcd with earlyWarned := true } }, ?_⟩; decide +kernel,
    by refine ⟨wTx, [], ?_⟩; decide +kernel,
    by refine ⟨wTx, ?_⟩; decide +kernel,
    by refine ⟨State.reset, ?_⟩; decide +kernel,
    by refine ⟨State.reset, ?_⟩; decide +kernel,
    by refine ⟨{ wTx with hka := { wTx.hka with sensors := wTx.hka.sensors.set 21 { wTx.hka.sensors[21] with lastValid := some 1400 } } }, ?_⟩; decide +kernel,
    by refine ⟨{ wOpen with mode := .shelf }, ?_⟩; decide +kernel,
    by refine ⟨wTx, [], ?_⟩; decide +kernel,
    by refine ⟨wTx, ?_⟩; decide +kernel,
    by refine ⟨State.reset, ?_⟩; decide +kernel,
    by refine ⟨{ wOpen with rcd := { wOpen.rcd with reached := some (wOpen.now, 0x0801) } }, 0x0801, ?_⟩; decide +kernel,
    by refine ⟨wOpen.setBit Reg.KPR_FAULT_STAT 30 true, ?_⟩; decide +kernel,
    by refine ⟨State.reset, ?_⟩; decide +kernel⟩

/-- Witnesses for `Obligations.RegisterAccess`. -/
theorem wit_registerAccess :
    (∃ s : State, ∃ (a0 : Word) (w : Word) (e : WriteEnv), s.Canon ∧ s.writable = true ∧ mapped a0.toNat = true ∧ instOf (Reg.RXP_OBS_ROUTE 0) 0x10000 9 a0.toNat = none ∧ s.hook a0.toNat w e = none) ∧
    (∃ s : State, ∃ (a0 : Word), s.Canon ∧ (s.writable = false ∨ mapped a0.toNat = false)) ∧
    (∃ s : State, s.Canon ∧ s.writable = true) ∧
    (∃ s : State, s.Canon ∧ s.writable = false) ∧
    (∃ s : State, s.Canon ∧ s.mode ≠ .shelf) ∧
    (∃ s : State, s.Canon ∧ s.mode = .shelf) ∧
    (∃ s : State, ∃ (w : Word), s.Canon ∧ s.writable = true ∧ fldOf w 2 0 = 1) ∧
    (∃ s : State, ∃ (w : Word), s.Canon ∧ s.writable = true ∧ fldOf w 2 0 = 2) ∧
    (∃ s : State, ∃ (w : Word), s.Canon ∧ s.writable = true ∧ fldOf w 2 0 = 3) ∧
    (∃ s : State, ∃ (w : Word), s.Canon ∧ s.writable = true ∧ fldOf w 2 0 = 4) ∧
    (∃ s : State, ∃ (w : Word), s.Canon ∧ s.writable = true ∧ fldOf w 2 0 = 5) ∧
    (∃ s : State, s.Canon) ∧
    (∃ s : State, ∃ (w : Word), s.Canon ∧ bitOf w.toNat 31 = true ∧ bitOf w.toNat 0 = false) ∧
    (∃ s : State, ∃ (w : Word), s.Canon ∧ bitOf w.toNat 31 = true ∧ bitOf w.toNat 0 = true) ∧
    (∃ s : State, ∃ (w : Word), s.Canon ∧ fldOf w 1 0 = 1) ∧
    (∃ s : State, ∃ (w : Word), s.Canon ∧ fldOf w 1 0 = 2) ∧
    (∃ s : State, ∃ (w : Word), s.Canon ∧ bitOf w.toNat 31 = true ∧ fldOf w 7 0 = 0) ∧
    (∃ s : State, ∃ (w : Word), s.Canon ∧ bitOf w.toNat 31 = false) ∧
    (∃ s : State, ∃ (w : Word), s.Canon ∧ bitOf w.toNat 30 = true) ∧
    (∃ s : State, ∃ (w : Word), s.Canon ∧ bitOf w.toNat 0 = true) ∧
    (∃ s : State, s.Canon) ∧
    (∃ s : State, ∃ (w : Word), s.Canon ∧ bitOf w.toNat 31 = true) ∧
    (∃ s : State, ∃ (w : Word), s.Canon ∧ bitOf w.toNat 31 = true) ∧
    (∃ s : State, s.Canon) ∧
    (∃ s : State, ∃ (w : Word), s.Canon ∧ bitOf w.toNat 31 = true) ∧
    (∃ s : State, s.Canon) ∧
    (∃ s : State, s.Canon) ∧
    (∃ s : State, ∃ (w : Word), s.Canon ∧ bitOf w.toNat 31 = true) ∧
    (∃ s : State, s.Canon) ∧
    (∃ s : State, s.Canon) ∧
    (∃ s : State, s.Canon) ∧
    (∃ s : State, s.Canon) ∧
    (∃ s : State, s.Canon) ∧
    (∃ s : State, s.Canon) ∧
    (∃ s : State, ∃ (w : Word), s.Canon ∧ bitOf w.toNat 0 = true) ∧
    (∃ s : State, s.Canon) ∧
    (∃ s : State, s.Canon) ∧
    (∃ s : State, s.Canon) ∧
    (∃ s : State, s.Canon) ∧
    (∃ s : State, s.Canon) ∧
    (∃ s : State, s.Canon) ∧
    (∃ s : State, s.Canon) ∧
    (∃ s : State, s.Canon) ∧
    (∃ s : State, ∃ (w : Word), s.Canon ∧ fldOf w 24 24 = 0 ∧ fldOf w 15 8 = 0) ∧
    (∃ s : State, s.Canon) ∧
    (∃ s : State, ∃ (w : Word), s.Canon ∧ fldOf w 1 0 = 1) ∧
    (∃ s : State, ∃ (w : Word), s.Canon ∧ bitOf w.toNat 1 = true) ∧
    (∃ s : State, s.Canon) ∧
    (∃ s : State, s.Canon) ∧
    (∃ s : State, s.Canon) ∧
    (∃ s : State, s.Canon) ∧
    (∃ s : State, s.Canon) ∧
    (∃ s : State, s.Canon ∧ s.writable = true) ∧
    (∃ s : State, s.Canon ∧ s.writable = true) ∧
    (∃ s : State, s.Canon ∧ s.writable = true) ∧
    (∃ s : State, ∃ (sp : Fin 32), s.Canon ∧ s.writable = true ∧ hostSpool sp = false) ∧
    (∃ s : State, s.Canon ∧ s.writable = true) :=
  ⟨by refine ⟨wOpen, (Reg.TIM_INCR_FRAC), 0x12345678, ⟨⟨1, 2, true, Vector.replicate 4 none, [], false, true, true, #v[true, true], 5, 600, Vector.replicate 9 (0, 0)⟩, []⟩, ?_⟩; decide +kernel,
    by refine ⟨State.reset, (Reg.TIM_INCR_FRAC), ?_⟩; decide +kernel,
    by refine ⟨(wOpen.wr (Reg.BIA_CLEAR_CNT 3) 0xFFFFFFFF).wr (Reg.KPR_LT 3) 7, ?_⟩; decide +kernel,
    by refine ⟨State.reset, ?_⟩; decide +kernel,
    by refine ⟨wOpen.wr (Reg.BLK_STAT_SUM 7) 0x81230000, ?_⟩; decide +kernel,
    by refine ⟨{ wOpen with mode := .shelf }, ?_⟩; decide +kernel,
    by refine ⟨wTx, 1, ?_⟩; decide +kernel,
    by refine ⟨wTx, 2, ?_⟩; decide +kernel,
    by refine ⟨wTx, 3, ?_⟩; decide +kernel,
    by refine ⟨wTx, 4, ?_⟩; decide +kernel,
    by refine ⟨wTx, 5, ?_⟩; decide +kernel,
    by refine ⟨wTx, ?_⟩; decide +kernel,
    by refine ⟨wTx, 0x80000000, ?_⟩; decide +kernel,
    by refine ⟨wTx, 0x80000001, ?_⟩; decide +kernel,
    by refine ⟨wTx, 1, ?_⟩; decide +kernel,
    by refine ⟨wTx, 2, ?_⟩; decide +kernel,
    by refine ⟨wTx, 0x80000000, ?_⟩; decide +kernel,
    by refine ⟨wTx, 5, ?_⟩; decide +kernel,
    by refine ⟨wTx, 0x40000000, ?_⟩; decide +kernel,
    by refine ⟨wTx, 0x80000001, ?_⟩; decide +kernel,
    by refine ⟨wTx, ?_⟩; decide +kernel,
    by refine ⟨wTx, 0x80000001, ?_⟩; decide +kernel,
    by refine ⟨wTx, 0x80000001, ?_⟩; decide +kernel,
    by refine ⟨wTx, ?_⟩; decide +kernel,
    by refine ⟨wTx, 0x80000001, ?_⟩; decide +kernel,
    by refine ⟨wTx, ?_⟩; decide +kernel,
    by refine ⟨wTx, ?_⟩; decide +kernel,
    by refine ⟨wTx, 0x80000001, ?_⟩; decide +kernel,
    by refine ⟨wTx, ?_⟩; decide +kernel,
    by refine ⟨wTx, ?_⟩; decide +kernel,
    by refine ⟨wTx, ?_⟩; decide +kernel,
    by refine ⟨wTx, ?_⟩; decide +kernel,
    by refine ⟨wTx, ?_⟩; decide +kernel,
    by refine ⟨wTx, ?_⟩; decide +kernel,
    by refine ⟨wTx, 0x80000001, ?_⟩; decide +kernel,
    by refine ⟨wTx, ?_⟩; decide +kernel,
    by refine ⟨wTx, ?_⟩; decide +kernel,
    by refine ⟨wTx, ?_⟩; decide +kernel,
    by refine ⟨wTx, ?_⟩; decide +kernel,
    by refine ⟨wTx, ?_⟩; decide +kernel,
    by refine ⟨wTx, ?_⟩; decide +kernel,
    by refine ⟨wTx, ?_⟩; decide +kernel,
    by refine ⟨wTx, ?_⟩; decide +kernel,
    by refine ⟨wTx, 0x80000000, ?_⟩; decide +kernel,
    by refine ⟨wTx, ?_⟩; decide +kernel,
    by refine ⟨wTx, 1, ?_⟩; decide +kernel,
    by refine ⟨wTx, 3, ?_⟩; decide +kernel,
    by refine ⟨wTx, ?_⟩; decide +kernel,
    by refine ⟨wTx, ?_⟩; decide +kernel,
    by refine ⟨wTx, ?_⟩; decide +kernel,
    by refine ⟨wTx, ?_⟩; decide +kernel,
    by refine ⟨wTx, ?_⟩; decide +kernel,
    by refine ⟨wTx, ?_⟩; decide +kernel,
    by refine ⟨wTx, ?_⟩; decide +kernel,
    by refine ⟨wTx, ?_⟩; decide +kernel,
    by refine ⟨wTx, 3, ?_⟩; decide +kernel,
    by refine ⟨wTx, ?_⟩; decide +kernel⟩

/-- Witnesses for `Obligations.TimNsReadLatchesFraction`. -/
theorem wit_timNsReadLatchesFraction :
    (∃ s : State, s.Canon) :=
  by refine ⟨{ State.reset with tns := 12345678901234 }, ?_⟩; decide +kernel

/-- Witnesses for `Obligations.StatSumCountsEveryEvent`. -/
theorem wit_statSumCountsEveryEvent :
    (∃ s : State, s.Canon ∧ s.mode ≠ .shelf) :=
  by refine ⟨wOpen.wr (Reg.BLK_STAT_SUM 7) 0x81230000, ?_⟩; decide +kernel

end

end Sys2Proof.Tests
end

