-- ==== Sys2Proof/Tests/Slice0.lean ====
section
/-! SUPPORT. The model's own tests: the smoke test of well-formedness, the spec's worked examples, and single commands on small states. -/

open Sys2Proof Sys2Proof.Machine

namespace Sys2Proof.Tests

/-! As in Witness.lean, each check by the kernel is awaited in turn. -/

section
set_option Elab.async false

/-- The state after a command; the state itself where the command is refused. -/
def after (c : Instr) (s : State) : State := match exec c s with | .next t => t | _ => s

/-! ### Well-formedness -/

/-- An FFT with samples of one path only, a capture of no samples, a DRAM write whose bytes do not fill it and lanes with different numbers of
words are ill-formed. -/
theorem test_illFormed_operands :
    (Instr.fftComplete a0 [[]]).wellFormed = false ∧ (Instr.dpdCaptureEnd 3 []).wellFormed = false ∧
      (Instr.dramRequest 0 [{ cls := 1, addr := 0, n := 2, data := some [7], spool := 63 }] []).wellFormed = false ∧
      (Instr.parcelReceive .up ((Vector.replicate 9 []).set 3 [⟨1, 0, false⟩, ⟨1, 0, false⟩] |>.set 4 [⟨1, 0, false⟩]) ⟨0⟩ []).wellFormed = false := by decide

/-- Operands of the form that the spec gives them are well-formed. -/
theorem test_wellFormed_operands :
    (Instr.fftComplete a0 (List.replicate 64 [])).wellFormed = true ∧
      (Instr.dramRequest 0 [{ cls := 1, addr := 0, n := 1, data := some [7], spool := 63 }] []).wellFormed = true ∧
      (Instr.safeNAssert).wellFormed = true := by decide

/-- Eight entries that sum to 16384 have unit gain, a table of zeros has not (R288). -/
theorem test_unit_gain : unitGain (Vector.replicate 520 0x08000000) = true ∧ unitGain (Vector.replicate 520 0) = false := by decide +kernel

/-! ### Worked examples of the spec -/

/-- Scope and Orientation: offset 0x40 of path TX17 lies at 0x09110040. -/
theorem test_register_address : Reg.TXP_SAT_CNT 17 = 0x09110040 := by decide

/-- Air Time: the last D symbol (slot 6, symbol 5) ends at 3214.583 µs, and slot 7, symbol 0 starts 13.021 µs before 3500 µs at RXIN. -/
theorem test_symbol_instants : (symPos ⟨0, 6, 6⟩ * 1000000 / 122880 = 3214583) ∧ ((symPos ⟨0, 7, 0⟩ - 1600) * 1000000 / 122880 = 3486979) := by
  decide

/-- R81: ten windows in the CP of symbol 0, eight in the others; the peak of a window is its largest part, whatever the sign. -/
theorem test_agc_windows : agcWindows a0 = 10 ∧ agcWindows ⟨0, 1, 5⟩ = 8 ∧ peakOf [(3, -8192), (8191, 0)] = 8192 := by decide

/-- Antenna Paths, one slot-edge settle: 1000 LSB through g_24 = 16 229. -/
theorem test_rx_scale : rxScale (1000 * 2 ^ 48) 16229 = 15849 := by decide

/-- Front End, the phase of one symbol: symbol 3 of an odd slot with N0 = 710 000. -/
theorem test_symbol_phase : bodyStart ⟨0, 1, 3⟩ = 74944 ∧ rotAngle 710000 74944 = 13653 ∧ toBits 16 (-13653) = 0xCAAB := by decide

/-- Beam Matrix, one section from a last: slots 1034 and 1035, and column (25, 4). -/
theorem test_last_addresses :
    let s := State.reset.wr Reg.BMX_LAST_BASE 0x40000000
    s.slotAddr 517 0 = 0x5A410000 ∧ s.slotAddr 517 1 = 0x5A478000 ∧ s.colAddr { last := 517, version := 1, group := 25, col := 4 } 0 16 = 0x5A429400 := by decide +kernel

/-- Memory, where one weight column lives: channel 1, rank 1, bank group 2, bank 1, row 0x3393. -/
theorem test_dram_place :
    physAddr 0x5A429400 = 0x67278480 ∧ checkAddr 0x5A429400 = 0x672785D0 ∧
      (State.reset.setBit Reg.MEM_CFG 8 true).dramPlace 0x67278480 = (1, 1, 9, 0x3393) := by decide

/-- Bias, a GaN gate: the code loaded at 85 °C. -/
theorem test_bias_tracking : trackedCode 49152 (-9321) 1360 400 0 65535 = 46967 := by decide

/-- Thermal: a reading that hovers at warn 95.0 °C with H = 3.0 and D = 4 enters at the fourth reading above it. -/
theorem test_threshold_hover :
    let f := fun x v => thrStep x false v 1520 48 4
    let x := [1523, 1526, 1520, 1525, 1528, 1530].foldl f {}
    x = { enter := 3 } ∧ f x 1533 = { entered := true } ∧ f (f x 1533) 1472 = { entered := true } := by decide

/-- Network Time: with the reset increment three ticks add three times 3125/3072 ns. -/
theorem test_three_ticks : (State.reset.tick.tick.tick).tns = 3125 * 2 ^ 22 ∧ State.reset.tick.now = 1 := by decide

/-- Network Time, alignment across a wrap: the arm 50 000 000 ns ahead is accepted. -/
theorem test_epoch_arm :
    let s := ({ wOpen with tns := 4150000000 * 2 ^ 32 }.wr Reg.TIM_EPOCH_NS 0xFA56EA00)
    (after .epochArm s).bit Reg.TIM_EPOCH_CTRL 31 = true ∧ (after .epochArm s).tim.epochD = 50000000 := by decide

/-- Management Address Space, following an alert: DPD_STAT_SUM and KPR_SUM_MAP after event 0x0D01, and after the read. -/
theorem test_following_an_alert :
    let s := wOpen.raise 0x0D01 []
    s.rd (Reg.BLK_STAT_SUM 13) = 0x81010001 ∧ s.view Reg.KPR_SUM_MAP = some 0x2000 ∧
      (after (.statSumRead 13) s).view Reg.KPR_SUM_MAP = some 0 := by decide +kernel

/-- R397: the check value of CRC-32 over the digits 1 to 9. -/
theorem test_crc32 : crc32 [0x31, 0x32, 0x33, 0x34, 0x35, 0x36, 0x37, 0x38, 0x39] = 0xCBF43926 := by decide +kernel

/-- Boot: the bytes of one slot of a PATTERN record, six D symbols, GUARD, six KITE, GUARD. -/
theorem test_pattern_slot :
    (parsePattern ([1, 0, 0, 0, 0, 0, 0, 0].take 4 ++ [0x00, 0x00, 0x00, 0x89, 0x99, 0x99, 0x98])).map (·.1.syms)
      = some [0, 0, 0, 0, 0, 0, 8, 9, 9, 9, 9, 9, 9, 8] := by decide

/-- Pins and Supplies, finding a ball: path 50 at W1, TXOUT50_P; LUP_TX4_P; BIAS40; TD7_P; PAEN12. -/
theorem test_balls :
    ballAt 36 1 = .tx 50 false ∧ ballAt 7 22 = .lane true false 4 false ∧ ballAt 32 20 = .bias 40 ∧ ballAt 35 32 = .diode 7 false ∧
      ballAt 35 5 = .paen 12 := by decide

/-! ### Single commands -/

/-- A step performs the oldest command: SAFE_N low in SERVICE enters SAFE with cause PIN (R572). -/
theorem test_step_runs_the_oldest :
    (match step { wLive with pins := { wLive.pins with resetN := true }, pending := [.safeNAssert, .safeNRelease] } with
      | .next t => t.mode == .safe && t.fld Reg.KPR_SAFE_CAUSE 5 0 == 4 && t.pending == [.safeNRelease] && !t.pins.safeN
      | _ => false) = true := by decide +kernel

/-- go_live in SAFE is refused and counted (R567). -/
theorem test_goLive_refused :
    let s := { wOpen with mode := .safe }
    (after .goLive s).mode = .safe ∧ (after .goLive s).rd Reg.KPR_MODE_REFUSE_CNT = 1 := by decide

/-- A write to a read-only register changes nothing; one to an rw register does (R607). -/
theorem test_register_write :
    let e : WriteEnv := ⟨⟨0, 0, false, Vector.replicate 4 none, [], false, true, true, #v[true, true], 0, 0, Vector.replicate 9 (0, 0)⟩, []⟩
    (after (.registerWrite (BitVec.ofNat 32 Reg.SYN_LO) 5 e) wOpen).rd Reg.SYN_LO = 0 ∧
      (after (.registerWrite (BitVec.ofNat 32 Reg.TIM_INCR_FRAC) 5 e) wOpen).rd Reg.TIM_INCR_FRAC = 5 := by decide +kernel

/-- CNT_CLR clears a counter of the block and leaves the lifetime counters (R612). -/
theorem test_cntClr_spares_lifetime :
    let s := (wOpen.wr Reg.KPR_MODE_REFUSE_CNT 7).wr (Reg.KPR_LT 12) 3
    (after (.cntClrWrite 0) s).rd Reg.KPR_MODE_REFUSE_CNT = 0 ∧ (after (.cntClrWrite 0) s).rd (Reg.KPR_LT 12) = 3 := by decide +kernel

/-- A counter stays at its end (R9). -/
theorem test_counter_saturates : ((wOpen.wr Reg.KPR_MODE_REFUSE_CNT 0xFFFFFFFF).bump Reg.KPR_MODE_REFUSE_CNT).rd Reg.KPR_MODE_REFUSE_CNT
    = 0xFFFFFFFF := by decide

/-- Before writes open a write has no effect (R609). -/
theorem test_write_in_boot : after .timAdjStep State.reset = State.reset := rfl

/-- LEASE_REQ of the service port takes the free lease, and SVC_LEASE_REL frees it (R421). -/
theorem test_service_lease :
    (after .svcLeaseReq wOpen).holder = some 2 ∧ (after .svcLeaseRel (after .svcLeaseReq wOpen)).holder = none := by decide +kernel

/-- An attenuation written in READY takes effect at once, and 31.75 dB is the largest code (R69). -/
theorem test_atten_write : ((after (.attenWrite 9 127) wOpen).paths[9]).atten = 127 ∧
    (after (.attenWrite 9 127) wOpen).fld (Reg.TXP_ATTEN 9) 6 0 = 127 := by decide +kernel

/-- The pin of the bias clear is counted and recorded once (R527). -/
theorem test_bias_clear : (after .biasClrAssert (after .biasClrAssert wOpen)).rd Reg.BIA_PIN_CLR_CNT = 1 := by decide +kernel

/-- A lost REFCLK stands in SYN_LOCK_STAT (R114). -/
theorem test_refclk_loss : (after (.refclkLoss true) wOpen).bit Reg.SYN_LOCK_STAT 4 = true := by decide +kernel

/-- A header whose check fails is counted, and nothing else follows (R397, R425). -/
theorem test_bad_header :
    let s := wUp
    (after (.parcelReceive .up (wSets [1, 2, 3]) ⟨0⟩ []) s).rd (Reg.PKT_HDR_ERR_CNT 0) = 1 := by decide +kernel

/-- A descriptor ring's head written past its size is refused and counted (R505). -/
theorem test_spool_head_refused : (after (.spoolHeadWrite 20 9) (wSpl 0 {})).rd (Reg.SPL_REFUSE_CNT 20) = 1 := by decide +kernel

/-- RESET_N clears a counter and keeps KPR_AON and the boot count (R548, R596, R610). -/
theorem test_reset_keeps :
    let s := (wTx.wr Reg.KPR_AON 3).wr Reg.BIA_STROBE_CNT 7
    (after (.resetAssert false) s).mode = .boot ∧ (after (.resetAssert false) s).rd Reg.KPR_AON = 3 ∧ (after (.resetAssert false) s).rd Reg.BIA_STROBE_CNT = 0 ∧
      (after (.resetAssert false) s).rd (Reg.KPR_LT 10) = 1 := by decide +kernel

/-- Supply loss puts the part in SHELF with PWR_REQ low (R567, R575). -/
theorem test_supply_loss : (after (.supplyLoss .vddq 0) wTx).mode = .shelf ∧ (after (.supplyLoss .vddq 0) wTx).pins.pwrReq = false := by
  decide

/-! ### Witnesses for the statements that hold of every state and step -/

/-- Canonical states with no command waiting, one for each clause (`Obligations.IdleStepIsOneTick`): no increment that waits, one that waits, no
strobe and a strobe of a channel, no port in training or test, a frame period over and one that runs, a port in TEST. -/
theorem wit_idleStepIsOneTick :
    (∃ s : State, s.Canon ∧ s.pending = [] ∧ s.tim.incr = none ∧ s.bias[(3 : Fin 80)].strobe = none ∧
      ∀ u : Fin 2, s.portState u ∉ [1, 2, 3, 8]) ∧
    (∃ s : State, s.Canon ∧ s.pending = [] ∧ s.tim.incr = some (1, 5, 2)) ∧
    (∃ s : State, s.Canon ∧ s.pending = [] ∧ s.bias[(3 : Fin 80)].strobe = some true) ∧
    (∃ s : State, s.Canon ∧ s.pending = [] ∧ s.portState 1 ∈ [1, 2, 3] ∧ (s.port 1).frameAt ≤ s.now + 1) ∧
    (∃ s : State, s.Canon ∧ s.pending = [] ∧ s.portState 1 ∈ [1, 2, 3] ∧ s.now + 1 < (s.port 1).frameAt) ∧
    (∃ s : State, ∃ x, s.Canon ∧ s.pending = [] ∧ s.portState 1 = 8 ∧ (s.port 1).test = some x ∧ bitOf x.lanes 8 = true) :=
  ⟨⟨wOpen, by decide +kernel⟩,
    ⟨{ wOpen with tim := { wOpen.tim with incr := some (1, 5, 2) } }, by decide +kernel⟩,
    ⟨wOpen.setBias 3 fun b => { b with strobe := some true }, by decide +kernel⟩,
    ⟨wOpen.setFld (Reg.LN_TRAIN_STAT 1) 31 28 2, by decide +kernel⟩,
    ⟨(wOpen.setFld (Reg.LN_TRAIN_STAT 1) 31 28 3).setPort 1 fun p => { p with frameAt := 512 }, by decide +kernel⟩,
    ⟨(wOpen.setFld (Reg.LN_TRAIN_STAT 1) 31 28 8).setPort 1 fun p => { p with test := some { lanes := 0x1FF, pattern := 2, own := true, left := 0 } }, { lanes := 0x1FF, pattern := 2, own := true, left := 0 },
      by decide +kernel⟩⟩

/-- A step that answers a next state from a canonical one (`Obligations.EveryStepKeepsTheCanonicalForm`). -/
theorem wit_everyStepKeepsTheCanonicalForm : ∃ s t : State, step s = .next t ∧ s.Canon ∧ s.Side :=
  ⟨{ State.reset with pending := [.safeNRelease] }, _, rfl, by decide, by decide⟩

end

end Sys2Proof.Tests
end

namespace Sys2Proof.Machine

/-! ## Frames of the shared operations -/

/-- Any register: the register set of a frame that speaks of the parts alone. -/
abbrev anyReg (_ : Nat) : Prop := True

theorem Part.same.refl (s : State) (p : Part) : p.same s s := by cases p <;> rfl

theorem Part.same.trans {s t u : State} {p : Part} (h : p.same s t) (k : p.same t u) : p.same s u := by
  cases p <;> exact Eq.trans k h

theorem Frame.refl (s : State) (ps : List Part) (rs : Nat → Prop) : Frame s s ps rs :=
  ⟨fun p _ => .refl s p, fun _ _ => rfl⟩

theorem Frame.trans {s t u : State} {ps : List Part} {rs : Nat → Prop} (h : Frame s t ps rs) (k : Frame t u ps rs) :
    Frame s u ps rs :=
  ⟨fun p hp => (h.1 p hp).trans (k.1 p hp), fun a ha => (k.2 a ha).trans (h.2 a ha)⟩

theorem Frame.mono {s t : State} {ps qs : List Part} {rs rs' : Nat → Prop} (h : Frame s t ps rs) (hp : ps ⊆ qs)
    (hr : ∀ a, rs a → rs' a) : Frame s t qs rs' :=
  ⟨fun p hq => h.1 p fun hp' => hq (hp hp'), fun a ha => h.2 a fun ha' => ha (hr a ha')⟩

theorem Frame.any {s t : State} {ps qs : List Part} {rs : Nat → Prop} (h : Frame s t ps rs) (hp : ps ⊆ qs) : Frame s t qs anyReg :=
  h.mono hp fun _ _ => trivial

/-- Two operations one after the other change the parts that either changes. -/
theorem Frame.comp {s t u : State} {ps qs : List Part} {rs rs' : Nat → Prop} (h : Frame s t ps rs) (k : Frame t u qs rs') :
    Frame s u (ps ++ qs) anyReg :=
  (h.any (List.subset_append_left ..)).trans (k.any (List.subset_append_right ..))

/-- A frame goes on over a further operation that stays within it. -/
theorem Frame.step {s t u : State} {ps qs : List Part} {rs rs' : Nat → Prop} (h : Frame s t ps rs) (k : Frame t u qs rs')
    (hp : qs ⊆ ps) (hr : ∀ a, rs' a → rs a) : Frame s u ps rs :=
  h.trans (k.mono hp hr)

/-- A fold stays within a frame when each of its steps does. -/
theorem Frame.foldl {β : Type} {ps : List Part} {rs : Nat → Prop} (f : State → β → State) (hf : ∀ s x, Frame s (f s x) ps rs)
    (l : List β) (s : State) : Frame s (l.foldl f s) ps rs := by
  induction l generalizing s with
  | nil => exact .refl s ps rs
  | cons x l ih => exact (hf s x).trans (ih _)

theorem Frame.ite {s t u : State} {ps : List Part} {rs : Nat → Prop} {c : Prop} [Decidable c] (h : Frame s t ps rs) (k : Frame s u ps rs) :
    Frame s (if c then t else u) ps rs := by
  split
  · exact h
  · exact k

theorem State.wr_frame (s : State) (a : Nat) (w : Word) : Frame s (s.wr a w) [] (· = a) :=
  ⟨fun p _ => by cases p <;> rfl, fun _ h => s.rd_wr_other w h⟩

theorem State.setFld_frame (s : State) (a hi lo v : Nat) : Frame s (s.setFld a hi lo v) [] (· = a) := s.wr_frame a _

theorem State.setBit_frame (s : State) (a i : Nat) (b : Bool) : Frame s (s.setBit a i b) [] (· = a) := s.wr_frame a _

theorem State.bumpBy_frame (s : State) (a n : Nat) : Frame s (s.bumpBy a n) [] (· = a) := s.wr_frame a _

theorem State.bump_frame (s : State) (a : Nat) : Frame s (s.bump a) [] (· = a) := s.wr_frame a _

theorem State.raiseEvent_frame (s : State) (e : Event) : Frame s (s.raiseEvent e) [.rcd] (eventRegs e.code) :=
  ⟨fun p h => by cases p <;> simp [Part.same] at h ⊢, fun _ h => s.rd_raiseEvent_other e h⟩

theorem State.raise_frame (s : State) (c : Nat) (l : List (Nat × Nat)) : Frame s (s.raise c l) [.rcd] (eventRegs c) :=
  s.raiseEvent_frame _

theorem State.raiseEffect_frame (s : State) (c : Nat) (l : List (Nat × Nat)) : Frame s (s.raiseEffect c l) [.rcd] (eventRegs c) :=
  s.raiseEvent_frame _

/-- What changes the records alone is within their frame. -/
theorem Frame.of_rcd (s : State) (x : Records) : Frame s { s with rcd := x } [.rcd] noRegs :=
  ⟨fun p h => by cases p <;> simp [Part.same] at h ⊢, fun _ _ => rfl⟩

/-- What changes the bias channels alone is within their frame. -/
theorem Frame.of_bias (s : State) (x : Vector BiasCh 80) : Frame s { s with bias := x } [.bias] noRegs :=
  ⟨fun p h => by cases p <;> simp [Part.same] at h ⊢, fun _ _ => rfl⟩

/-! ## Tables -/

section
variable {α : Type}

/-- Of a table that keeps the entries of some keys alone, the others read as unlisted. -/
theorem tabGet_filter (d : Nat → α) (p : Nat → Bool) (t : List (Nat × α)) (k : Nat) :
    tabGet d (t.filter fun x => p x.1) k = if p k then tabGet d t k else d k := by
  induction t with
  | nil => simp [tabGet]
  | cons x t ih =>
    obtain ⟨j, v⟩ := x
    rw [List.filter_cons]
    by_cases hj : j = k
    · subst hj
      cases hp : p j <;> simp [tabGet, ih, hp]
    · cases hp : p j <;> simp [tabGet, ih, hj]

variable [DecidableEq α]

theorem lt_of_mem_tabWfFrom (d : Nat → α) {l : Nat} {t : List (Nat × α)} (h : tabWfFrom d (some l) t = true) {x : Nat × α} (hx : x ∈ t) :
    l < x.1 := by
  induction t generalizing l with
  | nil => cases hx
  | cons y t ih =>
    simp only [tabWfFrom, Bool.and_eq_true, decide_eq_true_eq] at h
    rcases List.mem_cons.1 hx with rfl | hx
    · exact h.1.1
    · exact h.1.1.trans (ih h.2 hx)

/-- An entry of a table in canonical form is what its key reads. -/
theorem tabGet_of_mem (d : Nat → α) {lo : Option Nat} {t : List (Nat × α)} (h : tabWfFrom d lo t = true) {k : Nat} {v : α} (hx : (k, v) ∈ t) :
    tabGet d t k = v := by
  induction t generalizing lo with
  | nil => cases hx
  | cons y t ih =>
    obtain ⟨j, w⟩ := y
    obtain ⟨-, -, ht⟩ := (tabWfFrom_cons ..).1 h
    rcases List.mem_cons.1 hx with e | hx
    · cases e; simp [tabGet]
    · have : j ≠ k := (lt_of_mem_tabWfFrom d ht hx).ne
      simp [tabGet, this, ih ht hx]

end

end Sys2Proof.Machine

namespace Sys2Proof.Machine

/-- A frame goes on over a change of parts alone. -/
theorem Frame.part {s t u : State} {ps qs : List Part} {rs : Nat → Prop} (h : Frame s t ps rs) (k : Frame t u qs noRegs)
    (hp : qs ⊆ ps) : Frame s u ps rs :=
  h.trans (k.mono hp fun _ h => h.elim)

/-! ## What the shared operations leave alone

Each frame names the parts that its operation changes; `anyReg` where nothing is said of the registers. -/

section
variable (s : State)

theorem Frame.of_mode (x : Mode) : Frame s { s with mode := x } [.mode] noRegs :=
  ⟨fun p h => by cases p <;> simp [Part.same] at h ⊢, fun _ _ => rfl⟩

theorem Frame.of_paths (x : Vector PathSt 64) : Frame s { s with paths := x } [.paths] noRegs :=
  ⟨fun p h => by cases p <;> simp [Part.same] at h ⊢, fun _ _ => rfl⟩

theorem Frame.of_clk (x : Clocks) : Frame s { s with clk := x } [.clk] noRegs :=
  ⟨fun p h => by cases p <;> simp [Part.same] at h ⊢, fun _ _ => rfl⟩

theorem Frame.of_dpd (x : Dpd) : Frame s { s with dpd := x } [.dpd] noRegs :=
  ⟨fun p h => by cases p <;> simp [Part.same] at h ⊢, fun _ _ => rfl⟩

theorem Frame.of_seq (x : Seq) : Frame s { s with seq := x } [.seq] noRegs :=
  ⟨fun p h => by cases p <;> simp [Part.same] at h ⊢, fun _ _ => rfl⟩

theorem Frame.of_hka (x : Hka) : Frame s { s with hka := x } [.hka] noRegs :=
  ⟨fun p h => by cases p <;> simp [Part.same] at h ⊢, fun _ _ => rfl⟩

theorem Frame.of_kpr (x : Keeper) : Frame s { s with kpr := x } [.kpr] noRegs :=
  ⟨fun p h => by cases p <;> simp [Part.same] at h ⊢, fun _ _ => rfl⟩

theorem Frame.of_pins (x : Pins) : Frame s { s with pins := x } [.pins] noRegs :=
  ⟨fun p h => by cases p <;> simp [Part.same] at h ⊢, fun _ _ => rfl⟩

theorem Frame.of_fuses (x : Fuses) : Frame s { s with fuses := x } [.fuses] noRegs :=
  ⟨fun p h => by cases p <;> simp [Part.same] at h ⊢, fun _ _ => rfl⟩

theorem Frame.of_tim (x : Tim) : Frame s { s with tim := x } [.tim] noRegs :=
  ⟨fun p h => by cases p <;> simp [Part.same] at h ⊢, fun _ _ => rfl⟩

theorem Frame.of_dfe (x : Dfe) : Frame s { s with dfe := x } [.dfe] noRegs :=
  ⟨fun p h => by cases p <;> simp [Part.same] at h ⊢, fun _ _ => rfl⟩

theorem Frame.of_pkt (x : Pkt) : Frame s { s with pkt := x } [.pkt] noRegs :=
  ⟨fun p h => by cases p <;> simp [Part.same] at h ⊢, fun _ _ => rfl⟩

theorem Frame.of_mem (x : Mem) : Frame s { s with mem := x } [.mem] noRegs :=
  ⟨fun p h => by cases p <;> simp [Part.same] at h ⊢, fun _ _ => rfl⟩

theorem Frame.of_flash (x : List (Nat × Byte)) : Frame s { s with flash := x } [.flash] noRegs :=
  ⟨fun p h => by cases p <;> simp [Part.same] at h ⊢, fun _ _ => rfl⟩

theorem Frame.of_freeIdx (x : Nat) : Frame s { s with freeIdx := x } [.freeIdx] noRegs :=
  ⟨fun p h => by cases p <;> simp [Part.same] at h ⊢, fun _ _ => rfl⟩

/-! ### Bias channels -/

theorem State.biasHold_frame (c : Fin 80) (i : Nat) : Frame s (s.biasHold c i) [.bias] (arr 80 Reg.BIA_CLEAR_CNT) := by
  unfold State.biasHold
  refine Frame.step ?_ (Frame.of_bias _ _) (by decide) (fun _ h => h.elim)
  exact Frame.ite ((s.bump_frame _).mono (by decide) (fun a h => ⟨c, c.isLt, h⟩)) (.refl ..)

theorem State.biasApply_frame (i : Nat) : Frame s (s.biasApply i) [.bias] (arr 80 Reg.BIA_CLEAR_CNT) :=
  Frame.foldl _ (fun s c => Frame.ite (s.biasHold_frame c i) (.refl ..)) _ s

theorem State.quadBiasHold_frame (q : Fin 16) : Frame s (s.quadBiasHold q) [.bias] (arr 80 Reg.BIA_CLEAR_CNT) :=
  Frame.foldl _ (fun s c => Frame.ite (s.biasHold_frame c 3) (.refl ..)) _ s

theorem State.loadBias_frame (c : Fin 80) : Frame s (s.loadBias c) [.bias] noRegs := Frame.of_bias _ _

/-! ### Quads -/

theorem State.judgeAfresh_frame (p : Fin 64) : Frame s (s.judgeAfresh p) [.dpd] noRegs :=
  ((Frame.refl s _ _).step (Frame.of_dpd _ _) (by decide) (fun _ h => h)).step (Frame.of_dpd _ _) (by decide) (fun _ h => h)

theorem State.unmute_frame (p : Fin 64) : Frame s (s.unmute p) [.dpd] anyReg :=
  ((State.setBit_frame _ _ _ _).comp (Frame.of_dpd _ _)).any (by decide)

theorem State.guardOff_frame (p : Fin 64) : Frame s (s.guardOff p) [.dpd] anyReg :=
  (((Frame.of_dpd _ _).comp (State.judgeAfresh_frame _ p)).comp (State.unmute_frame _ p)).any (by decide)

theorem State.enterFalling_frame (q : Fin 16) : Frame s (s.enterFalling q) [.paths, .dpd, .seq, .bias] anyReg :=
  (((Frame.of_seq _ _).comp (Frame.foldl (ps := [.paths, .dpd]) (rs := anyReg) _
      (fun s p => ((Frame.of_paths _ _).comp (State.guardOff_frame _ p)).any (by decide)) _ _)).comp (State.quadBiasHold_frame _ q)).any (by decide)

theorem State.deferQuad_frame (q : Fin 16) (up job : Bool) : Frame s (s.deferQuad q up job) [.seq] anyReg :=
  ((s.bump_frame _).comp (Frame.of_seq _ _)).any (by decide)

theorem State.powerUpQuad_frame (q : Fin 16) (job : Bool) : Frame s (s.powerUpQuad q job) [.seq] anyReg := by
  unfold State.powerUpQuad
  dsimp only
  split
  case h_2 => exact s.deferQuad_frame q _ _
  all_goals exact (Frame.of_seq s _).any (by decide)

theorem State.powerDownQuad_frame (q : Fin 16) : Frame s (s.powerDownQuad q) [.paths, .dpd, .seq, .bias] anyReg := by
  unfold State.powerDownQuad
  dsimp only
  split
  · exact .refl ..
  · exact (Frame.of_seq s _).any (by decide)
  · exact (s.deferQuad_frame q _ _).any (by decide)
  · exact (s.deferQuad_frame q _ _).any (by decide)
  · exact s.enterFalling_frame q
  · exact s.enterFalling_frame q

theorem State.dropQuad_frame (q : Fin 16) : Frame s (s.dropQuad q) [.paths, .dpd, .seq, .bias] anyReg := by
  unfold State.dropQuad
  dsimp only
  split
  · exact .refl ..
  · exact (Frame.of_seq s _).any (by decide)
  · exact (s.deferQuad_frame q _ _).any (by decide)
  all_goals exact s.enterFalling_frame q

theorem State.enterReceive_frame (q : Fin 16) : Frame s (s.enterReceive q) [.paths, .seq] noRegs :=
  ((Frame.refl s _ _).step (Frame.of_seq _ _) (by decide) (fun _ h => h)).step
    (Frame.foldl (ps := [.paths]) (rs := noRegs) _ (fun s _ => Frame.of_paths s _) _ _) (by decide) (fun _ h => h)
/-! ### Calibration jobs -/

theorem State.calResult_frame (kind result noPair : Nat) : Frame s (s.calResult kind result noPair) [] (· = Reg.SEQ_CAL_STAT) :=
  (((s.setBit_frame _ _ _).trans (State.setFld_frame _ _ _ _ _)).trans (State.setFld_frame _ _ _ _ _)).trans (State.setFld_frame _ _ _ _ _)

theorem State.obsRelease_frame (k : Nat) : Frame s (s.obsRelease k) [] (· = Reg.RXP_OBS_ROUTE k) :=
  ((s.setFld_frame _ _ _ _).trans (State.setFld_frame _ _ _ _ _)).trans (State.setBit_frame _ _ _ _)

theorem State.calFreesAll_frame : Frame s s.calFreesAll [] (arr 9 Reg.RXP_OBS_ROUTE) := by
  unfold State.calFreesAll
  generalize hl : List.range 9 = l
  have hlt : ∀ k ∈ l, k < 9 := fun k hk => List.mem_range.1 (hl ▸ hk)
  clear hl
  induction l generalizing s with
  | nil => exact .refl ..
  | cons k l ih =>
    refine Frame.trans ?_ (ih _ fun j hj => hlt j (List.mem_cons_of_mem _ hj))
    exact Frame.ite ((s.obsRelease_frame k).mono (by decide) (fun a h => ⟨k, hlt k List.mem_cons_self, h⟩)) (.refl ..)

theorem State.toneEnd_frame (p : Fin 64) (amp n : Nat) : Frame s (s.toneEnd p amp n) [.freeIdx] anyReg :=
  Frame.ite (.refl ..) (((Frame.of_freeIdx _ _).comp (State.bumpBy_frame _ _ _)).any (by decide))

theorem State.endCouplerTx_frame : Frame s s.endCouplerTx [.paths, .dpd, .seq, .freeIdx] anyReg := by
  unfold State.endCouplerTx
  split
  · exact .refl ..
  · exact (((((((Frame.of_seq _ _).comp (Frame.of_paths _ _)).comp (State.toneEnd_frame _ _ _ _)).comp (Frame.of_dpd _ _)).comp
      (State.judgeAfresh_frame _ _)).comp (Frame.foldl (ps := [.dpd]) (rs := anyReg) _ (fun s p => s.unmute_frame p) _ _)).comp
      (Frame.of_seq _ _)).any (by decide)

theorem State.jobQuadBack_frame (q : Fin 16) : Frame s (s.jobQuadBack q) [.paths, .dpd, .seq, .bias] anyReg := by
  have h : Frame s (s.setQuad q fun x => { x with quadOut := false }) [.paths, .dpd, .seq, .bias] anyReg := (Frame.of_seq s _).any (by decide)
  unfold State.jobQuadBack
  dsimp only
  split
  · exact Frame.ite ((h.comp (State.enterReceive_frame _ q)).any (by decide)) ((h.comp (State.enterFalling_frame _ q)).any (by decide))
  · exact Frame.ite (Frame.ite ((h.comp (Frame.of_seq _ _)).any (by decide)) ((h.comp (State.powerDownQuad_frame _ q)).any (by decide))) h
  · exact Frame.ite ((h.comp (State.powerUpQuad_frame _ q _)).any (by decide)) (Frame.ite ((h.comp (Frame.of_seq _ _)).any (by decide)) h)
  · exact h

theorem State.endBurstPa_frame : Frame s s.endBurstPa [.seq] noRegs := by
  unfold State.endBurstPa
  split
  · exact Frame.of_seq s _
  · exact .refl ..

theorem State.jobQuadsBack_frame : Frame s s.jobQuadsBack [.paths, .dpd, .seq, .bias, .freeIdx] anyReg := by
  unfold State.jobQuadsBack
  extract_lets t1 t2 x t3 t4
  have h3 : Frame s t3 [.paths, .dpd, .seq, .bias, .freeIdx] anyReg :=
    (((s.endCouplerTx_frame.comp
      (Frame.foldl (ps := [.paths, .dpd, .seq, .bias]) (rs := anyReg) _ (fun s q => s.jobQuadBack_frame q) _ _)).comp
      (State.endBurstPa_frame _)).comp (Frame.of_seq _ _)).any (by decide)
  exact (((Frame.ite h3 ((h3.comp t3.calFreesAll_frame).any (by decide))).comp (State.biasApply_frame _ 2)).comp
    (State.biasApply_frame _ 3)).any (by decide)

theorem State.abortJob_frame (cause : Nat) : Frame s (s.abortJob cause) [.paths, .dpd, .seq, .bias, .rcd, .freeIdx] anyReg := by
  unfold State.abortJob
  split
  · exact .refl ..
  · exact (((((Frame.of_seq _ _).comp (State.calResult_frame _ _ _ _)).comp (State.bump_frame _ _)).comp
      (State.jobQuadsBack_frame _)).comp (State.raiseEffect_frame _ _ _)).any (by decide)

/-! ### Modes -/

theorem State.alignRefused_frame (d : Nat) :
    Frame s (s.alignRefused d) [.rcd] (fun a => a = Reg.TIM_ALIGN_REFUSE_CNT ∨ eventRegs 0x0104 a) :=
  ((Frame.refl s _ _).step (s.bump_frame _) (by decide) (fun _ h => .inl h)).step (State.raiseEffect_frame _ _ _) (by decide) (fun _ h => .inr h)

/-- The registers that a cancelled alignment may change (R123, R450). -/
def alignRegs (a : Nat) : Prop := a = Reg.TIM_EPOCH_CTRL ∨ a = Reg.SYN_ALIGN ∨ a = Reg.TIM_ALIGN_REFUSE_CNT ∨ eventRegs 0x0104 a

theorem State.cancelAlign_frame : Frame s s.cancelAlign [.rcd, .tim] alignRegs := by
  unfold State.cancelAlign
  extract_lets t1 x t2
  have h1 : Frame s t1 [.rcd, .tim] alignRegs :=
    ((Frame.refl s _ _).step (State.setBit_frame _ _ _ _) (by decide) (fun _ h => .inl h)).step (State.setBit_frame _ _ _ _) (by decide)
      (fun _ h => .inl h)
  have h2 : Frame s t2 [.rcd, .tim] alignRegs :=
    Frame.ite ((h1.part (Frame.of_tim t1 _) (by decide)).step (State.alignRefused_frame _ _) (by decide) (fun _ h => .inr (.inr h))) (.refl ..)
  exact Frame.ite ((h2.step (State.setBit_frame _ _ _ _) (by decide) (fun _ h => .inr (.inl h))).step (State.alignRefused_frame _ _) (by decide)
    (fun _ h => .inr (.inr h))) h2

theorem State.applyAtten_frame (p : Fin 64) : Frame s (s.applyAtten p) [.paths] anyReg := by
  unfold State.applyAtten
  exact ((State.setBit_frame _ _ _ _).comp (Frame.of_paths _ _)).any (by decide)

theorem State.applyBackoff_frame (q : Fin 16) : Frame s (s.applyBackoff q) [] anyReg := by
  unfold State.applyBackoff
  exact (s.setFld_frame _ _ _ _).any (by decide)

theorem State.applyAllAtten_frame : Frame s s.applyAllAtten [.paths] anyReg :=
  ((Frame.foldl _ State.applyAtten_frame (List.finRange 64) s).comp (Frame.foldl _ State.applyBackoff_frame (List.finRange 16) _)).any (by decide)

theorem State.changeMode_frame (m : Mode) : Frame { s with mode := m } (s.changeMode m) [.paths, .bias, .rcd, .tim] anyReg := by
  unfold State.changeMode
  extract_lets old t t1 t2 t3
  have h1 : Frame t t1 [.paths, .bias, .rcd, .tim] anyReg :=
    Frame.ite ((t.applyAllAtten_frame.comp (State.setBit_frame _ _ _ _)).any (by decide)) (.refl ..)
  have h2 : Frame t t2 [.paths, .bias, .rcd, .tim] anyReg := Frame.ite ((h1.comp t1.calFreesAll_frame).any (by decide)) h1
  have h3 : Frame t t3 [.paths, .bias, .rcd, .tim] anyReg := Frame.ite ((h2.comp t2.cancelAlign_frame).any (by decide)) h2
  split
  · exact (h3.comp (t3.biasApply_frame 2)).any (by decide)
  · exact (h3.comp (t3.biasApply_frame 2)).any (by decide)
  · exact (h3.comp (t3.biasApply_frame 1)).any (by decide)
  · exact h3

theorem State.changeMode_mode (m : Mode) : (s.changeMode m).mode = m := (s.changeMode_frame m).1 .mode (by decide)

theorem State.setMode_mode (m : Mode) : (s.setMode m).mode = m := by
  unfold State.setMode
  split
  · assumption
  · exact State.changeMode_mode _ m

theorem Frame.of_seq_kpr (x : Seq) (y : Keeper) : Frame s { s with seq := x, kpr := y } [.seq, .kpr] noRegs :=
  ⟨fun p h => by cases p <;> simp [Part.same] at h ⊢, fun _ _ => rfl⟩

end
end Sys2Proof.Machine

namespace Sys2Proof.Machine

/-! ### Memory: a command's own accesses change memory, the registers of the checks, the events and the free values -/

/-- The parts that an access of memory may change. -/
abbrev memParts : List Part := [.mem, .rcd, .freeIdx]

section
variable (s : State)

theorem State.setMark_frame (k : Nat) (m : Mark) : Frame s (s.setMark k m) memParts anyReg := (Frame.of_mem s _).any (by decide)

theorem State.memPuts_frame (a : Nat) (bs : List Byte) : Frame s (s.memPuts a bs) [.mem] noRegs := by
  induction bs generalizing s a with
  | nil => exact .refl ..
  | cons b t ih => exact (Frame.of_mem s _).trans (ih _ _)

theorem State.checkUnit_frame (k c p : Nat) : Frame s (s.checkUnit k c p).2 memParts anyReg := by
  unfold State.checkUnit
  dsimp only
  split
  · exact .refl ..
  · exact ((s.setMark_frame _ _).comp (State.bump_frame _ _)).any (by decide)
  · have h : ∀ a b v w, Frame s (((s.bump a).wr b v).wr Reg.MEM_ERR_STAT w) memParts anyReg := fun a b v w =>
      (((s.bump_frame a).comp (State.wr_frame _ b v)).comp (State.wr_frame _ _ w)).any (by decide)
    split
    · exact ((h ..).comp (State.raise_frame _ _ _)).any (by decide)
    · exact ((h ..).comp (State.raise_frame _ _ _)).any (by decide)

theorem State.checkUnits_frame (ks : List Nat) (c p : Nat) : Frame s (s.checkUnits ks c p).2 memParts anyReg := by
  unfold State.checkUnits
  generalize false = b
  induction ks generalizing s b with
  | nil => exact .refl ..
  | cons k t ih => exact (s.checkUnit_frame k c p).trans (ih _ _)

theorem State.memTake_frame (a n : Nat) : Frame s (s.memTake a n).2 memParts anyReg := by
  induction n generalizing s a with
  | zero => exact .refl ..
  | succ n ih =>
    unfold State.memTake
    split
    · exact ((Frame.of_freeIdx s _).any (by decide)).trans (ih _ _)
    · exact ih _ _

theorem State.readUnits_frame (a n c p : Nat) : Frame s (s.readUnits a n c p).2 memParts anyReg :=
  (s.checkUnits_frame _ c p).trans (State.memTake_frame _ a n)

theorem State.writeUnit_frame (whole poison : Bool) (k c p : Nat) : Frame s (s.writeUnit whole poison k c p) memParts anyReg := by
  have h := s.checkUnit_frame k c p
  unfold State.writeUnit
  dsimp only
  split
  · exact s.setMark_frame _ _
  · split
    · exact h
    · split
      · exact (((h.part (State.memPuts_frame _ _ _) (by decide)).trans (State.setMark_frame _ _ _)).comp (State.bump_frame _ _)).any (by decide)
      · exact Frame.ite (h.trans (State.setMark_frame _ _ _)) h

theorem State.writeUnits_frame (a : Nat) (bs : List Byte) (poison : Bool) (c p : Nat) :
    Frame s (s.writeUnits a bs poison c p) memParts anyReg :=
  (Frame.foldl _ (fun s k => s.writeUnit_frame (unitInside k a bs.length) poison k c p) _ s).part (State.memPuts_frame _ a bs) (by decide)

theorem State.setChan_frame (c : Fin 2) (f : DramCh → DramCh) : Frame s (s.setChan c f) memParts anyReg := (Frame.of_mem s _).any (by decide)

theorem State.wakeRank_frame (a : Nat) : Frame s (s.wakeRank a) memParts anyReg :=
  ((s.setFld_frame _ _ _ _).any (by decide)).trans (State.setChan_frame _ _ _)

theorem State.join_frame (x : DramReq) : Frame s (s.join x) memParts anyReg :=
  (s.wakeRank_frame _).trans (State.setChan_frame _ _ _)

theorem State.perform_frame (c : Fin 2) (x : DramReq) : Frame s (s.perform c x).2 memParts anyReg := by
  unfold State.perform
  dsimp only
  refine Frame.trans (Frame.trans ?_ (State.wakeRank_frame _ _)) (State.setChan_frame _ _ _)
  split
  · exact s.writeUnits_frame _ _ _ _ _
  · exact s.readUnits_frame _ _ _ _

theorem State.serve_frame (c : Fin 2) {r : List Byte × Bool} {last : Bool} {t : State} (e : s.serve c = some (r, last, t)) :
    Frame s t memParts anyReg := by
  unfold State.serve at e
  extract_lets l at e
  split at e
  · cases e
  · split at e
    · cases e
    · split at e
      next hp =>
        cases e
        have ht : _ = t := congrArg Prod.snd hp
        rw [← ht]
        exact (s.setChan_frame c _).trans (State.perform_frame _ _ _)

theorem State.serveLast_frame (c : Fin 2) (n : Nat) : Frame s (s.serveLast c n).2 memParts anyReg := by
  induction n generalizing s with
  | zero => exact .refl ..
  | succ n ih =>
    unfold State.serveLast
    split
    · exact .refl ..
    · next e =>
      split
      · exact s.serve_frame c e
      · exact (s.serve_frame c e).trans (ih _)

theorem State.accessBlock_frame (x : DramReq) : Frame s (s.accessBlock x).2 memParts anyReg :=
  (s.join_frame x).trans (State.serveLast_frame _ _ _)

theorem State.memWrite_frame (a : Nat) (bs : List Byte) (poison : Bool) (c p : Nat) :
    Frame s (s.memWrite a bs poison c p) memParts anyReg := by
  unfold State.memWrite
  split
  · exact s.writeUnits_frame _ _ _ _ _
  · exact Frame.foldl _ (fun s _ => s.accessBlock_frame _) _ s

/-! ### The records of an image -/

theorem State.loadWord_frame (x : Nat × Word) : Frame s (s.loadWord x) [.mem] anyReg := by
  unfold State.loadWord
  split
  · exact (s.memPuts_frame _ _).any (by decide)
  · exact (s.wr_frame _ _).any (by decide)

theorem State.showCarriers_frame : Frame s s.showCarriers [] anyReg :=
  Frame.foldl _ (fun s _ => (s.setBit_frame _ _ _).any (by decide)) _ s

theorem State.loadCarriers_frame (words : List (Nat × Word)) : Frame s (s.loadCarriers words) [.dfe] anyReg := by
  unfold State.loadCarriers
  extract_lets d t u
  refine (Frame.comp (Frame.comp (Frame.of_dfe s _ : Frame s t _ _) (Frame.foldl (ps := [.dfe]) (rs := anyReg) _ (fun v c => ?_) _ t))
    (State.showCarriers_frame u)).any (by decide)
  have h : Frame v (if v.carEnabled c then v.setFld (Reg.DFE_CAR_CFG c) 8 0 (v.carPrbs c) else v) [.dfe] anyReg :=
    Frame.ite ((v.setFld_frame _ _ _ _).any (by decide)) (.refl ..)
  exact h.part (Frame.of_dfe _ _) (by decide)

theorem State.setBank_frame (p : Fin 64) (b : Nat) (f : BankSt → BankSt) : Frame s (s.setBank p b f) [.dpd] anyReg := by
  unfold State.setBank
  split
  · exact (Frame.of_dpd s _).any (by decide)
  · exact .refl ..

theorem State.seedBank_frame (p : Fin 64) (b : Fin 8) : Frame s (s.seedBank p b) [.dpd] anyReg := by
  unfold State.seedBank
  extract_lets lut t u v
  have ht : Frame s t [.dpd] anyReg := Frame.foldl _ (fun s x => (s.wr_frame _ _).any (by decide)) _ s
  have hu : Frame s u [.dpd] anyReg := ((ht.comp (State.setFld_frame _ _ _ _ _)).comp (State.setFld_frame _ _ _ _ _)).any (by decide)
  exact (hu.trans (u.setBank_frame p b _)).part (Frame.of_dpd v _) (by decide)

theorem State.loadSeeds_frame : Frame s s.loadSeeds [.dpd] anyReg :=
  Frame.foldl _ (fun s p => Frame.foldl _ (fun s b => Frame.ite (s.seedBank_frame p b) (.refl ..)) _ s) _ s

theorem State.loadTherm_frame (ts : List (Nat × List (Nat × Int))) : Frame s (s.loadTherm ts) [.hka] noRegs := by
  refine Frame.foldl _ (fun s x => ?_) ts s
  dsimp only
  split
  · exact Frame.of_hka s _
  · exact .refl ..

theorem State.loadProd_frame : Frame s s.loadProd [.hka] anyReg := by
  unfold State.loadProd
  refine Frame.part (Frame.foldl _ (fun s p => ?_) _ s) (Frame.of_hka _ _) (by decide)
  dsimp only
  split
  · exact ((State.setFld_frame _ _ _ _ _).comp (State.setFld_frame _ _ _ _ _)).any (by decide)
  · exact (s.setFld_frame _ _ _ _).any (by decide)

/-! ### The observation check, the ports and the start-up pass -/

theorem State.obsDrop_frame (k : Nat) : Frame s (s.obsDrop k) [.dpd] anyReg := by
  unfold State.obsDrop
  dsimp only
  split
  · next l _ =>
    refine (Frame.comp (ps := [.dpd]) (rs := anyReg) ?_ (State.bump_frame _ _)).any (by decide)
    unfold State.dropCapture
    split
    · exact Frame.ite (((s.bump_frame _).comp (Frame.of_dpd _ _)).any (by decide)) (.refl ..)
    · exact .refl ..
  · exact Frame.ite ((s.bump_frame _).any (by decide)) (.refl ..)

/-- The matches on the receivers found are generalised before they are split: the kernel would else search the receivers. -/
theorem State.obsFail_frame (k : Fin 9) : Frame s (s.obsFail k) [.dpd, .rcd] anyReg := by
  have h := Eq.refl @State.obsFail
  conv_rhs at h => delta State.obsFail
  rw [h]
  clear h
  beta_reduce
  extract_lets -lift -merge -underBinder +onlyGivenNames held t u
  have hu : Frame s u [.dpd, .rcd] anyReg := ((s.obsDrop_frame k).comp (State.setFld_frame _ _ _ _ _)).any (by decide)
  clear_value held u
  cases held with
  | none => exact ((hu.comp (State.obsRelease_frame _ _)).comp (State.raise_frame _ _ _)).any (by decide)
  | some l =>
    cases List.find? (α := Nat) _ (List.range 9) with
    | some b =>
      exact (((((((hu.comp (State.obsRelease_frame _ _)).comp (State.wr_frame _ _ _)).comp (State.setBit_frame _ _ _ _)).comp
        (State.setFld_frame _ _ _ _ _)).comp (State.setFld_frame _ _ _ _ _)).comp (Frame.of_dpd _ _)).comp
        (State.raise_frame _ _ _)).any (by decide)
    | none =>
      exact ((((hu.comp (Frame.of_dpd _ _)).comp (State.obsRelease_frame _ _)).comp (State.setFld_frame _ _ _ _ _)).comp
        (State.raise_frame _ _ _)).any (by decide)

theorem State.obsCheck_frame (m : Vector (Int × Int) 9) : Frame s (s.obsCheck m) [.dpd, .rcd] anyReg :=
  Frame.ite (.refl ..) (Frame.foldl _ (fun s k => s.obsFail_frame k) _ s)

theorem State.beginTether_frame (u : Fin 2) (n : Nat) : Frame s (s.beginTether u n) [.pkt] anyReg := by
  unfold State.beginTether
  extract_lets t1 t2 t3 t4
  have h1 : Frame s t1 [.pkt] anyReg :=
    (((State.setFld_frame _ _ _ _ _).comp (Frame.of_pkt _ _)).comp (State.setFld_frame _ _ _ _ _)).any (by decide)
  have h2 : Frame s t2 [.pkt] anyReg :=
    (((h1.comp (State.setFld_frame _ _ _ _ _)).comp (State.setFld_frame _ _ _ _ _)).comp (State.setBit_frame _ _ _ _)).any (by decide)
  have h3 : Frame s t3 [.pkt] anyReg :=
    h2.trans (Frame.foldl _ (fun s l => ((s.wr_frame _ _).comp (State.wr_frame _ _ _)).any (by decide)) _ _)
  exact (((h3.comp (State.wr_frame _ _ _)).comp (State.setBit_frame _ _ _ _)).comp (Frame.of_pkt _ _)).any (by decide)

theorem State.startPort_frame (u : Fin 2) : Frame s (s.startPort u) [.pkt] anyReg := Frame.ite (s.beginTether_frame u 1) (.refl ..)

theorem State.startPass_frame : Frame s s.startPass [.seq] anyReg := by
  unfold State.startPass
  extract_lets x t u
  have hu : Frame s u [.seq] anyReg :=
    ((((Frame.of_seq s _ : Frame s t _ _).comp (State.setBit_frame _ _ _ _)).comp (State.setFld_frame _ _ _ _ _)).comp
      (State.setFld_frame _ _ _ _ _)).any (by decide)
  exact hu.trans (Frame.foldl _ (fun s q => s.powerUpQuad_frame q true) _ _)

theorem State.trainDram_frame (r : BootRun) : Frame s (s.trainDram r) [] anyReg :=
  Frame.foldl _ (fun s c => (s.setBit_frame _ _ _).any (by decide)) _ s

theorem State.coldLock_frame (r : BootRun) (k : Fin 4) : Frame s (s.coldLock r k) [.clk] (· = Reg.SYN_LOCK_STAT) :=
  ((Frame.of_clk s _).mono (by decide) (fun _ h => h.elim)).step (State.setBit_frame _ _ _ _) (by decide) (fun _ h => h)

end
end Sys2Proof.Machine

namespace Sys2Proof.Machine

/-! ### The entry to SAFE and the end of BOOT -/

section
variable (s : State)

/-- The parts that a boot keeps whatever the image holds. -/
def bootKeeps : List Part := [.now, .prod, .store, .flash, .pins, .pending]

/-- What the keeper and the fuses hold that only the boot sequence itself sets. -/
def State.bootMarks : Bool × Bool × Bool × Option Nat × Nat :=
  (s.kpr.octal, s.kpr.imageLoaded, s.kpr.writesOpen, s.kpr.haltedAt, s.fuses.revoked)

/-- A step of the boot sequence that keeps `bootKeeps` and `bootMarks`, and enters no mode but those of `ms`. -/
structure Boots (ms : List Mode) (s t : State) : Prop where
  parts : ∀ p ∈ bootKeeps, p.same s t
  marks : t.bootMarks = s.bootMarks
  mode : t.mode = s.mode ∨ t.mode ∈ ms

end

section
variable {s t u : State} {ms ns : List Mode} {ps qs : List Part} {rs : Nat → Prop}

theorem Boots.refl : Boots ms s s := ⟨fun p _ => .refl s p, rfl, .inl rfl⟩

theorem Boots.trans (h : Boots ms s t) (k : Boots ms t u) : Boots ms s u :=
  ⟨fun p hp => (h.parts p hp).trans (k.parts p hp), k.marks.trans h.marks, k.mode.elim (fun e => e ▸ h.mode) .inr⟩

theorem Boots.mono (h : Boots ms s t) (hm : ms ⊆ ns) : Boots ns s t :=
  ⟨h.parts, h.marks, h.mode.imp_right fun hm' => hm hm'⟩

theorem Boots.of_nil (h : Boots [] s t) : Boots ms s t := h.mono (List.nil_subset _)

/-- A step that keeps the mode. -/
theorem Boots.step (h : Boots ms s t) (k : Boots [] t u) : Boots ms s u := h.trans k.of_nil

theorem Boots.ite {c : Prop} [Decidable c] (h : Boots ms s t) (k : Boots ms s u) : Boots ms s (if c then t else u) := by
  split
  · exact h
  · exact k

theorem Boots.foldl {β : Type} (f : State → β → State) (hf : ∀ s x, Boots ms s (f s x)) (l : List β) (s : State) :
    Boots ms s (l.foldl f s) := by
  induction l generalizing s with
  | nil => exact .refl
  | cons x l ih => exact (hf s x).trans (ih _)

theorem Frame.bootMarks (h : Frame s t ps rs) (hk : Part.kpr ∉ ps) (hf : Part.fuses ∉ ps) : t.bootMarks = s.bootMarks := by
  have hk : t.kpr = s.kpr := h.1 .kpr hk
  have hf : t.fuses = s.fuses := h.1 .fuses hf
  rw [State.bootMarks, State.bootMarks, hk, hf]

/-- A frame of neither the keeper nor the fuses nor what a boot keeps. -/
theorem Frame.boots (h : Frame s t ps rs) (hp : ∀ p ∈ .mode :: .kpr :: .fuses :: bootKeeps, p ∉ ps := by decide) : Boots [] s t :=
  ⟨fun p hb => h.1 p (hp p (by simp [hb])), h.bootMarks (hp _ (by simp)) (hp _ (by simp)), .inl (h.1 .mode (hp _ (by simp)))⟩

/-- A step that also changes what the keeper and the fuses hold beside `bootMarks`. -/
theorem Frame.boots_of_marks (h : Frame s t ps rs) (hm : t.bootMarks = s.bootMarks)
    (hp : ∀ p ∈ .mode :: bootKeeps, p ∉ ps := by decide) : Boots [] s t :=
  ⟨fun p hb => h.1 p (hp p (by simp [hb])), hm, .inl (h.1 .mode (hp _ (by simp)))⟩

theorem Boots.of_kpr (x : Keeper) (ho : x.octal = s.kpr.octal) (hi : x.imageLoaded = s.kpr.imageLoaded)
    (hw : x.writesOpen = s.kpr.writesOpen) (hh : x.haltedAt = s.kpr.haltedAt) : Boots ms s { s with kpr := x } :=
  ((Frame.of_kpr s x).boots_of_marks (by simp [State.bootMarks, ho, hi, hw, hh])).of_nil

theorem Boots.of_seq_kpr (x : Seq) (y : Keeper) (ho : y.octal = s.kpr.octal) (hi : y.imageLoaded = s.kpr.imageLoaded)
    (hw : y.writesOpen = s.kpr.writesOpen) (hh : y.haltedAt = s.kpr.haltedAt) : Boots ms s { s with seq := x, kpr := y } :=
  ((Frame.of_seq_kpr s x y).boots_of_marks (by simp [State.bootMarks, ho, hi, hw, hh])).of_nil

end

section
variable (s : State)

/-- A change of mode in the course of a boot. -/
theorem State.changeMode_boots (m : Mode) : Boots [m] s (s.changeMode m) := by
  have h : Frame s (s.changeMode m) [.mode, .paths, .bias, .rcd, .tim] anyReg := ((Frame.of_mode s m).comp (s.changeMode_frame m)).any (by decide)
  exact ⟨fun p hp => h.1 p (by revert p; decide), h.bootMarks (by decide) (by decide), .inr (by simp [s.changeMode_mode m])⟩

theorem State.setMode_boots (m : Mode) : Boots [m] s (s.setMode m) := by
  have h := (s.raise_frame 0x0003 [(1, modeCode s.mode), (1, modeCode m)]).boots
  unfold State.setMode
  exact Boots.ite .refl (h.of_nil.trans (State.changeMode_boots _ m))

theorem State.dropSetChange_boots : Boots [] s s.dropSetChange := by
  unfold State.dropSetChange
  exact (s.setBit_frame _ _ _).boots.trans (Boots.of_seq_kpr _ _ rfl rfl rfl rfl)

theorem State.dropQuads_frame : Frame s (s.forQuads fun s q => s.dropQuad q) [.paths, .dpd, .seq, .bias] anyReg :=
  Frame.foldl _ State.dropQuad_frame _ s

theorem State.endSafeEntry_boots : Boots [] s
    (({ s with kpr := { s.kpr with tempClearAt := none, bootPorts := false } } : State).abortJob 0) :=
  (Boots.of_kpr { s.kpr with tempClearAt := none, bootPorts := false } rfl rfl rfl rfl).trans (State.abortJob_frame _ 0).boots

/-- SAFE is entered, or its cause recorded (R557, R572). -/
theorem State.enterSafe_boots (c : Nat) : Boots [.safe] s (s.enterSafe c) := by
  unfold State.enterSafe
  extract_lets t1 t2 t3 t4 t5 t6 k
  have h3 : Boots [.safe] s t3 :=
    ((((Boots.refl.step (s.setFld_frame _ _ _ _).boots).step (State.bump_frame _ _).boots).step (State.bump_frame _ _).boots).step
      (State.raiseEffect_frame _ _ _).boots)
  have h4 : Boots [.safe] s t4 := h3.trans (State.changeMode_boots _ _)
  have h5 : Boots [.safe] s t5 := (h4.step t4.dropQuads_frame.boots).step (State.dropSetChange_boots _)
  have h6 : Boots [.safe] s t6 := h5.step (State.setBit_frame _ _ _ _).boots
  exact Boots.ite .refl (Boots.ite (s.setBit_frame _ _ _).boots.of_nil (h6.step t6.endSafeEntry_boots))

/-- READY after BOOT: of what hangs on the mode only the clears of the bias channels follow (R527, R564). -/
theorem State.setMode_ready_of_boot (h : s.mode = .boot) :
    s.setMode .ready = ({ s.raise 0x0003 [(1, 1), (1, 2)] with mode := .ready } : State).biasApply 2 := by
  have hm : (s.raise 0x0003 [(1, 1), (1, 2)]).mode = .boot := h ▸ (s.raise_frame 0x0003 _).1 .mode (by decide)
  have hc : ∀ t : State, t.mode = .boot → t.changeMode .ready = ({ t with mode := .ready } : State).biasApply 2 := fun t ht => by
    simp [State.changeMode, ht, Mode.live]
  rw [State.setMode, h, if_neg (by decide)]
  exact hc _ hm

/-- The registers that the end of BOOT may change (R564, R565). -/
def advanceRegs (a : Nat) : Prop := a ∈ [Reg.KPR_BOOT_STAT, Reg.KPR_BOOT_TIME] ∨ arr 80 Reg.BIA_CLEAR_CNT a ∨ eventRegs 0x0003 a

theorem State.setMode_ready_frame (h : s.mode = .boot) : Frame s (s.setMode .ready) [.mode, .bias, .rcd] advanceRegs := by
  rw [s.setMode_ready_of_boot h]
  exact (((Frame.refl s _ _).step (s.raise_frame _ _) (by decide) (fun _ h => .inr (.inr h))).part (Frame.of_mode _ _) (by decide)).step
    (State.biasApply_frame _ 2) (by decide) (fun _ h => .inr (.inl h))

/-- What a step towards READY keeps (R564). -/
structure Advances (s t : State) : Prop where
  frame : Frame s t [.mode, .bias, .kpr, .rcd] advanceRegs
  boots : Boots [.ready] s t
  wait : t.kpr.linkWaitOver = s.kpr.linkWaitOver

theorem Advances.trans {s t u : State} (h : Advances s t) (k : Advances t u) : Advances s u :=
  ⟨h.frame.trans k.frame, h.boots.trans k.boots, k.wait.trans h.wait⟩

theorem Advances.ite {s t u : State} {c : Prop} [Decidable c] (h : Advances s t) (k : Advances s u) : Advances s (if c then t else u) := by
  split
  · exact h
  · exact k

theorem Advances.refl : Advances s s := ⟨.refl .., .refl, rfl⟩

theorem Advances.of_kpr (x : Keeper) (ho : x.octal = s.kpr.octal) (hi : x.imageLoaded = s.kpr.imageLoaded)
    (hw : x.writesOpen = s.kpr.writesOpen) (hh : x.haltedAt = s.kpr.haltedAt) (hl : x.linkWaitOver = s.kpr.linkWaitOver) :
    Advances s { s with kpr := x } :=
  ⟨(Frame.of_kpr s x).mono (by decide) (fun _ h => h.elim), .of_kpr x ho hi hw hh, hl⟩

theorem State.setFld_advances {a : Nat} (ha : a ∈ [Reg.KPR_BOOT_STAT, Reg.KPR_BOOT_TIME]) (hi lo v : Nat) : Advances s (s.setFld a hi lo v) :=
  ⟨(s.setFld_frame a hi lo v).mono (by decide) (fun _ h => .inl (h ▸ ha)), (s.setFld_frame a hi lo v).boots.of_nil,
    congrArg Keeper.linkWaitOver ((s.setFld_frame a hi lo v).1 .kpr (by decide))⟩

theorem State.setMode_ready_advances (h : s.mode = .boot) : Advances s (s.setMode .ready) :=
  ⟨(s.setMode_ready_frame h).mono (by decide) (fun _ h => h), s.setMode_boots .ready,
    congrArg Keeper.linkWaitOver ((s.setMode_ready_frame h).1 .kpr (by decide))⟩

theorem State.toReady_advances (n : Nat) (h : s.mode = .boot) : Advances s
    (({ s.setFld Reg.KPR_BOOT_TIME 15 0 n with kpr := { (s.setFld Reg.KPR_BOOT_TIME 15 0 n).kpr with bootPorts := false } } : State).setMode .ready) := by
  have h1 : Advances s (s.setFld Reg.KPR_BOOT_TIME 15 0 n) := s.setFld_advances (by simp) 15 0 n
  have hm : (s.setFld Reg.KPR_BOOT_TIME 15 0 n).mode = .boot := h
  revert h1 hm
  generalize s.setFld Reg.KPR_BOOT_TIME 15 0 n = t
  intro h1 hm
  exact (h1.trans (.of_kpr t { t.kpr with bootPorts := false } rfl rfl rfl rfl rfl)).trans (State.setMode_ready_advances _ hm)

theorem State.settled_advances :
    Advances s { s.setFld Reg.KPR_BOOT_STAT 19 16 10 with kpr := { s.kpr with bootDone := some s.now } } := by
  have h1 : Advances s (s.setFld Reg.KPR_BOOT_STAT 19 16 10) := s.setFld_advances (by simp) 19 16 10
  have hk : (s.setFld Reg.KPR_BOOT_STAT 19 16 10).kpr = s.kpr := s.setFld_kpr ..
  revert h1 hk
  generalize s.setFld Reg.KPR_BOOT_STAT 19 16 10 = t
  intro h1 hk
  exact h1.trans (.of_kpr t _ (by rw [hk]) (by rw [hk]) (by rw [hk]) (by rw [hk]) (by rw [hk]))

theorem State.settled_frame : Frame s { s.setFld Reg.KPR_BOOT_STAT 19 16 10 with kpr := { s.kpr with bootDone := some s.now } } [.kpr]
    (· = Reg.KPR_BOOT_STAT) :=
  ((Frame.refl s _ _).step (s.setFld_frame _ 19 16 10) (by decide) (fun _ h => h)).part (Frame.of_kpr _ _) (by decide)

theorem State.bootAdvance_advances : Advances s s.bootAdvance := by
  unfold State.bootAdvance
  extract_lets k t u v w
  have ht : Advances s t := Advances.ite (Advances.of_kpr s _ rfl rfl rfl rfl rfl) (.refl s)
  clear_value t
  have hw : Advances t w := Advances.ite t.settled_advances (.refl t)
  have hm : w.mode = t.mode := (Frame.ite t.settled_frame (.refl ..) : Frame t w _ _).1 .mode (by decide)
  clear_value w
  split
  · next hc =>
    have hb : w.mode = .boot := by
      simp only [Bool.and_eq_true, decide_eq_true_eq] at hc
      rw [hm, hc.1]
    split
    · exact Advances.ite ((ht.trans hw).trans (w.toReady_advances _ hb)) (ht.trans hw)
    · exact ht.trans hw
  · exact ht

/-- The state in which BOOT ends (R564, R565). -/
def State.bootOver (d : Nat) : State :=
  let s := s.setFld Reg.KPR_BOOT_TIME 15 0 (min 65535 ((d - s.kpr.bootStart) / 983040))
  { s with kpr := { s.kpr with bootPorts := false } }

/-- With the ports settled and the link wait over BOOT ends (R564). -/
theorem State.bootAdvance_ready {d p : Nat} (hm : s.mode = .boot) (hp : s.kpr.portsAt = some p) (hb : s.kpr.bootPorts = true)
    (hd : s.kpr.bootDone = some d) (hl : s.kpr.linkWaitOver = true) : s.bootAdvance = (s.bootOver d).setMode .ready := by
  unfold State.bootAdvance
  extract_lets k t u v w
  have ht : t = s := if_neg (by simp [hp])
  clear_value t
  subst ht
  have hw : w = t := if_neg (by simp [hd])
  clear_value w
  subst hw
  rw [if_pos (by simp [hm, hb]), hd]
  exact if_pos (by simp [State.linksWaited, hl])

/-- Before BOOT waits for its ports alone the mode stays (R564). -/
theorem State.bootAdvance_mode_of_waits (hb : s.kpr.bootPorts = false) : s.bootAdvance.mode = s.mode := by
  unfold State.bootAdvance
  extract_lets k t u v w
  have ht : t.mode = s.mode := (Frame.ite (Frame.of_kpr s _) (.refl ..) : Frame s t _ _).1 .mode (by decide)
  have hk : t.kpr.bootPorts = false := by
    show (if _ then _ else _ : State).kpr.bootPorts = false
    split
    · exact hb
    · exact hb
  rw [if_neg (by simp [hk])]
  exact ht

theorem State.bootOver_frame (d : Nat) : Frame s (s.bootOver d) [.kpr] (· = Reg.KPR_BOOT_TIME) :=
  ((Frame.refl s _ _).step (s.setFld_frame _ _ _ _) (by decide) (fun _ h => h)).part (Frame.of_kpr _ _) (by decide)

end
end Sys2Proof.Machine

namespace Sys2Proof.Machine

/-! ### The image is applied -/

section
variable (s : State) {ms : List Mode}

theorem Boots.of_fuses (x : Fuses) (h : x.revoked = s.fuses.revoked) : Boots ms s { s with fuses := x } :=
  ((Frame.of_fuses s x).boots_of_marks (by simp [State.bootMarks, h])).of_nil

theorem Boots.of_records (a : Air) (d : Dpd) (c : Clocks) (t : Tim) : Boots ms s { s with air := a, dpd := d, clk := c, tim := t } :=
  ⟨fun p h => by cases p <;> simp [bootKeeps] at h <;> rfl, rfl, .inl rfl⟩

theorem State.applyLimits_boots (l : Limits) : Boots [] s (s.applyLimits l) := by
  have h : ∀ t : State, Boots [] s t → Boots [] s { t with kpr := { t.kpr with pieces := l.pieces.getD [], anyFreq := l.pieces.isNone } } :=
    fun t ht => ht.trans (.of_kpr _ rfl rfl rfl rfl)
  exact h _ ((((s.wr_frame _ _).comp (State.wr_frame _ _ _)).any (by decide)).trans
    (Frame.foldl (ps := []) (rs := anyReg) _ (fun s x => ((s.wr_frame _ _).comp (State.wr_frame _ _ _)).any (by decide)) _ _)).boots

theorem State.takeLimits_boots (k : LockRec) : Boots [] s (s.takeLimits k) := by
  have h := s.applyLimits_boots (s.bankLimits.with k)
  exact Boots.ite h (h.trans (State.raise_frame _ _ _).boots)

theorem State.commitLock_boots (m : Image) (k : LockRec) : Boots [] s (s.commitLock m k) := by
  unfold State.commitLock
  dsimp only
  split
  · exact .refl
  · split
    · exact Boots.of_fuses s _ rfl
    · exact (s.raise_frame _ _).boots

theorem State.loadBias_boots (c : Fin 80) : Boots [] s (s.loadBias c) := (s.loadBias_frame c).boots

theorem State.loadAtten_frame : Frame s (s.forPaths fun s p =>
    let v := s.fld (Reg.TXP_ATTEN p) 6 0
    s.setPath p fun x => { x with atten := v }) [.paths] noRegs :=
  Frame.foldl _ (fun s _ => Frame.of_paths s _) _ s

end

/-! ### The boot sequence from its first step on -/

/-- A boot from `s₀` that has neither ended nor halted, with its image `loaded` and writes `opened` or not. -/
structure Booting (s₀ : State) (r : BootRun) (loaded opened : Bool) (t : State) : Prop where
  parts : ∀ p ∈ [.now, .prod, .store, .pins, .pending], Part.same s₀ t p
  flash : t.flash = (s₀.programmed r.flash).flash
  marks : t.bootMarks = (r.octal, loaded, opened, none, s₀.fuses.revoked)
  mode : t.mode = .boot

/-- What a boot from `s₀` has come to where its command ends (R564): it has halted, or its image is applied. -/
structure BootEnd (s₀ : State) (r : BootRun) (t : State) : Prop where
  parts : ∀ p ∈ [.now, .prod, .store, .pins, .pending], Part.same s₀ t p
  flash : t.flash = (s₀.programmed r.flash).flash
  octal : t.kpr.octal = r.octal
  revoked : t.fuses.revoked = s₀.fuses.revoked
  mode : t.mode = .boot ∨ t.mode = .ready ∨ t.mode = .safe
  halted : t.kpr.haltedAt.isSome = true → t.mode = .boot ∧ t.kpr.imageLoaded = false
  runs : t.kpr.haltedAt = none → t.kpr.imageLoaded = true ∧ t.kpr.writesOpen = true

section
variable {s₀ s t : State} {r : BootRun} {l o : Bool}

theorem Booting.boots (h : Booting s₀ r l o s) (k : Boots [] s t) : Booting s₀ r l o t where
  parts p hp := (h.parts p hp).trans (k.parts p (by revert p; decide))
  flash := Eq.trans (k.parts .flash (by decide)) h.flash
  marks := k.marks.trans h.marks
  mode := by
    rcases k.mode with e | e
    · exact e.trans h.mode
    · cases e

theorem Booting.of_kpr {l' o' : Bool} (h : Booting s₀ r l o s) {x : Keeper} (ho : x.octal = s.kpr.octal)
    (hh : x.haltedAt = s.kpr.haltedAt) (hl : x.imageLoaded = l') (hw : x.writesOpen = o') : Booting s₀ r l' o' { s with kpr := x } where
  parts p hp := (h.parts p hp).trans ((Frame.of_kpr s x).1 p (by revert p; decide))
  flash := h.flash
  marks := by
    have hm := h.marks
    simp [State.bootMarks] at hm ⊢
    simp [ho, hh, hm, hl, hw]
  mode := h.mode

/-- An image applied is loaded (R344, R553). -/
theorem Booting.applyImage (h : Booting s₀ r l o s) (b : Bool) (m : Image) (a : Air) (k : LockRec) :
    Booting s₀ r true o (s.applyImage r b m a k) := by
  unfold State.applyImage
  extract_lets t1 t2 t3 c d i t4 t5 t6 t7 y x t8
  have h1 : Booting s₀ r l o t1 := h.boots (Frame.foldl _ State.loadWord_frame _ s).boots
  have h2 : Booting s₀ r l o t2 := h1.boots (Frame.foldl _ (fun s t => s.memWrite_frame _ _ _ _ _) _ t1).boots
  have h3 : Booting s₀ r l o t3 :=
    h2.boots (((t2.takeLimits_boots k).trans (State.commitLock_boots _ m k)).trans (State.loadCarriers_frame _ _).boots)
  have h4 : Booting s₀ r l o t4 := h3.boots (Boots.of_records t3 _ _ _ _)
  have h5 : Booting s₀ r l o t5 :=
    h4.boots ((t4.loadSeeds_frame.boots.trans (State.loadTherm_frame _ _).boots).trans (State.loadProd_frame _).boots)
  have h6 : Booting s₀ r l o t6 := h5.boots t5.loadAtten_frame.boots
  have h7 : Booting s₀ r l o t7 := h6.boots ((State.wr_frame _ _ _).boots.trans (State.setBit_frame _ _ _ _).boots)
  have hy : Booting s₀ r l o y := h7.boots ((State.setFld_frame _ _ _ _ _).boots.trans (State.setFld_frame _ _ _ _ _).boots)
  clear_value y
  have h8 : Booting s₀ r true o t8 := by
    have hw : y.kpr.writesOpen = o := congrArg (·.2.2.1) hy.marks
    exact hy.of_kpr rfl rfl rfl hw
  exact h8.boots (Boots.foldl _ State.loadBias_boots _ t8)

end
end Sys2Proof.Machine

namespace Sys2Proof.Machine

/-! ### The sequence in its parts -/

/-- The boot sequence up to the straps that it shows (R546, R564). -/
def State.bootStraps (s : State) (r : BootRun) : State :=
  let s := { s with
    mode := .boot, tns := 0, tim := { s.tim with tickNo := 0, history := [] }
    kpr := { s.kpr with bootStart := s.now, octal := r.octal } }
  let s := s.clearLevel.programmed r.flash
  let s := ((s.setFld Reg.KPR_BOOT_STAT 6 5 s.pins.bootsel).setFld Reg.KPR_BOOT_STAT 4 3 s.pins.pos).setBit Reg.KPR_BOOT_STAT 2
    s.pins.clrsel
  s.setFld Reg.PKT_CASCADE 9 8 s.pins.pos

/-- The boot sequence up to the first two PLLs (R112, R564). -/
def State.bootStart (s : State) (r : BootRun) : State :=
  [0, 1].foldl (State.coldLock r) (((s.bootStraps r).wr Reg.KPR_BOOT_NEXT 0).bootStep 1)

/-- The images in the order in which this boot tries them (R547, R559). -/
def State.bootImages (s : State) (r : BootRun) : List Bool :=
  bootOrder (s.bootStraps r).pins.bootsel ((s.bootStraps r).fld Reg.KPR_BOOT_NEXT 1 0)

/-- What this boot finds of the images (R556). -/
def State.bootTried (s : State) (r : BootRun) : List (Bool × Nat) × Option (Bool × Image × Air × LockRec) :=
  (s.bootStart r).tryImages r (s.bootImages r) []

section
variable {s : State} {r : BootRun}

theorem State.boot_of_not_early (h : r.early = false) : s.boot r = (s.bootStart r).halt 3 := by
  unfold State.boot
  dsimp only
  rw [h]
  rfl

/-- An image that passes after another was rejected is a fall-back (R558). -/
def State.fallBack (s : State) (rej : List (Bool × Nat)) : State :=
  match rej with
  | x :: _ => s.fellBack x.2
  | [] => s

/-- The sequence from an image that has passed on (R557, R564). -/
def State.runImage (s : State) (r : BootRun) (b : Bool) (m : Image) (a : Air) (k : LockRec) : State :=
  let s := (s.applyImage r b m a k).bootStep 5
  let s := [2, 3].foldl (State.coldLock r) s
  if !r.late then s.halt 3
  else
    let s := s.trainDram r
    if r.dram[(0 : Fin 2)] && r.dram[(1 : Fin 2)] then s.bootRuns r.obs
    else
      let s := (s.bootStep 7).halt 2
      { s with kpr := { s.kpr with writesOpen := true } }

theorem State.boot_of_image {rej : List (Bool × Nat)} {b : Bool} {m : Image} {a : Air} {k : LockRec} (h : r.early = true)
    (ht : s.bootTried r = (rej, some (b, m, a, k))) :
    s.boot r = ((rej.foldl State.noteReject (s.bootStart r)).fallBack rej).runImage r b m a k := by
  unfold State.boot
  extract_lets x t t1 t2 t3 t4 order t5 t6
  have h1 : s.bootStart r = t6 := rfl
  have h2 : s.bootImages r = order := rfl
  rw [State.bootTried, h1, h2] at ht
  rw [h1, h, ht]
  clear_value t6
  rw [if_neg (by decide)]
  dsimp -zeta -zetaHave only
  unfold State.runImage
  cases rej with
  | nil => dsimp -zeta -zetaHave only [State.fallBack]
  | cons x rej => dsimp -zeta -zetaHave only [State.fallBack]

theorem State.boot_of_rejected {rej : List (Bool × Nat)} (h : r.early = true) (ht : s.bootTried r = (rej, none)) :
    s.boot r = ((rej.foldl State.noteReject (s.bootStart r)).bootStep (2 + rej.length)).halt 1 := by
  unfold State.boot
  extract_lets x t t1 t2 t3 t4 order t5 t6
  have h1 : s.bootStart r = t6 := rfl
  have h2 : s.bootImages r = order := rfl
  rw [State.bootTried, h1, h2] at ht
  rw [h1, h, ht]
  rfl

end

section
variable (s : State)

theorem State.noteReject_kpr (x : Bool × Nat) : ∃ fa fb, (s.noteReject x).kpr = { s.kpr with failA := fa, failB := fb } := by
  unfold State.noteReject
  extract_lets f t u v
  split
  · exact ⟨_, _, rfl⟩
  · exact ⟨_, _, rfl⟩

/-- The code of a rejected image stands in its own field (R556). -/
theorem State.noteReject_regs (x : Bool × Nat) : (s.noteReject x).regs =
    (if x.1 then s.setFld Reg.KPR_BOOT_STAT 14 12 x.2 else s.setFld Reg.KPR_BOOT_STAT 10 8 x.2).regs := by
  unfold State.noteReject
  extract_lets f t u v
  split
  · rfl
  · rfl

theorem State.noteReject_frame (x : Bool × Nat) : Frame s (s.noteReject x) [.freeIdx, .kpr] (· = Reg.KPR_BOOT_STAT) := by
  unfold State.noteReject
  extract_lets f t
  have ht : Frame s t [.freeIdx, .kpr] (· = Reg.KPR_BOOT_STAT) := (Frame.refl ..).part (Frame.of_freeIdx s _) (by decide)
  clear_value t
  exact Frame.ite ((ht.step (t.setFld_frame _ _ _ _) (by decide) (fun _ h => h)).part (Frame.of_kpr _ _) (by decide))
    ((ht.step (t.setFld_frame _ _ _ _) (by decide) (fun _ h => h)).part (Frame.of_kpr _ _) (by decide))

theorem State.noteReject_boots (x : Bool × Nat) : Boots [] s (s.noteReject x) := by
  refine (s.noteReject_frame x).boots_of_marks ?_
  have hf : (s.noteReject x).fuses = s.fuses := (s.noteReject_frame x).1 .fuses (by decide)
  obtain ⟨fa, fb, hk⟩ := s.noteReject_kpr x
  simp [State.bootMarks, hk, hf]

theorem State.raiseAlarm_boots (e : Event) (x : Option Event) :
    Boots [] s { s.raiseEvent e with kpr := { s.kpr with fallbackAlarm := x } } := by
  have hu : Boots [] s (s.raiseEvent e) := (s.raiseEvent_frame e).boots
  have hk : (s.raiseEvent e).kpr = s.kpr := (s.raiseEvent_frame e).1 .kpr (by decide)
  generalize s.raiseEvent e = u at hu hk
  exact hu.trans (Boots.of_kpr _ (by rw [hk]) (by rw [hk]) (by rw [hk]) (by rw [hk]))

theorem State.fellBack_boots (c : Nat) : Boots [] s (s.fellBack c) := by
  have h : Boots [] s ((s.setBit Reg.KPR_BOOT_STAT 23 true).bump Reg.KPR_FALLBACK_CNT) :=
    (s.setBit_frame _ _ _).boots.trans (State.bump_frame _ _).boots
  exact h.trans (State.raiseAlarm_boots _ _ _)

end

/-- BOOT waits for its ports alone (R564). -/
theorem Boots.bootPorts {s t u : State} {ms : List Mode} (h : Boots ms s u) (hk : u.kpr = t.kpr) :
    Boots ms s { u with kpr := { t.kpr with bootPorts := true } } := by
  rw [← hk]
  exact h.trans (.of_kpr _ rfl rfl rfl rfl)

section
variable (s : State)

/-! ### A halt -/

/-- KPR_BOOT_STAT with the cause of a halt (R557). -/
def State.showHalt (c : Nat) : State := (s.setBit Reg.KPR_BOOT_STAT 31 true).setFld Reg.KPR_BOOT_STAT 29 28 c

theorem State.showHalt_frame (c : Nat) : Frame s (s.showHalt c) [] (· = Reg.KPR_BOOT_STAT) :=
  (s.setBit_frame _ 31 true).step (State.setFld_frame _ _ _ _ _) (by decide) (fun _ h => h)

theorem State.halt_eq (c : Nat) : s.halt c =
    { (s.showHalt c).raise 0x0002 [(1, c)] with kpr := { s.kpr with haltedAt := some s.now, imageLoaded := false } } := by
  have hk : (s.showHalt c).kpr = s.kpr := (s.showHalt_frame c).1 .kpr (by decide)
  have hn : (s.showHalt c).now = s.now := (s.showHalt_frame c).1 .now (by decide)
  rw [← hk, ← hn]
  rfl

theorem State.halt_kpr (c : Nat) : (s.halt c).kpr = { s.kpr with haltedAt := some s.now, imageLoaded := false } := by
  rw [s.halt_eq]

theorem State.halt_frame_showHalt (c : Nat) : Frame (s.showHalt c) (s.halt c) [.rcd, .kpr] (eventRegs 0x0002) := by
  rw [s.halt_eq]
  exact ((Frame.refl _ _ _).step (State.raise_frame _ _ _) (by decide) (fun _ h => h)).part (Frame.of_kpr _ _) (by decide)

theorem State.halt_frame (c : Nat) : Frame s (s.halt c) [.rcd, .kpr] (fun a => a = Reg.KPR_BOOT_STAT ∨ eventRegs 0x0002 a) :=
  ((Frame.refl s _ _).step (s.showHalt_frame c) (by decide) (fun _ h => .inl h)).step (s.halt_frame_showHalt c) (by decide) (fun _ h => .inr h)

/-- The cause of a halt in KPR_BOOT_STAT (R557). -/
theorem State.halt_bootStat (c : Nat) (h : s.Canon) :
    (s.halt c).rd Reg.KPR_BOOT_STAT = putFld (putFld (s.rd Reg.KPR_BOOT_STAT) 31 31 1) 29 28 c := by
  have hr := (s.halt_frame_showHalt c).2 Reg.KPR_BOOT_STAT (by decide)
  have hs := State.rd_setFld_same _ Reg.KPR_BOOT_STAT 29 28 c (s.setBit_canon Reg.KPR_BOOT_STAT 31 true h)
  have hb := s.rd_setFld_same Reg.KPR_BOOT_STAT 31 31 1 h
  rw [hr, State.showHalt, hs, State.setBit, if_pos rfl, hb]

end

section
variable {s₀ s t : State} {r : BootRun} {l o : Bool}

theorem BootEnd.of_boots (h : Booting s₀ r true true s) (k : Boots [.ready, .safe] s t) : BootEnd s₀ r t := by
  have hm : t.bootMarks = (r.octal, true, true, none, s₀.fuses.revoked) := k.marks.trans h.marks
  have hh : t.kpr.haltedAt = none := congrArg (·.2.2.2.1) hm
  refine ⟨fun p hp => (h.parts p hp).trans (k.parts p (by revert p; decide)), Eq.trans (k.parts .flash (by decide)) h.flash,
    congrArg (·.1) hm, congrArg (·.2.2.2.2) hm, ?_, fun hs => by simp [hh] at hs,
    fun _ => ⟨congrArg (·.2.1) hm, congrArg (·.2.2.1) hm⟩⟩
  rcases k.mode with e | e
  · exact .inl (e.trans h.mode)
  · simpa using Or.inr (a := t.mode = .boot) e

/-- A boot that halts (R557, R566). -/
theorem Booting.halt (h : Booting s₀ r l o s) (c : Nat) : BootEnd s₀ r (s.halt c) where
  parts p hp := (h.parts p hp).trans ((s.halt_frame c).1 p (by revert p; decide))
  flash := Eq.trans ((s.halt_frame c).1 .flash (by decide)) h.flash
  octal := by rw [s.halt_kpr]; exact congrArg (·.1) h.marks
  revoked := (congrArg Fuses.revoked ((s.halt_frame c).1 .fuses (by decide))).trans (congrArg (·.2.2.2.2) h.marks)
  mode := .inl (Eq.trans ((s.halt_frame c).1 .mode (by decide)) h.mode)
  halted _ := ⟨Eq.trans ((s.halt_frame c).1 .mode (by decide)) h.mode, by rw [s.halt_kpr]⟩
  runs hh := by rw [s.halt_kpr] at hh; cases hh

/-- Writes open in a boot that has halted (R566, R609). -/
theorem BootEnd.open (h : BootEnd s₀ r t) :
    BootEnd s₀ r { t with kpr := { t.kpr with writesOpen := true } } where
  parts p hp := (h.parts p hp).trans ((Frame.of_kpr t _).1 p (by revert p; decide))
  flash := h.flash
  octal := h.octal
  revoked := h.revoked
  mode := h.mode
  halted := h.halted
  runs hn := ⟨(h.runs hn).1, rfl⟩

/-- The boot goes on from an image applied (R564). -/
theorem Booting.bootRuns (h : Booting s₀ r true o s) (m : Vector (Int × Int) 9) : BootEnd s₀ r (s.bootRuns m) := by
  unfold State.bootRuns
  extract_lets t0 k t1 t2 t3 t4 u
  have h1 : Booting s₀ r true true t1 := by
    have h0 : Booting s₀ r true o t0 := h.boots (s.setFld_frame _ _ _ _).boots
    have hk : k = t0.kpr := ((s.setFld_frame _ _ _ _).1 .kpr (by decide)).symm
    have hl : t0.kpr.imageLoaded = true := congrArg (·.2.1) h0.marks
    clear_value t0 k
    subst hk
    exact h0.of_kpr rfl rfl hl rfl
  have h2 : Booting s₀ r true true t2 := h1.boots ((t1.startPort_frame 0).boots.trans (State.startPort_frame _ 1).boots)
  have k3 : Boots [.ready, .safe] t2 t3 := Boots.ite .refl ((t2.enterSafe_boots 2).mono (by simp))
  have k4 : Boots [.ready, .safe] t2 t4 := Boots.ite k3 (k3.trans ((t3.enterSafe_boots 1).mono (by simp)))
  have hf : Frame t4 u [.dpd, .rcd] anyReg := ((t4.obsCheck_frame m).comp (State.setFld_frame _ _ _ _ _)).any (by decide)
  have hk : u.kpr = t4.kpr := hf.1 .kpr (by decide)
  have k5 : Boots [.ready, .safe] t2 u := k4.step hf.boots
  clear_value t4 u
  refine BootEnd.of_boots h2 (Boots.ite k4 (Boots.ite ?_ ?_))
  · exact (k4.step t4.startPass_frame.boots).trans ((State.bootAdvance_advances _).boots.mono (by simp))
  · exact (k5.bootPorts hk).trans ((State.bootAdvance_advances _).boots.mono (by simp))

/-- What follows an image that has passed (R557, R564). -/
theorem Booting.image (h : Booting s₀ r l o s) (b : Bool) (m : Image) (a : Air) (k : LockRec) :
    Booting s₀ r true o ([2, 3].foldl (State.coldLock r) ((s.applyImage r b m a k).bootStep 5)) :=
  ((h.applyImage b m a k).boots (State.setFld_frame _ _ _ _ _).boots).boots
    (Boots.foldl _ (fun s k => (s.coldLock_frame r k).boots) _ _)

theorem Booting.rejects (h : Booting s₀ r l o s) (rej : List (Bool × Nat)) : Booting s₀ r l o (rej.foldl State.noteReject s) :=
  h.boots (Boots.foldl _ State.noteReject_boots rej s)

theorem Booting.fallBack (h : Booting s₀ r l o s) (rej : List (Bool × Nat)) : Booting s₀ r l o (s.fallBack rej) := by
  unfold State.fallBack
  split
  · exact h.boots (s.fellBack_boots _)
  · exact h

theorem Booting.runImage (h : Booting s₀ r l o s) (b : Bool) (m : Image) (a : Air) (k : LockRec) : BootEnd s₀ r (s.runImage r b m a k) := by
  unfold State.runImage
  extract_lets u g v d e
  have hg : Booting s₀ r true o g := h.image b m a k
  have hv : Booting s₀ r true o v := hg.boots (g.trainDram_frame r).boots
  have hd : BootEnd s₀ r d := (hv.boots (State.setFld_frame _ _ _ _ _).boots).halt 2
  clear_value g v d
  split
  · exact hg.halt 3
  · split
    · exact hv.bootRuns _
    · exact hd.open

/-- Whatever the flash holds, a boot ends halted or with its image applied (R564, R567). -/
theorem State.boot_ends (h : Booting s r l o (s.bootStart r)) : BootEnd s r (s.boot r) := by
  cases he : r.early with
  | false =>
    rw [State.boot_of_not_early he]
    exact h.halt 3
  | true =>
    rcases ht : s.bootTried r with ⟨rej, - | ⟨b, m, a, k⟩⟩
    · rw [State.boot_of_rejected he ht]
      exact ((h.rejects rej).boots (State.setFld_frame _ _ _ _ _).boots).halt 1
    · rw [State.boot_of_image he ht]
      exact ((h.rejects rej).fallBack rej).runImage b m a k
end
end Sys2Proof.Machine

namespace Sys2Proof.Machine

/-! ### Fields of a register written -/

section
variable {s t : State} {a hi lo : Nat}

theorem State.fld_setFld_same (h : s.Canon) (v : Nat) (hl : lo ≤ hi) (h32 : hi < 32) :
    (s.setFld a hi lo v).fld a hi lo = v % 2 ^ (hi + 1 - lo) := by
  rw [State.fld, s.rd_setFld_same _ _ _ _ h, fldOf_putFld_same _ _ _ _ hl h32]

/-- A field of the same register that does not meet the one written stays. -/
theorem State.fld_setFld_apart (h : s.Canon) (v : Nat) {hi' lo' : Nat} (hl : lo ≤ hi) (h32 : hi < 32) (hl' : lo' ≤ hi')
    (hd : hi < lo' ∨ hi' < lo) : (s.setFld a hi lo v).fld a hi' lo' = s.fld a hi' lo' := by
  rw [State.fld, s.rd_setFld_same _ _ _ _ h]
  rcases hd with hd | hd
  · exact fldOf_putFld_above _ _ _ _ hl h32 hd
  · exact fldOf_putFld_below _ _ _ _ hl h32 hl' hd

theorem Frame.fld {ps : List Part} {rs : Nat → Prop} (h : Frame s t ps rs) (ha : ¬ rs a) (hi lo : Nat) : t.fld a hi lo = s.fld a hi lo := by
  rw [State.fld, State.fld, h.2 a ha]

theorem Frame.bit {ps : List Part} {rs : Nat → Prop} (h : Frame s t ps rs) (ha : ¬ rs a) (i : Nat) : t.bit a i = s.bit a i := by
  rw [State.bit, State.bit, h.fld ha]

end

/-! ### The start of a boot -/

section
variable (s : State) (r : BootRun)

theorem State.clearLevel_frame : Frame s s.clearLevel [] (arr 80 Reg.BIA_CLEAR) :=
  Frame.ite (Frame.foldl _ (fun s c => (s.setFld_frame _ 15 0 0xFFFF).mono (by decide) (fun a h => ⟨c, c.isLt, h⟩)) _ s) (.refl ..)

theorem State.clearLevel_canon (h : s.Canon) : s.clearLevel.Canon := by
  unfold State.clearLevel
  split
  · exact s.forBias_canon _ (fun s c hs => s.setFld_canon _ _ _ _ hs) h
  · exact h

/-- Under CLRSEL every clear code is full scale (R7, R522). -/
theorem State.clearLevel_fld (h : s.Canon) (hc : s.pins.clrsel = true) (c : Fin 80) : s.clearLevel.fld (Reg.BIA_CLEAR c) 15 0 = 0xFFFF := by
  have key : ∀ (l : List (Fin 80)) (t : State), t.Canon → c ∈ l ∨ t.fld (Reg.BIA_CLEAR c) 15 0 = 0xFFFF →
      (l.foldl (fun s c => s.setFld (Reg.BIA_CLEAR c) 15 0 0xFFFF) t).fld (Reg.BIA_CLEAR c) 15 0 = 0xFFFF := by
    intro l
    induction l with
    | nil => intro t _ h; exact h.resolve_left (List.not_mem_nil)
    | cons x l ih =>
      intro t ht h
      rw [List.foldl_cons]
      refine ih (t.setFld (Reg.BIA_CLEAR x) 15 0 0xFFFF) (t.setFld_canon _ _ _ _ ht) ?_
      by_cases hx : c = x
      · subst hx
        right
        rw [State.fld_setFld_same ht _ (by decide) (by decide)]
        norm_num
      · have hne : ¬ Reg.BIA_CLEAR c = Reg.BIA_CLEAR x := by
          have := Fin.val_ne_of_ne hx
          dsimp only [Reg.BIA_CLEAR]
          omega
        rw [(t.setFld_frame (Reg.BIA_CLEAR x) 15 0 0xFFFF).fld hne]
        exact h.imp_left fun hm => (List.mem_cons.1 hm).resolve_left hx
  unfold State.clearLevel
  rw [if_pos hc]
  exact key _ s h (.inl (List.mem_finRange c))

theorem State.programmed_frame (l : List (Nat × Byte)) : Frame s (s.programmed l) [.flash] noRegs :=
  Frame.foldl _ (fun s _ => Frame.of_flash s _) l s

theorem State.programmed_canon (l : List (Nat × Byte)) (h : s.Canon) : (s.programmed l).Canon :=
  foldl_canon _ (fun s _ hs => s.flashPut_canon _ _ hs) l s h

/-- What the programmer leaves in the flash depends on the flash alone. -/
theorem State.programmed_flash {s t : State} (l : List (Nat × Byte)) (h : t.flash = s.flash) : (t.programmed l).flash = (s.programmed l).flash := by
  unfold State.programmed
  induction l generalizing s t with
  | nil => exact h
  | cons x l ih => exact ih (congrArg (fun f => tabPut (fun _ => (0xFF : Byte)) f x.1 x.2) h)

/-- The state in which a boot begins (R564). -/
def State.bootEntry : State :=
  { s with
    mode := .boot, tns := 0, tim := { s.tim with tickNo := 0, history := [] }
    kpr := { s.kpr with bootStart := s.now, octal := r.octal } }

theorem State.bootEntry_frame : Frame s (s.bootEntry r) [.mode, .tns, .tim, .kpr] noRegs :=
  ⟨fun p h => by cases p <;> simp [Part.same, State.bootEntry] at h ⊢, fun _ _ => rfl⟩

/-- The straps shown in KPR_BOOT_STAT and PKT_CASCADE (R546). -/
def State.showStraps : State :=
  (((s.setFld Reg.KPR_BOOT_STAT 6 5 s.pins.bootsel).setFld Reg.KPR_BOOT_STAT 4 3 s.pins.pos).setBit Reg.KPR_BOOT_STAT 2 s.pins.clrsel).setFld
    Reg.PKT_CASCADE 9 8 s.pins.pos

theorem State.bootStraps_eq : s.bootStraps r = ((s.bootEntry r).clearLevel.programmed r.flash).showStraps := rfl

theorem State.showStraps_frame : Frame s s.showStraps [] (fun a => a ∈ [Reg.KPR_BOOT_STAT, Reg.PKT_CASCADE]) := by
  unfold State.showStraps
  exact ((((Frame.refl s _ _).step (s.setFld_frame _ _ _ _) (by decide) (fun _ h => by simp [h])).step (State.setFld_frame _ _ _ _ _) (by decide)
    (fun _ h => by simp [h])).step (State.setBit_frame _ _ _ _) (by decide) (fun _ h => by simp [h])).step (State.setFld_frame _ _ _ _ _) (by decide)
    (fun _ h => by simp [h])

theorem State.showStraps_canon (h : s.Canon) : s.showStraps.Canon :=
  State.setFld_canon _ _ _ _ _ (State.setBit_canon _ _ _ _ (State.setFld_canon _ _ _ _ _ (s.setFld_canon _ _ _ _ h)))

end

/-- The registers in which a boot of `s` shows its straps, and the clear codes under CLRSEL (R7, R522, R546). -/
structure StrapsShown (s t : State) : Prop where
  bootsel : t.fld Reg.KPR_BOOT_STAT 6 5 = s.pins.bootsel % 4
  pos : t.fld Reg.KPR_BOOT_STAT 4 3 = s.pins.pos % 4
  clrsel : t.bit Reg.KPR_BOOT_STAT 2 = s.pins.clrsel
  cascade : t.fld Reg.PKT_CASCADE 9 8 = s.pins.pos % 4
  clear : s.pins.clrsel = true → ∀ c : Fin 80, t.fld (Reg.BIA_CLEAR c) 15 0 = 0xFFFF

section
variable {s t : State}

theorem State.showStraps_bootStat (h : s.Canon) : s.showStraps.rd Reg.KPR_BOOT_STAT =
    putFld (putFld (putFld (s.rd Reg.KPR_BOOT_STAT) 6 5 s.pins.bootsel) 4 3 s.pins.pos) 2 2 (if s.pins.clrsel then 1 else 0) := by
  have h1 := s.setFld_canon Reg.KPR_BOOT_STAT 6 5 s.pins.bootsel h
  have h2 := State.setFld_canon _ Reg.KPR_BOOT_STAT 4 3 s.pins.pos h1
  unfold State.showStraps
  rw [State.rd_setFld_other _ _ _ _ (by decide), State.rd_setBit_same _ _ _ _ h2, State.rd_setFld_same _ _ _ _ _ h1,
    State.rd_setFld_same _ _ _ _ _ h]

theorem State.showStraps_shown (h : s.Canon) (hc : s.pins.clrsel = true → ∀ c : Fin 80, s.fld (Reg.BIA_CLEAR c) 15 0 = 0xFFFF) :
    StrapsShown s s.showStraps where
  bootsel := by
    rw [State.fld, s.showStraps_bootStat h, fldOf_putFld_above _ _ _ _ (by decide) (by decide) (by decide),
      fldOf_putFld_above _ _ _ _ (by decide) (by decide) (by decide), fldOf_putFld_same _ _ _ _ (by decide) (by decide)]
    rfl
  pos := by
    rw [State.fld, s.showStraps_bootStat h, fldOf_putFld_above _ _ _ _ (by decide) (by decide) (by decide),
      fldOf_putFld_same _ _ _ _ (by decide) (by decide)]
    rfl
  clrsel := by
    rw [State.bit, State.fld, s.showStraps_bootStat h, fldOf_putFld_same _ _ _ _ (by decide) (by decide)]
    cases s.pins.clrsel <;> decide
  cascade := by
    have hk := State.setBit_canon _ Reg.KPR_BOOT_STAT 2 s.pins.clrsel (State.setFld_canon _ Reg.KPR_BOOT_STAT 4 3 s.pins.pos
      (s.setFld_canon Reg.KPR_BOOT_STAT 6 5 s.pins.bootsel h))
    exact State.fld_setFld_same hk _ (by decide) (by decide)
  clear hcl c := by
    have hne : ∀ c : Fin 80, Reg.BIA_CLEAR c ∉ [Reg.KPR_BOOT_STAT, Reg.PKT_CASCADE] := by decide
    rw [s.showStraps_frame.fld (hne c)]
    exact hc hcl c

/-- What shows the straps is left alone by a frame of other registers. -/
theorem StrapsShown.of_frame {u : State} {ps : List Part} {rs : Nat → Prop} (h : StrapsShown s t) (f : Frame t u ps rs)
    (h1 : ¬ rs Reg.KPR_BOOT_STAT) (h2 : ¬ rs Reg.PKT_CASCADE) (h3 : ∀ c : Fin 80, ¬ rs (Reg.BIA_CLEAR c)) : StrapsShown s u where
  bootsel := (f.fld h1 6 5).trans h.bootsel
  pos := (f.fld h1 4 3).trans h.pos
  clrsel := (f.bit h1 2).trans h.clrsel
  cascade := (f.fld h2 9 8).trans h.cascade
  clear hc c := (f.fld (h3 c) 15 0).trans (h.clear hc c)

theorem StrapsShown.of_pins {u : State} (h : StrapsShown t u) (hp : t.pins = s.pins) : StrapsShown s u where
  bootsel := hp ▸ h.bootsel
  pos := hp ▸ h.pos
  clrsel := hp ▸ h.clrsel
  cascade := hp ▸ h.cascade
  clear := hp ▸ h.clear

/-- KPR_BOOT_STAT above the straps may change. -/
theorem StrapsShown.setStat (h : StrapsShown s t) (ht : t.Canon) {hi lo : Nat} (v : Nat) (h7 : 7 ≤ lo) (hl : lo ≤ hi) (h32 : hi < 32) :
    StrapsShown s (t.setFld Reg.KPR_BOOT_STAT hi lo v) where
  bootsel := (State.fld_setFld_apart ht v hl h32 (by decide) (by omega)).trans h.bootsel
  pos := (State.fld_setFld_apart ht v hl h32 (by decide) (by omega)).trans h.pos
  clrsel := by
    rw [← h.clrsel, State.bit, State.bit, State.fld_setFld_apart ht v hl h32 (by decide) (by omega)]
  cascade := ((t.setFld_frame _ _ _ _).fld (by decide) 9 8).trans h.cascade
  clear hc c := ((t.setFld_frame _ _ _ _).fld (by dsimp only [Reg.BIA_CLEAR, Reg.KPR_BOOT_STAT]; omega) 15 0).trans (h.clear hc c)

end

/-- The registers of the start of a boot (R546, R547, R564). -/
def bootRegs (a : Nat) : Prop :=
  a ∈ [Reg.KPR_BOOT_NEXT, Reg.KPR_BOOT_STAT, Reg.PKT_CASCADE, Reg.SYN_LOCK_STAT] ∨ arr 80 Reg.BIA_CLEAR a

/-- A boot that began in `s` and whose first two PLLs have been tried (R112, R564): what it shows, and what it leaves alone beside the
parts of `ps`. -/
structure BootShown (s : State) (r : BootRun) (ps : List Part) (t : State) : Prop extends StrapsShown s t where
  canon : t.Canon
  next : t.rd Reg.KPR_BOOT_NEXT = 0
  locks : ∀ k : Fin 4, k.val < 2 → t.bit Reg.SYN_LOCK_STAT k = r.locked k ∧ t.clk.plls[k].locked = r.locked k
  mode : t.mode = .boot
  tns : t.tns = 0
  flash : t.flash = (s.programmed r.flash).flash
  keeper : ∃ fa fb, t.kpr = { s.kpr with bootStart := s.now, octal := r.octal, failA := fa, failB := fb }
  frame : Frame s t ps bootRegs

section
variable {s t u : State} {r : BootRun} {ps : List Part}

theorem State.coldLock_canon (r : BootRun) (k : Fin 4) (h : s.Canon) : (s.coldLock r k).Canon :=
  State.setBit_canon (s.setPll k _) _ _ _ h

theorem State.coldLock_same (r : BootRun) (k : Fin 4) (h : s.Canon) :
    (s.coldLock r k).bit Reg.SYN_LOCK_STAT k = r.locked k ∧ (s.coldLock r k).clk.plls[k].locked = r.locked k := by
  refine ⟨State.bit_setBit_same (s.setPll k _) _ _ _ (by omega) h, ?_⟩
  simp [State.coldLock, State.setLock, State.setPll, upd]

theorem State.coldLock_other (r : BootRun) {k j : Fin 4} (h : s.Canon) (hj : j ≠ k) :
    (s.coldLock r k).bit Reg.SYN_LOCK_STAT j = s.bit Reg.SYN_LOCK_STAT j ∧ (s.coldLock r k).clk.plls[j].locked = s.clk.plls[j].locked := by
  have hv := Fin.val_ne_of_ne hj
  refine ⟨?_, ?_⟩
  · have h' : (s.setPll k fun x => { x with locked := r.locked k }).Canon := h
    rw [State.bit, State.bit]
    exact congrArg (decide <| · = 1) (State.fld_setFld_apart h' _ (Nat.le_refl _) (by omega) (Nat.le_refl _) (by omega))
  · simp [State.coldLock, State.setLock, State.setPll, upd, hv.symm]

theorem State.bootStraps_frame_bootEntry (s : State) (r : BootRun) : Frame (s.bootEntry r) (s.bootStraps r) [.flash] bootRegs := by
  rw [State.bootStraps_eq]
  exact (((Frame.refl _ _ _).step (State.clearLevel_frame _) (by decide) (fun _ h => .inr h)).part (State.programmed_frame _ _) (by decide)).step
    (State.showStraps_frame _) (by decide) (fun a h => .inl (by
      simp only [List.mem_cons, List.not_mem_nil, or_false] at h ⊢
      tauto))

theorem State.bootStraps_frame (s : State) (r : BootRun) : Frame s (s.bootStraps r) [.mode, .tns, .tim, .kpr, .flash] bootRegs :=
  ((Frame.refl s _ _).part (s.bootEntry_frame r) (by decide)).step (s.bootStraps_frame_bootEntry r) (by decide) (fun _ h => h)

theorem State.bootStraps_canon (r : BootRun) (h : s.Canon) : (s.bootStraps r).Canon :=
  State.showStraps_canon _ (State.programmed_canon _ _ (State.clearLevel_canon _ h))

theorem State.bootStraps_shown (r : BootRun) (h : s.Canon) : StrapsShown s (s.bootStraps r) := by
  rw [State.bootStraps_eq]
  have hf := (s.bootEntry r).clearLevel.programmed_frame r.flash
  have hp : ((s.bootEntry r).clearLevel.programmed r.flash).pins = s.pins :=
    ((s.bootEntry r).clearLevel_frame.1 .pins (by decide)).trans (hf.1 .pins (by decide))
  have hs := State.showStraps_shown (State.programmed_canon (s.bootEntry r).clearLevel r.flash (State.clearLevel_canon _ h)) fun hc c => by
    rw [hf.fld (fun h => h)]
    exact (s.bootEntry r).clearLevel_fld h (hp ▸ hc) c
  exact hs.of_pins hp

theorem State.bootStraps_flash (s : State) (r : BootRun) : (s.bootStraps r).flash = (s.programmed r.flash).flash := by
  rw [State.bootStraps_eq]
  exact Eq.trans ((State.showStraps_frame _).1 .flash (by decide)) (State.programmed_flash _ ((s.bootEntry r).clearLevel_frame.1 .flash (by decide)))

/-- The parts that the start of a boot may change. -/
abbrev bootParts : List Part := [.mode, .clk, .kpr, .tim, .tns, .flash]

/-- KPR_BOOT_NEXT is taken, and the first boot step reached (R547, R564). -/
def State.bootTaken (s : State) : State := (s.wr Reg.KPR_BOOT_NEXT 0).bootStep 1

theorem State.bootTaken_frame (s : State) : Frame s s.bootTaken [] bootRegs :=
  ((Frame.refl s _ _).step (s.wr_frame _ _) (by decide) (fun _ h => .inl (by simp [h]))).step (State.setFld_frame _ _ _ _ _) (by decide)
    (fun _ h => .inl (by simp [h]))

theorem State.bootTaken_canon (h : s.Canon) : s.bootTaken.Canon := State.setFld_canon _ _ _ _ _ (s.wr_canon _ _ h)

theorem State.bootTaken_next (h : s.Canon) : s.bootTaken.rd Reg.KPR_BOOT_NEXT = 0 :=
  (State.rd_setFld_other _ _ _ _ (by decide)).trans (s.rd_wr_same _ _ h)

theorem StrapsShown.bootTaken (h : StrapsShown s t) (ht : t.Canon) : StrapsShown s t.bootTaken := by
  have hw : StrapsShown s (t.wr Reg.KPR_BOOT_NEXT 0) := h.of_frame (t.wr_frame _ _) (by decide) (by decide) (by decide)
  exact hw.setStat (t.wr_canon _ _ ht) 1 (by decide) (by decide) (by decide)

/-- Both PLLs that a boot tries first (R112). -/
def State.firstLocks (s : State) (r : BootRun) : State := (s.coldLock r 0).coldLock r 1

theorem State.firstLocks_frame (s : State) (r : BootRun) : Frame s (s.firstLocks r) [.clk] (· = Reg.SYN_LOCK_STAT) :=
  (s.coldLock_frame r 0).trans (State.coldLock_frame _ r 1)

theorem State.firstLocks_locked (r : BootRun) (h : s.Canon) (k : Fin 4) (hk : k.val < 2) :
    (s.firstLocks r).bit Reg.SYN_LOCK_STAT k = r.locked k ∧ (s.firstLocks r).clk.plls[k].locked = r.locked k := by
  have h0 := s.coldLock_canon r 0 h
  obtain rfl | rfl : k = 0 ∨ k = 1 := by omega
  · have ho := State.coldLock_other (s := s.coldLock r 0) r (k := 1) (j := 0) h0 (by decide)
    have hs := s.coldLock_same r 0 h
    exact ⟨ho.1.trans hs.1, ho.2.trans hs.2⟩
  · exact State.coldLock_same r 1 h0

theorem State.bootStart_eq (s : State) (r : BootRun) : s.bootStart r = (s.bootStraps r).bootTaken.firstLocks r := rfl

theorem State.bootStart_shown (r : BootRun) (h : s.Canon) : BootShown s r bootParts (s.bootStart r) := by
  rw [State.bootStart_eq]
  have hb := s.bootStraps_canon r h
  have ht := (s.bootStraps r).bootTaken_canon hb
  have f1 := s.bootStraps_frame_bootEntry r
  have f2 := (s.bootStraps r).bootTaken_frame
  have f3 := (s.bootStraps r).bootTaken.firstLocks_frame r
  have hs := ((s.bootStraps_shown r h).bootTaken hb).of_frame f3 (by decide) (by decide) (by decide)
  have f : Frame (s.bootEntry r) ((s.bootStraps r).bootTaken.firstLocks r) [.clk, .flash] bootRegs :=
    ((f1.mono (by decide) (fun _ h => h)).step f2 (by decide) (fun _ h => h)).step f3 (by decide) (fun _ h => .inl (by simp [h]))
  exact {
    hs with
    canon := State.coldLock_canon r 1 (State.coldLock_canon r 0 ht)
    next := (f3.2 _ (by decide)).trans (State.bootTaken_next hb)
    locks := State.firstLocks_locked r ht
    mode := f.1 .mode (by decide)
    tns := f.1 .tns (by decide)
    flash := Eq.trans ((f2.1 .flash (by decide)).trans (f3.1 .flash (by decide))) (s.bootStraps_flash r)
    keeper := ⟨s.kpr.failA, s.kpr.failB, f.1 .kpr (by decide)⟩
    frame := ((Frame.refl s _ _).part (s.bootEntry_frame r) (by decide)).step f (by decide) (fun _ h => h) }

end
end Sys2Proof.Machine

namespace Sys2Proof.Machine

/-! ### A boot that halts -/

section
variable {s t u : State} {r : BootRun} {ps : List Part}

/-- A frame of registers and of the parts named keeps the canonical form where the registers' table is known. -/
theorem Frame.canon {qs : List Part} {rs : Nat → Prop} (f : Frame t u qs rs) (h : State.Canon { t with regs := u.regs })
    (hm : Part.mem ∉ qs := by decide) (hs : Part.store ∉ qs := by decide) (hf : Part.flash ∉ qs := by decide) : u.Canon := by
  have em : u.mem = t.mem := f.1 .mem hm
  have es : u.store = t.store := f.1 .store hs
  have ef : u.flash = t.flash := f.1 .flash hf
  exact h.of_tables rfl (by rw [em]) (by rw [em]) es ef (by rw [em])

/-- A further field of KPR_BOOT_STAT, above the straps, in the course of a boot (R556, R564). -/
theorem BootShown.stat {qs : List Part} (h : BootShown s r ps t) {hi lo v : Nat} (hr : u.regs = (t.setFld Reg.KPR_BOOT_STAT hi lo v).regs)
    (h7 : 7 ≤ lo) (hl : lo ≤ hi) (h32 : hi < 32) (f : Frame t u qs (· = Reg.KPR_BOOT_STAT))
    (hk : ∃ fa fb, u.kpr = { t.kpr with failA := fa, failB := fb }) (hq : qs ⊆ [.freeIdx, .kpr] := by decide) (hp : qs ⊆ ps := by decide) :
    BootShown s r ps u := by
  have hn : ∀ p ∈ ([.mode, .tns, .flash, .clk, .mem, .store] : List Part), p ∉ qs := by
    have hd : ∀ p ∈ ([.mode, .tns, .flash, .clk, .mem, .store] : List Part), p ∉ ([.freeIdx, .kpr] : List Part) := by decide
    exact fun p hm hq' => hd p hm (hq hq')
  have hrd : ∀ a, u.rd a = (t.setFld Reg.KPR_BOOT_STAT hi lo v).rd a := fun a => by rw [State.rd, hr]; rfl
  have hfld : ∀ a x y, u.fld a x y = (t.setFld Reg.KPR_BOOT_STAT hi lo v).fld a x y := fun a x y => by rw [State.fld, hrd]; rfl
  have hset := h.toStrapsShown.setStat h.canon v h7 hl h32
  have hclk : u.clk = t.clk := f.1 .clk (hn _ (by decide))
  obtain ⟨fa, fb, hkpr⟩ := h.keeper
  obtain ⟨fa', fb', hk⟩ := hk
  exact {
    bootsel := (hfld ..).trans hset.bootsel
    pos := (hfld ..).trans hset.pos
    clrsel := by rw [State.bit, hfld]; exact hset.clrsel
    cascade := (hfld ..).trans hset.cascade
    clear := fun hc c => (hfld ..).trans (hset.clear hc c)
    canon := f.canon (by rw [hr]; exact t.setFld_canon _ _ _ _ h.canon) (hn _ (by decide)) (hn _ (by decide)) (hn _ (by decide))
    next := (f.2 _ (by decide)).trans h.next
    locks := fun k hk => ⟨(f.bit (by decide) k).trans (h.locks k hk).1, by rw [hclk]; exact (h.locks k hk).2⟩
    mode := Eq.trans (f.1 .mode (hn _ (by decide))) h.mode
    tns := Eq.trans (f.1 .tns (hn _ (by decide))) h.tns
    flash := Eq.trans (f.1 .flash (hn _ (by decide))) h.flash
    keeper := ⟨fa', fb', by rw [hk, hkpr]⟩
    frame := h.frame.step f hp (fun a ha => .inl (by simp [ha])) }

theorem BootShown.bootStep (h : BootShown s r ps t) (n : Nat) : BootShown s r ps (t.bootStep n) :=
  h.stat (qs := []) rfl (by decide) (by decide) (by decide) (t.setFld_frame _ 19 16 n) ⟨_, _, rfl⟩ (by decide) (List.nil_subset _)

theorem BootShown.noteReject (h : BootShown s r (.freeIdx :: bootParts) t) (x : Bool × Nat) :
    BootShown s r (.freeIdx :: bootParts) (t.noteReject x) := by
  obtain ⟨b, c⟩ := x
  have f := t.noteReject_frame (b, c)
  have hk := t.noteReject_kpr (b, c)
  have hr := t.noteReject_regs (b, c)
  cases b with
  | false => exact h.stat hr (by decide) (by decide) (by decide) f hk
  | true => exact h.stat hr (by decide) (by decide) (by decide) f hk

/-- What a boot that has halted shows (R557). -/
structure BootHalt (s : State) (r : BootRun) (c : Nat) (ps : List Part) (t : State) : Prop extends StrapsShown s t where
  halted : t.bit Reg.KPR_BOOT_STAT 31 = true
  cause : t.fld Reg.KPR_BOOT_STAT 29 28 = c
  next : t.rd Reg.KPR_BOOT_NEXT = 0
  locks : ∀ k : Fin 4, k.val < 2 → t.bit Reg.SYN_LOCK_STAT k = r.locked k ∧ t.clk.plls[k].locked = r.locked k
  mode : t.mode = .boot
  tns : t.tns = 0
  flash : t.flash = (s.programmed r.flash).flash
  haltedAt : t.kpr.haltedAt = some s.now
  loaded : t.kpr.imageLoaded = false
  opened : t.kpr.writesOpen = s.kpr.writesOpen
  fails : t.kpr.unlockFails = s.kpr.unlockFails
  frame : Frame s t (.rcd :: ps) (fun a => bootRegs a ∨ eventRegs 0x0002 a)

theorem BootShown.halt (h : BootShown s r ps t) {c : Nat} (hc : c < 4) (hk : Part.kpr ∈ ps := by decide) (hn : Part.now ∉ ps := by decide) :
    BootHalt s r c ps (t.halt c) := by
  have hb : StrapsShown s (t.setBit Reg.KPR_BOOT_STAT 31 true) := h.toStrapsShown.setStat h.canon _ (by decide) (by decide) (by decide)
  have hs : StrapsShown s (t.showHalt c) := hb.setStat (t.setBit_canon _ _ _ h.canon) c (by decide) (by decide) (by decide)
  have f := t.halt_frame_showHalt c
  have g := t.halt_frame c
  have hb := t.halt_bootStat c h.canon
  have hclk : (t.halt c).clk = t.clk := g.1 .clk (by decide)
  obtain ⟨fa, fb, hkpr⟩ := h.keeper
  have hnow : t.now = s.now := h.frame.1 .now hn
  exact {
    hs.of_frame f (by decide) (by decide) (by decide) with
    halted := by
      rw [State.bit, State.fld, hb, fldOf_putFld_above _ _ _ _ (by decide) (by decide) (by decide), fldOf_putFld_same _ _ _ _ (by decide) (by decide)]
      rfl
    cause := by
      rw [State.fld, hb, fldOf_putFld_same _ _ _ _ (by decide) (by decide)]
      exact Nat.mod_eq_of_lt hc
    next := (g.2 _ (by decide)).trans h.next
    locks := fun k hk => ⟨(g.bit (by decide) k).trans (h.locks k hk).1, by rw [hclk]; exact (h.locks k hk).2⟩
    mode := Eq.trans (g.1 .mode (by decide)) h.mode
    tns := Eq.trans (g.1 .tns (by decide)) h.tns
    flash := Eq.trans (g.1 .flash (by decide)) h.flash
    haltedAt := by rw [t.halt_kpr, hnow]
    loaded := by rw [t.halt_kpr]
    opened := by rw [t.halt_kpr, hkpr]
    fails := by rw [t.halt_kpr, hkpr]
    frame := ((h.frame.mono (List.subset_cons_self _ _) fun _ h => .inl h).step g (by simp [hk]) (fun a ha => by
      rcases ha with ha | ha
      · exact .inl (.inl (by simp [ha]))
      · exact .inr ha)) }

/-- The code with which image `b`, B where it is true, was rejected (R556). -/
def State.rejectCode (s : State) (b : Bool) : Nat := if b then s.fld Reg.KPR_BOOT_STAT 14 12 else s.fld Reg.KPR_BOOT_STAT 10 8

/-- A field of KPR_BOOT_STAT beside the codes leaves them. -/
theorem State.rejectCode_setFld (h : s.Canon) {hi lo : Nat} (v : Nat) (h15 : 15 ≤ lo) (hl : lo ≤ hi) (h32 : hi < 32) (b : Bool) :
    (s.setFld Reg.KPR_BOOT_STAT hi lo v).rejectCode b = s.rejectCode b := by
  unfold State.rejectCode
  rw [State.fld_setFld_apart h v hl h32 (by decide) (by omega), State.fld_setFld_apart h v hl h32 (by decide) (by omega)]

theorem State.rejectCode_congr (h : t.rd Reg.KPR_BOOT_STAT = s.rd Reg.KPR_BOOT_STAT) (b : Bool) : t.rejectCode b = s.rejectCode b := by
  unfold State.rejectCode State.fld
  rw [h]

theorem State.rejectCode_noteReject (h : s.Canon) (x : Bool × Nat) (b : Bool) :
    (s.noteReject x).rejectCode b = if x.1 = b then x.2 % 8 else s.rejectCode b := by
  obtain ⟨a, c⟩ := x
  have hr : (s.noteReject (a, c)).rd Reg.KPR_BOOT_STAT =
      (if a then s.setFld Reg.KPR_BOOT_STAT 14 12 c else s.setFld Reg.KPR_BOOT_STAT 10 8 c).rd Reg.KPR_BOOT_STAT := by
    rw [State.rd, s.noteReject_regs]
    rfl
  rw [State.rejectCode_congr hr]
  cases a <;> cases b
  · exact State.fld_setFld_same h c (by decide) (by decide)
  · exact State.fld_setFld_apart h c (by decide) (by decide) (by decide) (by decide)
  · exact State.fld_setFld_apart h c (by decide) (by decide) (by decide) (by decide)
  · exact State.fld_setFld_same h c (by decide) (by decide)

theorem State.noteReject_canon (h : s.Canon) (x : Bool × Nat) : (s.noteReject x).Canon := by
  refine (s.noteReject_frame x).canon ?_
  rw [s.noteReject_regs]
  split
  · exact s.setFld_canon _ _ _ _ h
  · exact s.setFld_canon _ _ _ _ h

/-- Images that could not be read all show code 1 (R556). -/
theorem State.rejectCode_unreadable (h : s.Canon) (l : List Bool) (b : Bool) (hb : b ∈ l ∨ s.rejectCode b = 1) :
    ((l.map fun b => (b, 1)).foldl State.noteReject s).rejectCode b = 1 := by
  induction l generalizing s with
  | nil => exact hb.resolve_left List.not_mem_nil
  | cons a l ih =>
    refine ih (s.noteReject_canon h (a, 1)) ?_
    rw [State.rejectCode_noteReject h]
    by_cases hab : a = b
    · refine .inr ?_
      rw [if_pos hab]
      rfl
    · rw [if_neg hab]
      exact hb.imp_left fun hm => (List.mem_cons.1 hm).resolve_left fun e => hab e.symm

theorem State.tryImages_unreadable (s : State) (ha : r.readA = false) (hb : r.readB = false) (l : List Bool) (rej : List (Bool × Nat)) :
    s.tryImages r l rej = (rej ++ l.map fun b => (b, 1), none) := by
  induction l generalizing rej with
  | nil => simp [State.tryImages]
  | cons b l ih =>
    have hj : s.judgeImage (if b then r.readB else r.readA) b = .inl 1 := by
      rw [ha, hb]
      simp [State.judgeImage]
    rw [State.tryImages, hj]
    exact (ih _).trans (by simp)

theorem State.bootImages_eq (s : State) (r : BootRun) : s.bootImages r = bootOrder s.pins.bootsel (s.fld Reg.KPR_BOOT_NEXT 1 0) := by
  have hp : (s.bootStraps r).pins = s.pins := (s.bootStraps_frame r).1 .pins (by decide)
  have hc : ¬ arr 80 Reg.BIA_CLEAR Reg.KPR_BOOT_NEXT := by
    rintro ⟨i, -, hi⟩
    dsimp only [Reg.BIA_CLEAR, Reg.KPR_BOOT_NEXT] at hi
    omega
  have hn : (s.bootStraps r).fld Reg.KPR_BOOT_NEXT 1 0 = s.fld Reg.KPR_BOOT_NEXT 1 0 := by
    rw [State.bootStraps_eq, (State.showStraps_frame _).fld (by decide), (State.programmed_frame _ _).fld (fun h => h),
      (State.clearLevel_frame _).fld hc]
    rfl
  rw [State.bootImages, hp, hn]

theorem BootShown.rejects (h : BootShown s r (.freeIdx :: bootParts) t) (l : List (Bool × Nat)) :
    BootShown s r (.freeIdx :: bootParts) (l.foldl State.noteReject t) := by
  induction l generalizing t with
  | nil => exact h
  | cons x l ih => exact ih (h.noteReject x)

theorem BootShown.mono (h : BootShown s r ps t) {qs : List Part} (hp : ps ⊆ qs) : BootShown s r qs t :=
  { h with frame := h.frame.mono hp fun _ h => h }

/-- Without GPLL and TPLL a boot halts with cause CLOCK (R566). -/
theorem State.boot_clock (h : s.Canon) (he : r.early = false) : BootHalt s r 3 bootParts (s.boot r) := by
  rw [State.boot_of_not_early he]
  exact (s.bootStart_shown r h).halt (by decide)

/-- A boot whose images cannot be read halts with cause IMAGE (R556, R557). -/
theorem State.boot_unreadable (h : s.Canon) (he : r.early = true) (ha : r.readA = false) (hb : r.readB = false) :
    BootHalt s r 1 (.freeIdx :: bootParts) (s.boot r) ∧
      ∀ b ∈ bootOrder s.pins.bootsel (s.fld Reg.KPR_BOOT_NEXT 1 0), (s.boot r).rejectCode b = 1 := by
  have ht : s.bootTried r = ((s.bootImages r).map fun b => (b, 1), none) := State.tryImages_unreadable _ ha hb _ []
  have hs := ((s.bootStart_shown r h).mono (List.subset_cons_self _ _)).rejects ((s.bootImages r).map fun b => (b, 1))
  have hc := State.rejectCode_unreadable (s.bootStart_shown r h).canon (s.bootImages r)
  rw [State.boot_of_rejected he ht]
  rw [← s.bootImages_eq r]
  generalize ((s.bootImages r).map fun b => (b, 1)).foldl State.noteReject (s.bootStart r) = u at hs hc ⊢
  generalize 2 + ((s.bootImages r).map fun b => (b, 1)).length = n
  have hs2 := hs.bootStep n
  refine ⟨hs2.halt (by decide), fun b hm => ?_⟩
  have hh : ((u.bootStep n).halt 1).rd Reg.KPR_BOOT_STAT = ((u.bootStep n).showHalt 1).rd Reg.KPR_BOOT_STAT :=
    (State.halt_frame_showHalt _ 1).2 _ (by decide)
  rw [State.rejectCode_congr hh, State.showHalt, State.rejectCode_setFld (State.setBit_canon _ _ _ _ hs2.canon) _ (by decide) (by decide) (by decide),
    State.setBit, State.rejectCode_setFld hs2.canon _ (by decide) (by decide) (by decide), State.bootStep,
    State.rejectCode_setFld hs.canon _ (by decide) (by decide) (by decide)]
  exact hc b (.inl hm)

/-- Where no boot has halted before, the start of one is a boot under way (R564). -/
theorem State.bootStart_booting (h : s.Canon) (hh : s.kpr.haltedAt = none) :
    Booting s r s.kpr.imageLoaded s.kpr.writesOpen (s.bootStart r) := by
  have hs := s.bootStart_shown r h
  obtain ⟨fa, fb, hk⟩ := hs.keeper
  have hf : (s.bootStart r).fuses = s.fuses := hs.frame.1 .fuses (by decide)
  exact ⟨fun p hp => hs.frame.1 p (by revert p; decide), hs.flash, by simp [State.bootMarks, hk, hf, hh], hs.mode⟩

theorem State.boot_end (h : s.Canon) (hh : s.kpr.haltedAt = none) (r : BootRun) : BootEnd s r (s.boot r) :=
  State.boot_ends (State.bootStart_booting h hh)

end
end Sys2Proof.Machine

namespace Sys2Proof.Machine

/-! ### A reset -/

section
variable (s : State)

theorem State.raise_raised (c : Nat) (l : List (Nat × Nat)) : Raised s (s.raise c l) c l := fun h =>
  ⟨_, by rw [s.raise_queue c l h]; exact (mem_insertEvent ..).2 (.inl rfl), rfl, rfl⟩

/-- A reset: the registers of R586 and R610 stay, and every other takes its reset value (R7, R548). -/
theorem State.rd_chipReset (a : Nat) : s.chipReset.rd a = if keptReg a then s.rd a else resetWord a :=
  tabGet_filter resetWord keptReg s.regs a

/-- The parts that a reset brings to their reset states (R489, R548). -/
abbrev resetParts : List Part := [.air, .paths, .clk, .dpd, .seq, .bias, .hka, .tim, .dfe, .pkt, .bmx, .ulr, .kte, .tns]

/-- The parts that a reset keeps, the pins aside. -/
abbrev keptParts : List Part := [.now, .fuses, .prod, .store, .flash, .freeIdx, .out, .pending]

theorem State.chipReset_resets (p : Part) (hp : p ∈ resetParts) : p.same State.reset s.chipReset := by
  cases p <;> simp at hp <;> rfl

theorem State.chipReset_keeps (p : Part) (hp : p ∈ keptParts) : p.same s s.chipReset := by
  cases p <;> simp at hp <;> rfl

end

/-- No register that a reset keeps follows a cancelled alignment, but for the count of lost events. -/
theorem not_keptReg_of_alignRegs {a : Nat} (h : alignRegs a) : keptReg a = false := by
  rcases h with rfl | rfl | rfl | rfl | rfl
  all_goals decide

/-- BOOT entered by a reset (R548, R559, R567, R586, R610). -/
structure ResetBoot (s : State) (fails : Nat) (t : State) : Prop where
  resets : ∀ p ∈ resetParts, p.same State.reset t
  keeps : ∀ p ∈ keptParts, p.same s t
  mem : t.mem = { cells := s.mem.cells.filter fun x => keptCell x.1 }
  mode : t.mode = .boot
  pins : t.pins = { s.pins with xspiHiZ := false }
  kpr : t.kpr =
    { shelving := s.kpr.shelving, wakeHeld := s.kpr.wakeHeld, pwrFell := s.kpr.pwrFell, pwrRose := s.kpr.pwrRose, unlockFails := fails }
  counted : Counted s t (Reg.KPR_LT 10) 1
  regs : ∀ a, ¬ (a ∈ [Reg.KPR_LT 10] ∨ eventRegs 0x0003 a) → t.rd a = if keptReg a then s.rd a else resetWord a
  raised : s.mode ≠ .boot → s.mode ≠ .ready → Raised s t 0x0003 [(1, modeCode s.mode), (1, 1)]
  canon : t.Canon

section
variable {s t : State}

/-- What a cancelled alignment leaves to a reset (R123, R450). -/
theorem State.chipReset_cancelAlign (h : Frame s t [.rcd, .tim] alignRegs) :
    (∀ p ∈ keptParts, p.same s t.chipReset) ∧ t.chipReset.mem = { cells := s.mem.cells.filter fun x => keptCell x.1 } ∧
      t.chipReset.pins = { s.pins with xspiHiZ := false } ∧
      t.chipReset.kpr = { shelving := s.kpr.shelving, wakeHeld := s.kpr.wakeHeld, pwrFell := s.kpr.pwrFell, pwrRose := s.kpr.pwrRose } ∧
      ∀ a, t.chipReset.rd a = if keptReg a then s.rd a else resetWord a := by
  have hm : t.mem = s.mem := h.1 .mem (by decide)
  have hp : t.pins = s.pins := h.1 .pins (by decide)
  have hk : t.kpr = s.kpr := h.1 .kpr (by decide)
  refine ⟨fun p hp => (h.1 p (by revert p; decide)).trans (t.chipReset_keeps p hp), by rw [← hm]; rfl, by rw [← hp]; rfl, by rw [← hk]; rfl,
    fun a => ?_⟩
  rw [t.rd_chipReset]
  split
  · next hk => exact h.2 a fun ha => by simp [not_keptReg_of_alignRegs ha] at hk
  · rfl

theorem State.cancelAlign_canon (h : s.Canon) : s.cancelAlign.Canon := by
  have hr : ∀ (t : State) (d : Nat), t.Canon → (t.alignRefused d).Canon := fun t d ht =>
    State.raiseEffect_canon _ _ _ (t.bump_canon _ ht)
  have hr' : ∀ (t : State) (x : Tim) (d : Nat), t.Canon → (({ t with tim := x } : State).alignRefused d).Canon := fun t x d ht =>
    hr { t with tim := x } d ht
  unfold State.cancelAlign
  extract_lets t x u
  have ht : t.Canon := State.setBit_canon _ _ _ _ (s.setBit_canon _ _ _ h)
  clear_value t
  have hu : u.Canon := by
    show (if _ then _ else _ : State).Canon
    split
    · exact hr' t _ _ ht
    · exact h
  split
  · exact hr _ _ (u.setBit_canon _ _ _ hu)
  · exact hu

/-- BOOT entered: a boot is counted, and the unlock failures held (R579, R596). -/
def State.countBoot (s : State) (fails : Nat) : State :=
  { s.bump (Reg.KPR_LT 10) with kpr := { (s.bump (Reg.KPR_LT 10)).kpr with unlockFails := fails } }

theorem State.countBoot_frame (s : State) (fails : Nat) : Frame s (s.countBoot fails) [.kpr] (· = Reg.KPR_LT 10) :=
  ((Frame.refl s _ _).step (s.bump_frame _) (by decide) (fun _ h => h)).part (Frame.of_kpr _ _) (by decide)

theorem State.countBoot_kpr (s : State) (fails : Nat) : (s.countBoot fails).kpr = { s.kpr with unlockFails := fails } := by
  have h : (s.bump (Reg.KPR_LT 10)).kpr = s.kpr := (s.bump_frame _).1 .kpr (by decide)
  rw [← h]
  rfl

theorem State.countBoot_counted (h : s.Canon) (fails : Nat) : Counted s (s.countBoot fails) (Reg.KPR_LT 10) 1 := s.rd_bump_same _ h

theorem State.countBoot_canon (h : s.Canon) (fails : Nat) : (s.countBoot fails).Canon := s.bump_canon _ h

theorem State.toBoot_resets (h : s.Canon) (fails : Nat) : ResetBoot s fails (s.toBoot fails) := by
  unfold State.toBoot
  extract_lets old t
  have ha : Frame s t [.rcd, .tim] alignRegs := Frame.ite s.cancelAlign_frame (.refl ..)
  have ht : t.Canon := by
    show (if _ then _ else _ : State).Canon
    split
    · exact s.cancelAlign_canon h
    · exact h
  have hst : s.mode ≠ .ready → t = s := fun hn => if_neg hn
  clear_value t
  obtain ⟨hkeep, hmem, hpins, hkpr, hregs⟩ := State.chipReset_cancelAlign ha
  have hres := t.chipReset_resets
  have hrcd : t.chipReset.rcd = t.rcd := rfl
  have hmode : t.chipReset.mode = .boot := rfl
  have hc := t.chipReset_canon ht
  show ResetBoot s fails (if old = .boot then t.chipReset.countBoot fails else (t.chipReset.countBoot fails).raise 0x0003 [(1, modeCode old), (1, 1)])
  generalize t.chipReset = c at *
  have f1 := c.countBoot_frame fails
  have f2 : Frame (c.countBoot fails)
      (if old = .boot then c.countBoot fails else (c.countBoot fails).raise 0x0003 [(1, modeCode old), (1, 1)]) [.rcd] (eventRegs 0x0003) :=
    Frame.ite (.refl ..) (State.raise_frame _ _ _)
  have hraise : old ≠ .boot → (if old = .boot then c.countBoot fails else (c.countBoot fails).raise 0x0003 [(1, modeCode old), (1, 1)]) =
    (c.countBoot fails).raise 0x0003 [(1, modeCode old), (1, 1)] := fun hn => if_neg hn
  have hcanon : (if old = .boot then c.countBoot fails else (c.countBoot fails).raise 0x0003 [(1, modeCode old), (1, 1)]).Canon := by
    split
    · exact c.countBoot_canon hc fails
    · exact State.raise_canon _ _ _ (c.countBoot_canon hc fails)
  generalize (if old = .boot then c.countBoot fails else (c.countBoot fails).raise 0x0003 [(1, modeCode old), (1, 1)]) = v at f2 hraise hcanon ⊢
  have f : Frame c v [.kpr, .rcd] (fun a => a = Reg.KPR_LT 10 ∨ eventRegs 0x0003 a) :=
    (f1.mono (by decide) (fun _ h => .inl h)).step f2 (by decide) (fun _ h => .inr h)
  have hres' : ∀ p ∈ resetParts, p ∉ ([.kpr, .rcd] : List Part) := by decide
  have hkeep' : ∀ p ∈ keptParts, p ∉ ([.kpr, .rcd] : List Part) := by decide
  have hcount : c.rd (Reg.KPR_LT 10) = s.rd (Reg.KPR_LT 10) := (hregs _).trans (if_pos (by decide))
  have hlt : v.rd (Reg.KPR_LT 10) = (c.countBoot fails).rd (Reg.KPR_LT 10) := f2.2 _ (by decide)
  have hkv : v.kpr = (c.countBoot fails).kpr := f2.1 .kpr (by decide)
  exact {
    resets := fun p hp => (hres p hp).trans (f.1 p (hres' p hp))
    keeps := fun p hp => (hkeep p hp).trans (f.1 p (hkeep' p hp))
    mem := Eq.trans (f.1 .mem (by decide)) hmem
    mode := Eq.trans (f.1 .mode (by decide)) hmode
    pins := Eq.trans (f.1 .pins (by decide)) hpins
    kpr := by rw [hkv, c.countBoot_kpr, hkpr]
    counted := by
      rw [Counted, hlt, ← hcount]
      exact c.countBoot_counted hc fails
    regs := fun a ha => (f.2 a fun h => ha (h.imp_left fun e => by simp [e])).trans (hregs a)
    raised := fun hb hr hq => by
      have hq' : (c.countBoot fails).rcd = s.rcd := Eq.trans (f1.1 .rcd (by decide)) (hrcd.trans (congrArg State.rcd (hst hr)))
      rw [hraise hb]
      exact (c.countBoot fails).raise_raised 0x0003 [(1, modeCode old), (1, 1)] (by rw [hq']; exact hq)
    canon := hcanon }

end
end Sys2Proof.Machine

namespace Sys2Proof.Machine

/-! ### Reboot and the release of RESET_N -/

/-- Neither a boot counted nor an event of the keeper touches what a boot shows, and a halt raises an event of the keeper too. -/
theorem not_bootRegs_lt : ¬ (bootRegs (Reg.KPR_LT 10) ∨ eventRegs 0x0002 (Reg.KPR_LT 10)) := by
  rintro ((h | ⟨i, -, h⟩) | h)
  · revert h; decide
  · dsimp only [Reg.BIA_CLEAR, Reg.KPR_LT] at h
    omega
  · revert h; decide

section
variable {s t u : State} {r : BootRun} {fails c : Nat} {ps : List Part}

/-- A boot after a reset that has halted, as the state before the reset sees it (R548, R557). -/
structure RebootHalt (s : State) (r : BootRun) (c : Nat) (ps : List Part) (t : State) : Prop extends StrapsShown s t where
  halted : t.bit Reg.KPR_BOOT_STAT 31 = true
  cause : t.fld Reg.KPR_BOOT_STAT 29 28 = c
  next : t.rd Reg.KPR_BOOT_NEXT = 0
  locks : ∀ k : Fin 4, k.val < 2 → t.bit Reg.SYN_LOCK_STAT k = r.locked k ∧ t.clk.plls[k].locked = r.locked k
  mode : t.mode = .boot
  flash : t.flash = (s.programmed r.flash).flash
  haltedAt : t.kpr.haltedAt = some s.now
  loaded : t.kpr.imageLoaded = false
  opened : t.kpr.writesOpen = false
  fails : t.kpr.unlockFails = s.kpr.unlockFails
  resets : ∀ p ∈ resetParts, p ∉ ps → p.same State.reset t
  keeps : ∀ p ∈ keptParts, p ∉ ps → p.same s t
  mem : t.mem = { cells := s.mem.cells.filter fun x => keptCell x.1 }
  pins : t.pins = { s.pins with xspiHiZ := false }
  counted : Counted s t (Reg.KPR_LT 10) 1
  regs : ∀ a, ¬ (a ∈ [Reg.KPR_BOOT_NEXT, Reg.KPR_BOOT_STAT, Reg.KPR_LT 10, Reg.PKT_CASCADE, Reg.SYN_LOCK_STAT] ∨ eventRegs 0x0003 a ∨
    arr 80 Reg.BIA_CLEAR a) → t.rd a = if keptReg a then s.rd a else resetWord a

theorem ResetBoot.halt (h : ResetBoot s s.kpr.unlockFails u) (k : BootHalt u r c ps t) (hm : Part.mem ∉ ps := by decide)
    (hp : Part.pins ∉ ps := by decide) : RebootHalt s r c ps t where
  bootsel := by rw [k.bootsel, h.pins]
  pos := by rw [k.pos, h.pins]
  clrsel := by rw [k.clrsel, h.pins]
  cascade := by rw [k.cascade, h.pins]
  clear hc := k.clear (by rw [h.pins]; exact hc)
  halted := k.halted
  cause := k.cause
  next := k.next
  locks := k.locks
  mode := k.mode
  flash := k.flash.trans (State.programmed_flash _ (h.keeps .flash (by decide)))
  haltedAt := k.haltedAt.trans (congrArg some (h.keeps .now (by decide)))
  loaded := k.loaded
  opened := k.opened.trans (by rw [h.kpr])
  fails := k.fails.trans (by rw [h.kpr])
  resets p hr hp := (h.resets p hr).trans (k.frame.1 p (by revert hr hp; cases p <;> simp))
  keeps p hr hp := (h.keeps p hr).trans (k.frame.1 p (by revert hr hp; cases p <;> simp))
  mem := Eq.trans (k.frame.1 .mem (by simp [hm])) h.mem
  pins := Eq.trans (k.frame.1 .pins (by simp [hp])) h.pins
  counted := by
    rw [Counted, k.frame.2 _ not_bootRegs_lt]
    exact h.counted
  regs a ha := by
    have hk : ¬ (bootRegs a ∨ eventRegs 0x0002 a) := fun hb => ha (by
      rcases hb with (hb | hb) | hb
      · exact .inl (by simp only [List.mem_cons, List.not_mem_nil, or_false] at hb ⊢; tauto)
      · exact .inr (.inr hb)
      · exact .inr (.inl hb))
    rw [k.frame.2 a hk]
    exact h.regs a fun hb => ha (by
      rcases hb with hb | hb
      · exact .inl (by simp only [List.mem_cons, List.not_mem_nil, or_false] at hb ⊢; tauto)
      · exact .inr (.inl hb))

end

section
variable {s : State} {r : BootRun}

/-- A reboot that is performed (R548, R567). -/
theorem exec_reboot (hw : s.writable = true ∨ s.kpr.haltedAt.isSome = true) (ho : s.overtaken 2 = false) :
    exec (.reboot r) s = .next ((s.toBoot s.kpr.unlockFails).boot r) := by
  have h : (s.writable || s.kpr.haltedAt.isSome) = true := by simpa using hw
  refine (congrArg Host.Outcome.next (if_pos h)).trans ?_
  rw [State.reboot, ho]
  rfl

/-- RESET_N rises outside SHELF (R546, R564). -/
theorem exec_resetRelease (hn : s.pins.resetN = false) (hm : s.mode ≠ .shelf) :
    exec (.resetRelease r) s = .next
      (({ s with pins := { s.pins with resetN := true, bootsel := r.bootsel, pos := r.pos, clrsel := r.clrsel } } : State).boot r) := by
  have h : ¬ s.pins.resetN = true := by simp [hn]
  exact (congrArg Host.Outcome.next (if_neg h)).trans (congrArg Host.Outcome.next (if_neg hm))

theorem exec_resetAssert {clrsel : Bool} (hm : s.mode ≠ .shelf) :
    exec (.resetAssert clrsel) s = .next (({ s with pins := { s.pins with resetN := false, clrsel := clrsel } } : State).toBoot 0) :=
  congrArg Host.Outcome.next (if_neg hm)

end
end Sys2Proof.Machine

namespace Sys2Proof.Machine

/-! ### The clauses of the obligation -/

section
variable {s t : State} {r : BootRun}

/-- The end of the link wait takes BOOT further where it waits for the ports (R564). -/
theorem State.linkWait_boot {u : Nat} (hu : s.kpr.portsAt = some u) (hm : s.mode = .boot)
    (hp : msPassed (s.now - u) (100 * s.fld Reg.KPR_BOOT_CFG 7 0) = true) :
    exec .linkWaitExpire s = .next ({ s with kpr := { s.kpr with linkWaitOver := true } } : State).bootAdvance := by
  show Host.Outcome.next (match s.kpr.portsAt with | some t => _ | none => s) = _
  rw [hu]
  exact congrArg Host.Outcome.next (if_pos (by simp [hm, hp]))

theorem State.linkWait_idle (h : s.kpr.portsAt = none ∨ s.mode ≠ .boot) : exec .linkWaitExpire s = .next s := by
  show Host.Outcome.next (match s.kpr.portsAt with | some t => _ | none => s) = _
  cases hu : s.kpr.portsAt with
  | none => rfl
  | some u =>
    have hm : s.mode ≠ .boot := h.resolve_left (by simp [hu])
    exact congrArg Host.Outcome.next (if_neg (by simp [hm]))

theorem State.setMode_ready_raised (hm : s.mode = .boot) : Raised s (s.setMode .ready) 0x0003 [(1, 1), (1, 2)] := by
  have hr : ∀ t : State, (({ t with mode := .ready } : State).biasApply 2).rcd = t.rcd := fun t => (State.biasApply_frame _ 2).1 .rcd (by decide)
  rw [State.setMode_ready_of_boot _ hm, Raised, hr]
  exact s.raise_raised 0x0003 [(1, 1), (1, 2)]

theorem State.bootOver_bootPorts (s : State) (d : Nat) : (s.bootOver d).kpr.bootPorts = false := rfl

/-- READY follows where BOOT waited for its ports alone (R564, R565). -/
theorem State.linkWait_ready {d : Nat} (hu : s.kpr.portsAt.isSome = true) (hm : s.mode = .boot) (hb : s.kpr.bootPorts = true)
    (hd : s.kpr.bootDone = some d) (hl : s.kpr.linkWaitOver = true) :
    s.bootAdvance.mode = .ready ∧ s.bootAdvance.kpr.bootPorts = false ∧ Raised s s.bootAdvance 0x0003 [(1, 1), (1, 2)] := by
  obtain ⟨p, hp⟩ := Option.isSome_iff_exists.1 hu
  have f := s.bootOver_frame d
  have hmo : (s.bootOver d).mode = .boot := Eq.trans (f.1 .mode (by decide)) hm
  have hro : (s.bootOver d).rcd = s.rcd := f.1 .rcd (by decide)
  have hk : ((s.bootOver d).setMode .ready).kpr = (s.bootOver d).kpr := (State.setMode_ready_frame _ hmo).1 .kpr (by decide)
  rw [s.bootAdvance_ready hm hp hb hd hl]
  refine ⟨State.setMode_mode _ _, ?_, fun hq => State.setMode_ready_raised hmo (by rw [hro]; exact hq)⟩
  rw [hk]
  exact s.bootOver_bootPorts d

/-- The state in which an asserted RESET_N resets the chip (R546, R548). -/
def State.asserted (s : State) (clrsel : Bool) : State := { s with pins := { s.pins with resetN := false, clrsel := clrsel } }

theorem State.asserted_frame (s : State) (clrsel : Bool) : Frame s (s.asserted clrsel) [.pins] noRegs := Frame.of_pins s _

theorem asserted_resets (h : s.Canon) (clrsel : Bool) : ResetBoot (s.asserted clrsel) 0 ((s.asserted clrsel).toBoot 0) :=
  State.toBoot_resets (s := s.asserted clrsel) h 0

/-- A released RESET_N in SHELF is latched; without the rest of R575 nothing follows (R567, R575). -/
theorem exec_resetRelease_shelf (hn : s.pins.resetN = false) (hm : s.mode = .shelf)
    (hp : s.pins.vaon = false ∨ s.pins.pwrReq = false ∨ s.pins.pgood0 = false ∨ s.pins.pgood1 = false) :
    exec (.resetRelease r) s = .next { s with pins := { s.pins with resetN := true } } := by
  have h : ¬ s.pins.resetN = true := by simp [hn]
  have hc : State.shelfCheck { s with pins := { s.pins with resetN := true } } r = { s with pins := { s.pins with resetN := true } } := by
    refine if_neg ?_
    rcases hp with e | e | e | e <;> simp [e]
  refine ((congrArg Host.Outcome.next (if_neg h)).trans (congrArg Host.Outcome.next (if_pos hm))).trans ?_
  exact congrArg Host.Outcome.next hc

theorem exec_xspiRelease {u : Nat} (hu : s.kpr.haltedAt = some u) (hp : msPassed (s.now - u) 100 = true) :
    exec .xspiRelease s = .next { s with pins := { s.pins with xspiHiZ := true } } := by
  show Host.Outcome.next (match s.kpr.haltedAt with | some t => _ | none => s) = _
  rw [hu]
  exact congrArg Host.Outcome.next (if_pos hp)

theorem exec_xspiRelease_idle (hh : s.kpr.haltedAt = none) : exec .xspiRelease s = .next s := by
  show Host.Outcome.next (match s.kpr.haltedAt with | some t => _ | none => s) = _
  rw [hh]

theorem reboot_resets (h : s.Canon) : ResetBoot s s.kpr.unlockFails (s.toBoot s.kpr.unlockFails) := State.toBoot_resets h _

/-- The state whose straps a released RESET_N latches (R546). -/
def State.released (s : State) (r : BootRun) : State :=
  { s with pins := { s.pins with resetN := true, bootsel := r.bootsel, pos := r.pos, clrsel := r.clrsel } }

theorem State.released_frame (s : State) (r : BootRun) : Frame s (s.released r) [.pins] noRegs := Frame.of_pins s _

/-- A frame from the state whose straps are latched (R546). -/
theorem Frame.of_released {ps : List Part} {rs : Nat → Prop} (h : Frame (s.released r) t ps rs) : Frame s t (.pins :: ps) rs :=
  (((Frame.refl s (.pins :: ps) rs).part (s.released_frame r) (by simp))).trans (h.mono (List.subset_cons_self _ _) fun _ h => h)

theorem ResetBoot.images {fails : Nat} (h : ResetBoot s fails t) :
    bootOrder t.pins.bootsel (t.fld Reg.KPR_BOOT_NEXT 1 0) = bootOrder s.pins.bootsel (s.fld Reg.KPR_BOOT_NEXT 1 0) := by
  have hr : t.rd Reg.KPR_BOOT_NEXT = s.rd Reg.KPR_BOOT_NEXT := (h.regs _ (by decide)).trans (if_pos (by decide))
  rw [h.pins, State.fld, hr]
  rfl

/-- The link wait of step 10 has run out (R564). -/
def State.waitOver (s : State) : State := { s with kpr := { s.kpr with linkWaitOver := true } }

/-- Settles O47: `Frame` says what each part of a reset and of a boot leaves alone. A boot that halts is followed up to its halt
(`BootHalt`); of any other, `Booting` says step by step what it has come to, whatever the image applied (`BootEnd`). -/
theorem resetRebootAndBoot : Obligations.ResetRebootAndBoot := by
  intro s hs
  and_intros
  -- RESET_N falls outside SHELF
  · intro clrsel hm
    have h := asserted_resets hs clrsel
    exact ⟨_, exec_resetAssert hm, h.resets, fun p hp => ((s.asserted_frame clrsel).1 p (by revert p; decide)).trans (h.keeps p hp), h.mem, h.mode,
      h.pins, h.kpr, h.counted, h.regs, h.raised⟩
  -- RESET_N falls in SHELF
  · intro clrsel hm
    exact ⟨_, congrArg Host.Outcome.next (if_pos hm), rfl, Frame.of_pins s _⟩
  -- a reboot without GPLL or TPLL
  · intro r hw ho he
    have h := (reboot_resets hs).halt (State.boot_clock (reboot_resets hs).canon he)
    exact ⟨_, exec_reboot hw ho, h.mode, h.haltedAt, h.loaded, h.opened, h.halted, h.cause, h.next, h.bootsel, h.pos, h.clrsel, h.cascade,
      h.locks, h.clear, fun p hp => h.resets p (by revert p; decide) (by revert p; decide),
      fun p hp => h.keeps p (by revert p; decide) (by revert p; decide), h.flash, h.mem, h.pins, h.fails, h.counted, h.regs⟩
  -- a reboot of images that cannot be read
  · intro r hw ho he ha hb
    have h0 := reboot_resets hs
    obtain ⟨hb0, hcode⟩ := State.boot_unreadable h0.canon he ha hb
    have h := h0.halt hb0
    obtain ⟨h0', h1'⟩ : r.locked 0 = true ∧ r.locked 1 = true := by simpa [BootRun.early] using he
    exact ⟨_, exec_reboot hw ho, h.mode, h.haltedAt, h.loaded, h.opened, h.halted, h.cause, h.next, h.bootsel, h.pos, h.clrsel, h.cascade,
      h.locks, h.clear, (h.locks 0 (by decide)).1.trans h0', (h.locks 1 (by decide)).1.trans h1', fun b hm => hcode b (h0.images ▸ hm),
      fun p hp => h.resets p (by revert p; decide) (by revert p; decide), fun p hp => h.keeps p (by revert p; decide) (by revert p; decide),
      h.flash, h.pins, h.counted, h.regs⟩
  -- a reboot, whatever the flash holds
  · intro r hw ho
    have h := reboot_resets hs
    have k := State.boot_end h.canon (by rw [h.kpr]) r
    exact ⟨_, exec_reboot hw ho, fun p hp => (h.keeps p (by revert p; decide)).trans (k.parts p (by revert p; decide)),
      k.flash.trans (State.programmed_flash _ (h.keeps .flash (by decide))), k.octal,
      k.revoked.trans (congrArg Fuses.revoked (h.keeps .fuses (by decide))), k.mode, k.halted, k.runs,
      Eq.trans (k.parts .pins (by decide)) h.pins⟩
  -- REBOOT before writes open
  · intro r hw hh
    exact congrArg Host.Outcome.next (if_neg (by simp [hw, hh]))
  -- a reboot refused
  · intro r hw ho
    have h : (s.writable || s.kpr.haltedAt.isSome) = true := by simpa using hw
    refine ⟨s.refuseMode, (congrArg Host.Outcome.next (if_pos h)).trans ?_, s.rd_bump_same _ hs, s.bump_frame _⟩
    rw [State.reboot, ho]
    rfl
  -- RESET_N rises, without GPLL or TPLL
  · intro r hn hm he
    have h := State.boot_clock (s := s.released r) hs he
    exact ⟨_, exec_resetRelease hn hm, h.mode, h.haltedAt, h.loaded, h.halted, h.cause, h.next, h.bootsel, h.pos, h.clrsel, h.cascade,
      h.locks, h.clear, h.frame.1 .pins (by decide), h.tns, h.flash.trans (State.programmed_flash _ rfl),
      h.frame.of_released.mono (by decide) (fun _ h => or_assoc.1 h)⟩
  -- RESET_N rises, and no image can be read
  · intro r hn hm he ha hb
    obtain ⟨h, hcode⟩ := State.boot_unreadable (s := s.released r) hs he ha hb
    obtain ⟨h0, h1⟩ : r.locked 0 = true ∧ r.locked 1 = true := by simpa [BootRun.early] using he
    exact ⟨_, exec_resetRelease hn hm, h.mode, h.haltedAt, h.loaded, h.halted, h.cause, h.next, h.bootsel, h.pos, h.clrsel, h.cascade,
      h.locks, h.clear, (h.locks 0 (by decide)).1.trans h0, (h.locks 1 (by decide)).1.trans h1, hcode, h.frame.1 .pins (by decide), h.tns,
      h.flash.trans (State.programmed_flash _ rfl), h.frame.of_released.mono (by decide) (fun _ h => or_assoc.1 h)⟩
  -- RESET_N rises, whatever the flash holds
  · intro r hn hm hh
    have k := State.boot_end (s := s.released r) hs hh r
    exact ⟨_, exec_resetRelease hn hm, fun p hp => ((s.released_frame r).1 p (by revert p; decide)).trans (k.parts p (by revert p; decide)),
      k.flash.trans (State.programmed_flash _ rfl), k.octal, k.revoked, k.mode, k.halted, k.runs, k.parts .pins (by decide)⟩
  -- RESET_N rises in SHELF
  · intro r hn hm hp
    exact ⟨_, exec_resetRelease_shelf hn hm hp, rfl, Frame.of_pins s _⟩
  -- RESET_N stands high already
  · intro r hn
    exact congrArg Host.Outcome.next (if_pos hn)
  -- the link wait runs out
  · intro u hu hm hp
    have h := s.waitOver.bootAdvance_advances
    refine ⟨_, State.linkWait_boot hu hm hp, h.wait, fun hb hd => ?_, fun hb => ?_, ?_⟩
    · obtain ⟨d, hd⟩ := Option.isSome_iff_exists.1 hd
      exact State.linkWait_ready (s := s.waitOver) (Option.isSome_of_eq_some hu) hm hb hd rfl
    · exact Eq.trans (State.bootAdvance_mode_of_waits (s := s.waitOver) hb) hm
    · exact ((Frame.refl s _ _).part (Frame.of_kpr s _) (by decide)).trans h.frame
  -- no link wait runs
  · intro h
    exact State.linkWait_idle h
  -- XSPI is released
  · intro u hu hp
    exact ⟨_, exec_xspiRelease hu hp, rfl, Frame.of_pins s _⟩
  -- no boot has halted
  · intro hh
    exact exec_xspiRelease_idle hh
end
end Sys2Proof.Machine

namespace Sys2Proof.Machine

/-! ## Words and the register map -/

theorem bitOf_eq_testBit (n i : Nat) : bitOf n i = n.testBit i := by
  rw [bitOf, Nat.testBit_eq_decide_div_mod_eq]

theorem State.bit_eq_bitOf (s : State) (a i : Nat) : s.bit a i = bitOf (s.rd a).toNat i := by
  simp [State.bit, State.fld, fldOf, bitOf]

/-- The bits of the word that a plain write leaves (R5, R607). -/
theorem bitOf_plainWord (r : RegSpec) (old w : Word) (i : Nat) (hi : i < 32) :
    bitOf (plainWord r old w).toNat i =
      (if bitOf r.rw i then bitOf w.toNat i else if bitOf r.w1s i && bitOf w.toNat i then true
        else if bitOf r.w1c i && bitOf w.toNat i then false else bitOf old.toNat i) := by
  have hw : ∀ v : Word, v.toNat.testBit i = v.getLsbD i := fun _ => rfl
  simp only [bitOf_eq_testBit, hw, plainWord, BitVec.getLsbD_or, BitVec.getLsbD_and, BitVec.getLsbD_not, BitVec.getLsbD_ofNat, hi,
    decide_true, Bool.true_and]
  cases r.rw.testBit i <;> cases r.w1s.testBit i <;> cases r.w1c.testBit i <;> cases w.getLsbD i <;> simp

theorem instOf_array (base st n : Nat) (i : Fin n) (hst : 0 < st) : instOf base st n (base + i * st) = some i := by
  simp [instOf, Nat.mul_div_cancel _ hst]

theorem eq_of_instOf {base st n a : Nat} {i : Fin n} (h : instOf base st n a = some i) : a = base + i * st := by
  unfold instOf at h
  split at h
  · split at h
    · next hlt hba =>
      obtain ⟨hle, hmod⟩ := hba
      have hi : (a - base) / st = i := congrArg Fin.val (Option.some.inj h)
      have := Nat.div_add_mod (a - base) st
      rw [hi, hmod, Nat.mul_comm] at this
      omega
    · cases h
  · cases h

theorem mem_of_findSpec {l : List RegSpec} {a : Nat} {x : RegSpec × Nat} (h : findSpec l a = some x) : x.1 ∈ l := by
  induction l with
  | nil => cases h
  | cons r t ih =>
    unfold findSpec at h
    split at h
    · exact List.mem_cons_of_mem _ (ih h)
    · split at h
      · cases h; exact List.mem_cons_self
      · exact List.mem_cons_of_mem _ (ih h)

/-- Every row of the register map. -/
def allSpecs : List RegSpec := (List.range 20).flatMap blockRegs ++ blkRegs

theorem mem_of_specOf {a : Nat} {x : RegSpec × Nat} (h : specOf a = some x) : x.1 ∈ allSpecs := by
  unfold specOf at h
  split at h
  · next r hr =>
    cases h
    have hm := mem_of_findSpec hr
    refine List.mem_append_left _ (List.mem_flatMap.2 ⟨a / 0x1000000, List.mem_range.2 ?_, hm⟩)
    by_contra hge
    obtain ⟨k, hk⟩ : ∃ k, a / 0x1000000 = k + 20 := ⟨a / 0x1000000 - 20, by omega⟩
    rw [hk] at hm
    cases hm
  · split at h
    · exact List.mem_append_right _ (mem_of_findSpec h)
    · cases h

/-- Counters stand at 0 after reset (R9). -/
theorem counter_reset : ∀ r ∈ allSpecs, r.counter = true → r.reset = 0 ∧ r.resetStep = 0 := by decide +kernel

theorem resetWord_of_counterOf {b a : Nat} (h : counterOf b a = true) : resetWord a = 0 := by
  unfold counterOf at h
  unfold resetWord
  cases hs : specOf a with
  | none => rfl
  | some x =>
    simp only [hs, Bool.and_eq_true] at h
    obtain ⟨h0, h1⟩ := counter_reset x.1 (mem_of_specOf hs) h.2
    simp [h0, h1]

/-- A lifetime counter is no counter that a block clears (R596, R612). -/
theorem lifetime_not_counterOf : ∀ (b : Fin 20) (i : Fin 18), counterOf b (Reg.KPR_LT i) = false := by decide +kernel

/-- A cleared block: its counters read 0 and every other register as before (R612). -/
theorem State.rd_clearCounters (s : State) (b a : Nat) : (s.clearCounters b).rd a = if counterOf b a = true then 0 else s.rd a := by
  have h : (s.clearCounters b).rd a = if !counterOf b a then s.rd a else resetWord a :=
    tabGet_filter resetWord (fun a => !counterOf b a) s.regs a
  cases hc : counterOf b a with
  | true => simp [h, hc, resetWord_of_counterOf hc]
  | false => simp [h, hc]

theorem State.clearCounters_frame (s : State) (b : Nat) : Frame s (s.clearCounters b) [] fun a => counterOf b a = true :=
  ⟨fun p _ => by cases p <;> rfl, fun a h => by rw [s.rd_clearCounters, if_neg h]⟩

/-- With no lifetime counter at its end, no counter of a cleared block stands at its end (R9, R612, R614). -/
theorem State.saturated_clearCounters (s : State) (b : Nat) (hs : s.Canon)
    (h : b ≠ 0 ∨ ∀ i : Fin 18, s.rd (Reg.KPR_LT i) ≠ 0xFFFFFFFF) : (s.clearCounters b).saturated b = false := by
  refine List.any_eq_false.2 fun x hx => ?_
  obtain ⟨hmem, hcnt⟩ := List.mem_filter.1 hx
  have hcnt : counterOf b x.1 = false := by simpa using hcnt
  intro hsat
  simp only [hcnt, Bool.false_or, Bool.and_eq_true, beq_iff_eq] at hsat
  obtain ⟨hw, hb, hlt⟩ := hsat
  obtain ⟨i, hi⟩ := Option.isSome_iff_exists.1 hlt
  refine h.elim (· hb) fun h => h i ?_
  have hrd : s.rd x.1 = x.2 := tabGet_of_mem resetWord hs.1 hmem
  rwa [eq_of_instOf hi, hw] at hrd

/-! ## Writes of registers with an action

The address of an array's element is symbolic, and a kernel check that unfolds a match on `instOf` of a symbolic address counts down from
the array's base; so the matches are generalised before they are reduced. -/

/-- A write of a word with an action is that action (R607). -/
theorem State.writeReg_hook {s t : State} {a : Nat} {w : Word} {e : WriteEnv}
    (ho : instOf (Reg.RXP_OBS_ROUTE 0) 0x10000 9 a = none) (hh : s.hook a w e = some t) : s.writeReg a w e = (t, false) := by
  have h := Eq.refl @State.writeReg
  conv_rhs at h => delta State.writeReg
  rw [h]
  dsimp only
  generalize s.hook a w e = x at hh ⊢
  generalize instOf (Reg.RXP_OBS_ROUTE 0) 0x10000 9 a = k at ho ⊢
  subst ho hh
  rfl

/-- A write of a word of no action changes its fields (R607). -/
theorem State.writeReg_plain {s : State} {a : Nat} {w : Word} {e : WriteEnv} {x : RegSpec × Nat}
    (ho : instOf (Reg.RXP_OBS_ROUTE 0) 0x10000 9 a = none) (hh : s.hook a w e = none) (hx : specOf a = some x) :
    s.writeReg a w e = (s.wr a (plainWord x.1 (s.rd a) w), false) := by
  have h := Eq.refl @State.writeReg
  conv_rhs at h => delta State.writeReg
  rw [h]
  dsimp only
  generalize s.hook a w e = y at hh ⊢
  generalize instOf (Reg.RXP_OBS_ROUTE 0) 0x10000 9 a = k at ho ⊢
  generalize specOf a = z at hx ⊢
  subst ho hh hx
  rfl

theorem State.writeReg_obsRoute {s : State} {a : Nat} {w : Word} {e : WriteEnv} {k : Fin 9}
    (ho : instOf (Reg.RXP_OBS_ROUTE 0) 0x10000 9 a = some k) : s.writeReg a w e = s.writeObsRoute k w := by
  have h := Eq.refl @State.writeReg
  conv_rhs at h => delta State.writeReg
  rw [h]
  dsimp only
  generalize instOf (Reg.RXP_OBS_ROUTE 0) 0x10000 9 a = x at ho ⊢
  subst ho
  rfl

theorem instOf_eq_none {base st n a : Nat} (h : ∀ i : Fin n, a ≠ base + i * st) : instOf base st n a = none :=
  Option.eq_none_iff_forall_ne_some.2 fun i hi => h i (eq_of_instOf hi)

theorem tabErase_of_unlisted {α : Type} [DecidableEq α] (d : Nat → α) {lo : Option Nat} {t : List (Nat × α)} {k : Nat} (h : tabWfFrom d lo t = true)
    (hk : tabGet d t k = d k) : tabErase t k = t := by
  induction t generalizing lo with
  | nil => rfl
  | cons x t ih =>
    obtain ⟨j, v⟩ := x
    obtain ⟨-, hv, ht⟩ := (tabWfFrom_cons ..).1 h
    by_cases hj : j = k
    · subst hj
      exact absurd (by simpa [tabGet] using hk) hv
    · simp only [tabGet, hj, if_false] at hk
      simp [tabErase, hj, ih ht hk]

theorem tabInsert_of_listed {α : Type} [DecidableEq α] (d : Nat → α) {lo : Option Nat} {t : List (Nat × α)} {k : Nat} (h : tabWfFrom d lo t = true)
    (hk : tabGet d t k ≠ d k) : tabInsert t k (tabGet d t k) = t := by
  induction t generalizing lo with
  | nil => exact absurd rfl hk
  | cons x t ih =>
    obtain ⟨j, v⟩ := x
    obtain ⟨-, -, ht⟩ := (tabWfFrom_cons ..).1 h
    by_cases hj : j = k
    · subst hj
      simp [tabGet, tabInsert]
    · simp only [tabGet, hj, if_false] at hk ⊢
      have hlt : ¬ k < j := fun hlt => hk (tabGet_below d hlt.le ht)
      simp [tabInsert, hlt, hj, ih ht hk]

/-- A table in canonical form written with what it reads stays. -/
theorem tabPut_tabGet {α : Type} [DecidableEq α] (d : Nat → α) {t : List (Nat × α)} (k : Nat) (h : tabWf d t = true) :
    tabPut d t k (tabGet d t k) = t := by
  unfold tabPut
  split
  · next hk => exact tabErase_of_unlisted d h hk
  · next hk => exact tabInsert_of_listed d h hk

section
variable {s t : State} {a : Nat} {w : Word} {e : WriteEnv} (hc : a % 0x1000000 ≠ 0xF00004) (he : a % 0x1000000 ≠ 0xF00008)
include hc he

theorem State.hook_kpr (h : a / 0x1000000 = 0x00) (ht : s.hookKpr a w e = some t) : s.hook a w e = some t := by
  unfold State.hook
  rw [if_neg hc, if_neg he, h, ht]
  rfl

theorem State.hook_lnu (h : a / 0x1000000 = 0x02) (ht : s.hookLanes 0 a w = some t) : s.hook a w e = some t := by
  unfold State.hook
  rw [if_neg hc, if_neg he, h, ht]
  rfl

theorem State.hook_lnd (h : a / 0x1000000 = 0x03) (ht : s.hookLanes 1 a w = some t) : s.hook a w e = some t := by
  unfold State.hook
  rw [if_neg hc, if_neg he, h, ht]
  rfl

theorem State.hook_spl (h : a / 0x1000000 = 0x06) (ht : s.hookSpl a w = some t) : s.hook a w e = some t := by
  unfold State.hook
  rw [if_neg hc, if_neg he, h, ht]
  rfl

theorem State.hook_txp (h : a / 0x1000000 = 0x09) (ht : s.hookTxp a w = some t) : s.hook a w e = some t := by
  unfold State.hook
  rw [if_neg hc, if_neg he, h, ht]
  rfl

theorem State.hook_dpd (h : a / 0x1000000 = 0x0D) (ht : s.hookDpd a w = some t) : s.hook a w e = some t := by
  unfold State.hook
  rw [if_neg hc, if_neg he, h, ht]
  rfl

theorem State.hook_bia (h : a / 0x1000000 = 0x12) (ht : s.hookBia a w = some t) : s.hook a w e = some t := by
  unfold State.hook
  rw [if_neg hc, if_neg he, h, ht]
  rfl

theorem State.hook_pkt (h : a / 0x1000000 = 0x04) {c : Fin 4} (hi : instOf (Reg.PKT_OWN 0) 0x10000 4 a = some c) :
    s.hook a w e = some (s.writeOwn c w) := by
  have hm : (Option.map (fun c : Nat => s.writeOwn c w) do let i ← instOf (Reg.PKT_OWN 0) 0x10000 4 a; pure i.val) = some (s.writeOwn c w) := by
    rw [hi]
    rfl
  unfold State.hook
  rw [if_neg hc, if_neg he, h, hm]
  rfl

theorem State.hook_dfe (h : a / 0x1000000 = 0x0B) {c : Fin 4} (hi : instOf (Reg.DFE_CAR_OFS 0) 0x10000 4 a = some c) :
    s.hook a w e = some (s.writeOffset c w) := by
  unfold State.hook
  rw [if_neg hc, if_neg he, h, hi]
  rfl
end

section
variable (s : State) (w : Word) (e : WriteEnv)

theorem State.hook_cntClr (b : Fin 20) :
    s.hook (Reg.BLK_CNT_CLR b) w e = some (if bitOf w.toNat 0 then s.clearCounters b else s) := by
  have hm : Reg.BLK_CNT_CLR b % 0x1000000 = 0xF00004 := by dsimp only [Reg.BLK_CNT_CLR]; omega
  have hd : Reg.BLK_CNT_CLR b / 0x1000000 = b := by dsimp only [Reg.BLK_CNT_CLR]; omega
  unfold State.hook
  rw [if_pos hm, hd]

theorem State.hook_evtEn (b : Fin 20) : s.hook (Reg.BLK_EVT_EN b) w e = some (s.writeEvtEn b w) := by
  have hm : Reg.BLK_EVT_EN b % 0x1000000 = 0xF00008 := by dsimp only [Reg.BLK_EVT_EN]; omega
  have hd : Reg.BLK_EVT_EN b / 0x1000000 = b := by dsimp only [Reg.BLK_EVT_EN]; omega
  unfold State.hook
  rw [if_neg (by omega), if_pos hm, hd]

theorem State.hook_unlockResp (i : Fin 16) : s.hook (Reg.KPR_UNLOCK_RESP i) w e = some (s.wr (Reg.KPR_UNLOCK_RESP i) w) := by
  have hi : instOf (Reg.KPR_UNLOCK_RESP 0) 4 16 (Reg.KPR_UNLOCK_RESP i) = some i := instOf_array _ 4 16 i (by decide)
  have ht : s.hookKpr (Reg.KPR_UNLOCK_RESP i) w e = some (s.wr (Reg.KPR_UNLOCK_RESP i) w) := by
    unfold State.hookKpr
    rw [hi]
    simp (disch := omega) [if_neg]
  exact State.hook_kpr (by simp; omega) (by simp; omega) (by simp; omega) ht

theorem State.hookLanes_ctrl (u : Fin 2) : s.hookLanes u (Reg.LN_CTRL u) w = some (if bitOf w.toNat 31 then s.writeRetrain u else s) := by
  unfold State.hookLanes
  rw [if_pos rfl]

theorem State.hookLanes_testCfg (u : Fin 2) : s.hookLanes u (Reg.LN_TEST_CFG u) w = some (s.writeTest u w) := by
  unfold State.hookLanes
  rw [if_neg (by simp), if_pos rfl]

theorem State.hookLanes_testInj (u : Fin 2) : s.hookLanes u (Reg.LN_TEST_INJ u) w = some (s.writeInject u w) := by
  unfold State.hookLanes
  rw [if_neg (by simp), if_neg (by simp), if_pos rfl]

theorem State.hook_lanes (p : Port) {a : Nat} {t : State} (ha : a % 0x1000000 < 0xF00000) (hd : a / 0x1000000 = 2 + p.idx)
    (ht : s.hookLanes p.idx a w = some t) : s.hook a w e = some t := by
  cases p with
  | up => exact State.hook_lnu (by omega) (by omega) hd ht
  | dn => exact State.hook_lnd (by omega) (by omega) hd ht

theorem State.hook_own (c : Fin 4) : s.hook (Reg.PKT_OWN c) w e = some (s.writeOwn c w) :=
  State.hook_pkt (by simp; omega) (by simp; omega) (by simp; omega) (instOf_array _ 0x10000 4 c (by decide))

theorem State.hook_carOfs (c : Fin 4) : s.hook (Reg.DFE_CAR_OFS c) w e = some (s.writeOffset c w) :=
  State.hook_dfe (by simp; omega) (by simp; omega) (by simp; omega) (instOf_array _ 0x10000 4 c (by decide))

/-- The writes that act in the block of spool `sp` (R504). -/
theorem State.hookSpl_eq {a : Nat} {sp : Fin 32} (hi : a / 0x10000 * 0x10000 = 0x6000000 + sp * 0x10000) : s.hookSpl a w =
    if a = Reg.SPL_CTRL sp then some (s.writeSplCtrl sp w)
    else if a = Reg.SPL_HEAD sp then some (s.writeHead sp w)
    else if a = Reg.SPL_PACE sp then some (s.writePace sp w)
    else if (a = Reg.SPL_RING_BASE sp ∨ a = Reg.SPL_RING_CFG sp) ∧ hostSpool sp = false then some (s.splRefuse sp)
    else none := by
  have h := Eq.refl @State.hookSpl
  conv_rhs at h => delta State.hookSpl
  rw [h]
  dsimp only
  rw [hi, instOf_array 0x6000000 0x10000 32 sp (by decide)]

theorem State.hook_spoolHead (sp : Fin 32) : s.hook (Reg.SPL_HEAD sp) w e = some (s.writeHead sp w) := by
  refine State.hook_spl (by simp; omega) (by simp; omega) (by simp; omega) ?_
  rw [s.hookSpl_eq w (sp := sp) (by simp; omega), if_neg (by simp), if_pos rfl]

theorem State.hook_spoolPace (sp : Fin 32) : s.hook (Reg.SPL_PACE sp) w e = some (s.writePace sp w) := by
  refine State.hook_spl (by simp; omega) (by simp; omega) (by simp; omega) ?_
  rw [s.hookSpl_eq w (sp := sp) (by simp; omega), if_neg (by simp), if_neg (by simp), if_pos rfl]

theorem State.hook_ringBase (sp : Fin 32) (h : hostSpool sp = false) : s.hook (Reg.SPL_RING_BASE sp) w e = some (s.splRefuse sp) := by
  refine State.hook_spl (by simp; omega) (by simp; omega) (by simp; omega) ?_
  rw [s.hookSpl_eq w (sp := sp) (by simp; omega), if_neg (by simp), if_neg (by simp), if_neg (by simp), if_pos ⟨.inl rfl, h⟩]

theorem State.hook_atten (p : Fin 64) : s.hook (Reg.TXP_ATTEN p) w e = some (s.writeAtten p w) := by
  refine State.hook_txp (by simp; omega) (by simp; omega) (by simp; omega) ?_
  unfold State.hookTxp
  rw [instOf_array (Reg.TXP_ATTEN 0) 0x10000 64 p (by decide)]
  simp (disch := omega) [if_neg]

theorem State.hook_dpdCtrl (p : Fin 64) : s.hook (Reg.DPD_CTRL p) w e = some (s.writeDpdCtrl p w) := by
  refine State.hook_dpd (by simp; omega) (by simp; omega) (by simp; omega) ?_
  unfold State.hookDpd
  rw [instOf_array (Reg.DPD_CTRL 0) 0x10000 64 p (by decide)]
  simp (disch := omega) [if_neg]

theorem State.hook_chCfg (c : Fin 80) : s.hook (Reg.BIA_CH_CFG c) w e = some (s.writeBiasEn c (bitOf w.toNat 31)) := by
  have h0 : instOf (Reg.BIA_CH_CFG 0) 0x10000 80 (Reg.BIA_CH_CFG c) = some c := instOf_array _ 0x10000 80 c (by decide)
  refine State.hook_bia (by simp; omega) (by simp; omega) (by simp; omega) ?_
  unfold State.hookBia
  rw [if_neg (by simp; omega), h0]

theorem State.hook_biaQueue (c : Fin 80) : s.hook (Reg.BIA_QUEUE c) w e = some (s.writeBiasQueue c w) := by
  have h0 : instOf (Reg.BIA_CH_CFG 0) 0x10000 80 (Reg.BIA_QUEUE c) = none := instOf_eq_none fun i => by simp; omega
  have h1 : instOf (Reg.BIA_QUEUE 0) 0x10000 80 (Reg.BIA_QUEUE c) = some c := instOf_array _ 0x10000 80 c (by decide)
  refine State.hook_bia (by simp; omega) (by simp; omega) (by simp; omega) ?_
  unfold State.hookBia
  rw [if_neg (by simp; omega), h0, h1]

theorem State.hook_biaStage (c : Fin 80) : s.hook (Reg.BIA_STAGE c) w e = some (s.writeStage c w) := by
  have h0 : instOf (Reg.BIA_CH_CFG 0) 0x10000 80 (Reg.BIA_STAGE c) = none := instOf_eq_none fun i => by simp; omega
  have h1 : instOf (Reg.BIA_QUEUE 0) 0x10000 80 (Reg.BIA_STAGE c) = none := instOf_eq_none fun i => by simp; omega
  have h2 : instOf (Reg.BIA_STAGE 0) 0x10000 80 (Reg.BIA_STAGE c) = some c := instOf_array _ 0x10000 80 c (by decide)
  refine State.hook_bia (by simp; omega) (by simp; omega) (by simp; omega) ?_
  unfold State.hookBia
  rw [if_neg (by simp; omega), h0, h1, h2]
  rfl
end

/-- The word at `a` is mapped and is no routing request. -/
abbrev RegAt (a : Nat) : Prop := a < 2 ^ 32 ∧ mapped a = true ∧ instOf (Reg.RXP_OBS_ROUTE 0) 0x10000 9 a = none

theorem execRegisterWrite_ofNat (s : State) {a : Nat} (w : Word) (e : WriteEnv) (ha : a < 2 ^ 32) (hm : mapped a = true) :
    execRegisterWrite (BitVec.ofNat 32 a) w e s = .next (if s.writable = true then (s.writeReg a w e).1 else s) := by
  have hn : (BitVec.ofNat 32 a).toNat = a := by rw [BitVec.toNat_ofNat, Nat.mod_eq_of_lt ha]
  unfold execRegisterWrite
  rw [hn, hm, Bool.and_true]

/-- REGISTER_WRITE of a word whose register has an action performs it while writes are open (R605, R607, R609). -/
theorem exec_hook {s t : State} {a : Nat} {w : Word} {e : WriteEnv} (ha : RegAt a) (hh : s.hook a w e = some t) :
    exec (.registerWrite (BitVec.ofNat 32 a) w e) s = .next (if s.writable = true then t else s) := by
  obtain ⟨hlt, hm, ho⟩ := ha
  have h := execRegisterWrite_ofNat s w e hlt hm
  rwa [State.writeReg_hook ho hh] at h

theorem regAt_unlockResp : ∀ i : Fin 16, RegAt (Reg.KPR_UNLOCK_RESP i) := by decide +kernel
theorem regAt_cntClr : ∀ b : Fin 20, RegAt (Reg.BLK_CNT_CLR b) := by decide +kernel
theorem regAt_evtEn : ∀ b : Fin 20, RegAt (Reg.BLK_EVT_EN b) := by decide +kernel
theorem regAt_lanes : ∀ p : Fin 2, RegAt (Reg.LN_CTRL p) ∧ RegAt (Reg.LN_TEST_CFG p) ∧ RegAt (Reg.LN_TEST_INJ p) := by decide +kernel
theorem regAt_own : ∀ c : Fin 4, RegAt (Reg.PKT_OWN c) := by decide +kernel
theorem regAt_carOfs : ∀ c : Fin 4, RegAt (Reg.DFE_CAR_OFS c) := by decide +kernel
theorem regAt_spool : ∀ sp : Fin 32, RegAt (Reg.SPL_HEAD sp) ∧ RegAt (Reg.SPL_PACE sp) ∧ RegAt (Reg.SPL_RING_BASE sp) := by decide +kernel
theorem regAt_atten : ∀ p : Fin 64, RegAt (Reg.TXP_ATTEN p) := by decide +kernel
theorem regAt_dpdCtrl : ∀ p : Fin 64, RegAt (Reg.DPD_CTRL p) := by decide +kernel
theorem regAt_bias : ∀ c : Fin 80, RegAt (Reg.BIA_CH_CFG c) ∧ RegAt (Reg.BIA_QUEUE c) ∧ RegAt (Reg.BIA_STAGE c) := by decide +kernel

/-! ### Writes that depend on some bits of the word -/

section
variable (s : State) {v w : Word} {e : WriteEnv}

theorem bitOf_ofNat_lt (n w i : Nat) (hi : i < n) : bitOf (BitVec.ofNat n w).toNat i = bitOf w i := by
  simp [bitOf_eq_testBit, Nat.testBit_mod_two_pow, hi]

theorem bitOf_of_fldOf_zero {hi i : Nat} (h : fldOf w hi 0 = 0) (hi' : i ≤ hi) : bitOf w.toNat i = false := by
  have hm : w.toNat % 2 ^ (hi + 1) = 0 := by simpa [fldOf] using h
  have := congrArg (Nat.testBit · i) hm
  simpa [bitOf_eq_testBit, Nat.testBit_mod_two_pow, Nat.lt_succ_of_le hi'] using this

theorem bit_toNat_lt {n : Nat} (x : BitVec n) {i : Nat} (hi : n ≤ i) : bitOf x.toNat i = false := by
  rw [bitOf_eq_testBit]
  exact Nat.testBit_lt_two_pow (x.isLt.trans_le (Nat.pow_le_pow_right (by decide) hi))

theorem State.writeFlashCtl_congr (h0 : bitOf v.toNat 0 = bitOf w.toNat 0) (h31 : bitOf v.toNat 31 = bitOf w.toNat 31) :
    s.writeFlashCtl v = s.writeFlashCtl w := by
  unfold State.writeFlashCtl
  rw [h0, h31]

theorem maskOf_congr {n : Nat} {f g : Nat → Bool} (h : ∀ i < n, f i = g i) : maskOf n f = maskOf n g :=
  List.foldl_ext _ _ _ fun m i hi => by rw [h i (List.mem_range.1 hi)]

theorem State.writeKeyRevoke_congr (h : ∀ k < 4, bitOf v.toNat k = bitOf w.toNat k) : s.writeKeyRevoke v = s.writeKeyRevoke w := by
  unfold State.writeKeyRevoke
  rw [maskOf_congr fun k hk => by rw [h k hk]]

theorem State.writeBbCtl_congr (bad : List Nat) (h : ∀ k < 8, bitOf v.toNat k = bitOf w.toNat k)
    (h31 : bitOf v.toNat 31 = bitOf w.toNat 31) : s.writeBbCtl v bad = s.writeBbCtl w bad := by
  unfold State.writeBbCtl
  rw [h31, List.foldl_ext _ _ s fun t k hk => by rw [h k (List.mem_range.1 hk)]]

theorem State.writeOwn_congr (c : Nat) (h : bitOf v.toNat 31 = bitOf w.toNat 31) : s.writeOwn c v = s.writeOwn c w := by
  have hf : fldOf v 31 31 = 1 ↔ fldOf w 31 31 = 1 := by simpa [bitOf, fldOf] using h
  unfold State.writeOwn
  simp only [hf]

theorem State.writeFaultStat_congr (h : bitOf v.toNat 30 = bitOf w.toNat 30) : s.writeFaultStat v = s.writeFaultStat w := by
  unfold State.writeFaultStat
  rw [h]

theorem bits_of_fldOf_one (h : fldOf w 1 0 = 1) : bitOf w.toNat 0 = true ∧ bitOf w.toNat 1 = false := by
  simp only [fldOf, bitOf, decide_eq_true_eq, decide_eq_false_iff_not] at h ⊢
  omega

theorem bits_of_fldOf_two (h : fldOf w 1 0 = 2) : bitOf w.toNat 0 = false ∧ bitOf w.toNat 1 = true := by
  simp only [fldOf, bitOf, decide_eq_true_eq, decide_eq_false_iff_not] at h ⊢
  omega

/-- A field that is put as it reads leaves the word. -/
theorem putFld_fldOf (w : Word) (hi lo : Nat) : putFld w hi lo (fldOf w hi lo) = w := by
  have hle : fldOf w hi lo * 2 ^ lo ≤ w.toNat :=
    (Nat.mul_le_mul_right _ (Nat.mod_le _ _)).trans (Nat.div_mul_le_self _ _)
  rw [putFld, Nat.mod_eq_of_lt (fldOf_lt w hi lo), Nat.sub_add_cancel hle, BitVec.ofNat_toNat, BitVec.setWidth_eq]

/-- A register written with what it reads stays. -/
theorem State.wr_rd (a : Nat) (hs : s.Canon) : s.wr a (s.rd a) = s := by
  unfold State.wr State.rd
  rw [tabPut_tabGet resetWord a hs.1]

/-- A write of DPD_CTRL without unfreeze and reset_bank sets freeze alone (R298, R300). -/
theorem State.writeDpdCtrl_freeze (p : Fin 64) (hs : s.Canon) (hu : fldOf w 24 24 = 0) (hr : fldOf w 15 8 = 0) :
    s.writeDpdCtrl p w = s.setBit (Reg.DPD_CTRL p) 31 (bitOf w.toNat 31) := by
  have hb : bitOf w.toNat 24 = false := by simpa [bitOf, fldOf] using hu
  have hc : (s.setBit (Reg.DPD_CTRL p) 31 (bitOf w.toNat 31)).Canon := s.setBit_canon _ _ _ hs
  rw [State.writeDpdCtrl, hb, hr]
  generalize s.setBit (Reg.DPD_CTRL p) 31 (bitOf w.toNat 31) = t at hc
  rw [if_neg Bool.false_ne_true, State.setResetBank, Nat.or_zero, State.setFld, State.fld, putFld_fldOf, t.wr_rd _ hc]
  rfl
end

/-! ## Accesses that keep a frame -/

section
variable (s : State)

theorem execRegisterWrite_plain {a w : Word} {e : WriteEnv} {x : RegSpec × Nat} (hw : s.writable = true)
    (ho : instOf (Reg.RXP_OBS_ROUTE 0) 0x10000 9 a.toNat = none) (hh : s.hook a.toNat w e = none) (hx : specOf a.toNat = some x) :
    execRegisterWrite a w e s = .next (s.wr a.toNat (plainWord x.1 (s.rd a.toNat) w)) := by
  have hm : mapped a.toNat = true := by rw [mapped, hx]; rfl
  unfold execRegisterWrite
  rw [hw, hm, State.writeReg_plain ho hh hx]
  rfl

/-- Bits of a register that was written. -/
theorem State.bit_wr_same (a : Nat) (w : Word) (i : Nat) (hs : s.Canon) : (s.wr a w).bit a i = bitOf w.toNat i := by
  rw [State.bit_eq_bitOf, s.rd_wr_same a w hs]

theorem specOf_statSum : ∀ b : Fin 20, (specOf (Reg.BLK_STAT_SUM b)).map (·.1.rc) = some 0x83FF0000 := by decide +kernel

theorem State.afterRead_statSum (b : Fin 20) :
    s.afterRead (Reg.BLK_STAT_SUM b) = s.wr (Reg.BLK_STAT_SUM b) (s.rd (Reg.BLK_STAT_SUM b) &&& ~~~ 0x83FF0000) := by
  obtain ⟨x, hx, hrc⟩ := Option.map_eq_some_iff.1 (specOf_statSum b)
  unfold State.afterRead
  rw [if_neg (by simp; omega), if_neg (by simp; omega), hx]
  dsimp only
  rw [if_neg (by rw [hrc]; decide), hrc]
  rfl

theorem bitOf_clear (v m : Word) (i : Nat) (hi : i < 32) :
    bitOf (v &&& ~~~ m).toNat i = if bitOf m.toNat i = true then false else bitOf v.toNat i := by
  simp only [bitOf_eq_testBit, BitVec.testBit_toNat, BitVec.getLsbD_and, BitVec.getLsbD_not, hi]
  cases m.getLsbD i <;> simp

theorem State.statSumRead_bit (b : Fin 20) (i : Fin 32) (hs : s.Canon) : (s.afterRead (Reg.BLK_STAT_SUM b)).bit (Reg.BLK_STAT_SUM b) i =
    if bitOf 0x83FF0000 i = true then false else s.bit (Reg.BLK_STAT_SUM b) i := by
  rw [s.afterRead_statSum, s.bit_wr_same _ _ _ hs, bitOf_clear _ _ _ i.isLt, ← State.bit_eq_bitOf]
  rfl

theorem State.statSumRead_frame (b : Fin 20) : Frame s (s.afterRead (Reg.BLK_STAT_SUM b)) [] (· = Reg.BLK_STAT_SUM b) := by
  rw [s.afterRead_statSum]
  exact s.wr_frame _ _

theorem State.writeEvtEn_frame (b : Nat) (w : Word) : Frame s (s.writeEvtEn b w) [.rcd] (· = Reg.BLK_EVT_EN b) :=
  ((Frame.of_rcd s _).mono (by decide) (fun _ h => h.elim)).step (State.wr_frame _ _ _) (by decide) fun _ h => h

theorem State.enWas_writeEvtEn (b : Nat) (w : Word) :
    (s.writeEvtEn b w).rcd.enWas = (b, s.now, s.eventEnable b) :: s.rcd.enWas.filter fun x => x.1 != b := rfl

/-- A write of BLK_EVT_EN leaves what events of this tick are judged against (R613). -/
theorem State.eventEnable_writeEvtEn (b : Nat) (w : Word) (c : Nat) : (s.writeEvtEn b w).eventEnable c = s.eventEnable c := by
  have hnow : (s.writeEvtEn b w).now = s.now := (s.writeEvtEn_frame b w).1 .now (by decide)
  unfold State.eventEnable
  rw [s.enWas_writeEvtEn, hnow, List.find?_cons]
  by_cases hc : b = c
  · subst hc
    simp [State.eventEnable]
  · have hrd : (s.writeEvtEn b w).rd (Reg.BLK_EVT_EN c) = s.rd (Reg.BLK_EVT_EN c) :=
      (s.writeEvtEn_frame b w).2 _ (by simp; omega)
    have hp : (fun x : Nat × Nat × Word => decide ((x.1 != b) = true ∧ (x.1 == c && x.2.1 == s.now) = true)) = fun x => x.1 == c && x.2.1 == s.now := by
      funext x
      by_cases hx : x.1 = c
      · simp [hx, Ne.symm hc, Bool.beq_eq_decide_eq]
      · simp [hx]
    have hb : (b == c) = false := beq_false_of_ne hc
    rw [List.find?_filter, hp, hrd]
    simp [hb]

theorem State.writeStage_frame (c : Fin 80) (w : Word) : Frame s (s.writeStage c w) [.bias] (· = Reg.BIA_STAGE c) :=
  ((Frame.of_bias s _).mono (by decide) (fun _ h => h.elim)).step (State.wr_frame _ _ _) (by decide) fun _ h => h

theorem State.bias_writeStage_same (c : Fin 80) (w : Word) :
    (s.writeStage c w).bias[c] = { s.bias[c] with stage := some (s.now, s.stageWord c) } := by
  simp [State.writeStage, State.setBias, upd]

theorem State.bias_writeStage_other {c d : Fin 80} (w : Word) (h : d ≠ c) : (s.writeStage c w).bias[d] = s.bias[d] := by
  simp [State.writeStage, State.setBias, upd, Vector.getElem_set_ne _ _ (fun e => h (Fin.ext e.symm))]

theorem State.stageWord_of_now {s : State} {c : Fin 80} {v : Word} (h : s.bias[c].stage = some (s.now, v)) : s.stageWord c = v := by
  unfold State.stageWord
  rw [h]
  exact if_pos rfl

/-- A write of BIA_STAGE counts from the next strobe on (R525). -/
theorem State.stageWord_writeStage (c : Fin 80) (w : Word) : (s.writeStage c w).stageWord c = s.stageWord c := by
  have hnow : (s.writeStage c w).now = s.now := (s.writeStage_frame c w).1 .now (by decide)
  apply State.stageWord_of_now
  rw [s.bias_writeStage_same, hnow]

end

section
variable {s t : State} {a : Nat} {w : Word} {e : WriteEnv}

/-- With writes open the action is performed. -/
theorem exec_hook_open (hw : s.writable = true) (ha : RegAt a) (hh : s.hook a w e = some t) :
    exec (.registerWrite (BitVec.ofNat 32 a) w e) s = .next t := by
  rw [exec_hook ha hh, if_pos hw]

theorem exec_modeCmd (hw : s.writable = true) (h : s.writeModeCmd w e = t) :
    exec (.registerWrite (BitVec.ofNat 32 Reg.KPR_MODE_CMD) w e) s = .next t :=
  exec_hook_open hw (by decide) (congrArg some h)

theorem regAt_obsRoute : ∀ k : Fin 9, Reg.RXP_OBS_ROUTE k < 2 ^ 32 ∧ mapped (Reg.RXP_OBS_ROUTE k) = true := by decide +kernel

theorem exec_obsRoute (k : Fin 9) : exec (.registerWrite (BitVec.ofNat 32 (Reg.RXP_OBS_ROUTE k)) w e) s =
    .next (if s.writable = true then (s.writeObsRoute k w).1 else s) := by
  obtain ⟨hlt, hm⟩ := regAt_obsRoute k
  have ho : instOf (Reg.RXP_OBS_ROUTE 0) 0x10000 9 (Reg.RXP_OBS_ROUTE k) = some k := instOf_array _ 0x10000 9 k (by decide)
  have h := execRegisterWrite_ofNat s w e hlt hm
  rwa [State.writeReg_obsRoute ho] at h
end

section
variable (s : State) {w : Word}

theorem State.writeUnlockCtl_new (h : fldOf w 1 0 = 1) : s.writeUnlockCtl w = s.newChallenge := by
  obtain ⟨h0, h1⟩ := bits_of_fldOf_one h
  rw [State.writeUnlockCtl, h0, h1]
  rfl

theorem State.writeUnlockCtl_check (h : fldOf w 1 0 = 2) : s.writeUnlockCtl w = s.checkUnlock := by
  obtain ⟨h0, h1⟩ := bits_of_fldOf_two h
  rw [State.writeUnlockCtl, h0, h1]
  rfl

theorem fldOf_one_bit (w : Word) (i : Nat) : fldOf w i i = 1 ↔ bitOf w.toNat i = true := by
  simp [fldOf, bitOf]

theorem State.writeLastCommit_commit (h : fldOf w 1 0 = 1) : s.writeLastCommit w = s.commitMgmt := by
  obtain ⟨h0, h1⟩ := bits_of_fldOf_one h
  rw [State.writeLastCommit, if_neg (by rw [fldOf_one_bit, h1]; decide), if_pos ((fldOf_one_bit w 0).2 h0)]

theorem State.writeLastCommit_abort (h : bitOf w.toNat 1 = true) : s.writeLastCommit w = s.abortMgmtWrite := by
  rw [State.writeLastCommit, if_pos ((fldOf_one_bit w 1).2 h)]

variable (w) (e : WriteEnv) (p : Port)

theorem State.hook_retrain (h : bitOf w.toNat 31 = true) : s.hook (Reg.LN_CTRL p.idx) w e = some (s.writeRetrain p.idx) :=
  s.hook_lanes w e p (by simp) (by simp; omega) ((s.hookLanes_ctrl w p.idx).trans (congrArg some (if_pos h)))

theorem State.hook_testCfg : s.hook (Reg.LN_TEST_CFG p.idx) w e = some (s.writeTest p.idx w) :=
  s.hook_lanes w e p (by simp) (by simp; omega) (s.hookLanes_testCfg w p.idx)

theorem State.hook_testInj : s.hook (Reg.LN_TEST_INJ p.idx) w e = some (s.writeInject p.idx w) :=
  s.hook_lanes w e p (by simp) (by simp; omega) (s.hookLanes_testInj w p.idx)
end

/-- Settles O53: a write without an action by the bits of `plainWord`, a write with an action by the branch of `State.hook` that its address
takes, the counters of a block by the filter of the register table. -/
theorem registerAccess : Obligations.RegisterAccess := by
  unfold Obligations.RegisterAccess
  intro s hs
  refine ⟨?_, ?_, ?_, ?_, ?_, ?_, ?_, ?_, ?_, ?_, ?_, ?_, ?_, ?_, ?_, ?_, ?_, ?_, ?_, ?_, ?_, ?_, ?_, ?_, ?_, ?_, ?_, ?_, ?_, ?_, ?_, ?_, ?_, ?_, ?_, ?_, ?_, ?_,
    ?_, ?_, ?_, ?_, ?_, ?_, ?_, ?_, ?_, ?_, ?_, ?_, ?_, ?_, ?_, ?_, ?_, ?_, ?_⟩
  · intro a w e hw hm ho hh
    obtain ⟨x, hx⟩ := Option.isSome_iff_exists.1 hm
    refine ⟨_, execRegisterWrite_plain s hw ho hh hx, fun i y hy => ?_, s.wr_frame _ _⟩
    obtain rfl := Option.some.inj (hx.symm.trans hy)
    rw [s.bit_wr_same _ _ _ hs, bitOf_plainWord _ _ _ _ i.isLt, s.bit_eq_bitOf]
  · rintro a w e h
    have hc : (s.writable && mapped a.toNat) = false := by rcases h with h | h <;> simp [h]
    change execRegisterWrite a w e s = _
    rw [execRegisterWrite, hc]
    rfl
  · intro b hw
    refine ⟨s.clearCounters b, ?_, fun a => s.rd_clearCounters b a, fun i => ?_, fun h => ?_, s.clearCounters_frame b⟩
    · change execCntClrWrite b s = _
      rw [execCntClrWrite, hw]
      rfl
    · rw [s.rd_clearCounters, lifetime_not_counterOf b i]
      rfl
    · exact s.saturated_clearCounters b hs (h.imp_left fun hb e => hb (Fin.ext e))
  · intro b hw
    change execCntClrWrite b s = _
    rw [execCntClrWrite, hw]
    rfl
  · intro b hm
    exact ⟨_, congrArg Host.Outcome.next (if_neg hm), fun i => s.statSumRead_bit b i hs, s.statSumRead_frame b⟩
  · intro b hm
    exact congrArg Host.Outcome.next (if_pos hm)
  · intro w e hw h
    exact ⟨s.goLive, exec_modeCmd hw (by rw [State.writeModeCmd, h]; rfl), congrArg Host.Outcome.next (if_pos hw)⟩
  · intro w e hw h
    exact ⟨s.standDown, exec_modeCmd hw (by rw [State.writeModeCmd, h]; rfl), congrArg Host.Outcome.next (if_pos hw)⟩
  · intro w e hw h
    exact ⟨s.recover, exec_modeCmd hw (by rw [State.writeModeCmd, h]; rfl), congrArg Host.Outcome.next (if_pos hw)⟩
  · intro w e hw h
    exact ⟨s.shelve e.bad, exec_modeCmd hw (by rw [State.writeModeCmd, h]; rfl), congrArg Host.Outcome.next (if_pos hw)⟩
  · intro w e hw h
    exact ⟨s.reboot e.boot, exec_modeCmd hw (by rw [State.writeModeCmd, h]; rfl), congrArg Host.Outcome.next (if_pos (by rw [hw]; rfl))⟩
  · intro w e
    refine ⟨_, exec_hook (by decide) (congrArg some (s.writeKeyRevoke_congr fun k hk => ?_)), rfl⟩
    rw [bitOf_ofNat_lt 32 _ k (by omega), bitOf_ofNat_lt 4 _ k hk]
  · intro w e h31 h0
    exact ⟨_, exec_hook (by decide) (congrArg some (s.writeFlashCtl_congr (w := 0x80000000) (h0.trans rfl) (h31.trans rfl))), rfl⟩
  · intro w e h31 h0
    exact ⟨_, exec_hook (by decide) (congrArg some (s.writeFlashCtl_congr (w := 0x80000001) (h0.trans rfl) (h31.trans rfl))), rfl⟩
  · intro w e h
    exact ⟨_, exec_hook (by decide) (congrArg some (s.writeUnlockCtl_new h)), rfl⟩
  · intro w e h
    exact ⟨_, exec_hook (by decide) (congrArg some (s.writeUnlockCtl_check h)), rfl⟩
  · intro w e h31 h
    refine ⟨_, exec_hook (by decide) (congrArg some (s.writeBbCtl_congr (w := 0x80000000) e.bad (fun k hk => ?_) (h31.trans rfl))), rfl⟩
    rw [bitOf_of_fldOf_zero h (by omega), bitOf_of_fldOf_zero (w := 0x80000000) (hi := 7) (by decide) (by omega)]
  · intro w e h31
    refine ⟨_, exec_hook (by decide) (congrArg some (s.writeBbCtl_congr (w := BitVec.ofNat 32 (BitVec.ofNat 8 w.toNat).toNat) e.bad
      (fun k hk => ?_) ?_)), rfl⟩
    · rw [bitOf_ofNat_lt 32 _ k (by omega), bitOf_ofNat_lt 8 _ k hk]
    · rw [bitOf_ofNat_lt 32 _ 31 (by omega), bit_toNat_lt (BitVec.ofNat 8 w.toNat) (by decide), h31]
  · intro w e h
    exact ⟨_, exec_hook (by decide) (congrArg some (s.writeFaultStat_congr (w := 0x40000000) (h.trans rfl))), rfl⟩
  · intro b w e h
    exact ⟨_, exec_hook (by rw [Nat.add_comm]; exact regAt_cntClr b) (by rw [Nat.add_comm]; exact (s.hook_cntClr w e b).trans (congrArg some (if_pos h))), rfl⟩
  · intro w e
    exact ⟨_, exec_hook (by decide) rfl, rfl⟩
  · intro w e h
    exact ⟨_, exec_hook (by decide) (congrArg some (if_pos h)), rfl⟩
  · intro w e h
    exact ⟨_, exec_hook (by decide) (congrArg some (if_pos h)), rfl⟩
  · intro w e
    exact ⟨_, exec_hook (by decide) rfl, rfl⟩
  · intro p w e h
    exact ⟨_, exec_hook (regAt_lanes p.idx).1 (s.hook_retrain w e p h), rfl⟩
  · intro p w e
    exact ⟨_, exec_hook (regAt_lanes p.idx).2.1 (s.hook_testCfg w e p), rfl⟩
  · intro p w e
    exact ⟨_, exec_hook (regAt_lanes p.idx).2.2 (s.hook_testInj w e p), rfl⟩
  · intro c w e h
    exact ⟨_, exec_hook (regAt_own c) ((s.hook_own w e c).trans (congrArg some (s.writeOwn_congr (w := 0x80000000) c (h.trans rfl)))), rfl⟩
  · intro sp w e
    exact ⟨_, exec_hook (regAt_spool sp).1 (s.hook_spoolHead w e sp), rfl⟩
  · intro sp w e
    exact ⟨_, exec_hook (regAt_spool sp).2.1 (s.hook_spoolPace w e sp), rfl⟩
  · intro w e
    exact ⟨_, exec_hook (by decide) rfl, rfl⟩
  · intro w e
    exact ⟨_, exec_hook (by decide) rfl, rfl⟩
  · intro w e
    exact ⟨_, exec_hook (by decide) rfl, rfl⟩
  · intro w e
    exact ⟨_, exec_hook (by decide) rfl, rfl⟩
  · intro w e h
    exact ⟨_, exec_hook (by decide) (congrArg some (if_pos h)), rfl⟩
  · intro hi w e
    cases hi <;> exact ⟨_, exec_hook (by decide) rfl, rfl⟩
  · intro hi w e
    cases hi <;> exact ⟨_, exec_hook (by decide) rfl, rfl⟩
  · intro hi w e
    cases hi <;> exact ⟨_, exec_hook (by decide) rfl, rfl⟩
  · intro hi w e
    cases hi <;> exact ⟨_, exec_hook (by decide) rfl, rfl⟩
  · intro p w e
    exact ⟨_, exec_hook (regAt_atten p) (s.hook_atten w e p), rfl⟩
  · intro k w e
    exact ⟨_, exec_obsRoute k, rfl⟩
  · intro c w e
    exact ⟨_, exec_hook (regAt_carOfs c) (s.hook_carOfs w e c), rfl⟩
  · intro w e
    exact ⟨_, exec_hook (by decide) rfl, rfl⟩
  · intro p w e hu hr
    exact ⟨_, exec_hook (regAt_dpdCtrl p) ((s.hook_dpdCtrl w e p).trans (congrArg some (s.writeDpdCtrl_freeze p hs hu hr))), rfl⟩
  · intro w e
    exact ⟨_, exec_hook (by decide) rfl, rfl⟩
  · intro w e h
    exact ⟨_, exec_hook (by decide) (congrArg some (s.writeLastCommit_commit h)), rfl⟩
  · intro w e h
    exact ⟨_, exec_hook (by decide) (congrArg some (s.writeLastCommit_abort h)), rfl⟩
  · intro w e
    exact ⟨_, exec_hook (by decide) rfl, rfl⟩
  · intro c w e
    exact ⟨_, exec_hook (regAt_bias c).1 (s.hook_chCfg w e c), rfl⟩
  · intro c w e
    exact ⟨_, exec_hook (regAt_bias c).2.1 (s.hook_biaQueue w e c), rfl⟩
  · intro w e
    exact ⟨_, exec_hook (by decide) rfl, rfl⟩
  · intro w e
    exact ⟨_, exec_hook (by decide) rfl, rfl⟩
  · intro b w e hw
    exact ⟨_, exec_hook_open hw (regAt_evtEn b) (s.hook_evtEn w e b), State.rd_wr_same _ _ _ hs, fun c => s.eventEnable_writeEvtEn b w c,
      s.writeEvtEn_frame b w⟩
  · intro c w e hw
    exact ⟨_, exec_hook_open hw (regAt_bias c).2.2 (s.hook_biaStage w e c), State.rd_wr_same _ _ _ hs, s.stageWord_writeStage c w,
      fun d hd => s.bias_writeStage_other w hd, s.bias_writeStage_same c w, s.writeStage_frame c w⟩
  · intro w e hw
    refine ⟨_, exec_hook_open hw (by decide) rfl, ?_, ?_⟩
    · cases hb : bitOf w.toNat 0 with
      | false => rfl
      | true => exact s.bit_setBit_same _ 0 true (by decide) hs
    · exact Frame.ite (s.setBit_frame _ _ _) (.refl s _ _)
  · intro sp w e hw h
    exact ⟨_, exec_hook_open hw (regAt_spool sp).2.2 (s.hook_ringBase w e sp h), s.rd_bump_same _ hs, s.bump_frame _⟩
  · intro i w e hw
    exact ⟨_, exec_hook_open hw (regAt_unlockResp i) (s.hook_unlockResp w e i), s.rd_wr_same _ _ hs, s.wr_frame _ _⟩

/-! ## The state after reset -/

theorem State.reset_canon : State.reset.Canon := ⟨reset_canon_regs, rfl, rfl, rfl, rfl, rfl⟩

theorem State.reset_side : State.reset.Side := by decide

/-- After reset no register stands away from its reset value (R7). -/
theorem State.rd_reset (a : Nat) : State.reset.rd a = resetWord a := rfl

/-- Settles O58: the tables of the reset state list nothing, so that every register reads its reset value and every byte 0; the other values
are those that the state's fields begin with. -/
theorem resetState : Obligations.ResetState := by
  unfold Obligations.ResetState
  have hquad : ∀ q : Fin 16, State.reset.seq.quads[q].st = .gated ∧ State.reset.seq.quads[q].paen = false ∧
      State.reset.seq.quads[q].trsw = false ∧ State.reset.seq.quads[q].lnap = true := by decide
  have hports : State.reset.portState 0 = 0 ∧ State.reset.portState 1 = 0 := by decide
  have hregs : State.reset.rd Reg.KPR_MODE = 1 ∧ State.reset.rd Reg.TIM_INCR_FRAC = 0x046AAAAB ∧
      State.reset.fld Reg.TIM_INCR_CTL 3 0 = 1 ∧ State.reset.fld Reg.TIM_INCR_CTL 9 8 = 1 := by decide
  exact ⟨State.reset_canon, State.reset_side, State.rd_reset, rfl, rfl, hquad, hports.1, hports.2, rfl, rfl, fun _ => rfl, hregs⟩

end Sys2Proof.Machine

namespace Sys2Proof.Machine

/-! ## Turnarounds and the life of a symbol

### The bank of a shadow table: O6 -/

/-- The first quad transmits, and on its first path an update waits for bank 8, which is none of the eight banks of R282. -/
def shadowPastBanks : State :=
  { State.reset with
    seq := { State.reset.seq with quads := State.reset.seq.quads.set 0 { st := .transmit } }
    dpd := { State.reset.dpd with paths := State.reset.dpd.paths.set 0 { shadow := some (8, [1]), shadowDue := true } } }

/-- The first word of a ninth bank of path 0 would lie on DPD_CTRL of path 1, which is neither a table's word nor a trip status. -/
theorem dpdCtrl_not_selectRegs : ¬ (arr4 64 8 8 65 Reg.DPD_LUT (Reg.DPD_CTRL 1) ∨ arr 64 Reg.DPD_TRIP_STAT (Reg.DPD_CTRL 1)) := by
  rintro (⟨p, hp, b, hb, m, hm, k, hk, h⟩ | ⟨p, hp, h⟩)
  · simp only [Reg.DPD_CTRL, Reg.DPD_LUT] at h
    omega
  · simp only [Reg.DPD_CTRL, Reg.DPD_TRIP_STAT] at h
    omega

/-- Refutes O6: the statement takes every state in canonical form, and the canonical form does not hold the bank of a shadow table below 8.
From `shadowPastBanks` DPD_BANK_SELECT puts the table of bank 8 in force (`State.applyShadow`), and its first word falls on DPD_CTRL of the
next path, outside the frame: it reads 1 where it read 0. -/
theorem not_rxToTxTurnaroundTable : ¬ Obligations.RxToTxTurnaroundTable := by
  unfold Obligations.RxToTxTurnaroundTable
  intro h
  obtain ⟨-, -, -, -, -, -, -, hselect, -⟩ := h shadowPastBanks (by decide +kernel)
  obtain ⟨t, ht, -, -, hframe⟩ := hselect .pattern
  obtain rfl := Host.Outcome.next.inj ht
  have hkept := hframe.2 _ dpdCtrl_not_selectRegs
  have hwas : shadowPastBanks.rd (Reg.DPD_CTRL 1) = 0 := by decide +kernel
  rw [hwas] at hkept
  exact absurd hkept (by decide +kernel)

/-! ### The figures of a frame that are still to be shown when its last symbol ends: O7 -/

section
variable (s : State)

theorem State.freeNat_frame : Frame s s.freeNat.2 [.freeIdx] noRegs := Frame.of_freeIdx s _

/-- A figure of R159 is shown in the register at `a` alone. -/
theorem State.showCfr_frame (a : Nat) (v : Option Int) : Frame s (s.showCfr a v) [.freeIdx] (· = a) := by
  have hfree : Frame s (s.freeNat.2.setFld a 9 0 s.freeNat.1) [.freeIdx] (· = a) :=
    (Frame.mono s.freeNat_frame (by decide) fun _ h => h.elim).step (State.setFld_frame _ _ _ _ _) (by decide) fun _ h => h
  unfold State.showCfr
  split
  · exact Frame.ite ((s.setFld_frame _ _ _ _).mono (by decide) fun _ h => h) hfree
  · exact hfree

/-- Where the formula of R159 has no value, the field shows the next free value. -/
theorem State.fld_showCfr_none (a : Nat) (h : s.Canon) : (s.showCfr a none).fld a 9 0 = Config.free s.freeIdx % 2 ^ 10 :=
  State.fld_setFld_same (s := s.freeNat.2) h _ (by decide) (by decide)

/-- Path 0 shows its PAR first, and no other figure of the frame lies in its register (R159). -/
theorem State.cfrStats_frame_first : Frame (s.showCfr (Reg.DFE_CFR_STAT 0) (s.dfe.cfr[(0 : Fin 64)]).par) s.cfrStats [.dfe, .freeIdx]
    (· ≠ Reg.DFE_CFR_STAT 0) := by
  unfold State.cfrStats State.forPaths
  rw [List.finRange_succ, List.foldl_cons, List.foldl_map]
  refine Frame.part (Frame.trans (Frame.foldl _ (fun t i => ?_) _ _) (Frame.foldl _ (fun t c => ?_) _ _)) (Frame.of_dfe _ _) (by decide)
  · exact (t.showCfr_frame _ _).mono (by decide) fun a h => by simp only [Reg.DFE_CFR_STAT, Fin.val_succ] at h ⊢; omega
  · exact (t.showCfr_frame _ _).mono (by decide) fun a h => by simp only [Reg.DFE_CAR_STAT, Reg.DFE_CFR_STAT] at h ⊢; omega

/-- The figures of a frame in which path 0 sent nothing: its PAR is the next free value (R159). -/
theorem State.fld_cfrStats_first (h : s.Canon) (hpar : (s.dfe.cfr[(0 : Fin 64)]).par = none) :
    s.cfrStats.fld (Reg.DFE_CFR_STAT 0) 9 0 = Config.free s.freeIdx % 2 ^ 10 := by
  rw [s.cfrStats_frame_first.fld (by simp), hpar, s.fld_showCfr_none _ h]

/-- A symbol without channels, with nothing beside it, leaves a path's chain empty. -/
theorem State.chainOf_silent {x : TxSym} (hx : x.chans = []) (p : Fin 64) : s.chainOf none x none p = {} := by
  have hup : ∀ k, upconvert none x none k p = [] := fun k => by simp [upconvert, TxSym.chan, hx]
  simp [State.chainOf, carrierSum, hup]

end

/-- From `s` to `t` the front end alone changes, and by no symbol in which path 0 sends something. -/
def QuietPass (s t : State) : Prop :=
  ∃ d : Dfe, t = { s with dfe := d } ∧ d.txPrev = s.dfe.txPrev ∧ d.cfrDue = s.dfe.cfrDue ∧
    (d.cfr[(0 : Fin 64)]).sum = (s.dfe.cfr[(0 : Fin 64)]).sum

theorem QuietPass.trans {s t u : State} (h : QuietPass s t) (k : QuietPass t u) : QuietPass s u := by
  obtain ⟨d, rfl, hp, hc, hs⟩ := h
  obtain ⟨e, rfl, hp', hc', hs'⟩ := k
  exact ⟨e, rfl, hp'.trans hp, hc'.trans hc, hs'.trans hs⟩

section
variable (s : State) {x : TxSym}

/-- The figures of R159 take a D symbol without samples in: the sum of its powers is 0. -/
theorem sum_upd_add_silent (v : Vector CfrSt 64) (p : Fin 64) :
    ((upd v p fun y => y.add x {})[(0 : Fin 64)]).sum = (v[(0 : Fin 64)]).sum := by
  by_cases hp : p = 0
  · subst hp
    simp [upd, CfrSt.add]
  · have hne : p.val ≠ 0 := fun e => hp (Fin.ext e)
    simp [upd, Vector.getElem_set_ne, hne]

theorem State.pathEnd_silent (hx : x.chans = []) (p : Fin 64) : QuietPass s (s.pathEnd none x none p) := by
  unfold State.pathEnd
  rw [s.chainOf_silent hx]
  dsimp only
  rw [if_pos rfl]
  cases hd : x.d
  · exact ⟨_, rfl, rfl, rfl, rfl⟩
  · exact ⟨_, rfl, rfl, rfl, sum_upd_add_silent _ p⟩

/-- A symbol without channels that neither follows nor precedes another one passes through every path. -/
theorem State.forPaths_pathEnd_silent (hx : x.chans = []) (hprev : s.dfe.txPrev = none) :
    QuietPass s (s.forPaths fun t p => t.pathEnd t.dfe.txPrev x none p) := by
  refine List.foldlRecOn _ _ (motive := QuietPass s) ⟨s.dfe, rfl, rfl, rfl, rfl⟩ fun t ht p _ => ht.trans ?_
  obtain ⟨d, rfl, hp, -⟩ := ht
  have hnone : d.txPrev = none := hp.trans hprev
  simpa only [hnone] using State.pathEnd_silent { s with dfe := d } hx p

/-- A symbol in which path 0 sent nothing ends after its frame: the frame's figures are shown, and the PAR of path 0 is a free value (R159). -/
theorem State.fld_endTx_silent (h : s.Canon) (htx : s.dfe.tx = some x) (hx : x.chans = []) (hprev : s.dfe.txPrev = none)
    (hdue : s.dfe.cfrDue = true) (hsum : (s.dfe.cfr[(0 : Fin 64)]).sum = 0) :
    (s.endTx none).fld (Reg.DFE_CFR_STAT 0) 9 0 = Config.free s.freeIdx % 2 ^ 10 := by
  obtain ⟨d, hd, -, hc, hs⟩ := s.forPaths_pathEnd_silent hx hprev
  have hpar : (d.cfr[(0 : Fin 64)]).par = none := if_pos (hs.trans hsum)
  unfold State.endTx
  rw [htx]
  dsimp only
  rw [hd, if_pos (hc.trans hdue)]
  exact State.fld_cfrStats_first _ h hpar

end

/-! ### The anchor of a downlink run -/

section
variable (s : State)

theorem Frame.of_air (x : Air) : Frame s { s with air := x } [.air] noRegs :=
  ⟨fun p h => by cases p <;> simp [Part.same] at h ⊢, fun _ _ => rfl⟩

theorem State.pathsWhere_frame (c : Fin 16 → Bool) (f : PathSt → PathSt) : Frame s (s.pathsWhere c f) [.paths] noRegs :=
  Frame.foldl _ (fun s _ => Frame.ite (Frame.of_paths s _) (.refl ..)) _ s

theorem State.unmute_frame_tripStat (p : Fin 64) : Frame s (s.unmute p) [.dpd] (arr 64 Reg.DPD_TRIP_STAT) :=
  ((s.setBit_frame _ _ _).mono (by decide) fun _ h => ⟨p, p.isLt, h⟩).part (Frame.of_dpd _ _) (by decide)

theorem State.unmuteRun_frame (p : Fin 64) : Frame s (s.unmuteRun p) [.dpd] (arr 64 Reg.DPD_TRIP_STAT) :=
  Frame.ite (.refl ..) ((s.setBit_frame _ _ _).mono (by decide) fun _ h => ⟨p, p.isLt, h⟩)

/-- At the anchor of a downlink run the transmission ends, and beside it of the registers the trip status alone changes (R35, R305). -/
theorem execTxRxAnchor_pattern : ∃ t, execTxRxAnchor .pattern s = .next t ∧
    Frame (s.endTx none) t [.air, .paths, .dpd, .seq] (arr 64 Reg.DPD_TRIP_STAT) := by
  have hunmute : ∀ u : State, Frame u
      (u.forPaths fun t p => if t.takesPart .pattern (quadOf p) then t.unmute p else if t.turnHere .pattern then t.unmuteRun p else t)
      [.dpd] (arr 64 Reg.DPD_TRIP_STAT) := fun u =>
    Frame.foldl _ (fun t p => Frame.ite (t.unmute_frame_tripStat p) (Frame.ite (t.unmuteRun_frame p) (.refl ..))) _ u
  have hquads : ∀ u : State, Frame u (u.forQuads fun t q => t.setQuad q fun x => { x with sitsOut := false, blankCounted := false })
      [.seq] noRegs := fun u => Frame.foldl _ (fun t _ => Frame.of_seq t _) _ u
  refine ⟨_, rfl, ?_⟩
  exact (((((s.endTx none).pathsWhere_frame _ _).mono (by decide) fun _ h => h.elim).step (hunmute _) (by decide) fun _ h => h).part
    (Frame.of_air _ _) (by decide)).part (hquads _) (by decide)

end

/-- A downlink run at its anchor, which is the end of a frame too: FRAME_BOUNDARY has left the frame's figures to the end of the last symbol
(`State.frameStats`). The frame sent nothing, so that the spec states no PAR of it, and DFE_CFR_STAT of path 0 shows another value than the
free value that comes next. -/
def frameDueAtAnchor : State :=
  { State.reset with
    air := { State.reset.air with onAir := some ⟨0, 19, 13⟩, inRun := true }
    dfe := { State.reset.dfe with
      tx := some { a := ⟨0, 19, 13⟩, at_ := 0, chans := [], banks := Vector.replicate 64 0, gates := 0, d := true }, cfrDue := true } }.setFld
    (Reg.DFE_CFR_STAT 0) 9 0 (Config.free 0 + 1)

theorem fld_frameDueAtAnchor : frameDueAtAnchor.fld (Reg.DFE_CFR_STAT 0) 9 0 = (Config.free 0 + 1) % 2 ^ 10 :=
  State.fld_setFld_same (State.reset_canon.of_tables rfl rfl rfl rfl rfl rfl) _ (by decide) (by decide)

theorem frameDueAtAnchor_canon : frameDueAtAnchor.Canon :=
  State.setFld_canon _ _ _ _ _ (State.reset_canon.of_tables rfl rfl rfl rfl rfl rfl)

/-- The registers that O7 allows the anchor to change hold no figure of a frame. -/
theorem cfrStat_not_anchorRegs : ¬ (Reg.DFE_CFR_STAT 0 = Reg.KTE_TX_CNT ∨ arr 64 Reg.DFE_CFR_CLIP_CNT (Reg.DFE_CFR_STAT 0) ∨
    arr 64 Reg.DFE_OUT_SAT_CNT (Reg.DFE_CFR_STAT 0) ∨ arr 64 Reg.DPD_IN_OVR_CNT (Reg.DFE_CFR_STAT 0) ∨
    arr 64 Reg.DPD_OUT_SAT_CNT (Reg.DFE_CFR_STAT 0) ∨ arr 64 Reg.DPD_TRIP_STAT (Reg.DFE_CFR_STAT 0) ∨
    arr 64 Reg.TXP_SAT_CNT (Reg.DFE_CFR_STAT 0)) := by
  decide +kernel

/-- Refutes O7: its frame of TX_RX_ANCHOR leaves out DFE_CFR_STAT (and DFE_CAR_STAT). From `frameDueAtAnchor` the anchor ends the last symbol
of the run, and with it shows the frame's figures (`State.endTx`, R159): the PAR field of path 0 changes. -/
theorem not_txToRxTurnaroundTable : ¬ Obligations.TxToRxTurnaroundTable := by
  unfold Obligations.TxToRxTurnaroundTable
  intro h
  obtain ⟨hanchor, -⟩ := h frameDueAtAnchor frameDueAtAnchor_canon
  obtain ⟨t, ht, -, -, -, -, hframe⟩ := hanchor .pattern rfl
  obtain ⟨u, hu, hend⟩ := execTxRxAnchor_pattern frameDueAtAnchor
  obtain rfl : u = t := Host.Outcome.next.inj (hu.symm.trans ht)
  have hnew : u.fld (Reg.DFE_CFR_STAT 0) 9 0 = Config.free 0 % 2 ^ 10 :=
    (hend.fld (by decide +kernel) 9 0).trans (State.fld_endTx_silent _ frameDueAtAnchor_canon rfl rfl rfl rfl rfl)
  have hold : u.fld (Reg.DFE_CFR_STAT 0) 9 0 = (Config.free 0 + 1) % 2 ^ 10 :=
    (hframe.fld cfrStat_not_anchorRegs 9 0).trans fld_frameDueAtAnchor
  omega

/-! ### Layer data of a symbol without a commit point in its direction: O8 -/

/-- SERVICE, every slot 13 D symbols and a GUARD symbol, 60 µs before slot 1. Layer data that names the GUARD symbol of slot 0 still waits:
nothing checks the direction of layer data (`State.judgeParcel`), and the commit point of a GUARD symbol purges nothing. -/
def staleData : State :=
  { State.reset with
    now := 432538
    mode := .service
    air := { State.reset.air with
      origin := some (0, 0), pats := [{ nSlot := 1, kiteK := 0, calK := 0, syms := List.replicate 13 0 ++ [8] }] }
    bmx := { State.reset.bmx with udl := [{ car := 0, sym := 13, layer := 0, left := 1, first := 0, width := 9, run := [] }] } }

/-- Refutes O8: the statement counts the uncovered layer data of the symbol itself alone, but COMMIT_POINT of a D symbol also counts what is
left of earlier symbols and leaves the store with it (`State.purge`, R47). From `staleData` PKT_UDL_ORPHAN_CNT of carrier 0 counts the data of
the GUARD symbol, where the statement has no count. -/
theorem not_symbolCommitPoint : ¬ Obligations.SymbolCommitPoint := by
  unfold Obligations.SymbolCommitPoint
  intro h
  obtain ⟨hcommit, -⟩ := h staleData (by decide +kernel)
  obtain ⟨t, ht, -, horphan, -⟩ := hcommit ⟨0, 1, 0⟩ (by decide +kernel) (by decide +kernel) (by decide +kernel)
  obtain rfl := Host.Outcome.next.inj ht
  have hnone : staleData.dataAt ⟨0, 1, 0⟩ 0 = [] := by decide +kernel
  have hcount := horphan 0
  rw [Counted, Fin.val_zero, hnone] at hcount
  exact absurd hcount (by decide +kernel)

/-! ### Upsets that strike memory: O9 -/

/-- A symbol without sections whose commit point has passed. -/
def jobWaiting : State := { State.reset with bmx := { State.reset.bmx with jobs := [{ a := ⟨0, 0, 0⟩ }] } }

/-- Refutes O9: the statement keeps every byte of memory over WEIGHT_FETCH_POINT, whatever upsets its reads meet. Two upsets of different bits
of block 0 make it uncorrectable, and from then on its bytes are the wrong ones (`State.strike`, R491): byte 0 reads 0xC0 where it read 0. -/
theorem not_symbolWeightsToAirStart : ¬ Obligations.SymbolWeightsToAirStart := by
  unfold Obligations.SymbolWeightsToAirStart
  intro h
  obtain ⟨hfetch, -⟩ := h jobWaiting (by decide +kernel)
  obtain ⟨t, ht, -, -, hmem, -⟩ := hfetch ⟨0, 0, 0⟩ [(0, .bit 0), (0, .bit 1)] (by decide +kernel)
  obtain rfl := Host.Outcome.next.inj ht
  have hkept := hmem 0
  have hwas : jobWaiting.memGet 0 = 0 := by decide +kernel
  rw [hwas] at hkept
  exact absurd hkept (by decide +kernel)

end Sys2Proof.Machine


namespace Sys2Proof.Machine

/-! ## Antenna paths

### Management captures of the crossbar -/

/-- An ARRAY job waits for receiver 0, that of the coupler networks, which a management capture of source 65 holds (R91, R92). -/
def arrayWaits : State :=
  let s := { State.reset with seq := { State.reset.seq with job := some { kind := 2, quads := 0, quadOut := false } } }
  (s.setFld (Reg.RXP_OBS_ROUTE 0) 22 16 65).setFld (Reg.RXP_OBS_ROUTE 0) 1 0 3

/-- Refutes O10: the statement has MANAGEMENT_CAPTURE_END leave the receiver free and change nothing else, while a calibration job that waits
for the receiver takes it at once (R92). From `arrayWaits` receiver 0 passes from management to the ARRAY job, and is not free. -/
theorem not_attenuationSlicesAndCrossbar : ¬ Obligations.AttenuationSlicesAndCrossbar := by
  unfold Obligations.AttenuationSlicesAndCrossbar
  intro h
  obtain ⟨-, -, -, -, -, -, -, -, hend, -⟩ := h arrayWaits (by decide +kernel)
  obtain ⟨t, ht, hfree, -⟩ := hend 0 (by decide +kernel)
  obtain rfl := Host.Outcome.next.inj ht
  exact absurd hfree (by decide +kernel)

/-! ### Retirement and reinstatement -/

/-- The element that is changed. -/
theorem getElem_upd_same {α : Type} {n : Nat} (v : Vector α n) (i : Fin n) (f : α → α) : (upd v i f)[i] = f v[i] := by
  simp [upd]

/-- Every other element stays. -/
theorem getElem_upd_other {α : Type} {n : Nat} (v : Vector α n) {i j : Fin n} (f : α → α) (h : j ≠ i) : (upd v i f)[j] = v[j] := by
  have hne : i.val ≠ j.val := fun e => h (Fin.ext e.symm)
  simp [upd, Vector.getElem_set_ne, hne]

section
variable (s : State)

/-- An event that is raised leaves those that wait. -/
theorem State.queue_subset_raiseEvent (e : Event) : s.rcd.queue ⊆ (s.raiseEvent e).rcd.queue := by
  intro x hx
  rw [State.raiseEvent, State.joinQueue, State.noteEvent_rcd]
  split
  · exact (mem_insertEvent ..).2 (.inr hx)
  · simpa using hx

theorem State.length_queue_raiseEvent_le (e : Event) : (s.raiseEvent e).rcd.queue.length ≤ s.rcd.queue.length + 1 := by
  rw [State.raiseEvent, State.joinQueue, State.noteEvent_rcd]
  split
  · simp [length_insertEvent]
  · simp

/-- While fewer than 64 events wait, the effect of an event waits with them (R581, R583). -/
theorem State.raiseEffect_raised (c : Nat) (l : List (Nat × Nat)) : Raised s (s.raiseEffect c l) c l := fun h => by
  rw [State.raiseEffect, State.raiseEvent, State.joinQueue, State.noteEvent_rcd, if_pos h]
  exact ⟨_, (mem_insertEvent ..).2 (.inl rfl), rfl, rfl⟩

/-! #### What a retirement is made of -/

theorem State.setLive_frame (lo hi : Nat) (p : Fin 64) (b : Bool) : Frame s (s.setLive lo hi p b) [] (fun a => a = lo ∨ a = hi) :=
  Frame.ite ((s.setBit_frame _ _ _).mono (by decide) fun _ h => .inl h) ((s.setBit_frame _ _ _).mono (by decide) fun _ h => .inr h)

theorem State.setLive_canon (lo hi : Nat) (p : Fin 64) (b : Bool) (h : s.Canon) : (s.setLive lo hi p b).Canon := by
  unfold State.setLive
  split
  · exact s.setBit_canon _ _ _ h
  · exact s.setBit_canon _ _ _ h

theorem State.setPath_canon (p : Fin 64) (f : PathSt → PathSt) (h : s.Canon) : (s.setPath p f).Canon :=
  h.of_tables rfl rfl rfl rfl rfl rfl

theorem State.setDpd_canon (p : Fin 64) (f : DpdPath → DpdPath) (h : s.Canon) : (s.setDpd p f).Canon :=
  h.of_tables rfl rfl rfl rfl rfl rfl

/-- The registers of a side of path `p` that is retired: RETIRE, the live bits, and the counts of retirements (R97). -/
def State.showRetired (r lo hi cnt : Nat) (p : Fin 64) (cause : Nat) : State :=
  (((s.wr r (BitVec.ofNat 32 (0x80000000 + cause))).setLive lo hi p false).bump cnt).bump (Reg.KPR_LT 15)

theorem State.showRetired_frame (r lo hi cnt : Nat) (p : Fin 64) (cause : Nat) :
    Frame s (s.showRetired r lo hi cnt p cause) [] (fun a => a = r ∨ a ∈ [lo, hi, cnt, Reg.KPR_LT 15]) := by
  refine (((Frame.refl ..).step (s.wr_frame _ _) (by decide) ?_).step (State.setLive_frame _ _ _ _ _) (by decide) ?_).step
    (State.bump_frame _ _) (by decide) ?_ |>.step (State.bump_frame _ _) (by decide) ?_
  all_goals simp +contextual

theorem State.showRetired_canon (r lo hi cnt : Nat) (p : Fin 64) (cause : Nat) (h : s.Canon) :
    (s.showRetired r lo hi cnt p cause).Canon :=
  State.bump_canon _ _ (State.bump_canon _ _ (State.setLive_canon _ _ _ _ _ (s.wr_canon _ _ h)))

/-- RETIRE names the cause. -/
theorem State.rd_showRetired (r lo hi cnt : Nat) (p : Fin 64) (cause : Nat) (h : s.Canon) (hr : r ∉ [lo, hi, cnt, Reg.KPR_LT 15]) :
    (s.showRetired r lo hi cnt p cause).rd r = BitVec.ofNat 32 (0x80000000 + cause) := by
  simp only [List.mem_cons, not_or] at hr
  obtain ⟨hlo, hhi, hcnt, hlt, -⟩ := hr
  rw [State.showRetired, State.rd_bump_other _ hlt, State.rd_bump_other _ hcnt, (State.setLive_frame _ _ _ _ _).2 r (by simp [hlo, hhi]),
    s.rd_wr_same _ _ h]

theorem State.voidCal_frame (p : Fin 64) (tx : Bool) : Frame s (s.voidCal p tx) [.paths, .seq] noRegs := by
  unfold State.voidCal
  extract_lets job bg t
  have ht : Frame s t [.paths, .seq] noRegs := (Frame.of_paths s _).mono (by decide) fun _ h => h
  clear_value t
  split
  · exact ht.part (Frame.of_seq t _) (by decide)
  · exact ht

theorem State.paths_voidCal_other {p q : Fin 64} (tx : Bool) (h : q ≠ p) : (s.voidCal p tx).paths[q] = s.paths[q] := by
  unfold State.voidCal
  dsimp only
  split
  · exact getElem_upd_other _ _ h
  · exact getElem_upd_other _ _ h

theorem State.gateHold_frame (p : Fin 64) (i : Nat) : Frame s (s.gateHold p i) [.bias] (arr 80 Reg.BIA_CLEAR_CNT) :=
  Frame.foldl _ (fun s c => Frame.ite (s.biasHold_frame c i) (.refl ..)) _ s

theorem State.biasHold_canon (c : Fin 80) (i : Nat) (h : s.Canon) : (s.biasHold c i).Canon := by
  unfold State.biasHold
  dsimp only
  split
  · exact s.bump_canon _ h
  · exact h

theorem State.gateHold_canon (p : Fin 64) (i : Nat) (h : s.Canon) : (s.gateHold p i).Canon := by
  refine s.forBias_canon _ (fun u c hu => ?_) h
  split
  · exact u.biasHold_canon c i hu
  · exact hu

theorem State.setVisit_frame (l : Fin 8) (v : Option Visit) : Frame s (s.setVisit l v) [.dpd] noRegs := Frame.of_dpd s _

theorem State.setVisit_canon (l : Fin 8) (v : Option Visit) (h : s.Canon) : (s.setVisit l v).Canon :=
  h.of_tables rfl rfl rfl rfl rfl rfl

theorem State.obsRelease_canon (k : Nat) (h : s.Canon) : (s.obsRelease k).Canon :=
  State.setBit_canon _ _ _ _ (State.setFld_canon _ _ _ _ _ (s.setFld_canon _ _ _ _ h))

/-- The end of a visit frees its receiver (R292), and changes no path of the pre-distorter. -/
theorem State.endVisit_frame (l : Fin 8) : Frame s (s.endVisit l) [.dpd] (arr 9 Reg.RXP_OBS_ROUTE) := by
  unfold State.endVisit
  split
  · exact .refl ..
  · dsimp only
    have hv : Frame s (s.setVisit l none) [.dpd] (arr 9 Reg.RXP_OBS_ROUTE) := (s.setVisit_frame l none).mono (by decide) fun _ h => h.elim
    split
    · next hk => exact hv.step (State.obsRelease_frame _ _) (by decide) fun _ h => ⟨_, hk, h⟩
    · exact hv

theorem State.endVisit_canon (l : Fin 8) (h : s.Canon) : (s.endVisit l).Canon := by
  unfold State.endVisit
  split
  · exact h
  · extract_lets t
    have ht : t.Canon := s.setVisit_canon l none h
    clear_value t
    split
    · exact t.obsRelease_canon _ ht
    · exact ht

theorem State.dpdPaths_endVisit (l : Fin 8) : (s.endVisit l).dpd.paths = s.dpd.paths := by
  unfold State.endVisit
  split
  · rfl
  · extract_lets t
    have ht : t.dpd.paths = s.dpd.paths := rfl
    clear_value t
    split
    · exact (congrArg Dpd.paths ((t.obsRelease_frame _).1 .dpd (by decide))).trans ht
    · exact ht

/-- The visits of a path end one by one. -/
theorem State.endVisitsOf_induct {motive : State → Prop} (p : Fin 64) (h : motive s) (hend : ∀ u l, motive u → motive (u.endVisit l)) :
    motive (s.endVisitsOf p) := by
  unfold State.endVisitsOf
  refine List.foldlRecOn _ _ h fun u hu l _ => ?_
  split
  · split
    · exact hend u l hu
    · exact hu
  · exact hu

theorem State.endVisitsOf_frame (p : Fin 64) : Frame s (s.endVisitsOf p) [.dpd] (arr 9 Reg.RXP_OBS_ROUTE) :=
  s.endVisitsOf_induct (motive := fun u => Frame s u [.dpd] (arr 9 Reg.RXP_OBS_ROUTE)) p (Frame.refl ..) fun u l hu =>
    Frame.trans hu (u.endVisit_frame l)

theorem State.endVisitsOf_canon (p : Fin 64) (h : s.Canon) : (s.endVisitsOf p).Canon :=
  s.endVisitsOf_induct (motive := State.Canon) p h fun u l hu => u.endVisit_canon l hu

theorem State.dpdPaths_endVisitsOf (p : Fin 64) : (s.endVisitsOf p).dpd.paths = s.dpd.paths :=
  s.endVisitsOf_induct (motive := fun u => u.dpd.paths = s.dpd.paths) p rfl fun u l hu => (u.dpdPaths_endVisit l).trans hu

theorem State.voidCal_canon (p : Fin 64) (tx : Bool) (h : s.Canon) : (s.voidCal p tx).Canon := by
  unfold State.voidCal
  dsimp only
  split
  · exact h.of_tables rfl rfl rfl rfl rfl rfl
  · exact h.of_tables rfl rfl rfl rfl rfl rfl

end

/-! #### What a command on one path leaves of another -/

/-- From `s` to `t` what reinstatement and retirement look at of path `p` stays, its register at `r` among it, and no waiting event is lost. -/
structure KeepsPath (r : Nat) (p : Fin 64) (s t : State) : Prop where
  now : t.now = s.now
  mode : t.mode = s.mode
  path : t.paths[p] = s.paths[p]
  dpd : t.dpd.paths[p] = s.dpd.paths[p]
  rd : t.rd r = s.rd r
  events : s.rcd.queue ⊆ t.rcd.queue

section
variable {s t u : State} {r : Nat} {p q : Fin 64}

theorem KeepsPath.refl : KeepsPath r p s s := ⟨rfl, rfl, rfl, rfl, rfl, List.Subset.refl _⟩

theorem KeepsPath.trans (h : KeepsPath r p s t) (k : KeepsPath r p t u) : KeepsPath r p s u :=
  ⟨k.now.trans h.now, k.mode.trans h.mode, k.path.trans h.path, k.dpd.trans h.dpd, k.rd.trans h.rd, List.Subset.trans h.events k.events⟩

/-- A frame that touches neither paths nor events nor the register. -/
theorem Frame.keepsPath {ps : List Part} {rs : Nat → Prop} (f : Frame s t ps rs) (hr : ¬ rs r) (hd : t.dpd.paths[p] = s.dpd.paths[p])
    (hp : ∀ x ∈ [Part.now, .mode, .paths, .rcd], x ∉ ps := by decide) : KeepsPath r p s t where
  now := f.1 .now (hp _ (by simp))
  mode := f.1 .mode (hp _ (by simp))
  path := by rw [show t.paths = s.paths from f.1 .paths (hp _ (by simp))]
  dpd := hd
  rd := f.2 r hr
  events := by rw [show t.rcd = s.rcd from f.1 .rcd (hp _ (by simp))]; exact List.Subset.refl _

/-- An event that is raised elsewhere than in the register's block. -/
theorem State.raiseEvent_keepsPath (s : State) (e : Event) (hr : ¬ eventRegs e.code r) : KeepsPath r p s (s.raiseEvent e) where
  now := (s.raiseEvent_frame e).1 .now (by decide)
  mode := (s.raiseEvent_frame e).1 .mode (by decide)
  path := by rw [show (s.raiseEvent e).paths = s.paths from (s.raiseEvent_frame e).1 .paths (by decide)]
  dpd := by rw [show (s.raiseEvent e).dpd = s.dpd from (s.raiseEvent_frame e).1 .dpd (by decide)]
  rd := (s.raiseEvent_frame e).2 r hr
  events := s.queue_subset_raiseEvent e

theorem State.raiseEffect_keepsPath (s : State) (c : Nat) (l : List (Nat × Nat)) (hr : ¬ eventRegs c r) :
    KeepsPath r p s (s.raiseEffect c l) :=
  s.raiseEvent_keepsPath { code := c, ns := s.ns, args := packArgs l, cyc := s.effectCycle } hr

theorem State.raise_keepsPath (s : State) (c : Nat) (l : List (Nat × Nat)) (hr : ¬ eventRegs c r) : KeepsPath r p s (s.raise c l) :=
  s.raiseEvent_keepsPath { code := c, ns := s.ns, args := packArgs l } hr

theorem State.setPath_keepsPath (s : State) (f : PathSt → PathSt) (h : p ≠ q) : KeepsPath r p s (s.setPath q f) :=
  ⟨rfl, rfl, getElem_upd_other _ _ h, rfl, rfl, List.Subset.refl _⟩

theorem State.setDpd_keepsPath (s : State) (f : DpdPath → DpdPath) (h : p ≠ q) : KeepsPath r p s (s.setDpd q f) :=
  ⟨rfl, rfl, rfl, getElem_upd_other _ _ h, rfl, List.Subset.refl _⟩

theorem State.voidCal_keepsPath (s : State) (tx : Bool) (h : p ≠ q) : KeepsPath r p s (s.voidCal q tx) where
  now := (s.voidCal_frame q tx).1 .now (by decide)
  mode := (s.voidCal_frame q tx).1 .mode (by decide)
  path := s.paths_voidCal_other tx h
  dpd := by rw [show (s.voidCal q tx).dpd = s.dpd from (s.voidCal_frame q tx).1 .dpd (by decide)]
  rd := (s.voidCal_frame q tx).2 r id
  events := by rw [show (s.voidCal q tx).rcd = s.rcd from (s.voidCal_frame q tx).1 .rcd (by decide)]; exact List.Subset.refl _

theorem State.showRetired_keepsPath (s : State) {r' lo hi cnt : Nat} (x : Fin 64) (cause : Nat) (h : r ≠ r')
    (hr : r ∉ [lo, hi, cnt, Reg.KPR_LT 15]) : KeepsPath r p s (s.showRetired r' lo hi cnt x cause) :=
  have f := s.showRetired_frame r' lo hi cnt x cause
  f.keepsPath (not_or.2 ⟨h, hr⟩) (by rw [show (s.showRetired r' lo hi cnt x cause).dpd = s.dpd from f.1 .dpd (by decide)])

end

/-! #### Retirement of one side -/

/-- RETIRE of a transmit side is none of an event's registers. -/
theorem txRetire_not_eventRegs (p : Fin 64) (c : Nat) (hc : c / 256 = 9) : ¬ eventRegs c (Reg.TXP_RETIRE p) := by
  rw [eventRegs, hc]
  rintro (e | e) <;> simp at e <;> omega

/-- RETIRE of a receive side is none of an event's registers. -/
theorem rxRetire_not_eventRegs (p : Fin 64) (c : Nat) (hc : c / 256 = 10) : ¬ eventRegs c (Reg.RXP_RETIRE p) := by
  rw [eventRegs, hc]
  rintro (e | e) <;> simp at e <;> omega

/-- RETIRE of a transmit side is none of the registers that a bias clear and the end of a visit change. -/
theorem txRetire_not_endRegs (p : Fin 64) : ¬ (arr 80 Reg.BIA_CLEAR_CNT (Reg.TXP_RETIRE p) ∨ arr 9 Reg.RXP_OBS_ROUTE (Reg.TXP_RETIRE p)) := by
  rintro (⟨c, hc, e⟩ | ⟨k, hk, e⟩) <;> simp at e <;> omega

/-- The registers that the retirement of the transmit side of path `p` may change. -/
def txRetireRegs (p : Fin 64) (a : Nat) : Prop :=
  a = Reg.TXP_RETIRE p ∨ a ∈ [Reg.TXP_LIVE_LO, Reg.TXP_LIVE_HI, Reg.TXP_RETIRE_CNT, Reg.KPR_LT 15] ∨ arr 80 Reg.BIA_CLEAR_CNT a ∨
    arr 9 Reg.RXP_OBS_ROUTE a ∨ eventRegs 0x0901 a

section
variable (s : State) (p : Fin 64) (cause : Nat)

/-- A transmit side that is retired, before the bias clear, the visits and the event that follow (R98, R101). -/
def State.txOut : State :=
  let u := s.showRetired (Reg.TXP_RETIRE p) Reg.TXP_LIVE_LO Reg.TXP_LIVE_HI Reg.TXP_RETIRE_CNT p cause
  ((u.voidCal p true).setPath p fun x => { x.shut u.now with txSince := u.now }).setDpd p fun d => { d with onPeriod := false }

theorem State.retireTx_retired (h : s.txRetired p = true) : s.retireTx p cause = s := if_pos h

theorem State.retireTx_live (h : s.txRetired p = false) :
    s.retireTx p cause = (((s.txOut p cause).gateHold p 5).endVisitsOf p).raiseEffect 0x0901 [(1, p), (1, cause)] := by
  unfold State.retireTx
  rw [if_neg (by simp [h])]
  rfl

/-- What follows on a transmit side's retirement changes no path (R98). -/
theorem State.retireTx_tail (h : s.txRetired p = false) :
    Frame ((s.txOut p cause).gateHold p 5 |>.endVisitsOf p) (s.retireTx p cause) [.rcd] (eventRegs 0x0901) := by
  rw [s.retireTx_live p cause h]
  exact State.raiseEffect_frame _ _ _

theorem State.txOut_ends_frame : Frame (s.txOut p cause) (((s.txOut p cause).gateHold p 5).endVisitsOf p) [.dpd, .bias]
    (fun a => arr 80 Reg.BIA_CLEAR_CNT a ∨ arr 9 Reg.RXP_OBS_ROUTE a) :=
  ((State.gateHold_frame _ p 5).mono (by decide) fun _ h => .inl h).step (State.endVisitsOf_frame _ p) (by decide) fun _ h => .inr h

theorem State.txOut_frame : Frame s (s.txOut p cause) [.paths, .seq, .dpd]
    (fun a => a = Reg.TXP_RETIRE p ∨ a ∈ [Reg.TXP_LIVE_LO, Reg.TXP_LIVE_HI, Reg.TXP_RETIRE_CNT, Reg.KPR_LT 15]) :=
  ((((s.showRetired_frame _ _ _ _ p cause).mono (by decide) fun _ h => h).part (State.voidCal_frame _ p true) (by decide)).part
    (Frame.of_paths _ _) (by decide)).part (Frame.of_dpd _ _) (by decide)

theorem State.retireTx_frame : Frame s (s.retireTx p cause) [.paths, .dpd, .seq, .bias, .rcd] (txRetireRegs p) := by
  cases h : s.txRetired p
  · refine (((s.txOut_frame p cause).mono (by decide) fun _ h => ?_).step (s.txOut_ends_frame p cause) (by decide) fun _ h => ?_).step
      (s.retireTx_tail p cause h) (by decide) fun _ h => .inr (.inr (.inr (.inr h)))
    · exact h.imp_right .inl
    · exact .inr (.inr (h.imp_right .inl))
  · rw [s.retireTx_retired p cause h]
    exact .refl ..

theorem State.txOut_canon (h : s.Canon) : (s.txOut p cause).Canon := by
  unfold State.txOut
  extract_lets u
  have hu : u.Canon := s.showRetired_canon _ _ _ _ p cause h
  clear_value u
  exact State.setDpd_canon _ p _ (State.setPath_canon _ p _ (u.voidCal_canon p true hu))

theorem State.retireTx_canon (h : s.Canon) : (s.retireTx p cause).Canon := by
  cases hr : s.txRetired p
  · have hout := s.txOut_canon p cause h
    rw [s.retireTx_live p cause hr]
    exact State.raiseEffect_canon _ _ _ (State.endVisitsOf_canon _ p (State.gateHold_canon _ p 5 hout))
  · rw [s.retireTx_retired p cause hr]
    exact h

variable {s p}

/-- The gate of a side that is retired closes, and the instant is kept (R98, R104). -/
theorem State.path_txOut : (s.txOut p cause).paths[p].txGate = false ∧ (s.txOut p cause).paths[p].txSince = s.now := by
  unfold State.txOut
  extract_lets u
  have hu : u.now = s.now := (s.showRetired_frame _ _ _ _ p cause).1 .now (by decide)
  clear_value u
  rw [State.setDpd_paths, State.setPath, getElem_upd_same]
  exact ⟨rfl, hu⟩

theorem State.rd_txOut (h : s.Canon) : (s.txOut p cause).rd (Reg.TXP_RETIRE p) = BitVec.ofNat 32 (0x80000000 + cause) := by
  unfold State.txOut
  extract_lets u
  have hu : u.rd (Reg.TXP_RETIRE p) = _ := s.rd_showRetired _ _ _ _ p cause h (by simp; omega)
  clear_value u
  rw [State.setDpd_rd, State.setPath_rd, (u.voidCal_frame p true).2 _ id, hu]

theorem State.txOut_keepsPath {q : Fin 64} (hq : q ≠ p) : KeepsPath (Reg.TXP_RETIRE q) q s (s.txOut p cause) := by
  have hne : q.val ≠ p.val := fun e => hq (Fin.ext e)
  unfold State.txOut
  extract_lets u
  have hu : KeepsPath (Reg.TXP_RETIRE q) q s u := s.showRetired_keepsPath p cause (by simp; omega) (by simp; omega)
  clear_value u
  exact ((hu.trans (u.voidCal_keepsPath true hq)).trans (State.setPath_keepsPath _ _ hq)).trans (State.setDpd_keepsPath _ _ hq)

/-- A retirement leaves every other path alone. -/
theorem State.retireTx_keepsPath {q : Fin 64} (hq : q ≠ p) : KeepsPath (Reg.TXP_RETIRE q) q s (s.retireTx p cause) := by
  cases h : s.txRetired p
  · have hbias := State.gateHold_frame (s.txOut p cause) p 5
    have hdpd := (State.dpdPaths_endVisitsOf _ p).trans (congrArg Dpd.paths (hbias.1 .dpd (by decide)))
    have hends := (s.txOut_ends_frame p cause).keepsPath (p := q) (txRetire_not_endRegs q) (congrArg (·[q]) hdpd)
    rw [s.retireTx_live p cause h]
    exact ((State.txOut_keepsPath cause hq).trans hends).trans (State.raiseEffect_keepsPath _ _ _ (txRetire_not_eventRegs _ _ (by decide)))
  · rw [s.retireTx_retired p cause h]
    exact .refl

/-- A live transmit side is retired: its cause and the instant are shown, its gate closes, and the event is raised (R97, R98, R101). -/
theorem State.retireTx_retires (hs : s.Canon) (h : s.txRetired p = false) :
    (s.retireTx p cause).rd (Reg.TXP_RETIRE p) = BitVec.ofNat 32 (0x80000000 + cause) ∧ (s.retireTx p cause).paths[p].txGate = false ∧
      (s.retireTx p cause).paths[p].txSince = s.now ∧ Raised s (s.retireTx p cause) 0x0901 [(1, p), (1, cause)] := by
  have hends := s.txOut_ends_frame p cause
  have htail := s.retireTx_tail p cause h
  have hpaths : (s.retireTx p cause).paths = (s.txOut p cause).paths := (hends.1 .paths (by decide)).trans (htail.1 .paths (by decide))
  refine ⟨?_, ?_, ?_, ?_⟩
  · rw [htail.2 _ (txRetire_not_eventRegs _ _ (by decide)), hends.2 _ (txRetire_not_endRegs p),
      State.rd_txOut cause hs]
  · rw [hpaths, (State.path_txOut cause).1]
  · rw [hpaths, (State.path_txOut cause).2]
  · have hq : (((s.txOut p cause).gateHold p 5).endVisitsOf p).rcd = s.rcd :=
      ((s.txOut_frame p cause).1 .rcd (by decide)).trans (hends.1 .rcd (by decide))
    rw [s.retireTx_live p cause h]
    intro hlen
    exact State.raiseEffect_raised _ _ _ (by rwa [hq])

/-- A retirement raises at most one event. -/
theorem State.length_queue_retireTx_le (s : State) (p : Fin 64) (cause : Nat) :
    (s.retireTx p cause).rcd.queue.length ≤ s.rcd.queue.length + 1 := by
  cases h : s.txRetired p
  · have hq : (((s.txOut p cause).gateHold p 5).endVisitsOf p).rcd = s.rcd :=
      ((s.txOut_frame p cause).1 .rcd (by decide)).trans ((s.txOut_ends_frame p cause).1 .rcd (by decide))
    rw [s.retireTx_live p cause h, ← hq]
    exact State.length_queue_raiseEvent_le _ _
  · rw [s.retireTx_retired p cause h]
    exact Nat.le_succ _

end

/-- The registers that the retirement of the receive side of path `p` may change. -/
def rxRetireRegs (p : Fin 64) (a : Nat) : Prop :=
  a = Reg.RXP_RETIRE p ∨ a ∈ [Reg.RXP_LIVE_LO, Reg.RXP_LIVE_HI, Reg.RXP_RETIRE_CNT, Reg.KPR_LT 15] ∨ eventRegs 0x0A01 a

section
variable (s : State) (p : Fin 64) (cause : Nat)

/-- A receive side that is retired, before the event that follows (R99, R101). -/
def State.rxOut : State :=
  let u := s.showRetired (Reg.RXP_RETIRE p) Reg.RXP_LIVE_LO Reg.RXP_LIVE_HI Reg.RXP_RETIRE_CNT p cause
  (u.voidCal p false).setPath p fun x => { x with rxSince := u.now }

theorem State.retireRx_retired (h : s.rxRetired p = true) : s.retireRx p cause = s := if_pos h

theorem State.retireRx_live (h : s.rxRetired p = false) :
    s.retireRx p cause = (s.rxOut p cause).raiseEffect 0x0A01 [(1, p), (1, cause)] := by
  unfold State.retireRx
  rw [if_neg (by simp [h])]
  rfl

theorem State.rxOut_frame : Frame s (s.rxOut p cause) [.paths, .seq]
    (fun a => a = Reg.RXP_RETIRE p ∨ a ∈ [Reg.RXP_LIVE_LO, Reg.RXP_LIVE_HI, Reg.RXP_RETIRE_CNT, Reg.KPR_LT 15]) :=
  (((s.showRetired_frame _ _ _ _ p cause).mono (by decide) fun _ h => h).part (State.voidCal_frame _ p false) (by decide)).part
    (Frame.of_paths _ _) (by decide)

theorem State.retireRx_frame : Frame s (s.retireRx p cause) [.paths, .seq, .rcd] (rxRetireRegs p) := by
  cases h : s.rxRetired p
  · rw [s.retireRx_live p cause h]
    exact ((s.rxOut_frame p cause).mono (by decide) fun _ h => h.imp_right .inl).step (State.raiseEffect_frame _ _ _) (by decide)
      fun _ h => .inr (.inr h)
  · rw [s.retireRx_retired p cause h]
    exact .refl ..

theorem State.rxOut_canon (h : s.Canon) : (s.rxOut p cause).Canon := by
  unfold State.rxOut
  extract_lets u
  have hu : u.Canon := s.showRetired_canon _ _ _ _ p cause h
  clear_value u
  exact State.setPath_canon _ p _ (u.voidCal_canon p false hu)

theorem State.retireRx_canon (h : s.Canon) : (s.retireRx p cause).Canon := by
  cases hr : s.rxRetired p
  · rw [s.retireRx_live p cause hr]
    exact State.raiseEffect_canon _ _ _ (s.rxOut_canon p cause h)
  · rw [s.retireRx_retired p cause hr]
    exact h

/-- A retirement raises at most one event. -/
theorem State.length_queue_retireRx_le : (s.retireRx p cause).rcd.queue.length ≤ s.rcd.queue.length + 1 := by
  cases h : s.rxRetired p
  · have hq : (s.rxOut p cause).rcd = s.rcd := (s.rxOut_frame p cause).1 .rcd (by decide)
    rw [s.retireRx_live p cause h, ← hq]
    exact State.length_queue_raiseEvent_le _ _
  · rw [s.retireRx_retired p cause h]
    exact Nat.le_succ _

variable {s p}

theorem State.path_rxOut : (s.rxOut p cause).paths[p].rxSince = s.now := by
  unfold State.rxOut
  extract_lets u
  have hu : u.now = s.now := (s.showRetired_frame _ _ _ _ p cause).1 .now (by decide)
  clear_value u
  rw [State.setPath, getElem_upd_same]
  exact hu

theorem State.rd_rxOut (h : s.Canon) : (s.rxOut p cause).rd (Reg.RXP_RETIRE p) = BitVec.ofNat 32 (0x80000000 + cause) := by
  unfold State.rxOut
  extract_lets u
  have hu : u.rd (Reg.RXP_RETIRE p) = _ := s.rd_showRetired _ _ _ _ p cause h (by simp; omega)
  clear_value u
  rw [State.setPath_rd, (u.voidCal_frame p false).2 _ id, hu]

theorem State.rxOut_keepsPath {q : Fin 64} (hq : q ≠ p) : KeepsPath (Reg.RXP_RETIRE q) q s (s.rxOut p cause) := by
  have hne : q.val ≠ p.val := fun e => hq (Fin.ext e)
  unfold State.rxOut
  extract_lets u
  have hu : KeepsPath (Reg.RXP_RETIRE q) q s u := s.showRetired_keepsPath p cause (by simp; omega) (by simp; omega)
  clear_value u
  exact (hu.trans (u.voidCal_keepsPath false hq)).trans (State.setPath_keepsPath _ _ hq)

/-- A retirement leaves every other path alone. -/
theorem State.retireRx_keepsPath {q : Fin 64} (hq : q ≠ p) : KeepsPath (Reg.RXP_RETIRE q) q s (s.retireRx p cause) := by
  cases h : s.rxRetired p
  · rw [s.retireRx_live p cause h]
    exact (State.rxOut_keepsPath cause hq).trans (State.raiseEffect_keepsPath _ _ _ (rxRetire_not_eventRegs _ _ (by decide)))
  · rw [s.retireRx_retired p cause h]
    exact .refl

/-- A live receive side is retired: its cause and the instant are shown, and the event is raised (R97, R99, R101). -/
theorem State.retireRx_retires (hs : s.Canon) (h : s.rxRetired p = false) :
    (s.retireRx p cause).rd (Reg.RXP_RETIRE p) = BitVec.ofNat 32 (0x80000000 + cause) ∧
      (s.retireRx p cause).paths[p].rxSince = s.now ∧ Raised s (s.retireRx p cause) 0x0A01 [(1, p), (1, cause)] := by
  have hevent := State.raiseEffect_frame (s.rxOut p cause) 0x0A01 [(1, p.val), (1, cause)]
  rw [s.retireRx_live p cause h]
  refine ⟨?_, ?_, ?_⟩
  · rw [hevent.2 _ (rxRetire_not_eventRegs _ _ (by decide)), State.rd_rxOut cause hs]
  · rw [hevent.1 .paths (by decide), State.path_rxOut]
  · intro hlen
    exact State.raiseEffect_raised _ _ _ (by rwa [show (s.rxOut p cause).rcd = s.rcd from (s.rxOut_frame p cause).1 .rcd (by decide)])

end

/-! #### Reinstatement of one side -/

section
variable (s : State) (p : Fin 64)

/-- The registers of a side of path `p` that is live again (R103). -/
def State.showLive (r lo hi : Nat) : State := (s.wr r 0).setLive lo hi p true

theorem State.showLive_frame (r lo hi : Nat) : Frame s (s.showLive p r lo hi) [] (fun a => a = r ∨ a = lo ∨ a = hi) :=
  ((s.wr_frame r 0).mono (by decide) fun _ h => .inl h).step (State.setLive_frame _ lo hi p true) (by decide) fun _ h => .inr h

theorem State.showLive_canon (r lo hi : Nat) (h : s.Canon) : (s.showLive p r lo hi).Canon :=
  State.setLive_canon _ _ _ _ _ (s.wr_canon _ _ h)

theorem State.rd_showLive (r lo hi : Nat) (h : s.Canon) (hr : ¬ (r = lo ∨ r = hi)) : (s.showLive p r lo hi).rd r = 0 :=
  ((State.setLive_frame _ _ _ p true).2 _ hr).trans (s.rd_wr_same _ _ h)

theorem State.showLive_keepsPath {r r' lo hi : Nat} {q : Fin 64} (hr : ¬ (r = r' ∨ r = lo ∨ r = hi)) :
    KeepsPath r q s (s.showLive p r' lo hi) :=
  have f := s.showLive_frame p r' lo hi
  f.keepsPath hr (congrArg (·.paths[q]) (f.1 .dpd (by decide)))

/-- A transmit side that is brought back, before the event that follows (R103). -/
def State.txBack : State :=
  let u := s.showLive p (Reg.TXP_RETIRE p) Reg.TXP_LIVE_LO Reg.TXP_LIVE_HI
  (u.setPath p fun x => { x with txSince := u.now }).setDpd p fun d => { d with trips := [] }

theorem State.reinstateTx_back (hr : s.txRetired p = true) (h : s.mode = .ready ∧ s.paths[p].txCal = some true) :
    s.reinstateTx p = (s.txBack p).raise 0x0902 [(1, p)] := by
  unfold State.reinstateTx
  rw [if_pos hr, if_pos h]
  rfl

theorem State.reinstateTx_refused (hr : s.txRetired p = true) (h : ¬ (s.mode = .ready ∧ s.paths[p].txCal = some true)) :
    s.reinstateTx p = s.bump Reg.TXP_REFUSE_CNT := by
  unfold State.reinstateTx
  rw [if_pos hr, if_neg h]

theorem State.reinstateTx_live (hr : s.txRetired p = false) : s.reinstateTx p = s := if_neg (by simp [hr])

/-- What the reinstatement of a transmit side can do. -/
theorem State.reinstateTx_cases {motive : State → Prop} (hback : motive ((s.txBack p).raise 0x0902 [(1, p)]))
    (hrefused : motive (s.bump Reg.TXP_REFUSE_CNT)) (hlive : motive s) : motive (s.reinstateTx p) := by
  cases hr : s.txRetired p
  · rwa [s.reinstateTx_live p hr]
  · by_cases h : s.mode = .ready ∧ s.paths[p].txCal = some true
    · rwa [s.reinstateTx_back p hr h]
    · rwa [s.reinstateTx_refused p hr h]

/-- The registers that the reinstatement of the transmit side of path `p` may change. -/
def txBackRegs (p : Fin 64) (a : Nat) : Prop :=
  (a = Reg.TXP_RETIRE p ∨ a = Reg.TXP_LIVE_LO ∨ a = Reg.TXP_LIVE_HI) ∨ a = Reg.TXP_REFUSE_CNT ∨ eventRegs 0x0902 a

theorem State.txBack_frame : Frame s (s.txBack p) [.paths, .dpd] (txBackRegs p) := by
  unfold State.txBack
  extract_lets u
  have hu : Frame s u [.paths, .dpd] (txBackRegs p) := (s.showLive_frame p _ _ _).mono (by decide) fun _ h => .inl h
  clear_value u
  exact (hu.part (Frame.of_paths u _) (by decide)).part (Frame.of_dpd _ _) (by decide)

theorem State.reinstateTx_frame : Frame s (s.reinstateTx p) [.paths, .dpd, .rcd] (txBackRegs p) :=
  s.reinstateTx_cases p (motive := fun u => Frame s u [.paths, .dpd, .rcd] (txBackRegs p))
    (((s.txBack_frame p).mono (by decide) fun _ h => h).step (State.raise_frame _ _ _) (by decide) fun _ h => .inr (.inr h))
    ((s.bump_frame _).mono (by decide) fun _ h => .inr (.inl h)) (.refl ..)

theorem State.txBack_canon (h : s.Canon) : (s.txBack p).Canon := by
  unfold State.txBack
  extract_lets u
  have hu : u.Canon := s.showLive_canon p _ _ _ h
  clear_value u
  exact State.setDpd_canon _ p _ (u.setPath_canon p _ hu)

theorem State.reinstateTx_canon (h : s.Canon) : (s.reinstateTx p).Canon :=
  s.reinstateTx_cases p (motive := State.Canon) (State.raise_canon _ _ _ (s.txBack_canon p h)) (s.bump_canon _ h) h

variable {s p}

/-- A reinstatement leaves every other path alone. -/
theorem State.reinstateTx_keepsPath {q : Fin 64} (hq : q ≠ p) : KeepsPath (Reg.TXP_RETIRE q) q s (s.reinstateTx p) := by
  have hne : q.val ≠ p.val := fun e => hq (Fin.ext e)
  have hback : KeepsPath (Reg.TXP_RETIRE q) q s (s.txBack p) := by
    unfold State.txBack
    extract_lets u
    have hu : KeepsPath (Reg.TXP_RETIRE q) q s u := s.showLive_keepsPath p (by simp; omega)
    clear_value u
    exact (hu.trans (State.setPath_keepsPath _ _ hq)).trans (State.setDpd_keepsPath _ _ hq)
  exact s.reinstateTx_cases p (motive := KeepsPath (Reg.TXP_RETIRE q) q s)
    (hback.trans (State.raise_keepsPath _ _ _ (txRetire_not_eventRegs _ _ (by decide))))
    ((s.bump_frame _).keepsPath (by simp; omega) rfl) .refl

/-- A retired transmit side comes back in READY with its calibration within limits (R103). -/
theorem State.reinstateTx_reinstates (hs : s.Canon) (hr : s.txRetired p = true) (h : s.mode = .ready ∧ s.paths[p].txCal = some true) :
    (s.reinstateTx p).rd (Reg.TXP_RETIRE p) = 0 ∧ (s.reinstateTx p).paths[p].txSince = s.now ∧
      (s.reinstateTx p).dpd.paths[p].trips = [] := by
  have hback : (s.txBack p).rd (Reg.TXP_RETIRE p) = 0 ∧ (s.txBack p).paths[p].txSince = s.now ∧ (s.txBack p).dpd.paths[p].trips = [] := by
    unfold State.txBack
    extract_lets u
    have hrd : u.rd (Reg.TXP_RETIRE p) = 0 := s.rd_showLive p _ _ _ hs (by simp; omega)
    have hnow : u.now = s.now := (s.showLive_frame p _ _ _).1 .now (by decide)
    clear_value u
    refine ⟨hrd, ?_, ?_⟩
    · rw [State.setDpd_paths, State.setPath, getElem_upd_same, hnow]
    · exact congrArg DpdPath.trips (getElem_upd_same _ p _)
  have hevent := State.raise_frame (s.txBack p) 0x0902 [(1, p.val)]
  rw [s.reinstateTx_back p hr h]
  rw [hevent.2 _ (txRetire_not_eventRegs _ _ (by decide)), show State.paths _ = _ from hevent.1 .paths (by decide),
    show State.dpd _ = _ from hevent.1 .dpd (by decide)]
  exact hback

end

section
variable (s : State) (p : Fin 64)

/-- A receive side that is brought back, before the event that follows (R103). -/
def State.rxBack : State :=
  let u := s.showLive p (Reg.RXP_RETIRE p) Reg.RXP_LIVE_LO Reg.RXP_LIVE_HI
  u.setPath p fun x => { x with rxSince := u.now }

theorem State.reinstateRx_back (hr : s.rxRetired p = true) (h : s.mode = .ready ∧ s.paths[p].rxCal = some true) :
    s.reinstateRx p = (s.rxBack p).raise 0x0A02 [(1, p)] := by
  unfold State.reinstateRx
  rw [if_pos hr, if_pos h]
  rfl

theorem State.reinstateRx_refused (hr : s.rxRetired p = true) (h : ¬ (s.mode = .ready ∧ s.paths[p].rxCal = some true)) :
    s.reinstateRx p = s.bump Reg.RXP_REFUSE_CNT := by
  unfold State.reinstateRx
  rw [if_pos hr, if_neg h]

theorem State.reinstateRx_live (hr : s.rxRetired p = false) : s.reinstateRx p = s := if_neg (by simp [hr])

/-- What the reinstatement of a receive side can do. -/
theorem State.reinstateRx_cases {motive : State → Prop} (hback : motive ((s.rxBack p).raise 0x0A02 [(1, p)]))
    (hrefused : motive (s.bump Reg.RXP_REFUSE_CNT)) (hlive : motive s) : motive (s.reinstateRx p) := by
  cases hr : s.rxRetired p
  · rwa [s.reinstateRx_live p hr]
  · by_cases h : s.mode = .ready ∧ s.paths[p].rxCal = some true
    · rwa [s.reinstateRx_back p hr h]
    · rwa [s.reinstateRx_refused p hr h]

/-- The registers that the reinstatement of the receive side of path `p` may change. -/
def rxBackRegs (p : Fin 64) (a : Nat) : Prop :=
  (a = Reg.RXP_RETIRE p ∨ a = Reg.RXP_LIVE_LO ∨ a = Reg.RXP_LIVE_HI) ∨ a = Reg.RXP_REFUSE_CNT ∨ eventRegs 0x0A02 a

theorem State.rxBack_frame : Frame s (s.rxBack p) [.paths] (rxBackRegs p) := by
  unfold State.rxBack
  extract_lets u
  have hu : Frame s u [.paths] (rxBackRegs p) := (s.showLive_frame p _ _ _).mono (by decide) fun _ h => .inl h
  clear_value u
  exact hu.part (Frame.of_paths u _) (by decide)

theorem State.reinstateRx_frame : Frame s (s.reinstateRx p) [.paths, .rcd] (rxBackRegs p) :=
  s.reinstateRx_cases p (motive := fun u => Frame s u [.paths, .rcd] (rxBackRegs p))
    (((s.rxBack_frame p).mono (by decide) fun _ h => h).step (State.raise_frame _ _ _) (by decide) fun _ h => .inr (.inr h))
    ((s.bump_frame _).mono (by decide) fun _ h => .inr (.inl h)) (.refl ..)

theorem State.rxBack_canon (h : s.Canon) : (s.rxBack p).Canon := by
  unfold State.rxBack
  extract_lets u
  have hu : u.Canon := s.showLive_canon p _ _ _ h
  clear_value u
  exact u.setPath_canon p _ hu

theorem State.reinstateRx_canon (h : s.Canon) : (s.reinstateRx p).Canon :=
  s.reinstateRx_cases p (motive := State.Canon) (State.raise_canon _ _ _ (s.rxBack_canon p h)) (s.bump_canon _ h) h

variable {s p}

/-- A reinstatement leaves every other path alone. -/
theorem State.reinstateRx_keepsPath {q : Fin 64} (hq : q ≠ p) : KeepsPath (Reg.RXP_RETIRE q) q s (s.reinstateRx p) := by
  have hne : q.val ≠ p.val := fun e => hq (Fin.ext e)
  have hback : KeepsPath (Reg.RXP_RETIRE q) q s (s.rxBack p) := by
    unfold State.rxBack
    extract_lets u
    have hu : KeepsPath (Reg.RXP_RETIRE q) q s u := s.showLive_keepsPath p (by simp; omega)
    clear_value u
    exact hu.trans (State.setPath_keepsPath _ _ hq)
  exact s.reinstateRx_cases p (motive := KeepsPath (Reg.RXP_RETIRE q) q s)
    (hback.trans (State.raise_keepsPath _ _ _ (rxRetire_not_eventRegs _ _ (by decide))))
    ((s.bump_frame _).keepsPath (by simp; omega) rfl) .refl

/-- A retired receive side comes back in READY with its calibration within limits (R103). -/
theorem State.reinstateRx_reinstates (hs : s.Canon) (hr : s.rxRetired p = true) (h : s.mode = .ready ∧ s.paths[p].rxCal = some true) :
    (s.reinstateRx p).rd (Reg.RXP_RETIRE p) = 0 ∧ (s.reinstateRx p).paths[p].rxSince = s.now := by
  have hback : (s.rxBack p).rd (Reg.RXP_RETIRE p) = 0 ∧ (s.rxBack p).paths[p].rxSince = s.now := by
    unfold State.rxBack
    extract_lets u
    have hrd : u.rd (Reg.RXP_RETIRE p) = 0 := s.rd_showLive p _ _ _ hs (by simp; omega)
    have hnow : u.now = s.now := (s.showLive_frame p _ _ _).1 .now (by decide)
    clear_value u
    refine ⟨hrd, ?_⟩
    rw [State.setPath, getElem_upd_same, hnow]
  have hevent := State.raise_frame (s.rxBack p) 0x0A02 [(1, p.val)]
  rw [s.reinstateRx_back p hr h, hevent.2 _ (rxRetire_not_eventRegs _ _ (by decide)),
    show State.paths _ = _ from hevent.1 .paths (by decide)]
  exact hback

end

/-! #### A command on the paths that a mask names -/

/-- What the commands of retirement and reinstatement do on one path, whose register `R` gives: other paths stay, and the tables stay canonical. -/
structure OnePath (f : State → Fin 64 → State) (R : Fin 64 → Nat) : Prop where
  canon : ∀ s p, s.Canon → (f s p).Canon
  keeps : ∀ s p q, q ≠ p → KeepsPath (R q) q s (f s p)

theorem onePath_retireTx (cause : Nat) : OnePath (fun s p => s.retireTx p cause) fun p => Reg.TXP_RETIRE p :=
  ⟨fun s p => s.retireTx_canon p cause, fun _ _ _ => State.retireTx_keepsPath cause⟩

theorem onePath_retireRx (cause : Nat) : OnePath (fun s p => s.retireRx p cause) fun p => Reg.RXP_RETIRE p :=
  ⟨fun s p => s.retireRx_canon p cause, fun _ _ _ => State.retireRx_keepsPath cause⟩

theorem onePath_reinstateTx : OnePath State.reinstateTx fun p => Reg.TXP_RETIRE p :=
  ⟨State.reinstateTx_canon, fun _ _ _ => State.reinstateTx_keepsPath⟩

theorem onePath_reinstateRx : OnePath State.reinstateRx fun p => Reg.RXP_RETIRE p :=
  ⟨State.reinstateRx_canon, fun _ _ _ => State.reinstateRx_keepsPath⟩

/-- Two bits of a mask name two paths. -/
theorem pathOfBit_injective (hi : Bool) : Function.Injective (pathOfBit hi) := by
  intro i j h
  have hv : (pathOfBit hi i).val = (pathOfBit hi j).val := by rw [h]
  cases hi <;> simp [pathOfBit] at hv <;> omega

section
variable (hi : Bool) (w : Word) (f : State → Fin 64 → State)

/-- The turn of bit `j` of a mask. -/
def namedStep (s : State) (j : Fin 32) : State := if bitOf w.toNat j then f s (pathOfBit hi j) else s

theorem forNamed_eq (s : State) : s.forNamed hi w f = (List.finRange 32).foldl (namedStep hi w f) s := rfl

theorem forNamed_frame {ps : List Part} {rs : Nat → Prop} (hf : ∀ s p, Frame s (f s p) ps rs) (s : State) :
    Frame s (s.forNamed hi w f) ps rs :=
  Frame.foldl _ (fun s _ => Frame.ite (hf s _) (.refl ..)) _ s

variable {hi w f} {R : Fin 64 → Nat} (hone : OnePath f R)
include hone

theorem OnePath.canon_fold (l : List (Fin 32)) (s : State) (h : s.Canon) : (l.foldl (namedStep hi w f) s).Canon := by
  refine foldl_canon _ (fun u j hu => ?_) l s h
  unfold namedStep
  split
  · exact hone.canon _ _ hu
  · exact hu

/-- The turns of bits that do not name path `p` leave it alone. -/
theorem OnePath.keeps_fold {p : Fin 64} (l : List (Fin 32)) (hl : ∀ j ∈ l, bitOf w.toNat j = true → p ≠ pathOfBit hi j) (s : State) :
    KeepsPath (R p) p s (l.foldl (namedStep hi w f) s) := by
  induction l generalizing s with
  | nil => exact .refl
  | cons j l ih =>
    refine KeepsPath.trans ?_ (ih (fun i hi => hl i (List.mem_cons_of_mem _ hi)) _)
    unfold namedStep
    split
    · next hb => exact hone.keeps _ _ _ (hl j List.mem_cons_self hb)
    · exact .refl

/-- A path that the mask does not name stays. -/
theorem OnePath.unnamed (s : State) {p : Fin 64} (h : ∀ j : Fin 32, pathOfBit hi j = p → bitOf w.toNat j = false) :
    KeepsPath (R p) p s (s.forNamed hi w f) :=
  hone.keeps_fold _ (fun j _ hb e => by simp [h j e.symm] at hb) s

/-- On a path that the mask names the command acts once: the turns `l` before it, at most 31, and those after it leave that path alone. -/
theorem OnePath.named (s : State) {j : Fin 32} (hj : bitOf w.toNat j = true) :
    ∃ l : List (Fin 32), l.length ≤ 31 ∧ KeepsPath (R (pathOfBit hi j)) (pathOfBit hi j) s (l.foldl (namedStep hi w f) s) ∧
      KeepsPath (R (pathOfBit hi j)) (pathOfBit hi j) (f (l.foldl (namedStep hi w f) s) (pathOfBit hi j)) (s.forNamed hi w f) := by
  obtain ⟨l, r, hsplit⟩ := List.append_of_mem (List.mem_finRange j)
  have hnodup := List.nodup_finRange 32
  rw [hsplit, List.nodup_middle, List.nodup_cons, List.mem_append, not_or] at hnodup
  have hlen := congrArg List.length hsplit
  rw [List.length_finRange, List.length_append, List.length_cons] at hlen
  have hother : ∀ i, i ≠ j → pathOfBit hi j ≠ pathOfBit hi i := fun i hne e => hne (pathOfBit_injective hi e).symm
  refine ⟨l, by omega, hone.keeps_fold l (fun i hi' _ => hother i fun e => hnodup.1.1 (e ▸ hi')) s, ?_⟩
  rw [forNamed_eq, hsplit, List.foldl_append, List.foldl_cons, namedStep, if_pos hj]
  exact hone.keeps_fold r (fun i hi' _ => hother i fun e => hnodup.1.2 (e ▸ hi')) _

end

/-- Each turn raises at most one event. -/
theorem length_queue_namedSteps_le {hi : Bool} {w : Word} {f : State → Fin 64 → State}
    (hf : ∀ s p, (f s p).rcd.queue.length ≤ s.rcd.queue.length + 1) (l : List (Fin 32)) (s : State) :
    (l.foldl (namedStep hi w f) s).rcd.queue.length ≤ s.rcd.queue.length + l.length := by
  induction l generalizing s with
  | nil => exact Nat.le_refl _
  | cons j l ih =>
    have hstep : (namedStep hi w f s j).rcd.queue.length ≤ s.rcd.queue.length + 1 := by
      unfold namedStep
      split
      · exact hf s _
      · omega
    have := ih (namedStep hi w f s j)
    rw [List.foldl_cons, List.length_cons]
    omega

section
variable {s t : State} {p : Fin 64}

theorem State.txRetired_congr (h : t.rd (Reg.TXP_RETIRE p) = s.rd (Reg.TXP_RETIRE p)) : t.txRetired p = s.txRetired p := by
  rw [State.txRetired, State.bit, State.fld, h]
  rfl

theorem State.rxRetired_congr (h : t.rd (Reg.RXP_RETIRE p) = s.rd (Reg.RXP_RETIRE p)) : t.rxRetired p = s.rxRetired p := by
  rw [State.rxRetired, State.bit, State.fld, h]
  rfl

theorem State.txRetired_of_rd (h : s.rd (Reg.TXP_RETIRE p) = 0x80000005) : s.txRetired p = true := by
  rw [State.txRetired, State.bit, State.fld, h]
  rfl

theorem State.rxRetired_of_rd (h : s.rd (Reg.RXP_RETIRE p) = 0x80000005) : s.rxRetired p = true := by
  rw [State.rxRetired, State.bit, State.fld, h]
  rfl

end

section
variable {s : State} {hi : Bool} {w : Word} {j : Fin 32} (hs : s.Canon) (hj : bitOf w.toNat j = true)
include hs hj

/-- A named live transmit side is retired with cause HOST (R97, R98, R101). -/
theorem State.retireTx_named (hr : s.txRetired (pathOfBit hi j) = false) :
    let t := s.forNamed hi w fun s p => s.retireTx p 5
    t.rd (Reg.TXP_RETIRE (pathOfBit hi j)) = 0x80000005 ∧ t.paths[pathOfBit hi j].txGate = false ∧
      t.paths[pathOfBit hi j].txSince = s.now ∧
      (s.rcd.queue.length ≤ 32 → Raised s t 0x0901 [(1, pathOfBit hi j), (1, 5)]) := by
  intro t
  have hone := onePath_retireTx 5
  obtain ⟨l, hl, hbefore, hafter⟩ := hone.named (hi := hi) s hj
  have hcanon := hone.canon_fold (hi := hi) (w := w) l s hs
  have hlen := length_queue_namedSteps_le (hi := hi) (w := w) (fun s p => s.length_queue_retireTx_le p 5) l s
  generalize l.foldl (namedStep hi w fun s p => s.retireTx p 5) s = u at hbefore hafter hcanon hlen
  obtain ⟨hrd, hgate, hsince, hraised⟩ := State.retireTx_retires 5 hcanon ((State.txRetired_congr hbefore.rd).trans hr)
  refine ⟨hafter.rd.trans hrd, ?_, ?_, fun hq _ => ?_⟩
  · rw [hafter.path, hgate]
  · rw [hafter.path, hsince, hbefore.now]
  · obtain ⟨e, he, hcode, hargs⟩ := hraised (by omega)
    exact ⟨e, hafter.events he, hcode, hargs⟩

theorem State.txRetired_named : (s.forNamed hi w fun s p => s.retireTx p 5).txRetired (pathOfBit hi j) = true := by
  cases hr : s.txRetired (pathOfBit hi j)
  · exact State.txRetired_of_rd (State.retireTx_named hs hj hr).1
  · obtain ⟨l, -, hbefore, hafter⟩ := (onePath_retireTx 5).named (hi := hi) s hj
    have hu := (State.txRetired_congr hbefore.rd).trans hr
    rw [State.retireTx_retired _ _ _ hu] at hafter
    exact (State.txRetired_congr hafter.rd).trans hu

/-- A named live receive side is retired with cause HOST (R97, R99, R101). -/
theorem State.retireRx_named (hr : s.rxRetired (pathOfBit hi j) = false) :
    let t := s.forNamed hi w fun s p => s.retireRx p 5
    t.rd (Reg.RXP_RETIRE (pathOfBit hi j)) = 0x80000005 ∧ t.paths[pathOfBit hi j].rxSince = s.now ∧
      (s.rcd.queue.length ≤ 32 → Raised s t 0x0A01 [(1, pathOfBit hi j), (1, 5)]) := by
  intro t
  have hone := onePath_retireRx 5
  obtain ⟨l, hl, hbefore, hafter⟩ := hone.named (hi := hi) s hj
  have hcanon := hone.canon_fold (hi := hi) (w := w) l s hs
  have hlen := length_queue_namedSteps_le (hi := hi) (w := w) (fun s p => s.length_queue_retireRx_le p 5) l s
  generalize l.foldl (namedStep hi w fun s p => s.retireRx p 5) s = u at hbefore hafter hcanon hlen
  obtain ⟨hrd, hsince, hraised⟩ := State.retireRx_retires 5 hcanon ((State.rxRetired_congr hbefore.rd).trans hr)
  refine ⟨hafter.rd.trans hrd, ?_, fun hq _ => ?_⟩
  · rw [hafter.path, hsince, hbefore.now]
  · obtain ⟨e, he, hcode, hargs⟩ := hraised (by omega)
    exact ⟨e, hafter.events he, hcode, hargs⟩

theorem State.rxRetired_named : (s.forNamed hi w fun s p => s.retireRx p 5).rxRetired (pathOfBit hi j) = true := by
  cases hr : s.rxRetired (pathOfBit hi j)
  · exact State.rxRetired_of_rd (State.retireRx_named hs hj hr).1
  · obtain ⟨l, -, hbefore, hafter⟩ := (onePath_retireRx 5).named (hi := hi) s hj
    have hu := (State.rxRetired_congr hbefore.rd).trans hr
    rw [State.retireRx_retired _ _ _ hu] at hafter
    exact (State.rxRetired_congr hafter.rd).trans hu

/-- A named retired transmit side comes back in READY with its calibration within limits, and stays retired otherwise (R103). -/
theorem State.reinstateTx_named (hr : s.txRetired (pathOfBit hi j) = true) :
    let t := s.forNamed hi w fun s p => s.reinstateTx p
    (s.mode = .ready ∧ s.paths[pathOfBit hi j].txCal = some true → t.rd (Reg.TXP_RETIRE (pathOfBit hi j)) = 0 ∧
      t.paths[pathOfBit hi j].txSince = s.now ∧ t.dpd.paths[pathOfBit hi j].trips = []) ∧
    (¬ (s.mode = .ready ∧ s.paths[pathOfBit hi j].txCal = some true) →
      t.rd (Reg.TXP_RETIRE (pathOfBit hi j)) = s.rd (Reg.TXP_RETIRE (pathOfBit hi j))) := by
  intro t
  obtain ⟨l, -, hbefore, hafter⟩ := onePath_reinstateTx.named (hi := hi) s hj
  have hcanon := onePath_reinstateTx.canon_fold (hi := hi) (w := w) l s hs
  generalize l.foldl (namedStep hi w State.reinstateTx) s = u at hbefore hafter hcanon
  have hu := (State.txRetired_congr hbefore.rd).trans hr
  refine ⟨fun h => ?_, fun h => ?_⟩
  · rw [← hbefore.mode, ← hbefore.path] at h
    obtain ⟨hrd, hsince, htrips⟩ := State.reinstateTx_reinstates hcanon hu h
    exact ⟨hafter.rd.trans hrd, by rw [hafter.path, hsince, hbefore.now], by rw [hafter.dpd, htrips]⟩
  · rw [← hbefore.mode, ← hbefore.path] at h
    rw [State.reinstateTx_refused _ _ hu h] at hafter
    exact (hafter.rd.trans (u.rd_bump_other (by simp; omega))).trans hbefore.rd

/-- A named retired receive side comes back in READY with its calibration within limits, and stays retired otherwise (R103). -/
theorem State.reinstateRx_named (hr : s.rxRetired (pathOfBit hi j) = true) :
    let t := s.forNamed hi w fun s p => s.reinstateRx p
    (s.mode = .ready ∧ s.paths[pathOfBit hi j].rxCal = some true → t.rd (Reg.RXP_RETIRE (pathOfBit hi j)) = 0 ∧
      t.paths[pathOfBit hi j].rxSince = s.now) ∧
    (¬ (s.mode = .ready ∧ s.paths[pathOfBit hi j].rxCal = some true) →
      t.rd (Reg.RXP_RETIRE (pathOfBit hi j)) = s.rd (Reg.RXP_RETIRE (pathOfBit hi j))) := by
  intro t
  obtain ⟨l, -, hbefore, hafter⟩ := onePath_reinstateRx.named (hi := hi) s hj
  have hcanon := onePath_reinstateRx.canon_fold (hi := hi) (w := w) l s hs
  generalize l.foldl (namedStep hi w State.reinstateRx) s = u at hbefore hafter hcanon
  have hu := (State.rxRetired_congr hbefore.rd).trans hr
  refine ⟨fun h => ?_, fun h => ?_⟩
  · rw [← hbefore.mode, ← hbefore.path] at h
    obtain ⟨hrd, hsince⟩ := State.reinstateRx_reinstates hcanon hu h
    exact ⟨hafter.rd.trans hrd, by rw [hafter.path, hsince, hbefore.now]⟩
  · rw [← hbefore.mode, ← hbefore.path] at h
    rw [State.reinstateRx_refused _ _ hu h] at hafter
    exact (hafter.rd.trans (u.rd_bump_other (by simp; omega))).trans hbefore.rd

end

/-- Settles O11: each command acts once on every path that its mask names, and the turns of the other paths leave that path alone
(`OnePath.named`, `OnePath.unnamed`); what it does there is what it does on one path alone. -/
theorem retirementAndReinstatement : Obligations.RetirementAndReinstatement := by
  unfold Obligations.RetirementAndReinstatement
  intro s hs
  have hkept {t : State} {r : Nat} {p : Fin 64} (h : KeepsPath r p s t) : t.rd r = s.rd r ∧ t.paths[p] = s.paths[p] := ⟨h.rd, h.path⟩
  refine ⟨fun hi w hw => ?_, fun hi w hw => ?_, fun hi w hw => ?_, fun hi w hw => ?_, fun hi w hw => ?_, fun hi w hw => ?_,
    fun hi w hw => ?_, fun hi w hw => ?_⟩
  · refine ⟨_, congrArg Host.Outcome.next (if_pos hw), fun j hj => ⟨State.txRetired_named hs hj, State.retireTx_named hs hj⟩,
      fun p hp => hkept ((onePath_retireTx 5).unnamed s hp), forNamed_frame hi w _ (fun u p => ?_) s⟩
    refine (u.retireTx_frame p 5).mono (by decide) fun a h => ?_
    have hlt : arr 18 Reg.KPR_LT (Reg.KPR_LT 15) := ⟨15, by decide, rfl⟩
    have hret : arr 64 Reg.TXP_RETIRE (Reg.TXP_RETIRE p) := ⟨p, p.isLt, rfl⟩
    simp only [txRetireRegs, List.mem_cons, List.not_mem_nil, or_false] at h ⊢
    rcases h with rfl | (rfl | rfl | rfl | rfl) | h | h | h
    all_goals simp only [*, true_or, or_true]
  · exact congrArg Host.Outcome.next (if_neg (by simp [hw]))
  · refine ⟨_, congrArg Host.Outcome.next (if_pos hw), fun j hj => ⟨State.rxRetired_named hs hj, State.retireRx_named hs hj⟩,
      fun p hp => hkept ((onePath_retireRx 5).unnamed s hp), forNamed_frame hi w _ (fun u p => ?_) s⟩
    refine (u.retireRx_frame p 5).mono (by decide) fun a h => ?_
    have hlt : arr 18 Reg.KPR_LT (Reg.KPR_LT 15) := ⟨15, by decide, rfl⟩
    have hret : arr 64 Reg.RXP_RETIRE (Reg.RXP_RETIRE p) := ⟨p, p.isLt, rfl⟩
    simp only [rxRetireRegs, List.mem_cons, List.not_mem_nil, or_false] at h ⊢
    rcases h with rfl | (rfl | rfl | rfl | rfl) | h
    all_goals simp only [*, true_or, or_true]
  · exact congrArg Host.Outcome.next (if_neg (by simp [hw]))
  · refine ⟨_, congrArg Host.Outcome.next (if_pos hw), fun j hj => State.reinstateTx_named hs hj,
      fun p hp => hkept (onePath_reinstateTx.unnamed s hp), forNamed_frame hi w _ (fun u p => ?_) s⟩
    refine (u.reinstateTx_frame p).mono (by decide) fun a h => ?_
    have hret : arr 64 Reg.TXP_RETIRE (Reg.TXP_RETIRE p) := ⟨p, p.isLt, rfl⟩
    simp only [txBackRegs, List.mem_cons, List.not_mem_nil, or_false] at h ⊢
    rcases h with (rfl | rfl | rfl) | rfl | h
    all_goals simp only [*, true_or, or_true]
  · exact congrArg Host.Outcome.next (if_neg (by simp [hw]))
  · refine ⟨_, congrArg Host.Outcome.next (if_pos hw), fun j hj => State.reinstateRx_named hs hj,
      fun p hp => hkept (onePath_reinstateRx.unnamed s hp), forNamed_frame hi w _ (fun u p => ?_) s⟩
    refine (u.reinstateRx_frame p).mono (by decide) fun a h => ?_
    have hret : arr 64 Reg.RXP_RETIRE (Reg.RXP_RETIRE p) := ⟨p, p.isLt, rfl⟩
    simp only [rxBackRegs, List.mem_cons, List.not_mem_nil, or_false] at h ⊢
    rcases h with (rfl | rfl | rfl) | rfl | h
    all_goals simp only [*, true_or, or_true]
  · exact congrArg Host.Outcome.next (if_neg (by simp [hw]))

/-! ### Array calibrations -/

section
variable (s : State)

/-- Noting a leaf trim changes SYN_COH alone (R135). -/
theorem State.noteTrim_frame (q : Fin 17) : Frame s (s.noteTrim q) [] (· = Reg.SYN_COH) :=
  Frame.ite (s.setBit_frame _ _ _) (.refl ..)

theorem State.noteTrim_canon (q : Fin 17) (h : s.Canon) : (s.noteTrim q).Canon := by
  unfold State.noteTrim
  dsimp only
  split
  · exact s.setBit_canon _ _ _ h
  · exact h

/-- A leaf trim at the upper end of its range leaves the coherence figure without guarantee (R119, R135). -/
theorem State.bit_noteTrim_end (q : Fin 17) (h : s.Canon) (hq : s.fld (Reg.SYN_LEAF q) 7 0 = 127) :
    (s.noteTrim q).bit Reg.SYN_COH 31 = true := by
  have he : s.sfld (Reg.SYN_LEAF q) 7 0 = 127 := by rw [State.sfld, hq]; rfl
  rw [State.noteTrim, if_pos (.inr he)]
  exact s.bit_setBit_same _ _ _ (by decide) h

/-- Of the trims noted one after the other the last one, that of leaf 16, stands at its end. -/
theorem State.bit_noteTrims_last (h : s.Canon) (hq : s.fld (Reg.SYN_LEAF 16) 7 0 = 127) :
    ((List.finRange 17).foldl State.noteTrim s).bit Reg.SYN_COH 31 = true := by
  rw [List.finRange_succ_last, List.foldl_append]
  have hf : Frame s _ [] (· = Reg.SYN_COH) := Frame.foldl _ State.noteTrim_frame ((List.finRange 16).map Fin.castSucc) s
  exact State.bit_noteTrim_end _ _ (foldl_canon _ State.noteTrim_canon _ s h) ((hf.fld (by decide) 7 0).trans hq)

/-- The coherence figure is shown in SYN_COH alone (R134). -/
theorem State.showCoherence_frame (et er : List (Nat × List Rat)) : Frame s (s.showCoherence et er) [.freeIdx] (· = Reg.SYN_COH) := by
  unfold State.showCoherence
  extract_lets rms mm t
  have ht : Frame s t [.freeIdx] (· = Reg.SYN_COH) :=
    ((s.setBit_frame _ _ _).mono (by decide) fun _ h => h).step (State.setFld_frame _ _ _ _ _) (by decide) fun _ h => h
  clear_value rms
  cases rms with
  | some v => exact ht.step (State.setFld_frame _ _ _ _ _) (by decide) fun _ h => h
  | none => exact (ht.part t.freeNat_frame (by decide)).step (State.setFld_frame _ _ _ _ _) (by decide) fun _ h => h

theorem State.freeNat_canon (h : s.Canon) : s.freeNat.2.Canon := h.of_tables rfl rfl rfl rfl rfl rfl

theorem State.showCoherence_canon (et er : List (Nat × List Rat)) (h : s.Canon) : (s.showCoherence et er).Canon := by
  unfold State.showCoherence
  extract_lets rms mm t
  have ht : t.Canon := State.setFld_canon _ _ _ _ _ (s.setBit_canon _ _ _ h)
  clear_value t rms
  cases rms with
  | some v => exact t.setFld_canon _ _ _ _ ht
  | none => exact State.setFld_canon _ _ _ _ _ (t.freeNat_canon ht)

/-- An array calibration without a path to measure sets the references and shows the coherence figure, and trims nothing (R341). -/
theorem State.applyArrayCal_of_no_paths (bg : Bool) (a : ArrayCal) (h : ∀ tx, s.livePaths tx = []) :
    s.applyArrayCal bg a = (List.finRange 17).foldl State.noteTrim ((s.setLeaves []).showCoherence [] []) := by
  have hresp : ∀ tx, s.sideResp tx a = [] := fun tx => by simp [State.sideResp, h]
  have hres : ∀ tx, s.sideResiduals tx a = [] := fun tx => by simp [State.sideResiduals, h, residuals]
  simp [State.applyArrayCal, hresp, hres]

/-- The results of an array calibration outside every window (R334, R341). -/
theorem State.exec_arrayCal (a : ArrayCal) {bg : Bool} (h : s.arrayTaken = some bg) (hf : (s.stepFits 2 || s.stepFits 3) = false) :
    exec (.calStepComplete (.array a)) s = .next (s.applyArrayCal bg a) := by
  simp [exec, execCalStepComplete, h, hf]

end

/-- An ARRAY job in READY, every quad GATED, and the trim of leaf 16 at the upper end of its range, where tree tracking may have put it (R121). -/
def leafAtEnd : State :=
  { State.reset with
    mode := .ready
    seq := { State.reset.seq with job := some { kind := 2, quads := 0, quadOut := false } } }.setFld (Reg.SYN_LEAF 16) 7 0 127

/-- Responses of zero at every tone. -/
def noResponse : ArrayCal where
  tx := Vector.replicate 64 (Vector.replicate 9 (0, 0))
  rx := Vector.replicate 64 (Vector.replicate 9 (0, 0))
  txRes := Vector.replicate 64 (Vector.replicate 9 0)
  rxRes := Vector.replicate 64 (Vector.replicate 9 0)
  steps := Vector.replicate 64 none

theorem bit_leafAtEnd_arrayCal : (leafAtEnd.applyArrayCal false noResponse).bit Reg.SYN_COH 31 = true := by
  have hq : (leafAtEnd.setLeaves []).fld (Reg.SYN_LEAF 16) 7 0 = 127 := by decide +kernel
  have hc : (leafAtEnd.setLeaves []).Canon := by decide +kernel
  rw [State.applyArrayCal_of_no_paths _ _ _ (by decide +kernel)]
  exact State.bit_noteTrims_last _ (State.showCoherence_canon _ _ _ hc)
    (((State.showCoherence_frame _ _ _).fld (by decide) 7 0).trans hq)

/-- Refutes O16: the statement clears SYN_COH.stale after every array calibration, while stale stands as long as a leaf's trim stands at an
end of its range (R119, R135). Leaf 16, that of the observation receivers, is not trimmed by an array calibration, and tree tracking may have
brought it to its end: `leafAtEnd`. -/
theorem not_calibrationJobs : ¬ Obligations.CalibrationJobs := by
  unfold Obligations.CalibrationJobs
  intro h
  obtain ⟨-, -, -, -, -, -, -, -, harray, -⟩ := h leafAtEnd (by decide +kernel)
  have htaken : leafAtEnd.arrayTaken = some false := by decide +kernel
  have hfits : (leafAtEnd.stepFits 2 || leafAtEnd.stepFits 3) = false := by decide +kernel
  obtain ⟨t, ht, hshown, -⟩ := harray noResponse false htaken
  have hrun : t = leafAtEnd.applyArrayCal false noResponse :=
    Host.Outcome.next.inj (ht.symm.trans (leafAtEnd.exec_arrayCal noResponse htaken hfits))
  rw [hrun, bit_leafAtEnd_arrayCal] at hshown
  exact absurd hshown (by decide)

/-! ### The cut-off at the head -/

/-- A section whose returns the head combines, of one group and one layer. -/
def combineSec : UlSec where
  id := 0
  first := 0
  n := 1
  start := 0
  nSym := 1
  combine := true
  passthru := false
  dmrs2 := false
  dmrsDouble := false
  cdm := 1
  estFirst := false
  l0 := 0
  nLayer := 1
  mask := 1
  kind := 0
  nCol := 1
  fb := 0
  value := 0
  users := []
  cols := []

/-- An output of carrier 4 waits at the head at full scale, one step above the greatest component of 24 bits. The canonical form bounds
no output's carrier, though no command makes an output of a carrier that does not exist. -/
def outPastCarriers : State :=
  { State.reset with
    air := { State.reset.air with pats := [{ nSlot := 1, kiteK := 0, calK := 0, syms := List.replicate 14 4 }] }
    bmx := { State.reset.bmx with jobs := [{ a := ⟨0, 0, 0⟩ }] }
    ulr := { State.reset.ulr with
      outs := [{ sym := 0, car := 4, no := 0, sec := combineSec, prbs := 1, contrib := 1, z := [[(2 ^ 23, 0)]] }] } }

/-- BMX_UL_SAT_CNT of a carrier 4 lies outside the registers that HEAD_CUTOFF may change. -/
theorem bmxUlSatCnt_four_not_headRegs : ¬ (Reg.BMX_UL_SAT_CNT 4 = Reg.ULR_STAT ∨
    arr 4 Reg.BMX_UL_SAT_CNT (Reg.BMX_UL_SAT_CNT 4) ∨ arr 4 Reg.ULR_BS_LATE_CNT (Reg.BMX_UL_SAT_CNT 4)) := by decide +kernel

/-- Refutes O32: the statement takes every state in canonical form, and its frame of HEAD_CUTOFF names BMX_UL_SAT_CNT of carriers 0 to 3
alone. From `outPastCarriers` the cut-off counts the saturated sum of an output of carrier 4 (R270): the register there reads 1, and read 0. -/
theorem not_uplinkSymbolToHead : ¬ Obligations.UplinkSymbolToHead := by
  unfold Obligations.UplinkSymbolToHead
  intro h
  obtain ⟨-, -, -, -, -, -, hcut, -⟩ := h outPastCarriers (by decide +kernel)
  obtain ⟨t, ht, -, -, -, -, -, hframe⟩ := hcut ⟨0, 0, 0⟩ { a := ⟨0, 0, 0⟩ }
    (by decide +kernel) (by decide +kernel) (by decide +kernel) (by decide +kernel)
  obtain rfl := Host.Outcome.next.inj ht
  have hkept := hframe.2 _ bmxUlSatCnt_four_not_headRegs
  have hwas : outPastCarriers.rd (Reg.BMX_UL_SAT_CNT 4) = 0 := by decide +kernel
  rw [hwas] at hkept
  exact absurd hkept (by decide +kernel)

end Sys2Proof.Machine

namespace Sys2Proof.Machine

/-! Here and below each proof is awaited in turn: with many of them waiting at once Lean would start a thread for each. -/

section
set_option Elab.async false

/-! ## Clocks and coherence

### What an operation keeps -/

/-- From `s` to `t` nothing changes but the parts `ps` and the registers `rs`; the tables stay in canonical form, and every event that waits
goes on waiting. -/
structure Within (s t : State) (ps : List Part) (rs : Nat → Prop) : Prop where
  frame : Frame s t ps rs
  canon : s.Canon → t.Canon
  queue : s.rcd.queue ⊆ t.rcd.queue

namespace Within

section
variable {s t u : State} {ps qs : List Part} {rs rs' : Nat → Prop}

theorem refl (s : State) (ps : List Part) (rs : Nat → Prop) : Within s s ps rs := ⟨.refl .., id, List.Subset.refl _⟩

theorem trans (h : Within s t ps rs) (k : Within t u ps rs) : Within s u ps rs :=
  ⟨h.frame.trans k.frame, k.canon ∘ h.canon, List.Subset.trans h.queue k.queue⟩

theorem mono (h : Within s t ps rs) (hr : ∀ a, rs a → rs' a) (hp : ps ⊆ qs := by decide) : Within s t qs rs' :=
  ⟨h.frame.mono hp hr, h.canon, h.queue⟩

/-- A further operation that stays within the same parts and registers. -/
theorem step (h : Within s t ps rs) (k : Within t u qs rs') (hr : ∀ a, rs' a → rs a) (hp : qs ⊆ ps := by decide) : Within s u ps rs :=
  h.trans (k.mono hr hp)

/-- A further change of parts alone. -/
theorem part (h : Within s t ps rs) (k : Within t u qs noRegs) (hp : qs ⊆ ps := by decide) : Within s u ps rs :=
  h.step k (fun _ h => h.elim) hp

/-- Two operations one after the other change what either changes. -/
theorem and (h : Within s t ps rs) (k : Within t u qs rs') : Within s u (ps ++ qs) (fun a => rs a ∨ rs' a) :=
  (h.mono (fun _ => .inl) (List.subset_append_left ..)).step k (fun _ => .inr) (List.subset_append_right ..)

theorem ite {c : Prop} [Decidable c] (h : Within s t ps rs) (k : Within s u ps rs) : Within s (if c then t else u) ps rs := by
  split
  · exact h
  · exact k

theorem foldl {β : Type} {f : State → β → State} (hf : ∀ s x, Within s (f s x) ps rs) (l : List β) (s : State) :
    Within s (l.foldl f s) ps rs := by
  induction l generalizing s with
  | nil => exact refl ..
  | cons x l ih => exact (hf s x).trans (ih _)

theorem part_eq (h : Within s t ps rs) (p : Part) (hp : p ∉ ps := by decide) : p.same s t := h.frame.1 p hp

theorem rd (h : Within s t ps rs) {a : Nat} (ha : ¬ rs a) : t.rd a = s.rd a := h.frame.2 a ha

theorem fld (h : Within s t ps rs) {a : Nat} (ha : ¬ rs a) (hi lo : Nat) : t.fld a hi lo = s.fld a hi lo := h.frame.fld ha hi lo

theorem bit (h : Within s t ps rs) {a : Nat} (ha : ¬ rs a) (i : Nat) : t.bit a i = s.bit a i := h.frame.bit ha i

/-- A counter that a further operation leaves alone has still counted. -/
theorem counted (k : Within t u ps rs) {a n : Nat} (h : Counted s t a n) (ha : ¬ rs a) : Counted s u a n := by
  rw [Counted, k.rd ha]
  exact h

/-- A counter that an operation leaves alone counts from where it stood. -/
theorem counted_after (k : Within s t ps rs) {a n : Nat} (h : Counted t u a n) (ha : ¬ rs a) : Counted s u a n := by
  rw [Counted, ← k.rd ha]
  exact h

/-- An event that waits goes on waiting. -/
theorem raised (k : Within t u ps rs) {c : Nat} {l : List (Nat × Nat)} (h : Raised s t c l) : Raised s u c l := fun hq =>
  let ⟨e, he, hc⟩ := h hq
  ⟨e, k.queue he, hc⟩

/-- An event raised after an operation that raises none. -/
theorem raised_after (k : Within s t ps rs) {c : Nat} {l : List (Nat × Nat)} (h : Raised t u c l) (hp : Part.rcd ∉ ps := by decide) :
    Raised s u c l := fun hq => by
  have hr : t.rcd = s.rcd := k.part_eq .rcd hp
  exact h (by rw [hr]; exact hq)

end

section
variable (s : State)

theorem of_paths (x : Vector PathSt 64) : Within s { s with paths := x } [.paths] noRegs := ⟨.of_paths s x, id, List.Subset.refl _⟩

theorem of_clk (x : Clocks) : Within s { s with clk := x } [.clk] noRegs := ⟨.of_clk s x, id, List.Subset.refl _⟩

theorem of_seq (x : Seq) : Within s { s with seq := x } [.seq] noRegs := ⟨.of_seq s x, id, List.Subset.refl _⟩

theorem of_tim (x : Tim) : Within s { s with tim := x } [.tim] noRegs := ⟨.of_tim s x, id, List.Subset.refl _⟩

theorem of_pkt (x : Pkt) : Within s { s with pkt := x } [.pkt] noRegs := ⟨.of_pkt s x, id, List.Subset.refl _⟩

theorem of_seq_kte (x : Seq) (y : Kite) : Within s { s with seq := x, kte := y } [.seq, .kte] noRegs :=
  ⟨⟨fun p h => by cases p <;> simp [Part.same] at h ⊢, fun _ _ => rfl⟩, id, List.Subset.refl _⟩

end
end Within

section
variable (s : State)

theorem State.wr_within (a : Nat) (w : Word) : Within s (s.wr a w) [] (· = a) := ⟨s.wr_frame a w, s.wr_canon a w, List.Subset.refl _⟩

theorem State.setFld_within (a hi lo v : Nat) : Within s (s.setFld a hi lo v) [] (· = a) := s.wr_within a _

theorem State.setBit_within (a i : Nat) (b : Bool) : Within s (s.setBit a i b) [] (· = a) := s.wr_within a _

theorem State.bump_within (a : Nat) : Within s (s.bump a) [] (· = a) := s.wr_within a _

theorem State.raise_within (c : Nat) (l : List (Nat × Nat)) : Within s (s.raise c l) [.rcd] (eventRegs c) :=
  ⟨s.raise_frame c l, s.raise_canon c l, s.queue_subset_raiseEvent _⟩

theorem State.raiseEffect_within (c : Nat) (l : List (Nat × Nat)) : Within s (s.raiseEffect c l) [.rcd] (eventRegs c) :=
  ⟨s.raiseEffect_frame c l, s.raiseEffect_canon c l, s.queue_subset_raiseEvent _⟩

theorem State.bump_counted (a : Nat) (h : s.Canon) : Counted s (s.bump a) a 1 := s.rd_bump_same a h

theorem State.setPath_within (p : Fin 64) (f : PathSt → PathSt) : Within s (s.setPath p f) [.paths] noRegs := .of_paths s _

theorem State.setQuad_within (q : Fin 16) (f : Quad → Quad) : Within s (s.setQuad q f) [.seq] noRegs := .of_seq s _

theorem State.setPll_within (k : Fin 4) (f : PllSt → PllSt) : Within s (s.setPll k f) [.clk] noRegs := .of_clk s _

variable {s}

/-- Another bit of the same register stays. -/
theorem State.bit_setBit_apart (h : s.Canon) (a : Nat) {i j : Nat} (b : Bool) (hi : i < 32) (hj : j ≠ i) :
    (s.setBit a i b).bit a j = s.bit a j := by
  rw [State.bit, State.bit, State.setBit, State.fld_setFld_apart h _ (le_refl i) hi (le_refl j) (by omega)]

end

/-! ### Blanking (R330 to R332) -/

/-- The registers of a blanking interval that begins: the blanked symbols by quad and the beacon that is cut. -/
abbrev blankRegs (a : Nat) : Prop := a = Reg.KTE_TX_SKIP_CNT ∨ arr 16 Reg.SEQ_BLANK_CNT a

section
variable (s : State)

theorem State.countBlank_within (q : Fin 16) : Within s (s.countBlank q) [.seq] (arr 16 Reg.SEQ_BLANK_CNT) :=
  .ite (((Within.refl ..).step (s.bump_within _) fun _ h => ⟨q, q.isLt, h⟩).part (State.setQuad_within _ _ _)) (.refl ..)

theorem State.shutPaths_within (l : List (Fin 64)) :
    Within s (l.foldl (fun s p => s.setPath p fun x => x.shut s.now) s) [.paths] noRegs :=
  .foldl (fun s p => s.setPath_within p _) l s

theorem State.dropDuty_within (t : Nat) : Within s (s.dropDuty t) [.seq] noRegs := .ite (.of_seq s _) (.refl ..)

theorem State.cutBeacon_within : Within s s.cutBeacon [.paths, .seq, .kte] (· = Reg.KTE_TX_SKIP_CNT) :=
  .ite ((((Within.refl ..).part (s.shutPaths_within (List.finRange 64))).step (State.bump_within _ _) fun _ h => h).part
    (.of_seq_kte _ _ _)) (.refl ..)

theorem State.blankOnset_within : Within s s.blankOnset [.paths, .seq, .kte] blankRegs := by
  unfold State.blankOnset
  extract_lets t u
  have ht : Within s t [.paths, .seq, .kte] blankRegs := by
    refine .foldl (fun s q => .ite ?_ (.refl ..)) _ s
    have hq : Within s (s.countBlank q) [.paths, .seq, .kte] blankRegs := (s.countBlank_within q).mono fun _ => .inr
    exact .ite (hq.part (State.shutPaths_within _ _)) hq
  have hu : Within s u [.paths, .seq, .kte] blankRegs := ht.step t.cutBeacon_within fun _ => .inl
  clear_value u
  split
  · exact hu.part (u.dropDuty_within _)
  · exact hu

end

/-! ### Time quality and holdover (R114, R455, R456) -/

/-- The registers of a change of the time quality. -/
abbrev qualityRegs (a : Nat) : Prop := a = Reg.TIM_QUAL ∨ a = Reg.TIM_QUAL_CHANGE_CNT ∨ eventRegs 0x0103 a

/-- Holdover shown as `b`, with the time quality as it was. -/
def State.showHoldover (s : State) (b : Bool) : State :=
  ({ s with clk := { s.clk with holdover := b } }.setBit Reg.SYN_LOCK_STAT 8 b).setBit Reg.TIM_QUAL 10 b

section
variable (s : State)

theorem State.setQuality_within (q : Nat) : Within s (s.setQuality q) [.rcd] qualityRegs :=
  .ite (.refl ..) ((((Within.refl ..).step (s.setFld_within _ _ _ _) fun _ => .inl).step (State.bump_within _ _) fun _ h => .inr (.inl h)).step
    (State.raiseEffect_within _ _ _) fun _ h => .inr (.inr h))

theorem State.degrade_within : Within s s.degrade [.rcd] qualityRegs := .ite (s.setQuality_within 2) (.refl ..)

/-- Where holdover changes, it is shown, and the quality may follow; elsewhere nothing happens. -/
theorem State.setHoldover_cases (b : Bool) :
    (s.clk.holdover = b ∧ s.setHoldover b = s) ∨ Within (s.showHoldover b) (s.setHoldover b) [.rcd] qualityRegs := by
  by_cases h : s.clk.holdover = b
  · exact .inl ⟨h, if_pos h⟩
  · rw [State.setHoldover, if_neg h]
    exact .inr (.ite (.ite (State.setQuality_within _ 3) (.refl ..)) (.ite (State.setQuality_within _ 2) (.refl ..)))

theorem State.setHoldover_within (b : Bool) :
    Within s (s.setHoldover b) [.clk, .rcd] (fun a => a = Reg.SYN_LOCK_STAT ∨ qualityRegs a) := by
  rcases s.setHoldover_cases b with ⟨-, h⟩ | h
  · rw [h]
    exact .refl ..
  · exact ((((Within.refl ..).part (.of_clk s _)).step (State.setBit_within _ _ _ _) fun _ => .inl).step
      (State.setBit_within _ _ _ _) fun _ h => .inr (.inl h)).step h fun _ => .inr

theorem State.setHoldover_clk (b : Bool) : (s.setHoldover b).clk = { s.clk with holdover := b } := by
  rcases s.setHoldover_cases b with ⟨hb, h⟩ | h
  · rw [h, ← hb]
  · exact h.part_eq .clk

/-- The bits of SYN_LOCK_STAT beside holdover stay. -/
theorem State.setHoldover_lockStat (b : Bool) (h : s.Canon) {i : Nat} (hi : i ≠ 8) :
    (s.setHoldover b).bit Reg.SYN_LOCK_STAT i = s.bit Reg.SYN_LOCK_STAT i := by
  rcases s.setHoldover_cases b with ⟨-, e⟩ | k
  · rw [e]
  · have hq : ¬ qualityRegs Reg.SYN_LOCK_STAT := by decide
    rw [k.bit hq, State.showHoldover, (State.setBit_within _ Reg.TIM_QUAL 10 b).bit (by decide)]
    exact State.bit_setBit_apart (s := { s with clk := { s.clk with holdover := b } }) h _ _ (by decide) hi

/-- Blanking for lost lock or reference has begun, and its onset is still to come (R114). -/
def State.lockLost : State :=
  { s with clk := { s.clk with unlocked := true, unlockAt := if s.clk.unlocked then s.clk.unlockAt else s.now, relockAt := none } }

theorem State.blankForLock_within : Within s s.blankForLock [.clk, .paths, .seq, .kte] blankRegs :=
  ((Within.refl ..).part (.of_clk s _)).step s.lockLost.blankOnset_within fun _ h => h

theorem State.blankForLock_clk : s.blankForLock.clk = s.lockLost.clk := s.lockLost.blankOnset_within.part_eq .clk

end

/-! ### Loss of lock and of reference (R108, R112 to R116) -/

section
variable (s : State)

/-- The loss of REFCLK as the registers show it (R108). -/
def State.showRefLost : State := { s with clk := { s.clk with refLost := true } }.setBit Reg.SYN_LOCK_STAT 4 true

/-- The loss of REFCLK shown, counted and recorded (R108). -/
def State.refGone (freq : Bool) : State := (s.showRefLost.bump Reg.SYN_REF_LOSS_CNT).raise 0x0802 [(1, if freq then 1 else 0)]

theorem State.showRefLost_within : Within s s.showRefLost [.clk] (· = Reg.SYN_LOCK_STAT) :=
  ((Within.refl ..).part (.of_clk s _)).step (State.setBit_within _ _ _ _) fun _ h => h

theorem State.showRefLost_counts : Within s (s.showRefLost.bump Reg.SYN_REF_LOSS_CNT) [.clk]
    (fun a => a = Reg.SYN_LOCK_STAT ∨ a = Reg.SYN_REF_LOSS_CNT) :=
  (s.showRefLost_within.mono fun _ => .inl).step (State.bump_within _ _) fun _ => .inr

theorem State.refGone_within (freq : Bool) : Within s (s.refGone freq) [.clk, .rcd]
    (fun a => (a = Reg.SYN_LOCK_STAT ∨ a = Reg.SYN_REF_LOSS_CNT) ∨ eventRegs 0x0802 a) :=
  (s.showRefLost_counts.mono fun _ => .inl).step (State.raise_within _ _ _) fun _ => .inr

theorem State.refGone_clk (freq : Bool) : (s.refGone freq).clk = { s.clk with refLost := true } := State.raise_clk ..

theorem exec_refclkLoss {freq : Bool} (h : s.clk.refLost = false) :
    exec (.refclkLoss freq) s = .next ((s.refGone freq).setHoldover true).blankForLock := congrArg Host.Outcome.next (if_neg (by simp [h]))

variable {s}

theorem State.bit_refGone (freq : Bool) (h : s.Canon) : (s.refGone freq).bit Reg.SYN_LOCK_STAT 4 = true := by
  rw [State.refGone, (State.raise_within _ _ _).bit (by decide), (State.bump_within _ _).bit (by decide)]
  exact State.bit_setBit_same _ _ _ _ (by decide) h

theorem State.counted_refGone (freq : Bool) (h : s.Canon) : Counted s (s.refGone freq) Reg.SYN_REF_LOSS_CNT 1 :=
  (State.raise_within _ _ _).counted
    (s.showRefLost_within.counted_after (State.bump_counted _ _ (s.showRefLost_within.canon h)) (by decide)) (by decide)

theorem State.raised_refGone (freq : Bool) : Raised s (s.refGone freq) 0x0802 [(1, if freq then 1 else 0)] :=
  s.showRefLost_counts.raised_after (State.raise_raised _ _ _)

end

/-! #### One PLL -/

section
variable {s : State} {k : Fin 4}

theorem State.plls_setPll_same (s : State) (k : Fin 4) (f : PllSt → PllSt) : (s.setPll k f).clk.plls[k] = f s.clk.plls[k] :=
  getElem_upd_same ..

theorem State.plls_setPll_other (f : PllSt → PllSt) {j : Fin 4} (h : j ≠ k) : (s.setPll k f).clk.plls[j] = s.clk.plls[j] :=
  getElem_upd_other _ _ h

theorem State.setLock_within (s : State) (k : Fin 4) (b : Bool) : Within s (s.setLock k b) [.clk] (· = Reg.SYN_LOCK_STAT) :=
  ((Within.refl ..).part (s.setPll_within _ _)).step (State.setBit_within _ _ _ _) fun _ h => h

theorem State.bit_setLock (b : Bool) (h : s.Canon) : (s.setLock k b).bit Reg.SYN_LOCK_STAT k = b :=
  State.bit_setBit_same _ _ _ _ (by omega) ((s.setPll_within k _).canon h)

theorem State.setLock_clk (s : State) (k : Fin 4) (b : Bool) :
    (s.setLock k b).clk = { s.clk with plls := upd s.clk.plls k fun x => { x with locked := b } } := rfl

/-- The PLLs of a list start their relock attempts anew, and the others stay (R114). -/
theorem State.plls_startRelocks_of (l : List (Fin 4)) (s : State) (k : Fin 4) : (l.foldl (fun s k => s.startRelock k) s).clk.plls[k] =
    if k ∈ l then { s.clk.plls[k] with attempt := some 1, attemptAt := s.now, exhausted := none } else s.clk.plls[k] := by
  induction l generalizing s with
  | nil => simp
  | cons j l ih =>
    rw [List.foldl_cons, ih]
    by_cases hk : k = j
    · subst hk
      rw [State.startRelock, State.startAttempt, State.plls_setPll_same]
      simp
    · rw [State.startRelock, State.startAttempt, State.plls_setPll_other _ hk]
      simp [hk]

/-- Every PLL starts its relock attempts anew (R114). -/
theorem State.plls_startRelocks (s : State) (k : Fin 4) : (allPlls.foldl (fun s k => s.startRelock k) s).clk.plls[k] =
    { s.clk.plls[k] with attempt := some 1, attemptAt := s.now, exhausted := none } := by
  rw [State.plls_startRelocks_of, if_pos (by revert k; decide)]

theorem State.startRelock_within (s : State) (k : Fin 4) : Within s (s.startRelock k) [.clk] noRegs := s.setPll_within k _

theorem State.startRelocks_within (s : State) : Within s (allPlls.foldl (fun s k => s.startRelock k) s) [.clk] noRegs :=
  .foldl State.startRelock_within allPlls s

/-- The attempts change the PLLs alone. -/
theorem State.startRelocks_clk (s : State) : (allPlls.foldl (fun s k => s.startRelock k) s).clk =
    { s.clk with plls := (allPlls.foldl (fun s k => s.startRelock k) s).clk.plls } := rfl

end

/-! #### PLL_UNLOCK -/

section
variable (s : State) (k : Fin 4) (p : Pll)

/-- The unlock of PLL `k` shown, counted and recorded (R112). -/
def State.unlockShown : State := ((s.setLock k false).bump (Reg.SYN_UNLOCK_CNT k)).raise 0x0801 [(1, k)]

/-- An unlock of the CPLL loses the phase of its dividers (R118). -/
def State.unlockDividers : State := if k = 2 then { s with clk := { s.clk with dividersAligned := false } } else s

/-- An unlock of the GPLL or the TPLL begins holdover (R114). -/
def State.unlockHoldover : State :=
  match p with
  | .gpll | .tpll => s.setHoldover true
  | _ => s

/-- The attempts that an unlock starts while REFCLK is present (R114). -/
def State.unlockRelock : State :=
  if s.clk.refLost then s
  else match p with
    | .gpll | .tpll => allPlls.foldl (fun s k => s.startRelock k) s
    | _ => s.startRelock p.idx

/-- PLL_UNLOCK up to the blanking (R112, R114). -/
def State.unlocked : State := (((s.unlockShown p.idx).unlockDividers p.idx).unlockHoldover p).unlockRelock p

theorem exec_pllUnlock (h : s.clk.plls[p.idx].locked = true) : exec (.pllUnlock p) s = .next (s.unlocked p).blankForLock := by
  cases p <;> exact congrArg Host.Outcome.next (if_pos h)

theorem State.unlockCounts_within : Within s ((s.setLock k false).bump (Reg.SYN_UNLOCK_CNT k)) [.clk]
    (fun a => a = Reg.SYN_LOCK_STAT ∨ a = Reg.SYN_UNLOCK_CNT k) :=
  ((s.setLock_within k false).mono fun _ => .inl).step (State.bump_within _ _) fun _ => .inr

theorem State.unlockShown_within : Within s (s.unlockShown k) [.clk, .rcd]
    (fun a => (a = Reg.SYN_LOCK_STAT ∨ a = Reg.SYN_UNLOCK_CNT k) ∨ eventRegs 0x0801 a) :=
  ((s.unlockCounts_within k).mono fun _ => .inl).step (State.raise_within _ _ _) fun _ => .inr

theorem State.unlockShown_clk : (s.unlockShown k).clk = { s.clk with plls := upd s.clk.plls k fun x => { x with locked := false } } :=
  State.raise_clk ..

theorem State.unlockDividers_within : Within s (s.unlockDividers k) [.clk] noRegs := .ite (.of_clk s _) (.refl ..)

theorem State.unlockHoldover_within : Within s (s.unlockHoldover p) [.clk, .rcd] (fun a => a = Reg.SYN_LOCK_STAT ∨ qualityRegs a) := by
  unfold State.unlockHoldover
  split
  · exact s.setHoldover_within true
  · exact s.setHoldover_within true
  · exact .refl ..

theorem State.unlockRelock_within : Within s (s.unlockRelock p) [.clk] noRegs := by
  unfold State.unlockRelock
  refine .ite (.refl ..) ?_
  split
  · exact s.startRelocks_within
  · exact s.startRelocks_within
  · exact s.startRelock_within p.idx

theorem State.unlocked_within : Within (s.unlockShown p.idx) (s.unlocked p) [.clk, .rcd] (fun a => a = Reg.SYN_LOCK_STAT ∨ qualityRegs a) :=
  (((Within.refl ..).part (State.unlockDividers_within _ _)).step (State.unlockHoldover_within _ p) fun _ h => h).part
    (State.unlockRelock_within _ p)

/-- Before its attempts start, an unlock changes the dividers and holdover of the clocks alone. -/
theorem State.clk_unlockHoldover_dividers : ∃ d b,
    ((s.unlockDividers k).unlockHoldover p).clk = { s.clk with dividersAligned := d, holdover := b } ∧
    (p = .gpll ∨ p = .tpll → b = true) := by
  have hd : ∃ d, (s.unlockDividers k).clk = { s.clk with dividersAligned := d } := by
    unfold State.unlockDividers
    split
    · exact ⟨false, rfl⟩
    · exact ⟨s.clk.dividersAligned, rfl⟩
  obtain ⟨d, hd⟩ := hd
  refine ⟨d, if p = .gpll ∨ p = .tpll then true else s.clk.holdover, ?_, fun h => if_pos h⟩
  cases p with
  | gpll => simp [State.unlockHoldover, State.setHoldover_clk, hd]
  | tpll => simp [State.unlockHoldover, State.setHoldover_clk, hd]
  | cpll => simp [State.unlockHoldover, hd]
  | lpll => simp [State.unlockHoldover, hd]

/-- The attempts keep every lock, and with REFCLK present PLL `p` itself starts one. -/
theorem State.plls_unlockRelock : (s.unlockRelock p).clk.plls[p.idx].locked = s.clk.plls[p.idx].locked ∧
    (s.clk.refLost = false → (s.unlockRelock p).clk.plls[p.idx].attempt = some 1) ∧
    (s.unlockRelock p).clk.holdover = s.clk.holdover := by
  unfold State.unlockRelock
  split
  · next h => exact ⟨rfl, fun h' => absurd h (by simp [h']), rfl⟩
  · split
    · rw [State.plls_startRelocks]
      exact ⟨rfl, fun _ => rfl, rfl⟩
    · rw [State.plls_startRelocks]
      exact ⟨rfl, fun _ => rfl, rfl⟩
    · rw [State.startRelock, State.startAttempt, State.plls_setPll_same]
      exact ⟨rfl, fun _ => rfl, rfl⟩

theorem State.plls_unlocked : (s.unlocked p).clk.plls[p.idx].locked = false ∧
    (s.clk.refLost = false → (s.unlocked p).clk.plls[p.idx].attempt = some 1) ∧
    (p = .gpll ∨ p = .tpll → (s.unlocked p).clk.holdover = true) := by
  obtain ⟨d, b, hclk, hb⟩ := State.clk_unlockHoldover_dividers (s.unlockShown p.idx) p.idx p
  obtain ⟨hl, ha, hh⟩ := State.plls_unlockRelock (((s.unlockShown p.idx).unlockDividers p.idx).unlockHoldover p) p
  rw [hclk, State.unlockShown_clk] at hl ha hh
  refine ⟨hl.trans ?_, ha, fun h => hh.trans (hb h)⟩
  exact congrArg PllSt.locked (getElem_upd_same ..)

/-- SYN_UNLOCK_CNT is none of the registers of events, holdover and blanking. -/
theorem unlockCnt_apart : ∀ k : Fin 4, ¬ (Reg.SYN_UNLOCK_CNT k = Reg.SYN_LOCK_STAT ∨ qualityRegs (Reg.SYN_UNLOCK_CNT k)) ∧
    ¬ blankRegs (Reg.SYN_UNLOCK_CNT k) ∧ ¬ eventRegs 0x0801 (Reg.SYN_UNLOCK_CNT k) ∧ ¬ eventRegs 0x0803 (Reg.SYN_UNLOCK_CNT k) := by decide

theorem State.counted_unlockShown (h : s.Canon) : Counted s (s.unlockShown k) (Reg.SYN_UNLOCK_CNT k) 1 := by
  obtain ⟨-, -, hev, -⟩ := unlockCnt_apart k
  have hl := s.setLock_within k false
  exact (State.raise_within _ _ _).counted (hl.counted_after (State.bump_counted _ _ (hl.canon h)) (by clear * -; revert k; decide)) hev

theorem State.bit_unlockShown (h : s.Canon) : (s.unlockShown k).bit Reg.SYN_LOCK_STAT k = false := by
  rw [State.unlockShown, (State.raise_within _ _ _).bit (by decide), (State.bump_within _ _).bit (by clear * -; revert k; decide)]
  exact State.bit_setLock false h

theorem State.lockStat_unlockHoldover (h : s.Canon) {i : Nat} (hi : i ≠ 8) :
    (s.unlockHoldover p).bit Reg.SYN_LOCK_STAT i = s.bit Reg.SYN_LOCK_STAT i := by
  unfold State.unlockHoldover
  split
  · exact s.setHoldover_lockStat true h hi
  · exact s.setHoldover_lockStat true h hi
  · rfl

theorem State.bit_unlocked (h : s.Canon) : (s.unlocked p).bit Reg.SYN_LOCK_STAT p.idx = false := by
  have hd := (s.unlockShown p.idx).unlockDividers_within p.idx
  have hc := hd.canon ((s.unlockShown_within p.idx).canon h)
  rw [State.unlocked, (State.unlockRelock_within _ p).bit id, State.lockStat_unlockHoldover _ p hc (by omega), hd.bit id]
  exact s.bit_unlockShown p.idx h

end

/-! #### PLL_LOCK and the relock declaration -/

section
variable (s : State) (k : Fin 4)

theorem State.declareRelock_within : Within s s.declareRelock [.clk, .rcd] (fun a => a = Reg.SYN_LOCK_STAT ∨ qualityRegs a) := by
  unfold State.declareRelock
  split
  · exact (s.setHoldover_within false).part (.of_clk _ _)
  · exact .refl ..

theorem State.plls_declareRelock : s.declareRelock.clk.plls = s.clk.plls := by
  unfold State.declareRelock
  split
  · show (s.setHoldover false).clk.plls = s.clk.plls
    rw [s.setHoldover_clk]
  · rfl

/-- The bits of SYN_LOCK_STAT beside holdover stay. -/
theorem State.bit_declareRelock (h : s.Canon) {i : Nat} (hi : i ≠ 8) :
    s.declareRelock.bit Reg.SYN_LOCK_STAT i = s.bit Reg.SYN_LOCK_STAT i := by
  unfold State.declareRelock
  split
  · exact s.setHoldover_lockStat false h hi
  · rfl

/-- With every PLL locked, no attempt running and REFCLK present, the blanking of lost lock is over (R115). -/
theorem State.unlocked_declareRelock (h : s.allRelocked = true) : s.declareRelock.clk.unlocked = false := by
  unfold State.declareRelock
  split
  · rfl
  · next hn => simpa [h] using hn

theorem State.allRelocked_of (hr : s.clk.refLost = false) (hp : ∀ j : Fin 4, s.clk.plls[j].locked = true ∧ s.clk.plls[j].attempt = none) :
    s.allRelocked = true := by
  simp only [State.allRelocked, hr, Bool.not_false, Bool.true_and, List.all_eq_true]
  intro j _
  obtain ⟨hl, ha⟩ := hp j
  simp only [hl, ha, Option.isNone_none, Bool.and_self]

/-- PLL `k` locks, and its attempts end. -/
def State.lockTaken : State := (s.setLock k true).setPll k fun x => { x with attempt := none, exhausted := none }

/-- The lock of PLL `k` in attempt `n` shown and recorded (R114, R115). -/
def State.lockShown (n : Nat) : State := (s.lockTaken k).raise 0x0804 [(1, k), (1, n)]

/-- The CPLL's dividers take the phase of the most recent alignment (R118). -/
def State.lockDividers : State := if k = 2 then { s with clk := { s.clk with dividersAligned := s.air.origin.isSome } } else s

/-- The LPLL shows the band that its search has found, and its tuning voltage (R117). -/
def State.lockVco (band : BitVec 6) (vtune : BitVec 12) : State := if k = 3 then s.setVco band vtune else s

theorem exec_pllLock {p : Pll} {n : Nat} (band : BitVec 6) (vtune : BitVec 12) (ha : s.clk.plls[p.idx].attempt = some n)
    (ht : s.now - s.clk.plls[p.idx].attemptAt ≤ attemptTicks p.idx) : exec (.pllLock p band vtune) s =
      .next (((s.lockShown p.idx n).lockDividers p.idx).lockVco p.idx band vtune).declareRelock := by
  show execPllLock p band vtune s = _
  unfold execPllLock
  dsimp only
  rw [ha]
  exact congrArg Host.Outcome.next (if_neg (by omega))

theorem State.lockTaken_within : Within s (s.lockTaken k) [.clk] (· = Reg.SYN_LOCK_STAT) :=
  (s.setLock_within k true).part (State.setPll_within _ _ _)

theorem State.lockShown_within (n : Nat) : Within s (s.lockShown k n) [.clk, .rcd] (fun a => a = Reg.SYN_LOCK_STAT ∨ eventRegs 0x0804 a) :=
  ((s.lockTaken_within k).mono fun _ => .inl).step (State.raise_within _ _ _) fun _ => .inr

theorem State.bit_lockShown (n : Nat) (h : s.Canon) : (s.lockShown k n).bit Reg.SYN_LOCK_STAT k = true := by
  rw [State.lockShown, (State.raise_within _ _ _).bit (by decide), State.lockTaken, (State.setPll_within _ _ _).bit id]
  exact State.bit_setLock true h

/-- The PLLs after a lock of PLL `k`. -/
theorem State.plls_lockShown (n : Nat) (j : Fin 4) : (s.lockShown k n).clk.plls[j] =
    if j = k then { s.clk.plls[k] with locked := true, attempt := none, exhausted := none } else s.clk.plls[j] := by
  rw [State.lockShown, State.raise_clk, State.lockTaken]
  split
  · next h => rw [h, State.plls_setPll_same, State.setLock_clk, getElem_upd_same]
  · next h => rw [State.plls_setPll_other _ h, State.setLock_clk, getElem_upd_other _ _ h]

theorem State.lockShown_refLost (n : Nat) : (s.lockShown k n).clk.refLost = s.clk.refLost := by
  rw [State.lockShown, State.raise_clk]
  rfl

theorem State.setVco_within (band : BitVec 6) (vtune : BitVec 12) : Within s (s.setVco band vtune) [] (· = Reg.SYN_VCO) :=
  (s.setFld_within _ _ _ _).trans (State.setFld_within _ _ _ _ _)

theorem State.lockDividers_within : Within s (s.lockDividers k) [.clk] noRegs := .ite (.of_clk s _) (.refl ..)

theorem State.lockVco_within (band : BitVec 6) (vtune : BitVec 12) : Within s (s.lockVco k band vtune) [] (· = Reg.SYN_VCO) :=
  .ite (s.setVco_within band vtune) (.refl ..)

theorem State.lockVco_clk (band : BitVec 6) (vtune : BitVec 12) : ∃ d, ((s.lockDividers k).lockVco k band vtune).clk =
    { s.clk with dividersAligned := d } := by
  have hv : ((s.lockDividers k).lockVco k band vtune).clk = (s.lockDividers k).clk := (State.lockVco_within _ k band vtune).part_eq .clk
  rw [hv, State.lockDividers]
  split
  · exact ⟨_, rfl⟩
  · exact ⟨s.clk.dividersAligned, rfl⟩

variable {s}

/-- SYN_VCO shows the band and the tuning voltage (R117). -/
theorem State.fld_setVco (band : BitVec 6) (vtune : BitVec 12) (h : s.Canon) :
    (s.setVco band vtune).fld Reg.SYN_VCO 21 16 = band.toNat ∧ (s.setVco band vtune).fld Reg.SYN_VCO 11 0 = vtune.toNat := by
  have h1 : (s.setFld Reg.SYN_VCO 21 16 band.toNat).Canon := s.setFld_canon _ _ _ _ h
  constructor
  · rw [State.setVco, State.fld_setFld_apart h1 _ (by decide) (by decide) (by decide) (.inl (by decide)),
      State.fld_setFld_same h _ (by decide) (by decide)]
    exact Nat.mod_eq_of_lt band.isLt
  · rw [State.setVco, State.fld_setFld_same h1 _ (by decide) (by decide)]
    exact Nat.mod_eq_of_lt vtune.isLt

end

/-! #### RELOCK_ATTEMPT_TIMEOUT -/

section
variable (s : State) (k : Fin 4)

/-- A PLL that held its lock until its last attempt ran out is counted and recorded as unlocked (R112). -/
def State.countUnlock : State :=
  if s.clk.plls[k].locked then (s.bump (Reg.SYN_UNLOCK_CNT k)).raise 0x0801 [(1, k)] else s

/-- The sequence of attempts of PLL `k` ends without lock (R116). -/
def State.endSequence : State := (s.setLock k false).setPll k fun x => { x with attempt := none, exhausted := some s.now }

theorem exec_relockAttemptTimeout_next {p : Pll} {n : Nat} (ha : s.clk.plls[p.idx].attempt = some n)
    (ht : attemptTicks p.idx ≤ s.now - s.clk.plls[p.idx].attemptAt) (hn : n < 3) :
    exec (.relockAttemptTimeout p) s = .next (s.startAttempt p.idx (n + 1)) := by
  show execRelockAttemptTimeout p s = _
  unfold execRelockAttemptTimeout
  dsimp only
  rw [ha]
  exact congrArg Host.Outcome.next ((if_neg (by omega)).trans (if_pos hn))

theorem exec_relockAttemptTimeout_last {p : Pll} {n : Nat} (ha : s.clk.plls[p.idx].attempt = some n)
    (ht : attemptTicks p.idx ≤ s.now - s.clk.plls[p.idx].attemptAt) (hn : 3 ≤ n) :
    exec (.relockAttemptTimeout p) s = .next (((s.countUnlock p.idx).endSequence p.idx).raise 0x0803 [(1, p.idx)]) := by
  show execRelockAttemptTimeout p s = _
  unfold execRelockAttemptTimeout
  dsimp only
  have hrun : ¬ s.now - s.clk.plls[p.idx].attemptAt < attemptTicks p.idx := by omega
  have hlast : ¬ n < 3 := by omega
  rw [ha]
  exact congrArg Host.Outcome.next ((if_neg hrun).trans (if_neg hlast))

theorem State.countUnlock_within : Within s (s.countUnlock k) [.rcd] (fun a => a = Reg.SYN_UNLOCK_CNT k ∨ eventRegs 0x0801 a) :=
  .ite (((Within.refl ..).step (s.bump_within _) fun _ => .inl).step (State.raise_within _ _ _) fun _ => .inr) (.refl ..)

theorem State.length_queue_countUnlock_le : (s.countUnlock k).rcd.queue.length ≤ s.rcd.queue.length + 1 := by
  unfold State.countUnlock
  split
  · exact (s.bump _).length_queue_raiseEvent_le _
  · exact Nat.le_succ _

/-- Adding nothing to a counter leaves it. -/
theorem satAdd_zero (w : Word) : satAdd w.toNat 0 = w.toNat := if_pos (by have := w.isLt; omega)

theorem State.counted_countUnlock (h : s.Canon) :
    Counted s (s.countUnlock k) (Reg.SYN_UNLOCK_CNT k) (if s.clk.plls[k].locked then 1 else 0) := by
  unfold State.countUnlock
  split
  · exact (State.raise_within _ _ _).counted (s.bump_counted _ h) (unlockCnt_apart k).2.2.1
  · exact (satAdd_zero _).symm

theorem State.endSequence_within : Within s (s.endSequence k) [.clk] (· = Reg.SYN_LOCK_STAT) :=
  (s.setLock_within k false).part (State.setPll_within _ _ _)

theorem State.plls_endSequence : (s.endSequence k).clk.plls[k].attempt = none ∧ (s.endSequence k).clk.plls[k].exhausted = some s.now := by
  rw [State.endSequence, State.plls_setPll_same]
  exact ⟨rfl, rfl⟩

theorem State.bit_endSequence (h : s.Canon) : (s.endSequence k).bit Reg.SYN_LOCK_STAT k = false := by
  rw [State.endSequence, (State.setPll_within _ _ _).bit id]
  exact State.bit_setLock false h

end

/-! #### The commands -/

section
variable {s : State} {p : Pll}

/-- REFCLK_LOSS while REFCLK is present (R108, R114). -/
theorem exec_refclkLoss_spec (hs : s.Canon) (freq : Bool) (hl : s.clk.refLost = false) :
    ∃ t, exec (.refclkLoss freq) s = .next t ∧ t.clk.refLost = true ∧ t.bit Reg.SYN_LOCK_STAT 4 = true ∧
      Counted s t Reg.SYN_REF_LOSS_CNT 1 ∧ Raised s t 0x0802 [(1, if freq then 1 else 0)] ∧ t.clk.holdover = true ∧ t.clk.unlocked = true ∧
      Frame s t [.paths, .clk, .seq, .rcd, .kte] (fun a => a ∈ [Reg.KTE_TX_SKIP_CNT, Reg.SYN_LOCK_STAT, Reg.SYN_REF_LOSS_CNT, Reg.TIM_QUAL,
        Reg.TIM_QUAL_CHANGE_CNT] ∨ arr 16 Reg.SEQ_BLANK_CNT a ∨ eventRegs 0x0103 a ∨ eventRegs 0x0802 a) := by
  have hg := s.refGone_within freq
  have hh := (s.refGone freq).setHoldover_within true
  have hb := ((s.refGone freq).setHoldover true).blankForLock_within
  have hclk := ((s.refGone freq).setHoldover true).blankForLock_clk
  rw [State.lockLost, State.setHoldover_clk, State.refGone_clk] at hclk
  refine ⟨_, exec_refclkLoss s hl, by rw [hclk], ?_, ?_, ?_, by rw [hclk], by rw [hclk], ?_⟩
  · rw [hb.bit (by decide), State.setHoldover_lockStat _ _ (hg.canon hs) (by decide)]
    exact State.bit_refGone freq hs
  · exact hb.counted (hh.counted (State.counted_refGone freq hs) (by decide)) (by decide)
  · exact hb.raised (hh.raised (State.raised_refGone freq))
  · refine (((hg.and hh).and hb).mono fun a h => ?_).frame
    rcases h with (((rfl | rfl) | h) | rfl | rfl | rfl | h) | rfl | h
    all_goals simp only [List.mem_cons, true_or, or_true, *]

/-- REFCLK_RESTORE while REFCLK is lost (R108, R114). -/
theorem exec_refclkRestore_spec (hs : s.Canon) (hl : s.clk.refLost = true) :
    ∃ t, exec .refclkRestore s = .next t ∧ t.clk.refLost = false ∧ t.bit Reg.SYN_LOCK_STAT 4 = false ∧
      (∀ k : Fin 4, t.clk.plls[k].attempt = some 1 ∧ t.clk.plls[k].exhausted = none) ∧ Frame s t [.clk] (fun a => a = Reg.SYN_LOCK_STAT) := by
  have hw : Within s ({ s with clk := { s.clk with refLost := false } }.setBit Reg.SYN_LOCK_STAT 4 false) [.clk] (· = Reg.SYN_LOCK_STAT) :=
    ((Within.refl ..).part (.of_clk s _)).step (State.setBit_within _ _ _ _) fun _ h => h
  refine ⟨_, congrArg Host.Outcome.next (if_pos hl), ?_, ?_, fun k => ?_, (hw.part (State.startRelocks_within _)).frame⟩
  · rw [State.startRelocks_clk]
    rfl
  · rw [(State.startRelocks_within _).bit id]
    exact State.bit_setBit_same _ _ _ _ (by decide) hs
  · rw [State.plls_startRelocks]
    exact ⟨rfl, rfl⟩

/-- PLL_UNLOCK of a locked PLL (R112, R114). -/
theorem exec_pllUnlock_spec (hs : s.Canon) (hl : s.clk.plls[p.idx].locked = true) :
    ∃ t, exec (.pllUnlock p) s = .next t ∧ t.clk.plls[p.idx].locked = false ∧ t.bit Reg.SYN_LOCK_STAT p.idx = false ∧
      Counted s t (Reg.SYN_UNLOCK_CNT p.idx) 1 ∧ Raised s t 0x0801 [(1, p.idx)] ∧ t.clk.unlocked = true ∧
      (s.clk.refLost = false → t.clk.plls[p.idx].attempt = some 1) ∧ (p = .gpll ∨ p = .tpll → t.clk.holdover = true) ∧
      Frame s t [.paths, .clk, .seq, .rcd, .kte] (fun a => a ∈ [Reg.KTE_TX_SKIP_CNT, Reg.SYN_LOCK_STAT, Reg.TIM_QUAL,
        Reg.TIM_QUAL_CHANGE_CNT] ∨ arr 16 Reg.SEQ_BLANK_CNT a ∨ arr 4 Reg.SYN_UNLOCK_CNT a ∨ eventRegs 0x0103 a ∨ eventRegs 0x0801 a) := by
  have hu := s.unlockShown_within p.idx
  have hv := s.unlocked_within p
  have hb := (s.unlocked p).blankForLock_within
  have hclk := (s.unlocked p).blankForLock_clk
  obtain ⟨hlocked, hattempt, hholdover⟩ := s.plls_unlocked p
  refine ⟨_, exec_pllUnlock s p hl, ?_, ?_, ?_, ?_, ?_, ?_, ?_, ?_⟩
  · rw [hclk]; exact hlocked
  · rw [hb.bit (by clear * -; decide)]; exact s.bit_unlocked p hs
  · exact hb.counted (hv.counted (s.counted_unlockShown p.idx hs) (unlockCnt_apart p.idx).1) (unlockCnt_apart p.idx).2.1
  · exact hb.raised (hv.raised ((s.unlockCounts_within p.idx).raised_after (State.raise_raised _ _ _)))
  · rw [hclk]; rfl
  · rw [hclk]; exact hattempt
  · rw [hclk]; exact hholdover
  · refine (((hu.and hv).and hb).mono fun a h => ?_).frame
    rcases h with (((rfl | h) | h) | rfl | rfl | rfl | h) | rfl | h
    case inl.inl.inl.inr => exact .inr (.inr (.inl ⟨p.idx, p.idx.isLt, h⟩))
    all_goals simp only [List.mem_cons, true_or, or_true, *]

/-- PLL_LOCK in an attempt that has not run out (R113 to R115, R117). -/
theorem exec_pllLock_spec (hs : s.Canon) (band : BitVec 6) (vtune : BitVec 12) {n : Nat} (ha : s.clk.plls[p.idx].attempt = some n)
    (ht : s.now - s.clk.plls[p.idx].attemptAt ≤ attemptTicks p.idx) :
    ∃ t, exec (.pllLock p band vtune) s = .next t ∧ t.clk.plls[p.idx].locked = true ∧ t.clk.plls[p.idx].attempt = none ∧
      t.bit Reg.SYN_LOCK_STAT p.idx = true ∧ Raised s t 0x0804 [(1, p.idx), (1, n)] ∧
      (p = .lpll → t.fld Reg.SYN_VCO 21 16 = band.toNat ∧ t.fld Reg.SYN_VCO 11 0 = vtune.toNat) ∧
      ((∀ j : Fin 4, j ≠ p.idx → s.clk.plls[j].locked = true ∧ s.clk.plls[j].attempt = none) → s.clk.refLost = false →
        t.clk.unlocked = false) ∧
      Frame s t [.clk, .rcd] (fun a => a ∈ [Reg.SYN_LOCK_STAT, Reg.SYN_VCO, Reg.TIM_QUAL, Reg.TIM_QUAL_CHANGE_CNT] ∨ eventRegs 0x0103 a ∨
        eventRegs 0x0804 a) := by
  have hl := s.lockShown_within p.idx n
  have hd := (s.lockShown p.idx n).lockDividers_within p.idx
  have hv := ((s.lockShown p.idx n).lockDividers p.idx).lockVco_within p.idx band vtune
  have hr := (((s.lockShown p.idx n).lockDividers p.idx).lockVco p.idx band vtune).declareRelock_within
  have hc := hv.canon (hd.canon (hl.canon hs))
  obtain ⟨d, hclk⟩ := (s.lockShown p.idx n).lockVco_clk p.idx band vtune
  refine ⟨_, exec_pllLock s band vtune ha ht, ?_, ?_, ?_, ?_, fun hp => ?_, fun hall href => ?_, ?_⟩
  · rw [State.plls_declareRelock, hclk, State.plls_lockShown, if_pos rfl]
  · rw [State.plls_declareRelock, hclk, State.plls_lockShown, if_pos rfl]
  · rw [State.bit_declareRelock _ hc (by omega), hv.bit (by decide), hd.bit id]
    exact s.bit_lockShown p.idx n hs
  · exact hr.raised (hv.raised (hd.raised ((s.lockTaken_within p.idx).raised_after (State.raise_raised _ _ _))))
  · subst hp
    rw [hr.fld (by decide), hr.fld (by decide)]
    exact State.fld_setVco band vtune (hd.canon (hl.canon hs))
  · refine State.unlocked_declareRelock _ (State.allRelocked_of _ ?_ fun j => ?_)
    · rw [hclk, State.lockShown_refLost, href]
    · rw [hclk, State.plls_lockShown]
      by_cases hj : j = p.idx
      · rw [if_pos hj]
        exact ⟨rfl, rfl⟩
      · rw [if_neg hj]
        exact hall j hj
  · refine ((((hl.part hd).and hv).and hr).mono fun a h => ?_).frame
    rcases h with ((rfl | h) | rfl) | rfl | rfl | rfl | h
    all_goals simp only [List.mem_cons, true_or, or_true, *]

theorem exec_pllLock_idle (band : BitVec 6) (vtune : BitVec 12)
    (h : s.clk.plls[p.idx].attempt = none ∨ attemptTicks p.idx < s.now - s.clk.plls[p.idx].attemptAt) :
    exec (.pllLock p band vtune) s = .next s := by
  refine congrArg Host.Outcome.next ?_
  rcases h with h | h
  · rw [h]
  · split
    · rfl
    · exact if_pos h

/-- RELOCK_ATTEMPT_TIMEOUT when an attempt has run its length (R114, R116). -/
theorem exec_relockAttemptTimeout_spec (hs : s.Canon) {n : Nat} (ha : s.clk.plls[p.idx].attempt = some n)
    (ht : attemptTicks p.idx ≤ s.now - s.clk.plls[p.idx].attemptAt) :
    ∃ t, exec (.relockAttemptTimeout p) s = .next t ∧
      (n < 3 → t.clk.plls[p.idx].attempt = some (n + 1) ∧ t.clk.plls[p.idx].attemptAt = s.now) ∧
      (3 ≤ n → t.clk.plls[p.idx].attempt = none ∧ t.clk.plls[p.idx].exhausted = some s.now ∧ t.bit Reg.SYN_LOCK_STAT p.idx = false ∧
        Counted s t (Reg.SYN_UNLOCK_CNT p.idx) (if s.clk.plls[p.idx].locked then 1 else 0) ∧
        (s.rcd.queue.length < 63 → Raised s t 0x0803 [(1, p.idx)])) ∧
      Frame s t [.clk, .rcd] (fun a => a = Reg.SYN_LOCK_STAT ∨ arr 4 Reg.SYN_UNLOCK_CNT a ∨ eventRegs 0x0801 a ∨ eventRegs 0x0803 a) := by
  by_cases hn : n < 3
  · have hw : Within s (s.startAttempt p.idx (n + 1)) [.clk] noRegs := s.setPll_within p.idx _
    refine ⟨_, exec_relockAttemptTimeout_next s ha ht hn, fun _ => ?_, fun h => absurd hn (by omega), (hw.mono fun _ h => h.elim).frame⟩
    rw [State.startAttempt, State.plls_setPll_same]
    exact ⟨rfl, rfl⟩
  · have hu := s.countUnlock_within p.idx
    have he := (s.countUnlock p.idx).endSequence_within p.idx
    have hr := ((s.countUnlock p.idx).endSequence p.idx).raise_within 0x0803 [(1, p.idx)]
    have hnow : (s.countUnlock p.idx).now = s.now := hu.part_eq .now
    have hrcd : ((s.countUnlock p.idx).endSequence p.idx).rcd = (s.countUnlock p.idx).rcd := he.part_eq .rcd
    obtain ⟨hatt, hexh⟩ := (s.countUnlock p.idx).plls_endSequence p.idx
    refine ⟨_, exec_relockAttemptTimeout_last s ha ht (by omega), fun h => absurd h hn, fun _ => ⟨?_, ?_, ?_, ?_, fun hq _ => ?_⟩, ?_⟩
    · rw [State.raise_clk]; exact hatt
    · rw [State.raise_clk, hexh, hnow]
    · rw [hr.bit (by decide)]; exact State.bit_endSequence _ _ (hu.canon hs)
    · exact hr.counted (he.counted (s.counted_countUnlock p.idx hs) fun h => (unlockCnt_apart p.idx).1 (.inl h)) (unlockCnt_apart p.idx).2.2.2
    · have hle := s.length_queue_countUnlock_le p.idx
      exact State.raise_raised _ _ _ (by rw [hrcd]; omega)
    · refine (((hu.and he).and hr).mono fun a h => ?_).frame
      rcases h with ((h | h) | rfl) | h
      case inl.inl.inl => exact .inr (.inl ⟨p.idx, p.idx.isLt, h⟩)
      all_goals simp only [true_or, or_true, *]

theorem exec_relockAttemptTimeout_idle
    (h : s.clk.plls[p.idx].attempt = none ∨ s.now - s.clk.plls[p.idx].attemptAt < attemptTicks p.idx) :
    exec (.relockAttemptTimeout p) s = .next s := by
  refine congrArg Host.Outcome.next ?_
  rcases h with h | h
  · rw [h]
  · split
    · rfl
    · exact if_pos h

/-- RELOCK_SEQUENCE_RESTART 100 ms after the end of a sequence, not in BOOT (R113, R116). -/
theorem exec_relockSequenceRestart_spec {a : Nat} (he : s.clk.plls[p.idx].exhausted = some a) (hp : msPassed (s.now - a) 100 = true)
    (hm : s.mode ≠ .boot) : ∃ t, exec (.relockSequenceRestart p) s = .next t ∧ t.clk.plls[p.idx].attempt = some 1 ∧
      t.clk.plls[p.idx].exhausted = none ∧ Frame s t [.clk] noRegs := by
  refine ⟨s.startRelock p.idx, ?_, ?_, ?_, (s.startRelock_within p.idx).frame⟩
  · show execRelockSequenceRestart p s = _
    unfold execRelockSequenceRestart
    dsimp only
    rw [he]
    exact congrArg Host.Outcome.next (if_pos (by simp [hp, hm]))
  · rw [State.startRelock, State.startAttempt, State.plls_setPll_same]
  · rw [State.startRelock, State.startAttempt, State.plls_setPll_same]

theorem exec_relockSequenceRestart_idle
    (h : s.mode = .boot ∨ (s.clk.plls[p.idx].exhausted.all fun a => !msPassed (s.now - a) 100) = true) :
    exec (.relockSequenceRestart p) s = .next s := by
  refine congrArg Host.Outcome.next ?_
  split
  · rfl
  · next a he =>
    refine if_neg ?_
    rcases h with h | h
    · simp [h]
    · rw [he, Option.all_some, Bool.not_eq_true'] at h
      simp [h]

end

end

/-- Settles O1: each command is taken apart into what it shows, counts and records, what follows for holdover and the attempts, and the
blanking; every part names the registers that it changes (`Within`). -/
theorem clockLossAndRelock : Obligations.ClockLossAndRelock := by
  unfold Obligations.ClockLossAndRelock
  intro s hs
  exact ⟨fun freq hl => exec_refclkLoss_spec hs freq hl, fun freq hl => congrArg Host.Outcome.next (if_pos hl),
    fun hl => exec_refclkRestore_spec hs hl, fun hl => congrArg Host.Outcome.next (if_neg (by rw [hl]; decide)),
    fun p hl => exec_pllUnlock_spec hs hl, fun p hl => congrArg Host.Outcome.next (if_neg (by rw [hl]; decide)),
    fun p band vtune n ha ht => exec_pllLock_spec hs band vtune ha ht, fun p band vtune h => exec_pllLock_idle band vtune h,
    fun p n ha ht => exec_relockAttemptTimeout_spec hs ha ht, fun p h => exec_relockAttemptTimeout_idle h,
    fun p a he hp hm => exec_relockSequenceRestart_spec he hp hm, fun p h => exec_relockSequenceRestart_idle h⟩

end Sys2Proof.Machine

namespace Sys2Proof.Machine

section
set_option Elab.async false

/-! ### The clock tree and the eligible windows (R119 to R131) -/

theorem toBits_lt (w : Nat) (x : Int) : toBits w x < 2 ^ w := by
  have hpos : (0 : Int) < 2 ^ w := by positivity
  have hnn := Int.emod_nonneg x hpos.ne'
  have hlt := Int.emod_lt_of_pos x hpos
  rw [toBits, ← Int.ofNat_lt, Int.toNat_of_nonneg hnn]
  exact_mod_cast hlt

section
variable (s : State) (q : Fin 17)

theorem State.noteTrim_within : Within s (s.noteTrim q) [] (· = Reg.SYN_COH) := .ite (s.setBit_within _ _ _) (.refl ..)

/-- The arrival delay of leaf `q`, not yet shown. -/
def State.withArrival (a : Int) : State := { s with clk := { s.clk with arrival := s.clk.arrival.set q a } }

theorem State.withArrival_within (a : Int) : Within s (s.withArrival q a) [.clk] noRegs := .of_clk s _

theorem State.setArrival_eq (a : Int) : s.setArrival q a =
    (s.withArrival q a).setFld (Reg.SYN_LEAF q) 31 24 (toBits 8 (satInt (-128) 127 (roundDiv ((s.withArrival q a).leafDrift q) 2))) := rfl

theorem State.setArrival_within (a : Int) : Within s (s.setArrival q a) [.clk] (· = Reg.SYN_LEAF q) :=
  ((Within.refl ..).part (s.withArrival_within q a)).step (State.setFld_within _ _ _ _ _) fun _ h => h

theorem State.setArrival_clk (a : Int) : (s.setArrival q a).clk = { s.clk with arrival := s.clk.arrival.set q a } := rfl

/-- The drift in its field, in 0.1 ps (R120). -/
theorem State.fld_setArrival (a : Int) (h : s.Canon) : (s.setArrival q a).fld (Reg.SYN_LEAF q) 31 24 =
    toBits 8 (satInt (-128) 127 (roundDiv ((s.setArrival q a).leafDrift q) 2)) := by
  have hclk : (s.setArrival q a).leafDrift q = (s.withArrival q a).leafDrift q := by
    rw [State.leafDrift, State.leafDrift, State.setArrival_eq, State.setFld_clk]
  rw [hclk, State.setArrival_eq, State.fld_setFld_same ((s.withArrival_within q a).canon h) _ (by decide) (by decide)]
  exact Nat.mod_eq_of_lt (toBits_lt 8 _)

/-- A tracking step: what the leaf's registers show of it (R121). -/
theorem State.trackStep_within : Within s (s.trackStep q) [.clk] (fun a => a ∈ [Reg.SYN_COH, Reg.SYN_TRACK_CNT] ∨ arr 17 Reg.SYN_LEAF a) := by
  unfold State.trackStep
  refine .ite ?_ (.refl ..)
  have hleaf : ∀ a, a = Reg.SYN_LEAF q → a ∈ [Reg.SYN_COH, Reg.SYN_TRACK_CNT] ∨ arr 17 Reg.SYN_LEAF a := fun _ h => .inr ⟨q, q.isLt, h⟩
  exact (((((Within.refl ..).step (s.setFld_within _ _ _ _) hleaf).step (State.setArrival_within _ _ _) hleaf).step
    (State.bump_within _ _) fun _ h => .inl (by simp [h])).part (.of_clk _ _)).step (State.noteTrim_within _ q) fun _ h => .inl (by simp [h])

/-- Of the clocks a tracking step moves the leaves alone. -/
theorem State.trackStep_clk : ∃ v l, (s.trackStep q).clk = { s.clk with arrival := v, stepped := l } := by
  unfold State.trackStep
  extract_lets d t' u v
  split
  · have hu : u.clk = s.clk := State.setFld_clk ..
    have hv : v.clk = { u.clk with arrival := u.clk.arrival.set q (u.clk.arrival[q] + if 0 ≤ d then -10 else 10) } := State.bump_clk ..
    have hn := (State.noteTrim_within { v with clk := { v.clk with stepped := v.clk.stepped ++ [q.val] } } q).part_eq .clk
    clear_value u v
    exact ⟨_, _, Eq.trans hn (by rw [hv, hu])⟩
  · exact ⟨s.clk.arrival, s.clk.stepped, rfl⟩

theorem State.applyTrims_within : Within s s.applyTrims [.clk] noRegs := .ite (.of_clk s _) (.refl ..)

theorem State.applyTrims_clk : ∃ b r, s.applyTrims.clk = { s.clk with trimDue := false, trimBin := b, refTrims := r } := by
  unfold State.applyTrims
  split
  · exact ⟨_, _, rfl⟩
  · next h =>
    refine ⟨s.clk.trimBin, s.clk.refTrims, ?_⟩
    have ht : s.clk.trimDue = false := Bool.eq_false_iff.2 h
    rw [← ht]

/-- The registers of the items that run in an eligible window. -/
abbrev windowRegs (a : Nat) : Prop := a ∈ [Reg.SYN_COH, Reg.SYN_TRACK_CNT] ∨ arr 17 Reg.SYN_LEAF a

theorem State.windowRest_within : Within s s.windowRest [.clk] windowRegs :=
  ((Within.refl ..).part s.applyTrims_within).trans (.foldl State.trackStep_within _ _)

theorem State.trackSteps_clk (l : List (Fin 17)) :
    ∃ v k, (l.foldl (fun s q => s.trackStep q) s).clk = { s.clk with arrival := v, stepped := k } := by
  induction l generalizing s with
  | nil => exact ⟨s.clk.arrival, s.clk.stepped, rfl⟩
  | cons q l ih =>
    obtain ⟨v, k, h⟩ := s.trackStep_clk q
    obtain ⟨v', k', h'⟩ := ih (s.trackStep q)
    exact ⟨v', k', by rw [List.foldl_cons, h', h]⟩

/-- The items of a window leave the window and the re-centring alone, and no reference trim waits any more (R121, R129). -/
theorem State.windowRest_clk : s.windowRest.clk.trimDue = false ∧ s.windowRest.clk.windowEnd = s.clk.windowEnd ∧
    s.windowRest.clk.recentreReq = s.clk.recentreReq ∧ s.windowRest.clk.recentring = s.clk.recentring := by
  obtain ⟨b, r, ht⟩ := s.applyTrims_clk
  obtain ⟨v, k, hw⟩ := s.applyTrims.trackSteps_clk (List.finRange 17)
  rw [State.windowRest, hw, ht]
  exact ⟨rfl, rfl, rfl, rfl⟩

end

/-! #### The commands -/

section
variable {s : State}

/-- LEAF_MEASURE (R120). -/
theorem exec_leafMeasure_spec (hs : s.Canon) (q : Fin 17) (roundTrip : Nat) : ∃ t, exec (.leafMeasure q roundTrip) s = .next t ∧
    t.clk.arrival[q] = roundTrip ∧ t.fld (Reg.SYN_LEAF q) 31 24 = toBits 8 (satInt (-128) 127 (roundDiv (t.leafDrift q) 2)) ∧
    Frame s t [.clk] (fun a => a = Reg.SYN_LEAF q) := by
  refine ⟨s.setArrival q roundTrip, rfl, ?_, s.fld_setArrival q roundTrip hs, (s.setArrival_within q roundTrip).frame⟩
  rw [State.setArrival_clk]
  exact Vector.getElem_set_self _

/-- An eligible window of `len` ticks is open (R124). -/
def State.eligibleOpen (s : State) (len : Nat) : State := { s with clk := { s.clk with windowEnd := s.now + len, stepped := [] } }

/-- The re-centring that was requested runs (R127). -/
def State.startRecentre (s : State) : State := { s with clk := { s.clk with recentring := true, recentreReq := none } }

theorem State.eligibleOpen_within (s : State) (len : Nat) : Within s (s.eligibleOpen len) [.clk] windowRegs :=
  (Within.refl ..).part (.of_clk s _)

theorem State.startRecentre_within (s : State) : Within s s.startRecentre [.clk] noRegs := .of_clk s _

theorem exec_eligibleWindowStart_open {len : Nat} (hw : s.windowHere = some len) (hl : nsPassed len 16000 = true) :
    exec .eligibleWindowStart s = .next
      (if s.clk.recentreReq.isSome then (s.eligibleOpen len).startRecentre else (s.eligibleOpen len).windowRest) := by
  show execEligibleWindowStart s = _
  rw [execEligibleWindowStart, hw]
  exact congrArg Host.Outcome.next (if_neg (by rw [hl]; decide))

/-- ELIGIBLE_WINDOW_START where a window that is long enough begins (R124, R127, R131). -/
theorem exec_eligibleWindowStart_spec {len : Nat} (hw : s.windowHere = some len) (hl : nsPassed len 16000 = true) :
    ∃ t, exec .eligibleWindowStart s = .next t ∧ t.clk.windowEnd = s.now + len ∧ t.clk.recentreReq = none ∧
      t.clk.recentring = (s.clk.recentring || s.clk.recentreReq.isSome) ∧ (s.clk.recentreReq = none → t.clk.trimDue = false) ∧
      Frame s t [.clk] windowRegs := by
  have hopen := s.eligibleOpen_within len
  refine ⟨_, exec_eligibleWindowStart_open hw hl, ?_⟩
  cases hr : s.clk.recentreReq with
  | some a =>
    rw [if_pos (by rfl)]
    exact ⟨rfl, rfl, (Bool.or_true _).symm, fun h => by simp at h, (hopen.part (State.startRecentre_within _)).frame⟩
  | none =>
    rw [if_neg (by simp)]
    obtain ⟨htrim, hend, hreq, hrec⟩ := (s.eligibleOpen len).windowRest_clk
    exact ⟨hend, hreq.trans hr, hrec.trans (Bool.or_false _).symm, fun _ => htrim, (hopen.trans (State.windowRest_within _)).frame⟩

theorem exec_eligibleWindowStart_idle (h : (s.windowHere.all fun len => !nsPassed len 16000) = true) :
    exec .eligibleWindowStart s = .next s := by
  refine congrArg Host.Outcome.next ?_
  cases hw : s.windowHere with
  | none => rfl
  | some len =>
    rw [hw, Option.all_some] at h
    exact if_pos h

/-- A re-centring that has locked (R127). -/
def State.recentreDone (s : State) : State := { s with clk := { s.clk with recentring := false } }

/-- A re-centring that has locked, shown and counted, with the next calibration step begun (R127, R131). -/
def State.recentred (s : State) (band : BitVec 6) (vtune : BitVec 12) : State :=
  ((s.recentreDone.setVco band vtune).bump Reg.SYN_RECENTRE_CNT).nextStep

theorem State.recentreDone_within (s : State) : Within s s.recentreDone [.clk] noRegs := .of_clk s _

theorem State.nextStep_within (s : State) : Within s s.nextStep [.seq] noRegs := .of_seq s _

theorem State.recentred_shows (s : State) (band : BitVec 6) (vtune : BitVec 12) :
    Within s.recentreDone (s.recentred band vtune) [.seq] (fun a => a = Reg.SYN_VCO ∨ a = Reg.SYN_RECENTRE_CNT) :=
  (((Within.refl ..).step (State.setVco_within _ band vtune) fun _ => .inl).step (State.bump_within _ _) fun _ => .inr).part
    (State.nextStep_within _)

theorem exec_recentreComplete (band : BitVec 6) (vtune : BitVec 12) (hr : s.clk.recentring = true) : exec (.recentreComplete band vtune) s =
    .next (if (s.recentred band vtune).now ≤ (s.recentred band vtune).clk.windowEnd then (s.recentred band vtune).windowRest
      else s.recentred band vtune) := congrArg Host.Outcome.next (if_pos hr)

/-- RECENTRE_COMPLETE of a re-centring that runs (R127, R130, R131). -/
theorem exec_recentreComplete_spec (hs : s.Canon) (band : BitVec 6) (vtune : BitVec 12) (hr : s.clk.recentring = true) :
    ∃ t, exec (.recentreComplete band vtune) s = .next t ∧ t.clk.recentring = false ∧ t.fld Reg.SYN_VCO 21 16 = band.toNat ∧
      t.fld Reg.SYN_VCO 11 0 = vtune.toNat ∧ Counted s t Reg.SYN_RECENTRE_CNT 1 ∧
      Frame s t [.clk, .seq] (fun a => a ∈ [Reg.SYN_COH, Reg.SYN_RECENTRE_CNT, Reg.SYN_TRACK_CNT, Reg.SYN_VCO] ∨ arr 17 Reg.SYN_LEAF a) := by
  have hd := s.recentreDone_within
  have hc := hd.canon hs
  have hv := s.recentreDone.setVco_within band vtune
  have hb := (s.recentreDone.setVco band vtune).bump_within Reg.SYN_RECENTRE_CNT
  have hn := ((s.recentreDone.setVco band vtune).bump Reg.SYN_RECENTRE_CNT).nextStep_within
  have hu := s.recentred_shows band vtune
  have hclk : (s.recentred band vtune).clk = s.recentreDone.clk := hu.part_eq .clk
  have hrest : Within (s.recentred band vtune) (if (s.recentred band vtune).now ≤ (s.recentred band vtune).clk.windowEnd then
      (s.recentred band vtune).windowRest else s.recentred band vtune) [.clk] windowRegs := .ite (State.windowRest_within _) (.refl ..)
  have hrec : (if (s.recentred band vtune).now ≤ (s.recentred band vtune).clk.windowEnd then (s.recentred band vtune).windowRest
      else s.recentred band vtune).clk.recentring = false := by
    split
    · obtain ⟨-, -, -, h⟩ := (s.recentred band vtune).windowRest_clk
      rw [h, hclk]
      rfl
    · rw [hclk]
      rfl
  obtain ⟨hband, hvt⟩ := State.fld_setVco band vtune hc
  have hcount : Counted s (s.recentred band vtune) Reg.SYN_RECENTRE_CNT 1 :=
    hn.counted ((hd.and hv).counted_after (State.bump_counted _ _ (hv.canon hc)) (by decide)) id
  refine ⟨_, exec_recentreComplete band vtune hr, hrec, ?_, ?_, hrest.counted hcount (by decide), ?_⟩
  · rw [hrest.fld (by decide), State.recentred, hn.fld id, hb.fld (by decide), hband]
  · rw [hrest.fld (by decide), State.recentred, hn.fld id, hb.fld (by decide), hvt]
  · refine (((hd.and hu).and hrest).mono fun a h => ?_).frame
    rcases h with (h | rfl | rfl) | h | h
    · exact h.elim
    · simp only [List.mem_cons, true_or, or_true]
    · simp only [List.mem_cons, true_or, or_true]
    · simp only [List.mem_cons, List.not_mem_nil, or_false] at h
      rcases h with rfl | rfl
      all_goals simp only [List.mem_cons, true_or, or_true]
    · exact .inr h

/-- A re-centring that waits longer than 20 ms is noted as late (R128). -/
def State.noteLate (s : State) : State := { s with clk := { s.clk with recentreLate := true } }

theorem State.noteLate_within (s : State) : Within s s.noteLate [.clk] noRegs := .of_clk s _

theorem exec_recentreLate {a : Nat} (hr : s.clk.recentreReq = some a) (ha : 20 * 983040 < s.now - a) (hl : s.clk.recentreLate = false) :
    exec .recentreLate s = .next ((s.noteLate.bump Reg.SYN_RECENTRE_LATE_CNT).raise 0x0805 [(1, s.fld Reg.SYN_VCO 30 24)]) := by
  show execRecentreLate s = _
  rw [execRecentreLate, hr]
  exact congrArg Host.Outcome.next (if_pos (by rw [hl, decide_eq_true ha]; rfl))

/-- RECENTRE_LATE of a re-centring that has waited more than 20 ms (R128). -/
theorem exec_recentreLate_spec (hs : s.Canon) {a : Nat} (hr : s.clk.recentreReq = some a) (ha : 20 * 983040 < s.now - a)
    (hl : s.clk.recentreLate = false) : ∃ t, exec .recentreLate s = .next t ∧ t.clk.recentreLate = true ∧ t.clk.recentreReq = some a ∧
      Counted s t Reg.SYN_RECENTRE_LATE_CNT 1 ∧ Raised s t 0x0805 [(1, s.fld Reg.SYN_VCO 30 24)] ∧
      Frame s t [.clk, .rcd] (fun a => a = Reg.SYN_RECENTRE_LATE_CNT ∨ eventRegs 0x0805 a) := by
  have hn := s.noteLate_within
  have hb := s.noteLate.bump_within Reg.SYN_RECENTRE_LATE_CNT
  have hr' := (s.noteLate.bump Reg.SYN_RECENTRE_LATE_CNT).raise_within 0x0805 [(1, s.fld Reg.SYN_VCO 30 24)]
  refine ⟨_, exec_recentreLate hr ha hl, ?_, ?_, ?_, ?_, ?_⟩
  · rw [State.raise_clk]; rfl
  · rw [State.raise_clk]; exact hr
  · exact hr'.counted (hn.counted_after (s.noteLate.bump_counted _ (hn.canon hs)) id) (by decide)
  · exact (hn.and hb).raised_after (State.raise_raised _ _ _)
  · refine (((hn.and hb).and hr').mono fun a h => ?_).frame
    rcases h with (h | h) | h
    · exact h.elim
    · exact .inl h
    · exact .inr h

theorem exec_recentreLate_idle (h : s.clk.recentreLate = true ∨ s.clk.recentreReq = none) : exec .recentreLate s = .next s := by
  refine congrArg Host.Outcome.next ?_
  split
  · rfl
  · next a ha =>
    have hl : s.clk.recentreLate = true := h.resolve_right (by rw [ha]; simp)
    exact if_neg (by rw [hl]; simp)

theorem State.requestRecentre_within (s : State) : Within s s.requestRecentre [.clk] noRegs := .ite (.refl ..) (.of_clk s _)

theorem State.recentreReq_requestRecentre (s : State) : s.requestRecentre.clk.recentreReq.isSome = true := by
  unfold State.requestRecentre
  split
  · assumption
  · rfl

/-- TUNING_VOLTAGE_OUT_OF_RANGE (R127). -/
theorem exec_tuningVoltageOutOfRange_spec (hs : s.Canon) (mv : BitVec 12) : ∃ t, exec (.tuningVoltageOutOfRange mv) s = .next t ∧
    t.fld Reg.SYN_VCO 11 0 = mv.toNat ∧
    (mv.toNat < s.fld Reg.SYN_RECENTRE 11 0 ∨ s.fld Reg.SYN_RECENTRE 27 16 < mv.toNat → t.clk.recentreReq.isSome = true) ∧
    (s.fld Reg.SYN_RECENTRE 11 0 ≤ mv.toNat ∧ mv.toNat ≤ s.fld Reg.SYN_RECENTRE 27 16 → t.clk = s.clk) ∧
    Frame s t [.clk] (fun a => a = Reg.SYN_VCO) := by
  have hv := s.setFld_within Reg.SYN_VCO 11 0 mv.toNat
  have hlo : (s.setFld Reg.SYN_VCO 11 0 mv.toNat).fld Reg.SYN_RECENTRE 11 0 = s.fld Reg.SYN_RECENTRE 11 0 := hv.fld (by decide) _ _
  have hhi : (s.setFld Reg.SYN_VCO 11 0 mv.toNat).fld Reg.SYN_RECENTRE 27 16 = s.fld Reg.SYN_RECENTRE 27 16 := hv.fld (by decide) _ _
  have hfld : (s.setFld Reg.SYN_VCO 11 0 mv.toNat).fld Reg.SYN_VCO 11 0 = mv.toNat :=
    (State.fld_setFld_same hs _ (by decide) (by decide)).trans (Nat.mod_eq_of_lt mv.isLt)
  have hreq := (s.setFld Reg.SYN_VCO 11 0 mv.toNat).requestRecentre_within
  refine ⟨_, rfl, ?_⟩
  rw [hlo, hhi]
  by_cases hout : mv.toNat < s.fld Reg.SYN_RECENTRE 11 0 ∨ s.fld Reg.SYN_RECENTRE 27 16 < mv.toNat
  · rw [if_pos (by simpa using hout)]
    exact ⟨(hreq.fld id 11 0).trans hfld, fun _ => State.recentreReq_requestRecentre _, fun h => by omega,
      ((hv.mono fun _ h => h).part hreq).frame⟩
  · rw [if_neg (by simpa using hout)]
    exact ⟨hfld, fun h => absurd h hout, fun _ => rfl, (hv.mono fun _ h => h).frame⟩

end

end

/-- Settles O2: the items of a window move the leaves alone (`State.trackStep_clk`), so that the window and the re-centring stand as the
commands leave them. -/
theorem clockTreeTrackingAndRecentring : Obligations.ClockTreeTrackingAndRecentring := by
  unfold Obligations.ClockTreeTrackingAndRecentring
  intro s hs
  exact ⟨exec_leafMeasure_spec hs, fun len hw hl => exec_eligibleWindowStart_spec hw hl, exec_eligibleWindowStart_idle,
    exec_recentreComplete_spec hs, fun band vtune hr => congrArg Host.Outcome.next (if_neg (by rw [hr]; decide)),
    fun a hr ha hl => exec_recentreLate_spec hs hr ha hl, exec_recentreLate_idle, exec_tuningVoltageOutOfRange_spec hs⟩

end Sys2Proof.Machine

namespace Sys2Proof.Machine

/-! ### A carrier offset written after a refused one: O3 -/

/-- Carrier 0 is enabled, and an offset beyond ±200 MHz is due for it: the frame boundary refuses it (R141, R143), which sets refused in
DFE_CAR_OFS (`State.applyOffsets`). -/
def offsetRefused : State :=
  State.applyOffsets
    { State.reset with
      kpr := { State.reset.kpr with writesOpen := true }
      dfe := { State.reset.dfe with enabled := 1, request := State.reset.dfe.request.set 0 (some { code := 40001, notBefore := 0 }) } }

/-- Refutes O3: the statement has OFFSET_WRITE leave refused clear, while a write only requests an offset. Its boundary accepts or refuses it,
and refused is cleared by the next accepted request (R143, DFE_CAR_OFS). From `offsetRefused` a write leaves the refused of the request before
it standing. -/
theorem not_loRetuneAndCarrierOffsets : ¬ Obligations.LoRetuneAndCarrierOffsets := by
  unfold Obligations.LoRetuneAndCarrierOffsets
  intro h
  obtain ⟨-, -, hwrite, -⟩ := h offsetRefused (by decide +kernel)
  obtain ⟨t, ht, -, -, hrefused, -⟩ := hwrite 0 0 (by decide +kernel)
  obtain rfl := Host.Outcome.next.inj ht
  exact absurd hrefused (by decide +kernel)

end Sys2Proof.Machine

namespace Sys2Proof.Machine

section
set_option Elab.async false

/-! ### The originated Delay_Req (R449) -/

section
variable (s : State)

theorem State.enqueue_within (u : Fin 2) (p : Parcel) : Within s (s.enqueue u p) [.pkt] noRegs := by
  unfold State.enqueue
  split
  · exact .of_pkt s _
  · exact .refl ..

/-- The end and the sequence number of a Delay_Req in their fields (R449). -/
def State.dreqWritten (w : Word) : State := (s.setFld Reg.TIM_DREQ_CTL 24 24 (fldOf w 24 24)).setFld Reg.TIM_DREQ_CTL 15 0 (fldOf w 15 0)

/-- Whether a Delay_Req with go has been sent, and whether it was refused (R449). -/
def State.dreqShown (w : Word) (sent : Bool) : State := ((s.dreqWritten w).setBit Reg.TIM_DREQ_CTL 31 sent).setBit Reg.TIM_DREQ_CTL 30 !sent

theorem State.dreqWritten_within (w : Word) : Within s (s.dreqWritten w) [] (· = Reg.TIM_DREQ_CTL) :=
  (s.setFld_within _ _ _ _).trans (State.setFld_within _ _ _ _ _)

theorem State.dreqShown_within (w : Word) (sent : Bool) : Within s (s.dreqShown w sent) [] (· = Reg.TIM_DREQ_CTL) :=
  ((s.dreqWritten_within w).trans (State.setBit_within _ _ _ _)).trans (State.setBit_within _ _ _ _)

/-- TIM_DREQ_CTL is in no part of the route and of the state of a port. -/
theorem State.route_dreqWritten (w : Word) (dest : Nat) : (s.dreqWritten w).routeTo dest = s.routeTo dest ∧
    ∀ u : Fin 2, (s.dreqWritten w).portUp u = s.portUp u := by
  have hw := s.dreqWritten_within w
  have hup : ∀ u : Fin 2, (s.dreqWritten w).portUp u = s.portUp u := fun u => by
    rw [State.portUp, State.portUp, State.portState, State.portState, hw.fld (by revert u; decide)]
  have hpos : (s.dreqWritten w).position = s.position := hw.fld (by decide) _ _
  exact ⟨by simp only [State.routeTo, hpos, hup, hw.bit (show ¬ Reg.PKT_CASCADE = Reg.TIM_DREQ_CTL by decide)], hup⟩

variable {s}

theorem State.bit_dreqShown (w : Word) (sent : Bool) (h : s.Canon) :
    (s.dreqShown w sent).bit Reg.TIM_DREQ_CTL 31 = sent ∧ (s.dreqShown w sent).bit Reg.TIM_DREQ_CTL 30 = !sent := by
  have hw := (s.dreqWritten_within w).canon h
  have hb := (State.setBit_within _ Reg.TIM_DREQ_CTL 31 sent).canon hw
  refine ⟨?_, State.bit_setBit_same _ _ _ _ (by decide) hb⟩
  rw [State.dreqShown, State.bit_setBit_apart hb _ _ (by decide) (by decide)]
  exact State.bit_setBit_same _ _ _ _ (by decide) hw

/-- What a write of TIM_DREQ_CTL answers: without go it is kept; with go it is sent on a port that is up, and refused on another (R449). -/
theorem exec_delayReqSend (w : Word) (h : s.writable = true) : ∃ p, exec (.delayReqSend w) s = .next
    (if fldOf w 31 31 = 1 then
      if s.portUp (s.routeTo (5 + fldOf w 24 24)) then (s.dreqShown w true).enqueue (s.routeTo (5 + fldOf w 24 24)) p else s.dreqShown w false
    else s.dreqWritten w) := by
  obtain ⟨hroute, hup⟩ := s.route_dreqWritten w (5 + fldOf w 24 24)
  rw [← hup, ← hroute]
  exact ⟨_, congrArg Host.Outcome.next (if_pos h)⟩

/-- DELAY_REQ_SEND (R449). -/
theorem exec_delayReqSend_spec (hs : s.Canon) (w : Word) (hw : s.writable = true) : ∃ t, exec (.delayReqSend w) s = .next t ∧
    (fldOf w 31 31 = 1 → s.portUp (s.routeTo (5 + fldOf w 24 24)) = true →
      t.bit Reg.TIM_DREQ_CTL 31 = true ∧ t.bit Reg.TIM_DREQ_CTL 30 = false) ∧
    (fldOf w 31 31 = 1 → s.portUp (s.routeTo (5 + fldOf w 24 24)) = false →
      t.bit Reg.TIM_DREQ_CTL 31 = false ∧ t.bit Reg.TIM_DREQ_CTL 30 = true ∧ t.pkt = s.pkt) ∧
    (fldOf w 31 31 = 0 → t.pkt = s.pkt) ∧ Frame s t [.pkt] (fun a => a = Reg.TIM_DREQ_CTL) := by
  obtain ⟨p, hexec⟩ := exec_delayReqSend w hw
  refine ⟨_, hexec, ?_⟩
  by_cases hgo : fldOf w 31 31 = 1
  · rw [if_pos hgo]
    cases hup : s.portUp (s.routeTo (5 + fldOf w 24 24)) with
    | true =>
      rw [if_pos rfl]
      have hq := (s.dreqShown w true).enqueue_within (s.routeTo (5 + fldOf w 24 24)) p
      obtain ⟨h31, h30⟩ := State.bit_dreqShown w true hs
      exact ⟨fun _ _ => ⟨(hq.bit id 31).trans h31, (hq.bit id 30).trans h30⟩, fun _ h => Bool.noConfusion h, fun h => by omega,
        (((s.dreqShown_within w true).mono fun _ h => h).part hq).frame⟩
    | false =>
      rw [if_neg Bool.false_ne_true]
      have hsh := s.dreqShown_within w false
      obtain ⟨h31, h30⟩ := State.bit_dreqShown w false hs
      exact ⟨fun _ h => Bool.noConfusion h, fun _ _ => ⟨h31, h30, hsh.part_eq .pkt⟩, fun h => by omega, (hsh.mono fun _ h => h).frame⟩
  · rw [if_neg hgo]
    have hsh := s.dreqWritten_within w
    exact ⟨fun h => absurd h hgo, fun h => absurd h hgo, fun _ => hsh.part_eq .pkt, (hsh.mono fun _ h => h).frame⟩

end

/-! ### The air epoch: arms (R123, R450, R452) -/

/-- The registers of an arm that is accepted or refused. -/
abbrev armRegs (a : Nat) : Prop := a ∈ [Reg.SYN_ALIGN, Reg.TIM_ALIGN_REFUSE_CNT, Reg.TIM_EPOCH_CTRL] ∨ eventRegs 0x0104 a

section
variable (s : State)

theorem State.alignRefused_within (d : Nat) :
    Within s (s.alignRefused d) [.rcd] (fun a => a = Reg.TIM_ALIGN_REFUSE_CNT ∨ eventRegs 0x0104 a) :=
  ((Within.refl ..).step (s.bump_within _) fun _ => .inl).step (State.raiseEffect_within _ _ _) fun _ => .inr

theorem State.counted_alignRefused (d : Nat) (h : s.Canon) : Counted s (s.alignRefused d) Reg.TIM_ALIGN_REFUSE_CNT 1 :=
  (State.raiseEffect_within _ _ _).counted (s.bump_counted _ h) (by decide)

/-- The registers of an epoch compare that is armed: it stands accepted, and an ALIGN_IN capture gives way (R450). -/
def State.epochShown : State :=
  ((s.setBit Reg.TIM_EPOCH_CTRL 31 true).setBit Reg.TIM_EPOCH_CTRL 30 false).setBit Reg.SYN_ALIGN 0 false

/-- The epoch of TIM_EPOCH_NS latched, `d` ahead of the counter (R450). -/
def State.epochLatched (d : Nat) : State :=
  { s.epochShown with tim := { s.epochShown.tim with
      epochNs := s.fld Reg.TIM_EPOCH_NS 31 0, epochSfn := s.epochShown.fld Reg.TIM_EPOCH_SFN 9 0, epochD := d, fired := false } }

/-- The distance of the epoch from the counter (R450). -/
def State.epochAhead : Nat := (s.fld Reg.TIM_EPOCH_NS 31 0 + 2 ^ 32 - s.ns) % 2 ^ 32

theorem exec_epochArm (h : s.writable = true) : exec .epochArm s = .next (if s.mode = .ready ∧ s.epochAhead ≤ 2000000000 then
    s.epochLatched s.epochAhead else (s.setBit Reg.TIM_EPOCH_CTRL 30 true).alignRefused s.epochAhead) :=
  congrArg Host.Outcome.next (if_pos h)

theorem State.epochShown_within : Within s s.epochShown [] (fun a => a = Reg.TIM_EPOCH_CTRL ∨ a = Reg.SYN_ALIGN) :=
  (((Within.refl ..).step (s.setBit_within _ _ _) fun _ => .inl).step (State.setBit_within _ _ _ _) fun _ => .inl).step
    (State.setBit_within _ _ _ _) fun _ => .inr

theorem State.epochLatched_tim (d : Nat) : (s.epochLatched d).tim =
    { s.tim with epochNs := s.fld Reg.TIM_EPOCH_NS 31 0, epochSfn := s.fld Reg.TIM_EPOCH_SFN 9 0, epochD := d, fired := false } := by
  have ht : s.epochShown.tim = s.tim := s.epochShown_within.part_eq .tim
  rw [State.epochLatched, ht, s.epochShown_within.fld (by decide)]

variable {s}

theorem State.bit_epochShown (h : s.Canon) : s.epochShown.bit Reg.TIM_EPOCH_CTRL 31 = true ∧ s.epochShown.bit Reg.TIM_EPOCH_CTRL 30 = false ∧
    s.epochShown.bit Reg.SYN_ALIGN 0 = false := by
  have h1 := s.setBit_canon Reg.TIM_EPOCH_CTRL 31 true h
  have h2 := State.setBit_canon _ Reg.TIM_EPOCH_CTRL 30 false h1
  refine ⟨?_, ?_, State.bit_setBit_same _ _ _ _ (by decide) h2⟩
  · rw [State.epochShown, (State.setBit_within _ _ _ _).bit (by decide), State.bit_setBit_apart h1 _ _ (by decide) (by decide)]
    exact State.bit_setBit_same _ _ _ _ (by decide) h
  · rw [State.epochShown, (State.setBit_within _ _ _ _).bit (by decide)]
    exact State.bit_setBit_same _ _ _ _ (by decide) h1

/-- EPOCH_ARM (R450). That an arm accepted before stands when a later one is refused is the model's reading (assumption 80 of SPEC.md). -/
theorem exec_epochArm_spec (hs : s.Canon) (hw : s.writable = true) : ∃ t, exec .epochArm s = .next t ∧
    (s.mode = .ready → s.epochAhead ≤ 2000000000 →
      t.bit Reg.TIM_EPOCH_CTRL 31 = true ∧ t.bit Reg.TIM_EPOCH_CTRL 30 = false ∧ t.bit Reg.SYN_ALIGN 0 = false ∧
      t.tim.epochNs = s.fld Reg.TIM_EPOCH_NS 31 0 ∧ t.tim.epochSfn = s.fld Reg.TIM_EPOCH_SFN 9 0 ∧ t.tim.fired = false) ∧
    (s.mode ≠ .ready ∨ 2000000000 < s.epochAhead →
      t.bit Reg.TIM_EPOCH_CTRL 31 = s.bit Reg.TIM_EPOCH_CTRL 31 ∧ t.bit Reg.TIM_EPOCH_CTRL 30 = true ∧ t.tim = s.tim ∧
      Counted s t Reg.TIM_ALIGN_REFUSE_CNT 1) ∧ Frame s t [.rcd, .tim] armRegs := by
  refine ⟨_, exec_epochArm s hw, ?_⟩
  by_cases hok : s.mode = .ready ∧ s.epochAhead ≤ 2000000000
  · rw [if_pos hok]
    have hsh := s.epochShown_within
    have hpart : Within s.epochShown (s.epochLatched s.epochAhead) [.tim] noRegs := .of_tim s.epochShown _
    obtain ⟨h31, h30, h0⟩ := State.bit_epochShown hs
    rw [State.epochLatched_tim]
    refine ⟨fun _ _ => ⟨(hpart.bit id _).trans h31, (hpart.bit id _).trans h30, (hpart.bit id _).trans h0, rfl, rfl, rfl⟩,
      fun h => ?_, ?_⟩
    · obtain ⟨hm, hd⟩ := hok
      exact absurd hm (h.resolve_right (by omega))
    · refine ((hsh.and hpart).mono fun a h => ?_).frame
      rcases h with (rfl | rfl) | h
      · simp only [armRegs, List.mem_cons, true_or, or_true]
      · simp only [armRegs, List.mem_cons, true_or]
      · exact h.elim
  · rw [if_neg hok]
    have hb := s.setBit_within Reg.TIM_EPOCH_CTRL 30 true
    have hr := (s.setBit Reg.TIM_EPOCH_CTRL 30 true).alignRefused_within s.epochAhead
    refine ⟨fun hm hd => absurd ⟨hm, hd⟩ hok, fun _ => ⟨?_, ?_, (hb.and hr).part_eq .tim, ?_⟩, ?_⟩
    · rw [hr.bit (by decide), State.bit_setBit_apart hs _ _ (by decide) (by decide)]
    · rw [hr.bit (by decide)]
      exact State.bit_setBit_same _ _ _ _ (by decide) hs
    · exact hb.counted_after (State.counted_alignRefused _ _ (hb.canon hs)) (by decide)
    · refine ((hb.and hr).mono fun a h => ?_).frame
      rcases h with rfl | rfl | h
      · simp only [armRegs, List.mem_cons, true_or, or_true]
      · simp only [armRegs, List.mem_cons, true_or, or_true]
      · exact .inr h

/-- EPOCH_COMPARE_FIRE once the counter has reached the epoch (R450). -/
theorem exec_epochCompareFire_spec (hs : s.Canon) (ha : s.bit Reg.TIM_EPOCH_CTRL 31 = true)
    (hd : (s.ns + 2 ^ 32 - s.tim.epochNs) % 2 ^ 32 < 2 ^ 31) : ∃ t, exec .epochCompareFire s = .next t ∧
      t.bit Reg.TIM_EPOCH_CTRL 31 = false ∧ t.tim = { s.tim with fired := true, firedAt := s.now } ∧
      Frame s t [.tim] (fun a => a = Reg.TIM_EPOCH_CTRL) := by
  have hb := s.setBit_within Reg.TIM_EPOCH_CTRL 31 false
  have hpart := Within.of_tim (s.setBit Reg.TIM_EPOCH_CTRL 31 false) { s.tim with fired := true, firedAt := s.now }
  refine ⟨_, congrArg Host.Outcome.next (if_pos (by rw [ha, decide_eq_true hd]; rfl)), ?_, rfl, ((hb.mono fun _ h => h).part hpart).frame⟩
  exact (hpart.bit id 31).trans (State.bit_setBit_same _ _ _ _ (by decide) hs)

theorem exec_epochCompareFire_idle
    (h : s.bit Reg.TIM_EPOCH_CTRL 31 = false ∨ 2 ^ 31 ≤ (s.ns + 2 ^ 32 - s.tim.epochNs) % 2 ^ 32) :
    exec .epochCompareFire s = .next s := by
  refine congrArg Host.Outcome.next (if_neg ?_)
  rw [Bool.and_eq_true, decide_eq_true_eq]
  rintro ⟨ha, hd⟩
  rcases h with h | h
  · exact absurd (ha.symm.trans h) (by decide)
  · omega

/-! #### SYN_ALIGN_ARM -/

/-- The registers of an ALIGN_IN capture that is armed: an epoch compare gives way (R451). -/
def State.captureShown (s : State) : State := (s.setBit Reg.SYN_ALIGN 0 true).setBit Reg.TIM_EPOCH_CTRL 31 false

/-- The frame number of the arm latched (R123). -/
def State.captureArmed (s : State) : State :=
  { s.captureShown with tim := { s.captureShown.tim with
      alignSfn := s.captureShown.fld Reg.TIM_EPOCH_SFN 9 0, armAt := s.captureShown.now, fired := false } }

theorem exec_synAlignArm (h : s.writable = true) :
    exec .synAlignArm s = .next (if s.mode = .ready then s.captureArmed else s.alignRefused 0) :=
  congrArg Host.Outcome.next (if_pos h)

theorem State.captureShown_within (s : State) : Within s s.captureShown [] (fun a => a = Reg.SYN_ALIGN ∨ a = Reg.TIM_EPOCH_CTRL) :=
  ((Within.refl ..).step (s.setBit_within _ _ _) fun _ => .inl).step (State.setBit_within _ _ _ _) fun _ => .inr

theorem State.captureArmed_tim (s : State) : s.captureArmed.tim =
    { s.tim with alignSfn := s.fld Reg.TIM_EPOCH_SFN 9 0, armAt := s.now, fired := false } := by
  have hsh := s.captureShown_within
  have ht : s.captureShown.tim = s.tim := hsh.part_eq .tim
  have hn : s.captureShown.now = s.now := hsh.part_eq .now
  rw [State.captureArmed, ht, hn, hsh.fld (by decide)]

/-- SYN_ALIGN_ARM (R123, R452). -/
theorem exec_synAlignArm_spec (hs : s.Canon) (hw : s.writable = true) : ∃ t, exec .synAlignArm s = .next t ∧
    (s.mode = .ready → t.tim.armAt = s.now ∧ t.bit Reg.SYN_ALIGN 0 = true ∧ t.bit Reg.TIM_EPOCH_CTRL 31 = false ∧
      t.tim.alignSfn = s.fld Reg.TIM_EPOCH_SFN 9 0 ∧ t.tim.fired = false) ∧
    (s.mode ≠ .ready → t.tim = s.tim ∧ Counted s t Reg.TIM_ALIGN_REFUSE_CNT 1) ∧ Frame s t [.rcd, .tim] armRegs := by
  refine ⟨_, exec_synAlignArm hw, ?_⟩
  by_cases hm : s.mode = .ready
  · rw [if_pos hm]
    have hsh := s.captureShown_within
    have hpart : Within s.captureShown s.captureArmed [.tim] noRegs := .of_tim s.captureShown _
    have hc := s.setBit_canon Reg.SYN_ALIGN 0 true hs
    rw [State.captureArmed_tim]
    refine ⟨fun _ => ⟨rfl, ?_, ?_, rfl, rfl⟩, fun h => absurd hm h, ?_⟩
    · rw [hpart.bit id, State.captureShown, (State.setBit_within _ _ _ _).bit (by decide)]
      exact State.bit_setBit_same _ _ _ _ (by decide) hs
    · rw [hpart.bit id]
      exact State.bit_setBit_same _ _ _ _ (by decide) hc
    · refine ((hsh.and hpart).mono fun a h => ?_).frame
      rcases h with (rfl | rfl) | h
      · simp only [armRegs, List.mem_cons, true_or]
      · simp only [armRegs, List.mem_cons, true_or, or_true]
      · exact h.elim
  · rw [if_neg hm]
    have hr := s.alignRefused_within 0
    refine ⟨fun h => absurd h hm, fun _ => ⟨hr.part_eq .tim, s.counted_alignRefused 0 hs⟩, (hr.mono fun a h => ?_).frame⟩
    exact h.imp_left fun h => by simp only [h, List.mem_cons, true_or, or_true]

end

/-! ### The alignment edge (R122, R451 to R454) -/

/-- The registers of a frame-edge measurement. -/
abbrev edgeRegs (a : Nat) : Prop := a ∈ [Reg.TIM_EDGE_ERR, Reg.TIM_EDGE_STAT, Reg.TIM_EDGE_ALARM_CNT] ∨ qualityRegs a ∨ eventRegs 0x0102 a

section
variable (s : State)

theorem State.measureEdge_within (k sfn : Nat) : Within s (s.measureEdge k sfn) [.rcd] edgeRegs := by
  unfold State.measureEdge
  extract_lets e err t first u v
  have ht : Within s t [.rcd] edgeRegs :=
    ((Within.refl ..).step (s.wr_within _ _) fun _ h => .inl (by simp [h])).step (State.wr_within _ _ _) fun _ h => .inl (by simp [h])
  have hu : Within s u [.rcd] edgeRegs :=
    (ht.step (t.bump_within _) fun _ h => .inl (by simp [h])).step (State.setBit_within _ _ _ _) fun _ h => .inr (.inl (.inl h))
  have hv : Within s v [.rcd] edgeRegs := .ite (hu.step (u.raise_within _ _) fun _ h => .inr (.inr h)) hu
  exact .ite (hv.step v.degrade_within fun _ h => .inr (.inl h)) (ht.step (t.setBit_within _ _ _) fun _ h => .inr (.inl (.inl h)))

theorem Within.of_air_clk_tim (x : Air) (y : Clocks) (z : Tim) :
    Within s { s with air := x, clk := y, tim := z } [.air, .clk, .tim] noRegs :=
  ⟨⟨fun p h => by cases p <;> simp [Part.same] at h ⊢, fun _ _ => rfl⟩, id, List.Subset.refl _⟩

variable (src sfn ref : Nat)

/-- The timeline at this edge, with the frame-edge reference `ref` and the dividers at its phase (R122, R453). -/
def State.placed : State :=
  { s with air := { s.air with origin := some (s.now, sfn) }, tim := { s.tim with ref := ref, fired := false },
           clk := { s.clk with dividersAligned := true } }

/-- The alignment captured, counted, and shown with its source (R452). -/
def State.placeShown : State :=
  ((((s.placed sfn ref).wr Reg.TIM_EPOCH_CAP (BitVec.ofNat 32 (s.placed sfn ref).ns)).bump Reg.TIM_ALIGN_CNT).setBit Reg.TIM_EPOCH_CTRL 29
    true).setFld Reg.TIM_EPOCH_CTRL 0 0 src

/-- The registers of an alignment, before the frame edge is measured. -/
abbrev placeRegs (a : Nat) : Prop := a ∈ [Reg.TIM_EPOCH_CAP, Reg.TIM_ALIGN_CNT, Reg.TIM_EPOCH_CTRL]

theorem State.placeAir_eq : s.placeAir src sfn ref =
    ((s.placeShown src sfn ref).raise 0x0105 [(4, (s.placeShown src sfn ref).ns), (2, sfn), (1, src)]).measureEdge 0 sfn := rfl

theorem State.placed_within : Within s (s.placed sfn ref) [.air, .clk, .tim] noRegs := .of_air_clk_tim s _ _ _

theorem State.placeShown_shows : Within (s.placed sfn ref) (s.placeShown src sfn ref) [] placeRegs :=
  ((((Within.refl ..).step (State.wr_within _ _ _) fun _ h => by simp [h]).step (State.bump_within _ _) fun _ h => by simp [h]).step
    (State.setBit_within _ _ _ _) fun _ h => by simp [h]).step (State.setFld_within _ _ _ _ _) fun _ h => by simp [h]

theorem State.placeShown_within : Within s (s.placeShown src sfn ref) [.air, .clk, .tim] placeRegs :=
  ((s.placed_within sfn ref).mono fun _ h => h.elim).step (s.placeShown_shows src sfn ref) fun _ h => h

/-- What follows the alignment shown: its event, and the measurement of its frame edge. -/
theorem State.placeAir_follows : Within (s.placeShown src sfn ref) (s.placeAir src sfn ref) [.rcd] (fun a => eventRegs 0x0105 a ∨ edgeRegs a) := by
  rw [State.placeAir_eq]
  exact ((State.raise_within _ _ _).mono fun _ => .inl).step (State.measureEdge_within _ 0 sfn) fun _ => .inr

theorem State.placeAir_within : Within s (s.placeAir src sfn ref) [.air, .clk, .rcd, .tim]
    (fun a => placeRegs a ∨ eventRegs 0x0105 a ∨ edgeRegs a) :=
  ((s.placeShown_within src sfn ref).mono fun _ => .inl).step (s.placeAir_follows src sfn ref) fun _ => .inr

theorem State.placeAir_air : (s.placeAir src sfn ref).air = { s.air with origin := some (s.now, sfn) } :=
  ((s.placeShown_shows src sfn ref).part_eq .air).trans ((s.placeAir_follows src sfn ref).part_eq .air)

theorem State.placeAir_clk : (s.placeAir src sfn ref).clk = { s.clk with dividersAligned := true } :=
  ((s.placeShown_shows src sfn ref).part_eq .clk).trans ((s.placeAir_follows src sfn ref).part_eq .clk)

theorem State.placeAir_tim : (s.placeAir src sfn ref).tim = { s.tim with ref := ref, fired := false } :=
  ((s.placeShown_shows src sfn ref).part_eq .tim).trans ((s.placeAir_follows src sfn ref).part_eq .tim)

theorem State.counted_placeAir (h : s.Canon) : Counted s (s.placeAir src sfn ref) Reg.TIM_ALIGN_CNT 1 := by
  have hp := s.placed_within sfn ref
  have hcap := (s.placed sfn ref).wr_within Reg.TIM_EPOCH_CAP (BitVec.ofNat 32 (s.placed sfn ref).ns)
  have hcount := (hp.and hcap).counted_after (State.bump_counted _ Reg.TIM_ALIGN_CNT ((hp.and hcap).canon h)) (by simp)
  exact (s.placeAir_follows src sfn ref).counted
    ((State.setFld_within _ _ _ _ _).counted ((State.setBit_within _ _ _ _).counted hcount (by decide)) (by decide)) (by decide)

/-- The alignment is recorded with the count of its edge (R452). -/
theorem State.raised_placeAir : Raised s (s.placeAir src sfn ref) 0x0105 [(4, s.ns), (2, sfn), (1, src)] := by
  have htns : (s.placeShown src sfn ref).tns = s.tns := (s.placeShown_within src sfn ref).part_eq .tns
  have hns : (s.placeShown src sfn ref).ns = s.ns := by rw [State.ns, State.ns, htns]
  rw [State.placeAir_eq, hns]
  exact (State.measureEdge_within _ 0 sfn).raised ((s.placeShown_within src sfn ref).raised_after (State.raise_raised _ _ _))

/-- The registers of ALIGNMENT_EDGE. -/
abbrev alignEdgeRegs (a : Nat) : Prop := a ∈ [Reg.SYN_ALIGN, Reg.SYN_ALIGN_CNT, Reg.TIM_ALIGN_CNT, Reg.TIM_EDGE_ALARM_CNT, Reg.TIM_EDGE_ERR,
  Reg.TIM_EDGE_STAT, Reg.TIM_EPOCH_CAP, Reg.TIM_EPOCH_CTRL, Reg.TIM_QUAL, Reg.TIM_QUAL_CHANGE_CNT] ∨ eventRegs 0x0102 a ∨ eventRegs 0x0103 a ∨
  eventRegs 0x0105 a

theorem alignEdgeRegs_of_place {a : Nat} (h : placeRegs a ∨ eventRegs 0x0105 a ∨ edgeRegs a) : alignEdgeRegs a := by
  simp only [placeRegs, edgeRegs, List.mem_cons, List.not_mem_nil, or_false] at h
  rcases h with (rfl | rfl | rfl) | h | (rfl | rfl | rfl) | (rfl | rfl | h) | h
  all_goals simp only [alignEdgeRegs, List.mem_cons, true_or, or_true, *]

/-- The ALIGN_IN edge captured: the arm is over, and it is counted (R123). -/
def State.captured : State := ((s.setBit Reg.SYN_ALIGN 0 false).setBit Reg.SYN_ALIGN 4 true).bump Reg.SYN_ALIGN_CNT

theorem State.captured_within : Within s s.captured [] (fun a => a = Reg.SYN_ALIGN ∨ a = Reg.SYN_ALIGN_CNT) :=
  (((Within.refl ..).step (s.setBit_within _ _ _) fun _ => .inl).step (State.setBit_within _ _ _ _) fun _ => .inl).step (State.bump_within _ _)
    fun _ => .inr

variable {s}

theorem State.shows_captured (h : s.Canon) : s.captured.bit Reg.SYN_ALIGN 0 = false ∧ s.captured.bit Reg.SYN_ALIGN 4 = true ∧
    Counted s s.captured Reg.SYN_ALIGN_CNT 1 := by
  have h1 := s.setBit_canon Reg.SYN_ALIGN 0 false h
  have hb := (s.setBit_within Reg.SYN_ALIGN 0 false).trans (State.setBit_within _ _ 4 true)
  refine ⟨?_, ?_, hb.counted_after (State.bump_counted _ _ (hb.canon h)) (by decide)⟩
  · rw [State.captured, (State.bump_within _ _).bit (by decide), State.bit_setBit_apart h1 _ _ (by decide) (by decide)]
    exact State.bit_setBit_same _ _ _ _ (by decide) h
  · rw [State.captured, (State.bump_within _ _).bit (by decide)]
    exact State.bit_setBit_same _ _ _ _ (by decide) h1

end

section
variable {s : State}

theorem exec_alignmentEdge_fired (low : Nat) (hm : s.mode = .ready) (hf : s.tim.fired = true) (ha : s.tim.firedAt < s.now) :
    exec (.alignmentEdge low) s = .next (s.placeAir 0 s.tim.epochSfn (s.tim.epochNs * 2 ^ 32)) :=
  congrArg Host.Outcome.next ((if_neg (not_not.2 hm)).trans ((if_pos hf).trans (if_neg (Nat.not_le.2 ha))))

theorem exec_alignmentEdge_captured {low : Nat} (hm : s.mode = .ready) (hf : s.tim.fired = false) (hb : s.bit Reg.SYN_ALIGN 0 = true)
    (hl : 2 ≤ low) (ha : s.tim.armAt + 8 < s.now) :
    exec (.alignmentEdge low) s = .next (s.captured.placeAir 1 s.tim.alignSfn s.tns) :=
  congrArg Host.Outcome.next ((if_neg (not_not.2 hm)).trans ((if_neg (by rw [hf]; decide)).trans
    (if_pos (by rw [hb, decide_eq_true hl, decide_eq_true ha]; rfl))))

/-- ALIGNMENT_EDGE at an edge after the compare has fired (R122, R450 to R453). -/
theorem exec_alignmentEdge_fired_spec (hs : s.Canon) (low : Nat) (hm : s.mode = .ready) (hf : s.tim.fired = true)
    (ha : s.tim.firedAt < s.now) : ∃ t, exec (.alignmentEdge low) s = .next t ∧ t.air.origin = some (s.now, s.tim.epochSfn) ∧
      t.clk.dividersAligned = true ∧ t.tim.fired = false ∧ t.tim.ref = s.tim.epochNs * 2 ^ 32 ∧ Counted s t Reg.TIM_ALIGN_CNT 1 ∧
      Raised s t 0x0105 [(4, s.ns), (2, s.tim.epochSfn), (1, 0)] ∧ Frame s t [.air, .clk, .rcd, .tim] alignEdgeRegs := by
  refine ⟨_, exec_alignmentEdge_fired low hm hf ha, by rw [State.placeAir_air], by rw [State.placeAir_clk], by rw [State.placeAir_tim],
    by rw [State.placeAir_tim], s.counted_placeAir _ _ _ hs, s.raised_placeAir _ _ _, ?_⟩
  exact ((s.placeAir_within _ _ _).mono fun _ => alignEdgeRegs_of_place).frame

/-- ALIGNMENT_EDGE at an edge that samples ALIGN_IN high after two low samples that follow the arm (R122, R123, R451). -/
theorem exec_alignmentEdge_captured_spec (hs : s.Canon) {low : Nat} (hm : s.mode = .ready) (hf : s.tim.fired = false)
    (hb : s.bit Reg.SYN_ALIGN 0 = true) (hl : 2 ≤ low) (ha : s.tim.armAt + 8 < s.now) : ∃ t, exec (.alignmentEdge low) s = .next t ∧
      t.air.origin = some (s.now, s.tim.alignSfn) ∧ t.bit Reg.SYN_ALIGN 0 = false ∧ t.bit Reg.SYN_ALIGN 4 = true ∧
      Counted s t Reg.SYN_ALIGN_CNT 1 ∧ t.tim.ref = s.tns ∧ Counted s t Reg.TIM_ALIGN_CNT 1 ∧
      Frame s t [.air, .clk, .rcd, .tim] alignEdgeRegs := by
  have hc := s.captured_within
  have hp := s.captured.placeAir_within 1 s.tim.alignSfn s.tns
  have hnow : s.captured.now = s.now := hc.part_eq .now
  obtain ⟨h0, h4, hcount⟩ := State.shows_captured hs
  refine ⟨_, exec_alignmentEdge_captured hm hf hb hl ha, by rw [State.placeAir_air, hnow], ?_, ?_, hp.counted hcount (by decide),
    by rw [State.placeAir_tim], hc.counted_after (State.counted_placeAir _ _ _ _ (hc.canon hs)) (by decide), ?_⟩
  · rw [hp.bit (by decide), h0]
  · rw [hp.bit (by decide), h4]
  · refine ((hc.and hp).mono fun a h => ?_).frame
    rcases h with (rfl | rfl) | h
    · simp only [alignEdgeRegs, List.mem_cons, true_or]
    · simp only [alignEdgeRegs, List.mem_cons, true_or, or_true]
    · exact alignEdgeRegs_of_place h

theorem exec_alignmentEdge_idle {low : Nat} (h : s.mode ≠ .ready ∨ (s.tim.fired = true ∧ s.now ≤ s.tim.firedAt) ∨
    (s.tim.fired = false ∧ (s.bit Reg.SYN_ALIGN 0 = false ∨ low < 2 ∨ s.now ≤ s.tim.armAt + 8))) :
    exec (.alignmentEdge low) s = .next s := by
  refine congrArg Host.Outcome.next ?_
  by_cases hm : s.mode = .ready
  · rw [if_neg (not_not.2 hm)]
    rcases h with h | ⟨hf, ha⟩ | ⟨hf, h⟩
    · exact absurd hm h
    · rw [if_pos hf, if_pos ha]
    · rw [if_neg (by rw [hf]; decide), if_neg]
      simp only [Bool.and_eq_true, decide_eq_true_eq]
      rintro ⟨⟨hb, hl⟩, ha⟩
      rcases h with h | h | h
      · exact absurd (hb.symm.trans h) (by decide)
      · omega
      · omega
  · exact if_pos hm

end

end

/-- Settles O5: an alignment changes the timeline, the dividers and the reference at once (`State.placed`), and everything after that shows,
records or measures it. -/
theorem delayRequestAndEpoch : Obligations.DelayRequestAndEpoch := by
  unfold Obligations.DelayRequestAndEpoch
  intro s hs
  have hclosed : ∀ (f : State → State), s.writable = false →
      Host.Outcome.next (φ := Fault) (ρ := Refusal) (if s.writable then f s else s) = .next s := fun f hw =>
    congrArg Host.Outcome.next (if_neg (by rw [hw]; decide))
  exact ⟨exec_delayReqSend_spec hs, fun w => hclosed (State.writeDreq · w), exec_epochArm_spec hs, hclosed State.armEpoch,
    exec_epochCompareFire_spec hs, exec_epochCompareFire_idle, exec_synAlignArm_spec hs, hclosed State.armAlign,
    exec_alignmentEdge_fired_spec hs, fun low hm hf hb hl ha => exec_alignmentEdge_captured_spec hs hm hf hb hl ha,
    fun low h => exec_alignmentEdge_idle h⟩

end Sys2Proof.Machine

namespace Sys2Proof.Machine

/-! ## The uplink receiver at the head

### An output of a carrier that does not exist: O33 -/

/-- A section in pass-through, of one group (R272). -/
def passSec : UlSec := { combineSec with combine := false, passthru := true }

/-- A pass-through output of carrier 4 waits at the head after the cut-off, one step above the greatest component of 24 bits. The canonical form
bounds no output's carrier, though no command makes an output of a carrier that does not exist. -/
def passPastCarriers : State :=
  { State.reset with
    ulr := { State.reset.ulr with
      cut := [0]
      outs := [{ sym := 0, car := 4, no := 0, sec := passSec, prbs := 1, contrib := 1, z := [[(2 ^ 23, 0)]] }] } }

/-- ULR_OUT_SAT_CNT of a carrier 4 lies outside the registers that UL_OUTPUT_COMPLETE may change. -/
theorem ulrOutSatCnt_four_not_outputRegs : ¬ (arr 4 Reg.SYM_BFP_SAT_CNT (Reg.ULR_OUT_SAT_CNT 4) ∨
    arr 4 Reg.ULR_OUT_SAT_CNT (Reg.ULR_OUT_SAT_CNT 4) ∨ arr 4 Reg.ULR_QUAL (Reg.ULR_OUT_SAT_CNT 4)) := by decide +kernel

/-- Refutes O33: the statement takes every state in canonical form, and its frame of UL_OUTPUT_COMPLETE names ULR_OUT_SAT_CNT of carriers 0 to 3
alone. From `passPastCarriers` the output of carrier 4 in pass-through is counted as saturated (R272): the register there reads 1, and read 0. -/
theorem not_uplinkReceiverOutput : ¬ Obligations.UplinkReceiverOutput := by
  unfold Obligations.UplinkReceiverOutput
  intro h
  obtain ⟨-, -, houtput, -⟩ := h passPastCarriers (by decide +kernel)
  obtain ⟨t, ht, -, -, -, -, -, -, hframe⟩ := houtput ⟨0, 0, 0⟩ (Vector.replicate 4 (0, 0)) (by decide +kernel) (by decide +kernel)
  obtain rfl := Host.Outcome.next.inj ht
  have hkept := hframe.2 _ ulrOutSatCnt_four_not_outputRegs
  have hwas : passPastCarriers.rd (Reg.ULR_OUT_SAT_CNT 4) = 0 := by decide +kernel
  rw [hwas] at hkept
  exact absurd hkept (by decide +kernel)

end Sys2Proof.Machine

namespace Sys2Proof.Machine

section
set_option Elab.async false

/-! ## The kite detector

### One turn for each path -/

/-- Turns of all paths, each of which keeps `I` and leaves the registers `R` of the other paths: a path's turn starts from a state that keeps `I`
and in which its register reads as before, and the other turns leave there what it writes. -/
theorem State.forPaths_turn {I : State → Prop} {f : State → Fin 64 → State} {R : Fin 64 → Nat} {s : State} (hI : ∀ u q, I u → I (f u q))
    (hR : ∀ u q p, p ≠ q → (f u q).rd (R p) = u.rd (R p)) (hs : I s) (p : Fin 64) :
    ∃ u, I u ∧ u.rd (R p) = s.rd (R p) ∧ (s.forPaths f).rd (R p) = (f u p).rd (R p) := by
  have hothers : ∀ (l : List (Fin 64)) (u : State), p ∉ l → (l.foldl f u).rd (R p) = u.rd (R p) := by
    intro l
    induction l with
    | nil => exact fun _ _ => rfl
    | cons q l ih =>
      intro u hp
      rw [List.mem_cons, not_or] at hp
      exact (ih _ hp.2).trans (hR _ _ _ hp.1)
  obtain ⟨l, r, hsplit⟩ := List.append_of_mem (List.mem_finRange p)
  have hnodup := List.nodup_finRange 64
  rw [hsplit, List.nodup_middle, List.nodup_cons, List.mem_append, not_or] at hnodup
  obtain ⟨⟨hl, hr⟩, -⟩ := hnodup
  refine ⟨l.foldl f s, List.foldlRecOn l f hs fun u hu q _ => hI u q hu, hothers l s hl, ?_⟩
  rw [State.forPaths, hsplit, List.foldl_append, List.foldl_cons]
  exact hothers r _ hr

theorem State.bumpBy_within (s : State) (a n : Nat) : Within s (s.bumpBy a n) [] (· = a) := s.wr_within a _

theorem Within.of_kte (s : State) (x : Kite) : Within s { s with kte := x } [.kte] noRegs :=
  ⟨⟨fun p h => by cases p <;> simp [Part.same] at h ⊢, fun _ _ => rfl⟩, id, List.Subset.refl _⟩

/-! ### The gain indices under kite control (R83, R475, R477) -/

theorem PathSt.agcMode_congr {x y : PathSt} (h : x.agcCfg = y.agcCfg) : x.agcMode = y.agcMode := by
  rw [PathSt.agcMode, PathSt.agcMode, h]

section
variable (s : State) (p : Fin 64)

theorem State.agcCfg_setPath {f : PathSt → PathSt} (hf : ∀ x, (f x).agcCfg = x.agcCfg) (q : Fin 64) :
    (s.setPath p f).paths[q].agcCfg = s.paths[q].agcCfg := by
  rw [State.setPath]
  by_cases h : q = p
  · rw [h, getElem_upd_same, hf]
  · rw [getElem_upd_other _ _ h]

/-- Beside the bit that shows it, a freeze or a release changes a path's own times alone. -/
theorem State.setFrozen_cases (b : Bool) : s.setFrozen p b = s.setBit (Reg.RXP_AGC_STAT p) 16 b ∨
    ∃ f : PathSt → PathSt, (∀ x, (f x).agcCfg = x.agcCfg) ∧ s.setFrozen p b = (s.setBit (Reg.RXP_AGC_STAT p) 16 b).setPath p f := by
  by_cases h : s.bit (Reg.RXP_AGC_STAT p) 16 = b
  · exact .inl (if_pos h)
  · exact .inr ⟨_, fun x => by cases b <;> rfl, if_neg h⟩

theorem State.setFrozen_within (b : Bool) : Within s (s.setFrozen p b) [.paths] (· = Reg.RXP_AGC_STAT p) := by
  have hbit := (s.setBit_within (Reg.RXP_AGC_STAT p) 16 b).mono (qs := [.paths]) fun _ h => h
  obtain h | ⟨f, -, h⟩ := s.setFrozen_cases p b
  · exact h ▸ hbit
  · exact h ▸ hbit.part (State.setPath_within _ _ _)

theorem State.rd_setFrozen (b : Bool) (a : Nat) : (s.setFrozen p b).rd a = (s.setBit (Reg.RXP_AGC_STAT p) 16 b).rd a := by
  obtain h | ⟨f, -, h⟩ := s.setFrozen_cases p b
  · rw [h]
  · rw [h, State.setPath_rd]

theorem State.agcCfg_setFrozen (b : Bool) (q : Fin 64) : (s.setFrozen p b).paths[q].agcCfg = s.paths[q].agcCfg := by
  obtain h | ⟨f, hf, h⟩ := s.setFrozen_cases p b
  · rw [h, State.setBit_paths]
  · rw [h, State.agcCfg_setPath _ _ hf, State.setBit_paths]

theorem State.setIndex_within (i : Nat) : Within s (s.setIndex p i) [.kte] (· = Reg.RXP_AGC_STAT p) :=
  (Within.ite (.of_kte s _) (.refl s [.kte] noRegs) |>.mono fun _ h => h.elim).step (State.setFld_within _ _ _ _ _) fun _ h => h

theorem State.rd_setIndex (i : Nat) (a : Nat) : (s.setIndex p i).rd a = (s.setFld (Reg.RXP_AGC_STAT p) 12 8 i).rd a := by
  unfold State.setIndex
  dsimp only
  split <;> rfl

end

/-- A turn of path `p` under kite control: it changes the parts `ps` and the path's gain register, and no path's gain settings. -/
structure KiteTurn (ps : List Part) (f : State → Fin 64 → State) : Prop where
  within : ∀ s p, Within s (f s p) ps (· = Reg.RXP_AGC_STAT p)
  agcCfg : ∀ s p (q : Fin 64), (f s p).paths[q].agcCfg = s.paths[q].agcCfg

theorem kiteTurn_freeze (b : Bool) : KiteTurn [.paths] fun s p => s.setFrozen p b :=
  ⟨fun s p => s.setFrozen_within p b, fun s p => s.agcCfg_setFrozen p b⟩

/-- The index of path `p` returns to start_idx and is free (R475). -/
def State.releaseIndex (s : State) (p : Fin 64) : State := (s.setIndex p (fldOf (s.paths[p]).agcCfg 12 8)).setFrozen p false

theorem kiteTurn_release : KiteTurn [.paths, .kte] State.releaseIndex where
  within s p := ((s.setIndex_within p _).mono fun _ h => h).step (State.setFrozen_within _ p false) fun _ h => h
  agcCfg s p q := by
    have hpaths : (s.setIndex p (fldOf (s.paths[p]).agcCfg 12 8)).paths = s.paths := (s.setIndex_within p _).part_eq .paths
    rw [State.releaseIndex, State.agcCfg_setFrozen, hpaths]

/-- The gain registers of the paths. -/
abbrev agcRegs (a : Nat) : Prop := arr 64 Reg.RXP_AGC_STAT a

/-- The turn of path `p`: `f` acts on a path under kite control. -/
def kiteStep (f : State → Fin 64 → State) (s : State) (p : Fin 64) : State := if (s.paths[p]).agcMode = 2 then f s p else s

section
variable {s : State} {ps : List Part} {f : State → Fin 64 → State} (hf : KiteTurn ps f)
include hf

theorem KiteTurn.kitePaths_within : Within s (s.kitePaths f) ps agcRegs :=
  .foldl (fun u p => .ite ((hf.within u p).mono (fun _ h => ⟨p, p.isLt, h⟩) (List.Subset.refl _)) (.refl ..)) _ s

/-- What a turn under kite control leaves in the gain register of a path. -/
theorem KiteTurn.rd_kitePaths (hs : s.Canon) {p : Fin 64} (hp : s.paths[p].agcMode = 2) :
    ∃ u, u.Canon ∧ u.paths[p].agcCfg = s.paths[p].agcCfg ∧ (s.kitePaths f).rd (Reg.RXP_AGC_STAT p) = (f u p).rd (Reg.RXP_AGC_STAT p) := by
  have hkeep : ∀ u q, (u.Canon ∧ ∀ r : Fin 64, u.paths[r].agcCfg = s.paths[r].agcCfg) →
      (kiteStep f u q).Canon ∧ ∀ r : Fin 64, (kiteStep f u q).paths[r].agcCfg = s.paths[r].agcCfg := fun u q hu => by
    unfold kiteStep
    split
    · exact ⟨(hf.within u q).canon hu.1, fun r => (hf.agcCfg u q r).trans (hu.2 r)⟩
    · exact hu
  have hother : ∀ u q p, p ≠ q → (kiteStep f u q).rd (Reg.RXP_AGC_STAT p) = u.rd (Reg.RXP_AGC_STAT p) := fun u q p hpq => by
    unfold kiteStep
    split
    · exact (hf.within u q).rd fun h => hpq (Fin.ext (by dsimp only [Reg.RXP_AGC_STAT] at h; omega))
    · rfl
  obtain ⟨u, ⟨hu, hcfg⟩, -, hrd⟩ := State.forPaths_turn (R := fun p => Reg.RXP_AGC_STAT p) hkeep hother ⟨hs, fun _ => rfl⟩ p
  refine ⟨u, hu, hcfg p, hrd.trans ?_⟩
  rw [kiteStep, if_pos ((PathSt.agcMode_congr (hcfg p)).trans hp)]

end

section
variable {s : State}

theorem State.kiteFreeze_within (s : State) (b : Bool) : Within s (s.kiteFreeze b) [.paths] agcRegs := (kiteTurn_freeze b).kitePaths_within

/-- Every path under kite control shows the index frozen, or free (R475, R477). -/
theorem State.bit_kiteFreeze (b : Bool) (hs : s.Canon) {p : Fin 64} (hp : s.paths[p].agcMode = 2) :
    (s.kiteFreeze b).bit (Reg.RXP_AGC_STAT p) 16 = b := by
  obtain ⟨u, hu, -, hrd⟩ := (kiteTurn_freeze b).rd_kitePaths hs hp
  rw [State.kiteFreeze, State.bit, State.fld, hrd, State.rd_setFrozen]
  exact State.bit_setBit_same _ _ _ _ (by decide) hu

/-- Every path under kite control shows start_idx, and the index free (R475). -/
theorem State.kiteRelease_shows (hs : s.Canon) {p : Fin 64} (hp : s.paths[p].agcMode = 2) :
    (s.kitePaths State.releaseIndex).fld (Reg.RXP_AGC_STAT p) 12 8 = fldOf (s.paths[p]).agcCfg 12 8 ∧
      (s.kitePaths State.releaseIndex).bit (Reg.RXP_AGC_STAT p) 16 = false := by
  obtain ⟨u, hu, hcfg, hrd⟩ := kiteTurn_release.rd_kitePaths hs hp
  have hi := (u.setIndex_within p (fldOf (u.paths[p]).agcCfg 12 8)).canon hu
  rw [State.bit, State.fld, State.fld, hrd, State.releaseIndex, State.rd_setFrozen]
  refine ⟨?_, State.bit_setBit_same _ _ _ _ (by decide) hi⟩
  have hapart := State.fld_setFld_apart hi (a := Reg.RXP_AGC_STAT p) (hi := 16) (lo := 16) (hi' := 12) (lo' := 8) 0
    (by decide) (by decide) (by decide) (by decide)
  refine hapart.trans ?_
  rw [State.fld, State.rd_setIndex, hcfg]
  refine (State.fld_setFld_same hu _ (by decide) (by decide)).trans (Nat.mod_eq_of_lt ?_)
  exact fldOf_lt _ 12 8

end

/-! ### The saturated samples of a listen interval (R147) -/

section
variable {s t : State}

/-- The registers of the RX saturation counters. -/
abbrev rxSatRegs (a : Nat) : Prop := arr 64 Reg.DFE_RX_SAT_CNT a

/-- No register of blocks 0 to 0x0A counts saturated samples, and none of a path's trims does. -/
theorem not_rxSatRegs {a : Nat} (h : a < 0xB000000 ∨ a % 0x10000 ≠ 0x48) : ¬ rxSatRegs a := by
  rintro ⟨i, -, rfl⟩
  dsimp only [Reg.DFE_RX_SAT_CNT] at h
  omega

theorem State.sfld_of_frame {ps : List Part} {rs : Nat → Prop} (h : Frame s t ps rs) {a : Nat} (ha : ¬ rs a) (hi lo : Nat) :
    t.sfld a hi lo = s.sfld a hi lo := by
  rw [State.sfld, State.sfld, h.fld ha]

theorem State.rxTaps_of_frame (h : Frame s t [] rxSatRegs) (p : Fin 64) : t.rxTaps p = s.rxTaps p := by
  refine List.map_congr_left fun a ha => ?_
  have hlow : ¬ rxSatRegs a := not_rxSatRegs (.inl (by
    simp only [List.mem_cons, List.not_mem_nil, or_false, Reg.RXP_IQ_TAP0, Reg.RXP_IQ_TAP1, Reg.RXP_IQ_TAP2, Reg.RXP_IQ_TAP3] at ha
    omega))
  rw [State.sfld_of_frame h hlow, State.sfld_of_frame h hlow]

theorem State.kiteIndex_of_frame (h : Frame s t [] rxSatRegs) (p : Fin 64) (n : Nat) : t.kiteIndex p n = s.kiteIndex p n := by
  have hkte : t.kte = s.kte := h.1 .kte (by decide)
  have hlow : ¬ rxSatRegs (Reg.RXP_AGC_STAT p) := not_rxSatRegs (.inl (by dsimp only [Reg.RXP_AGC_STAT]; omega))
  rw [State.kiteIndex, State.kiteIndex, hkte, h.fld hlow]

theorem State.kiteLeftOut_of_frame (h : Frame s t [] rxSatRegs) (p : Fin 64) (n : Nat) : t.kiteLeftOut p n = s.kiteLeftOut p n := by
  have hkte : t.kte = s.kte := h.1 .kte (by decide)
  rw [State.kiteLeftOut, State.kiteLeftOut, hkte]

theorem State.kiteCorrect_of_frame (h : Frame s t [] rxSatRegs) (p : Fin 64) (adc : List Adc) : t.kiteCorrect p adc = s.kiteCorrect p adc := by
  have hkte : t.kte = s.kte := h.1 .kte (by decide)
  have hofs : ¬ rxSatRegs (Reg.RXP_DC_OFS p) := not_rxSatRegs (.inl (by dsimp only [Reg.RXP_DC_OFS]; omega))
  have hsteps : ((List.range 32).map fun k => (rotor (t.sfld (Reg.RXP_STEP_TAB p k) 15 0), t.fld (Reg.RXP_STEP_TAB p k) 31 16)) =
      (List.range 32).map fun k => (rotor (s.sfld (Reg.RXP_STEP_TAB p k) 15 0), s.fld (Reg.RXP_STEP_TAB p k) 31 16) := by
    refine List.map_congr_left fun k hk => ?_
    have hlow : ¬ rxSatRegs (Reg.RXP_STEP_TAB p k) := not_rxSatRegs (.inl (by
      rw [List.mem_range] at hk
      dsimp only [Reg.RXP_STEP_TAB]
      omega))
    rw [State.sfld_of_frame h hlow, h.fld hlow]
  simp only [State.kiteCorrect, State.kiteLeftOut_of_frame h, hkte, State.rxTaps_of_frame h, State.kiteIndex_of_frame h,
    State.sfld_of_frame h hofs, hsteps]

theorem State.rxTrim_of_frame (h : Frame s t [] rxSatRegs) (p : Fin 64) (x : Samples) : t.rxTrim p x = s.rxTrim p x := by
  have hphg : ¬ rxSatRegs (Reg.DFE_RX_PHG p) := not_rxSatRegs (.inr (by dsimp only [Reg.DFE_RX_PHG]; omega))
  have hdly : ¬ rxSatRegs (Reg.DFE_RX_DLY p) := not_rxSatRegs (.inr (by dsimp only [Reg.DFE_RX_DLY]; omega))
  simp only [State.rxTrim, h.fld hphg, State.sfld_of_frame h hphg, State.sfld_of_frame h hdly]

theorem State.tuneAt_of_frame (h : Frame s t [] rxSatRegs) (n : Nat) : t.tuneAt n = s.tuneAt n := by
  have hdfe : t.dfe = s.dfe := h.1 .dfe (by decide)
  have hlow : ¬ rxSatRegs Reg.SYN_LO := not_rxSatRegs (.inl (by decide))
  rw [State.tuneAt, State.tuneAt, hdfe, h.fld hlow]

theorem State.rxZero_of_frame (h : Frame s t [] rxSatRegs) (p : Fin 64) : t.rxZero p = s.rxZero p := by
  have hseq : t.seq = s.seq := h.1 .seq (by decide)
  have hlow : ¬ rxSatRegs (Reg.RXP_RETIRE p) := not_rxSatRegs (.inl (by dsimp only [Reg.RXP_RETIRE]; omega))
  rw [State.rxZero, State.rxZero, State.rxRetired_congr (h.2 _ hlow), hseq]

theorem State.dlTick_of_frame {ps : List Part} {rs : Nat → Prop} (h : Frame s t ps rs) (hn : Part.now ∉ ps) (ha : Part.air ∉ ps) (a : AirSym) :
    t.dlTick a = s.dlTick a := by
  have hnow : t.now = s.now := h.1 .now hn
  have hair : t.air = s.air := h.1 .air ha
  have hpos : t.airPos = s.airPos := by rw [State.airPos, State.airPos, hnow, hair]
  have hin : t.inSample = s.inSample := by rw [State.inSample, State.inSample, hnow, hair]
  have hto : t.ticksTo (symPos a) = s.ticksTo (symPos a) := by rw [State.ticksTo, State.ticksTo, hpos, hin]
  rw [State.dlTick, State.dlTick, State.tickOf, State.tickOf, hnow, hto]

/-- What the trims and the kite channel saturate does not depend on what was counted before. -/
theorem State.kiteSat_of_frame (h : Frame s t [] rxSatRegs) (p : Fin 64) (adc : List Adc) : t.kiteSat p adc = s.kiteSat p adc := by
  have hkte : t.kte = s.kte := h.1 .kte (by decide)
  have hnow : t.now = s.now := h.1 .now (by decide)
  have hfreq : ¬ rxSatRegs Reg.KTE_FREQ := not_rxSatRegs (.inr (by decide))
  simp only [State.kiteSat, State.kiteFront, hkte, hnow, State.rxZero_of_frame h, State.dlTick_of_frame h (by decide) (by decide),
    h.fld hfreq, State.tuneAt_of_frame h, State.kiteCorrect_of_frame h, State.rxTrim_of_frame h]

end

section
variable (s : State) (adc : Vector (List Adc) 64)

/-- The saturated samples of the interval counted on every path (R147). -/
def State.countKiteSat : State := s.forPaths fun s p => s.bumpBy (Reg.DFE_RX_SAT_CNT p) (s.kiteSat p adc[p])

theorem State.countKiteSat_within : Within s (s.countKiteSat adc) [] rxSatRegs :=
  .foldl (fun s p => (s.bumpBy_within _ _).mono fun _ h => ⟨p, p.isLt, h⟩) _ s

variable {s}

theorem State.counted_countKiteSat (hs : s.Canon) (p : Fin 64) : Counted s (s.countKiteSat adc) (Reg.DFE_RX_SAT_CNT p) (s.kiteSat p adc[p]) := by
  have hkeep : ∀ u (q : Fin 64), Within s u [] rxSatRegs → Within s (u.bumpBy (Reg.DFE_RX_SAT_CNT q) (u.kiteSat q adc[q])) [] rxSatRegs :=
    fun u q hu => hu.step (u.bumpBy_within _ _) fun _ h => ⟨q, q.isLt, h⟩
  have hother : ∀ (u : State) (q r : Fin 64), r ≠ q →
      (u.bumpBy (Reg.DFE_RX_SAT_CNT q) (u.kiteSat q adc[q])).rd (Reg.DFE_RX_SAT_CNT r) = u.rd (Reg.DFE_RX_SAT_CNT r) := fun u q r hrq =>
    (u.bumpBy_within _ _).rd fun h => hrq (Fin.ext (by dsimp only [Reg.DFE_RX_SAT_CNT] at h; omega))
  obtain ⟨u, hu, hwas, hrd⟩ := State.forPaths_turn (R := fun p => Reg.DFE_RX_SAT_CNT p) hkeep hother (Within.refl s _ _) p
  have hcount := u.rd_bumpBy_same (Reg.DFE_RX_SAT_CNT p) (u.kiteSat p adc[p]) (hu.canon hs)
  rw [Counted, State.countKiteSat, hrd, hcount, hwas, State.kiteSat_of_frame hu.frame]

end

/-! ### The peer table (R481 to R483) -/

/-- The registers of the peer table and of the skew check. -/
abbrev peerRegs (a : Nat) : Prop := a = Reg.KTE_SKEW_ALARM_CNT ∨ arr2 16 4 Reg.KTE_PEER a ∨ eventRegs 0x1101 a

/-- A unit takes one of the 16 entries (R481). -/
theorem State.peerEntry_lt (s : State) (id : Nat) : s.peerEntry id < 16 := by
  unfold State.peerEntry
  dsimp only
  split
  · next e he => exact List.mem_range.1 (List.mem_of_find?_eq_some he)
  · split
    · next e he => exact List.mem_range.1 (List.mem_of_find?_eq_some he)
    · refine List.foldlRecOn (motive := (· < 16)) _ _ (by decide) fun b hb e he => ?_
      split
      · exact List.mem_range.1 he
      · exact hb

section
variable (s : State) {e : Nat} (he : e < 16)
include he

theorem State.wr_peer_within {j : Nat} (hj : j < 4) (w : Word) : Within s (s.wr (Reg.KTE_PEER e j) w) [.rcd] peerRegs :=
  (s.wr_within _ w).mono fun _ h => .inr (.inl ⟨e, he, j, hj, h⟩)

theorem State.skewCheck_within (id : Nat) (skew : Int) : Within s (s.skewCheck e id skew) [.rcd] peerRegs := by
  have hset : ∀ (u : State) (i : Nat) (b : Bool), Within u (u.setBit (Reg.KTE_PEER e 1) i b) [.rcd] peerRegs := fun u _ _ =>
    u.wr_peer_within he (by decide) _
  unfold State.skewCheck
  extract_lets w1 had t u
  have ht : Within s t [.rcd] peerRegs := (hset s 30 true).trans (State.wr_peer_within _ he (by decide) _)
  have hu : Within s u [.rcd] peerRegs := (ht.trans (hset t 29 true)).step (State.bump_within _ _) fun _ => .inl
  clear_value t u
  exact .ite (.ite hu (hu.step (u.raise_within _ _) fun _ h => .inr (.inr h))) (ht.trans (hset t 29 false))

end

/-- An update of the peer table changes of the modem the times of the entries alone. -/
theorem State.peerUpdate_within (s : State) (id : Nat) (ofs : Int) (skew : Option Int) :
    Within s (s.peerUpdate id ofs skew) [.rcd, .kte] peerRegs ∧ (s.peerUpdate id ofs skew).kte.det = s.kte.det := by
  have he := s.peerEntry_lt id
  have hwr : ∀ (u : State) (j : Nat) (_ : j < 4) (w : Word), Within u (u.wr (Reg.KTE_PEER (s.peerEntry id) j) w) [.rcd] peerRegs :=
    fun u j hj w => u.wr_peer_within he hj w
  unfold State.peerUpdate
  extract_lets e same t u v
  have ht : Within s t [.rcd] peerRegs :=
    .ite (.refl ..) (((hwr s 0 (by decide) _).trans (hwr _ 1 (by decide) _)).trans (hwr _ 3 (by decide) _))
  have hu : Within s u [.rcd] peerRegs := ht.trans (hwr t 2 (by decide) _)
  have hv : Within s v [.rcd, .kte] peerRegs := (hu.mono fun _ h => h).part (Within.of_kte u _)
  have hdet : v.kte.det = s.kte.det := (congrArg Kite.det (hu.part_eq .kte) : u.kte.det = s.kte.det)
  clear_value t u v
  cases skew with
  | none => exact ⟨hv, hdet⟩
  | some x =>
    have hx := v.skewCheck_within he id x
    exact ⟨hv.step hx fun _ h => h, (congrArg Kite.det (hx.part_eq .kte)).trans hdet⟩

/-! ### Reports (R480) -/

/-- The registers of the report ring. -/
abbrev reportRegs (a : Nat) : Prop := a = Reg.KTE_REPORT_PTR ∨ arr2 64 16 Reg.KTE_REPORT_RING a

/-- Words of a record written to slot `r` of the ring, each with its index. -/
def State.ringWords (s : State) (r : Nat) (l : List (Nat × Word)) : State :=
  l.foldl (fun s (i, w) => s.wr (Reg.KTE_REPORT_RING (r % 64) i) w) s

/-- The record `bs` written to the slot that the pointer names, and the pointer moved on. -/
def State.recordWritten (s : State) (bs : List Byte) : State :=
  (s.ringWords (s.fld Reg.KTE_REPORT_PTR 15 0) (List.zip (List.range 16) (wordsOf 16 bs))).setFld Reg.KTE_REPORT_PTR 15 0
    (s.fld Reg.KTE_REPORT_PTR 15 0 + 1)

theorem State.ringWords_within {P : Nat → Prop} (r : Nat) {l : List (Nat × Word)} (hl : ∀ x ∈ l, P x.1) (s : State) :
    Within s (s.ringWords r l) [] (fun a => ∃ i, P i ∧ a = Reg.KTE_REPORT_RING (r % 64) i) := by
  induction l generalizing s with
  | nil => exact .refl ..
  | cons x l ih =>
    refine .trans ((s.wr_within _ x.2).mono fun _ h => ⟨x.1, hl x List.mem_cons_self, h⟩) ?_
    exact ih (fun y hy => hl y (List.mem_cons_of_mem _ hy)) _

theorem reportPtr_ne_reportRing (r i : Nat) : Reg.KTE_REPORT_PTR ≠ Reg.KTE_REPORT_RING r i := by
  dsimp only [Reg.KTE_REPORT_PTR, Reg.KTE_REPORT_RING]
  omega

/-- The first four bits of a record are the upper ones of its first byte. -/
theorem fld_firstWord (x b c d : Byte) : fldOf (BitVec.ofNat 32 (natOf [x, b, c, d])) 31 28 = x.toNat / 16 := by
  have hx := x.isLt
  have hb := b.isLt
  have hc := c.isLt
  have hd := d.isLt
  have hnat : natOf [x, b, c, d] = ((x.toNat * 256 + b.toNat) * 256 + c.toNat) * 256 + d.toNat := by
    simp [natOf]
  rw [fldOf_ofNat _ _ _ (by omega), hnat]
  omega

section
variable (s : State)

theorem State.recordWritten_within (bs : List Byte) : Within s (s.recordWritten bs) [] reportRegs := by
  have hidx : ∀ x ∈ List.zip (List.range 16) (wordsOf 16 bs), x.1 < 16 := fun x hx => List.mem_range.1 (List.of_mem_zip hx).1
  have hring := s.ringWords_within (P := (· < 16)) (s.fld Reg.KTE_REPORT_PTR 15 0) hidx
  refine (hring.mono fun a h => ?_).step (State.setFld_within _ _ _ _ _) fun _ => .inl
  obtain ⟨i, hi, rfl⟩ := h
  exact .inr ⟨_, Nat.mod_lt _ (by decide), i, hi, rfl⟩

theorem State.ringWords_cons (r i : Nat) (w : Word) (l : List (Nat × Word)) :
    s.ringWords r ((i, w) :: l) = (s.wr (Reg.KTE_REPORT_RING (r % 64) i) w).ringWords r l := rfl

/-- The words of a record with their indices. -/
theorem zip_wordsOf (x b c d : Byte) (bs : List Byte) : List.zip (List.range 16) (wordsOf 16 (x :: b :: c :: d :: bs)) =
    (0, BitVec.ofNat 32 (natOf [x, b, c, d])) :: List.zip (List.range' 1 15) (wordsOf 15 bs) := by
  rw [List.range_eq_range', List.range'_succ, wordsOf, List.zip_cons_cons]
  simp

variable {s}

/-- A record that is written stands where the pointer was, and the pointer names the next slot (R480). -/
theorem State.recordWritten_shows (hs : s.Canon) (x b c d : Byte) (bs : List Byte) :
    (s.recordWritten (x :: b :: c :: d :: bs)).fld Reg.KTE_REPORT_PTR 15 0 = (s.fld Reg.KTE_REPORT_PTR 15 0 + 1) % 65536 ∧
      (s.recordWritten (x :: b :: c :: d :: bs)).fld (Reg.KTE_REPORT_RING (s.fld Reg.KTE_REPORT_PTR 15 0 % 64) 0) 31 28 = x.toNat / 16 := by
  have hrest : ∀ y ∈ List.zip (List.range' 1 15) (wordsOf 15 bs), y.1 ≠ 0 := fun y hy => by
    have hy1 := (List.of_mem_zip hy).1
    rw [List.mem_range'_1] at hy1
    omega
  rw [State.recordWritten, zip_wordsOf, State.ringWords_cons]
  generalize s.fld Reg.KTE_REPORT_PTR 15 0 = r
  have hring := State.ringWords_within (P := (· ≠ 0)) r hrest (s.wr (Reg.KTE_REPORT_RING (r % 64) 0) (BitVec.ofNat 32 (natOf [x, b, c, d])))
  have hcanon := hring.canon (s.wr_canon _ _ hs)
  have hapart : ¬ ∃ i, i ≠ 0 ∧ Reg.KTE_REPORT_RING (r % 64) 0 = Reg.KTE_REPORT_RING (r % 64) i := by
    rintro ⟨i, hi, h⟩
    dsimp only [Reg.KTE_REPORT_RING] at h
    omega
  have hword := (hring.fld hapart 31 28).trans (congrArg (fldOf · 31 28) (s.rd_wr_same _ _ hs))
  generalize (s.wr (Reg.KTE_REPORT_RING (r % 64) 0) (BitVec.ofNat 32 (natOf [x, b, c, d]))).ringWords r
    (List.zip (List.range' 1 15) (wordsOf 15 bs)) = u at hcanon hword ⊢
  refine ⟨State.fld_setFld_same hcanon _ (by decide) (by decide), ?_⟩
  rw [(u.setFld_within _ _ _ _).fld (reportPtr_ne_reportRing _ _).symm, hword, fld_firstWord]

end

theorem bytesOf_one (n : Nat) : bytesOf 1 n = [BitVec.ofNat 8 n] := by
  simp [bytesOf]

theorem bytesOf_two (n : Nat) : bytesOf 2 n = [BitVec.ofNat 8 (n / 256), BitVec.ofNat 8 n] := by
  simp [bytesOf, List.range_succ]

/-- A report as a record of the ring: the result stands in the upper half of its first byte. That of a reception with result OK may go on to the
peer table (R480, R481). -/
theorem State.kiteReport_eq (s : State) (result : Nat) (p q : KitePeak) (snr power best : Nat) (payload : Option (List Byte)) :
    ∃ n b c d bs, n / 16 = result ∧
      (s.kiteReport result p q snr power best payload = s.recordWritten (BitVec.ofNat 8 n :: b :: c :: d :: bs) ∨
        payload ≠ none ∧ ∃ id ofs skew, s.kiteReport result p q snr power best payload =
          (s.recordWritten (BitVec.ofNat 8 n :: b :: c :: d :: bs)).peerUpdate id ofs skew) := by
  unfold State.kiteReport
  extract_lets a r o own bs ok self heard eo skew dist rec_ ring t
  have hrec : ∃ n b c d bs, n / 16 = result ∧ rec_ = BitVec.ofNat 8 n :: b :: c :: d :: bs := by
    have hlow : (result * 16 + (if self = true then 2 else 0) + (if heard = true then 1 else 0)) / 16 = result := by
      split <;> split <;> omega
    simp only [rec_, bytesOf_one, bytesOf_two, List.append_assoc, List.cons_append, List.nil_append]
    exact ⟨_, _, _, _, _, hlow, rfl⟩
  obtain ⟨n, b, c, d, l, hn, hl⟩ := hrec
  have ht : t = s.recordWritten rec_ := rfl
  rw [hl] at ht
  refine ⟨n, b, c, d, l, hn, ?_⟩
  rw [ht]
  split
  · next h => exact .inr ⟨fun e => by simp [ok, e] at h, _, _, _, rfl⟩
  · exact .inl rfl

/-- A register of the ring lies beside the gain registers and the peer table. -/
theorem reportRing_apart (r : Nat) : ¬ agcRegs (Reg.KTE_REPORT_RING (r % 64) 0) ∧ ¬ peerRegs (Reg.KTE_REPORT_RING (r % 64) 0) ∧
    ∀ a < 0x11100000, Reg.KTE_REPORT_RING (r % 64) 0 ≠ a := by
  have hr := Nat.mod_lt r (show 64 > 0 by decide)
  refine ⟨?_, ?_, fun a ha h => ?_⟩
  · rintro ⟨i, hi, h⟩
    dsimp only [Reg.KTE_REPORT_RING, Reg.RXP_AGC_STAT] at h
    omega
  · rintro (h | ⟨i, hi, j, hj, h⟩ | h | h)
    all_goals
      simp only [Reg.KTE_REPORT_RING, Reg.KTE_SKEW_ALARM_CNT, Reg.KTE_PEER, Reg.BLK_STAT_SUM, Reg.KPR_EVT_OVF_CNT] at h
      omega
  · dsimp only [Reg.KTE_REPORT_RING] at h
    omega

theorem not_peerRegs_reportPtr : ¬ peerRegs Reg.KTE_REPORT_PTR := by
  rintro (h | ⟨i, hi, j, hj, h⟩ | h | h)
  all_goals
    simp only [Reg.KTE_REPORT_PTR, Reg.KTE_SKEW_ALARM_CNT, Reg.KTE_PEER, Reg.BLK_STAT_SUM, Reg.KPR_EVT_OVF_CNT] at h
    omega

/-- From `s` to `t` a report with the result joined the ring (R480). -/
abbrev Reported (s t : State) (result : Nat) : Prop :=
  t.fld Reg.KTE_REPORT_PTR 15 0 = (s.fld Reg.KTE_REPORT_PTR 15 0 + 1) % 65536 ∧
    t.fld (Reg.KTE_REPORT_RING (s.fld Reg.KTE_REPORT_PTR 15 0 % 64) 0) 31 28 = result

theorem Reported.of_within {s t u : State} {result : Nat} {ps : List Part} {rs : Nat → Prop} (h : Reported s t result) (k : Within t u ps rs)
    (hp : ¬ rs Reg.KTE_REPORT_PTR) (hr : ¬ rs (Reg.KTE_REPORT_RING (s.fld Reg.KTE_REPORT_PTR 15 0 % 64) 0)) : Reported s u result :=
  ⟨(k.fld hp _ _).trans h.1, (k.fld hr _ _).trans h.2⟩

section
variable {s : State} (p q : KitePeak) (snr power best : Nat)

theorem State.kiteReport_within (s : State) (result : Nat) (payload : Option (List Byte)) :
    Within s (s.kiteReport result p q snr power best payload) [.rcd, .kte] (fun a => reportRegs a ∨ peerRegs a) ∧
      (s.kiteReport result p q snr power best payload).kte.det = s.kte.det := by
  obtain ⟨n, b, c, d, bs, -, h | ⟨-, id, ofs, skew, h⟩⟩ := s.kiteReport_eq result p q snr power best payload
  all_goals
    rw [h]
    have hw := s.recordWritten_within (BitVec.ofNat 8 n :: b :: c :: d :: bs)
    have hdet : (s.recordWritten (BitVec.ofNat 8 n :: b :: c :: d :: bs)).kte.det = s.kte.det := congrArg Kite.det (hw.part_eq .kte)
  · exact ⟨hw.mono fun _ => .inl, hdet⟩
  · obtain ⟨hu, hudet⟩ := (s.recordWritten (BitVec.ofNat 8 n :: b :: c :: d :: bs)).peerUpdate_within id ofs skew
    exact ⟨(hw.mono fun _ => .inl).step hu fun _ => .inr, hudet.trans hdet⟩

/-- A report without a payload changes the ring and its pointer alone. -/
theorem State.kiteReport_none_within (s : State) (result : Nat) : Within s (s.kiteReport result p q snr power best none) [] reportRegs := by
  obtain ⟨n, b, c, d, bs, -, h | ⟨h, -⟩⟩ := s.kiteReport_eq result p q snr power best none
  · exact h ▸ s.recordWritten_within _
  · exact absurd rfl h

theorem State.kiteReport_reported (hs : s.Canon) {result : Nat} (hr : result < 16) (payload : Option (List Byte)) :
    Reported s (s.kiteReport result p q snr power best payload) result := by
  obtain ⟨n, b, c, d, bs, hn, h⟩ := s.kiteReport_eq result p q snr power best payload
  obtain ⟨hptr, hring⟩ := s.recordWritten_shows hs (BitVec.ofNat 8 n) b c d bs
  have hres : (BitVec.ofNat 8 n).toNat / 16 = result := by
    rw [BitVec.toNat_ofNat]
    omega
  have hwritten : Reported s (s.recordWritten (BitVec.ofNat 8 n :: b :: c :: d :: bs)) result := ⟨hptr, hring.trans hres⟩
  obtain h | ⟨-, id, ofs, skew, h⟩ := h
  · exact h ▸ hwritten
  · obtain ⟨hu, -⟩ := (s.recordWritten (BitVec.ofNat 8 n :: b :: c :: d :: bs)).peerUpdate_within id ofs skew
    exact h ▸ hwritten.of_within hu not_peerRegs_reportPtr (reportRing_apart _).2.1

end

/-! ### States of the detector (R477) -/

/-- The code that KTE_STAT shows of a state of the detector. -/
def KiteDet.code : KiteDet → Nat
  | .search => 0
  | .candidate _ => 1
  | .receive .. => 2

theorem not_reportRegs {a : Nat} (h : a < 0x11100000) (hp : a ≠ Reg.KTE_REPORT_PTR) : ¬ reportRegs a := by
  rintro (h' | ⟨i, -, j, -, h'⟩)
  · exact hp h'
  · dsimp only [Reg.KTE_REPORT_RING] at h'
    omega

/-- The gain registers lie in block 0x0A. -/
theorem not_agcRegs {a : Nat} (h : 0xB000000 ≤ a) : ¬ agcRegs a := by
  rintro ⟨i, hi, h'⟩
  dsimp only [Reg.RXP_AGC_STAT] at h'
  omega

theorem agcStat_lt (p : Fin 64) : Reg.RXP_AGC_STAT p < 0xB000000 := by
  dsimp only [Reg.RXP_AGC_STAT]
  omega

section
variable (s : State) (d : KiteDet)

theorem State.detect_eq : s.detect d = (s.setFld Reg.KTE_STAT 25 24 d.code).setKite fun k => { k with det := d } := by
  cases d <;> rfl

theorem State.detect_kte : (s.detect d).kte = { s.kte with det := d } := by
  rw [State.detect_eq, State.setKite, State.setFld_kte]

theorem State.setKite_within (f : Kite → Kite) : Within s (s.setKite f) [.kte] noRegs := .of_kte s _

theorem State.detect_within : Within s (s.detect d) [.kte] (· = Reg.KTE_STAT) := by
  rw [State.detect_eq]
  exact ((s.setFld_within _ _ _ _).mono fun _ h => h).part (State.setKite_within _ _)

/-- A count and a new state of the detector. -/
theorem State.bump_detect_within (a : Nat) : Within s ((s.bump a).detect d) [.kte] (fun x => x = a ∨ x = Reg.KTE_STAT) :=
  ((s.bump_within a).mono fun _ => .inl).step (State.detect_within _ d) fun _ => .inr

variable {s}

theorem State.fld_detect (hs : s.Canon) : (s.detect d).fld Reg.KTE_STAT 25 24 = d.code := by
  rw [State.detect_eq, (State.setKite_within _ _).fld id, State.fld_setFld_same hs _ (by decide) (by decide)]
  cases d <;> rfl

theorem State.counted_bump_detect (hs : s.Canon) {a : Nat} (ha : a ≠ Reg.KTE_STAT) : Counted s ((s.bump a).detect d) a 1 :=
  (State.detect_within _ d).counted (s.bump_counted a hs) ha

end

/-! ### Peaks (R476, R477) -/

section
variable {s : State} {q : KitePeak}

theorem State.otherPeak_search (h : s.kte.det = .search) : s.otherPeak q = s.detect (.candidate q) := by
  rw [State.otherPeak, h]

section
variable {p : KitePeak} (h : s.kte.det = .candidate p)
include h

theorem State.otherPeak_candidate : s.otherPeak q =
    if q.lag = p.lag then (if winsLag p q then s.detect (.candidate q) else s)
    else if reaches (peakPower q : Rat) (peakPower p : Rat) (s.fld Reg.KTE_RX_CFG 23 16) then (s.bump Reg.KTE_SUPERSEDE_CNT).detect (.candidate q)
    else s.bump Reg.KTE_MASK_CNT := by
  rw [State.otherPeak, h]

theorem State.otherPeak_candidate_within :
    Within s (s.otherPeak q) [.kte] (fun a => a ∈ [Reg.KTE_MASK_CNT, Reg.KTE_STAT, Reg.KTE_SUPERSEDE_CNT]) := by
  rw [State.otherPeak_candidate h]
  refine .ite (.ite ((s.detect_within _).mono ?_) (.refl ..)) (.ite ((s.bump_detect_within _ _).mono ?_) ((s.bump_within _).mono ?_))
  · rintro _ rfl; simp
  · rintro _ (rfl | rfl) <;> simp
  · rintro _ rfl; simp

end

/-- A reception ended by a stronger peak: reported, its indices released, and the peak a candidate (R477). -/
def State.supersede (s : State) (p r : KitePeak) (snr power best : Nat) (q : KitePeak) : State :=
  (((s.kiteReport 2 p r snr power best none).kiteFreeze false).bump Reg.KTE_SUPERSEDE_CNT).detect (.candidate q)

section
variable {p r : KitePeak} {snr power best : Nat}

theorem State.otherPeak_receive (h : s.kte.det = .receive p r snr power best) : s.otherPeak q =
    if q.lag = r.lag ∧ winsLag r q = false then s
    else if reaches (2 * peakPower q : Nat) (peakPower p + peakPower r : Nat) (s.fld Reg.KTE_RX_CFG 23 16) then s.supersede p r snr power best q
    else s.bump Reg.KTE_MASK_CNT := by
  rw [State.otherPeak, h]
  rfl

theorem State.released_within (s : State) (result : Nat) :
    Within s ((s.kiteReport result p r snr power best none).kiteFreeze false) [.paths] (fun a => reportRegs a ∨ agcRegs a) :=
  ((s.kiteReport_none_within p r snr power best result).mono fun _ => .inl).step (State.kiteFreeze_within _ _) fun _ => .inr

theorem State.supersede_within (s : State) : Within s (s.supersede p r snr power best q) [.paths, .kte]
    (fun a => (reportRegs a ∨ agcRegs a) ∨ a = Reg.KTE_SUPERSEDE_CNT ∨ a = Reg.KTE_STAT) :=
  ((s.released_within 2).mono fun _ => .inl).step (State.bump_detect_within _ _ _) fun _ => .inr

theorem State.supersede_kte (s : State) : (s.supersede p r snr power best q).kte = { s.kte with det := .candidate q } := by
  have hkte : ((s.kiteReport 2 p r snr power best none).kiteFreeze false).kte = s.kte := (s.released_within 2).part_eq .kte
  rw [State.supersede, State.detect_kte, State.bump_kte, hkte]

theorem State.counted_supersede (hs : s.Canon) : Counted s (s.supersede p r snr power best q) Reg.KTE_SUPERSEDE_CNT 1 := by
  have hrel := s.released_within (p := p) (r := r) (snr := snr) (power := power) (best := best) 2
  refine hrel.counted_after (State.counted_bump_detect _ (hrel.canon hs) (by decide)) ?_
  exact not_or.2 ⟨not_reportRegs (by decide) (by decide), not_agcRegs (by decide)⟩

theorem State.reported_supersede (hs : s.Canon) : Reported s (s.supersede p r snr power best q) 2 := by
  obtain ⟨hagc, -, hlow⟩ := reportRing_apart (s.fld Reg.KTE_REPORT_PTR 15 0)
  refine ((s.kiteReport_reported p r snr power best hs (by decide) none).of_within (State.kiteFreeze_within _ false)
    (not_agcRegs (by decide)) hagc).of_within (State.bump_detect_within _ _ _) (by decide) ?_
  exact not_or.2 ⟨hlow _ (by decide), hlow _ (by decide)⟩

end

/-- What a peak that confirms nothing may change. -/
abbrev peakRegs (a : Nat) : Prop :=
  a ∈ [Reg.KTE_MASK_CNT, Reg.KTE_REPORT_PTR, Reg.KTE_STAT, Reg.KTE_SUPERSEDE_CNT] ∨ arr2 64 16 Reg.KTE_REPORT_RING a ∨ agcRegs a

theorem State.otherPeak_within (s : State) (q : KitePeak) : Within s (s.otherPeak q) [.paths, .kte] peakRegs := by
  match h : s.kte.det with
  | .search =>
    rw [State.otherPeak_search h]
    exact (s.detect_within _).mono fun _ h => .inl (by simp [h])
  | .candidate p => exact (State.otherPeak_candidate_within h).mono fun _ h => .inl (by
      simp only [List.mem_cons, List.not_mem_nil, or_false] at h ⊢
      omega)
  | .receive p r snr power best =>
    rw [State.otherPeak_receive h]
    refine .ite (.refl ..) (.ite (s.supersede_within.mono ?_) ((s.bump_within _).mono fun _ h => .inl (by simp [h])))
    rintro a (((rfl | h) | h) | rfl | rfl)
    · exact .inl (by simp)
    · exact .inr (.inl h)
    · exact .inr (.inr h)
    · exact .inl (by simp)
    · exact .inl (by simp)

end

/-! ### KITE_PEAK and KITE_CONFIRM -/

section
variable {s : State} {b : Fin 64} {lag : Nat} {adc : Vector (List Adc) 64} {q : KitePeak}

theorem exec_kitePeak_idle (h : s.hearing = false ∨ s.heardPeak b lag adc = none) : exec (.kitePeak b lag adc) s = .next s := by
  refine congrArg Host.Outcome.next ?_
  rcases h with h | h
  · exact if_neg (by rw [h]; decide)
  · rw [h]
    exact ite_self s

theorem exec_kitePeak_other (hh : s.hearing = true) (hq : s.heardPeak b lag adc = some q) (hc : s.isConfirm q = false) :
    exec (.kitePeak b lag adc) s = .next (s.otherPeak q) := by
  refine congrArg Host.Outcome.next ?_
  rw [hq, if_pos hh]
  exact if_neg (by rw [hc]; decide)

theorem exec_kitePeak_confirm (hq : s.heardPeak b lag adc = some q) (hc : s.isConfirm q = true) : exec (.kitePeak b lag adc) s = .next s := by
  refine congrArg Host.Outcome.next ?_
  rw [hq]
  dsimp only
  rw [if_pos hc]
  exact ite_self s

theorem State.isConfirm_candidate {p : KitePeak} (h : s.kte.det = .candidate p) (q : KitePeak) : s.isConfirm q = s.confirms p q := by
  rw [State.isConfirm, h]

variable (b lag adc)

/-- KITE_PEAK in SEARCH (R477). -/
theorem exec_kitePeak_search_spec (hs : s.Canon) (hh : s.hearing = true) (hd : s.kte.det = .search) :
    ∃ t, exec (.kitePeak b lag adc) s = .next t ∧ (∀ q, s.heardPeak b lag adc = some q →
      t.kte = { s.kte with det := .candidate q } ∧ t.fld Reg.KTE_STAT 25 24 = 1) ∧ (s.heardPeak b lag adc = none → t = s) ∧
      Frame s t [.kte] (fun a => a = Reg.KTE_STAT) := by
  cases hq : s.heardPeak b lag adc with
  | none => exact ⟨s, exec_kitePeak_idle (.inr hq), fun _ h => absurd h.symm (Option.some_ne_none _), fun _ => rfl, Frame.refl ..⟩
  | some q =>
    refine ⟨_, exec_kitePeak_other hh hq (by rw [State.isConfirm, hd]), ?_, fun h => absurd h (Option.some_ne_none _), ?_⟩
    · rintro _ ⟨⟩
      rw [State.otherPeak_search hd]
      exact ⟨s.detect_kte _, State.fld_detect _ hs⟩
    · rw [State.otherPeak_search hd]
      exact (s.detect_within _).frame

/-- KITE_PEAK with a candidate (R477). -/
theorem exec_kitePeak_candidate_spec (hs : s.Canon) {p : KitePeak} (hh : s.hearing = true) (hd : s.kte.det = .candidate p) :
    ∃ t, exec (.kitePeak b lag adc) s = .next t ∧ (∀ q, s.heardPeak b lag adc = some q → s.confirms p q = true → t = s) ∧ (∀ q,
      s.heardPeak b lag adc = some q → s.confirms p q = false → q.lag = p.lag → winsLag p q = true →
      t.kte = { s.kte with det := .candidate q }) ∧ (∀ q, s.heardPeak b lag adc = some q → s.confirms p q = false →
      q.lag = p.lag → winsLag p q = false → t.kte = s.kte) ∧ (∀ q, s.heardPeak b lag adc = some q → s.confirms p q = false →
      q.lag ≠ p.lag → reaches (peakPower q : Rat) (peakPower p : Rat) (s.fld Reg.KTE_RX_CFG 23 16) = true →
      t.kte = { s.kte with det := .candidate q } ∧ Counted s t Reg.KTE_SUPERSEDE_CNT 1 ∧
      t.rd Reg.KTE_MASK_CNT = s.rd Reg.KTE_MASK_CNT) ∧ (∀ q, s.heardPeak b lag adc = some q → s.confirms p q = false →
      q.lag ≠ p.lag → reaches (peakPower q : Rat) (peakPower p : Rat) (s.fld Reg.KTE_RX_CFG 23 16) = false → t.kte = s.kte ∧
      Counted s t Reg.KTE_MASK_CNT 1 ∧ t.rd Reg.KTE_SUPERSEDE_CNT = s.rd Reg.KTE_SUPERSEDE_CNT) ∧ (s.heardPeak b lag adc = none →
      t = s) ∧ Frame s t [.kte] (fun a => a ∈ [Reg.KTE_MASK_CNT, Reg.KTE_STAT, Reg.KTE_SUPERSEDE_CNT]) := by
  cases hq : s.heardPeak b lag adc with
  | none =>
    have hnone : ∀ q : KitePeak, none ≠ some q := fun _ h => absurd h.symm (Option.some_ne_none _)
    exact ⟨s, exec_kitePeak_idle (.inr hq), fun q h => absurd h (hnone q), fun q h => absurd h (hnone q), fun q h => absurd h (hnone q),
      fun q h => absurd h (hnone q), fun q h => absurd h (hnone q), fun _ => rfl, Frame.refl ..⟩
  | some q =>
    have hconf := State.isConfirm_candidate hd q
    cases hc : s.confirms p q with
    | true =>
      refine ⟨s, exec_kitePeak_confirm hq (hconf.trans hc), fun _ _ _ => rfl, ?_, ?_, ?_, ?_, fun _ => rfl, Frame.refl ..⟩
      all_goals
        rintro _ ⟨⟩ hne
        exact absurd (hc.symm.trans hne) (by decide)
    | false =>
      refine ⟨_, exec_kitePeak_other hh hq (hconf.trans hc), ?_, ?_, ?_, ?_, ?_, fun h => absurd h (Option.some_ne_none _),
        (State.otherPeak_candidate_within hd).frame⟩
      · rintro _ ⟨⟩ hne
        exact absurd (hc.symm.trans hne) (by decide)
      · rintro _ ⟨⟩ - hl hw
        rw [State.otherPeak_candidate hd, if_pos hl, if_pos hw]
        exact s.detect_kte _
      · rintro _ ⟨⟩ - hl hw
        rw [State.otherPeak_candidate hd, if_pos hl, hw]
        rfl
      · rintro _ ⟨⟩ - hl hr
        rw [State.otherPeak_candidate hd, if_neg hl, if_pos hr]
        exact ⟨State.detect_kte _ _, State.counted_bump_detect _ hs (by decide), (s.bump_detect_within _ _).rd (by decide)⟩
      · rintro _ ⟨⟩ - hl hr
        rw [State.otherPeak_candidate hd, if_neg hl, hr]
        exact ⟨s.bump_kte _, s.bump_counted _ hs, (s.bump_within _).rd (by decide)⟩

/-- KITE_PEAK in RECEIVE (R477). -/
theorem exec_kitePeak_receive_spec (hs : s.Canon) {p r : KitePeak} {snr power best : Nat} (hh : s.hearing = true)
    (hd : s.kte.det = .receive p r snr power best) : ∃ t, exec (.kitePeak b lag adc) s = .next t ∧ (∀ q,
      s.heardPeak b lag adc = some q → (q.lag = r.lag → winsLag r q = false → t = s) ∧ (q.lag ≠ r.lag ∨ winsLag r q = true →
      reaches (2 * peakPower q : Nat) (peakPower p + peakPower r : Nat) (s.fld Reg.KTE_RX_CFG 23 16) = true →
      t.kte = { s.kte with det := .candidate q } ∧ Counted s t Reg.KTE_SUPERSEDE_CNT 1 ∧
      t.fld Reg.KTE_REPORT_PTR 15 0 = (s.fld Reg.KTE_REPORT_PTR 15 0 + 1) % 65536 ∧
      t.fld (Reg.KTE_REPORT_RING (s.fld Reg.KTE_REPORT_PTR 15 0 % 64) 0) 31 28 = 2) ∧ (q.lag ≠ r.lag ∨ winsLag r q = true →
      reaches (2 * peakPower q : Nat) (peakPower p + peakPower r : Nat) (s.fld Reg.KTE_RX_CFG 23 16) = false → t.kte = s.kte ∧
      Counted s t Reg.KTE_MASK_CNT 1)) ∧ (s.heardPeak b lag adc = none → t = s) ∧ Frame s t [.paths, .kte] peakRegs := by
  cases hq : s.heardPeak b lag adc with
  | none => exact ⟨s, exec_kitePeak_idle (.inr hq), fun _ h => absurd h.symm (Option.some_ne_none _), fun _ => rfl, Frame.refl ..⟩
  | some q =>
    refine ⟨_, exec_kitePeak_other hh hq (by rw [State.isConfirm, hd]), ?_, fun h => absurd h (Option.some_ne_none _),
      (s.otherPeak_within q).frame⟩
    rintro _ ⟨⟩
    rw [State.otherPeak_receive hd]
    have hnot : q.lag ≠ r.lag ∨ winsLag r q = true → ¬ (q.lag = r.lag ∧ winsLag r q = false) := fun h ⟨hl, hw⟩ =>
      h.elim (fun hne => hne hl) fun hw' => Bool.false_ne_true (hw.symm.trans hw')
    refine ⟨fun hl hw => if_pos ⟨hl, hw⟩, fun h hr => ?_, fun h hr => ?_⟩
    · rw [if_neg (hnot h), if_pos hr]
      exact ⟨State.supersede_kte s, State.counted_supersede hs, State.reported_supersede hs⟩
    · rw [if_neg (hnot h), hr]
      exact ⟨s.bump_kte _, s.bump_counted _ hs⟩

theorem exec_kiteConfirm_idle (snr : BitVec 8) (power : BitVec 16) (h : s.hearing = false ∨ s.heardPeak b lag adc = none) :
    exec (.kiteConfirm b lag adc snr power) s = .next s := by
  refine congrArg Host.Outcome.next ?_
  rcases h with h | h
  · exact if_neg (by rw [h]; decide)
  · rw [h]
    exact ite_self s

theorem exec_kiteConfirm_candidate (snr : BitVec 8) (power : BitVec 16) {p : KitePeak} (hh : s.hearing = true)
    (hq : s.heardPeak b lag adc = some q) (hd : s.kte.det = .candidate p) : exec (.kiteConfirm b lag adc snr power) s = .next
      (if s.confirms p q then s.takeConfirm p q snr.toNat power.toNat (s.bestBeam p.lag lag adc) else s.otherPeak q) := by
  refine congrArg Host.Outcome.next ?_
  rw [hq, hd, if_pos hh]

theorem State.takeConfirm_within (s : State) (p q : KitePeak) (snr power best : Nat) : Within s (s.takeConfirm p q snr power best) [.paths, .kte]
    (fun a => (a = Reg.KTE_DET_CNT ∨ agcRegs a) ∨ a = Reg.KTE_STAT) := by
  have hbump : Within s (s.bump Reg.KTE_DET_CNT) [.paths] (fun a => a = Reg.KTE_DET_CNT ∨ agcRegs a) := (s.bump_within _).mono fun _ => .inl
  exact ((hbump.step (State.kiteFreeze_within _ true) fun _ => .inr).mono fun _ => .inl).step (State.detect_within _ _) fun _ => .inr

/-- What KITE_CONFIRM may change. -/
abbrev confirmRegs (a : Nat) : Prop :=
  a ∈ [Reg.KTE_DET_CNT, Reg.KTE_MASK_CNT, Reg.KTE_REPORT_PTR, Reg.KTE_SKEW_ALARM_CNT, Reg.KTE_STAT, Reg.KTE_SUPERSEDE_CNT, Reg.KTE_SYNC_CFG] ∨
    arr2 16 4 Reg.KTE_PEER a ∨ arr2 64 16 Reg.KTE_REPORT_RING a ∨ agcRegs a ∨ eventRegs 0x1101 a

/-- KITE_CONFIRM with a candidate (R477). -/
theorem exec_kiteConfirm_spec (hs : s.Canon) (snr : BitVec 8) (power : BitVec 16) {p : KitePeak} (hh : s.hearing = true)
    (hd : s.kte.det = .candidate p) : ∃ t, exec (.kiteConfirm b lag adc snr power) s = .next t ∧ (∀ q,
      s.heardPeak b lag adc = some q → s.confirms p q = true →
      t.kte = { s.kte with det := .receive p q snr.toNat power.toNat (s.bestBeam p.lag lag adc) } ∧
      Counted s t Reg.KTE_DET_CNT 1 ∧ t.fld Reg.KTE_STAT 25 24 = 2 ∧ (∀ p : Fin 64, s.paths[p].agcMode = 2 →
      t.bit (Reg.RXP_AGC_STAT p) 16 = true)) ∧ (s.heardPeak b lag adc = none → t = s) ∧ Frame s t [.paths, .rcd, .kte] confirmRegs := by
  cases hq : s.heardPeak b lag adc with
  | none => exact ⟨s, exec_kiteConfirm_idle _ _ _ _ _ (.inr hq), fun _ h => absurd h.symm (Option.some_ne_none _), fun _ => rfl, Frame.refl ..⟩
  | some q =>
    refine ⟨_, exec_kiteConfirm_candidate _ _ _ _ _ hh hq hd, ?_, fun h => absurd h (Option.some_ne_none _), .ite ?_ ?_⟩
    · rintro _ ⟨⟩ hc
      rw [if_pos hc, State.takeConfirm]
      have hbump := s.bump_within Reg.KTE_DET_CNT
      have hfreeze := (s.bump Reg.KTE_DET_CNT).kiteFreeze_within true
      have hcanon := hbump.canon hs
      have hkte : ((s.bump Reg.KTE_DET_CNT).kiteFreeze true).kte = s.kte := Eq.trans (hfreeze.part_eq .kte) (s.bump_kte _)
      refine ⟨by rw [State.detect_kte, hkte], ?_, State.fld_detect _ (hfreeze.canon hcanon), fun r hr => ?_⟩
      · exact (State.detect_within _ _).counted (hfreeze.counted (s.bump_counted _ hs) (not_agcRegs (by decide))) (by decide)
      · have hapart : Reg.RXP_AGC_STAT r ≠ Reg.KTE_STAT := fun e => absurd (agcStat_lt r) (by rw [e]; decide)
        exact ((State.detect_within _ _).bit hapart 16).trans (State.bit_kiteFreeze true hcanon hr)
    · refine ((s.takeConfirm_within p q _ _ _).mono (qs := [.paths, .rcd, .kte]) ?_).frame
      rintro a ((rfl | h) | rfl)
      · exact .inl (by simp)
      · exact .inr (.inr (.inr (.inl h)))
      · exact .inl (by simp)
    · refine ((s.otherPeak_within q).mono (qs := [.paths, .rcd, .kte]) ?_).frame
      rintro a (h | h | h)
      · refine .inl ?_
        simp only [List.mem_cons, List.not_mem_nil, or_false] at h ⊢
        omega
      · exact .inr (.inr (.inl h))
      · exact .inr (.inr (.inr (.inl h)))

end

/-! ### The end of a candidate and of a reception (R477, R479, R480) -/

section
variable {s : State}

/-- KITE_CONFIRM_MISSED (R477). -/
theorem exec_kiteConfirmMissed_spec (hs : s.Canon) {p : KitePeak} (hd : s.kte.det = .candidate p)
    (hp : p.fit.tick + (1026 + s.nextCp p) * 32 * 65536 < s.now * 65536) : ∃ t, exec .kiteConfirmMissed s = .next t ∧
      t.kte = { s.kte with det := .search } ∧ Counted s t Reg.KTE_FALSE_CNT 1 ∧ t.fld Reg.KTE_STAT 25 24 = 0 ∧
      Frame s t [.kte] (fun a => a ∈ [Reg.KTE_FALSE_CNT, Reg.KTE_STAT]) := by
  have hexec : exec .kiteConfirmMissed s = .next ((s.bump Reg.KTE_FALSE_CNT).detect .search) := by
    refine congrArg Host.Outcome.next ?_
    rw [hd]
    exact if_pos hp
  refine ⟨_, hexec, State.detect_kte _ _, State.counted_bump_detect _ hs (by decide), State.fld_detect _ (s.bump_canon _ hs), ?_⟩
  refine ((s.bump_detect_within .search Reg.KTE_FALSE_CNT).mono ?_).frame
  rintro _ (rfl | rfl) <;> simp

/-- A report, and the detector searches again with its indices free (R475, R477, R480). -/
def State.reportEnd (s : State) (result : Nat) (p q : KitePeak) (snr power best : Nat) (payload : Option (List Byte)) : State :=
  ((s.kiteReport result p q snr power best payload).kiteFreeze false).detect .search

section
variable (p q : KitePeak) (snr power best : Nat)

theorem State.reportEnd_within (s : State) (result : Nat) (payload : Option (List Byte)) :
    Within s (s.reportEnd result p q snr power best payload) [.paths, .rcd, .kte]
      (fun a => ((reportRegs a ∨ peerRegs a) ∨ agcRegs a) ∨ a = Reg.KTE_STAT) := by
  have hrep := (s.kiteReport_within p q snr power best result payload).1
  have hrep' := hrep.mono (qs := [.paths, .rcd, .kte]) (rs' := fun a => (reportRegs a ∨ peerRegs a) ∨ agcRegs a) fun _ => .inl
  exact ((hrep'.step (State.kiteFreeze_within _ false) fun _ => .inr).mono fun _ => .inl).step (State.detect_within _ _) fun _ => .inr

/-- What the end of a reception shows. -/
theorem State.reportEnd_shows (hs : s.Canon) {result : Nat} (hr : result < 16) (payload : Option (List Byte)) :
    (s.reportEnd result p q snr power best payload).kte.det = .search ∧
      (s.reportEnd result p q snr power best payload).fld Reg.KTE_STAT 25 24 = 0 ∧
      Reported s (s.reportEnd result p q snr power best payload) result ∧ ∀ r : Fin 64, s.paths[r].agcMode = 2 →
        (s.reportEnd result p q snr power best payload).bit (Reg.RXP_AGC_STAT r) 16 = false := by
  have hrep := (s.kiteReport_within p q snr power best result payload).1
  have hcanon := hrep.canon hs
  have hfree := (s.kiteReport result p q snr power best payload).kiteFreeze_within false
  have hpaths : (s.kiteReport result p q snr power best payload).paths = s.paths := hrep.part_eq .paths
  obtain ⟨hagc, -, hlow⟩ := reportRing_apart (s.fld Reg.KTE_REPORT_PTR 15 0)
  refine ⟨congrArg Kite.det (State.detect_kte _ _), State.fld_detect _ (hfree.canon hcanon), ?_, fun r hr => ?_⟩
  · exact ((s.kiteReport_reported p q snr power best hs hr payload).of_within hfree (not_agcRegs (by decide)) hagc).of_within
      (State.detect_within _ _) (by decide) (hlow _ (by decide))
  · have hapart : Reg.RXP_AGC_STAT r ≠ Reg.KTE_STAT := fun e => absurd (agcStat_lt r) (by rw [e]; decide)
    exact ((State.detect_within _ _).bit hapart 16).trans (State.bit_kiteFreeze false hcanon (by rw [hpaths]; exact hr))

theorem State.reportEnd_none_kte (s : State) (result : Nat) :
    (s.reportEnd result p q snr power best none).kte = { s.kte with det := .search } := by
  have hkte : ((s.kiteReport result p q snr power best none).kiteFreeze false).kte = s.kte := (s.released_within result).part_eq .kte
  rw [State.reportEnd, State.detect_kte, hkte]

end

theorem exec_kiteDataEnd (adc : Vector (List Adc) 64) {p q : KitePeak} {snr power best : Nat} (hd : s.kte.det = .receive p q snr power best) :
    exec (.kiteDataEnd adc) s = .next (if crc16 ((s.kiteDecode p q adc).take 32) = fieldAt (s.kiteDecode p q adc) 32 2
      then s.reportEnd 0 p q snr power best (some ((s.kiteDecode p q adc).take 32))
      else (s.bump Reg.KTE_CRC_FAIL_CNT).reportEnd 1 p q snr power best none) := by
  refine congrArg Host.Outcome.next ?_
  rw [hd]
  dsimp only
  by_cases hok : crc16 ((s.kiteDecode p q adc).take 32) = fieldAt (s.kiteDecode p q adc) 32 2
  · rw [if_pos hok, if_pos (beq_iff_eq.2 hok)]
    rfl
  · rw [if_neg hok, if_neg (mt beq_iff_eq.1 hok)]
    rfl

/-- What KITE_DATA_END may change. -/
abbrev dataEndRegs (a : Nat) : Prop :=
  a ∈ [Reg.KTE_CRC_FAIL_CNT, Reg.KTE_REPORT_PTR, Reg.KTE_SKEW_ALARM_CNT, Reg.KTE_STAT] ∨ arr2 16 4 Reg.KTE_PEER a ∨
    arr2 64 16 Reg.KTE_REPORT_RING a ∨ agcRegs a ∨ eventRegs 0x1101 a

theorem dataEndRegs_of_reportEnd {a : Nat} (h : ((reportRegs a ∨ peerRegs a) ∨ agcRegs a) ∨ a = Reg.KTE_STAT) : dataEndRegs a := by
  obtain (((rfl | h) | (rfl | h | h)) | h) | rfl := h
  · exact .inl (by simp)
  · exact .inr (.inr (.inl h))
  · exact .inl (by simp)
  · exact .inr (.inl h)
  · exact .inr (.inr (.inr (.inr h)))
  · exact .inr (.inr (.inr (.inl h)))
  · exact .inl (by simp)

/-- The count of receptions with a wrong CRC is none of the registers that the end of a reception changes. -/
theorem crcFailCnt_not_reportEndRegs : ¬ (((reportRegs Reg.KTE_CRC_FAIL_CNT ∨ peerRegs Reg.KTE_CRC_FAIL_CNT) ∨ agcRegs Reg.KTE_CRC_FAIL_CNT) ∨
    Reg.KTE_CRC_FAIL_CNT = Reg.KTE_STAT) := by
  rintro (((h | h) | h) | h)
  · exact not_reportRegs (by decide) (by decide) h
  · exact absurd h (by decide +kernel)
  · exact not_agcRegs (by decide) h
  · exact absurd h (by decide)

/-- KITE_DATA_END (R477, R479, R480). -/
theorem exec_kiteDataEnd_spec (hs : s.Canon) (adc : Vector (List Adc) 64) {p q : KitePeak} {snr power best : Nat}
    (hd : s.kte.det = .receive p q snr power best) : ∃ t, exec (.kiteDataEnd adc) s = .next t ∧ t.kte.det = .search ∧
      t.fld Reg.KTE_STAT 25 24 = 0 ∧ t.fld Reg.KTE_REPORT_PTR 15 0 = (s.fld Reg.KTE_REPORT_PTR 15 0 + 1) % 65536 ∧ (∀ p : Fin 64,
      s.paths[p].agcMode = 2 → t.bit (Reg.RXP_AGC_STAT p) 16 = false) ∧
      (crc16 ((s.kiteDecode p q adc).take 32) = fieldAt (s.kiteDecode p q adc) 32 2 →
      t.fld (Reg.KTE_REPORT_RING (s.fld Reg.KTE_REPORT_PTR 15 0 % 64) 0) 31 28 = 0 ∧
      t.rd Reg.KTE_CRC_FAIL_CNT = s.rd Reg.KTE_CRC_FAIL_CNT) ∧
      (crc16 ((s.kiteDecode p q adc).take 32) ≠ fieldAt (s.kiteDecode p q adc) 32 2 →
      t.fld (Reg.KTE_REPORT_RING (s.fld Reg.KTE_REPORT_PTR 15 0 % 64) 0) 31 28 = 1 ∧ Counted s t Reg.KTE_CRC_FAIL_CNT 1 ∧
      t.kte.peerAt = s.kte.peerAt) ∧ Frame s t [.paths, .rcd, .kte] dataEndRegs := by
  refine ⟨_, exec_kiteDataEnd adc hd, ?_⟩
  by_cases hok : crc16 ((s.kiteDecode p q adc).take 32) = fieldAt (s.kiteDecode p q adc) 32 2
  · rw [if_pos hok]
    have hend := s.reportEnd_within p q snr power best 0 (some ((s.kiteDecode p q adc).take 32))
    obtain ⟨hdet, hstat, ⟨hptr, hring⟩, hfree⟩ := State.reportEnd_shows p q snr power best hs (show 0 < 16 by decide)
      (some ((s.kiteDecode p q adc).take 32))
    exact ⟨hdet, hstat, hptr, hfree, fun _ => ⟨hring, hend.rd crcFailCnt_not_reportEndRegs⟩, fun h => absurd hok h,
      (hend.mono fun _ => dataEndRegs_of_reportEnd).frame⟩
  · rw [if_neg hok]
    have hbump := s.bump_within Reg.KTE_CRC_FAIL_CNT
    have hend := (s.bump Reg.KTE_CRC_FAIL_CNT).reportEnd_within p q snr power best 1 none
    have hptrwas : (s.bump Reg.KTE_CRC_FAIL_CNT).fld Reg.KTE_REPORT_PTR 15 0 = s.fld Reg.KTE_REPORT_PTR 15 0 := hbump.fld (by decide) _ _
    obtain ⟨hdet, hstat, ⟨hptr, hring⟩, hfree⟩ := State.reportEnd_shows p q snr power best (hbump.canon hs) (show 1 < 16 by decide) none
    rw [hptrwas] at hptr hring
    refine ⟨hdet, hstat, hptr, hfree, fun h => absurd h hok, fun _ => ⟨hring, ?_, ?_⟩, ?_⟩
    · exact hend.counted (s.bump_counted _ hs) crcFailCnt_not_reportEndRegs
    · rw [State.reportEnd_none_kte, State.bump_kte]
    · have hcrc : Within s (s.bump Reg.KTE_CRC_FAIL_CNT) [.paths, .rcd, .kte] dataEndRegs := hbump.mono fun _ h => .inl (by simp [h])
      exact (hcrc.step hend fun _ => dataEndRegs_of_reportEnd).frame

end

/-! ### The end of the listen interval (R147, R474, R475, R477) -/

section
variable {s : State}

/-- A reception that still runs is reported truncated and counted (R477). -/
def State.truncate (s : State) : State :=
  match s.kte.det with
  | .receive p q snr power best => (s.bump Reg.KTE_TRUNC_CNT).kiteReport 3 p q snr power best none
  | _ => s

/-- The interval is closed, and the detector is off (R474). -/
def State.closeListen (s : State) : State :=
  ((s.detect .search).setFld Reg.KTE_STAT 25 24 3).setKite fun k => { k with listen := none }

/-- What a truncation changes. -/
abbrev truncateRegs (a : Nat) : Prop := a = Reg.KTE_TRUNC_CNT ∨ reportRegs a

theorem State.truncate_within (s : State) : Within s s.truncate [] truncateRegs := by
  unfold State.truncate
  split
  · exact ((s.bump_within _).mono fun _ => .inl).step (State.kiteReport_none_within _ _ _ _ _ _ _) fun _ => .inr
  · exact .refl ..

theorem State.truncate_shows (hs : s.Canon) {p q : KitePeak} {snr power best : Nat} (hd : s.kte.det = .receive p q snr power best) :
    Counted s s.truncate Reg.KTE_TRUNC_CNT 1 ∧ Reported s s.truncate 3 := by
  have hbump := s.bump_within Reg.KTE_TRUNC_CNT
  have hptr : (s.bump Reg.KTE_TRUNC_CNT).fld Reg.KTE_REPORT_PTR 15 0 = s.fld Reg.KTE_REPORT_PTR 15 0 := hbump.fld (by decide) _ _
  have hrep := State.kiteReport_reported p q snr power best (hbump.canon hs) (show 3 < 16 by decide) none
  rw [Reported, hptr] at hrep
  rw [State.truncate, hd]
  exact ⟨(State.kiteReport_none_within _ _ _ _ _ _ _).counted (s.bump_counted _ hs) (not_reportRegs (by decide) (by decide)), hrep⟩

theorem State.closeListen_within (s : State) : Within s s.closeListen [.kte] (· = Reg.KTE_STAT) :=
  ((s.detect_within .search).step (State.setFld_within _ _ _ _ _) fun _ h => h).part (State.setKite_within _ _)

theorem State.closeListen_shows (hs : s.Canon) :
    s.closeListen.kte = { s.kte with det := .search, listen := none } ∧ s.closeListen.fld Reg.KTE_STAT 25 24 = 3 := by
  refine ⟨?_, ?_⟩
  · rw [State.closeListen, State.setKite, State.setFld_kte, State.detect_kte]
  · rw [State.closeListen, (State.setKite_within _ _).fld id, State.fld_setFld_same ((s.detect_within _).canon hs) _ (by decide) (by decide)]
    rfl

/-- The end of the listen interval on all paths and in the modem. -/
def State.listenOver (s : State) (adc : Vector (List Adc) 64) : State := ((s.countKiteSat adc).truncate.kitePaths State.releaseIndex).closeListen

theorem exec_listenIntervalEnd (adc : Vector (List Adc) 64) (hl : s.kte.listen.isSome = true) (he : s.kte.endsAt ≤ s.now) :
    exec (.listenIntervalEnd adc) s = .next (s.listenOver adc) := by
  refine congrArg Host.Outcome.next (if_neg ?_)
  rw [Option.isNone_eq_false_iff.2 hl, decide_eq_false (Nat.not_lt.2 he)]
  decide

theorem exec_listenIntervalEnd_idle (adc : Vector (List Adc) 64) (h : s.kte.listen = none ∨ s.now < s.kte.endsAt) :
    exec (.listenIntervalEnd adc) s = .next s := by
  refine congrArg Host.Outcome.next (if_pos ?_)
  rcases h with h | h
  · rw [h]
    rfl
  · rw [decide_eq_true h, Bool.or_true]

/-- What LISTEN_INTERVAL_END may change. -/
abbrev listenEndRegs (a : Nat) : Prop :=
  a ∈ [Reg.KTE_REPORT_PTR, Reg.KTE_STAT, Reg.KTE_TRUNC_CNT] ∨ arr 64 Reg.DFE_RX_SAT_CNT a ∨ arr2 64 16 Reg.KTE_REPORT_RING a ∨
    arr 64 Reg.RXP_AGC_STAT a

theorem State.listenOver_within (s : State) (adc : Vector (List Adc) 64) : Within s (s.listenOver adc) [.paths, .kte] listenEndRegs := by
  have hcount : Within s (s.countKiteSat adc) [.paths, .kte] listenEndRegs := (s.countKiteSat_within adc).mono fun _ h => .inr (.inl h)
  refine ((hcount.step (State.truncate_within _) ?_).step kiteTurn_release.kitePaths_within fun _ h => .inr (.inr (.inr h))).step
    (State.closeListen_within _) fun _ h => .inl (by simp [h])
  rintro a (rfl | rfl | h)
  · exact .inl (by simp)
  · exact .inl (by simp)
  · exact .inr (.inr (.inl h))

/-- What the end of the listen interval leaves of a truncation. -/
theorem State.listenOver_after_truncate (s : State) (adc : Vector (List Adc) 64) :
    Within (s.countKiteSat adc).truncate (s.listenOver adc) [.paths, .kte] (fun a => agcRegs a ∨ a = Reg.KTE_STAT) :=
  (kiteTurn_release.kitePaths_within.mono fun _ => .inl).step (State.closeListen_within _) fun _ => .inr

/-- LISTEN_INTERVAL_END after the interval (R147, R475, R477). -/
theorem exec_listenIntervalEnd_spec (hs : s.Canon) (adc : Vector (List Adc) 64) (hl : s.kte.listen.isSome = true) (he : s.kte.endsAt ≤ s.now) :
    ∃ t, exec (.listenIntervalEnd adc) s = .next t ∧ t.kte.listen = none ∧ (∀ p : Fin 64,
      Counted s t (Reg.DFE_RX_SAT_CNT p) (s.kiteSat p adc[p])) ∧ (∀ p : Fin 64, s.paths[p].agcMode = 2 →
      t.fld (Reg.RXP_AGC_STAT p) 12 8 = fldOf s.paths[p].agcCfg 12 8) ∧ t.kte.det = .search ∧ t.fld Reg.KTE_STAT 25 24 = 3 ∧
      (∀ p : Fin 64, s.paths[p].agcMode = 2 → t.bit (Reg.RXP_AGC_STAT p) 16 = false) ∧ (∀ p q snr power best,
      s.kte.det = .receive p q snr power best → Counted s t Reg.KTE_TRUNC_CNT 1 ∧
      t.fld Reg.KTE_REPORT_PTR 15 0 = (s.fld Reg.KTE_REPORT_PTR 15 0 + 1) % 65536 ∧
      t.fld (Reg.KTE_REPORT_RING (s.fld Reg.KTE_REPORT_PTR 15 0 % 64) 0) 31 28 = 3) ∧ Frame s t [.paths, .kte] listenEndRegs := by
  have hcount := s.countKiteSat_within adc
  have htrunc := (s.countKiteSat adc).truncate_within
  have hrest := s.listenOver_after_truncate adc
  have hcanon := htrunc.canon (hcount.canon hs)
  have hpaths : (s.countKiteSat adc).truncate.paths = s.paths := Eq.trans (htrunc.part_eq .paths) (hcount.part_eq .paths)
  have hkte : (s.countKiteSat adc).kte = s.kte := hcount.part_eq .kte
  obtain ⟨hclosed, hstat⟩ := State.closeListen_shows (kiteTurn_release.kitePaths_within.canon hcanon)
  have hfree : ∀ p : Fin 64, s.paths[p].agcMode = 2 → (s.listenOver adc).fld (Reg.RXP_AGC_STAT p) 12 8 = fldOf s.paths[p].agcCfg 12 8 ∧
      (s.listenOver adc).bit (Reg.RXP_AGC_STAT p) 16 = false := fun p hp => by
    have hapart : Reg.RXP_AGC_STAT p ≠ Reg.KTE_STAT := fun e => absurd (agcStat_lt p) (by rw [e]; decide)
    have hshows := State.kiteRelease_shows hcanon (p := p) (by rw [hpaths]; exact hp)
    rw [hpaths] at hshows
    have hclose := ((s.countKiteSat adc).truncate.kitePaths State.releaseIndex).closeListen_within
    exact ⟨(hclose.fld hapart _ _).trans hshows.1, (hclose.bit hapart _).trans hshows.2⟩
  refine ⟨_, exec_listenIntervalEnd adc hl he, congrArg Kite.listen hclosed, fun p => ?_, fun p hp => (hfree p hp).1,
    congrArg Kite.det hclosed, hstat, fun p hp => (hfree p hp).2, fun p q snr power best hd => ?_, (s.listenOver_within adc).frame⟩
  · have hsat : 0xB000000 ≤ Reg.DFE_RX_SAT_CNT p ∧ Reg.DFE_RX_SAT_CNT p < 0xC000000 := by
      dsimp only [Reg.DFE_RX_SAT_CNT]
      omega
    have hptr : Reg.DFE_RX_SAT_CNT p ≠ Reg.KTE_REPORT_PTR := fun e => absurd hsat.2 (by rw [e]; decide)
    have hcnt : Reg.DFE_RX_SAT_CNT p ≠ Reg.KTE_TRUNC_CNT := fun e => absurd hsat.2 (by rw [e]; decide)
    have hst : Reg.DFE_RX_SAT_CNT p ≠ Reg.KTE_STAT := fun e => absurd hsat.2 (by rw [e]; decide)
    exact hrest.counted (htrunc.counted (State.counted_countKiteSat adc hs p) (not_or.2 ⟨hcnt, not_reportRegs (by omega) hptr⟩))
      (not_or.2 ⟨not_agcRegs hsat.1, hst⟩)
  · obtain ⟨hcounted, hreported⟩ := State.truncate_shows (hcount.canon hs) ((congrArg Kite.det hkte).trans hd)
    have hptrwas : (s.countKiteSat adc).fld Reg.KTE_REPORT_PTR 15 0 = s.fld Reg.KTE_REPORT_PTR 15 0 :=
      hcount.fld (not_rxSatRegs (.inr (by decide))) _ _
    rw [Reported, hptrwas] at hreported
    obtain ⟨hagc, -, hlow⟩ := reportRing_apart (s.fld Reg.KTE_REPORT_PTR 15 0)
    have hover : Reported s (s.listenOver adc) 3 := Reported.of_within hreported hrest
      (not_or.2 ⟨not_agcRegs (by decide), by decide⟩) (not_or.2 ⟨hagc, hlow _ (by decide)⟩)
    have htotal : Counted s (s.countKiteSat adc).truncate Reg.KTE_TRUNC_CNT 1 :=
      hcount.counted_after hcounted (not_rxSatRegs (.inr (by decide)))
    exact ⟨hrest.counted htotal (not_or.2 ⟨not_agcRegs (by decide), by decide⟩), hover⟩

end

end

/-- Settles O37: what the detector does is put together from a count, a report of the ring (`Reported`), a turn of the gain indices under kite
control (`KiteTurn`) and a new state (`State.detect`), each of which names the registers that it changes. -/
theorem kiteDetector : Obligations.KiteDetector := by
  unfold Obligations.KiteDetector
  intro s hs
  exact ⟨fun b lag adc hh hd => exec_kitePeak_search_spec b lag adc hs hh hd,
    fun b lag adc p hh hd => exec_kitePeak_candidate_spec b lag adc hs hh hd,
    fun b lag adc p r snr power best hh hd => exec_kitePeak_receive_spec b lag adc hs hh hd,
    fun b lag adc hh => exec_kitePeak_idle (.inl hh),
    fun b lag adc snr power p hh hd => exec_kiteConfirm_spec b lag adc hs snr power hh hd,
    fun b lag adc snr power hh => exec_kiteConfirm_idle b lag adc snr power (.inl hh),
    fun p hd hp => exec_kiteConfirmMissed_spec hs hd hp,
    fun hd => congrArg Host.Outcome.next (by rw [hd]),
    fun adc p q snr power best hd => exec_kiteDataEnd_spec hs adc hd,
    fun adc hd => congrArg Host.Outcome.next (by rw [hd]),
    fun adc hl he => exec_listenIntervalEnd_spec hs adc hl he,
    fun adc h => exec_listenIntervalEnd_idle adc h⟩

end Sys2Proof.Machine

namespace Sys2Proof.Machine

section
set_option Elab.async false

/-! ## The beam matrix: management writes of lasts

### The directory and the grants (R185 to R189) -/

/-- A value that differs from the unlisted one is read back from any table. -/
theorem tabGet_put_same_of_ne {α : Type} [DecidableEq α] (d : Nat → α) (t : List (Nat × α)) (k : Nat) {v : α} (h : v ≠ d k) :
    tabGet d (tabPut d t k v) k = v := by
  rw [tabPut, if_neg h]
  exact tabGet_insert_same d t k v

section
variable (s : State)

theorem Within.of_bmx (x : Bmx) : Within s { s with bmx := x } [.bmx] noRegs :=
  ⟨⟨fun p h => by cases p <;> simp [Part.same] at h ⊢, fun _ _ => rfl⟩, id, List.Subset.refl _⟩

theorem State.setBmx_within (f : Bmx → Bmx) : Within s (s.setBmx f) [.bmx] noRegs := .of_bmx s _

theorem State.setDir_within (i : Nat) (f : DirEntry → DirEntry) : Within s (s.setDir i f) [.bmx] noRegs := .of_bmx s _

theorem State.freeNat_within : Within s s.freeNat.2 [.freeIdx] noRegs := ⟨s.freeNat_frame, s.freeNat_canon, List.Subset.refl _⟩

theorem State.dirOf_setDir_same (i : Nat) (f : DirEntry → DirEntry) (h : f (s.dirOf i) ≠ {}) : (s.setDir i f).dirOf i = f (s.dirOf i) :=
  tabGet_put_same_of_ne _ _ _ h

/-- In a directory in canonical form any entry is read back, an empty one too. -/
theorem State.dirOf_setDir_of_wf (i : Nat) (f : DirEntry → DirEntry) (h : tabWf (fun _ => ({} : DirEntry)) s.bmx.dir = true) :
    (s.setDir i f).dirOf i = f (s.dirOf i) := tabGet_put_same _ _ _ h

theorem State.dirOf_setDir_other {i k : Nat} (f : DirEntry → DirEntry) (h : k ≠ i) : (s.setDir i f).dirOf k = s.dirOf k :=
  tabGet_put_other _ _ _ h

variable {s}

theorem State.dirOf_congr {t : State} (h : t.bmx.dir = s.bmx.dir) (i : Nat) : t.dirOf i = s.dirOf i := by
  rw [State.dirOf, State.dirOf, h]

theorem State.dirOf_setBit (a i : Nat) (b : Bool) (k : Nat) : (s.setBit a i b).dirOf k = s.dirOf k :=
  State.dirOf_congr (congrArg Bmx.dir (s.setBit_bmx a i b)) k

theorem State.fetching_congr {t : State} (h : t.bmx = s.bmx) (i b : Nat) : t.fetching i b = s.fetching i b := by
  rw [State.fetching, State.fetching, h]

theorem State.mgmtGrant_congr {t : State} (h : t.bmx = s.bmx) : t.mgmtGrant = s.mgmtGrant := by
  rw [State.mgmtGrant, State.mgmtGrant, h]

/-- What leaves BMX_LAST_BASE alone leaves the slots where they are (R183). -/
theorem Within.slotAddr {t : State} {ps : List Part} {rs : Nat → Prop} (h : Within s t ps rs) (ha : ¬ rs Reg.BMX_LAST_BASE) (i b : Nat) :
    t.slotAddr i b = s.slotAddr i b := by
  rw [State.slotAddr, State.slotAddr, State.lastBase, State.lastBase, h.fld ha]

/-- What leaves BMX_LAST_CNT alone leaves the number of lasts (R183). -/
theorem Within.nLast {t : State} {ps : List Part} {rs : Nat → Prop} (h : Within s t ps rs) (ha : ¬ rs Reg.BMX_LAST_CNT) :
    t.nLast = s.nLast := h.fld ha _ _

end

/-! #### What BMX_LAST_OPEN shows (R189) -/

/-- BMX_LAST_OPEN shows whether a request waits, and the result of the last one. -/
def State.showOpen (s : State) (waits : Bool) (result : Nat) : State :=
  (s.setBit Reg.BMX_LAST_OPEN 31 waits).setFld Reg.BMX_LAST_OPEN 29 28 result

/-- The fields of a write of BMX_LAST_OPEN are stored. -/
def State.storeOpen (s : State) (w : Word) : State :=
  ((s.setFld Reg.BMX_LAST_OPEN 26 24 (fldOf w 26 24)).setFld Reg.BMX_LAST_OPEN 20 16 (fldOf w 20 16)).setFld Reg.BMX_LAST_OPEN 10 0
    (fldOf w 10 0)

section
variable (s : State)

theorem State.showOpen_within (waits : Bool) (result : Nat) : Within s (s.showOpen waits result) [] (· = Reg.BMX_LAST_OPEN) :=
  (s.setBit_within _ _ _).trans (State.setFld_within _ _ _ _ _)

theorem State.storeOpen_within (w : Word) : Within s (s.storeOpen w) [] (· = Reg.BMX_LAST_OPEN) :=
  ((s.setFld_within _ _ _ _).trans (State.setFld_within _ _ _ _ _)).trans (State.setFld_within _ _ _ _ _)

variable {s} (hs : s.Canon)
include hs

theorem State.showOpen_shows (waits : Bool) (result : Nat) :
    (s.showOpen waits result).bit Reg.BMX_LAST_OPEN 31 = waits ∧ (s.showOpen waits result).fld Reg.BMX_LAST_OPEN 29 28 = result % 4 := by
  have hc := s.setBit_canon Reg.BMX_LAST_OPEN 31 waits hs
  refine ⟨?_, State.fld_setFld_same hc _ (by decide) (by decide)⟩
  rw [State.bit, State.showOpen, State.fld_setFld_apart hc _ (by decide) (by decide) (le_refl 31) (by decide), ← State.bit,
    s.bit_setBit_same _ _ _ (by decide) hs]

/-- The result leaves the fields below it. -/
theorem State.fld_showOpen_below (waits : Bool) (result : Nat) {hi lo : Nat} (hl : lo ≤ hi) (h : hi < 28) :
    (s.showOpen waits result).fld Reg.BMX_LAST_OPEN hi lo = s.fld Reg.BMX_LAST_OPEN hi lo := by
  rw [State.showOpen, State.fld_setFld_apart (s.setBit_canon _ _ _ hs) _ (by decide) (by decide) hl (.inr h), State.setBit,
    State.fld_setFld_apart hs _ (le_refl 31) (by decide) hl (by omega)]

/-- Each stored field reads as written, and the result stays. -/
theorem State.storeOpen_shows (w : Word) :
    (s.storeOpen w).fld Reg.BMX_LAST_OPEN 26 24 = fldOf w 26 24 ∧ (s.storeOpen w).fld Reg.BMX_LAST_OPEN 20 16 = fldOf w 20 16 ∧
      (s.storeOpen w).fld Reg.BMX_LAST_OPEN 10 0 = fldOf w 10 0 ∧
      (s.storeOpen w).fld Reg.BMX_LAST_OPEN 31 28 = s.fld Reg.BMX_LAST_OPEN 31 28 := by
  have h1 := s.setFld_canon Reg.BMX_LAST_OPEN 26 24 (fldOf w 26 24) hs
  have h2 := State.setFld_canon _ Reg.BMX_LAST_OPEN 20 16 (fldOf w 20 16) h1
  have hread : ∀ {u : State}, u.Canon → ∀ hi lo, lo ≤ hi → hi < 32 →
      (u.setFld Reg.BMX_LAST_OPEN hi lo (fldOf w hi lo)).fld Reg.BMX_LAST_OPEN hi lo = fldOf w hi lo := fun hu hi lo hl h32 => by
    rw [State.fld_setFld_same hu _ hl h32, Nat.mod_eq_of_lt (fldOf_lt w hi lo)]
  refine ⟨?_, ?_, hread h2 _ _ (by decide) (by decide), ?_⟩
  · rw [State.storeOpen, State.fld_setFld_apart h2 _ (by decide) (by decide) (by decide) (by decide),
      State.fld_setFld_apart h1 _ (by decide) (by decide) (by decide) (by decide), hread hs _ _ (by decide) (by decide)]
  · rw [State.storeOpen, State.fld_setFld_apart h2 _ (by decide) (by decide) (by decide) (by decide), hread h1 _ _ (by decide) (by decide)]
  · rw [State.storeOpen, State.fld_setFld_apart h2 _ (by decide) (by decide) (by decide) (by decide),
      State.fld_setFld_apart h1 _ (by decide) (by decide) (by decide) (by decide),
      State.fld_setFld_apart hs _ (by decide) (by decide) (by decide) (by decide)]

end

/-! #### The grant shown to management (R189) -/

/-- The registers that show a management grant. -/
abbrev grantRegs (a : Nat) : Prop := a ∈ [Reg.BMX_LAST_OPEN, Reg.BMX_LAST_SLOT]

section
variable (s : State) (g : Grant) (b : Nat)

theorem State.showGrant_solve {g : Grant} (h : g.mgmt = false) : s.showGrant g b = s := if_neg (by simp [h])

theorem State.showGrant_mgmt {g : Grant} (h : g.mgmt = true) :
    s.showGrant g b = (s.showOpen false 2).wr Reg.BMX_LAST_SLOT (BitVec.ofNat 32 (s.slotAddr g.last b)) := by
  rw [← (s.showOpen_within false 2).slotAddr (by decide)]
  exact if_pos h

theorem State.showGrant_within : Within s (s.showGrant g b) [] grantRegs := by
  cases h : g.mgmt
  · rw [s.showGrant_solve b h]
    exact .refl ..
  · rw [s.showGrant_mgmt b h]
    exact ((s.showOpen_within false 2).mono fun _ h => by simp [h]).step (State.wr_within _ _ _) fun _ h => by simp [h]

variable {s g}

/-- Management sees its grant: no request waits, the result is 2, and the slot's address. -/
theorem State.showGrant_shows (hs : s.Canon) (h : g.mgmt = true) :
    (s.showGrant g b).bit Reg.BMX_LAST_OPEN 31 = false ∧ (s.showGrant g b).fld Reg.BMX_LAST_OPEN 29 28 = 2 ∧
      (s.showGrant g b).rd Reg.BMX_LAST_SLOT = BitVec.ofNat 32 (s.slotAddr g.last b) := by
  obtain ⟨hwaits, hresult⟩ := State.showOpen_shows hs false 2
  have hslot := (s.showOpen false 2).wr_within Reg.BMX_LAST_SLOT (BitVec.ofNat 32 (s.slotAddr g.last b))
  rw [s.showGrant_mgmt b h]
  exact ⟨(hslot.bit (by decide) _).trans hwaits, (hslot.fld (by decide) _ _).trans hresult,
    State.rd_wr_same _ _ _ ((s.showOpen_within false 2).canon hs)⟩

end

/-! #### A writer asks for a last (R186, R187) -/

section
variable (s : State) (g : Grant)

/-- The bank that the writer of last `i` is given: the one without the committed version; where there is none, a free value says which. -/
def State.bankFor (i : Nat) : Nat := (if (s.dirOf i).valid then 1 - (s.dirOf i).bank else Config.free s.freeIdx) % 2

/-- The free value is taken where there is no committed version. -/
def State.bankChosen (i : Nat) : State := if (s.dirOf i).valid then s else s.freeNat.2

/-- The last of a grant is busy, and the grant stands last. -/
def State.addGrant : State :=
  ((s.bankChosen g.last).setDir g.last fun e => { e with busy := true }).setBmx fun m => { m with grants := m.grants ++ [g] }

variable {s g}

theorem State.bankFor_congr {t : State} (hb : t.bmx = s.bmx) (hf : t.freeIdx = s.freeIdx) (i : Nat) : t.bankFor i = s.bankFor i := by
  rw [State.bankFor, State.bankFor, State.dirOf_congr (congrArg Bmx.dir hb), hf]

theorem State.askGrant_refused (h : s.nLast ≤ g.last ∨ (s.dirOf g.last).busy = true) :
    s.askGrant g = (s.bump Reg.BMX_WRITE_REFUSE_CNT, false) := if_pos h

theorem State.askGrant_granted (hlast : g.last < s.nLast) (hbusy : (s.dirOf g.last).busy = false) : s.askGrant g =
    (if s.fetching g.last (s.bankFor g.last) then s.addGrant g
      else (s.addGrant { g with bank := some (s.bankFor g.last) }).showGrant g (s.bankFor g.last), true) := by
  rw [State.askGrant, if_neg (by simp [hbusy, hlast]), apply_ite (fun t : State => (t, true)), State.bankFor, State.addGrant, State.addGrant,
    State.bankChosen]
  cases (s.dirOf g.last).valid
  · rfl
  · rfl

variable (s g)

theorem State.bankChosen_within (i : Nat) : Within s (s.bankChosen i) [.freeIdx] noRegs := .ite (.refl ..) s.freeNat_within

theorem State.addGrant_within : Within s (s.addGrant g) [.bmx, .freeIdx] noRegs :=
  (((s.bankChosen_within g.last).mono fun _ h => h).part (State.setDir_within _ _ _)).part (State.setBmx_within _ _)

/-- A grant that joins makes its last busy, and leaves the other lasts, the cache and the sections. -/
theorem State.addGrant_bmx : ((s.addGrant g).dirOf g.last).busy = true ∧ (s.addGrant g).bmx.grants = s.bmx.grants ++ [g] ∧
    (∀ k, k ≠ g.last → (s.addGrant g).dirOf k = s.dirOf k) ∧ (s.addGrant g).bmx.cache = s.bmx.cache ∧
    (s.addGrant g).bmx.held = s.bmx.held := by
  have hbmx : (s.bankChosen g.last).bmx = s.bmx := (s.bankChosen_within g.last).part_eq .bmx
  have hentry : (s.addGrant g).dirOf g.last = { (s.bankChosen g.last).dirOf g.last with busy := true } :=
    (s.bankChosen g.last).dirOf_setDir_same g.last (fun e => { e with busy := true }) fun h => Bool.noConfusion (congrArg DirEntry.busy h)
  refine ⟨congrArg DirEntry.busy hentry, ?_, fun k hk => ?_, ?_, ?_⟩
  · show (s.bankChosen g.last).bmx.grants ++ [g] = _
    rw [hbmx]
  · exact ((s.bankChosen g.last).dirOf_setDir_other (fun e => { e with busy := true }) hk).trans (State.dirOf_congr (congrArg Bmx.dir hbmx) k)
  · show (s.bankChosen g.last).bmx.cache = _
    rw [hbmx]
  · show (s.bankChosen g.last).bmx.held = _
    rw [hbmx]

end

/-! ### LAST_OPEN (R186, R187, R189) -/

/-- The grant that a write of BMX_LAST_OPEN asks for. -/
def openGrant (w : Word) (bank : Option Nat) : Grant :=
  { last := fldOf w 10 0, mgmt := true, nCol := fldOf w 20 16, bw := fldOf w 26 24, bank := bank }

section
variable (s : State) (w : Word)

/-- The request waits: the fields are stored, and no result is shown. -/
def State.askOpen : State := (s.storeOpen w).showOpen true 0

/-- The bank that is asked for is still fetched from (R187). -/
def State.openHeld : Bool := s.fetching (fldOf w 10 0) (s.bankFor (fldOf w 10 0))

/-- The grant stands among the others, with its bank where no fetch holds it back. -/
def State.openAsked : State :=
  (s.askOpen w).addGrant (openGrant w (if s.openHeld w = true then none else some (s.bankFor (fldOf w 10 0))))

/-- A grant that is not held back is shown. -/
def State.opened : State :=
  if s.openHeld w = true then s.openAsked w else (s.openAsked w).showGrant (openGrant w none) (s.bankFor (fldOf w 10 0))

theorem State.askOpen_within : Within s (s.askOpen w) [] (· = Reg.BMX_LAST_OPEN) :=
  (s.storeOpen_within w).trans (State.showOpen_within _ _ _)

theorem State.openAsked_within : Within s (s.openAsked w) [.bmx, .freeIdx] (· = Reg.BMX_LAST_OPEN) :=
  ((s.askOpen_within w).mono fun _ h => h).part (State.addGrant_within _ _)

/-- What a request makes of the directory and the grants. -/
theorem State.openAsked_bmx : ((s.openAsked w).dirOf (fldOf w 10 0)).busy = true ∧
    (s.openAsked w).bmx.grants =
      s.bmx.grants ++ [openGrant w (if s.openHeld w = true then none else some (s.bankFor (fldOf w 10 0)))] ∧
    (∀ k, k ≠ fldOf w 10 0 → (s.openAsked w).dirOf k = s.dirOf k) ∧ (s.openAsked w).bmx.cache = s.bmx.cache ∧
    (s.openAsked w).bmx.held = s.bmx.held := by
  have hbmx : (s.askOpen w).bmx = s.bmx := (s.askOpen_within w).part_eq .bmx
  have hadd := (s.askOpen w).addGrant_bmx (openGrant w (if s.openHeld w = true then none else some (s.bankFor (fldOf w 10 0))))
  simp only [State.dirOf_congr (congrArg Bmx.dir hbmx), hbmx] at hadd
  exact hadd

theorem State.opened_after_openAsked : Within (s.openAsked w) (s.opened w) [] grantRegs := .ite (.refl ..) (State.showGrant_within _ _ _)

theorem State.opened_within : Within s (s.opened w) [.bmx, .freeIdx] grantRegs :=
  ((s.openAsked_within w).mono fun _ h => by simp [h]).step (s.opened_after_openAsked w) fun _ h => h

variable {s w}

theorem State.writeLastOpen_store (h : bitOf w.toNat 31 = false) : s.writeLastOpen w = s.storeOpen w := by
  rw [State.writeLastOpen, if_neg (by rw [fldOf_one_bit, h]; decide), State.storeOpen]

theorem State.writeLastOpen_open (h : bitOf w.toNat 31 = true) (hm : s.mgmtGrant.isSome = true) :
    s.writeLastOpen w = ((s.storeOpen w).bump Reg.BMX_WRITE_REFUSE_CNT).setBit Reg.BMX_LAST_OPEN 28 true := by
  rw [← State.mgmtGrant_congr ((s.storeOpen_within w).part_eq .bmx)] at hm
  rw [State.writeLastOpen, if_pos ((fldOf_one_bit w 31).2 h), ← State.storeOpen, if_pos hm]

/-- go without an open write asks for the grant. -/
theorem State.writeLastOpen_asks (h : bitOf w.toNat 31 = true) (hm : s.mgmtGrant = none) {t : State} {ok : Bool}
    (ha : (s.askOpen w).askGrant (openGrant w none) = (t, ok)) : s.writeLastOpen w = if ok then t else t.showOpen false 1 := by
  rw [← State.mgmtGrant_congr ((s.storeOpen_within w).part_eq .bmx)] at hm
  rw [State.writeLastOpen, if_pos ((fldOf_one_bit w 31).2 h), ← State.storeOpen, if_neg (by rw [hm]; decide), State.showOpen]
  extract_lets u
  have hu : u.askGrant (openGrant w none) = (t, ok) := ha
  rw [openGrant] at hu
  rw [hu]

theorem State.writeLastOpen_refused (h : bitOf w.toNat 31 = true) (hm : s.mgmtGrant = none)
    (hr : s.nLast ≤ fldOf w 10 0 ∨ (s.dirOf (fldOf w 10 0)).busy = true) :
    s.writeLastOpen w = ((s.askOpen w).bump Reg.BMX_WRITE_REFUSE_CNT).showOpen false 1 := by
  rw [← (s.askOpen_within w).nLast (by decide), ← State.dirOf_congr (congrArg Bmx.dir ((s.askOpen_within w).part_eq .bmx))] at hr
  exact (State.writeLastOpen_asks h hm (State.askGrant_refused hr)).trans (if_neg Bool.false_ne_true)

theorem State.writeLastOpen_granted (h : bitOf w.toNat 31 = true) (hm : s.mgmtGrant = none) (hlast : fldOf w 10 0 < s.nLast)
    (hbusy : (s.dirOf (fldOf w 10 0)).busy = false) : s.writeLastOpen w = s.opened w := by
  have hbmx : (s.askOpen w).bmx = s.bmx := (s.askOpen_within w).part_eq .bmx
  rw [← (s.askOpen_within w).nLast (by decide)] at hlast
  rw [← State.dirOf_congr (congrArg Bmx.dir hbmx)] at hbusy
  have hbank := State.bankFor_congr hbmx ((s.askOpen_within w).part_eq .freeIdx) (fldOf w 10 0)
  have hfetch := State.fetching_congr hbmx (fldOf w 10 0) (s.bankFor (fldOf w 10 0))
  rw [State.writeLastOpen_asks h hm (State.askGrant_granted (g := openGrant w none) hlast hbusy), if_pos rfl,
    show (openGrant w none).last = fldOf w 10 0 from rfl, hbank, hfetch, State.opened, State.openAsked, State.openHeld]
  split
  · rfl
  · rfl

theorem exec_lastOpen (hw : s.writable = true) : exec (.lastOpen w) s = .next (s.writeLastOpen w) := congrArg Host.Outcome.next (if_pos hw)

end

section
variable {s : State} {w : Word}

/-- A field of two bits that holds 1 has its lower bit set. -/
theorem State.bit_of_fld_one {a i : Nat} (h : s.fld a (i + 1) i = 1) : s.bit a i = true := by
  simp only [State.fld, fldOf, show i + 1 + 1 - i = 2 by omega] at h
  simp only [State.bit, State.fld, fldOf, show i + 1 - i = 1 by omega, decide_eq_true_eq]
  omega

theorem exec_lastOpen_refused_spec (hs : s.Canon) (hw : s.writable = true) (h : bitOf w.toNat 31 = true)
    (hr : s.mgmtGrant.isSome = true ∨ s.nLast ≤ fldOf w 10 0 ∨ (s.dirOf (fldOf w 10 0)).busy = true) :
    ∃ t, exec (.lastOpen w) s = .next t ∧ Counted s t Reg.BMX_WRITE_REFUSE_CNT 1 ∧ t.bit Reg.BMX_LAST_OPEN 28 = true ∧
      t.fld Reg.BMX_LAST_OPEN 10 0 = fldOf w 10 0 ∧ Frame s t [] (fun a => a ∈ [Reg.BMX_LAST_OPEN, Reg.BMX_WRITE_REFUSE_CNT]) := by
  have hstored := s.storeOpen_within w
  obtain ⟨-, -, hfield, -⟩ := State.storeOpen_shows hs w
  refine ⟨_, exec_lastOpen hw, ?_⟩
  cases hm : s.mgmtGrant with
  | some g =>
    have hbump := (s.storeOpen w).bump_within Reg.BMX_WRITE_REFUSE_CNT
    have hlast := ((s.storeOpen w).bump Reg.BMX_WRITE_REFUSE_CNT).setBit_within Reg.BMX_LAST_OPEN 28 true
    have hcanon := hbump.canon (hstored.canon hs)
    rw [State.writeLastOpen_open h (by rw [hm]; rfl)]
    refine ⟨?_, State.bit_setBit_same _ _ _ _ (by decide) hcanon, ?_, ?_⟩
    · exact hlast.counted (hstored.counted_after (State.bump_counted _ _ (hstored.canon hs)) (by decide)) (by decide)
    · rw [State.setBit, State.fld_setFld_apart hcanon _ (by decide) (by decide) (by decide) (by decide), hbump.fld (by decide), hfield]
    · exact (((hstored.mono fun _ h => by simp [h]).step hbump fun _ h => by simp [h]).step hlast fun _ h => by simp [h]).frame
  | none =>
    have hasked := s.askOpen_within w
    have hbump := (s.askOpen w).bump_within Reg.BMX_WRITE_REFUSE_CNT
    have hlast := ((s.askOpen w).bump Reg.BMX_WRITE_REFUSE_CNT).showOpen_within false 1
    have hcanon := hbump.canon (hasked.canon hs)
    rw [hm] at hr
    rw [State.writeLastOpen_refused h hm (hr.resolve_left (by decide))]
    refine ⟨?_, State.bit_of_fld_one (State.showOpen_shows hcanon false 1).2, ?_, ?_⟩
    · exact hlast.counted (hasked.counted_after (State.bump_counted _ _ (hasked.canon hs)) (by decide)) (by decide)
    · rw [State.fld_showOpen_below hcanon _ _ (by decide) (by decide), hbump.fld (by decide), State.askOpen,
        State.fld_showOpen_below (hstored.canon hs) _ _ (by decide) (by decide), hfield]
    · exact (((hasked.mono fun _ h => by simp [h]).step hbump fun _ h => by simp [h]).step hlast fun _ h => by simp [h]).frame

/-- A request that no fetch holds back is granted at once, and one that is held back waits (R187, R189). -/
theorem State.opened_shows (hs : s.Canon) :
    (s.openHeld w = true → (s.opened w).bit Reg.BMX_LAST_OPEN 31 = true ∧ (s.opened w).fld Reg.BMX_LAST_OPEN 29 28 = 0) ∧
      (s.openHeld w = false → (s.opened w).bit Reg.BMX_LAST_OPEN 31 = false ∧ (s.opened w).fld Reg.BMX_LAST_OPEN 29 28 = 2 ∧
        (s.opened w).rd Reg.BMX_LAST_SLOT = BitVec.ofNat 32 (s.slotAddr (fldOf w 10 0) (s.bankFor (fldOf w 10 0)))) := by
  have hasked := s.openAsked_within w
  refine ⟨fun hheld => ?_, fun hheld => ?_⟩
  · obtain ⟨hwaits, hresult⟩ := State.showOpen_shows ((s.storeOpen_within w).canon hs) true 0
    have hadd := (s.askOpen w).addGrant_within (openGrant w (if s.openHeld w = true then none else some (s.bankFor (fldOf w 10 0))))
    rw [State.opened, if_pos hheld]
    exact ⟨(hadd.bit id _).trans hwaits, (hadd.fld id _ _).trans hresult⟩
  · have hshows := State.showGrant_shows (g := openGrant w none) (s.bankFor (fldOf w 10 0)) (hasked.canon hs) rfl
    rw [hasked.slotAddr (by decide)] at hshows
    rw [State.opened, if_neg (by simp [hheld])]
    exact hshows

theorem exec_lastOpen_granted_spec (hs : s.Canon) (hw : s.writable = true) (h : bitOf w.toNat 31 = true) (hm : s.mgmtGrant = none)
    (hlast : fldOf w 10 0 < s.nLast) (hbusy : (s.dirOf (fldOf w 10 0)).busy = false) :
    ∃ t, exec (.lastOpen w) s = .next t ∧ (t.dirOf (fldOf w 10 0)).busy = true ∧
      (∃ b < 2, ((s.dirOf (fldOf w 10 0)).valid = true → b = (1 - (s.dirOf (fldOf w 10 0)).bank) % 2) ∧
        t.bmx.grants = s.bmx.grants ++ [openGrant w (if s.fetching (fldOf w 10 0) b = true then none else some b)] ∧
        (s.fetching (fldOf w 10 0) b = true → t.bit Reg.BMX_LAST_OPEN 31 = true ∧ t.fld Reg.BMX_LAST_OPEN 29 28 = 0) ∧
        (s.fetching (fldOf w 10 0) b = false → t.bit Reg.BMX_LAST_OPEN 31 = false ∧ t.fld Reg.BMX_LAST_OPEN 29 28 = 2 ∧
          t.rd Reg.BMX_LAST_SLOT = BitVec.ofNat 32 (s.slotAddr (fldOf w 10 0) b))) ∧
      (∀ k : Fin 2048, k.val ≠ fldOf w 10 0 → t.dirOf k = s.dirOf k) ∧ t.bmx.cache = s.bmx.cache ∧ t.bmx.held = s.bmx.held ∧
      Frame s t [.bmx, .freeIdx] grantRegs := by
  have hbmx : (s.opened w).bmx = (s.openAsked w).bmx := (s.opened_after_openAsked w).part_eq .bmx
  have hdir := State.dirOf_congr (congrArg Bmx.dir hbmx)
  obtain ⟨hheld, hgranted⟩ := State.opened_shows (w := w) hs
  obtain ⟨hbusies, hgrants, hothers, hcache, hsections⟩ := s.openAsked_bmx w
  refine ⟨_, (exec_lastOpen hw).trans (congrArg Host.Outcome.next (State.writeLastOpen_granted h hm hlast hbusy)), ?_,
    ⟨s.bankFor (fldOf w 10 0), Nat.mod_lt _ (by decide), fun hv => ?_, (congrArg Bmx.grants hbmx).trans hgrants, hheld, hgranted⟩,
    fun k hk => (hdir k).trans (hothers k hk), (congrArg Bmx.cache hbmx).trans hcache, (congrArg Bmx.held hbmx).trans hsections,
    (s.opened_within w).frame⟩
  · exact (congrArg DirEntry.busy (hdir _)).trans hbusies
  · rw [State.bankFor, if_pos hv]

/-! ### LAST_GRANT (R187) -/

/-- A grant that waits while no fetch from its bank is outstanding. -/
abbrev State.grantReady (s : State) : Option Grant := s.bmx.grants.find? fun g => g.bank.isNone && !s.fetching g.last (1 - (s.dirOf g.last).bank)

/-- Bank `b` goes to grant `g`. -/
def State.giveBank (s : State) (g : Grant) (b : Nat) : State :=
  s.setBmx fun m => { m with grants := m.grants.map fun h => if h = g then { h with bank := some b } else h }

theorem State.makeGrant_ready {g : Grant} (h : s.grantReady = some g) :
    s.makeGrant = (s.giveBank g (1 - (s.dirOf g.last).bank)).showGrant g (1 - (s.dirOf g.last).bank) := by
  rw [State.makeGrant, show s.bmx.grants.find? _ = _ from h]
  rfl

theorem exec_lastGrant_idle (h : s.grantReady = none) : exec .lastGrant s = .next s := by
  refine congrArg Host.Outcome.next ?_
  rw [State.makeGrant, show s.bmx.grants.find? _ = _ from h]

theorem exec_lastGrant_spec (hs : s.Canon) {g : Grant} (h : s.grantReady = some g) : ∃ t, exec .lastGrant s = .next t ∧
    t.bmx = { s.bmx with grants := s.bmx.grants.map fun h => if h = g then { h with bank := some (1 - (s.dirOf g.last).bank) } else h } ∧
    (g.mgmt = true → t.bit Reg.BMX_LAST_OPEN 31 = false ∧ t.fld Reg.BMX_LAST_OPEN 29 28 = 2 ∧
      t.rd Reg.BMX_LAST_SLOT = BitVec.ofNat 32 (s.slotAddr g.last (1 - (s.dirOf g.last).bank))) ∧
    (g.mgmt = false → t.regs = s.regs) ∧ Frame s t [.bmx] grantRegs := by
  have hgive : Within s (s.giveBank g (1 - (s.dirOf g.last).bank)) [.bmx] noRegs := s.setBmx_within _
  have hshow := (s.giveBank g (1 - (s.dirOf g.last).bank)).showGrant_within g (1 - (s.dirOf g.last).bank)
  refine ⟨_, congrArg Host.Outcome.next (State.makeGrant_ready h), hshow.part_eq .bmx, fun hm => ?_, fun hm => ?_, ?_⟩
  · exact State.showGrant_shows _ (hgive.canon hs) hm
  · rw [State.showGrant_solve _ _ hm]
    rfl
  · exact ((hgive.mono fun _ h => h.elim).step hshow fun _ h => h).frame

/-! ### LAST_COMMIT and LAST_ABORT (R188, R189) -/

variable (s) (g : Grant) (b nCol bw : Nat)

theorem State.commitLast_within : Within s (s.commitLast g b nCol bw) [.bmx] noRegs := by
  unfold State.commitLast
  exact (s.setBmx_within _).trans (State.setDir_within _ _ _)

/-- A commit makes the written bank current under the next version, and leaves the other lasts (R188). -/
theorem State.commitLast_bmx : (s.commitLast g b nCol bw).dirOf g.last =
      { valid := true, busy := false, mgmt := g.mgmt, bank := b, bw := bw, nCol := nCol, version := ((s.dirOf g.last).version + 1) % 65536 } ∧
    ((s.commitLast g b nCol bw).bmx.grants = s.bmx.grants.filter fun h => h.last != g.last) ∧
    ∀ k, k ≠ g.last → (s.commitLast g b nCol bw).dirOf k = s.dirOf k :=
  ⟨State.dirOf_setDir_same _ _ _ fun h => Bool.noConfusion (congrArg DirEntry.valid h), rfl, fun _ hk => State.dirOf_setDir_other _ _ hk⟩

theorem State.endGrant_within (i : Nat) : Within s (s.endGrant i) [.bmx] noRegs := by
  unfold State.endGrant
  exact (s.setBmx_within _).trans (State.setDir_within _ _ _)

/-- A write that ends without a commit frees its last, and leaves the other lasts (R189). -/
theorem State.endGrant_bmx (i : Nat) (h : tabWf (fun _ => ({} : DirEntry)) s.bmx.dir = true) :
    (s.endGrant i).dirOf i = { s.dirOf i with busy := false } ∧ ((s.endGrant i).bmx.grants = s.bmx.grants.filter fun h => h.last != i) ∧
      ∀ k, k ≠ i → (s.endGrant i).dirOf k = s.dirOf k :=
  ⟨State.dirOf_setDir_of_wf _ _ _ h, rfl, fun _ hk => State.dirOf_setDir_other _ _ hk⟩

variable {s g b}

theorem exec_lastCommit_spec (hs : s.Canon) (hw : s.writable = true) (hm : s.mgmtGrant = some g) (hb : g.bank = some b) :
    ∃ t, exec .lastCommit s = .next t ∧ t.dirOf g.last =
        { valid := true, busy := false, mgmt := true, bank := b, bw := g.bw, nCol := g.nCol, version := ((s.dirOf g.last).version + 1) % 65536 } ∧
      (t.bmx.grants = s.bmx.grants.filter fun h => h.last != g.last) ∧ t.bit Reg.BMX_LAST_OPEN 29 = false ∧
      (∀ k : Fin 2048, k.val ≠ g.last → t.dirOf k = s.dirOf k) ∧ Frame s t [.bmx] (fun a => a = Reg.BMX_LAST_OPEN) := by
  have hmgmt : g.mgmt = true := List.find?_some hm
  have hcommit : s.commitMgmt = (s.commitLast g b g.nCol g.bw).setBit Reg.BMX_LAST_OPEN 29 false := by
    rw [State.commitMgmt, hm]
    dsimp only
    rw [hb]
    rfl
  have hwithin := s.commitLast_within g b g.nCol g.bw
  obtain ⟨hentry, hgrants, hothers⟩ := s.commitLast_bmx g b g.nCol g.bw
  rw [hmgmt] at hentry
  refine ⟨_, congrArg Host.Outcome.next ((if_pos hw).trans hcommit), (State.dirOf_setBit ..).trans hentry,
    (congrArg Bmx.grants (State.setBit_bmx ..)).trans hgrants, ?_, fun k hk => (State.dirOf_setBit ..).trans (hothers k hk), ?_⟩
  · exact State.bit_setBit_same _ _ _ _ (by decide) (hwithin.canon hs)
  · exact ((hwithin.mono fun _ h => h.elim).step (State.setBit_within _ _ _ _) fun _ h => h).frame

theorem exec_lastAbort_spec (hs : s.Canon) (hw : s.writable = true) (hm : s.mgmtGrant = some g)
    (hwf : tabWf (fun _ => ({} : DirEntry)) s.bmx.dir = true) :
    ∃ t, exec .lastAbort s = .next t ∧ t.dirOf g.last = { s.dirOf g.last with busy := false } ∧
      (t.bmx.grants = s.bmx.grants.filter fun h => h.last != g.last) ∧ t.bit Reg.BMX_LAST_OPEN 29 = false ∧
      t.bit Reg.BMX_LAST_OPEN 31 = false ∧ (∀ k : Fin 2048, k.val ≠ g.last → t.dirOf k = s.dirOf k) ∧
      Frame s t [.bmx] (fun a => a = Reg.BMX_LAST_OPEN) := by
  have habort : s.abortMgmtWrite = ((s.endGrant g.last).setBit Reg.BMX_LAST_OPEN 29 false).setBit Reg.BMX_LAST_OPEN 31 false := by
    rw [State.abortMgmtWrite, hm]
    rfl
  have hwithin := s.endGrant_within g.last
  have hbit := (s.endGrant g.last).setBit_within Reg.BMX_LAST_OPEN 29 false
  have hcanon := hbit.canon (hwithin.canon hs)
  obtain ⟨hentry, hgrants, hothers⟩ := s.endGrant_bmx g.last hwf
  refine ⟨_, congrArg Host.Outcome.next ((if_pos hw).trans habort), ((State.dirOf_setBit ..).trans (State.dirOf_setBit ..)).trans hentry,
    ((congrArg Bmx.grants (State.setBit_bmx ..)).trans (congrArg Bmx.grants (State.setBit_bmx ..))).trans hgrants, ?_, ?_,
    fun k hk => ((State.dirOf_setBit ..).trans (State.dirOf_setBit ..)).trans (hothers k hk), ?_⟩
  · rw [State.bit_setBit_apart hcanon _ _ (by decide) (by decide)]
    exact State.bit_setBit_same _ _ _ _ (by decide) (hwithin.canon hs)
  · exact State.bit_setBit_same _ _ _ _ (by decide) hcanon
  · exact (((hwithin.mono fun _ h => h.elim).step hbit fun _ h => h).step (State.setBit_within _ _ _ _) fun _ h => h).frame

/-- Before writes open, or with no management write, neither a commit nor an abort has an effect (R189, R609). -/
theorem exec_lastEnd_idle (h : s.writable = false ∨ s.mgmtGrant = none) : exec .lastCommit s = .next s ∧ exec .lastAbort s = .next s := by
  have hnone : s.mgmtGrant = none → s.commitMgmt = s ∧ s.abortMgmtWrite = s := fun hm => by
    rw [State.commitMgmt, State.abortMgmtWrite, hm]
    exact ⟨rfl, rfl⟩
  rcases h with h | h
  · exact ⟨congrArg Host.Outcome.next (if_neg (by simp [h])), congrArg Host.Outcome.next (if_neg (by simp [h]))⟩
  · obtain ⟨hcommit, habort⟩ := hnone h
    exact ⟨congrArg Host.Outcome.next (by rw [hcommit, ite_self]), congrArg Host.Outcome.next (by rw [habort, ite_self])⟩

/-! ### CACHE_PLACEMENT (R193) -/

theorem exec_cachePlacement_spec (hs : s.Canon) {k : ColKey} {c : Column} {rest l : List (ColKey × Column)}
    (hw : s.bmx.waits = (k, c) :: rest) (hl : s.makeRoom = some l) : ∃ t, exec .cachePlacement s = .next t ∧ t.bmx.waits = rest ∧
      (s.resident k = false → t.bmx.cache = (k, c) :: l ∧ t.rd Reg.BMX_CACHE_STAT = BitVec.ofNat 32 (l.length + 1)) ∧
      (s.resident k = true → t.bmx.cache = s.bmx.cache ∧ t.regs = s.regs) ∧ t.bmx.dir = s.bmx.dir ∧
      Frame s t [.bmx] (fun a => a = Reg.BMX_CACHE_STAT) := by
  have hexec : exec .cachePlacement s = .next (if s.resident k then s.setBmx fun m => { m with waits := rest }
      else (s.setBmx fun m => { m with waits := rest, cache := (k, c) :: l }).showCache) := by
    refine congrArg Host.Outcome.next ?_
    rw [hw, hl]
  refine ⟨_, hexec, ?_⟩
  cases s.resident k
  · have hplaced := s.setBmx_within fun m => { m with waits := rest, cache := (k, c) :: l }
    refine ⟨rfl, fun _ => ⟨rfl, State.rd_wr_same _ _ _ (hplaced.canon hs)⟩, fun h => Bool.noConfusion h, rfl, ?_⟩
    exact ((hplaced.mono fun _ h => h.elim).step (State.wr_within _ _ _) fun _ h => h).frame
  · exact ⟨rfl, fun h => Bool.noConfusion h, fun _ => ⟨rfl, rfl⟩, rfl, ((s.setBmx_within _).mono fun _ h => h.elim).frame⟩

theorem exec_cachePlacement_idle (h : s.bmx.waits = [] ∨ s.makeRoom = none) : exec .cachePlacement s = .next s := by
  refine congrArg Host.Outcome.next ?_
  rcases h with h | h
  · rw [h]
  · rw [h]
    cases s.bmx.waits <;> rfl

end

end

/-- Settles O20: a grant that joins (`State.addGrant`) is told apart from what BMX_LAST_OPEN shows of it (`State.showOpen`,
`State.showGrant`); a commit and an abort each write one entry of the directory and one bit of the register. -/
theorem managementWritesOfLasts : Obligations.ManagementWritesOfLasts := by
  unfold Obligations.ManagementWritesOfLasts
  intro s hs
  refine ⟨fun w hw h => ?_, fun w hw h hr => exec_lastOpen_refused_spec hs hw h hr,
    fun w hw h hm hlast hbusy => exec_lastOpen_granted_spec hs hw h hm hlast hbusy,
    fun w hw => congrArg Host.Outcome.next (if_neg (by simp [hw])),
    fun g h => exec_lastGrant_spec hs h, exec_lastGrant_idle,
    fun g b hw hm hb => exec_lastCommit_spec hs hw hm hb, fun h => (exec_lastEnd_idle h).1,
    fun g hw hm hwf => exec_lastAbort_spec hs hw hm hwf, fun h => (exec_lastEnd_idle h).2,
    fun k c rest l hw hl => exec_cachePlacement_spec hs hw hl, exec_cachePlacement_idle, ?_⟩
  · obtain ⟨hbw, hcols, hlast, hresult⟩ := State.storeOpen_shows hs w
    exact ⟨_, (exec_lastOpen hw).trans (congrArg Host.Outcome.next (State.writeLastOpen_store h)), hbw, hcols, hlast, hresult,
      (s.storeOpen_within w).frame⟩
  · have hfirst := s.wr_within (Reg.BMX_INLINE_USED 0) 0
    have hsecond := (s.wr (Reg.BMX_INLINE_USED 0) 0).wr_within (Reg.BMX_INLINE_USED 1) 0
    refine ⟨_, rfl, (hsecond.rd (by decide)).trans (s.rd_wr_same _ _ hs), State.rd_wr_same _ _ _ (hfirst.canon hs), ?_⟩
    exact ((hfirst.mono fun _ h => ⟨0, by decide, h⟩).step hsecond fun _ h => ⟨1, by decide, h⟩).frame

end Sys2Proof.Machine

namespace Sys2Proof.Machine

section
set_option Elab.async false

/-! ## The end of a solve

### Upsets that strike the version that is copied: O35 -/

/-- A solve of one port on PRBs 0 to 3 of carrier 0. Its only group was ill-conditioned, so that it takes the columns of the committed version
(R231). -/
def copySolve : Solve :=
  { car := 0
    sec := { id := 1, tag := 0, writeLast := true, exportEst := false, last := 0, ports := [{ srs := 1, ncs := 0, nId := 0 }] }
    srs := [{ id := 1, start := 0, nSym := 1, comb := 2, ofs := 0, first := 0, n := 4 }]
    slot := 0
    anchor := 0
    at_ := 0
    anchored := true
    groups := [{ g := 0, h16 := [], eh := 0, sig2 := 0, own := { gm := [], eg := 0, nLive := 0, ns := 0, contrib := 0 }, copied := true }] }

/-- The grant of bank 1 of last 0 to that solve. -/
def copyGrant : Grant := { last := 0, mgmt := false, nCol := 1, bank := some 1 }

/-- A single chip with that solve, ready to write. The committed version of last 0 lies in bank 0, from byte 0 on. The carrier has a reserved
bandwidth code and so no PRBs (R139): the last has no columns, and the solve itself stores no byte. -/
def copyReady : State :=
  { State.reset with
    bmx := { State.reset.bmx with dir := [(0, { valid := true, busy := true, nCol := 1, version := 1 })], grants := [copyGrant] }
    ulr := { State.reset.ulr with solves := [copySolve] } }.setFld (Reg.DFE_CAR_CFG 0) 18 16 7

/-- Refutes O35: the statement keeps every byte outside the columns written over SOLVE_LAST_WRITTEN, whatever upsets strike memory with it. Two
upsets of different bits of block 0 make it uncorrectable, and from then on its bytes are the wrong ones (`State.strike`, R491): from
`copyReady` byte 0, in the bank of the committed version, reads 0xC0 where it read 0. JOINT_READINESS_CHECK takes upsets and claims the same. -/
theorem not_solveCommit : ¬ Obligations.SolveCommit := by
  unfold Obligations.SolveCommit
  intro h
  obtain ⟨hwritten, -⟩ := h copyReady (by decide +kernel)
  obtain ⟨t, ht, -, -, -, -, hmem, -⟩ := hwritten 0 0 [(0, .bit 0), (0, .bit 1)] copySolve copyGrant 1 (by decide +kernel)
    (by decide +kernel) (by decide +kernel) (by decide +kernel) (by decide +kernel)
  obtain rfl := Host.Outcome.next.inj ht
  have hkept := hmem 0 (.inl (by decide +kernel))
  have hwas : copyReady.memGet 0 = 0 := by decide +kernel
  rw [hwas] at hkept
  exact absurd hkept (by decide +kernel)

end

end Sys2Proof.Machine

namespace Sys2Proof.Machine

section
set_option Elab.async false

/-! ## The groups of a solve

### An inverse block that waited for its group: O34 -/

/-- The first inverse block of a group counts (R243): where one waits for the group, a further one has no effect. -/
theorem State.takeInverse_of_early (s : State) {v : Solve} {g : Nat} (b : Inverse)
    (h : (v.early.any fun (k, _) => k == g) = true) : s.takeInverse v g b = s := by
  simp [State.takeInverse, h]

/-- INVERSE_PARCEL_RECEIVE of a parcel of one block, of a solve in which the chip takes part. -/
theorem exec_inverseParcelReceive_one {s : State} {p : Port} {flow air : Nat} {bs b : List Byte} {v : Solve}
    (hin : s.bridleIn p.idx 5 = some (flow, air, bs)) (hcut : cutBlocks (byteAt bs 0) (bs.drop 4) = some [b])
    (hv : s.blockSolve b = some v) :
    exec (.inverseParcelReceive p) s = .next ((s.takeBridle p.idx 5).takeInverse v (blockGroup b) (readInverse b)) := by
  have hv' : (s.takeBridle p.idx 5).blockSolve b = some v := hv
  simp [exec, execInverseParcelReceive, hin, hcut, hv']

/-- An inverse block of one port, from the head of a cascade of two. -/
def headInverse : Inverse :=
  { am := [(1, 0)], ea := 0, nLive := 128, sm := 16384, es := 0, contrib := 3, prev := false, cause := 0 }

/-- A formed group 0 without an inverse. -/
def openGroup : SolveGroup :=
  { g := 0, h16 := [], eh := 0, sig2 := 0, own := { gm := [], eg := 0, nLive := 0, ns := 0, contrib := 2 }, sent := true }

/-- The solve of `copySolve` with that group, for which an inverse block waits. No command makes such a solve, since a group that is formed takes
the block that waits for it, but the canonical form does not tie the one to the other. -/
def earlySolve : Solve := { copySolve with groups := [openGroup], early := [(0, headInverse)] }

/-- The block of `headInverse` for group 0 of `earlySolve`. -/
def headBlock : List Byte := inverseBlock 0 0 1 0 headInverse

/-- The chip after the head of a cascade of two, with that solve and a parcel of that block from port UP. -/
def inverseTwice : State :=
  { State.reset with
    pkt := { State.reset.pkt with bridle := [(0, 5, 0, 0, oneBlock headBlock)] }
    ulr := { State.reset.ulr with solves := [earlySolve] } }.setFld Reg.PKT_CASCADE 17 8 0x101

/-- The command uses up the parcel, and its block has no effect. -/
theorem exec_inverseTwice :
    exec (.inverseParcelReceive .up) inverseTwice = .next (inverseTwice.takeBridle 0 5) :=
  (exec_inverseParcelReceive_one (p := .up) (flow := 0) (air := 0) (bs := oneBlock headBlock) (b := headBlock) (v := earlySolve)
    (by decide +kernel) (by decide +kernel) (by decide +kernel)).trans
    (congrArg Host.Outcome.next (State.takeInverse_of_early _ _ (by decide +kernel)))

/-- Refutes O34: the statement takes every state in canonical form, and has INVERSE_PARCEL_RECEIVE give a formed group its inverse whatever came
before. The first block of a group counts (R243), and one that waits is taken for it: from `inverseTwice` the parcel is used up and the group
stays without an inverse (`exec_inverseTwice`). -/
theorem not_solveAnchorAndGroups : ¬ Obligations.SolveAnchorAndGroups := by
  unfold Obligations.SolveAnchorAndGroups
  intro h
  obtain ⟨-, -, -, -, -, -, -, -, -, -, hinverse, -⟩ := h inverseTwice (by decide +kernel)
  obtain ⟨t, ht, -, hgiven, -⟩ := hinverse .up 0 0 (oneBlock headBlock) (by decide +kernel)
  obtain rfl := Host.Outcome.next.inj (exec_inverseTwice.symm.trans ht)
  obtain ⟨w, y, hw, hy, hinv⟩ := hgiven headBlock earlySolve openGroup (by decide +kernel) (by decide +kernel) (by decide +kernel)
    (by decide +kernel) (by decide +kernel) (by decide +kernel)
  have hsolve : (inverseTwice.takeBridle 0 5).solveOf (blockCar headBlock) (blockTag headBlock) = some earlySolve := by decide +kernel
  have hgroup : earlySolve.group (blockGroup headBlock) = some openGroup := by decide +kernel
  obtain rfl := Option.some.inj (hsolve.symm.trans hw)
  obtain rfl := Option.some.inj (hgroup.symm.trans hy)
  cases hinv

end

end Sys2Proof.Machine

namespace Sys2Proof.Machine

section
set_option Elab.async false

/-! ## The pre-distorter: visits of the observation receivers

### Routes and visits (R91, R290 to R292) -/

section
variable (s : State)

theorem Within.of_dpd (x : Dpd) : Within s { s with dpd := x } [.dpd] noRegs := ⟨.of_dpd s x, id, List.Subset.refl _⟩

theorem State.setVisit_within (l : Fin 8) (v : Option Visit) : Within s (s.setVisit l v) [.dpd] noRegs := .of_dpd s _

theorem State.obsRoute_within (k src atten owner : Nat) : Within s (s.obsRoute k src atten owner) [] (· = Reg.RXP_OBS_ROUTE k) :=
  ((s.setFld_within _ _ _ _).trans (State.setFld_within _ _ _ _ _)).trans (State.setFld_within _ _ _ _ _)

theorem State.obsRelease_within (k : Nat) : Within s (s.obsRelease k) [] (· = Reg.RXP_OBS_ROUTE k) :=
  ((s.setFld_within _ _ _ _).trans (State.setFld_within _ _ _ _ _)).trans (State.setBit_within _ _ _ _)

variable {s}

/-- A receiver that takes a route shows its source, its attenuation and its owner (R91). -/
theorem State.fld_obsRoute (hs : s.Canon) (k src atten owner : Nat) :
    (s.obsRoute k src atten owner).fld (Reg.RXP_OBS_ROUTE k) 22 16 = src % 128 ∧
      (s.obsRoute k src atten owner).fld (Reg.RXP_OBS_ROUTE k) 12 8 = atten % 32 ∧
      (s.obsRoute k src atten owner).fld (Reg.RXP_OBS_ROUTE k) 1 0 = owner % 4 := by
  have hsrc := s.setFld_canon (Reg.RXP_OBS_ROUTE k) 22 16 src hs
  have hatten := State.setFld_canon _ (Reg.RXP_OBS_ROUTE k) 12 8 atten hsrc
  unfold State.obsRoute
  refine ⟨?_, ?_, ?_⟩
  · rw [State.fld_setFld_apart hatten, State.fld_setFld_apart hsrc, State.fld_setFld_same hs] <;> norm_num
  · rw [State.fld_setFld_apart hatten, State.fld_setFld_same hsrc] <;> norm_num
  · rw [State.fld_setFld_same hatten] <;> norm_num

/-- A receiver that is released has neither source nor owner (R91). -/
theorem State.fld_obsRelease (hs : s.Canon) (k : Nat) :
    (s.obsRelease k).obsFree k = true ∧ (s.obsRelease k).fld (Reg.RXP_OBS_ROUTE k) 22 16 = 0x7F := by
  have hsrc := s.setFld_canon (Reg.RXP_OBS_ROUTE k) 22 16 0x7F hs
  have howner := State.setFld_canon _ (Reg.RXP_OBS_ROUTE k) 1 0 0 hsrc
  rw [State.obsFree, State.obsRelease, State.setBit]
  constructor
  · rw [State.fld_setFld_apart howner, State.fld_setFld_same hsrc]
    all_goals decide
  · rw [State.fld_setFld_apart howner, State.fld_setFld_apart hsrc, State.fld_setFld_same hs]
    all_goals decide

end

/-! ### VISIT_START (R291, R292) -/

section
variable (s : State) (l : Fin 8)

/-- The visit that receiver `l` begins at bank `b` of path `p`, its route taken (R292). -/
def State.visitStarted (p : Fin 64) (b : Nat) : State :=
  let t := s.obsRoute (s.physOf l) p (s.fld (Reg.DPD_OBS_CFG p) 4 0) 1
  let t := t.setVisit l (some { id := t.dpd.visitNo, path := p, bank := b, routed := t.now, settle := t.now, lastCap := t.now })
  { t with dpd := { t.dpd with lastPair := some (p.val, b), visitNo := t.dpd.visitNo + 1 } }

theorem State.visitStarted_within (p : Fin 64) (b : Nat) :
    Within s (s.visitStarted l p b) [.dpd] (· = Reg.RXP_OBS_ROUTE (s.physOf l)) :=
  (((Within.refl ..).step (s.obsRoute_within _ _ _ _) fun _ h => h).part (State.setVisit_within _ _ _)).part (.of_dpd _ _)

variable {s l}

theorem exec_visitStart {p : Fin 64} {b : Nat} (hk : s.physOf l < 9) (hf : s.obsFree (s.physOf l) = true)
    (hv : s.dpd.visits[l] = none) (hp : s.nextPair = some (p, b)) : exec (.visitStart l) s = .next (s.visitStarted l p b) := by
  refine congrArg Host.Outcome.next ((if_neg ?_).trans ?_)
  · simp [hk, hf, hv]
  · rw [hp]
    rfl

/-- A receiver that is absent, taken or visiting, or no pair to take: nothing begins (R291). -/
theorem exec_visitStart_idle (h : 9 ≤ s.physOf l ∨ s.obsFree (s.physOf l) = false ∨ (s.dpd.visits[l]).isSome = true ∨ s.nextPair = none) :
    exec (.visitStart l) s = .next s := by
  refine congrArg Host.Outcome.next ?_
  dsimp only
  split
  · rfl
  · next hn =>
    simp only [Bool.or_eq_true, decide_eq_true_eq, Bool.not_eq_true', not_or] at hn
    obtain ⟨⟨hk, hf⟩, hv⟩ := hn
    rw [show s.nextPair = none by tauto]

theorem exec_visitStart_spec (hs : s.Canon) {p : Fin 64} {b : Nat} (hk : s.physOf l < 9) (hf : s.obsFree (s.physOf l) = true)
    (hv : s.dpd.visits[l] = none) (hp : s.nextPair = some (p, b)) : ∃ t, exec (.visitStart l) s = .next t ∧
    t.dpd.visits[l] = some { id := s.dpd.visitNo, path := p, bank := b, routed := s.now, settle := s.now, lastCap := s.now } ∧
    t.dpd.visitNo = s.dpd.visitNo + 1 ∧ t.dpd.lastPair = some (p.val, b) ∧
    t.fld (Reg.RXP_OBS_ROUTE (s.physOf l)) 22 16 = p.val ∧
    t.fld (Reg.RXP_OBS_ROUTE (s.physOf l)) 12 8 = s.fld (Reg.DPD_OBS_CFG p) 4 0 ∧
    t.fld (Reg.RXP_OBS_ROUTE (s.physOf l)) 1 0 = 1 ∧ t.dpd.paths = s.dpd.paths ∧ (∀ k : Fin 8, k ≠ l →
    t.dpd.visits[k] = s.dpd.visits[k]) ∧ Frame s t [.dpd] (fun a => a = Reg.RXP_OBS_ROUTE (s.physOf l)) := by
  have hatten : s.fld (Reg.DPD_OBS_CFG p) 4 0 < 32 := fldOf_lt _ 4 0
  obtain ⟨hsrc, hat, hown⟩ := State.fld_obsRoute hs (s.physOf l) p (s.fld (Reg.DPD_OBS_CFG p) 4 0) 1
  rw [Nat.mod_eq_of_lt (by omega)] at hsrc hat
  refine ⟨_, exec_visitStart hk hf hv hp, ?_, rfl, rfl, hsrc, hat, hown, rfl, fun k hne => ?_, (s.visitStarted_within l p b).frame⟩
  · exact Vector.getElem_set_self ..
  · exact Vector.getElem_set_ne l.isLt k.isLt fun e => hne (Fin.ext e.symm)

end

/-! ### The ends of a visit (R292, R295) -/

theorem eq_false_of_all_not {α : Type} {o : Option α} {p : α → Bool} {x : α} (h : (o.all fun y => !p y) = true) (hx : o = some x) :
    p x = false := by
  rw [hx] at h
  simpa using h

section
variable {s : State} {l : Fin 8} {v : Visit}

/-- A visit that ends frees its receiver, and changes nothing else (R292). -/
theorem State.endVisit_spec (hs : s.Canon) (hv : s.dpd.visits[l] = some v) :
    (s.endVisit l).dpd = { s.dpd with visits := s.dpd.visits.set l none } ∧ (s.physOf l < 9 →
      (s.endVisit l).obsFree (s.physOf l) = true ∧ (s.endVisit l).fld (Reg.RXP_OBS_ROUTE (s.physOf l)) 22 16 = 0x7F) ∧
      Frame s (s.endVisit l) [.dpd] (fun a => a = Reg.RXP_OBS_ROUTE (s.physOf l)) := by
  have hvisit := s.setVisit_within l none
  have hrelease := (s.setVisit l none).obsRelease_within (s.physOf l)
  have hend : s.endVisit l = if s.physOf l < 9 then (s.setVisit l none).obsRelease (s.physOf l) else s.setVisit l none := by
    rw [State.endVisit, hv]
    rfl
  rw [hend]
  split
  · exact ⟨hrelease.part_eq .dpd, fun _ => State.fld_obsRelease (hvisit.canon hs) _,
      ((hvisit.mono fun _ h => h.elim).step hrelease fun _ h => h).frame⟩
  · next hk => exact ⟨rfl, fun h => absurd h hk, (hvisit.mono fun _ h => h.elim).frame⟩

theorem exec_visitEnd (hv : s.dpd.visits[l] = some v) (ht : msPassed (s.now - v.routed) (s.fld Reg.DPD_SCHED_CFG 15 8) = true) :
    exec (.visitEnd l) s = .next (s.endVisit l) := by
  rw [exec, execVisitEnd, hv]
  exact congrArg Host.Outcome.next (if_pos ht)

theorem exec_visitIdleEnd (hv : s.dpd.visits[l] = some v) (ht : msPassed (s.now - v.lastCap) (s.fld Reg.DPD_SCHED_CFG 7 0) = true) :
    exec (.visitIdleEnd l) s = .next (s.endVisit l) := by
  rw [exec, execVisitIdleEnd, hv]
  exact congrArg Host.Outcome.next (if_pos ht)

theorem exec_visitEnd_idle (h : (s.dpd.visits[l].all fun v => !msPassed (s.now - v.routed) (s.fld Reg.DPD_SCHED_CFG 15 8)) = true) :
    exec (.visitEnd l) s = .next s := by
  rw [exec, execVisitEnd]
  cases hv : s.dpd.visits[l] with
  | none => rfl
  | some v =>
    have hnot := eq_false_of_all_not (p := fun v : Visit => msPassed (s.now - v.routed) (s.fld Reg.DPD_SCHED_CFG 15 8)) h hv
    exact congrArg Host.Outcome.next (if_neg (Bool.eq_false_iff.1 hnot))

theorem exec_visitIdleEnd_idle (h : (s.dpd.visits[l].all fun v => !msPassed (s.now - v.lastCap) (s.fld Reg.DPD_SCHED_CFG 7 0)) = true) :
    exec (.visitIdleEnd l) s = .next s := by
  rw [exec, execVisitIdleEnd]
  cases hv : s.dpd.visits[l] with
  | none => rfl
  | some v =>
    have hnot := eq_false_of_all_not (p := fun v : Visit => msPassed (s.now - v.lastCap) (s.fld Reg.DPD_SCHED_CFG 7 0)) h hv
    exact congrArg Host.Outcome.next (if_neg (Bool.eq_false_iff.1 hnot))

end

/-! ### BANK_ACTIVITY_EXPIRE (R290) -/

section
variable {s : State} {b : Fin 8}

/-- Bank `b` is no longer active (R290). -/
def State.bankExpired (s : State) (b : Fin 8) : State :=
  let t := s.setBit Reg.DPD_ACTIVE b false
  { t with dpd := { t.dpd with lastUse := t.dpd.lastUse.set b none } }

theorem exec_bankActivityExpire {u : Nat} (hu : s.dpd.lastUse[b] = some u) (ht : ticksPerS < s.now - u) :
    exec (.bankActivityExpire b) s = .next (s.bankExpired b) := by
  rw [exec, execBankActivityExpire, hu]
  exact congrArg Host.Outcome.next (if_pos ht)

theorem exec_bankActivityExpire_idle (h : (s.dpd.lastUse[b].all fun u => decide (s.now - u ≤ ticksPerS)) = true) :
    exec (.bankActivityExpire b) s = .next s := by
  rw [exec, execBankActivityExpire]
  cases hu : s.dpd.lastUse[b] with
  | none => rfl
  | some u => exact congrArg Host.Outcome.next (if_neg (by simpa [hu] using h))

/-- A bank that expires is inactive, and no other bank is concerned (R290). -/
theorem State.bankActive_bankExpired (hs : s.Canon) :
    (s.bankExpired b).bankActive b = false ∧ ∀ k : Fin 8, k ≠ b → (s.bankExpired b).bankActive k = s.bankActive k :=
  ⟨s.bit_setBit_same _ _ _ (by omega) hs, fun _ hk => State.bit_setBit_apart hs _ _ (by omega) fun e => hk (Fin.ext e)⟩

theorem State.bankExpired_frame (s : State) (b : Fin 8) : Frame s (s.bankExpired b) [.dpd] (· = Reg.DPD_ACTIVE) :=
  (((Within.refl ..).step (s.setBit_within _ _ _) fun _ h => h).part (.of_dpd _ _)).frame

end

/-- Settles O17: a visit begins and ends with its receiver's route, and a bank's activity with its bit; the waiting forms change nothing. -/
theorem visitsOfTheObservationReceivers : Obligations.VisitsOfTheObservationReceivers := by
  unfold Obligations.VisitsOfTheObservationReceivers
  intro s hs
  refine ⟨fun l p b => exec_visitStart_spec hs, fun l => exec_visitStart_idle, fun l v hv ht => ?_, fun l => exec_visitEnd_idle,
    fun l v hv ht => ?_, fun l => exec_visitIdleEnd_idle, fun b u hu ht => ?_, fun b => exec_bankActivityExpire_idle⟩
  · exact ⟨_, exec_visitEnd hv ht, State.endVisit_spec hs hv⟩
  · exact ⟨_, exec_visitIdleEnd hv ht, State.endVisit_spec hs hv⟩
  · obtain ⟨hinactive, hothers⟩ := State.bankActive_bankExpired (b := b) hs
    exact ⟨_, exec_bankActivityExpire hu ht, hinactive, rfl, hothers, s.bankExpired_frame b⟩

end

end Sys2Proof.Machine

namespace Sys2Proof.Machine

section
set_option Elab.async false

/-! ## The entry to SAFE

### What its parts keep -/

section
variable {s t u : State} {ps : List Part} {rs : Nat → Prop}

/-- An operation that raises no event. -/
theorem Within.of_frame (f : Frame s t ps rs) (hc : s.Canon → t.Canon) (hp : Part.rcd ∉ ps := by decide) : Within s t ps rs :=
  ⟨f, hc, by rw [show t.rcd = s.rcd from f.1 .rcd hp]; exact List.Subset.refl _⟩

/-- The parts that the entry to SAFE may change (R572). -/
abbrev safeParts : List Part := [.mode, .paths, .dpd, .seq, .bias, .kpr, .rcd, .tim, .freeIdx]

/-- The registers that the entry to SAFE may change, beside those of the trips (R572). -/
abbrev entryRegs (a : Nat) : Prop :=
  a ∈ [Reg.KPR_LIVE_AIR, Reg.KPR_SAFE_CAUSE, Reg.KPR_SAFE_CNT, Reg.SEQ_CAL_FAIL_CNT, Reg.SEQ_CAL_STAT, Reg.SEQ_LEAN, Reg.SYN_ALIGN,
    Reg.TIM_ALIGN_REFUSE_CNT, Reg.TIM_EPOCH_CTRL, Reg.KPR_LT 11] ∨ arr 80 Reg.BIA_CLEAR_CNT a ∨ arr 16 Reg.HKA_QUAD a ∨
    arr 9 Reg.RXP_OBS_ROUTE a ∨ arr 16 Reg.SEQ_DEFER_CNT a ∨ arr 64 Reg.TXP_ATTEN a ∨ arr 64 Reg.TXP_SAT_CNT a ∨
    eventRegs 0x0004 a ∨ eventRegs 0x0104 a ∨ eventRegs 0x0702 a

/-- None of them is a register of the pre-distorter (R603). -/
theorem not_entryRegs_of_dpd {a : Nat} (ha : a / 0x1000000 = 0x0D) : ¬ entryRegs a := by
  simp only [entryRegs, List.mem_cons, List.not_mem_nil, or_false]
  rintro (h | ⟨i, hi, h⟩ | ⟨i, hi, h⟩ | ⟨i, hi, h⟩ | ⟨i, hi, h⟩ | ⟨i, hi, h⟩ | ⟨i, hi, h⟩ | (h | h) | (h | h) | h | h) <;>
    simp at h <;> omega

theorem tripStat_not_entryRegs (p : Fin 64) : ¬ entryRegs (Reg.DPD_TRIP_STAT p) := not_entryRegs_of_dpd (by simp; omega)

/-- Nor is it RETIRE of a transmit side. -/
theorem txRetire_not_entryRegs (p : Fin 64) : ¬ entryRegs (Reg.TXP_RETIRE p) := by
  simp only [entryRegs, List.mem_cons, List.not_mem_nil, or_false]
  rintro (h | ⟨i, hi, h⟩ | ⟨i, hi, h⟩ | ⟨i, hi, h⟩ | ⟨i, hi, h⟩ | ⟨i, hi, h⟩ | ⟨i, hi, h⟩ | (h | h) | (h | h) | h | h) <;>
    simp at h <;> omega

/-- A part of the entry to SAFE: it stays within what the entry may change, and a trip that is shown keeps its kind while mutes end
(R305, R309, R572). -/
structure SafeStep (s t : State) : Prop where
  within : Within s t safeParts (fun a => arr 64 Reg.DPD_TRIP_STAT a ∨ entryRegs a)
  kind : s.Canon → ∀ p : Fin 64, t.fld (Reg.DPD_TRIP_STAT p) 30 28 = s.fld (Reg.DPD_TRIP_STAT p) 30 28

theorem SafeStep.refl (s : State) : SafeStep s s := ⟨.refl .., fun _ _ => rfl⟩

theorem SafeStep.trans (h : SafeStep s t) (k : SafeStep t u) : SafeStep s u :=
  ⟨h.within.trans k.within, fun hs p => (k.kind (h.within.canon hs) p).trans (h.kind hs p)⟩

theorem SafeStep.ite {c : Prop} [Decidable c] (h : SafeStep s t) (k : SafeStep s u) : SafeStep s (if c then t else u) := by
  split
  · exact h
  · exact k

theorem SafeStep.foldl {β : Type} {f : State → β → State} (hf : ∀ s x, SafeStep s (f s x)) (l : List β) (s : State) :
    SafeStep s (l.foldl f s) := by
  induction l generalizing s with
  | nil => exact .refl s
  | cons x l ih => exact (hf s x).trans (ih _)

/-- What leaves the registers of the trips alone is a part of the entry. -/
theorem Within.safeStep (h : Within s t ps rs) (hr : ∀ a, rs a → entryRegs a) (hp : ps ⊆ safeParts := by decide) : SafeStep s t :=
  ⟨h.mono (fun a ha => .inr (hr a ha)) hp, fun _ p => h.fld (fun ha => tripStat_not_entryRegs p (hr _ ha)) 30 28⟩

/-- A further operation that leaves the registers of the trips alone. -/
theorem SafeStep.step (h : SafeStep s t) (k : Within t u ps rs) (hr : ∀ a, rs a → entryRegs a) (hp : ps ⊆ safeParts := by decide) :
    SafeStep s u :=
  h.trans (k.safeStep hr hp)

/-- A further change of parts alone. -/
theorem SafeStep.part (h : SafeStep s t) (k : Within t u ps noRegs) (hp : ps ⊆ safeParts := by decide) : SafeStep s u :=
  h.step k (fun _ h => h.elim) hp

end

/-! ### Bias clears (R527) -/

section
variable (s : State)

theorem Within.of_mode (x : Mode) : Within s { s with mode := x } [.mode] noRegs := .of_frame (.of_mode s x) id

theorem Within.of_kpr (x : Keeper) : Within s { s with kpr := x } [.kpr] noRegs := .of_frame (.of_kpr s x) id

theorem Within.of_hka (x : Hka) : Within s { s with hka := x } [.hka] noRegs := .of_frame (.of_hka s x) id

theorem Within.of_seq_kpr (x : Seq) (y : Keeper) : Within s { s with seq := x, kpr := y } [.seq, .kpr] noRegs :=
  .of_frame (.of_seq_kpr s x y) id

theorem State.setDpd_within (p : Fin 64) (f : DpdPath → DpdPath) : Within s (s.setDpd p f) [.dpd] noRegs := .of_dpd s _

theorem State.biasHold_within (c : Fin 80) (i : Nat) : Within s (s.biasHold c i) [.bias] (arr 80 Reg.BIA_CLEAR_CNT) :=
  .of_frame (s.biasHold_frame c i) (s.biasHold_canon c i)

theorem State.biasApply_within (i : Nat) : Within s (s.biasApply i) [.bias] (arr 80 Reg.BIA_CLEAR_CNT) :=
  .foldl (fun s c => .ite (s.biasHold_within c i) (.refl ..)) _ s

theorem State.quadBiasHold_within (q : Fin 16) : Within s (s.quadBiasHold q) [.bias] (arr 80 Reg.BIA_CLEAR_CNT) :=
  .foldl (fun s c => .ite (s.biasHold_within c 3) (.refl ..)) _ s

theorem State.gateHold_within (p : Fin 64) (i : Nat) : Within s (s.gateHold p i) [.bias] (arr 80 Reg.BIA_CLEAR_CNT) :=
  .of_frame (s.gateHold_frame p i) (s.gateHold_canon p i)

theorem State.biasApply_safeStep (i : Nat) : SafeStep s (s.biasApply i) := (s.biasApply_within i).safeStep fun _ h => .inr (.inl h)

/-! ### Quads fall (R319, R320, R322) -/

/-- The end of a mute clears its bit alone of the path's trip (R305). -/
theorem State.unmute_safeStep (p : Fin 64) : SafeStep s (s.unmute p) := by
  have hdpd := State.setDpd_within (s.setBit (Reg.DPD_TRIP_STAT p) 31 false) p fun d => { d with muteCal := false }
  refine ⟨(((s.setBit_within (Reg.DPD_TRIP_STAT p) 31 false).mono (fun a h => .inl ⟨p, p.isLt, h⟩)).part hdpd), fun hs k => ?_⟩
  refine (hdpd.fld id 30 28).trans ?_
  by_cases hk : k = p
  · subst hk
    exact State.fld_setFld_apart hs _ (by decide) (by decide) (by decide) (by decide)
  · exact (s.setBit_within _ _ _).fld (by simp [Fin.ext_iff] at hk ⊢; omega) 30 28

theorem State.judgeAfresh_within (p : Fin 64) : Within s (s.judgeAfresh p) [.dpd] noRegs := (s.setDpd_within p _).part (.of_dpd _ _)

theorem State.guardOff_safeStep (p : Fin 64) : SafeStep s (s.guardOff p) :=
  (((SafeStep.refl s).part (s.setDpd_within p _)).part (State.judgeAfresh_within _ p)).trans (State.unmute_safeStep _ p)

theorem State.enterFalling_safeStep (q : Fin 16) : SafeStep s (s.enterFalling q) :=
  (((SafeStep.refl s).part (s.setQuad_within q _)).trans
    (.foldl (fun s p => ((SafeStep.refl s).part (s.setPath_within p _)).trans (State.guardOff_safeStep _ p)) _ _)).step
    (State.quadBiasHold_within _ q) fun _ h => .inr (.inl h)

theorem State.deferQuad_safeStep (q : Fin 16) (up job : Bool) : SafeStep s (s.deferQuad q up job) :=
  ((SafeStep.refl s).step (s.bump_within (Reg.SEQ_DEFER_CNT q)) fun _ h => .inr (.inr (.inr (.inr (.inl ⟨q, q.isLt, h⟩))))).part
    (State.setQuad_within _ q _)

theorem State.dropQuad_safeStep (q : Fin 16) : SafeStep s (s.dropQuad q) := by
  unfold State.dropQuad
  dsimp only
  split
  · exact .refl s
  · exact (SafeStep.refl s).part (s.setQuad_within q _)
  · exact s.deferQuad_safeStep q _ _
  all_goals exact s.enterFalling_safeStep q

theorem State.powerDownQuad_safeStep (q : Fin 16) : SafeStep s (s.powerDownQuad q) := by
  unfold State.powerDownQuad
  dsimp only
  split
  · exact .refl s
  · exact (SafeStep.refl s).part (s.setQuad_within q _)
  all_goals first
    | exact s.deferQuad_safeStep q _ _
    | exact s.enterFalling_safeStep q

theorem State.powerUpQuad_safeStep (q : Fin 16) (job : Bool) : SafeStep s (s.powerUpQuad q job) := by
  unfold State.powerUpQuad
  dsimp only
  split
  case h_2 => exact s.deferQuad_safeStep q _ _
  all_goals exact (SafeStep.refl s).part (s.setQuad_within q _)

theorem State.enterReceive_safeStep (q : Fin 16) : SafeStep s (s.enterReceive q) :=
  ((SafeStep.refl s).part (s.setQuad_within q _)).part (.foldl (fun s p => s.setPath_within p _) _ _)

/-! ### A job is aborted (R338, R345) -/

theorem State.calResult_within (kind result noPair : Nat) : Within s (s.calResult kind result noPair) [] (· = Reg.SEQ_CAL_STAT) :=
  (((s.setBit_within _ _ _).trans (State.setFld_within _ _ _ _ _)).trans (State.setFld_within _ _ _ _ _)).trans (State.setFld_within _ _ _ _ _)

theorem State.calFreesAll_canon (h : s.Canon) : s.calFreesAll.Canon :=
  foldl_canon _ (fun s k hs => by split; exacts [s.obsRelease_canon k hs, hs]) _ s h

theorem State.calFreesAll_safeStep : SafeStep s s.calFreesAll :=
  (Within.of_frame s.calFreesAll_frame s.calFreesAll_canon).safeStep fun _ h => .inr (.inr (.inr (.inl h)))

theorem State.toneEnd_safeStep (p : Fin 64) (amp n : Nat) : SafeStep s (s.toneEnd p amp n) :=
  .ite (.refl s) (((SafeStep.refl s).part s.freeNat_within).step (State.bumpBy_within _ _ _)
    fun _ h => .inr (.inr (.inr (.inr (.inr (.inr (.inl ⟨p, p.isLt, h⟩)))))))

theorem State.endCouplerTx_safeStep : SafeStep s s.endCouplerTx := by
  unfold State.endCouplerTx
  split
  · exact .refl s
  · extract_lets x t1 t2 t3 t4 t5
    have h1 : SafeStep s t1 := (SafeStep.refl s).part (.of_seq s _)
    have h2 : SafeStep s t2 := h1.part (t1.setPath_within _ _)
    have h3 : SafeStep s t3 := h2.trans (t2.toneEnd_safeStep _ _ _)
    have h4 : SafeStep s t4 := h3.part ((t3.setDpd_within _ _).part (State.judgeAfresh_within _ _))
    exact (h4.trans (.foldl (fun s p => s.unmute_safeStep p) _ t4)).part (t5.setQuad_within _ _)

theorem State.jobQuadBack_safeStep (q : Fin 16) : SafeStep s (s.jobQuadBack q) := by
  unfold State.jobQuadBack
  extract_lets x back t
  have h : SafeStep s t := (SafeStep.refl s).part (s.setQuad_within q _)
  clear_value t
  split
  · exact h.trans (.ite (t.enterReceive_safeStep q) (t.enterFalling_safeStep q))
  · exact h.trans (.ite (.ite ((SafeStep.refl t).part (t.setQuad_within q _)) (t.powerDownQuad_safeStep q)) (.refl t))
  · exact h.trans (.ite (t.powerUpQuad_safeStep q _) (.ite ((SafeStep.refl t).part (t.setQuad_within q _)) (.refl t)))
  · exact h

theorem State.endBurstPa_within : Within s s.endBurstPa [.seq] noRegs := by
  unfold State.endBurstPa
  split
  · exact .of_seq s _
  · exact .refl ..

theorem State.jobQuadsBack_safeStep : SafeStep s s.jobQuadsBack := by
  unfold State.jobQuadsBack
  extract_lets t1 t2 x t3 t4
  have h1 : SafeStep s t1 := s.endCouplerTx_safeStep.trans (.foldl (fun s q => s.jobQuadBack_safeStep q) _ _)
  have h3 : SafeStep s t3 := (h1.part t1.endBurstPa_within).part (.of_seq t2 _)
  have h4 : SafeStep s t4 := h3.trans (.ite (.refl t3) t3.calFreesAll_safeStep)
  exact (h4.trans (t4.biasApply_safeStep 2)).trans (State.biasApply_safeStep _ 3)

theorem State.abortJob_safeStep (cause : Nat) : SafeStep s (s.abortJob cause) := by
  unfold State.abortJob
  split
  · exact .refl s
  · extract_lets x t1 t2
    have h1 : SafeStep s t1 := (SafeStep.refl s).part (.of_seq s _)
    have h2 : SafeStep s t2 := (h1.step (t1.calResult_within _ _ _) fun _ h => .inl (by simp [h])).step
      (State.bump_within _ _) fun _ h => .inl (by simp [h])
    exact (h2.trans t2.jobQuadsBack_safeStep).step (State.raiseEffect_within _ _ _) fun _ h => by simp only [entryRegs, h, or_true]

/-! ### The mode changes (R567) -/

theorem State.cancelAlign_safeStep : SafeStep s s.cancelAlign := by
  have halign (t : State) (d : Nat) : SafeStep t (t.alignRefused d) := (t.alignRefused_within d).safeStep fun _ h =>
    h.elim (fun h => .inl (by simp [h])) fun h => by simp only [entryRegs, h, true_or, or_true]
  unfold State.cancelAlign
  extract_lets t x u
  have ht : SafeStep s t := ((SafeStep.refl s).step (s.setBit_within _ _ _) fun _ h => .inl (by simp [h])).step
    (State.setBit_within _ _ _ _) fun _ h => .inl (by simp [h])
  have hu : SafeStep s u := .ite ((ht.part (.of_tim t _)).trans (halign _ _)) (.refl s)
  clear_value u
  exact .ite ((hu.step (u.setBit_within _ _ _) fun _ h => .inl (by simp [h])).trans (halign _ _)) hu

theorem State.applyAtten_safeStep (p : Fin 64) : SafeStep s (s.applyAtten p) :=
  ((SafeStep.refl s).step (s.setBit_within (Reg.TXP_ATTEN p) 31 false)
    fun _ h => .inr (.inr (.inr (.inr (.inr (.inl ⟨p, p.isLt, h⟩)))))).part (State.setPath_within _ p _)

theorem State.applyBackoff_safeStep (q : Fin 16) : SafeStep s (s.applyBackoff q) :=
  (s.setFld_within (Reg.HKA_QUAD q) _ _ _).safeStep fun _ h => .inr (.inr (.inl ⟨q, q.isLt, h⟩))

theorem State.applyAllAtten_safeStep : SafeStep s s.applyAllAtten :=
  SafeStep.trans (.foldl (fun s p => s.applyAtten_safeStep p) _ s) (.foldl (fun s q => s.applyBackoff_safeStep q) _ _)

theorem State.changeMode_safeStep (m : Mode) : SafeStep s (s.changeMode m) := by
  unfold State.changeMode
  extract_lets old t t1 t2 t3
  have h : SafeStep s t := (SafeStep.refl s).part (.of_mode s m)
  have h1 : SafeStep s t1 := h.trans (.ite (t.applyAllAtten_safeStep.step (State.setBit_within _ _ _ _) fun _ h => .inl (by simp [h])) (.refl t))
  have h2 : SafeStep s t2 := h1.trans (.ite t1.calFreesAll_safeStep (.refl t1))
  have h3 : SafeStep s t3 := h2.trans (.ite t2.cancelAlign_safeStep (.refl t2))
  split
  · exact h3.trans (t3.biasApply_safeStep 2)
  · exact h3.trans (t3.biasApply_safeStep 2)
  · exact h3.trans (t3.biasApply_safeStep 1)
  · exact h3

theorem State.dropSetChange_within : Within s s.dropSetChange [.seq, .kpr] (· = Reg.SEQ_LEAN) :=
  ((s.setBit_within Reg.SEQ_LEAN 31 false).mono fun _ h => h).part (.of_seq_kpr _ _ _)

/-! ### The entry (R572) -/

/-- What the entry to SAFE shows, counts and records before the mode changes (R572). -/
def State.safeShown (c : Nat) : State :=
  let t := (s.setFld Reg.KPR_SAFE_CAUSE 5 0 (2 ^ c)).bump Reg.KPR_SAFE_CNT
  let t := t.bump (Reg.KPR_LT 11)
  t.raiseEffect 0x0004 [(4, t.safeCauseWord.toNat)]

/-- What needs the air is given up (R572). -/
def State.airGivenUp : State :=
  let t := s.dropSetChange.setBit Reg.KPR_LIVE_AIR 31 false
  { t with kpr := { t.kpr with tempClearAt := none, bootPorts := false } }

/-- The mode changed to SAFE, with the quads falling and what needs the air given up (R567, R572). -/
def State.airDropped : State := ((s.changeMode .safe).forQuads fun s q => s.dropQuad q).airGivenUp

theorem State.airGivenUp_within : Within s s.airGivenUp [.seq, .kpr] (fun a => a = Reg.SEQ_LEAN ∨ a = Reg.KPR_LIVE_AIR) :=
  ((s.dropSetChange_within.mono fun _ => .inl).step (State.setBit_within _ Reg.KPR_LIVE_AIR 31 false) fun _ => .inr).part (.of_kpr _ _)

theorem State.safeShown_safeStep (c : Nat) : SafeStep s (s.safeShown c) := by
  unfold State.safeShown
  extract_lets t1 t2
  have h1 : SafeStep s t1 := ((SafeStep.refl s).step (s.setFld_within _ _ _ _) fun _ h => .inl (by simp [h])).step (State.bump_within _ _)
    fun _ h => .inl (by simp [h])
  have h2 : SafeStep s t2 := h1.step (t1.bump_within _) fun _ h => .inl (by simp [h])
  exact h2.step (State.raiseEffect_within _ _ _) fun _ h => by simp only [entryRegs, h, true_or, or_true]

/-- With the quads dropped the mode is SAFE. -/
theorem State.airDropped_mode : s.airDropped.mode = .safe := by
  have hquads : ((s.changeMode .safe).forQuads fun s q => s.dropQuad q).mode = (s.changeMode .safe).mode :=
    (State.dropQuads_frame _).1 .mode (by decide)
  have hgiven : s.airDropped.mode = _ := (State.airGivenUp_within _).part_eq .mode
  rw [hgiven, hquads, s.changeMode_mode]

theorem State.airDropped_safeStep : SafeStep s s.airDropped :=
  ((s.changeMode_safeStep .safe).trans (.foldl (fun s q => s.dropQuad_safeStep q) _ _)).trans ((State.airGivenUp_within _).safeStep
    fun _ h => .inl (by rcases h with rfl | rfl <;> simp))

variable {s}

theorem State.enterSafe_shelf (c : Nat) (h : s.mode = .shelf) : s.enterSafe c = s := if_pos h

/-- In SAFE, and in a halted BOOT, the cause is added to those recorded (R557, R572). -/
theorem State.enterSafe_again (c : Nat) (h : s.mode ≠ .shelf) (hs : s.mode = .safe ∨ s.kpr.haltedAt.isSome = true) :
    s.enterSafe c = s.setBit Reg.KPR_SAFE_CAUSE c true := (if_neg h).trans (if_pos hs)

theorem State.enterSafe_entry (c : Nat) (h : s.mode ≠ .shelf) (hs : ¬ (s.mode = .safe ∨ s.kpr.haltedAt.isSome = true)) :
    s.enterSafe c = (s.safeShown c).airDropped.abortJob 0 := by
  unfold State.enterSafe State.airDropped State.airGivenUp State.safeShown
  rw [if_neg h, if_neg hs]

theorem State.enterSafe_safeStep (s : State) (c : Nat) : SafeStep s (s.enterSafe c) := by
  by_cases h : s.mode = .shelf
  · rw [State.enterSafe_shelf c h]
    exact .refl s
  by_cases hs : s.mode = .safe ∨ s.kpr.haltedAt.isSome = true
  · rw [State.enterSafe_again c h hs]
    exact (s.setBit_within _ _ _).safeStep fun _ h => .inl (by simp [h])
  · rw [State.enterSafe_entry c h hs]
    exact ((s.safeShown_safeStep c).trans (State.airDropped_safeStep _)).trans (State.abortJob_safeStep _ 0)

/-- A chip that enters SAFE is in SAFE (R572). -/
theorem State.enterSafe_mode_entry (c : Nat) (h : s.mode ≠ .shelf) (hs : ¬ (s.mode = .safe ∨ s.kpr.haltedAt.isSome = true)) :
    (s.enterSafe c).mode = .safe := by
  rw [State.enterSafe_entry c h hs]
  exact Eq.trans ((State.abortJob_frame _ 0).1 .mode (by decide)) (State.airDropped_mode _)

/-- Unless BOOT is halted or the chip is in SHELF, a cause of SAFE leaves it in SAFE (R572). -/
theorem State.enterSafe_mode (c : Nat) (h : s.mode ≠ .shelf) (hh : s.kpr.haltedAt = none) : (s.enterSafe c).mode = .safe := by
  by_cases hs : s.mode = .safe
  · rw [State.enterSafe_again c h (.inl hs)]
    exact hs
  · exact State.enterSafe_mode_entry c h (by simp [hs, hh])

/-- Where a cause of SAFE leaves the mode, it leaves all but the causes recorded (R557, R572). -/
theorem State.enterSafe_same_mode (c : Nat) (h : (s.enterSafe c).mode = s.mode) : Within s (s.enterSafe c) [] (· = Reg.KPR_SAFE_CAUSE) := by
  by_cases hm : s.mode = .shelf
  · rw [State.enterSafe_shelf c hm]
    exact .refl ..
  by_cases hs : s.mode = .safe ∨ s.kpr.haltedAt.isSome = true
  · rw [State.enterSafe_again c hm hs]
    exact s.setBit_within _ _ _
  · exact absurd (.inl (h.symm.trans (State.enterSafe_mode_entry c hm hs))) hs

/-- A cause of SAFE leaves the mode or changes it to SAFE. -/
theorem State.enterSafe_mode_cases (s : State) (c : Nat) : (s.enterSafe c).mode = s.mode ∨ (s.enterSafe c).mode = .safe := by
  by_cases h : s.mode = .shelf
  · exact .inl (by rw [State.enterSafe_shelf c h])
  by_cases hs : s.mode = .safe ∨ s.kpr.haltedAt.isSome = true
  · exact .inl (by rw [State.enterSafe_again c h hs, State.setBit_mode])
  · exact .inr (State.enterSafe_mode_entry c h hs)

end

end

end Sys2Proof.Machine

namespace Sys2Proof.Machine

section
set_option Elab.async false

/-! ## The PA guard

### A trip begins (R295, R305, R307, R308) -/

/-- The registers that a trip of path `p` may change before it is recorded. -/
abbrev beginRegs (p : Fin 64) (a : Nat) : Prop :=
  a = Reg.DPD_TRIP_STAT p ∨ arr 80 Reg.BIA_CLEAR_CNT a ∨ arr 64 Reg.DPD_CAP_DROP_CNT a

/-- From `s` to `t` nothing of paths other than `p` changes. -/
def OthersKept (p : Fin 64) (s t : State) : Prop := ∀ q : Fin 64, q ≠ p → t.paths[q] = s.paths[q] ∧ t.dpd.paths[q] = s.dpd.paths[q]

/-- From `s` to `t` a trip of path `p` acts, and is not yet recorded: what the record looks at stays (R309 to R311). -/
structure TripBegun (p : Fin 64) (s t : State) : Prop where
  within : Within s t [.paths, .dpd, .bias] (beginRegs p)
  recorded : t.dpd.paths[p].recorded = s.dpd.paths[p].recorded
  trips : t.dpd.paths[p].trips = s.dpd.paths[p].trips
  window : t.dpd.window = s.dpd.window
  others : OthersKept p s t

section
variable {s t u : State} {p : Fin 64}

theorem OthersKept.refl (p : Fin 64) (s : State) : OthersKept p s s := fun _ _ => ⟨rfl, rfl⟩

theorem OthersKept.trans (h : OthersKept p s t) (k : OthersKept p t u) : OthersKept p s u := fun q hq =>
  ⟨(k q hq).1.trans (h q hq).1, (k q hq).2.trans (h q hq).2⟩

/-- A frame without the paths. -/
theorem Within.othersKept {ps : List Part} {rs : Nat → Prop} (h : Within s t ps rs) (hd : t.dpd.paths = s.dpd.paths)
    (hp : Part.paths ∉ ps := by decide) : OthersKept p s t := fun q _ =>
  ⟨by rw [show t.paths = s.paths from h.part_eq .paths hp], by rw [hd]⟩

theorem State.setDpd_othersKept (s : State) (p : Fin 64) (f : DpdPath → DpdPath) : OthersKept p s (s.setDpd p f) := fun _ hq =>
  ⟨rfl, getElem_upd_other _ _ hq⟩

theorem State.setPath_othersKept (s : State) (p : Fin 64) (f : PathSt → PathSt) : OthersKept p s (s.setPath p f) := fun _ hq =>
  ⟨getElem_upd_other _ _ hq, rfl⟩

theorem TripBegun.refl (p : Fin 64) (s : State) : TripBegun p s s := ⟨.refl .., rfl, rfl, rfl, .refl p s⟩

theorem TripBegun.trans (h : TripBegun p s t) (k : TripBegun p t u) : TripBegun p s u :=
  ⟨h.within.trans k.within, k.recorded.trans h.recorded, k.trips.trans h.trips, k.window.trans h.window, h.others.trans k.others⟩

/-- A change of registers and bias channels alone. -/
theorem Within.tripBegun {ps : List Part} {rs : Nat → Prop} (h : Within s t ps rs) (hr : ∀ a, rs a → beginRegs p a)
    (hp : ps ⊆ [.bias] := by decide) : TripBegun p s t := by
  have hd : t.dpd = s.dpd := h.part_eq .dpd fun hm => absurd (hp hm) (by decide)
  exact ⟨h.mono hr fun x hx => by
    rw [List.mem_singleton.1 (hp hx)]
    decide, by rw [hd], by rw [hd], by rw [hd],
    h.othersKept (by rw [hd]) fun hm => absurd (hp hm) (by decide)⟩

theorem State.setDpd_tripBegun (s : State) (p : Fin 64) (f : DpdPath → DpdPath) (hr : ∀ d, (f d).recorded = d.recorded)
    (ht : ∀ d, (f d).trips = d.trips) : TripBegun p s (s.setDpd p f) where
  within := (s.setDpd_within p f).mono fun _ h => h.elim
  recorded := (congrArg DpdPath.recorded (getElem_upd_same ..)).trans (hr _)
  trips := (congrArg DpdPath.trips (getElem_upd_same ..)).trans (ht _)
  window := rfl
  others := s.setDpd_othersKept p f

theorem State.setPath_tripBegun (s : State) (p : Fin 64) (f : PathSt → PathSt) : TripBegun p s (s.setPath p f) where
  within := (s.setPath_within p f).mono fun _ h => h.elim
  recorded := rfl
  trips := rfl
  window := rfl
  others := s.setPath_othersKept p f

end

section
variable (s : State) (p : Fin 64)

/-- Captures are dropped visit by visit. -/
theorem State.tripDrops_induct {motive : State → Prop} (h : motive s) (hdrop : ∀ u l, motive u → motive (u.dropCapture l)) :
    motive (s.tripDrops p) := by
  unfold State.tripDrops
  refine List.foldlRecOn _ _ h fun u hu l _ => ?_
  split
  · split
    · exact hdrop u l hu
    · exact hu
  · exact hu

/-- A capture that is dropped is counted, and only its visit changes (R295). -/
theorem State.dropCapture_within (l : Fin 8) : Within s (s.dropCapture l) [.dpd] (arr 64 Reg.DPD_CAP_DROP_CNT) := by
  unfold State.dropCapture
  split
  · next v _ => exact .ite (((s.bump_within _).mono fun _ h => ⟨v.path, v.path.isLt, h⟩).part (State.setVisit_within _ _ _)) (.refl ..)
  · exact .refl ..

theorem State.dpd_dropCapture (l : Fin 8) : ∃ v, (s.dropCapture l).dpd = { s.dpd with visits := v } := by
  unfold State.dropCapture
  split
  · split
    · exact ⟨_, rfl⟩
    · exact ⟨_, rfl⟩
  · exact ⟨_, rfl⟩

theorem State.tripDrops_within : Within s (s.tripDrops p) [.dpd] (arr 64 Reg.DPD_CAP_DROP_CNT) :=
  s.tripDrops_induct p (motive := fun u => Within s u [.dpd] (arr 64 Reg.DPD_CAP_DROP_CNT)) (.refl ..) fun u l hu =>
    hu.trans (u.dropCapture_within l)

theorem State.dpd_tripDrops : ∃ v, (s.tripDrops p).dpd = { s.dpd with visits := v } :=
  s.tripDrops_induct p (motive := fun u => ∃ v, u.dpd = { s.dpd with visits := v }) ⟨_, rfl⟩ fun u l ⟨v, hv⟩ => by
    obtain ⟨w, hw⟩ := u.dpd_dropCapture l
    exact ⟨w, by rw [hw, hv]⟩

theorem State.tripDrops_tripBegun : TripBegun p s (s.tripDrops p) := by
  obtain ⟨v, hv⟩ := s.dpd_tripDrops p
  have h := s.tripDrops_within p
  exact ⟨h.mono fun _ h => .inr (.inr h), by rw [hv], by rw [hv], by rw [hv], h.othersKept (by rw [hv])⟩

theorem State.gateHold_tripBegun (i : Nat) : TripBegun p s (s.gateHold p i) := (s.gateHold_within p i).tripBegun fun _ h => .inr (.inl h)

theorem State.mutePath_tripBegun : TripBegun p s (s.mutePath p) := by
  unfold State.mutePath
  extract_lets t1 t2
  have h1 : TripBegun p s t1 := (s.setBit_within _ 31 true).tripBegun fun _ => .inl
  have h2 : TripBegun p t1 t2 := t1.setDpd_tripBegun p _ (fun _ => rfl) fun _ => rfl
  exact (h1.trans h2).trans (t2.setPath_tripBegun p _)

theorem State.biasOnTrip_tripBegun : TripBegun p s (s.biasOnTrip p) := by
  have h : TripBegun p s (s.setDpd p fun d => { d with biasOn := true }) := s.setDpd_tripBegun p _ (fun _ => rfl) fun _ => rfl
  unfold State.biasOnTrip
  split
  · exact h.trans (State.gateHold_tripBegun _ p 4)
  · exact .refl p s

theorem State.biasOffTrip_tripBegun : TripBegun p s (s.biasOffTrip p) := by
  have h : TripBegun p s (s.setDpd p fun d => { d with biasOff := true }) := s.setDpd_tripBegun p _ (fun _ => rfl) fun _ => rfl
  exact h.trans (State.gateHold_tripBegun _ p 4)

/-- Path `p` muted by a trip of its on period: the mute, the bias action and the dropped captures (R295, R305, R307). -/
def State.onBegun : State := ((s.mutePath p).biasOnTrip p).tripDrops p

/-- The gate bias of path `p` cleared by a trip of its off period, and the dropped captures (R295, R308). -/
def State.offBegun : State := (s.biasOffTrip p).tripDrops p

theorem State.onBegun_tripBegun : TripBegun p s (s.onBegun p) :=
  ((s.mutePath_tripBegun p).trans (State.biasOnTrip_tripBegun _ p)).trans (State.tripDrops_tripBegun _ p)

theorem State.offBegun_tripBegun : TripBegun p s (s.offBegun p) :=
  (s.biasOffTrip_tripBegun p).trans (State.tripDrops_tripBegun _ p)

variable {s p}

/-- DPD_TRIP_STAT is none of the registers of bias clears and dropped captures. -/
theorem tripStat_not_clearRegs (p : Fin 64) :
    ¬ (arr 80 Reg.BIA_CLEAR_CNT (Reg.DPD_TRIP_STAT p) ∨ arr 64 Reg.DPD_CAP_DROP_CNT (Reg.DPD_TRIP_STAT p)) := by
  rintro (⟨i, hi, h⟩ | ⟨i, hi, h⟩) <;> simp at h <;> omega

/-- What follows a mute changes neither paths nor DPD_TRIP_STAT. -/
theorem State.onBegun_after_mute (s : State) (p : Fin 64) : Within (s.mutePath p) (s.onBegun p) [.dpd, .bias]
    (fun a => arr 80 Reg.BIA_CLEAR_CNT a ∨ arr 64 Reg.DPD_CAP_DROP_CNT a) := by
  have hbias : Within (s.mutePath p) ((s.mutePath p).biasOnTrip p) [.dpd, .bias]
      (fun a => arr 80 Reg.BIA_CLEAR_CNT a ∨ arr 64 Reg.DPD_CAP_DROP_CNT a) :=
    .ite (((State.setDpd_within _ p _).mono fun _ h => h.elim).step (State.gateHold_within _ p 4) fun _ => .inl) (.refl ..)
  exact hbias.step (State.tripDrops_within _ p) fun _ => .inr

/-- A muted path shows its mute, and its TX gate is closed (R305). -/
theorem State.onBegun_mutes (hs : s.Canon) : (s.onBegun p).bit (Reg.DPD_TRIP_STAT p) 31 = true ∧ (s.onBegun p).paths[p].txGate = false := by
  have hafter := s.onBegun_after_mute p
  constructor
  · rw [hafter.bit (tripStat_not_clearRegs p), State.mutePath, State.bit, State.fld, State.setPath_rd, State.setDpd_rd]
    exact s.bit_setBit_same _ _ _ (by decide) hs
  · rw [show (s.onBegun p).paths = (s.mutePath p).paths from hafter.part_eq .paths, State.mutePath, State.setPath, getElem_upd_same]
    rfl

/-- An off-period trip clears the gate bias (R308). -/
theorem State.offBegun_clears (s : State) (p : Fin 64) : (s.offBegun p).dpd.paths[p].biasOff = true := by
  obtain ⟨v, hv⟩ := (s.biasOffTrip p).dpd_tripDrops p
  have hbias : (s.biasOffTrip p).dpd = (s.setDpd p fun d => { d with biasOff := true }).dpd := (State.gateHold_within _ p 4).part_eq .dpd
  rw [State.offBegun, hv, hbias]
  exact congrArg DpdPath.biasOff (getElem_upd_same ..)

end

/-! ### The record of a trip (R309) -/

section
variable (s : State) (p : Fin 64) (kind : Nat)

theorem State.airStamp_congr {t : State} (ha : t.air = s.air) (hn : t.now = s.now) : t.airStamp = s.airStamp := by
  rw [State.airStamp, State.aligned, State.airPos, ha, hn]
  rfl

/-- The kind and the air stamp of a trip as DPD_TRIP_STAT shows them (R309). -/
def State.stampTrip : State :=
  let r := Reg.DPD_TRIP_STAT p
  (((s.setFld r 30 28 kind).setFld r 18 9 (s.airStamp / 0x40000000)).setFld r 8 4 (s.airStamp / 0x2000000 % 32)).setFld r 3 0
    (s.airStamp / 0x200000 % 16)

theorem State.stampTrip_within : Within s (s.stampTrip p kind) [] (· = Reg.DPD_TRIP_STAT p) :=
  (((s.setFld_within _ _ _ _).trans (State.setFld_within _ _ _ _ _)).trans (State.setFld_within _ _ _ _ _)).trans (State.setFld_within _ _ _ _ _)

variable {s p kind}

/-- DPD_TRIP_STAT shows the kind of the trip, and the mute goes on (R305, R309). -/
theorem State.fld_stampTrip (hs : s.Canon) : (s.stampTrip p kind).fld (Reg.DPD_TRIP_STAT p) 30 28 = kind % 8 ∧
    (s.stampTrip p kind).bit (Reg.DPD_TRIP_STAT p) 31 = s.bit (Reg.DPD_TRIP_STAT p) 31 := by
  have h1 := s.setFld_canon (Reg.DPD_TRIP_STAT p) 30 28 kind hs
  have h2 := State.setFld_canon _ (Reg.DPD_TRIP_STAT p) 18 9 (s.airStamp / 0x40000000) h1
  have h3 := State.setFld_canon _ (Reg.DPD_TRIP_STAT p) 8 4 (s.airStamp / 0x2000000 % 32) h2
  unfold State.stampTrip
  constructor
  · rw [State.fld_setFld_apart h3, State.fld_setFld_apart h2, State.fld_setFld_apart h1, State.fld_setFld_same hs] <;> norm_num
  · rw [State.bit, State.fld_setFld_apart h3, State.fld_setFld_apart h2, State.fld_setFld_apart h1, State.fld_setFld_apart hs]
    · rfl
    all_goals norm_num

variable (s p kind)

/-- The run or off period of path `p` has its trip (R309). -/
def State.markTrip : State := s.setDpd p fun d => { d with recorded := true }

/-- A trip of path `p` shown for the first time in its run or off period (R309). -/
def State.tripShown : State := (s.markTrip p).showTrip p kind

theorem State.markTrip_within : Within s (s.markTrip p) [.dpd] noRegs := s.setDpd_within p _

theorem State.showTrip_eq : s.showTrip p kind = (s.stampTrip p kind).raise 0x0D01 [(1, p), (1, kind), (5, s.airStamp)] := rfl

theorem State.showTrip_within : Within s (s.showTrip p kind) [.rcd] (fun a => a = Reg.DPD_TRIP_STAT p ∨ eventRegs 0x0D01 a) := by
  rw [s.showTrip_eq]
  exact ((s.stampTrip_within p kind).mono fun _ => .inl).step (State.raise_within _ _ _) fun _ => .inr

theorem State.tripShown_within : Within s (s.tripShown p kind) [.dpd, .rcd] (fun a => a = Reg.DPD_TRIP_STAT p ∨ eventRegs 0x0D01 a) :=
  ((s.markTrip_within p).mono fun _ h => h.elim).step (State.showTrip_within _ p kind) fun _ h => h

theorem State.dpd_tripShown : (s.tripShown p kind).dpd = (s.markTrip p).dpd := (State.showTrip_within _ p kind).part_eq .dpd

theorem State.raised_tripShown : Raised s (s.tripShown p kind) 0x0D01 [(1, p), (1, kind), (5, s.airStamp)] := by
  have hstamp : Within s ((s.markTrip p).stampTrip p kind) [.dpd] (· = Reg.DPD_TRIP_STAT p) :=
    ((s.markTrip_within p).mono fun _ h => h.elim).step (State.stampTrip_within _ p kind) fun _ h => h
  rw [State.tripShown, State.showTrip_eq, show (s.markTrip p).airStamp = s.airStamp from State.airStamp_congr s rfl rfl]
  exact hstamp.raised_after (State.raise_raised _ _ _)

theorem State.tripShown_othersKept : OthersKept p s (s.tripShown p kind) := by
  have hdpd : ((s.markTrip p).showTrip p kind).dpd = (s.markTrip p).dpd := s.dpd_tripShown p kind
  exact (s.setDpd_othersKept p _).trans ((State.showTrip_within _ p kind).othersKept (by rw [← State.markTrip, hdpd]))

variable {s p kind}

theorem State.fld_tripShown (hs : s.Canon) : (s.tripShown p kind).fld (Reg.DPD_TRIP_STAT p) 30 28 = kind % 8 ∧
    (s.tripShown p kind).bit (Reg.DPD_TRIP_STAT p) 31 = s.bit (Reg.DPD_TRIP_STAT p) 31 := by
  have hstat : ¬ eventRegs 0x0D01 (Reg.DPD_TRIP_STAT p) := by
    rintro (h | h) <;> simp at h <;> omega
  obtain ⟨hkind, hmute⟩ := State.fld_stampTrip (p := p) (kind := kind) ((s.markTrip_within p).canon hs)
  rw [State.tripShown, State.showTrip_eq, (State.raise_within _ _ _).fld hstat, (State.raise_within _ _ _).bit hstat]
  exact ⟨hkind, hmute⟩

end

/-! ### What follows a record (R310, R311, R313, R536) -/

/-- The registers of the housekeeping ADC that a trip's request may change (R536). -/
abbrev requestRegs (a : Nat) : Prop := a ∈ [Reg.HKA_ONESHOT, Reg.HKA_URGENT_DROP_CNT, Reg.HKA_ABORT_CNT]

section
variable (s : State)

theorem State.urgentRequest_within (c : Conv) (settle : Nat) (abort : Bool) : Within s (s.urgentRequest c settle abort).1 [.hka] requestRegs := by
  have hdrop : Within s (s.bump Reg.HKA_URGENT_DROP_CNT) [.hka] requestRegs := (s.bump_within _).mono fun _ h => by simp [h]
  have habort : Within s (s.bump Reg.HKA_ABORT_CNT) [.hka] requestRegs := (s.bump_within _).mono fun _ h => by simp [h]
  unfold State.urgentRequest
  split
  · exact hdrop
  · split
    · split
      · exact habort.part (.of_hka _ _)
      · exact hdrop
    · exact (Within.of_hka s _).mono fun _ h => h.elim

theorem State.beforeOneshot_within {t : State} (h : s.beforeOneshot = some t) : Within s t [.hka] requestRegs := by
  unfold State.beforeOneshot at h
  split at h
  · split at h
    · extract_lets aborted u x v at h
      obtain rfl := Option.some.inj h
      have hu : Within s u [.hka] requestRegs := .ite ((s.wr_within _ _).mono fun _ h => by simp [h]) (.refl ..)
      have hv : Within s v [.hka] requestRegs := hu.part (.of_hka u _)
      exact (hv.step (State.setBit_within _ _ _ _) fun _ h => by simp [h]).step (State.bump_within _ _) fun _ h => by simp [h]
    · cases h
  · cases h

theorem State.guardRequest_within (p : Fin 64) : Within s (s.guardRequest p) [.hka] requestRegs := by
  unfold State.guardRequest
  extract_lets ask
  split
  · split
    · next t ht =>
      obtain ⟨u, hu, hask⟩ := Option.map_eq_some_iff.1 ht
      have hreq : Within u (ask u).1 [.hka] requestRegs := u.urgentRequest_within _ _ _
      rw [hask] at hreq
      exact (s.beforeOneshot_within hu).trans hreq
    · exact s.urgentRequest_within _ _ _
  · exact .refl ..

theorem State.retireTx_within (p : Fin 64) (cause : Nat) : Within s (s.retireTx p cause) [.paths, .dpd, .seq, .bias, .rcd] (txRetireRegs p) := by
  refine ⟨s.retireTx_frame p cause, s.retireTx_canon p cause, ?_⟩
  cases h : s.txRetired p
  · have hout : (((s.txOut p cause).gateHold p 5).endVisitsOf p).rcd = s.rcd :=
      ((s.txOut_frame p cause).1 .rcd (by decide)).trans ((s.txOut_ends_frame p cause).1 .rcd (by decide))
    rw [s.retireTx_live p cause h, ← hout]
    exact State.queue_subset_raiseEvent _ _
  · rw [s.retireTx_retired p cause h]
    exact List.Subset.refl _

/-- The end of a path's visits changes the visits alone of the pre-distorter. -/
theorem State.dpd_endVisitsOf (p : Fin 64) : ∃ v, (s.endVisitsOf p).dpd = { s.dpd with visits := v } := by
  refine s.endVisitsOf_induct (motive := fun u => ∃ v, u.dpd = { s.dpd with visits := v }) p ⟨_, rfl⟩ fun u l ⟨v, hv⟩ => ?_
  unfold State.endVisit
  split
  · exact ⟨v, hv⟩
  · extract_lets t
    have ht : t.dpd = { s.dpd with visits := u.dpd.visits.set l none } := by
      rw [show t.dpd = { u.dpd with visits := u.dpd.visits.set l none } from rfl, hv]
    clear_value t
    split
    · exact ⟨_, Eq.trans ((t.obsRelease_within _).part_eq .dpd) ht⟩
    · exact ⟨_, ht⟩

/-- Of what the guard keeps, a retirement changes nothing but the on period of its path (R98). -/
theorem State.retireTx_guard (p : Fin 64) (cause : Nat) : (s.retireTx p cause).dpd.window = s.dpd.window ∧
    (s.retireTx p cause).dpd.paths[p].recorded = s.dpd.paths[p].recorded ∧
    (s.retireTx p cause).dpd.paths[p].biasOff = s.dpd.paths[p].biasOff := by
  cases h : s.txRetired p
  · obtain ⟨v, hv⟩ := ((s.txOut p cause).gateHold p 5).dpd_endVisitsOf p
    have hhold : ((s.txOut p cause).gateHold p 5).dpd = (s.txOut p cause).dpd := (State.gateHold_within _ p 5).part_eq .dpd
    have hout : (s.txOut p cause).dpd = (s.setDpd p fun d => { d with onPeriod := false }).dpd := by
      unfold State.txOut
      extract_lets u
      have hu : (u.voidCal p true).dpd = s.dpd :=
        Eq.trans ((u.voidCal_frame p true).1 .dpd (by decide)) ((s.showRetired_frame _ _ _ _ p cause).1 .dpd (by decide))
      clear_value u
      rw [State.setDpd, State.setPath_dpd, hu]
      rfl
    have hpath : (s.setDpd p fun d => { d with onPeriod := false }).dpd.paths[p] = { s.dpd.paths[p] with onPeriod := false } :=
      getElem_upd_same ..
    rw [s.retireTx_live p cause h, State.raiseEffect_dpd, hv, hhold, hout, hpath]
    exact ⟨rfl, rfl, rfl⟩
  · rw [s.retireTx_retired p cause h]
    exact ⟨rfl, rfl, rfl⟩

theorem State.retireTx_othersKept (p : Fin 64) (cause : Nat) : OthersKept p s (s.retireTx p cause) := fun _ hq =>
  ⟨(State.retireTx_keepsPath cause hq).path, (State.retireTx_keepsPath cause hq).dpd⟩

variable {s}

/-- The gate of a path whose side retires stays closed. -/
theorem State.retireTx_shut {p : Fin 64} (hs : s.Canon) (cause : Nat) (h : s.paths[p].txGate = false) :
    (s.retireTx p cause).paths[p].txGate = false := by
  cases hr : s.txRetired p
  · obtain ⟨-, hgate, -⟩ := State.retireTx_retires cause hs hr
    exact hgate
  · rw [s.retireTx_retired p cause hr]
    exact h

/-- Whatever it was before, a side is retired after its retirement by the guard (R97, R310). -/
theorem State.txRetired_retireTx {p : Fin 64} (hs : s.Canon) : (s.retireTx p 1).txRetired p = true := by
  cases hr : s.txRetired p
  · obtain ⟨hrd, -⟩ := State.retireTx_retires 1 hs hr
    rw [State.txRetired, State.bit, State.fld, hrd]
    rfl
  · rw [s.retireTx_retired p 1 hr, hr]

end

/-- The registers that change after a trip of path `p` is shown and counted, before SAFE. -/
abbrev restRegs (p : Fin 64) (a : Nat) : Prop := a = Reg.DPD_TRIP_WIN ∨ requestRegs a ∨ txRetireRegs p a

section
variable (s : State) (p : Fin 64)

/-- The ticks of the path's trips within the last second, with the present one (R310). -/
def State.lastTrips : List Nat := s.now :: (s.dpd.paths[p]).trips.filter fun t => s.now - t ≤ ticksPerS

/-- A trip shown and counted joins the trips of its path, and the housekeeping ADC is asked (R310, R536). -/
def State.tripKept : State := (s.setDpd p fun d => { d with trips := s.lastTrips p }).guardRequest p

/-- The side is retired at its third trip within a second (R310). -/
def State.tripRetired : State := if 3 ≤ (s.lastTrips p).length then (s.tripKept p).retireTx p 1 else s.tripKept p

/-- The trip joins those of all paths (R311). -/
def State.joinWindow : State := { s with dpd := { s.dpd with window := (s.now, p.val) :: s.dpd.window } }.showTrips

/-- What follows a trip that was shown and counted, before SAFE (R310, R311, R536). -/
def State.tripRest : State := (s.tripRetired p).joinWindow p

theorem State.tripKept_within : Within s (s.tripKept p) [.dpd, .hka] requestRegs :=
  ((s.setDpd_within p _).mono fun _ h => h.elim).step (State.guardRequest_within _ p) fun _ h => h

theorem State.dpd_tripKept : (s.tripKept p).dpd = (s.setDpd p fun d => { d with trips := s.lastTrips p }).dpd :=
  (State.guardRequest_within _ p).part_eq .dpd

theorem State.tripKept_othersKept : OthersKept p s (s.tripKept p) := fun q hq => by
  have hpaths : (s.tripKept p).paths = s.paths := (s.tripKept_within p).part_eq .paths
  rw [hpaths, s.dpd_tripKept]
  exact ⟨rfl, getElem_upd_other _ _ hq⟩

theorem State.tripRetired_within : Within s (s.tripRetired p) [.paths, .dpd, .seq, .bias, .hka, .rcd] (restRegs p) := by
  have h : Within s (s.tripKept p) [.paths, .dpd, .seq, .bias, .hka, .rcd] (restRegs p) :=
    (s.tripKept_within p).mono fun _ h => .inr (.inl h)
  exact .ite (h.step (State.retireTx_within _ p 1) fun _ h => .inr (.inr h)) h

theorem State.joinWindow_within : Within s (s.joinWindow p) [.dpd] (· = Reg.DPD_TRIP_WIN) :=
  (((Within.refl ..).part (.of_dpd s _)).part (.of_dpd _ _)).step (State.setFld_within _ _ _ _ _) fun _ h => h

theorem State.tripRest_within : Within s (s.tripRest p) [.paths, .dpd, .seq, .bias, .hka, .rcd] (restRegs p) :=
  (s.tripRetired_within p).step (State.joinWindow_within _ p) fun _ => .inl

end

end

end Sys2Proof.Machine

namespace Sys2Proof.Machine

section
set_option Elab.async false

section
variable {s : State} {p : Fin 64}

theorem State.joinWindow_dpd : (s.joinWindow p).dpd = { s.dpd with window := (s.now, p.val) :: s.tripWindow } := by
  have hnew : State.tripWindow { s with dpd := { s.dpd with window := (s.now, p.val) :: s.dpd.window } } =
      (s.now, p.val) :: s.tripWindow := by
    unfold State.tripWindow
    exact List.filter_cons_of_pos (by simp)
  show Dpd.mk .. = _
  rw [hnew]

/-- The window of R311 after a trip holds it and the trips of the last second. -/
theorem State.window_tripRest : (s.tripRest p).dpd.window = (s.now, p.val) :: s.tripWindow := by
  have hnow : (s.tripRetired p).now = s.now := (s.tripRetired_within p).part_eq .now
  have hwindow : (s.tripRetired p).dpd.window = s.dpd.window := by
    have hkept : (s.tripKept p).dpd.window = s.dpd.window := by rw [s.dpd_tripKept]; rfl
    unfold State.tripRetired
    split
    · obtain ⟨h, -⟩ := (s.tripKept p).retireTx_guard p 1
      exact h.trans hkept
    · exact hkept
  rw [State.tripRest, State.joinWindow_dpd, State.tripWindow, hnow, hwindow]
  rfl

/-- What the guard keeps of the path stays after its trip is shown (R309). -/
theorem State.tripRest_guard : (s.tripRest p).dpd.paths[p].recorded = s.dpd.paths[p].recorded ∧
    (s.tripRest p).dpd.paths[p].biasOff = s.dpd.paths[p].biasOff := by
  have hkept : (s.tripKept p).dpd.paths[p] = { s.dpd.paths[p] with trips := s.lastTrips p } := by
    rw [s.dpd_tripKept]
    exact getElem_upd_same ..
  rw [State.tripRest, State.joinWindow_dpd]
  unfold State.tripRetired
  split
  · obtain ⟨-, hrec, hoff⟩ := (s.tripKept p).retireTx_guard p 1
    exact ⟨hrec.trans (by rw [hkept]), hoff.trans (by rw [hkept])⟩
  · exact ⟨by rw [hkept], by rw [hkept]⟩

theorem State.tripRest_othersKept : OthersKept p s (s.tripRest p) := by
  have hretired : OthersKept p s (s.tripRetired p) := by
    unfold State.tripRetired
    split
    · exact (s.tripKept_othersKept p).trans (State.retireTx_othersKept _ p 1)
    · exact s.tripKept_othersKept p
  exact hretired.trans ((State.joinWindow_within _ p).othersKept (by rw [State.joinWindow_dpd]))

/-- A gate that is closed stays so after the trip. -/
theorem State.tripRest_shut (hs : s.Canon) (h : s.paths[p].txGate = false) : (s.tripRest p).paths[p].txGate = false := by
  have hkept : (s.tripKept p).paths = s.paths := (s.tripKept_within p).part_eq .paths
  have hshut : (s.tripKept p).paths[p].txGate = false := by rw [hkept]; exact h
  have hjoin : (s.tripRest p).paths = (s.tripRetired p).paths := (State.joinWindow_within _ p).part_eq .paths
  rw [hjoin]
  unfold State.tripRetired
  split
  · exact State.retireTx_shut ((s.tripKept_within p).canon hs) 1 hshut
  · exact hshut

/-- The third trip of a path within a second retires its side (R310). -/
theorem State.tripRest_retires (hs : s.Canon) (h : 2 ≤ ((s.dpd.paths[p]).trips.filter fun u => s.now - u ≤ ticksPerS).length) :
    (s.tripRest p).txRetired p = true := by
  have hthird : 3 ≤ (s.lastTrips p).length := Nat.succ_le_succ h
  rw [State.tripRest, State.txRetired_congr ((State.joinWindow_within _ p).rd (by simp; omega)), State.tripRetired, if_pos hthird]
  exact State.txRetired_retireTx ((s.tripKept_within p).canon hs)

end

/-! ### The whole record (R309 to R311, R314) -/

/-- The registers that a trip of path `p` and what follows it may change, before SAFE. -/
abbrev takenRegs (p : Fin 64) (a : Nat) : Prop :=
  (a = Reg.DPD_TRIP_STAT p ∨ eventRegs 0x0D01 a) ∨ (a = Reg.DPD_TRIP_CNT p ∨ a = Reg.KPR_LT 16) ∨ restRegs p a

/-- The parts that a recorded trip may change. -/
abbrev tripParts : List Part := [.mode, .paths, .dpd, .seq, .bias, .hka, .kpr, .rcd, .tim, .freeIdx]

/-- The registers that a recorded trip of path `p` may change. -/
abbrev tripRegs (p : Fin 64) (a : Nat) : Prop :=
  arr 64 Reg.DPD_TRIP_STAT a ∨ arr 64 Reg.DPD_CAP_DROP_CNT a ∨ entryRegs a ∨ eventRegs 0x0D01 a ∨
    (a = Reg.DPD_TRIP_CNT p ∨ a = Reg.KPR_LT 16) ∨ restRegs p a

theorem restRegs_apart (p q : Fin 64) :
    ¬ restRegs p (Reg.DPD_TRIP_STAT q) ∧ ¬ restRegs p (Reg.DPD_TRIP_CNT q) ∧ (q ≠ p → ¬ restRegs p (Reg.TXP_RETIRE q)) := by
  refine ⟨?_, ?_, fun hq => ?_⟩
  all_goals
    simp only [restRegs, requestRegs, txRetireRegs, List.mem_cons, List.not_mem_nil, or_false]
    rintro (h | h | h | h | ⟨i, hi, h⟩ | ⟨i, hi, h⟩ | h | h) <;> simp at h <;> omega

section
variable (s : State) (p : Fin 64) (kind : Nat)

/-- A trip of path `p` counted, for the path and for the part's life (R309). -/
def State.tripCounted : State := (s.bump (Reg.DPD_TRIP_CNT p)).bump (Reg.KPR_LT 16)

/-- A trip of path `p` shown, counted and taken into account, before SAFE (R309 to R311). -/
def State.tripTaken : State := ((s.tripShown p kind).tripCounted p).tripRest p

theorem State.tripCounted_within : Within s (s.tripCounted p) [] (fun a => a = Reg.DPD_TRIP_CNT p ∨ a = Reg.KPR_LT 16) :=
  ((s.bump_within _).mono fun _ => .inl).step (State.bump_within _ _) fun _ => .inr

theorem State.tripTaken_within : Within s (s.tripTaken p kind) [.paths, .dpd, .seq, .bias, .hka, .rcd] (takenRegs p) :=
  (((s.tripShown_within p kind).mono fun _ => .inl).step (State.tripCounted_within _ p) fun _ h => .inr (.inl h)).step
    (State.tripRest_within _ p) fun _ h => .inr (.inr h)

variable {s p kind}

theorem State.recordTrip_recorded (h : s.dpd.paths[p].recorded = true) : s.recordTrip p kind = (s, false) := if_pos h

theorem State.recordTrip_test (h : s.dpd.paths[p].recorded = false) : s.recordTrip p 4 = (s.tripShown p 4, true) :=
  (if_neg (Bool.eq_false_iff.1 h)).trans (if_pos rfl)

theorem State.recordTrip_new (h : s.dpd.paths[p].recorded = false) (hk : kind ≠ 4) : s.recordTrip p kind =
    (if 8 < distinctPaths (s.tripTaken p kind).dpd.window then (s.tripTaken p kind).enterSafe 4 else s.tripTaken p kind, true) := by
  unfold State.recordTrip State.tripTaken State.tripCounted State.tripRest State.joinWindow State.tripRetired State.tripKept
    State.lastTrips State.tripShown State.markTrip
  rw [if_neg (Bool.eq_false_iff.1 h), if_neg hk]

/-- What a trip can do: nothing where one was recorded before, and the record of a test trip or of another otherwise (R309, R314). -/
theorem State.recordTrip_cases {motive : State → Prop} (hsame : motive s) (hshown : motive (s.tripShown p 4))
    (htaken : motive (s.tripTaken p kind)) (hsafe : motive ((s.tripTaken p kind).enterSafe 4)) : motive (s.recordTrip p kind).1 := by
  cases h : s.dpd.paths[p].recorded
  · by_cases hk : kind = 4
    · rw [hk, State.recordTrip_test h]
      exact hshown
    · rw [State.recordTrip_new h hk]
      dsimp only
      split
      · exact hsafe
      · exact htaken
  · rw [State.recordTrip_recorded h]
    exact hsame

theorem tripRegs_of_takenRegs {a : Nat} (h : takenRegs p a) : tripRegs p a := by
  rcases h with (h | h) | h
  · exact .inl ⟨p, p.isLt, h⟩
  · exact .inr (.inr (.inr (.inl h)))
  · exact .inr (.inr (.inr (.inr h)))

variable (s p kind)

theorem State.recordTrip_within : Within s (s.recordTrip p kind).1 tripParts (tripRegs p) := by
  have htaken : Within s (s.tripTaken p kind) tripParts (tripRegs p) := (s.tripTaken_within p kind).mono fun _ => tripRegs_of_takenRegs
  refine State.recordTrip_cases (motive := fun t => Within s t tripParts (tripRegs p)) (.refl ..) ?_ htaken ?_
  · exact (s.tripShown_within p 4).mono fun _ h => tripRegs_of_takenRegs (.inl h)
  · exact htaken.step (State.enterSafe_safeStep _ 4).within fun _ h => h.elim .inl fun h => .inr (.inr (.inl h))

variable {s p kind}

theorem State.recordTrip_mode_cases : (s.recordTrip p kind).1.mode = s.mode ∨ (s.recordTrip p kind).1.mode = .safe := by
  have htaken : (s.tripTaken p kind).mode = s.mode := (s.tripTaken_within p kind).part_eq .mode
  refine State.recordTrip_cases (motive := fun t => t.mode = s.mode ∨ t.mode = .safe) (.inl rfl) (.inl ?_) (.inl htaken) ?_
  · exact (s.tripShown_within p 4).part_eq .mode
  · rw [← htaken]
    exact State.enterSafe_mode_cases _ 4

/-- A trip that was recorded in a run or off period, with what was done at its beginning standing (R305, R308, R309). -/
structure TripStands (p : Fin 64) (s t : State) : Prop where
  recorded : t.dpd.paths[p].recorded = true
  biasOff : t.dpd.paths[p].biasOff = s.dpd.paths[p].biasOff
  mute : ∀ q : Fin 64, t.bit (Reg.DPD_TRIP_STAT q) 31 = s.bit (Reg.DPD_TRIP_STAT q) 31
  shut : s.paths[p].txGate = false → t.paths[p].txGate = false
  others : OthersKept p s t

theorem State.tripShown_stands (hs : s.Canon) (kind : Nat) : TripStands p s (s.tripShown p kind) := by
  have hmark : (s.markTrip p).dpd.paths[p] = { s.dpd.paths[p] with recorded := true } := getElem_upd_same ..
  have hpaths : (s.tripShown p kind).paths = s.paths := (s.tripShown_within p kind).part_eq .paths
  refine ⟨by rw [s.dpd_tripShown, hmark], by rw [s.dpd_tripShown, hmark], fun q => ?_, fun h => by rw [hpaths]; exact h,
    s.tripShown_othersKept p kind⟩
  by_cases hq : q = p
  · rw [hq]
    exact (State.fld_tripShown hs).2
  · refine (s.tripShown_within p kind).bit ?_ 31
    rintro (h | h | h) <;> simp [Fin.ext_iff] at hq h <;> omega

theorem State.tripTaken_stands (hs : s.Canon) (kind : Nat) : TripStands p s (s.tripTaken p kind) := by
  have hshown := State.tripShown_stands (p := p) hs kind
  have hcount := (s.tripShown p kind).tripCounted_within p
  have hcanon := hcount.canon ((s.tripShown_within p kind).canon hs)
  have hdpd : ((s.tripShown p kind).tripCounted p).dpd = (s.tripShown p kind).dpd := hcount.part_eq .dpd
  have hpaths : ((s.tripShown p kind).tripCounted p).paths = (s.tripShown p kind).paths := hcount.part_eq .paths
  obtain ⟨hrec, hoff⟩ := State.tripRest_guard (s := (s.tripShown p kind).tripCounted p) (p := p)
  unfold State.tripTaken
  refine ⟨?_, ?_, fun q => ?_, fun h => ?_, ?_⟩
  · rw [hrec, hdpd, hshown.recorded]
  · rw [hoff, hdpd, hshown.biasOff]
  · rw [(State.tripRest_within _ p).bit (restRegs_apart p q).1, hcount.bit (by simp; omega), hshown.mute]
  · exact State.tripRest_shut hcanon (by rw [hpaths]; exact hshown.shut h)
  · exact (hshown.others.trans (hcount.othersKept (by rw [hdpd]))).trans State.tripRest_othersKept

/-- Where a trip leaves the mode, it stands after its record (R309). -/
theorem State.recordTrip_stands (hs : s.Canon) (hm : (s.recordTrip p kind).1.mode = s.mode) : TripStands p s (s.recordTrip p kind).1 := by
  have htaken : (s.tripTaken p kind).mode = s.mode := (s.tripTaken_within p kind).part_eq .mode
  cases h : s.dpd.paths[p].recorded
  · by_cases hk : kind = 4
    · rw [hk, State.recordTrip_test h]
      exact State.tripShown_stands hs 4
    · have hstands := State.tripTaken_stands (p := p) hs kind
      rw [State.recordTrip_new h hk] at hm ⊢
      dsimp only at hm ⊢
      split at hm
      · next hw =>
        rw [if_pos hw]
        have hsafe := State.enterSafe_same_mode 4 (hm.trans htaken.symm)
        have hdpd : State.dpd _ = State.dpd _ := hsafe.part_eq .dpd
        have hpaths : State.paths _ = State.paths _ := hsafe.part_eq .paths
        refine ⟨by rw [hdpd, hstands.recorded], by rw [hdpd, hstands.biasOff], fun q => ?_, fun h => ?_, ?_⟩
        · rw [hsafe.bit (by simp; omega), hstands.mute]
        · rw [hpaths]
          exact hstands.shut h
        · exact hstands.others.trans (hsafe.othersKept (by rw [hdpd]))
      · next hw =>
        rw [if_neg hw]
        exact hstands
  · rw [State.recordTrip_recorded h]
    exact ⟨h, rfl, fun _ => rfl, id, .refl p s⟩

/-- What a first trip that is no test trip shows: its kind, its count and its event, and at the third within a second the retirement of the
side (R309, R310). -/
structure TripRecorded (p : Fin 64) (kind : Nat) (s t : State) : Prop where
  shown : t.fld (Reg.DPD_TRIP_STAT p) 30 28 = kind
  counted : Counted s t (Reg.DPD_TRIP_CNT p) 1
  raised : Raised s t 0x0D01 [(1, p), (1, kind), (5, s.airStamp)]
  retired : 2 ≤ ((s.dpd.paths[p]).trips.filter fun u => s.now - u ≤ ticksPerS).length → t.txRetired p = true

/-- The entry to SAFE leaves what a trip shows. -/
theorem TripRecorded.safe {t : State} (h : TripRecorded p kind s t) (ht : t.Canon) (c : Nat) : TripRecorded p kind s (t.enterSafe c) := by
  have hsafe := State.enterSafe_safeStep t c
  have hcnt : ¬ (arr 64 Reg.DPD_TRIP_STAT (Reg.DPD_TRIP_CNT p) ∨ entryRegs (Reg.DPD_TRIP_CNT p)) := by
    refine not_or.2 ⟨?_, not_entryRegs_of_dpd (by simp; omega)⟩
    rintro ⟨i, hi, e⟩
    simp at e
    omega
  have hret : ¬ (arr 64 Reg.DPD_TRIP_STAT (Reg.TXP_RETIRE p) ∨ entryRegs (Reg.TXP_RETIRE p)) := by
    refine not_or.2 ⟨?_, txRetire_not_entryRegs p⟩
    rintro ⟨i, hi, e⟩
    simp at e
    omega
  exact ⟨(hsafe.kind ht p).trans h.shown, hsafe.within.counted h.counted hcnt, hsafe.within.raised h.raised, fun hthird =>
    (State.txRetired_congr (hsafe.within.rd hret)).trans (h.retired hthird)⟩

theorem State.tripTaken_recorded (hs : s.Canon) (hk : kind < 8) : TripRecorded p kind s (s.tripTaken p kind) := by
  have hshown := s.tripShown_within p kind
  have hcount := (s.tripShown p kind).tripCounted_within p
  have hrest := ((s.tripShown p kind).tripCounted p).tripRest_within p
  have hcanon := hshown.canon hs
  refine ⟨?_, ?_, hrest.raised (hcount.raised (s.raised_tripShown p kind)), fun hthird => ?_⟩
  · obtain ⟨hkind, -⟩ := State.fld_tripShown (p := p) (kind := kind) hs
    rw [State.tripTaken, hrest.fld (restRegs_apart p p).1, hcount.fld (by simp; omega), hkind, Nat.mod_eq_of_lt hk]
  · have hbump : Counted (s.tripShown p kind) ((s.tripShown p kind).tripCounted p) (Reg.DPD_TRIP_CNT p) 1 :=
      (State.bump_within _ _).counted (State.bump_counted _ _ hcanon) (by simp; omega)
    exact hrest.counted (hshown.counted_after hbump (by rintro (h | h | h) <;> simp at h <;> omega)) (restRegs_apart p p).2.1
  · have hnow : ((s.tripShown p kind).tripCounted p).now = s.now := Eq.trans (hcount.part_eq .now) (hshown.part_eq .now)
    have hdpd : ((s.tripShown p kind).tripCounted p).dpd = (s.markTrip p).dpd := Eq.trans (hcount.part_eq .dpd) (s.dpd_tripShown p kind)
    have hmark : (s.markTrip p).dpd.paths[p] = { s.dpd.paths[p] with recorded := true } := getElem_upd_same ..
    refine State.tripRest_retires (hcount.canon hcanon) ?_
    rw [hnow, hdpd, hmark]
    exact hthird

theorem State.window_tripTaken : (s.tripTaken p kind).dpd.window = (s.now, p.val) :: s.tripWindow := by
  have hcount := (s.tripShown p kind).tripCounted_within p
  have hnow : ((s.tripShown p kind).tripCounted p).now = s.now :=
    Eq.trans (hcount.part_eq .now) ((s.tripShown_within p kind).part_eq .now)
  have hdpd : ((s.tripShown p kind).tripCounted p).dpd = (s.markTrip p).dpd := Eq.trans (hcount.part_eq .dpd) (s.dpd_tripShown p kind)
  rw [State.tripTaken, State.window_tripRest, State.tripWindow, hnow, hdpd]
  rfl

/-- A first trip that is no test trip is recorded. -/
theorem State.recordTrip_records (hs : s.Canon) (h : s.dpd.paths[p].recorded = false) (hk : kind < 4) :
    (s.recordTrip p kind).2 = true ∧ TripRecorded p kind s (s.recordTrip p kind).1 := by
  have htaken := State.tripTaken_recorded (p := p) hs (show kind < 8 by omega)
  rw [State.recordTrip_new h (by omega)]
  refine ⟨rfl, ?_⟩
  dsimp only
  split
  · exact htaken.safe ((s.tripTaken_within p kind).canon hs) 4
  · exact htaken

/-- More than 8 paths within a second lead to SAFE, and fewer leave the mode (R311). -/
theorem State.recordTrip_mode (h : s.dpd.paths[p].recorded = false) (hk : kind < 4) (hm : s.mode ≠ .shelf) (hh : s.kpr.haltedAt = none) :
    (s.recordTrip p kind).1.mode = if 8 < distinctPaths ((s.now, p.val) :: s.tripWindow) then .safe else s.mode := by
  have hmode : (s.tripTaken p kind).mode = s.mode := (s.tripTaken_within p kind).part_eq .mode
  have hkpr : (s.tripTaken p kind).kpr = s.kpr := (s.tripTaken_within p kind).part_eq .kpr
  rw [State.recordTrip_new h (by omega), State.window_tripTaken]
  dsimp only
  split
  · exact State.enterSafe_mode 4 (by rw [hmode]; exact hm) (by rw [hkpr]; exact hh)
  · exact hmode

end
end

end Sys2Proof.Machine

namespace Sys2Proof.Machine

section
set_option Elab.async false

/-! ### A trip from its beginning on (R302, R305, R308, R309) -/

/-- Within the detector's judgement a trip begins: `lv` is the level that the envelope exceeds, if it does (R302). -/
def State.judged (s : State) (p : Fin 64) (lv : Option Int) : State := s.setDpd p fun d => { d with above := lv }

/-- Path `p` is muted by the guard, and its trip is recorded (R305, R309). -/
def Muted (p : Fin 64) (s : State) : Prop :=
  s.bit (Reg.DPD_TRIP_STAT p) 31 = true ∧ s.paths[p].txGate = false ∧ s.dpd.paths[p].recorded = true

theorem tripRegs_of_beginRegs {p : Fin 64} {a : Nat} (h : beginRegs p a) : tripRegs p a := by
  rcases h with h | h | h
  · exact .inl ⟨p, p.isLt, h⟩
  · exact .inr (.inr (.inl (.inr (.inl h))))
  · exact .inr (.inl h)

theorem beginRegs_apart (p q : Fin 64) : (q ≠ p → ¬ beginRegs p (Reg.DPD_TRIP_STAT q)) ∧ ¬ beginRegs p (Reg.DPD_TRIP_CNT q) := by
  refine ⟨fun hq => ?_, ?_⟩
  all_goals rintro (h | ⟨i, hi, h⟩ | ⟨i, hi, h⟩) <;> simp at h <;> omega

section
variable {s u : State} {p : Fin 64} {kind : Nat}

theorem State.judged_tripBegun (s : State) (p : Fin 64) (lv : Option Int) : TripBegun p s (s.judged p lv) :=
  s.setDpd_tripBegun p _ (fun _ => rfl) fun _ => rfl

theorem TripBegun.trip_within (h : TripBegun p s u) (kind : Nat) : Within s (u.recordTrip p kind).1 tripParts (tripRegs p) :=
  (h.within.mono fun _ => tripRegs_of_beginRegs).step (u.recordTrip_within p kind) fun _ h => h

/-- A first trip that is no test trip is recorded (R309). -/
theorem TripBegun.records (h : TripBegun p s u) (hs : s.Canon) (hr : s.dpd.paths[p].recorded = false) (hk : kind < 4) :
    (u.recordTrip p kind).2 = true ∧ TripRecorded p kind s (u.recordTrip p kind).1 := by
  obtain ⟨hflag, hrec⟩ := State.recordTrip_records (h.within.canon hs) (h.recorded.trans hr) hk
  have hnow : u.now = s.now := h.within.part_eq .now
  have hstamp : u.airStamp = s.airStamp := State.airStamp_congr s (h.within.part_eq .air) hnow
  have hraised := hrec.raised
  rw [hstamp] at hraised
  refine ⟨hflag, hrec.shown, h.within.counted_after hrec.counted (beginRegs_apart p p).2, h.within.raised_after hraised, fun hthird => ?_⟩
  exact hrec.retired (by rw [h.trips, hnow]; exact hthird)

theorem TripBegun.mode (h : TripBegun p s u) (hr : s.dpd.paths[p].recorded = false) (hk : kind < 4) (hm : s.mode ≠ .shelf)
    (hh : s.kpr.haltedAt = none) :
    (u.recordTrip p kind).1.mode = if 8 < distinctPaths ((s.now, p.val) :: s.tripWindow) then .safe else s.mode := by
  have hmode : u.mode = s.mode := h.within.part_eq .mode
  have hkpr : u.kpr = s.kpr := h.within.part_eq .kpr
  have hnow : u.now = s.now := h.within.part_eq .now
  have hwindow : u.tripWindow = s.tripWindow := by rw [State.tripWindow, State.tripWindow, h.window, hnow]
  rw [State.recordTrip_mode (h.recorded.trans hr) hk (by rw [hmode]; exact hm) (by rw [hkpr]; exact hh), hmode, hnow, hwindow]

/-- A further trip in the same run or off period is not recorded (R309). -/
theorem TripBegun.again (h : TripBegun p s u) (hr : s.dpd.paths[p].recorded = true) :
    u.recordTrip p kind = (u, false) ∧ u.rd (Reg.DPD_TRIP_CNT p) = s.rd (Reg.DPD_TRIP_CNT p) ∧ u.mode = s.mode ∧ u.rcd = s.rcd :=
  ⟨State.recordTrip_recorded (h.recorded.trans hr), h.within.rd (beginRegs_apart p p).2, h.within.part_eq .mode, h.within.part_eq .rcd⟩

/-- Where the trip leaves the mode, what its beginning did stands (R305, R308, R309). -/
theorem TripBegun.stands (h : TripBegun p s u) (hs : s.Canon) (hm : (u.recordTrip p kind).1.mode = s.mode) :
    TripStands p u (u.recordTrip p kind).1 := by
  have hmode : u.mode = s.mode := h.within.part_eq .mode
  exact State.recordTrip_stands (h.within.canon hs) (hm.trans hmode.symm)

theorem State.onTrip_eq (s : State) (p : Fin 64) (kind : Nat) : s.onTrip p kind = (s.onBegun p).recordTrip p kind := rfl

theorem State.offTrip_eq (s : State) (p : Fin 64) (kind : Nat) : s.offTrip p kind = (s.offBegun p).recordTrip p kind := rfl

/-- An on-period trip that leaves the mode mutes its path, and the paths that were muted stay so (R305). -/
theorem State.onTrip_mutes (hs : s.Canon) (hm : (s.onTrip p kind).1.mode = s.mode) :
    Muted p (s.onTrip p kind).1 ∧ ∀ q, Muted q s → Muted q (s.onTrip p kind).1 := by
  have hbegun := s.onBegun_tripBegun p
  rw [State.onTrip_eq] at hm ⊢
  have hstands := hbegun.stands hs hm
  obtain ⟨hbit, hgate⟩ := State.onBegun_mutes (p := p) hs
  have hmuted : Muted p ((s.onBegun p).recordTrip p kind).1 := ⟨(hstands.mute p).trans hbit, hstands.shut hgate, hstands.recorded⟩
  refine ⟨hmuted, fun q hq => ?_⟩
  by_cases hqp : q = p
  · rw [hqp]
    exact hmuted
  · obtain ⟨hpath, hdpd⟩ := (hbegun.others.trans hstands.others) q hqp
    obtain ⟨hb, hg, hr⟩ := hq
    refine ⟨?_, by rw [hpath]; exact hg, by rw [hdpd]; exact hr⟩
    rw [hstands.mute q, hbegun.within.bit ((beginRegs_apart p q).1 hqp)]
    exact hb

theorem State.onTrip_within (s : State) (p : Fin 64) (kind : Nat) : Within s (s.onTrip p kind).1 tripParts (tripRegs p) := by
  rw [State.onTrip_eq]
  exact (s.onBegun_tripBegun p).trip_within kind

theorem State.onTrip_mode_cases (s : State) (p : Fin 64) (kind : Nat) :
    (s.onTrip p kind).1.mode = s.mode ∨ (s.onTrip p kind).1.mode = .safe := by
  have hmode : (s.onBegun p).mode = s.mode := (s.onBegun_tripBegun p).within.part_eq .mode
  rw [State.onTrip_eq, ← hmode]
  exact State.recordTrip_mode_cases

end

/-! ### GUARD_TRIP_FORWARD and GUARD_TRIP_OFF_PERIOD (R302, R305, R308, R309) -/

/-- The registers that a trip may change. -/
abbrev guardRegs (a : Nat) : Prop :=
  a ∈ [Reg.DPD_TRIP_WIN, Reg.HKA_ABORT_CNT, Reg.HKA_ONESHOT,
    Reg.HKA_URGENT_DROP_CNT, Reg.KPR_LIVE_AIR, Reg.KPR_SAFE_CAUSE, Reg.KPR_SAFE_CNT, Reg.SEQ_CAL_FAIL_CNT, Reg.SEQ_CAL_STAT,
    Reg.SEQ_LEAN, Reg.SYN_ALIGN, Reg.TIM_ALIGN_REFUSE_CNT, Reg.TIM_EPOCH_CTRL, Reg.TXP_LIVE_HI, Reg.TXP_LIVE_LO,
    Reg.TXP_RETIRE_CNT] ∨ arr 80 Reg.BIA_CLEAR_CNT a ∨ arr 64 Reg.DPD_CAP_DROP_CNT a ∨ arr 64 Reg.DPD_TRIP_CNT a ∨
    arr 64 Reg.DPD_TRIP_STAT a ∨ arr 16 Reg.HKA_QUAD a ∨ arr 18 Reg.KPR_LT a ∨ arr 9 Reg.RXP_OBS_ROUTE a ∨
    arr 16 Reg.SEQ_DEFER_CNT a ∨ arr 64 Reg.TXP_ATTEN a ∨ arr 64 Reg.TXP_RETIRE a ∨ arr 64 Reg.TXP_SAT_CNT a ∨
    eventRegs 0x0004 a ∨ eventRegs 0x0104 a ∨ eventRegs 0x0702 a ∨ eventRegs 0x0901 a ∨ eventRegs 0x0D01 a

theorem guardRegs_of_entryRegs {a : Nat} (h : entryRegs a) : guardRegs a := by
  have hlt : arr 18 Reg.KPR_LT (Reg.KPR_LT 11) := ⟨11, by decide, rfl⟩
  simp only [entryRegs, guardRegs, List.mem_cons, List.not_mem_nil, or_false] at h ⊢
  rcases h with (rfl | rfl | rfl | rfl | rfl | rfl | rfl | rfl | rfl | rfl) | h | h | h | h | h | h | h | h | h
  all_goals simp only [*, true_or, or_true]

theorem guardRegs_of_restRegs {p : Fin 64} {a : Nat} (h : restRegs p a) : guardRegs a := by
  have hlt : arr 18 Reg.KPR_LT (Reg.KPR_LT 15) := ⟨15, by decide, rfl⟩
  have hret : arr 64 Reg.TXP_RETIRE (Reg.TXP_RETIRE p) := ⟨p, p.isLt, rfl⟩
  simp only [restRegs, requestRegs, txRetireRegs, guardRegs, List.mem_cons, List.not_mem_nil, or_false] at h ⊢
  rcases h with rfl | (rfl | rfl | rfl) | rfl | (rfl | rfl | rfl | rfl) | h | h | h
  all_goals simp only [*, true_or, or_true]

theorem guardRegs_of_tripRegs {p : Fin 64} {a : Nat} (h : tripRegs p a) : guardRegs a := by
  have hlt : arr 18 Reg.KPR_LT (Reg.KPR_LT 16) := ⟨16, by decide, rfl⟩
  have hcnt : arr 64 Reg.DPD_TRIP_CNT (Reg.DPD_TRIP_CNT p) := ⟨p, p.isLt, rfl⟩
  rcases h with h | h | h | h | (rfl | rfl) | h
  case inr.inr.inl => exact guardRegs_of_entryRegs h
  case inr.inr.inr.inr.inr => exact guardRegs_of_restRegs h
  all_goals simp only [guardRegs, *, true_or, or_true]

section
variable {s : State} {p : Fin 64} {env : Vector Int 3} {lv : Int} {on : Bool} {t : State → State}

theorem State.judgeForward_trips (hl : s.fwdLevel p on = some lv) (hx : lv < s.filtered env) (ha : s.dpd.paths[p].above ≠ some lv) :
    s.judgeForward p on env t = t (s.judged p (some lv)) := by
  unfold State.judgeForward
  rw [hl]
  dsimp only
  rw [if_pos (by simp [hx]; exact ha), decide_eq_true hx]
  rfl

theorem State.judgeForward_idle (hl : s.fwdLevel p on = some lv) (h : s.filtered env ≤ lv ∨ s.dpd.paths[p].above = some lv) :
    s.judgeForward p on env t = s.judged p (if lv < s.filtered env then some lv else none) := by
  unfold State.judgeForward
  rw [hl]
  dsimp only
  rw [if_neg]
  · simp only [decide_eq_true_eq]
    rfl
  · rcases h with h | h
    · simp [Int.not_lt.2 h]
    · rw [h]
      simp

theorem exec_guardTripForward (hm : s.mode ≠ .shelf) (ho : s.guardIsOn p = true) :
    exec (.guardTripForward p env) s = .next (s.judgeForward p true env fun s => (s.onTrip p 1).1) :=
  congrArg Host.Outcome.next (if_pos (by simp [hm, ho]))

/-- An off-period trip with its own count (R308, R309). -/
def State.offPeriodTrip (s : State) (p : Fin 64) : State :=
  if (s.offTrip p 3).2 then (s.offTrip p 3).1.bump (Reg.DPD_OFF_TRIP_CNT p) else (s.offTrip p 3).1

theorem exec_guardTripOffPeriod (hm : s.mode ≠ .shelf) (ho : s.guardIsOn p = false) :
    exec (.guardTripOffPeriod p env) s = .next (s.judgeForward p false env fun s => s.offPeriodTrip p) := by
  rw [exec, execGuardTripOffPeriod, if_pos (by simp [hm, ho])]
  refine congrArg (fun f => Host.Outcome.next (s.judgeForward p false env f)) (funext fun u => ?_)
  unfold State.offPeriodTrip
  generalize u.offTrip p 3 = x
  rfl

theorem State.judgeForward_disabled (hl : s.fwdLevel p on = none) : s.judgeForward p on env t = s := by
  unfold State.judgeForward
  rw [hl]

/-- In SHELF, in the other period and without a threshold the forward detector does not judge (R302, R304). -/
theorem exec_guardTripForward_idle (h : s.mode = .shelf ∨ s.guardIsOn p = false ∨ s.fwdLevel p true = none) :
    exec (.guardTripForward p env) s = .next s := by
  refine congrArg Host.Outcome.next ?_
  split
  · next hc =>
    simp only [Bool.and_eq_true, bne_iff_ne] at hc
    obtain ⟨hm, ho⟩ := hc
    exact State.judgeForward_disabled (by simpa [hm, ho] using h)
  · rfl

theorem exec_guardTripOffPeriod_idle (h : s.mode = .shelf ∨ s.guardIsOn p = true ∨ s.fwdLevel p false = none) :
    exec (.guardTripOffPeriod p env) s = .next s := by
  refine congrArg Host.Outcome.next ?_
  split
  · next hc =>
    simp only [Bool.and_eq_true, bne_iff_ne, Bool.not_eq_true'] at hc
    obtain ⟨hm, ho⟩ := hc
    exact State.judgeForward_disabled (by simpa [hm, ho] using h)
  · rfl

/-- A judgement alone keeps the detector's last comparison, and nothing else changes (R302). -/
theorem State.judged_spec (s : State) (p : Fin 64) (x : Option Int) : (s.judged p x).dpd.paths[p] = { s.dpd.paths[p] with above := x } ∧
    (∀ k : Fin 64, k ≠ p → (s.judged p x).dpd.paths[k] = s.dpd.paths[k]) ∧ Frame s (s.judged p x) [.dpd] noRegs :=
  ⟨getElem_upd_same .., fun _ hk => getElem_upd_other _ _ hk, (s.setDpd_within p _).frame⟩

/-- The forward detector finds its level exceeded in the on period (R302, R305, R309 to R311). -/
theorem exec_guardTripForward_spec (hs : s.Canon) (hm : s.mode ≠ .shelf) (ho : s.guardIsOn p = true) (hl : s.fwdLevel p true = some lv)
    (hx : lv < s.filtered env) (ha : s.dpd.paths[p].above ≠ some lv) : ∃ t, exec (.guardTripForward p env) s = .next t ∧
    (t.mode = s.mode → Muted p t) ∧ (s.dpd.paths[p].recorded = false → TripRecorded p 1 s t) ∧
    (s.dpd.paths[p].recorded = false → s.kpr.haltedAt = none →
      t.mode = if 8 < distinctPaths ((s.now, p.val) :: s.tripWindow) then .safe else s.mode) ∧
    (s.dpd.paths[p].recorded = true → t.rd (Reg.DPD_TRIP_CNT p) = s.rd (Reg.DPD_TRIP_CNT p) ∧ t.mode = s.mode ∧ t.rcd = s.rcd) ∧
    Frame s t tripParts guardRegs := by
  have hjudged := s.judged_tripBegun p (some lv)
  have hbegun := hjudged.trans (State.onBegun_tripBegun _ p)
  have hexec := (exec_guardTripForward (env := env) hm ho).trans (congrArg Host.Outcome.next (State.judgeForward_trips hl hx ha))
  have hmuted := State.onTrip_mutes (p := p) (kind := 1) (hjudged.within.canon hs)
  have hjmode : (s.judged p (some lv)).mode = s.mode := hjudged.within.part_eq .mode
  rw [State.onTrip_eq] at hexec hmuted
  rw [hjmode] at hmuted
  generalize (s.judged p (some lv)).onBegun p = u at hbegun hexec hmuted
  refine ⟨_, hexec, fun hmode => (hmuted hmode).1, fun hr => ?_, fun hr hh => ?_, fun hr => ?_, ?_⟩
  · exact (hbegun.records hs hr (by decide)).2
  · exact hbegun.mode hr (by decide) hm hh
  · obtain ⟨hsame, hcnt, hmode, hrcd⟩ := hbegun.again (kind := 1) hr
    rw [hsame]
    exact ⟨hcnt, hmode, hrcd⟩
  · exact (hbegun.trip_within 1).frame.mono (fun _ h => h) fun _ => guardRegs_of_tripRegs

end

/-- Of the pre-distorter's registers a trip changes those of trips and dropped captures alone. -/
theorem tripRegs_of_dpd {p : Fin 64} {a : Nat} (h : tripRegs p a) (ha : a / 0x1000000 = 0x0D) :
    arr 64 Reg.DPD_TRIP_STAT a ∨ arr 64 Reg.DPD_CAP_DROP_CNT a ∨ a = Reg.BLK_STAT_SUM 0x0D ∨ a = Reg.DPD_TRIP_CNT p ∨
      a = Reg.DPD_TRIP_WIN := by
  have hrest (h : restRegs p a) : a = Reg.DPD_TRIP_WIN := by
    simp only [restRegs, requestRegs, txRetireRegs, List.mem_cons, List.not_mem_nil, or_false] at h
    rcases h with h | h | h | h | ⟨i, hi, h⟩ | ⟨i, hi, h⟩ | h | h
    · exact h
    all_goals simp at h; omega
  rcases h with h | h | h | (h | h) | (h | h) | h
  · exact .inl h
  · exact .inr (.inl h)
  · exact absurd h (not_entryRegs_of_dpd ha)
  · exact .inr (.inr (.inl h))
  · simp at h
    omega
  · exact .inr (.inr (.inr (.inl h)))
  · simp at h
    omega
  · exact .inr (.inr (.inr (.inr (hrest h))))

theorem offTripCnt_not_tripRegs (p q : Fin 64) : ¬ tripRegs p (Reg.DPD_OFF_TRIP_CNT q) := by
  intro h
  rcases tripRegs_of_dpd h (by simp; omega) with ⟨i, hi, h⟩ | ⟨i, hi, h⟩ | h | h | h <;> simp at h <;> omega

theorem reflTripCnt_not_tripRegs (p : Fin 64) (q : Fin 16) : ¬ tripRegs p (Reg.DPD_REFL_TRIP_CNT q) := by
  intro h
  rcases tripRegs_of_dpd h (by simp; omega) with ⟨i, hi, h⟩ | ⟨i, hi, h⟩ | h | h | h <;> simp at h <;> omega

theorem txRetire_not_tripRegs {p q : Fin 64} (hq : q ≠ p) : ¬ tripRegs p (Reg.TXP_RETIRE q) := by
  rintro (⟨i, hi, h⟩ | ⟨i, hi, h⟩ | h | h | h | h)
  case inr.inr.inl => exact txRetire_not_entryRegs q h
  case inr.inr.inr.inr.inr => exact (restRegs_apart p q).2.2 hq h
  case inr.inr.inr.inl => rcases h with h | h <;> simp at h <;> omega
  case inr.inr.inr.inr.inl => rcases h with h | h <;> simp at h <;> omega
  all_goals simp at h; omega

section
variable {s : State} {p : Fin 64} {env : Vector Int 3} {lv : Int}

/-- The forward detector finds its level exceeded in the off period (R302, R308, R309). -/
theorem exec_guardTripOffPeriod_spec (hs : s.Canon) (hm : s.mode ≠ .shelf) (ho : s.guardIsOn p = false) (hl : s.fwdLevel p false = some lv)
    (hx : lv < s.filtered env) (ha : s.dpd.paths[p].above ≠ some lv) : ∃ t, exec (.guardTripOffPeriod p env) s = .next t ∧
    (t.mode = s.mode → t.dpd.paths[p].biasOff = true ∧ t.dpd.paths[p].recorded = true) ∧
    (s.dpd.paths[p].recorded = false → t.fld (Reg.DPD_TRIP_STAT p) 30 28 = 3 ∧ Counted s t (Reg.DPD_TRIP_CNT p) 1 ∧
      Counted s t (Reg.DPD_OFF_TRIP_CNT p) 1) ∧
    (s.dpd.paths[p].recorded = true → t.rd (Reg.DPD_TRIP_CNT p) = s.rd (Reg.DPD_TRIP_CNT p) ∧
      t.rd (Reg.DPD_OFF_TRIP_CNT p) = s.rd (Reg.DPD_OFF_TRIP_CNT p) ∧ t.rcd = s.rcd) ∧
    Frame s t tripParts (fun a => tripRegs p a ∨ a = Reg.DPD_OFF_TRIP_CNT p) := by
  have hbegun := (s.judged_tripBegun p (some lv)).trans (State.offBegun_tripBegun _ p)
  have hexec := (exec_guardTripOffPeriod (env := env) hm ho).trans (congrArg Host.Outcome.next (State.judgeForward_trips hl hx ha))
  have htrip := hbegun.trip_within 3
  have hoff := (s.judged p (some lv)).offBegun_clears p
  rw [State.offPeriodTrip, State.offTrip_eq] at hexec
  generalize (s.judged p (some lv)).offBegun p = u at hbegun hexec htrip hoff
  cases hr : s.dpd.paths[p].recorded
  · obtain ⟨hflag, hrec⟩ := hbegun.records hs hr (kind := 3) (by decide)
    rw [if_pos hflag] at hexec
    have hbump := (u.recordTrip p 3).1.bump_within (Reg.DPD_OFF_TRIP_CNT p)
    refine ⟨_, hexec, fun hmode => ?_, fun _ => ⟨?_, ?_, ?_⟩, nofun, ?_⟩
    · have hstands := hbegun.stands hs (hmode : (u.recordTrip p 3).1.mode = s.mode)
      exact ⟨hstands.biasOff.trans hoff, hstands.recorded⟩
    · rw [hbump.fld (by simp)]
      exact hrec.shown
    · exact hbump.counted hrec.counted (by simp)
    · exact htrip.counted_after (State.bump_counted _ _ (htrip.canon hs)) (offTripCnt_not_tripRegs p p)
    · exact ((htrip.mono fun _ => .inl).step hbump fun _ => .inr).frame
  · obtain ⟨hsame, hcnt, hmode, hrcd⟩ := hbegun.again (kind := 3) hr
    rw [hsame] at hexec htrip
    refine ⟨u, hexec, fun _ => ⟨hoff, hbegun.recorded.trans hr⟩, nofun, fun _ => ⟨hcnt, ?_, hrcd⟩, (htrip.mono fun _ => .inl).frame⟩
    exact htrip.rd (offTripCnt_not_tripRegs p p)

end
end

end Sys2Proof.Machine

namespace Sys2Proof.Machine

section
set_option Elab.async false

/-! ### GUARD_TRIP_REFLECTED (R302, R304, R306, R309) -/

/-- The reflected detector of quad `q` keeps its comparison (R302). -/
def State.reflJudged (s : State) (q : Fin 16) (x : Option Int) : State :=
  { s with dpd := { s.dpd with reflAbove := s.dpd.reflAbove.set q x } }

/-- From `s` to `t` path `p` trips in its on period: `t` stays within the trip's registers, and mutes the path unless SAFE is entered (R305,
R311). -/
structure TripsTo (s : State) (p : Fin 64) (t : State) : Prop where
  within : Within s t tripParts (tripRegs p)
  mode_cases : t.mode = s.mode ∨ t.mode = .safe
  mutes : s.Canon → t.mode = s.mode → Muted p t ∧ ∀ q, Muted q s → Muted q t

theorem State.onTrip_tripsTo (s : State) (p : Fin 64) (kind : Nat) : TripsTo s p (s.onTrip p kind).1 :=
  ⟨s.onTrip_within p kind, s.onTrip_mode_cases p kind, State.onTrip_mutes⟩

/-- The registers that trips of the paths of `l` may change. -/
abbrev quadTripRegs (l : List (Fin 64)) (a : Nat) : Prop := ∃ p ∈ l, tripRegs p a

section
variable {f : State → Fin 64 → State} {s : State} {l : List (Fin 64)}

theorem TripsTo.foldl_within (hf : ∀ s p, TripsTo s p (f s p)) (s : State) (l : List (Fin 64)) :
    Within s (l.foldl f s) tripParts (quadTripRegs l) :=
  List.foldlRecOn (motive := fun u => Within s u tripParts (quadTripRegs l)) _ _ (.refl ..) fun u hu p hp =>
    hu.step ((hf u p).within) fun _ h => ⟨p, hp, h⟩

theorem TripsTo.foldl_mode_cases (hf : ∀ s p, TripsTo s p (f s p)) (s : State) (l : List (Fin 64)) :
    (l.foldl f s).mode = s.mode ∨ (l.foldl f s).mode = .safe :=
  List.foldlRecOn (motive := fun u : State => u.mode = s.mode ∨ u.mode = .safe) _ _ (.inl rfl) fun u hu p _ => by
    rcases (hf u p).mode_cases with h | h
    · rw [h]
      exact hu
    · exact .inr h

/-- Trips that leave the mode mute their paths, and the paths that were muted stay so (R305, R306). -/
theorem TripsTo.foldl_mutes (hf : ∀ s p, TripsTo s p (f s p)) (hs : s.Canon) (hm : (l.foldl f s).mode = s.mode) {q : Fin 64}
    (hq : q ∈ l ∨ Muted q s) : Muted q (l.foldl f s) := by
  induction l generalizing s with
  | nil => exact hq.resolve_left (by simp)
  | cons p l ih =>
    rw [List.foldl_cons] at hm ⊢
    have hfirst : (f s p).mode = s.mode := by
      rcases (hf s p).mode_cases with h | h
      · exact h
      · rcases TripsTo.foldl_mode_cases hf (f s p) l with hl | hl
        · exact hl.symm.trans hm
        · exact h.trans (hl.symm.trans hm)
    obtain ⟨hmuted, hkept⟩ := (hf s p).mutes hs hfirst
    refine ih ((hf s p).within.canon hs) (hm.trans hfirst.symm) ?_
    rcases hq with hq | hq
    · rcases List.mem_cons.1 hq with rfl | hq
      · exact .inr hmuted
      · exact .inl hq
    · exact .inr (hkept q hq)

end

/-- The paths of `l` trip one after the other for the reflected power of their quad (R306). -/
def State.reflTrips (s : State) (l : List (Fin 64)) : State := l.foldl (fun s p => (s.onTrip p 2).1) s

theorem State.reflTrips_within (s : State) (l : List (Fin 64)) : Within s (s.reflTrips l) tripParts (quadTripRegs l) :=
  TripsTo.foldl_within (fun s p => s.onTrip_tripsTo p 2) s l

theorem State.reflTrips_mutes {s : State} {l : List (Fin 64)} (hs : s.Canon) (hm : (s.reflTrips l).mode = s.mode) {p : Fin 64} (hp : p ∈ l) :
    Muted p (s.reflTrips l) := by
  unfold State.reflTrips at hm ⊢
  exact TripsTo.foldl_mutes (fun s p => s.onTrip_tripsTo p 2) hs hm (.inl hp)

section
variable {s : State} {q : Fin 16} {env : Vector Int 3} {lv : Int}

theorem State.reflJudged_within (s : State) (q : Fin 16) (x : Option Int) : Within s (s.reflJudged q x) [.dpd] noRegs := .of_dpd s _

theorem quadOf_of_mem_pathsOf {p : Fin 64} (h : p ∈ pathsOf q) : quadOf p = q := by
  simp only [pathsOf, List.mem_cons, List.not_mem_nil, or_false] at h
  rcases h with rfl | rfl | rfl | rfl <;> simp only [quadOf, Fin.ext_iff] <;> omega

theorem exec_guardTripReflected (hm : s.mode ≠ .shelf) (ho : ∃ p ∈ pathsOf q, s.guardIsOn p = true) (hl : s.reflLevel q = some lv)
    (hx : lv < s.filtered env) (ha : s.dpd.reflAbove[q] ≠ some lv) : exec (.guardTripReflected q env) s =
      .next (((s.reflJudged q (some lv)).reflTrips (pathsOf q)).bump (Reg.DPD_REFL_TRIP_CNT q)) := by
  rw [exec, execGuardTripReflected, if_pos (by simpa [hm] using ho), hl]
  dsimp only
  rw [if_pos (by simp [hx]; exact ha), decide_eq_true hx]
  rfl

theorem exec_guardTripReflected_below (hm : s.mode ≠ .shelf) (ho : ∃ p ∈ pathsOf q, s.guardIsOn p = true) (hl : s.reflLevel q = some lv)
    (h : s.filtered env ≤ lv ∨ s.dpd.reflAbove[q] = some lv) :
    exec (.guardTripReflected q env) s = .next (s.reflJudged q (if lv < s.filtered env then some lv else none)) := by
  rw [exec, execGuardTripReflected, if_pos (by simpa [hm] using ho), hl]
  dsimp only
  rw [if_neg]
  · simp only [decide_eq_true_eq]
    rfl
  · rcases h with h | h
    · simp [Int.not_lt.2 h]
    · rw [h]
      simp

/-- In SHELF, in the off period and without a threshold the reflected detector does not judge (R302, R304). -/
theorem exec_guardTripReflected_idle (h : s.mode = .shelf ∨ s.reflLevel q = none ∨ (∀ p ∈ pathsOf q, s.guardIsOn p = false)) :
    exec (.guardTripReflected q env) s = .next s := by
  refine congrArg Host.Outcome.next ?_
  split
  · next hc =>
    simp only [Bool.and_eq_true, bne_iff_ne, List.any_eq_true] at hc
    obtain ⟨hm, p, hp, ho⟩ := hc
    have hl : s.reflLevel q = none := by
      rcases h with h | h | h
      · exact absurd h hm
      · exact h
      · exact absurd ho (Bool.eq_false_iff.1 (h p hp))
    rw [hl]
  · rfl

/-- The registers that a reflected trip may change. -/
abbrev reflRegs (a : Nat) : Prop :=
  a ∈ [Reg.DPD_TRIP_WIN, Reg.HKA_ABORT_CNT, Reg.HKA_ONESHOT, Reg.HKA_URGENT_DROP_CNT, Reg.KPR_LIVE_AIR, Reg.KPR_SAFE_CAUSE,
    Reg.KPR_SAFE_CNT, Reg.SEQ_CAL_FAIL_CNT, Reg.SEQ_CAL_STAT, Reg.SEQ_LEAN, Reg.SYN_ALIGN, Reg.TIM_ALIGN_REFUSE_CNT,
    Reg.TIM_EPOCH_CTRL, Reg.TXP_LIVE_HI, Reg.TXP_LIVE_LO, Reg.TXP_RETIRE_CNT] ∨ arr 80 Reg.BIA_CLEAR_CNT a ∨
    arr 64 Reg.DPD_CAP_DROP_CNT a ∨ arr 16 Reg.DPD_REFL_TRIP_CNT a ∨ arr 64 Reg.DPD_TRIP_CNT a ∨ arr 64 Reg.DPD_TRIP_STAT a ∨
    arr 16 Reg.HKA_QUAD a ∨ arr 18 Reg.KPR_LT a ∨ arr 9 Reg.RXP_OBS_ROUTE a ∨ arr 16 Reg.SEQ_DEFER_CNT a ∨ arr 64 Reg.TXP_ATTEN a ∨
    arr 64 Reg.TXP_RETIRE a ∨ arr 64 Reg.TXP_SAT_CNT a ∨ eventRegs 0x0004 a ∨ eventRegs 0x0104 a ∨ eventRegs 0x0702 a ∨
    eventRegs 0x0901 a ∨ eventRegs 0x0D01 a

theorem reflRegs_of_guardRegs {a : Nat} (h : guardRegs a) : reflRegs a := by
  rcases h with h | h | h | h
  · exact .inl h
  · exact .inr (.inl h)
  · exact .inr (.inr (.inl h))
  · exact .inr (.inr (.inr (.inr h)))

/-- The reflected detector finds its level exceeded in the on period of its quad (R302, R306, R309, R310). -/
theorem exec_guardTripReflected_spec (hs : s.Canon) (hm : s.mode ≠ .shelf) (ho : ∃ p ∈ pathsOf q, s.guardIsOn p = true)
    (hl : s.reflLevel q = some lv) (hx : lv < s.filtered env) (ha : s.dpd.reflAbove[q] ≠ some lv) :
    ∃ t, exec (.guardTripReflected q env) s = .next t ∧ (t.mode = s.mode → ∀ p ∈ pathsOf q, Muted p t) ∧
    Counted s t (Reg.DPD_REFL_TRIP_CNT q) 1 ∧ (∀ p : Fin 64, t.txRetired p = false ∨ s.txRetired p = true ∨ quadOf p = q) ∧
    Frame s t tripParts reflRegs := by
  have hjudged := s.reflJudged_within q (some lv)
  have hexec := exec_guardTripReflected (env := env) hm ho hl hx ha
  have hjmode : (s.reflJudged q (some lv)).mode = s.mode := hjudged.part_eq .mode
  have hmutes (hm : ((s.reflJudged q (some lv)).reflTrips (pathsOf q)).mode = s.mode) (p : Fin 64) (hp : p ∈ pathsOf q) :=
    State.reflTrips_mutes (hjudged.canon hs) (hm.trans hjmode.symm) hp
  have htrips := (hjudged.mono fun _ h => h.elim).trans (State.reflTrips_within (s.reflJudged q (some lv)) (pathsOf q))
  generalize (s.reflJudged q (some lv)).reflTrips (pathsOf q) = u at hexec hmutes htrips
  have hbump := u.bump_within (Reg.DPD_REFL_TRIP_CNT q)
  refine ⟨_, hexec, fun hmode p hp => ?_, ?_, fun p => ?_, ?_⟩
  · obtain ⟨hbit, hgate, hrec⟩ := hmutes ((u.bump_mode _).symm.trans hmode) p hp
    have hstat : Reg.DPD_TRIP_STAT p ≠ Reg.DPD_REFL_TRIP_CNT q := by simp; omega
    rw [Muted, hbump.bit hstat, State.bump_paths, State.bump_dpd]
    exact ⟨hbit, hgate, hrec⟩
  · exact htrips.counted_after (State.bump_counted _ _ (htrips.canon hs)) fun ⟨p, _, h⟩ => reflTripCnt_not_tripRegs p q h
  · by_cases hp : p ∈ pathsOf q
    · exact .inr (.inr (quadOf_of_mem_pathsOf hp))
    · have hkept : (u.bump (Reg.DPD_REFL_TRIP_CNT q)).txRetired p = s.txRetired p := by
        rw [State.txRetired_congr (hbump.rd (by simp; omega)), State.txRetired_congr (htrips.rd _)]
        rintro ⟨k, hk, h⟩
        exact txRetire_not_tripRegs (fun e => hp (by rwa [e])) h
      rw [hkept]
      cases s.txRetired p
      · exact .inl rfl
      · exact .inr (.inl rfl)
  · refine ((htrips.mono ?_).step hbump ?_).frame
    · rintro a ⟨p, -, h⟩
      exact reflRegs_of_guardRegs (guardRegs_of_tripRegs h)
    · rintro a rfl
      exact .inr (.inr (.inr (.inl ⟨q, q.isLt, rfl⟩)))

end

/-! ### TRIP_WINDOW_EXPIRE (R311) -/

theorem exec_tripWindowExpire_spec {s : State} (hs : s.Canon) : ∃ t, exec .tripWindowExpire s = .next t ∧ t.dpd.window = s.tripWindow ∧
    t.fld Reg.DPD_TRIP_WIN 6 0 = distinctPaths s.tripWindow % 128 ∧ Frame s t [.dpd] (fun a => a = Reg.DPD_TRIP_WIN) := by
  have hwindow : Within s { s with dpd := { s.dpd with window := s.tripWindow } } [.dpd] noRegs := .of_dpd s _
  refine ⟨s.showTrips, rfl, rfl, ?_, ?_⟩
  · exact State.fld_setFld_same (hwindow.canon hs) _ (by decide) (by decide)
  · exact ((hwindow.mono fun _ h => h.elim).step (State.setFld_within _ _ 6 0 _) fun _ h => h).frame

/-! ### GUARD_TEST (R314) -/

/-- The parts and the registers that a test trip may change. -/
abbrev testParts : List Part := [.paths, .dpd, .bias, .rcd]

abbrev testRegs (a : Nat) : Prop :=
  arr 80 Reg.BIA_CLEAR_CNT a ∨ arr 64 Reg.DPD_CAP_DROP_CNT a ∨ arr 64 Reg.DPD_TRIP_STAT a ∨ eventRegs 0x0D01 a

section
variable {s u : State} {p : Fin 64}

theorem State.recordTrip_test_within (s : State) (p : Fin 64) :
    Within s (s.recordTrip p 4).1 [.dpd, .rcd] (fun a => a = Reg.DPD_TRIP_STAT p ∨ eventRegs 0x0D01 a) := by
  cases h : s.dpd.paths[p].recorded
  · rw [State.recordTrip_test h]
    exact s.tripShown_within p 4
  · rw [State.recordTrip_recorded h]
    exact .refl ..

theorem TripBegun.test_within (h : TripBegun p s u) : Within s (u.recordTrip p 4).1 testParts testRegs := by
  have hbegun : Within s u testParts testRegs := h.within.mono fun a ha => by
    rcases ha with rfl | h | h
    · exact .inr (.inr (.inl ⟨p, p.isLt, rfl⟩))
    · exact .inl h
    · exact .inr (.inl h)
  refine hbegun.step (u.recordTrip_test_within p) fun a ha => ?_
  rcases ha with rfl | h
  · exact .inr (.inr (.inl ⟨p, p.isLt, rfl⟩))
  · exact .inr (.inr (.inr h))

/-- A test trip that is the first of its run or off period shows its kind (R314). -/
theorem TripBegun.test_shown (h : TripBegun p s u) (hs : s.Canon) (hr : s.dpd.paths[p].recorded = false) :
    (u.recordTrip p 4).1.fld (Reg.DPD_TRIP_STAT p) 30 28 = 4 := by
  rw [State.recordTrip_test (h.recorded.trans hr)]
  obtain ⟨hkind, -⟩ := State.fld_tripShown (p := p) (kind := 4) (h.within.canon hs)
  exact hkind

theorem TripBegun.test_stands (h : TripBegun p s u) (hs : s.Canon) : TripStands p u (u.recordTrip p 4).1 :=
  h.stands hs (h.test_within.part_eq .mode)

theorem State.testTrip_eq_on (h : s.guardIsOn p = true) : s.testTrip p = ((s.onBegun p).recordTrip p 4).1 := if_pos h

theorem State.testTrip_eq_off (h : s.guardIsOn p = false) : s.testTrip p = ((s.offBegun p).recordTrip p 4).1 :=
  if_neg (Bool.eq_false_iff.1 h)

theorem State.testTrip_within (s : State) (p : Fin 64) : Within s (s.testTrip p) testParts testRegs := by
  cases h : s.guardIsOn p
  · rw [State.testTrip_eq_off h]
    exact (s.offBegun_tripBegun p).test_within
  · rw [State.testTrip_eq_on h]
    exact (s.onBegun_tripBegun p).test_within

/-- A test trip acts as the period in force has it, and is recorded with its kind (R309, R314). -/
theorem State.testTrip_spec (hs : s.Canon) (p : Fin 64) : (s.testTrip p).dpd.paths[p].recorded = true ∧
    (s.guardIsOn p = false → (s.testTrip p).dpd.paths[p].biasOff = true) ∧
    (s.guardIsOn p = true → (s.testTrip p).bit (Reg.DPD_TRIP_STAT p) 31 = true) ∧
    (s.dpd.paths[p].recorded = false → (s.testTrip p).fld (Reg.DPD_TRIP_STAT p) 30 28 = 4) := by
  cases h : s.guardIsOn p
  · have hbegun := s.offBegun_tripBegun p
    have hstands := hbegun.test_stands hs
    rw [State.testTrip_eq_off h]
    exact ⟨hstands.recorded, fun _ => hstands.biasOff.trans (s.offBegun_clears p), nofun, hbegun.test_shown hs⟩
  · have hbegun := s.onBegun_tripBegun p
    have hstands := hbegun.test_stands hs
    obtain ⟨hbit, -⟩ := State.onBegun_mutes (p := p) hs
    rw [State.testTrip_eq_on h]
    exact ⟨hstands.recorded, nofun, fun _ => (hstands.mute p).trans hbit, hbegun.test_shown hs⟩

/-- The paths of a test that a write of DPD_GUARD_TEST names: the target path, or the four of its quad (R314). -/
def State.testTrips (s : State) (w : Word) : State :=
  let p : Fin 64 := ⟨fldOf w 5 0 % 64, Nat.mod_lt _ (by decide)⟩
  if bitOf w.toNat 8 then (pathsOf (quadOf p)).foldl (fun s p => s.testTrip p) s else s.testTrip p

theorem State.testTrips_within (s : State) (w : Word) : Within s (s.testTrips w) testParts testRegs :=
  .ite (.foldl (fun s p => s.testTrip_within p) _ s) (s.testTrip_within _)

theorem State.testTrips_single {w : Word} (hq : bitOf w.toNat 8 = false) (hp : p.val = fldOf w 5 0) : s.testTrips w = s.testTrip p := by
  have htarget : (⟨fldOf w 5 0 % 64, Nat.mod_lt _ (by decide)⟩ : Fin 64) = p := Fin.ext (by simp [← hp])
  unfold State.testTrips
  rw [htarget]
  exact if_neg (Bool.eq_false_iff.1 hq)

theorem exec_guardTest {w : Word} (hw : s.writable = true) (hg : bitOf w.toNat 31 = true) : exec (.guardTest w) s =
    .next (if s.mode = .ready then (s.testTrips w).bump Reg.DPD_TEST_TRIP_CNT else s.bump Reg.DPD_REFUSE_CNT) :=
  congrArg Host.Outcome.next ((if_pos hw).trans (if_pos hg))

theorem exec_guardTest_idle {w : Word} (h : s.writable = false ∨ bitOf w.toNat 31 = false) : exec (.guardTest w) s = .next s := by
  refine congrArg Host.Outcome.next ?_
  rw [State.writeGuardTest]
  rcases h with h | h <;> simp [h]

theorem exec_guardTest_spec (hs : s.Canon) {w : Word} (hw : s.writable = true) (hg : bitOf w.toNat 31 = true) (hm : s.mode = .ready) :
    ∃ t, exec (.guardTest w) s = .next t ∧ Counted s t Reg.DPD_TEST_TRIP_CNT 1 ∧
    (bitOf w.toNat 8 = false → ∀ p : Fin 64, p.val = fldOf w 5 0 →
      t.dpd.paths[p].recorded = true ∧ (s.guardIsOn p = false → t.dpd.paths[p].biasOff = true) ∧ (s.guardIsOn p = true →
      t.bit (Reg.DPD_TRIP_STAT p) 31 = true) ∧ (s.dpd.paths[p].recorded = false → t.fld (Reg.DPD_TRIP_STAT p) 30 28 = 4)) ∧
    (∀ p : Fin 64, t.rd (Reg.DPD_TRIP_CNT p) = s.rd (Reg.DPD_TRIP_CNT p)) ∧
    Frame s t testParts (fun a => a = Reg.DPD_TEST_TRIP_CNT ∨ testRegs a) := by
  have htrips := s.testTrips_within w
  have hbump := (s.testTrips w).bump_within Reg.DPD_TEST_TRIP_CNT
  have hall : Within s _ testParts (fun a => a = Reg.DPD_TEST_TRIP_CNT ∨ testRegs a) := (htrips.mono fun _ => .inr).step hbump fun _ => .inl
  refine ⟨_, (exec_guardTest hw hg).trans (congrArg Host.Outcome.next (if_pos hm)), ?_, fun hq p hp => ?_, fun p => hall.rd ?_, hall.frame⟩
  · refine htrips.counted_after (State.bump_counted _ _ (htrips.canon hs)) ?_
    rintro (⟨i, hi, h⟩ | ⟨i, hi, h⟩ | ⟨i, hi, h⟩ | h | h) <;> simp at h <;> omega
  · obtain ⟨hrec, hoff, hon, hkind⟩ := State.testTrip_spec hs p
    have hstat : Reg.DPD_TRIP_STAT p ≠ Reg.DPD_TEST_TRIP_CNT := by simp; omega
    rw [hbump.bit hstat, hbump.fld hstat, State.bump_dpd, State.testTrips_single hq hp]
    exact ⟨hrec, hoff, hon, hkind⟩
  · rintro (h | ⟨i, hi, h⟩ | ⟨i, hi, h⟩ | ⟨i, hi, h⟩ | h | h) <;> simp at h <;> omega

end

/-! ### O19 -/

/-- The registers that an off-period trip may change. -/
abbrev offRegs (a : Nat) : Prop :=
  a ∈ [Reg.DPD_TRIP_WIN, Reg.HKA_ABORT_CNT, Reg.HKA_ONESHOT, Reg.HKA_URGENT_DROP_CNT, Reg.KPR_LIVE_AIR, Reg.KPR_SAFE_CAUSE,
    Reg.KPR_SAFE_CNT, Reg.SEQ_CAL_FAIL_CNT, Reg.SEQ_CAL_STAT, Reg.SEQ_LEAN, Reg.SYN_ALIGN, Reg.TIM_ALIGN_REFUSE_CNT,
    Reg.TIM_EPOCH_CTRL, Reg.TXP_LIVE_HI, Reg.TXP_LIVE_LO, Reg.TXP_RETIRE_CNT] ∨ arr 80 Reg.BIA_CLEAR_CNT a ∨
    arr 64 Reg.DPD_CAP_DROP_CNT a ∨ arr 64 Reg.DPD_OFF_TRIP_CNT a ∨ arr 64 Reg.DPD_TRIP_CNT a ∨ arr 64 Reg.DPD_TRIP_STAT a ∨
    arr 16 Reg.HKA_QUAD a ∨ arr 18 Reg.KPR_LT a ∨ arr 9 Reg.RXP_OBS_ROUTE a ∨ arr 16 Reg.SEQ_DEFER_CNT a ∨ arr 64 Reg.TXP_ATTEN a ∨
    arr 64 Reg.TXP_RETIRE a ∨ arr 64 Reg.TXP_SAT_CNT a ∨ eventRegs 0x0004 a ∨ eventRegs 0x0104 a ∨ eventRegs 0x0702 a ∨
    eventRegs 0x0901 a ∨ eventRegs 0x0D01 a

theorem offRegs_of_tripRegs {p : Fin 64} {a : Nat} (h : tripRegs p a ∨ a = Reg.DPD_OFF_TRIP_CNT p) : offRegs a := by
  rcases h with h | rfl
  · rcases guardRegs_of_tripRegs h with h | h | h | h
    · exact .inl h
    · exact .inr (.inl h)
    · exact .inr (.inr (.inl h))
    · exact .inr (.inr (.inr (.inr h)))
  · exact .inr (.inr (.inr (.inl ⟨p, p.isLt, rfl⟩)))

/-- Settles O19: a trip is begun (mute, bias action, dropped captures), recorded once, and followed by the retirement of its side or by
SAFE; each part stays within its frame, and the mutes stand wherever the mode does. -/
theorem guardTrips : Obligations.GuardTrips := by
  intro s hs
  refine ⟨fun p env lv hm ho hl hx ha => ?_, fun p env lv hm ho hl hx ha hr hw hh => ?_, fun p env lv hm ho hl h => ?_,
    fun p env h => exec_guardTripForward_idle h, fun q env lv hm hl ho hx ha => exec_guardTripReflected_spec hs hm ho hl hx ha,
    fun q env lv hm hl ho h => ?_, fun q env h => exec_guardTripReflected_idle h, fun p env lv hm ho hl hx ha => ?_,
    fun p env lv hm ho hl h => ?_, fun p env h => exec_guardTripOffPeriod_idle h, exec_tripWindowExpire_spec hs,
    fun w hw hg hm => exec_guardTest_spec hs hw hg hm, fun w hw hg hm => ?_, fun w h => exec_guardTest_idle h⟩
  · obtain ⟨t, hexec, hmuted, hrec, hmode, hagain, hframe⟩ := exec_guardTripForward_spec (env := env) hs hm ho hl hx ha
    exact ⟨t, hexec, hmuted, fun hr => ⟨(hrec hr).shown, (hrec hr).counted, (hrec hr).raised⟩, fun hr => (hrec hr).retired, hmode, hagain,
      hframe⟩
  · obtain ⟨t, hexec, -, -, hmode, -, hframe⟩ := exec_guardTripForward_spec (env := env) hs hm ho hl hx ha
    exact ⟨t, hexec, (hmode hr hh).trans (if_pos hw), hframe⟩
  · exact ⟨_, (exec_guardTripForward hm ho).trans (congrArg Host.Outcome.next (State.judgeForward_idle hl h)), s.judged_spec p _⟩
  · exact ⟨_, exec_guardTripReflected_below hm ho hl h, rfl, (s.reflJudged_within q _).frame⟩
  · obtain ⟨t, hexec, hstands, hrec, hagain, hframe⟩ := exec_guardTripOffPeriod_spec (env := env) hs hm ho hl hx ha
    exact ⟨t, hexec, hstands, hrec, hagain, hframe.mono (fun _ h => h) fun _ => offRegs_of_tripRegs⟩
  · exact ⟨_, (exec_guardTripOffPeriod hm ho).trans (congrArg Host.Outcome.next (State.judgeForward_idle hl h)), s.judged_spec p _⟩
  · exact ⟨_, (exec_guardTest hw hg).trans (congrArg Host.Outcome.next (if_neg hm)), State.bump_counted _ _ hs, (s.bump_within _).frame⟩

end

end Sys2Proof.Machine

namespace Sys2Proof.Machine

section
set_option Elab.async false

/-! ## The pre-distorter: captures

### DPD_CAPTURE_START (R293, R294) -/

section
variable (s : State) (l : Fin 8) (v : Visit)

theorem State.setVisit_dpd (x : Option Visit) : (s.setVisit l x).dpd = { s.dpd with visits := s.dpd.visits.set l x } := rfl

/-- The visit's symbol is used, and its capture is skipped (R294). -/
def State.captureSkipped : State := (s.bump (Reg.DPD_CAP_SKIP_CNT v.path)).setVisit l (some { v with symUsed := true })

/-- The visit's symbol is used for a capture of the input `x` (R293). -/
def State.captureTaken (x : Samples) : State :=
  (s.bump (Reg.DPD_CAP_CNT v.path)).setVisit l (some { v with symUsed := true, capturing := true, drop := false, x := x })

theorem State.captureSkipped_within : Within s (s.captureSkipped l v) [.dpd] (· = Reg.DPD_CAP_SKIP_CNT v.path) :=
  (s.bump_within _).mono (fun _ h => h) |>.part (State.setVisit_within _ _ _)

theorem State.captureTaken_within (x : Samples) : Within s (s.captureTaken l v x) [.dpd] (· = Reg.DPD_CAP_CNT v.path) :=
  (s.bump_within _).mono (fun _ h => h) |>.part (State.setVisit_within _ _ _)

theorem State.captureSkipped_dpd : (s.captureSkipped l v).dpd =
    { s.dpd with visits := s.dpd.visits.set l (some { v with symUsed := true }) } := by
  rw [State.captureSkipped, State.setVisit_dpd, State.bump_dpd]

theorem State.captureTaken_dpd (x : Samples) : (s.captureTaken l v x).dpd = { s.dpd with
    visits := s.dpd.visits.set l (some { v with symUsed := true, capturing := true, drop := false, x := x }) } := by
  rw [State.captureTaken, State.setVisit_dpd, State.bump_dpd]

theorem State.captureSkipped_counted (hs : s.Canon) : Counted s (s.captureSkipped l v) (Reg.DPD_CAP_SKIP_CNT v.path) 1 :=
  (State.setVisit_within _ l _).counted (s.bump_counted _ hs) fun h => h

theorem State.captureTaken_counted (hs : s.Canon) (x : Samples) : Counted s (s.captureTaken l v x) (Reg.DPD_CAP_CNT v.path) 1 :=
  (State.setVisit_within _ l _).counted (s.bump_counted _ hs) fun h => h

variable {s l v}

/-- A symbol of the visit's bank that is not used yet, 200 ns or more after the route (R293). -/
theorem exec_dpdCaptureStart (hv : s.dpd.visits[l] = some v) (hair : s.air.onAir.isSome = true) (hb : s.dpd.paths[v.path].bank = v.bank)
    (hle : v.settle ≤ s.air.onAirAt) (hns : nsPassed (s.air.onAirAt - v.settle) 200 = true) (hc : v.capturing = false)
    (hu : v.symUsed = false) : exec (.dpdCaptureStart l) s = .next (if !s.transmits v.path || s.belowCapMin (s.captureX v.path)
      then s.captureSkipped l v else s.captureTaken l v (s.captureX v.path)) := by
  rw [exec, execDpdCaptureStart, hv]
  refine congrArg Host.Outcome.next (if_neg ?_)
  rw [hair, hns, hc, hu, decide_eq_true hb, decide_eq_true hle]
  decide

theorem exec_dpdCaptureStart_idle (h : s.dpd.visits[l] = none ∨ s.air.onAir = none) : exec (.dpdCaptureStart l) s = .next s := by
  rw [exec, execDpdCaptureStart]
  refine congrArg Host.Outcome.next ?_
  split
  · rfl
  · next v hv =>
    have hair : s.air.onAir = none := h.resolve_left (by rw [hv]; nofun)
    exact if_pos (by rw [hair]; rfl)

theorem exec_dpdCaptureStart_spec (hs : s.Canon) (hv : s.dpd.visits[l] = some v) (hair : s.air.onAir.isSome = true)
    (hb : s.dpd.paths[v.path].bank = v.bank) (hle : v.settle ≤ s.air.onAirAt) (hns : nsPassed (s.air.onAirAt - v.settle) 200 = true)
    (hc : v.capturing = false) (hu : v.symUsed = false) : ∃ t, exec (.dpdCaptureStart l) s = .next t ∧
    (s.transmits v.path = true → s.belowCapMin (s.captureX v.path) = false →
      Counted s t (Reg.DPD_CAP_CNT v.path) 1 ∧ t.rd (Reg.DPD_CAP_SKIP_CNT v.path) = s.rd (Reg.DPD_CAP_SKIP_CNT v.path) ∧
      t.dpd = { s.dpd with visits := s.dpd.visits.set l (some { v with symUsed := true, capturing := true, drop := false, x := s.captureX v.path }) }) ∧
    (s.transmits v.path = false ∨ s.belowCapMin (s.captureX v.path) = true → Counted s t (Reg.DPD_CAP_SKIP_CNT v.path) 1 ∧
      t.rd (Reg.DPD_CAP_CNT v.path) = s.rd (Reg.DPD_CAP_CNT v.path) ∧
      t.dpd = { s.dpd with visits := s.dpd.visits.set l (some { v with symUsed := true }) }) ∧
    Frame s t [.dpd] (fun a => a = Reg.DPD_CAP_CNT v.path ∨ a = Reg.DPD_CAP_SKIP_CNT v.path) := by
  have hexec := exec_dpdCaptureStart hv hair hb hle hns hc hu
  generalize s.captureX v.path = x at hexec ⊢
  have hapart : Reg.DPD_CAP_SKIP_CNT v.path ≠ Reg.DPD_CAP_CNT v.path := by simp
  cases hskip : !s.transmits v.path || s.belowCapMin x
  · rw [hskip, if_neg nofun] at hexec
    have htaken := s.captureTaken_within l v x
    refine ⟨_, hexec, fun _ _ => ⟨s.captureTaken_counted l v hs x, htaken.rd hapart, s.captureTaken_dpd l v x⟩, fun h => ?_,
      htaken.frame.mono (fun _ h => h) fun _ => .inl⟩
    exact absurd hskip (by rcases h with h | h <;> simp [h])
  · rw [hskip, if_pos rfl] at hexec
    have hskipped := s.captureSkipped_within l v
    refine ⟨_, hexec, fun ht hx => ?_, fun _ => ⟨s.captureSkipped_counted l v hs, hskipped.rd hapart.symm, s.captureSkipped_dpd l v⟩,
      hskipped.frame.mono (fun _ h => h) fun _ => .inr⟩
    exact absurd hskip (by simp [ht, hx])

end

/-! ### DPD_CAPTURE_END: discarded captures (R295) -/

section
variable {s : State} {l : Fin 8} {v : Visit} {o : List Adc}

theorem exec_dpdCaptureEnd_dropped (hv : s.dpd.visits[l] = some v) (hc : v.capturing = true) (hd : v.drop = true) :
    exec (.dpdCaptureEnd l o) s = .next (s.setVisit l (some { v with capturing := false, drop := false, x := [] })) := by
  rw [exec, execDpdCaptureEnd, hv]
  exact congrArg Host.Outcome.next ((if_neg (by rw [hc]; decide)).trans (if_pos hd))

theorem exec_dpdCaptureEnd_clipped (hv : s.dpd.visits[l] = some v) (hc : v.capturing = true) (hd : v.drop = false)
    (ho : 16 < o.countP clips) : exec (.dpdCaptureEnd l o) s =
      .next ((s.bump (Reg.DPD_CAP_DROP_CNT v.path)).setVisit l (some { v with capturing := false, x := [] })) := by
  rw [exec, execDpdCaptureEnd, hv]
  exact congrArg Host.Outcome.next ((if_neg (by rw [hc]; decide)).trans ((if_neg (by rw [hd]; decide)).trans (if_pos ho)))

theorem exec_dpdCaptureEnd_good (hv : s.dpd.visits[l] = some v) (hc : v.capturing = true) (hd : v.drop = false)
    (ho : o.countP clips ≤ 16) : exec (.dpdCaptureEnd l o) s = .next (s.goodCapture l v (o.map adcVal)) := by
  rw [exec, execDpdCaptureEnd, hv]
  exact congrArg Host.Outcome.next
    ((if_neg (by rw [hc]; decide)).trans ((if_neg (by rw [hd]; decide)).trans (if_neg (Nat.not_lt.2 ho))))

theorem exec_dpdCaptureEnd_idle (h : (s.dpd.visits[l].all fun v => !v.capturing) = true) : exec (.dpdCaptureEnd l o) s = .next s := by
  rw [exec, execDpdCaptureEnd]
  refine congrArg Host.Outcome.next ?_
  split
  · rfl
  · next v hv => exact if_pos (by rw [eq_false_of_all_not h hv]; rfl)

theorem exec_dpdCaptureEnd_clipped_spec (hs : s.Canon) (hv : s.dpd.visits[l] = some v) (hc : v.capturing = true) (hd : v.drop = false)
    (ho : 16 < o.countP clips) : ∃ t, exec (.dpdCaptureEnd l o) s = .next t ∧ Counted s t (Reg.DPD_CAP_DROP_CNT v.path) 1 ∧
    t.dpd = { s.dpd with visits := s.dpd.visits.set l (some { v with capturing := false, x := [] }) } ∧
    Frame s t [.dpd] (fun a => a = Reg.DPD_CAP_DROP_CNT v.path) := by
  have hvisit := State.setVisit_within (s.bump (Reg.DPD_CAP_DROP_CNT v.path)) l (some { v with capturing := false, x := [] })
  exact ⟨_, exec_dpdCaptureEnd_clipped hv hc hd ho, hvisit.counted (s.bump_counted _ hs) fun h => h,
    by rw [State.setVisit_dpd, State.bump_dpd], (((s.bump_within _).mono fun _ h => h).part hvisit).frame⟩

end

/-! ### What a good capture does to its bank (R298, R299) -/

/-- From `s` to `t` bank `b` of path `p` is judged: its figures and the visits stay (R298, R299, R301). -/
structure BankJudged (p : Fin 64) (b : Nat) (s t : State) : Prop where
  within : Within s t [.dpd, .rcd] (fun a => eventRegs 0x0D02 a ∨ a = Reg.DPD_BANK_QUAL p b ∨ a = Reg.DPD_REVERT_CNT p)
  nmse : s.Canon → t.fld (Reg.DPD_BANK_QUAL p b) 31 24 = s.fld (Reg.DPD_BANK_QUAL p b) 31 24
  aclr : s.Canon → t.fld (Reg.DPD_BANK_QUAL p b) 23 16 = s.fld (Reg.DPD_BANK_QUAL p b) 23 16
  visits : t.dpd.visits = s.dpd.visits

section
variable {s t u : State} {p : Fin 64} {b : Nat}

theorem BankJudged.refl (s : State) : BankJudged p b s s := ⟨.refl .., fun _ => rfl, fun _ => rfl, rfl⟩

theorem BankJudged.trans (h : BankJudged p b s t) (k : BankJudged p b t u) : BankJudged p b s u :=
  ⟨h.within.trans k.within, fun hs => (k.nmse (h.within.canon hs)).trans (h.nmse hs),
    fun hs => (k.aclr (h.within.canon hs)).trans (h.aclr hs), k.visits.trans h.visits⟩

/-- What leaves the bank's figures and the visits alone. -/
theorem Within.bankJudged {ps : List Part} {rs : Nat → Prop} (h : Within s t ps rs)
    (hr : ∀ a, rs a → eventRegs 0x0D02 a ∨ a = Reg.DPD_BANK_QUAL p b ∨ a = Reg.DPD_REVERT_CNT p) (hq : ¬ rs (Reg.DPD_BANK_QUAL p b))
    (hv : t.dpd.visits = s.dpd.visits) (hp : ps ⊆ [.dpd, .rcd] := by decide) : BankJudged p b s t :=
  ⟨h.mono hr hp, fun _ => h.fld hq 31 24, fun _ => h.fld hq 23 16, hv⟩

variable (s p b)

theorem State.setDpd_bankJudged (f : DpdPath → DpdPath) : BankJudged p b s (s.setDpd p f) :=
  (s.setDpd_within p f).bankJudged (fun _ h => h.elim) (fun h => h) rfl

theorem State.setBank_bankJudged (f : BankSt → BankSt) : BankJudged p b s (s.setBank p b f) := by
  unfold State.setBank
  split
  · exact s.setDpd_bankJudged p b _
  · exact .refl s

theorem State.setBankState_within (st : Nat) : Within s (s.setBankState p b st) [] (· = Reg.DPD_BANK_QUAL p b) := s.setFld_within _ _ _ _

theorem State.setBankState_dpd (st : Nat) : (s.setBankState p b st).dpd = s.dpd := by rw [State.setBankState, State.setFld_dpd]

theorem State.setBankState_bankJudged (st : Nat) : BankJudged p b s (s.setBankState p b st) where
  within := (s.setBankState_within p b st).mono fun _ h => .inr (.inl h)
  nmse hs := State.fld_setFld_apart hs _ (by decide) (by decide) (by decide) (by decide)
  aclr hs := State.fld_setFld_apart hs _ (by decide) (by decide) (by decide) (by decide)
  visits := by rw [State.setBankState_dpd]

theorem State.bump_revert_bankJudged : BankJudged p b s (s.bump (Reg.DPD_REVERT_CNT p)) :=
  (s.bump_within _).bankJudged (fun _ h => .inr (.inr h)) (by simp; omega) (by rw [State.bump_dpd])

/-- The event of a bank's freeze; its registers are none of the eight banks'. -/
theorem State.raise_bankJudged (hb : b < 8) (x : List (Nat × Nat)) : BankJudged p b s (s.raise 0x0D02 x) := by
  refine (s.raise_within _ x).bankJudged (fun _ => .inl) ?_ (by rw [State.raise_dpd])
  rintro (h | h) <;> simp at h <;> omega

/-- A path has eight banks; what a bank beside them would hold is empty. -/
theorem State.lt_of_reverts (h : (s.bankSt p b).reverts ≠ 0) : b < 8 := by
  by_contra hb
  rw [State.bankSt, dif_neg hb] at h
  exact h rfl

theorem State.revertUpdate_bankJudged (flat : Nat) : BankJudged p b s (s.revertUpdate p b flat) := by
  have hlt := s.lt_of_reverts p b
  unfold State.revertUpdate
  extract_lets x t u w
  have ht : BankJudged p b s t := s.bump_revert_bankJudged p b
  have hu : BankJudged p b s u := ht.trans (t.setDpd_bankJudged p b _)
  have hw : BankJudged p b s w := hu.trans (u.setBank_bankJudged p b _)
  clear_value w
  split
  · next h4 =>
    have hrev : (s.bankSt p b).reverts + 1 = 4 := h4
    have hb : b < 8 := hlt (by omega)
    exact ((hw.trans (w.setBankState_bankJudged p b 3)).trans (State.setBank_bankJudged _ p b _)).trans (State.raise_bankJudged _ p b hb _)
  · exact hw

theorem State.verifyUpdate_bankJudged (old nmse : Rat) : BankJudged p b s (s.verifyUpdate p b old nmse) := by
  unfold State.verifyUpdate
  extract_lets flat t
  have ht : BankJudged p b s t := by
    unfold t
    split
    · exact s.revertUpdate_bankJudged p b flat
    · exact s.setBank_bankJudged p b _
  clear_value t
  split
  · exact (ht.trans (t.setBankState_bankJudged p b 2)).trans (State.setBank_bankJudged _ p b _)
  · exact ht

theorem State.stateAfter_bankJudged (nmse : Rat) : BankJudged p b s (s.stateAfter p b nmse) := by
  unfold State.stateAfter
  split
  · exact s.setBankState_bankJudged p b 1
  · split
    · exact (s.setBankState_bankJudged p b 1).trans (State.setBank_bankJudged _ p b _)
    · exact s.setBank_bankJudged p b _
  · exact .refl s

end

/-! ### A good capture (R296 to R301) -/

section
variable (s : State) (l : Fin 8) (v : Visit) (al : Aligned)

/-- The residual ACLR that a good capture shows (R301). -/
def State.aclrShown : Rat := (if al.sound then s.aclr al.oa else none).getD (openRatio s.freeIdx 1)

/-- The figures `n` and `m` of a capture are shown, and its visit goes on (R301). -/
def State.figuresShown (n m : Nat) : State :=
  let q := Reg.DPD_BANK_QUAL v.path v.bank
  let t : State := { s with freeIdx := s.freeIdx + 1 }
  let u := (t.setFld q 31 24 n).setFld q 23 16 m
  u.setVisit l (some { v with capturing := false, x := [], lastCap := u.now, verify := none })

/-- The bank is judged by a capture with error `nmse` (R298, R299). -/
def State.captureJudged (nmse : Rat) : State :=
  (match v.verify with
    | some old => s.verifyUpdate v.path v.bank old nmse
    | none => s).stateAfter v.path v.bank nmse

/-- While the bank adapts, the capture asks for an update (R297, R300). -/
def State.captureGiven : State :=
  if !s.adapts v.path || s.bankState v.path v.bank = 3 then s
  else s.setDpd v.path fun d => { d with updates := d.updates ++ [⟨v.bank, ⟨al.nmse, v.id⟩, v.x, al.e⟩] }

theorem Within.of_freeIdx (n : Nat) : Within s { s with freeIdx := n } [.freeIdx] noRegs := .of_frame (.of_freeIdx s n) id

theorem State.goodCapture_eq (o : Samples) : s.goodCapture l v o =
    ((s.figuresShown l v (quarterDb (alignCapture s.freeIdx v.x o).nmse) (quarterDb (s.aclrShown (alignCapture s.freeIdx v.x o)))).captureJudged
      v (alignCapture s.freeIdx v.x o).nmse).captureGiven v (alignCapture s.freeIdx v.x o) := by
  unfold State.goodCapture
  extract_lets q i al aclr t u w x y
  have hw : w = s.figuresShown l v (quarterDb al.nmse) (quarterDb (s.aclrShown al)) := rfl
  clear_value w
  have hy : y = w.captureJudged v al.nmse := rfl
  clear_value y
  subst hw hy
  rfl

theorem State.figuresShown_within (n m : Nat) : Within s (s.figuresShown l v n m) [.dpd, .freeIdx] (· = Reg.DPD_BANK_QUAL v.path v.bank) := by
  have hfree : Within s { s with freeIdx := s.freeIdx + 1 } [.dpd, .freeIdx] (· = Reg.DPD_BANK_QUAL v.path v.bank) :=
    (Within.of_freeIdx s _).mono fun _ h => h.elim
  exact ((hfree.step (State.setFld_within _ _ _ _ _) fun _ h => h).step (State.setFld_within _ _ _ _ _) fun _ h => h).part
    (State.setVisit_within _ l _)

theorem State.captureJudged_bankJudged (nmse : Rat) : BankJudged v.path v.bank s (s.captureJudged v nmse) := by
  unfold State.captureJudged
  split
  · exact (s.verifyUpdate_bankJudged _ _ _ _).trans (State.stateAfter_bankJudged _ _ _ _)
  · exact s.stateAfter_bankJudged _ _ _

theorem State.captureGiven_bankJudged : BankJudged v.path v.bank s (s.captureGiven v al) := by
  unfold State.captureGiven
  split
  · exact .refl s
  · exact s.setDpd_bankJudged _ _ _

theorem quarterDb_lt (x : Rat) : quarterDb x < 256 := by
  unfold quarterDb satInt
  omega

variable {s l v al}

/-- Both figures are shown, and the bank's state stays (R298, R301). -/
theorem State.fld_setFigures (hs : s.Canon) (q : Nat) {n m : Nat} (hn : n < 256) (hm : m < 256) :
    ((s.setFld q 31 24 n).setFld q 23 16 m).fld q 31 24 = n ∧ ((s.setFld q 31 24 n).setFld q 23 16 m).fld q 23 16 = m ∧
    ((s.setFld q 31 24 n).setFld q 23 16 m).fld q 13 12 = s.fld q 13 12 := by
  have hfirst := s.setFld_canon q 31 24 n hs
  refine ⟨?_, ?_, ?_⟩
  · rw [State.fld_setFld_apart hfirst, State.fld_setFld_same hs]
    · exact Nat.mod_eq_of_lt hn
    all_goals decide
  · rw [State.fld_setFld_same hfirst]
    · exact Nat.mod_eq_of_lt hm
    all_goals decide
  · rw [State.fld_setFld_apart hfirst, State.fld_setFld_apart hs]
    all_goals decide

theorem State.fld_figuresShown (hs : s.Canon) {n m : Nat} (hn : n < 256) (hm : m < 256) :
    (s.figuresShown l v n m).fld (Reg.DPD_BANK_QUAL v.path v.bank) 31 24 = n ∧
    (s.figuresShown l v n m).fld (Reg.DPD_BANK_QUAL v.path v.bank) 23 16 = m ∧
    (s.figuresShown l v n m).bankState v.path v.bank = s.bankState v.path v.bank := by
  have hfree := Within.of_freeIdx s (s.freeIdx + 1)
  unfold State.figuresShown
  extract_lets q t u
  obtain ⟨hnmse, haclr, hstate⟩ := State.fld_setFigures (hfree.canon hs) q hn hm
  have hvisit := u.setVisit_within l (some { v with capturing := false, x := [], lastCap := u.now, verify := none })
  rw [State.bankState, State.bankState, hvisit.fld id, hvisit.fld id, hvisit.fld id]
  exact ⟨hnmse, haclr, hstate.trans (hfree.fld id 13 12)⟩

/-- What a bank holds is changed beside the path's updates. -/
theorem State.setBank_updates (s : State) (p : Fin 64) (b : Nat) (f : BankSt → BankSt) :
    (s.setBank p b f).dpd.paths[p].updates = s.dpd.paths[p].updates := by
  unfold State.setBank
  split
  · exact (congrArg DpdPath.updates (getElem_upd_same ..)).trans rfl
  · rfl

theorem State.stateAfter_updates (s : State) (p : Fin 64) (b : Nat) (nmse : Rat) :
    (s.stateAfter p b nmse).dpd.paths[p].updates = s.dpd.paths[p].updates := by
  unfold State.stateAfter
  split
  · exact congrArg (fun d : Dpd => d.paths[p].updates) (s.setBankState_dpd p b 1)
  · split
    · rw [State.setBank_updates, State.setBankState_dpd]
    · exact s.setBank_updates p b _
  · rfl

theorem State.stateAfter_seed {p : Fin 64} {b : Nat} (h : s.bankState p b = 0) (nmse : Rat) :
    s.stateAfter p b nmse = s.setBankState p b 1 := by
  unfold State.stateAfter
  split
  · rfl
  · omega
  · next h0 _ => exact absurd h h0

theorem State.stateAfter_frozen {p : Fin 64} {b : Nat} (h : s.bankState p b = 3) (nmse : Rat) : s.stateAfter p b nmse = s := by
  unfold State.stateAfter
  split
  · omega
  · omega
  · rfl

theorem State.figuresShown_dpd (n m : Nat) : (s.figuresShown l v n m).dpd = { s.dpd with
    visits := s.dpd.visits.set l (some { v with capturing := false, x := [], lastCap := s.now, verify := none }) } := by
  unfold State.figuresShown
  extract_lets q t u
  have hu : u.dpd = s.dpd := by rw [State.setFld_dpd, State.setFld_dpd]
  have hnow : u.now = s.now := by rw [State.setFld_now, State.setFld_now]
  clear_value u
  rw [State.setVisit, hu, hnow]

theorem State.bankState_setBankState (hs : s.Canon) (p : Fin 64) (b st : Nat) : (s.setBankState p b st).bankState p b = st % 4 :=
  State.fld_setFld_same hs st (by decide) (by decide)

theorem State.adapts_congr {t : State} {p : Fin 64} (hm : t.mode = s.mode) (hc : t.rd (Reg.DPD_CTRL p) = s.rd (Reg.DPD_CTRL p)) :
    t.adapts p = s.adapts p := by
  rw [State.adapts, State.adapts, State.bit, State.bit, State.fld, State.fld, hm, hc]

theorem BankJudged.adapts {p : Fin 64} {b : Nat} {t : State} (h : BankJudged p b s t) : t.adapts p = s.adapts p := by
  refine State.adapts_congr (h.within.part_eq .mode) (h.within.rd ?_)
  rintro ((h | h) | h | h) <;> simp at h <;> omega

theorem State.figuresShown_adapts (n m : Nat) : (s.figuresShown l v n m).adapts v.path = s.adapts v.path :=
  State.adapts_congr ((s.figuresShown_within l v n m).part_eq .mode) ((s.figuresShown_within l v n m).rd (by simp; omega))

theorem State.captureJudged_first (h : v.verify = none) (nmse : Rat) : s.captureJudged v nmse = s.stateAfter v.path v.bank nmse := by
  rw [State.captureJudged, h]

theorem State.captureGiven_not (h : s.adapts v.path = false ∨ s.bankState v.path v.bank = 3) : s.captureGiven v al = s :=
  if_pos (by rcases h with h | h <;> simp [h])

theorem State.captureGiven_adapts (ha : s.adapts v.path = true) (hb : s.bankState v.path v.bank ≠ 3) : s.captureGiven v al =
    s.setDpd v.path fun d => { d with updates := d.updates ++ [⟨v.bank, ⟨al.nmse, v.id⟩, v.x, al.e⟩] } :=
  if_neg (by simp [ha, hb])

/-- What a good capture shows and asks for (R296 to R301). -/
theorem exec_dpdCaptureEnd_good_spec {o : List Adc} (hs : s.Canon) (hv : s.dpd.visits[l] = some v) (hc : v.capturing = true)
    (hd : v.drop = false) (ho : o.countP clips ≤ 16) (hal : alignCapture s.freeIdx v.x (o.map adcVal) = al) :
    ∃ t, exec (.dpdCaptureEnd l o) s = .next t ∧
    t.dpd.visits[l] = some { v with capturing := false, x := [], lastCap := s.now, verify := none } ∧
    t.fld (Reg.DPD_BANK_QUAL v.path v.bank) 31 24 = quarterDb al.nmse ∧
    t.fld (Reg.DPD_BANK_QUAL v.path v.bank) 23 16 = quarterDb (s.aclrShown al) ∧
    (s.adapts v.path = false → v.verify = none → t.dpd.paths[v.path].updates = s.dpd.paths[v.path].updates) ∧
    (s.adapts v.path = true → s.bankState v.path v.bank = 0 → v.verify = none → t.bankState v.path v.bank = 1 ∧
      t.dpd.paths[v.path].updates = s.dpd.paths[v.path].updates ++ [⟨v.bank, ⟨al.nmse, v.id⟩, v.x, al.e⟩]) ∧
    (s.bankState v.path v.bank = 3 → v.verify = none → t.bankState v.path v.bank = 3 ∧ t.dpd.paths = s.dpd.paths) ∧
    Frame s t [.dpd, .rcd, .freeIdx] (fun a => eventRegs 0x0D02 a ∨ a = Reg.DPD_BANK_QUAL v.path v.bank ∨ a = Reg.DPD_REVERT_CNT v.path) := by
  have hexec := exec_dpdCaptureEnd_good (o := o) hv hc hd ho
  rw [State.goodCapture_eq, hal] at hexec
  have hn := quarterDb_lt al.nmse
  have hm := quarterDb_lt (s.aclrShown al)
  generalize quarterDb al.nmse = n, quarterDb (s.aclrShown al) = m at hexec hn hm ⊢
  have hshown := s.figuresShown_within l v n m
  have hadapts := State.figuresShown_adapts (s := s) (l := l) (v := v) n m
  have hdpd := State.figuresShown_dpd (s := s) (l := l) (v := v) n m
  obtain ⟨hnmse, haclr, hstate⟩ := State.fld_figuresShown (l := l) (v := v) hs hn hm
  generalize s.figuresShown l v n m = u at hexec hshown hadapts hdpd hnmse haclr hstate
  have hpaths : u.dpd.paths = s.dpd.paths := by rw [hdpd]
  have hcanon := hshown.canon hs
  have hjudged := u.captureJudged_bankJudged v al.nmse
  have hbank := hjudged.trans ((u.captureJudged v al.nmse).captureGiven_bankJudged v al)
  have hjadapts := hjudged.adapts.trans hadapts
  refine ⟨_, hexec, ?_, (hbank.nmse hcanon).trans hnmse, (hbank.aclr hcanon).trans haclr, fun ha hf => ?_, fun ha h0 hf => ?_,
    fun h3 hf => ?_, ?_⟩
  · rw [hbank.visits, hdpd]
    exact Vector.getElem_set_self ..
  · rw [State.captureGiven_not (.inl (hjadapts.trans ha)), State.captureJudged_first hf, State.stateAfter_updates, hpaths]
  · rw [State.captureJudged_first hf, State.stateAfter_seed (hstate.trans h0)] at hjadapts ⊢
    have hone := State.bankState_setBankState hcanon v.path v.bank 1
    rw [State.captureGiven_adapts (hjadapts.trans ha) (by rw [hone]; decide)]
    refine ⟨((State.setDpd_within _ v.path _).fld id 13 12).trans hone, ?_⟩
    rw [← hpaths]
    exact congrArg DpdPath.updates (getElem_upd_same ..)
  · have hfrozen := hstate.trans h3
    rw [State.captureJudged_first hf, State.stateAfter_frozen hfrozen, State.captureGiven_not (.inr hfrozen)]
    exact ⟨hfrozen, hpaths⟩
  · exact ((hshown.mono fun _ h => .inr (.inl h)).step hbank.within fun _ h => h).frame

end

end

end Sys2Proof.Machine

namespace Sys2Proof.Machine

section
set_option Elab.async false

/-! ## The pre-distorter: updates and the control of banks

### DPD_UPDATE_READY (R288, R289, R297) -/

theorem State.setDpd_path (s : State) (p : Fin 64) (f : DpdPath → DpdPath) : (s.setDpd p f).dpd.paths[p] = f s.dpd.paths[p] :=
  getElem_upd_same ..

theorem State.setDpd_otherPath (s : State) {p k : Fin 64} (f : DpdPath → DpdPath) (h : k ≠ p) :
    (s.setDpd p f).dpd.paths[k] = s.dpd.paths[k] :=
  getElem_upd_other _ _ h

/-- A list without an update of the bank loses none. -/
theorem dropUpdate_of_none {b : Nat} {us : List Learning} (h : ∀ u ∈ us, u.bank ≠ b) : dropUpdate b us = us := by
  induction us with
  | nil => rfl
  | cons u us ih =>
    obtain ⟨hu, hus⟩ := List.forall_mem_cons.1 h
    rw [dropUpdate, if_neg hu, ih hus]

section
variable (s : State) (p : Fin 64) (b : Fin 8) (u : Learning)

/-- The first update of bank `b` of path `p` is no longer computed. -/
def State.updateDropped : State := s.setDpd p fun d => { d with updates := dropUpdate b d.updates }

/-- The learned table of bank `b` is written to the shadow table and counted (R289, R297). -/
def State.updateWritten : State :=
  let q := Reg.DPD_BANK_QUAL p b
  let lut := s.learned p b u
  let t : State := { s with freeIdx := s.freeIdx + 1 }
  let w := t.setDpd p fun d => { d with shadow := some (b.val, lut), shadowDue := true, shadowSrc := some u.src }
  w.setFld q 7 0 (min 255 (w.fld q 7 0 + 1))

/-- The learned table depends on registers and free values alone. -/
theorem State.learned_congr {t : State} (hrd : ∀ a, t.rd a = s.rd a) (hi : t.freeIdx = s.freeIdx) : t.learned p b u = s.learned p b u := by
  have hfld (a hi lo : Nat) : t.fld a hi lo = s.fld a hi lo := by rw [State.fld, State.fld, hrd]
  have htap : t.tapDelays = s.tapDelays := by simp only [State.tapDelays, hfld]
  have htable : t.bankTable p b = s.bankTable p b := by simp only [State.bankTable, hrd]
  have hstate : t.bankState p b = s.bankState p b := hfld _ 13 12
  unfold State.learned
  rw [hstate, htap, htable, hi]
  simp only [hfld]

theorem State.updateDropped_within : Within s (s.updateDropped p b) [.dpd] noRegs := s.setDpd_within p _

theorem State.updateWritten_within : Within s (s.updateWritten p b u) [.dpd, .freeIdx] (· = Reg.DPD_BANK_QUAL p b) := by
  have hfree : Within s { s with freeIdx := s.freeIdx + 1 } [.dpd, .freeIdx] (· = Reg.DPD_BANK_QUAL p b) :=
    (Within.of_freeIdx s _).mono fun _ h => h.elim
  exact (hfree.part (State.setDpd_within _ p _)).step (State.setFld_within _ _ _ _ _) fun _ h => h

theorem State.updateWritten_dpd : (s.updateWritten p b u).dpd = (s.setDpd p fun d =>
    { d with shadow := some (b.val, s.learned p b u), shadowDue := true, shadowSrc := some u.src }).dpd := by
  unfold State.updateWritten
  extract_lets q lut t w
  rw [State.setFld_dpd]
  rfl

variable {s p b u}

/-- The update is counted in iter, and the bank's state stays (R297, R298). -/
theorem State.fld_updateWritten (hs : s.Canon) :
    (s.updateWritten p b u).fld (Reg.DPD_BANK_QUAL p b) 7 0 = min 255 (s.fld (Reg.DPD_BANK_QUAL p b) 7 0 + 1) ∧
    (s.updateWritten p b u).bankState p b = s.bankState p b := by
  unfold State.updateWritten
  extract_lets q lut t w
  have ht : Within s t [.freeIdx] noRegs := .of_freeIdx s _
  have hw : Within s w [.freeIdx, .dpd] noRegs := (ht.mono fun _ h => h).part (t.setDpd_within p _)
  have hcount : w.fld q 7 0 = s.fld q 7 0 := hw.fld id 7 0
  have hcanon := hw.canon hs
  clear_value w
  rw [State.bankState, hcount]
  constructor
  · rw [State.fld_setFld_same hcanon]
    · exact Nat.mod_eq_of_lt (Nat.lt_of_le_of_lt (Nat.min_le_left ..) (by decide))
    all_goals decide
  · rw [State.fld_setFld_apart hcanon]
    · exact hw.fld id 13 12
    all_goals decide

/-- The bank takes an update: its path is not frozen, and it is neither FROZEN nor in SEED (R297, R298, R300). -/
abbrev State.takesUpdate (s : State) (p : Fin 64) (b : Fin 8) : Bool := s.adapts p && s.bankState p b != 3 && s.bankState p b != 0

theorem State.takesUpdate_updateDropped : (s.updateDropped p b).takesUpdate p b = s.takesUpdate p b := by
  have hdrop := s.updateDropped_within p b
  have hadapts : (s.updateDropped p b).adapts p = s.adapts p := State.adapts_congr (hdrop.part_eq .mode) (hdrop.rd id)
  have hstate : (s.updateDropped p b).bankState p b = s.bankState p b := hdrop.fld id 13 12
  rw [State.takesUpdate, hadapts, hstate]

theorem exec_dpdUpdateReady (hu : s.dpd.paths[p].updates.find? (fun u => u.bank = b.val) = some u) : exec (.dpdUpdateReady p b) s =
    .next (if s.takesUpdate p b then (s.updateDropped p b).updateWritten p b u else s.updateDropped p b) := by
  rw [exec, execDpdUpdateReady, hu, ← State.takesUpdate_updateDropped]
  rfl

theorem exec_dpdUpdateReady_none (hu : s.dpd.paths[p].updates.find? (fun u => u.bank = b.val) = none) :
    exec (.dpdUpdateReady p b) s = .next s := by
  rw [exec, execDpdUpdateReady, hu]

theorem exec_dpdUpdateReady_spec (hs : s.Canon) (hu : s.dpd.paths[p].updates.find? (fun u => u.bank = b.val) = some u)
    (ha : s.adapts p = true) (h0 : s.bankState p b ≠ 0) (h3 : s.bankState p b ≠ 3) : ∃ t, exec (.dpdUpdateReady p b) s = .next t ∧
    t.dpd.paths[p] = { s.dpd.paths[p] with updates := dropUpdate b s.dpd.paths[p].updates, shadow := some (b.val, s.learned p b u), shadowDue := true, shadowSrc := some u.src } ∧
    (∀ k : Fin 64, k ≠ p → t.dpd.paths[k] = s.dpd.paths[k]) ∧
    t.fld (Reg.DPD_BANK_QUAL p b) 7 0 = min 255 (s.fld (Reg.DPD_BANK_QUAL p b) 7 0 + 1) ∧ t.bankState p b = s.bankState p b ∧
    Frame s t [.dpd, .freeIdx] (fun a => arr2 64 8 Reg.DPD_BANK_QUAL a) := by
  have htakes : s.takesUpdate p b = true := by simp [State.takesUpdate, ha, h0, h3]
  have hdrop := s.updateDropped_within p b
  have hwrite := (s.updateDropped p b).updateWritten_within p b u
  have hlearned : (s.updateDropped p b).learned p b u = s.learned p b u :=
    State.learned_congr s p b u (fun a => hdrop.rd id) (hdrop.part_eq .freeIdx)
  have hdpd := (s.updateDropped p b).updateWritten_dpd p b u
  obtain ⟨hcount, hstate⟩ := State.fld_updateWritten (p := p) (b := b) (u := u) (hdrop.canon hs)
  rw [hlearned] at hdpd
  refine ⟨_, (exec_dpdUpdateReady hu).trans (congrArg Host.Outcome.next (if_pos htakes)), ?_, fun k hk => ?_, ?_, ?_, ?_⟩
  · rw [hdpd, State.setDpd_path, State.updateDropped, State.setDpd_path]
  · rw [hdpd, State.setDpd_otherPath _ _ hk, State.updateDropped, State.setDpd_otherPath _ _ hk]
  · rw [hcount, hdrop.fld id]
  · exact hstate.trans (hdrop.fld id 13 12)
  · exact ((hdrop.mono fun _ h => h.elim).step hwrite fun a h => ⟨p, p.isLt, b, b.isLt, h⟩).frame

theorem exec_dpdUpdateReady_drops (h : s.adapts p = false ∨ s.bankState p b = 0 ∨ s.bankState p b = 3) : ∃ t,
    exec (.dpdUpdateReady p b) s = .next t ∧ t.dpd.paths[p] = { s.dpd.paths[p] with updates := dropUpdate b s.dpd.paths[p].updates } ∧
    (∀ k : Fin 64, k ≠ p → t.dpd.paths[k] = s.dpd.paths[k]) ∧ Frame s t [.dpd] noRegs := by
  cases hu : s.dpd.paths[p].updates.find? (fun u => u.bank = b.val) with
  | none => exact ⟨s, exec_dpdUpdateReady_none hu, by rw [dropUpdate_of_none (by simpa using hu)], fun _ _ => rfl, .refl ..⟩
  | some u =>
    have htakes : ¬ s.takesUpdate p b = true := by
      rcases h with h | h | h <;> simp [State.takesUpdate, h]
    refine ⟨_, (exec_dpdUpdateReady hu).trans (congrArg Host.Outcome.next (if_neg htakes)), ?_, fun k hk => ?_,
      (s.updateDropped_within p b).frame⟩
    · exact s.setDpd_path p _
    · exact s.setDpd_otherPath _ hk

end

/-! ### DPD_FREEZE (R300) -/

section
variable {s : State} {p : Fin 64}

theorem exec_dpdFreeze_spec (hs : s.Canon) (b : Bool) (hw : s.writable = true) : ∃ t, exec (.dpdFreeze p b) s = .next t ∧
    t.bit (Reg.DPD_CTRL p) 31 = b ∧ (∀ k : Fin 31, t.bit (Reg.DPD_CTRL p) k = s.bit (Reg.DPD_CTRL p) k) ∧
    Frame s t [] (fun a => a = Reg.DPD_CTRL p) := by
  refine ⟨_, congrArg Host.Outcome.next (if_pos hw), s.bit_setBit_same _ 31 b (by decide) hs, fun k => ?_, (s.setBit_within _ 31 b).frame⟩
  exact State.bit_setBit_apart hs _ b (by decide) (Nat.ne_of_lt k.isLt)

theorem exec_dpdFreeze_locked (b : Bool) (hw : s.writable = false) : exec (.dpdFreeze p b) s = .next s :=
  congrArg Host.Outcome.next (if_neg (Bool.eq_false_iff.1 hw))

end

/-! ### One bank of a path (R298, R300) -/

/-- From `s` to `t` bank `b` of path `p` stays, with its tables and what is held of it. -/
structure BankKept (p : Fin 64) (b : Fin 8) (s t : State) : Prop where
  qual : t.rd (Reg.DPD_BANK_QUAL p b) = s.rd (Reg.DPD_BANK_QUAL p b)
  lut : ∀ (k : Fin 8) (i : Fin 65), t.rd (Reg.DPD_LUT p b k i) = s.rd (Reg.DPD_LUT p b k i)
  bank : t.dpd.paths[p].banks[b] = s.dpd.paths[p].banks[b]
  seeds : t.dpd.seeds = s.dpd.seeds

/-- From `s` to `t` bank `b` of path `p` alone of its banks may change. -/
structure BankOp (p : Fin 64) (b : Fin 8) (s t : State) : Prop where
  canon : s.Canon → t.Canon
  kept : ∀ c : Fin 8, c ≠ b → BankKept p c s t

section
variable {s t u : State} {p : Fin 64} {b : Fin 8} {l : List (Fin 8)} {g : State → Fin 8 → State}

theorem BankKept.refl (s : State) : BankKept p b s s := ⟨rfl, fun _ _ => rfl, rfl, rfl⟩

theorem BankKept.trans (h : BankKept p b s t) (k : BankKept p b t u) : BankKept p b s u :=
  ⟨k.qual.trans h.qual, fun i j => (k.lut i j).trans (h.lut i j), k.bank.trans h.bank, k.seeds.trans h.seeds⟩

theorem BankKept.bankState (h : BankKept p b s t) : t.bankState p b = s.bankState p b := by
  rw [State.bankState, State.bankState, State.fld, State.fld, h.qual]

theorem BankOp.refl (s : State) : BankOp p b s s := ⟨id, fun _ _ => .refl s⟩

theorem BankOp.trans (h : BankOp p b s t) (k : BankOp p b t u) : BankOp p b s u :=
  ⟨k.canon ∘ h.canon, fun c hc => (h.kept c hc).trans (k.kept c hc)⟩

/-- A bank that the operations do not reach stays. -/
theorem BankOp.foldl_other (hg : ∀ s b, BankOp p b s (g s b)) (hb : b ∉ l) (s : State) : BankKept p b s (l.foldl g s) := by
  induction l generalizing s with
  | nil => exact .refl s
  | cons c l ih =>
    obtain ⟨hc, hl⟩ := not_or.1 (mt List.mem_cons.2 hb)
    exact ((hg s c).kept b hc).trans (ih hl _)

/-- A bank that one of the operations reaches takes its effect, from the state of the bank as it was at the beginning. -/
theorem BankOp.foldl_at (hg : ∀ s b, BankOp p b s (g s b)) (hl : l.Nodup) (hb : b ∈ l) (hs : s.Canon) :
    ∃ u, u.Canon ∧ BankKept p b s u ∧ BankKept p b (g u b) (l.foldl g s) := by
  induction l generalizing s with
  | nil => exact absurd hb List.not_mem_nil
  | cons c l ih =>
    obtain ⟨hcl, hl⟩ := List.nodup_cons.1 hl
    rcases List.mem_cons.1 hb with rfl | hb
    · exact ⟨s, hs, .refl s, BankOp.foldl_other hg hcl _⟩
    · have hbc : b ≠ c := fun e => hcl (by rwa [← e])
      obtain ⟨u, hu, hkept, hat⟩ := ih hl hb ((hg s c).canon hs)
      exact ⟨u, hu, ((hg s c).kept b hbc).trans hkept, hat⟩

theorem bankQual_apart {p : Fin 64} {b c : Fin 8} (h : c ≠ b) : Reg.DPD_BANK_QUAL p c ≠ Reg.DPD_BANK_QUAL p b := by
  have hne : c.val ≠ b.val := fun e => h (Fin.ext e)
  simp
  omega

theorem lut_ne_bankQual {p : Fin 64} {b c : Fin 8} (k : Fin 8) (i : Fin 65) : Reg.DPD_LUT p c k i ≠ Reg.DPD_BANK_QUAL p b := by
  simp
  omega

/-- Tables of different banks lie apart. -/
theorem lut_ne_lut {p : Fin 64} {b c : Fin 8} (h : c ≠ b) (k : Fin 8) (i : Fin 65) {k' i' : Nat} (hk : k' < 8) (hi : i' < 65) :
    Reg.DPD_LUT p c k i ≠ Reg.DPD_LUT p b k' i' := by
  have hne : c.val ≠ b.val := fun e => h (Fin.ext e)
  simp
  omega

/-- What leaves the pre-distorter's own parts alone, and no register but that of bank `b`. -/
theorem Within.bankOp (h : Within s t [] (· = Reg.DPD_BANK_QUAL p b)) : BankOp p b s t := by
  have hdpd : t.dpd = s.dpd := h.part_eq .dpd
  exact ⟨h.canon, fun c hc => ⟨h.rd (bankQual_apart hc), fun k i => h.rd (lut_ne_bankQual k i), by rw [hdpd], by rw [hdpd]⟩⟩

/-- What changes of the path nothing but what is held of bank `b`. -/
theorem State.setDpd_bankOp (s : State) (f : DpdPath → DpdPath) (hf : ∀ d, ∀ c : Fin 8, c ≠ b → (f d).banks[c] = d.banks[c]) :
    BankOp p b s (s.setDpd p f) where
  canon := (s.setDpd_within p f).canon
  kept c hc := ⟨rfl, fun _ _ => rfl, by rw [State.setDpd_path]; exact hf _ c hc, rfl⟩

theorem State.setBank_eq (s : State) (p : Fin 64) (b : Fin 8) (f : BankSt → BankSt) :
    s.setBank p b f = s.setDpd p fun d => { d with banks := upd d.banks b f } := dif_pos b.isLt

theorem State.setBank_within (s : State) (p : Fin 64) (b : Fin 8) (f : BankSt → BankSt) : Within s (s.setBank p b f) [.dpd] noRegs := by
  rw [State.setBank_eq]
  exact s.setDpd_within p _

theorem State.setBank_bank (s : State) (p : Fin 64) (b : Fin 8) (f : BankSt → BankSt) :
    (s.setBank p b f).dpd.paths[p].banks[b] = f s.dpd.paths[p].banks[b] := by
  rw [State.setBank_eq, State.setDpd_path]
  exact getElem_upd_same ..

theorem State.setBank_bankOp (s : State) (p : Fin 64) (b : Fin 8) (f : BankSt → BankSt) : BankOp p b s (s.setBank p b f) := by
  rw [State.setBank_eq]
  exact s.setDpd_bankOp _ fun _ _ hc => getElem_upd_other _ _ hc

end

end

end Sys2Proof.Machine

namespace Sys2Proof.Machine

section
set_option Elab.async false

/-! ### DPD_UNFREEZE (R298) -/

section
variable {s : State} {p : Fin 64}

/-- A FROZEN bank returns to ACQUIRE (R298). -/
def State.thawBank (s : State) (p : Fin 64) (b : Fin 8) : State :=
  if s.bankState p b = 3 then (s.setBankState p b 1).setBank p b fun x => { x with flat := 0, reverts := 0 } else s

theorem State.unfreezeBanks_eq (s : State) (p : Fin 64) : s.unfreezeBanks p = (List.finRange 8).foldl (fun s b => s.thawBank p b) s := by
  rw [State.unfreezeBanks, ← List.map_coe_finRange_eq_range, List.foldl_map]
  rfl

theorem State.thawBank_within (s : State) (p : Fin 64) (b : Fin 8) : Within s (s.thawBank p b) [.dpd] (· = Reg.DPD_BANK_QUAL p b) :=
  .ite (((s.setBankState_within p b 1).mono fun _ h => h).part (State.setBank_within _ p b _)) (.refl ..)

theorem State.thawBank_bankOp (s : State) (p : Fin 64) (b : Fin 8) : BankOp p b s (s.thawBank p b) := by
  unfold State.thawBank
  split
  · exact (s.setBankState_within p b 1).bankOp.trans (State.setBank_bankOp _ p b _)
  · exact .refl s

theorem State.setBank_otherPath (s : State) {p k : Fin 64} (b : Fin 8) (f : BankSt → BankSt) (h : k ≠ p) :
    (s.setBank p b f).dpd.paths[k] = s.dpd.paths[k] := by
  rw [State.setBank_eq]
  exact s.setDpd_otherPath _ h

theorem State.thawBank_otherPath (s : State) {k : Fin 64} (b : Fin 8) (h : k ≠ p) : (s.thawBank p b).dpd.paths[k] = s.dpd.paths[k] := by
  unfold State.thawBank
  split
  · rw [State.setBank_otherPath _ b _ h, State.setBankState_dpd]
  · rfl

theorem State.thawBank_spec (hs : s.Canon) (b : Fin 8) :
    (s.thawBank p b).bankState p b = (if s.bankState p b = 3 then 1 else s.bankState p b) ∧
    (s.thawBank p b).dpd.paths[p].banks[b] =
      if s.bankState p b = 3 then { s.dpd.paths[p].banks[b] with flat := 0, reverts := 0 } else s.dpd.paths[p].banks[b] := by
  unfold State.thawBank
  split
  · refine ⟨?_, ?_⟩
    · exact ((State.setBank_within _ p b _).fld id 13 12).trans (State.bankState_setBankState hs p b 1)
    · rw [State.setBank_bank, State.setBankState_dpd]
  · exact ⟨rfl, rfl⟩

theorem State.unfreezeBanks_within (s : State) (p : Fin 64) : Within s (s.unfreezeBanks p) [.dpd] (arr 8 (Reg.DPD_BANK_QUAL p)) := by
  rw [State.unfreezeBanks_eq]
  exact .foldl (fun s b => (s.thawBank_within p b).mono fun _ h => ⟨b, b.isLt, h⟩) _ s

theorem State.unfreezeBanks_otherPath (s : State) {k : Fin 64} (h : k ≠ p) : (s.unfreezeBanks p).dpd.paths[k] = s.dpd.paths[k] := by
  rw [State.unfreezeBanks_eq]
  exact List.foldlRecOn (motive := fun u : State => u.dpd.paths[k] = s.dpd.paths[k]) _ _ rfl fun u hu b _ =>
    (u.thawBank_otherPath b h).trans hu

/-- Every FROZEN bank of the path returns to ACQUIRE, and the others stay (R298). -/
theorem State.unfreezeBanks_spec (hs : s.Canon) (b : Fin 8) :
    (s.unfreezeBanks p).bankState p b = (if s.bankState p b = 3 then 1 else s.bankState p b) ∧
    (s.unfreezeBanks p).dpd.paths[p].banks[b] =
      if s.bankState p b = 3 then { s.dpd.paths[p].banks[b] with flat := 0, reverts := 0 } else s.dpd.paths[p].banks[b] := by
  obtain ⟨u, hu, hbefore, hafter⟩ := BankOp.foldl_at (fun s b => s.thawBank_bankOp p b) (List.nodup_finRange 8) (List.mem_finRange b) hs
  obtain ⟨hstate, hbank⟩ := State.thawBank_spec (p := p) hu b
  rw [State.unfreezeBanks_eq, hafter.bankState, hafter.bank, hstate, hbank, hbefore.bankState, hbefore.bank]
  exact ⟨rfl, rfl⟩

theorem ctrl_not_bankQual (p : Fin 64) : ¬ arr 8 (Reg.DPD_BANK_QUAL p) (Reg.DPD_CTRL p) := by
  rintro ⟨i, hi, h⟩
  simp at h
  omega

theorem exec_dpdUnfreeze_spec (hs : s.Canon) (hw : s.writable = true) : ∃ t, exec (.dpdUnfreeze p) s = .next t ∧
    t.bit (Reg.DPD_CTRL p) 24 = true ∧
    (∀ b : Fin 8, t.bankState p b = if s.bankState p b = 3 then 1 else s.bankState p b) ∧ (∀ b : Fin 8,
    t.dpd.paths[p].banks[b] = if s.bankState p b = 3 then { s.dpd.paths[p].banks[b] with flat := 0, reverts := 0 } else s.dpd.paths[p].banks[b]) ∧
    (∀ k : Fin 64, k ≠ p → t.dpd.paths[k] = s.dpd.paths[k]) ∧ Frame s t [.dpd] (fun a => a = Reg.DPD_CTRL p ∨
    arr 8 (Reg.DPD_BANK_QUAL p) a) := by
  have hset := s.setBit_within (Reg.DPD_CTRL p) 24 true
  have hdpd : (s.setBit (Reg.DPD_CTRL p) 24 true).dpd = s.dpd := hset.part_eq .dpd
  have hbit := s.bit_setBit_same (Reg.DPD_CTRL p) 24 true (by decide) hs
  have hstate (b : Fin 8) : (s.setBit (Reg.DPD_CTRL p) 24 true).bankState p b = s.bankState p b := hset.fld (by simp; omega) 13 12
  have hexec : exec (.dpdUnfreeze p) s = .next ((s.setBit (Reg.DPD_CTRL p) 24 true).unfreezeBanks p) := congrArg Host.Outcome.next (if_pos hw)
  generalize s.setBit (Reg.DPD_CTRL p) 24 true = u at hset hdpd hbit hstate hexec
  have hthaw := u.unfreezeBanks_within p
  have hspec (b : Fin 8) := State.unfreezeBanks_spec (p := p) (hset.canon hs) b
  rw [hdpd] at hspec
  refine ⟨_, hexec, (hthaw.bit (ctrl_not_bankQual p) 24).trans hbit, fun b => ?_, fun b => ?_, fun k hk => ?_, ?_⟩
  · rw [(hspec b).1, hstate]
  · rw [(hspec b).2, hstate]
  · rw [u.unfreezeBanks_otherPath hk, hdpd]
  · exact ((hset.mono fun _ => .inl).step hthaw fun _ => .inr).frame

theorem exec_dpdUnfreeze_locked (hw : s.writable = false) : exec (.dpdUnfreeze p) s = .next s :=
  congrArg Host.Outcome.next (if_neg (Bool.eq_false_iff.1 hw))

end

/-! ### A bank returns to SEED (R284, R300) -/

/-- The registers of one bank's table. -/
abbrev tableRegs (p : Fin 64) (b : Fin 8) (a : Nat) : Prop := ∃ k < 8, ∃ i < 65, a = Reg.DPD_LUT p b k i

section
variable (s : State) (p : Fin 64) (b : Fin 8)

/-- An entry of a bank's table by its number 65·m + k (R282). -/
def State.writeEntry (x : Nat × Word) : State := s.wr (Reg.DPD_LUT p b (x.1 / 65) (x.1 % 65)) x.2

/-- A seed of bank `b` whose cluster holds path `p` (R284). -/
def isSeedOf (x : Nat × Nat × Coeffs) : Bool := x.1 = b.val && bitOf x.2.1 p

/-- The table of the bank's seed, or that of an identity where there is no seed (R284). -/
def State.seedTable : Coeffs :=
  match s.dpd.seeds.find? (isSeedOf p b) with
  | some (_, _, x) => x
  | none => identityBank

/-- A table is loaded into a bank (R284). -/
def State.loadTable (lut : Coeffs) : State := (List.zip (List.range 520) lut).foldl (fun s x => s.writeEntry p b x) s

/-- The bank is in SEED, and iter at 0 (R298). -/
def State.clearQual : State := (s.setBankState p b 0).setFld (Reg.DPD_BANK_QUAL p b) 7 0 0

/-- Updates and the shadow of the bank are dropped (R300). -/
def State.dropLearning : State :=
  s.setDpd p fun d =>
    { d with
      updates := d.updates.filter fun u => u.bank != b.val
      shadow := match d.shadow with | some (c, x) => if c = b.val then none else some (c, x) | none => none
      shadowDue := d.shadowDue && (match d.shadow with | some (c, _) => c != b.val | none => false) }

theorem State.seedBank_eq : s.seedBank p b =
    (((s.loadTable p b (s.seedTable p b)).clearQual p b).setBank p b fun _ => {}).dropLearning p b := rfl

theorem State.writeEntry_within (x : Nat × Word) :
    Within s (s.writeEntry p b x) [] (· = Reg.DPD_LUT p b (x.1 / 65) (x.1 % 65)) := s.wr_within _ _

theorem State.loadTable_within (lut : Coeffs) : Within s (s.loadTable p b lut) [] (tableRegs p b) := by
  refine List.foldlRecOn (motive := fun u => Within s u [] (tableRegs p b)) _ _ (.refl ..) fun u hu x hx => ?_
  have hlt : x.1 < 520 := List.mem_range.1 (List.of_mem_zip hx).1
  exact hu.step (u.writeEntry_within p b x) fun a h => ⟨x.1 / 65, by omega, x.1 % 65, Nat.mod_lt _ (by decide), h⟩

theorem State.clearQual_within : Within s (s.clearQual p b) [] (· = Reg.DPD_BANK_QUAL p b) :=
  (s.setBankState_within p b 0).trans (State.setFld_within _ _ 7 0 0)

theorem State.dropLearning_within : Within s (s.dropLearning p b) [.dpd] noRegs := s.setDpd_within p _

/-- What follows the load of a bank's table. -/
theorem State.seedBank_after : Within (s.loadTable p b (s.seedTable p b)) (s.seedBank p b) [.dpd] (· = Reg.DPD_BANK_QUAL p b) := by
  rw [State.seedBank_eq]
  exact (((State.clearQual_within _ p b).mono fun _ h => h).part (State.setBank_within _ p b _)).part (State.dropLearning_within _ p b)

theorem State.seedBank_within : Within s (s.seedBank p b) [.dpd] (fun a => a = Reg.DPD_BANK_QUAL p b ∨ tableRegs p b a) :=
  ((s.loadTable_within p b (s.seedTable p b)).mono fun _ => .inr).step (s.seedBank_after p b) fun _ => .inl

theorem State.loadTable_bankOp (lut : Coeffs) : BankOp p b s (s.loadTable p b lut) := by
  have hload := s.loadTable_within p b lut
  have hdpd : (s.loadTable p b lut).dpd = s.dpd := hload.part_eq .dpd
  refine ⟨hload.canon, fun c hc => ⟨hload.rd ?_, fun k i => hload.rd ?_, by rw [hdpd], by rw [hdpd]⟩⟩
  · rintro ⟨k, hk, i, hi, h⟩
    exact lut_ne_bankQual (p := p) (c := b) ⟨k, hk⟩ ⟨i, hi⟩ h.symm
  · rintro ⟨k', hk, i', hi, h⟩
    exact lut_ne_lut hc k i hk hi h

theorem State.seedBank_bankOp : BankOp p b s (s.seedBank p b) := by
  rw [State.seedBank_eq]
  exact (((s.loadTable_bankOp p b _).trans (State.clearQual_within _ p b).bankOp).trans (State.setBank_bankOp _ p b _)).trans
    (State.setDpd_bankOp _ _ fun _ _ _ => rfl)

variable {s p b}

theorem State.bankState_clearQual (hs : s.Canon) :
    (s.clearQual p b).bankState p b = 0 ∧ (s.clearQual p b).fld (Reg.DPD_BANK_QUAL p b) 7 0 = 0 := by
  have hcanon := (s.setBankState_within p b 0).canon hs
  unfold State.clearQual
  constructor
  · exact (State.fld_setFld_apart hcanon 0 (by decide) (by decide) (by decide) (by decide)).trans (State.bankState_setBankState hs p b 0)
  · exact State.fld_setFld_same hcanon 0 (by decide) (by decide)

/-- A bank that returns to SEED has no updates behind it (R298, R300). -/
theorem State.seedBank_spec (hs : s.Canon) : (s.seedBank p b).bankState p b = 0 ∧
    (s.seedBank p b).fld (Reg.DPD_BANK_QUAL p b) 7 0 = 0 ∧ (s.seedBank p b).dpd.paths[p].banks[b] = {} := by
  obtain ⟨hstate, hiter⟩ := State.bankState_clearQual (p := p) (b := b) ((s.loadTable_within p b (s.seedTable p b)).canon hs)
  have hbank := ((s.loadTable p b (s.seedTable p b)).clearQual p b).setBank_within p b fun _ => {}
  have hafter := hbank.part (State.dropLearning_within _ p b)
  rw [State.seedBank_eq]
  refine ⟨(hafter.fld id 13 12).trans hstate, (hafter.fld id 7 0).trans hiter, ?_⟩
  rw [State.dropLearning, State.setDpd_path]
  exact State.setBank_bank _ p b _

/-- Each entry that is written is read back. -/
theorem State.rd_foldl_writeEntry {l : List (Nat × Word)} (hs : s.Canon) (hl : (l.map Prod.fst).Nodup) {x : Nat × Word} (hx : x ∈ l) :
    (l.foldl (fun s x => s.writeEntry p b x) s).rd (Reg.DPD_LUT p b (x.1 / 65) (x.1 % 65)) = x.2 := by
  induction l generalizing s with
  | nil => exact absurd hx List.not_mem_nil
  | cons y l ih =>
    obtain ⟨hy, hl⟩ := List.nodup_cons.1 hl
    have hwrite := s.writeEntry_within p b y
    rw [List.foldl_cons]
    rcases List.mem_cons.1 hx with rfl | hx
    · have hrest : Within (s.writeEntry p b x) (l.foldl (fun s x => s.writeEntry p b x) (s.writeEntry p b x)) []
          (fun a => ∃ z ∈ l, a = Reg.DPD_LUT p b (z.1 / 65) (z.1 % 65)) :=
        List.foldlRecOn (motive := fun u => Within (s.writeEntry p b x) u [] _) _ _ (.refl ..) fun u hu z hz =>
          hu.step (u.writeEntry_within p b z) fun a h => ⟨z, hz, h⟩
      rw [hrest.rd]
      · exact s.rd_wr_same _ _ hs
      · rintro ⟨z, hz, h⟩
        have hxz : x.1 = z.1 := by
          simp at h
          omega
        exact hy (List.mem_map.2 ⟨z, hz, hxz.symm⟩)
    · exact ih (hwrite.canon hs) hl hx

/-- A bank without a seed takes the identity: 1 in the first table, and 0 in the others (R284). -/
theorem State.rd_seedBank_identity (hs : s.Canon) (h : s.dpd.seeds.find? (isSeedOf p b) = none) (k : Fin 8)
    (i : Fin 65) : (s.seedBank p b).rd (Reg.DPD_LUT p b k i) = if k = 0 then 0x40000000 else 0 := by
  have htable : s.seedTable p b = identityBank := by rw [State.seedTable, h]
  have hlen : identityBank.length = 520 := by simp [identityBank]
  have hnodup : ((List.zip (List.range 520) identityBank).map Prod.fst).Nodup := by
    rw [List.map_fst_zip (by simp [hlen])]
    exact List.nodup_range
  have hk : (65 * k.val + i.val) / 65 = k.val := by omega
  have hi : (65 * k.val + i.val) % 65 = i.val := by omega
  have hmem : (65 * k.val + i.val, if 65 * k.val + i.val < 65 then (0x40000000 : Word) else 0) ∈ List.zip (List.range 520) identityBank := by
    refine List.mem_iff_getElem.2 ⟨65 * k.val + i.val, by simp [hlen]; omega, ?_⟩
    simp [identityBank]
  have hentry := State.rd_foldl_writeEntry (p := p) (b := b) hs hnodup hmem
  rw [hk, hi] at hentry
  rw [(s.seedBank_after p b).rd (lut_ne_bankQual k i), State.loadTable, htable, hentry]
  refine if_congr ?_ rfl rfl
  rw [Fin.ext_iff]
  show _ ↔ k.val = 0
  omega

end

/-! ### DPD_RESET_BANK (R300) -/

section
variable {s : State} {p : Fin 64} {b : Fin 8} {mask : Nat}

/-- The banks that `mask` names return to SEED (R300). -/
def State.seedBanks (s : State) (p : Fin 64) (mask : Nat) : State :=
  (List.finRange 8).foldl (fun s (b : Fin 8) => if bitOf mask b then s.seedBank p b else s) s

theorem State.seedBanks_zero (s : State) (p : Fin 64) : s.seedBanks p 0 = s :=
  List.foldl_fixed' (fun b => if_neg (by simp [bitOf])) _

theorem State.resetBanks_ready (h : s.mode = .ready) : s.resetBanks p mask = s.seedBanks p mask := by
  by_cases h0 : mask = 0
  · rw [h0, State.seedBanks_zero]
    exact if_pos rfl
  · exact (if_neg h0).trans (if_pos h)

theorem State.resetBanks_refused (h0 : mask ≠ 0) (h : s.mode ≠ .ready) : s.resetBanks p mask = s.bump Reg.DPD_REFUSE_CNT :=
  (if_neg h0).trans (if_neg h)

/-- The registers of a path's banks. -/
abbrev bankRegs (p : Fin 64) (a : Nat) : Prop := arr 8 (Reg.DPD_BANK_QUAL p) a ∨ arr3 8 8 65 (fun x y z => Reg.DPD_LUT p x y z) a

theorem State.seedBanks_within (s : State) (p : Fin 64) (mask : Nat) : Within s (s.seedBanks p mask) [.dpd] (bankRegs p) := by
  refine .foldl (fun s b => .ite ((s.seedBank_within p b).mono fun a h => ?_) (.refl ..)) _ s
  rcases h with h | ⟨k, hk, i, hi, h⟩
  · exact .inl ⟨b, b.isLt, h⟩
  · exact .inr ⟨b, b.isLt, k, hk, i, hi, h⟩

theorem State.seedIf_bankOp (s : State) (p : Fin 64) (mask : Nat) (b : Fin 8) : BankOp p b s (if bitOf mask b then s.seedBank p b else s) := by
  split
  · exact s.seedBank_bankOp p b
  · exact .refl s

/-- A named bank is as it returns to SEED, from a state with the same seeds (R300). -/
theorem State.seedBanks_named (hs : s.Canon) (hb : bitOf mask b = true) :
    ∃ u : State, u.Canon ∧ u.dpd.seeds = s.dpd.seeds ∧ BankKept p b (u.seedBank p b) (s.seedBanks p mask) := by
  obtain ⟨u, hu, hbefore, hafter⟩ :=
    BankOp.foldl_at (fun s b => s.seedIf_bankOp p mask b) (List.nodup_finRange 8) (List.mem_finRange b) hs
  rw [if_pos hb] at hafter
  exact ⟨u, hu, hbefore.seeds, hafter⟩

theorem State.seedBanks_unnamed (hs : s.Canon) (hb : bitOf mask b = false) : BankKept p b s (s.seedBanks p mask) := by
  obtain ⟨u, hu, hbefore, hafter⟩ :=
    BankOp.foldl_at (fun s b => s.seedIf_bankOp p mask b) (List.nodup_finRange 8) (List.mem_finRange b) hs
  rw [if_neg (Bool.eq_false_iff.1 hb)] at hafter
  exact hbefore.trans hafter

/-- The bits of reset_bank that are written as 1 are set; that they stay set is the model's reading of R5 (SPEC.md, entry 115). -/
theorem State.fld_resetBits (hs : s.Canon) (m : BitVec 8) :
    (s.setFld (Reg.DPD_CTRL p) 15 8 (s.fld (Reg.DPD_CTRL p) 15 8 ||| m.toNat)).fld (Reg.DPD_CTRL p) 15 8 =
      (s.fld (Reg.DPD_CTRL p) 15 8 ||| m.toNat) := by
  have hold : s.fld (Reg.DPD_CTRL p) 15 8 < 2 ^ 8 := fldOf_lt _ 15 8
  rw [State.fld_setFld_same hs _ (by decide) (by decide)]
  exact Nat.mod_eq_of_lt (Nat.or_lt_two_pow hold m.isLt)

theorem exec_dpdResetBank (m : BitVec 8) (hw : s.writable = true) : exec (.dpdResetBank p m) s =
    .next ((s.setFld (Reg.DPD_CTRL p) 15 8 (s.fld (Reg.DPD_CTRL p) 15 8 ||| m.toNat)).resetBanks p m.toNat) :=
  congrArg Host.Outcome.next (if_pos hw)

theorem exec_dpdResetBank_locked (m : BitVec 8) (hw : s.writable = false) : exec (.dpdResetBank p m) s = .next s :=
  congrArg Host.Outcome.next (if_neg (Bool.eq_false_iff.1 hw))

theorem ctrl_not_bankRegs (p : Fin 64) : ¬ bankRegs p (Reg.DPD_CTRL p) := by
  rintro (h | ⟨x, hx, y, hy, z, hz, h⟩)
  · exact ctrl_not_bankQual p h
  · simp at h
    omega

theorem exec_dpdResetBank_spec (hs : s.Canon) (m : BitVec 8) (hw : s.writable = true) (hm : s.mode = .ready) : ∃ t,
    exec (.dpdResetBank p m) s = .next t ∧
    t.fld (Reg.DPD_CTRL p) 15 8 = (s.fld (Reg.DPD_CTRL p) 15 8 ||| m.toNat) ∧ (∀ b : Fin 8, bitOf m.toNat b = true →
    t.bankState p b = 0 ∧ t.fld (Reg.DPD_BANK_QUAL p b) 7 0 = 0 ∧ t.dpd.paths[p].banks[b] = {}) ∧ (∀ b : Fin 8,
    bitOf m.toNat b = true → (s.dpd.seeds.any fun (c, m, _) => c = b.val && bitOf m p) = false → ∀ (k : Fin 8) (i : Fin 65),
    t.rd (Reg.DPD_LUT p b k i) = if k = 0 then 0x40000000 else 0) ∧ (∀ b : Fin 8, bitOf m.toNat b = false →
    t.rd (Reg.DPD_BANK_QUAL p b) = s.rd (Reg.DPD_BANK_QUAL p b) ∧ t.dpd.paths[p].banks[b] = s.dpd.paths[p].banks[b]) ∧
    Frame s t [.dpd] (fun a => a = Reg.DPD_CTRL p ∨ arr 8 (Reg.DPD_BANK_QUAL p) a ∨
    arr3 8 8 65 (fun x y z => Reg.DPD_LUT p x y z) a) := by
  have hset := s.setFld_within (Reg.DPD_CTRL p) 15 8 (s.fld (Reg.DPD_CTRL p) 15 8 ||| m.toNat)
  have hbits := State.fld_resetBits (p := p) hs m
  have hexec := exec_dpdResetBank (p := p) m hw
  generalize s.setFld (Reg.DPD_CTRL p) 15 8 (s.fld (Reg.DPD_CTRL p) 15 8 ||| m.toNat) = v at hset hbits hexec
  have hmode : v.mode = s.mode := hset.part_eq .mode
  have hdpd : v.dpd = s.dpd := hset.part_eq .dpd
  have hcanon := hset.canon hs
  have hseed := v.seedBanks_within p m.toNat
  rw [State.resetBanks_ready (hmode.trans hm)] at hexec
  refine ⟨_, hexec, (hseed.fld (ctrl_not_bankRegs p) 15 8).trans hbits, fun b hb => ?_, fun b hb hno k i => ?_, fun b hb => ?_,
    ((hset.mono fun _ => .inl).step hseed fun _ => .inr).frame⟩
  · obtain ⟨u, hu, -, hkept⟩ := State.seedBanks_named (p := p) hcanon hb
    obtain ⟨hstate, hiter, hbank⟩ := State.seedBank_spec (p := p) (b := b) hu
    refine ⟨hkept.bankState.trans hstate, ?_, hkept.bank.trans hbank⟩
    rw [State.fld, hkept.qual]
    exact hiter
  · obtain ⟨u, hu, hseeds, hkept⟩ := State.seedBanks_named (p := p) hcanon hb
    rw [hkept.lut]
    refine State.rd_seedBank_identity hu ?_ k i
    rw [hseeds, hdpd]
    exact List.find?_eq_none.2 fun ⟨c, m, lut⟩ hx => List.any_eq_false.1 hno (c, m, lut) hx
  · have hkept := State.seedBanks_unnamed (p := p) hcanon hb
    exact ⟨hkept.qual.trans (hset.rd (by simp; omega)), hkept.bank.trans (by rw [hdpd])⟩

/-- Outside READY a write of reset_bank is refused and counted, and its bits are set all the same (R5, R300). -/
theorem exec_dpdResetBank_refused (hs : s.Canon) (m : BitVec 8) (hw : s.writable = true) (hm : s.mode ≠ .ready) (h0 : m ≠ 0) : ∃ t,
    exec (.dpdResetBank p m) s = .next t ∧ Counted s t Reg.DPD_REFUSE_CNT 1 ∧
    t.fld (Reg.DPD_CTRL p) 15 8 = (s.fld (Reg.DPD_CTRL p) 15 8 ||| m.toNat) ∧
    Frame s t [] (fun a => a = Reg.DPD_REFUSE_CNT ∨ a = Reg.DPD_CTRL p) := by
  have hset := s.setFld_within (Reg.DPD_CTRL p) 15 8 (s.fld (Reg.DPD_CTRL p) 15 8 ||| m.toNat)
  have hbits := State.fld_resetBits (p := p) hs m
  have hexec := exec_dpdResetBank (p := p) m hw
  generalize s.setFld (Reg.DPD_CTRL p) 15 8 (s.fld (Reg.DPD_CTRL p) 15 8 ||| m.toNat) = v at hset hbits hexec
  have hmode : v.mode = s.mode := hset.part_eq .mode
  have hmask : m.toNat ≠ 0 := fun h => h0 (BitVec.eq_of_toNat_eq h)
  have hapart : Reg.DPD_CTRL p ≠ Reg.DPD_REFUSE_CNT := by simp; omega
  have hbump := v.bump_within Reg.DPD_REFUSE_CNT
  rw [State.resetBanks_refused hmask (by rw [hmode]; exact hm)] at hexec
  exact ⟨_, hexec, hset.counted_after (State.bump_counted _ _ (hset.canon hs)) hapart.symm, (hbump.fld hapart 15 8).trans hbits,
    ((hset.mono fun _ => .inr).step hbump fun _ => .inl).frame⟩

end

/-! ### O18 -/

/-- Settles O18: captures by the path and the level, the figures and the state of a bank by what each step of a good capture keeps, and
freeze, unfreeze and reset bank by bank. The bits of unfreeze and reset_bank that stay set are the model's choice (SPEC.md, entry 115). -/
theorem capturesUpdatesAndBankControl : Obligations.CapturesUpdatesAndBankControl := by
  intro s hs
  refine ⟨fun l v hv hair hb hle hns hc hu => exec_dpdCaptureStart_spec hs hv hair hb hle hns hc hu, fun l h => exec_dpdCaptureStart_idle h,
    fun l o v hv hc hd ho => exec_dpdCaptureEnd_clipped_spec hs hv hc hd ho,
    fun l o v hv hc hd ho => exec_dpdCaptureEnd_good_spec hs hv hc hd ho rfl, fun l o v hv hc hd => ?_,
    fun l o h => exec_dpdCaptureEnd_idle h, fun p b u hu ha h0 h3 => exec_dpdUpdateReady_spec hs hu ha h0 h3,
    fun p b h => exec_dpdUpdateReady_drops h, fun p b h => exec_dpdUpdateReady_none h, fun p b hw => exec_dpdFreeze_spec hs b hw,
    fun p b hw => exec_dpdFreeze_locked b hw, fun p hw => exec_dpdUnfreeze_spec hs hw, fun p hw => exec_dpdUnfreeze_locked hw,
    fun p m hw hm => exec_dpdResetBank_spec hs m hw hm, fun p m hw hm h0 => exec_dpdResetBank_refused hs m hw hm h0,
    fun p m hw => exec_dpdResetBank_locked m hw⟩
  exact ⟨_, exec_dpdCaptureEnd_dropped hv hc hd, rfl, (s.setVisit_within l _).frame⟩

end

end Sys2Proof.Machine
